-- ==== Sys2Proof/Word.lean ====
section
/-! DEFINITION. The word types of the module: a 32-bit register word and a byte (00 R5, 04 R122). -/

namespace Sys2Proof

/-- A register word: every register of BAR0 is 32 bits wide (04 R122). -/
abbrev Word := BitVec 32

/-- A byte of a ring descriptor, a parameter block or the FRAM. -/
abbrev Byte := BitVec 8

end Sys2Proof
end

