-- ==== Sys2Proof/Machine/Bits.lean ====
section
/-! DEFINITION. Bit-field, sign, byte-order, checksum and sequence-number helpers that every chapter's operations
use (00 R4, R5; 01 R27; 03 R105). -/

namespace Sys2Proof.Machine

/-- Bits [lsb + w − 1 : lsb] of `v`. -/
def bits (v lsb w : Nat) : Nat := v / 2 ^ lsb % 2 ^ w

/-- Bit `i` of `v`. -/
def bit (v i : Nat) : Bool := v.testBit i

/-- 1 for true. -/
def b2n (b : Bool) : Nat := if b then 1 else 0

/-- The field [lsb + w − 1 : lsb] of `v` replaced by the low `w` bits of `x`. -/
def setBits (v lsb w x : Nat) : Nat :=
  v - bits v lsb w * 2 ^ lsb + x % 2 ^ w * 2 ^ lsb

/-- The `w`-bit value `v` read as two's complement. -/
def toInt (w v : Nat) : Int :=
  let u := v % 2 ^ w
  if u < 2 ^ (w - 1) then (u : Int) else (u : Int) - (2 ^ w : Nat)

/-- An integer as `w`-bit two's complement. -/
def ofInt (w : Nat) (i : Int) : Nat := (i % ((2 ^ w : Nat) : Int)).toNat

/-- An integer saturated to the range of `w`-bit two's complement, as its `w` bits. -/
def satInt (w : Nat) (i : Int) : Nat :=
  let hi : Int := (2 ^ (w - 1) : Nat) - 1
  let lo : Int := -((2 ^ (w - 1) : Nat) : Int)
  ofInt w (if i > hi then hi else if i < lo then lo else i)

/-- A count saturated at `w` bits. -/
def satNat (w n : Nat) : Nat := min n (2 ^ w - 1)

/-- 01 R27: `a` is newer than `b` when it lies ahead of it by 1 to 2^(w−1) − 1, modulo 2^w. -/
def seqNewer (w a b : Nat) : Bool :=
  let d := (a + 2 ^ w - b % 2 ^ w) % 2 ^ w
  decide (1 ≤ d ∧ d < 2 ^ (w - 1))

/-- 00 R4: the signed 64-bit difference of two compact times. -/
def ctDiff (a b : Nat) : Int := toInt 64 (a + 2 ^ 64 - b % 2 ^ 64)

/-- The byte at offset `i` of a byte list, 0 beyond its end. -/
def byteAt (l : List Byte) (i : Nat) : Nat := (l.getD i 0).toNat

/-- The little-endian value of `n` bytes at offset `i` (00 R5). -/
def leAt (l : List Byte) (i : Nat) : Nat → Nat
  | 0 => 0
  | n + 1 => byteAt l i + 256 * leAt l (i + 1) n

/-- The big-endian value of `n` bytes at offset `i`: fields carried on a link (00 R5). -/
def beAt (l : List Byte) (i : Nat) : Nat → Nat
  | 0 => 0
  | n + 1 => byteAt l i * 256 ^ n + beAt l (i + 1) n

/-- The `n` little-endian bytes of `v`. -/
def leBytes : Nat → Nat → List Byte
  | 0, _ => []
  | n + 1, v => BitVec.ofNat 8 v :: leBytes n (v / 256)

/-- The `n` big-endian bytes of `v`. -/
def beBytes (n v : Nat) : List Byte := (leBytes n v).reverse

/-- Whether `n` bytes from offset `i` are all 0: a reserved range (00 R8). -/
def zeroBytes (l : List Byte) (i : Nat) : Nat → Bool
  | 0 => true
  | n + 1 => byteAt l i == 0 && zeroBytes l (i + 1) n

/-- One bit step of the reflected CRC-32 of IEEE 802.3. -/
def crcBit (c : BitVec 32) : BitVec 32 :=
  if c.getLsbD 0 then (c >>> 1) ^^^ 0xEDB88320#32 else c >>> 1

/-- One byte step of the CRC-32. -/
def crcByte (c : BitVec 32) (b : Byte) : BitVec 32 :=
  let c := c ^^^ b.setWidth 32
  crcBit (crcBit (crcBit (crcBit (crcBit (crcBit (crcBit (crcBit c)))))))

/-- CRC-32 with the IEEE 802.3 polynomial over a byte list (03 R105). -/
def crc32 (l : List Byte) : Nat := ((l.foldl crcByte 0xFFFFFFFF#32) ^^^ 0xFFFFFFFF#32).toNat

/-- CCITT CRC-16 step with polynomial 0x1021, most significant bit first. -/
def crc16Byte (c : Nat) (b : Byte) : Nat :=
  (List.range 8).foldl
    (fun c _ => if c.testBit 15 then (c * 2 % 65536) ^^^ 0x1021 else c * 2 % 65536) (c ^^^ (b.toNat * 256))

end Sys2Proof.Machine
end

