-- ==== Sys2Proof/Machine/Types.lean ====
section
/-! DEFINITION. The data types that commands carry and the state holds. -/

namespace Sys2Proof.Machine

open Sys2Proof

/-- 04 R137: a submission as the module has read it: the descriptor's fields other than OPCODE, its place, and the
parameter block of R154 (`none` where the block could not be read). `at0` is how far into its pick cycle the module accepts it
(01 R20 to R23). -/
structure Submission where
  ring  : Nat
  index : Nat
  flags : Byte := 0
  tag   : BitVec 16 := 0
  p0    : BitVec 32 := 0
  time  : BitVec 64 := 0
  p1    : BitVec 64 := 0
  p2    : BitVec 64 := 0
  block : Option (List Byte) := some []
  at0   : Nat := 0
  deriving DecidableEq, Repr

/-- 04 R137, R5: the submission in a descriptor's 32 bytes, little-endian; byte 0 is its opcode. -/
def Submission.ofDesc (ring index : Nat) (l : List Byte) (block : Option (List Byte)) (at0 : Nat) : Submission :=
  { ring := ring, index := index, flags := l.getD 1 0, tag := BitVec.ofNat 16 (leAt l 2 2), p0 := BitVec.ofNat 32 (leAt l 4 4),
    time := BitVec.ofNat 64 (leAt l 8 8), p1 := BitVec.ofNat 64 (leAt l 16 8), p2 := BitVec.ofNat 64 (leAt l 24 8),
    block := block, at0 := at0 }

/-- An accepted command: its opcode and submission, the boundary at which it acts, whether that is late (01 R22), and
whether it has begun to act without having completed (04 R164). `era` counts the losses of the link before its acceptance:
04 R130 loses the completion of a command accepted before a loss. -/
structure Cmd where
  op       : Nat
  sub      : Submission
  boundary : Nat
  late     : Bool := false
  begun    : Bool := false
  era      : Nat := 0
  deriving DecidableEq, Repr

/-- The name of an accepted command: its era, ring and index. -/
def Cmd.key (c : Cmd) : Nat × Nat × Nat := (c.era, c.sub.ring, c.sub.index)

/-- 04 R138: a completion as written to host memory. -/
structure Completion where
  status  : BitVec 16
  sqIndex : Nat
  result  : Nat
  cflags  : BitVec 8
  tag     : BitVec 16
  time    : BitVec 64
  q1      : BitVec 64
  q2      : BitVec 64
  deriving DecidableEq, Repr

/-- 04 R138, R5: the 32 bytes of a completion, little-endian. -/
def Completion.bytes (c : Completion) : List Byte :=
  leBytes 2 c.status.toNat ++ leBytes 2 c.sqIndex ++ leBytes 1 c.result ++ leBytes 1 c.cflags.toNat ++ leBytes 2 c.tag.toNat ++
    leBytes 8 c.time.toNat ++ leBytes 8 c.q1.toNat ++ leBytes 8 c.q2.toNat

/-- 04 R163: a pending record of a full EVENT ring: one code and source, the first time, the last detail, the count. -/
structure EventRec where
  code   : Nat
  src    : Nat
  detail : Nat
  time   : Nat
  count  : Nat
  deriving DecidableEq, Repr

/-- 04 R146: a posted receive buffer. -/
structure RxBuf where
  index : Nat
  tag   : BitVec 16
  len   : Nat
  addr  : Nat
  deriving DecidableEq, Repr

/-- The BAR2 side of one ring pair (04 R131 to R139, R161, R163, R168). `ended` and `notRx` count the frames of this pick cycle for R611;
`stopping`: a RING_SET DISABLE waits for begun commands (R164). -/
structure RingSt where
  sqTail   : Nat := 0
  sqHead   : Nat := 0
  cqHead   : Nat := 0
  cqTail   : Nat := 0
  phase    : Bool := true
  armed    : Option Nat := none
  posted   : List RxBuf := []
  rxQueue  : List Nat := []
  draining : Bool := false
  pending  : List EventRec := []
  episode  : Bool := false
  ended    : Nat := 0
  notRx    : Nat := 0
  logLost  : Nat := 0
  stopping : Bool := false
  deriving DecidableEq, Repr

/-- 02 R47: the VIO range detected when VIO rose. -/
inductive Vio where
  | absent | v1p8 | v3p3
  deriving DecidableEq, Repr

/-- The supply state of the module (02 R46, R49, R50, R74). -/
inductive Supply where
  /-- VIN below brown-out release, or not yet risen -/
  | off
  /-- ENABLE low -/
  | standby
  /-- converters running -/
  | on
  /-- brown-out asserted; powered down -/
  | brownOut
  /-- thermal shutdown, held until ENABLE or VIN cycles -/
  | thermal
  deriving DecidableEq, Repr

/-- 02 R77: the instruction the test access port executes. -/
inductive TapInstr where
  | bypass | idcode | samplePreload | extest | clamp | highz
  deriving DecidableEq, Repr

/-- The test access port: its instruction, the boundary register's captured and driven cells, the last word shifted out. -/
structure Tap where
  instr    : TapInstr := .idcode
  boundary : List Bool := []
  driven   : List Bool := []
  tdo      : List Bool := []
  deriving DecidableEq, Repr

/-- The ten reset domains (03 R83), in the order of RST_DOMAIN.HELD after AON. -/
inductive Domain where
  | aon | nvs | timing | syn | groomA | groomB | core | lanes | engines | ports
  deriving DecidableEq, Repr

/-- A domain's bit in RST_DOMAIN (03 R115); AON has none. -/
def Domain.bit : Domain → Nat
  | .aon => 9 | .nvs => 0 | .timing => 1 | .syn => 2 | .groomA => 3 | .groomB => 4 | .core => 5 | .lanes => 6 | .engines => 7 | .ports => 8

/-- 03 R92: the place of a domain in the release order. -/
def Domain.order : Domain → Nat
  | .aon => 1 | .nvs => 3 | .timing => 4 | .syn => 5 | .groomA => 6 | .groomB => 6 | .core => 6 | .lanes => 7 | .engines => 8 | .ports => 9

/-- 03 R92: a release, with what its gate finds: the STRAP reading in ohms (none: open) and whether the fuse check word is right; which
crystals pass R89. `one` releases a single domain after a reset of its own, or out of reset extension; `elem` an element whose clock had
failed (R87). -/
inductive Release where
  | aon
  | options (ohms : Option Nat) (trimsOk : Bool)
  | nvs
  | timing (main spare : Bool)
  | syn
  | core
  | lanes
  | engines
  | ports
  | one (d : Domain)
  | elem (d : Domain) (i : Nat)
  deriving DecidableEq, Repr

/-- 03 R107, R111: the data of one tack-room slot, and whether it reads back as written. -/
structure SlotData where
  data : List Byte := []
  good : Bool := false
  deriving DecidableEq, Repr

/-- A host write to a register: its value, and the W1C bits that the module sets in the same register cycle (00 R7; log entry 11). -/
structure RegWr where
  v    : BitVec 32
  same : BitVec 32 := 0
  deriving DecidableEq, Repr

/-- A write into host memory for a ring, which the PCIe link may fail (04 R127; log entry 78). -/
structure HostWr where
  ring : Nat
  bad  : Bool := false
  deriving DecidableEq, Repr

/-- An entry of a submission ring (04 R131). -/
structure SqEntry where
  ring  : Nat
  index : Nat
  deriving DecidableEq, Repr

/-- What the module has read of a submission: its descriptor and its parameter block, `none` where the read failed, and how far into its pick
cycle it accepts it (04 R137, R154; 01 R20). -/
structure Fetched where
  desc  : Option (List Byte)
  block : Option (List Byte) := none
  at0   : Nat := 0
  deriving DecidableEq, Repr

/-- 05 R175, R177: what a lane's receiver gains: block lock, marker lock, the deskew of its port; and what it has adapted to
(LANE_EQ_STATUS). -/
structure LockGain where
  block  : Bool := true
  marker : Bool := true
  deskew : Bool := true
  eq     : Nat := 0
  deriving DecidableEq, Repr

/-- 05 R177, 06 R217: a lane that loses block lock, or marker lock alone, and the bytes received before of the frame that its port is
receiving. -/
structure LockLoss where
  lane  : Nat
  block : Bool := true
  rx    : List Byte := []
  deriving DecidableEq, Repr

/-- 03 R109: a commit record. LENGTH and DATA_CRC are those of the slot's data when it was written; `check` is its CRC field as stored. -/
structure CommitRec where
  slot      : Nat
  seq       : Nat
  length    : Nat
  crc       : Nat
  ledgerSeq : Nat
  suspect   : Bool := false
  check     : Nat := 0
  deriving DecidableEq, Repr

/-- 03 R105: a ledger record; `check` is its CRC field as stored. -/
structure LedgerRec where
  seq      : Nat
  boot     : Nat
  step     : Nat
  outcome  : Nat
  fallback : Nat
  cause    : Nat
  ntSec    : Nat
  uptime   : Nat
  detail   : Nat
  check    : Nat := 0
  deriving DecidableEq, Repr

/-- 03 R110: a store write in progress. `kind` is 1 image, 2 calibration, 3 configuration; `apply` is CFG_WRITE's APPLY. -/
structure StoreJob where
  kind  : Nat
  slot  : Nat
  data  : List Byte
  apply : Bool := false
  sub   : Option Cmd := none
  ledgerSeq : Option Nat := none
  deriving DecidableEq, Repr

/-! ### Frames (chapters 6 to 9) -/

/-- Where a decision sends a frame (07 R289; 08 R333, R334): `mask` is a node copy or port copies at one output node. -/
inductive Dest where
  | none
  | port (p : Nat)
  | group (g : Nat)
  | ring (q : Nat)
  | recirc
  | mask (node : Nat) (ports : List Nat)
  deriving DecidableEq, Repr

/-- Where a copy of a frame is. -/
inductive Stage where
  /-- a launch frame whose buffer is not yet read (06 R251) -/
  | unread
  /-- being received, its head not yet given to a heddle -/
  | receiving
  /-- its head waits at its node for a heddle (07 R261) -/
  | head
  /-- its head is in heddle `h` -/
  | heddle (h : Nat)
  /-- decided; in the beam of its node (07 R264) -/
  | beam
  /-- in its ingress queue, in the stalls or the hayloft (08 R324) -/
  | ingress
  /-- a woven frame waiting for its cycle (08 R343) -/
  | woven
  /-- its first shuttle has left its input node -/
  | loom
  /-- whole at its output node, not yet placed (08 R320) -/
  | joined
  /-- a port copy waiting for admission (08 R335) -/
  | admission
  /-- in the class queue of its egress port (09 R351) -/
  | egress
  /-- at its egress port, waiting for its launch time or departure (06 R252, 08 R343) -/
  | launch
  /-- in transmission -/
  | sending
  /-- in a host ring's delivery queue (04 R161) -/
  | ring
  deriving DecidableEq, Repr

/-- 07 R273: what the heddles decided that only the frame's receive checks settle: the discard fate, the mirror session with
its metadata, the malformed copy, and whether the source is learnt. -/
structure After where
  fate   : Option Nat := none
  mirror : Option (Nat × Nat) := none
  malf   : Bool := false
  learn  : Bool := false
  deriving DecidableEq, Repr

/-- One copy of a frame. -/
structure Frame where
  /-- ingress port: the ledger it belongs to -/
  port     : Nat
  /-- ingress timestamp -/
  tin      : Nat
  /-- time quality was below its floor when it was taken (06 R243) -/
  tinDeg   : Bool := false
  stage    : Stage
  /-- network time that has run since it entered the module (08 R327, 01 R630) -/
  age      : Nat := 0
  /-- its place among the frames of its queue -/
  order    : Nat := 0
  /-- bytes as received, without the FCS -/
  data     : List Byte := []
  /-- L, FCS included (06 R214) -/
  len      : Nat := 0
  /-- its FCS as received -/
  tail     : List Byte := []
  /-- its last byte has arrived -/
  whole    : Bool := false
  /-- bytes that have arrived, until it is whole -/
  arrived  : Nat := 0
  /-- cause of a bad ending: 0 FCS, 1 oversize, 2 PCS, 3 internal (06 R223, 08 R341) -/
  bad      : Option Nat := none
  /-- entered in the ledger (17 R597) -/
  inLedger : Bool := true
  /-- admitted by the halter at its first byte (08 R330) -/
  stored   : Bool := true
  /-- its first byte arrived during a port reset (06 R249) -/
  flushed  : Bool := false
  /-- stored in its port's headroom reserve (08 R332) -/
  reserve  : Bool := false
  /-- receive filter entries in force at its timestamp, words 0 to 2 (06 R232) -/
  filters  : List (Nat × Nat × Nat) := []
  /-- MAX_FRAME in force at its first byte (06 R255) -/
  maxFrame : Nat := 0
  vid      : Nat := 0
  prio     : Nat := 0
  /-- MATCH_ID of its filter, and the MATCH_ID to be reported (07 R289) -/
  filterId : Nat := 0
  matchId  : Nat := 0
  /-- ring of the filter's COPY (06 R230) -/
  copyTo   : Option Nat := none
  gen      : Nat := 0
  pass     : Nat := 1
  hseq     : Option Nat := none
  meta4    : Nat := 0
  /-- passes its heddle unexamined (07 R265) -/
  direct   : Bool := false
  dest     : Dest := .none
  tc       : Nat := 0
  setPcp   : Option Nat := none
  setDei   : Option Nat := none
  setVid   : Option Nat := none
  stream   : Option Nat := none
  wovenTo  : Option Nat := none
  cut      : Bool := false
  after    : After := {}
  /-- R-TAG sequence number, and whether this module generated it (09 R365, R367) -/
  rtag     : Option Nat := none
  made     : Bool := false
  rtagIns  : Bool := false
  rtagRem  : Bool := false
  /-- mirror copy: Q2 of its completion and whether it was truncated -/
  mirror   : Option (Nat × Bool) := none
  /-- TS_ID of a host frame with TS_REQ -/
  tsId     : Option Nat := none
  /-- its FRAME_TX submission: ring and index -/
  cmd      : Option (Nat × Nat × Nat) := none
  /-- when its buffer was read -/
  readAt   : Nat := 0
  /-- launch time, or a woven frame's departure -/
  launch   : Option Int := none
  isLaunch : Bool := false
  /-- the pick cycle chosen for a woven frame; once joined, the pick cycle in which it was -/
  cycle    : Nat := 0
  /-- the frame a copy was made from, for the record row (08 R315) -/
  root     : Nat := 0
  /-- bytes that have left the input node, and bytes released at the output node -/
  sent     : Nat := 0
  got      : Nat := 0
  spilled  : Bool := false
  /-- time counted by the port copy's timer (08 R335) -/
  waited   : Nat := 0
  /-- transmit timestamp -/
  txAt     : Nat := 0
  /-- time quality was below its floor when it was taken (06 R243) -/
  txDeg    : Bool := false
  /-- bytes counted as transmitted in earlier pick cycles (09 R360) -/
  txDone   : Nat := 0
  /-- launched later than its launch time (04 R148) -/
  late     : Bool := false
  deriving DecidableEq, Repr

/-- Where a shuttle is: at its intermediate, crossing the weft, or held by the reed. -/
inductive Place where
  | inter | weft | reed
  deriving DecidableEq, Repr

/-- 08 R312: one shuttle: its header fields and the frame segments it carries, as (frame, bytes). -/
structure Shuttle where
  src    : Nat
  dst    : Nat
  seq    : Nat
  via    : Nat
  place  : Place := .inter
  cycle  : Nat
  pick   : Nat
  starts : Nat := 0
  cont   : Bool := false
  cut    : Bool := false
  fin    : Bool := false
  poison : Bool := false
  woven  : Bool := false
  serial : Nat := 0
  segs   : List (Nat × Nat) := []
  deriving DecidableEq, Repr

/-- Per (source, output) pair: the next SEQ and SERIAL sent, the reed's next, and the SEQ last reported (08 R314, R316). -/
structure Pair where
  seq    : Nat := 0
  serial : Nat := 0
  next   : Nat := 0
  told   : Nat := 0
  deriving DecidableEq, Repr

/-- 08 R315: a record row in use: its source node, its frame, and the output nodes whose copies are not yet reported. -/
structure Row where
  node : Nat
  root : Nat
  wait : List Nat
  deriving DecidableEq, Repr

/-- 06 R237: a shed: BASE_TIME, CYCLE_NS and its entries as (GATES, DURATION). -/
structure Shed where
  base    : Nat
  cycleNs : Nat
  entries : List (Nat × Nat)
  deriving DecidableEq, Repr

/-- 06 R245, R246: one bobbin entry. -/
structure BobbinEntry where
  tsId    : Nat
  time    : Nat
  oneStep : Bool := false
  late    : Bool := false
  notSent : Option Nat := none
  degraded : Bool := false
  deriving DecidableEq, Repr

/-- 06 R232, R255: the receive filter entries and the MAX_FRAME of a port until a boundary. -/
structure MacWas where
  till     : Nat
  filters  : List (Nat × Nat × Nat)
  maxFrame : Nat
  deriving DecidableEq, Repr

/-- 06 R235: a control frame to be sent or sent: its opcode, class vector and time. -/
structure Ctl where
  port   : Nat
  opcode : Nat
  vec    : Nat
  time   : Nat
  deriving DecidableEq, Repr

/-- 09 R355: the deficit round robin of a port: per class deficit and fresh, per level pointer. -/
structure Drr where
  deficit : List Nat := List.replicate 8 0
  stale   : List Bool := List.replicate 8 false
  pointer : List Nat := List.replicate 8 0
  deriving DecidableEq, Repr

/-- One entry of the forwarding database (07 R276). `idle` counts the ageing evaluations since it was last seen as a source;
`born` is the pick cycle in which learning last made or moved it, `was` the port it had before (07 R278). -/
structure FdbEntry where
  vid    : Nat
  mac    : Nat
  port   : Nat
  static : Bool
  idle   : Nat := 0
  born   : Option Nat := none
  was    : Option Nat := none
  deriving DecidableEq, Repr

/-- 07 R292, R297: a command of the rule writer: RULE_WRITE's entries yet to be written, or a clear at position `at0`; the pick cycle in which the
writer last wrote for it. -/
structure RuleJob where
  cmd     : Cmd
  gen     : Nat
  mem     : Nat
  entries : List (Nat × List Byte)
  clear   : Bool := false
  at0     : Nat := 0
  wrote   : Option Nat := none
  deriving DecidableEq, Repr

/-- 07 R301: a heddle's command under way: 0 LOAD (with its image), 1 DISABLE, 2 ENABLE. -/
structure HedJob where
  kind  : Nat
  image : List Byte
  cmd   : Cmd
  deriving DecidableEq, Repr

/-! ### Timebase, synthesis and outputs (chapters 10 to 12) -/

/-- 10 R391: what a TDC delivers for one event: the value of the second STCLK edge after it, its raw code, and the codes of
the calibration pair taken before it. -/
structure TdcEdge where
  e  : Nat
  c  : Nat
  c1 : Nat
  c2 : Nat
  deriving DecidableEq, Repr

/-- 10 R395, R396: one half of a tap's raw sample: the edge, the line bits since the marker, the edges counted. -/
structure TapHalf where
  edge   : TdcEdge
  bitpos : Nat
  cycles : Nat
  deriving DecidableEq, Repr

/-- 12 R470: a running treadle programme: E_0 and PERIOD_NS in units, the index of the next edge, and the index after the
last edge (none where the programme never ends). -/
structure Trd where
  start  : Int
  period : Nat
  k      : Nat
  stop   : Option Nat
  deriving DecidableEq, Repr

/-- 12 R462: a CLKOUT's grid: the anchor, and the divider, delay and multiplier in force. -/
structure ClkOut where
  anchor : Nat
  div    : Nat
  delay  : Nat
  mult   : Nat
  deriving DecidableEq, Repr

/-- 12 R465 to R469: a running pulse output. `offset` is the time counter less the network time that has run at its anchor;
`next` its next intended instant; `period` and `delay` those in force; `newPeriod`, `newDelay` and `width` those its configuration last
gave (R469, R478); `highEnd` when its last pulse ends; `last` the intended instant whose TODOUT message is due. -/
structure PulseOut where
  offset  : Int
  next    : Nat
  period  : Nat
  delay   : Int
  newPeriod : Nat
  newDelay  : Int
  width   : Nat
  highEnd : Nat := 0
  last    : Option Nat := none
  deriving DecidableEq, Repr

/-- 12 R455, R456: where a synthesiser's guarded relock stands. -/
inductive SynStage where
  /-- not relocking -/
  | idle
  /-- waiting for lock; `retry` in an attempt after the first -/
  | locking (retry : Bool)
  /-- locked; its output frequency is being checked -/
  | checking (retry : Bool)
  /-- passed at an instant; it returns at the next whole microsecond -/
  | passed (at0 : Nat)
  deriving DecidableEq, Repr

/-- 10 R402, R403: one edge of an instrument channel: its index, its timestamp where it was converted, the crystal-scale integral
there, and whether its calibration was out of range. -/
structure MiEdge where
  idx  : Nat
  time : Option Nat
  acc  : Int := 0
  cal  : Bool := false
  deriving DecidableEq, Repr

/-- 10 R398 to R409: an instrument channel: the words of MEAS_CH_CFG, GATE and ARM in force, the prescaler's residue, edges
counted, the last converted edge, edges that await their pair, the arming, the open gate with its first and last converted edge and
the count at its start, and the records held with the next SEQ and whether one was lost. Of a start channel: network time less elapsed time when it
was armed (01 R630), and the last stray stop and start, which an edge of the same STCLK cycle may yet precede (R404). -/
structure MiChan where
  cfg    : Nat := 0
  gate   : Nat := 0xF4240
  arm    : Nat := 0
  pre    : Nat := 0
  idx    : Nat := 0
  conv   : Option Nat := none
  queue  : List MiEdge := []
  armed  : Option MiEdge := none
  armOff : Int := 0
  stop0  : Option MiEdge := none
  start0 : Option MiEdge := none
  gate0  : Option Nat := none
  first  : Option MiEdge := none
  last   : Option MiEdge := none
  total0 : Nat := 0
  seq    : Nat := 0
  lost   : Bool := false
  recs   : List (List Byte) := []
  deriving DecidableEq, Repr

/-- 11 R416 to R419: a reference slot's monitor. `edge` is the network time that had run at the last edge, `acc` the crystal-scale
integral there, `cyc` the cycles counted (for REF13 the upstream's time that has run); `mark` the second that the last edge marks,
`phase` its phase; `points` earlier (edge, acc, cyc), newest first; `offs` the offsets of the last DRIFT_S seconds, newest first;
`warned` whether DRIFT_WARN has risen since the slot qualified; `ql` the QL of the last ESMC PDU. -/
structure RefSlot where
  edge   : Option Nat := none
  acc    : Int := 0
  cyc    : Int := 0
  mark   : Option Nat := none
  phase  : Option Int := none
  points : List (Nat × Int × Int) := []
  offs   : List Int := []
  warned : Bool := false
  ql     : Option Nat := none
  deriving DecidableEq, Repr

/-- 11 R437: what an evaluation of the DPLL's state machine decided: nothing, or one of its transitions. -/
inductive DpAct where
  | stay | acquire | lock | unlock | lose | steer | unsteer
  deriving DecidableEq, Repr

/-- 11 R433 to R437: what the DPLL remembers: the output frequency of each millisecond spent LOCKED (newest first); milliseconds of learning and
of LOCKED running not yet credited; whether history was not valid at holdover's entry; the frequency errors of the last second; whether it waits
under STEP_POLICY ASK; the phase error left by TIME_ADJUST SLEW; and what an evaluation decided and the tap sample that follows it will do: the
new FREQ_SEL and TIME_SEL (R426), and the transition with the loops' frequencies (R437), each with that sample's place in the network time that
has run; and the REF13 estimate that the servo published and the DPLL has not yet received (R415). -/
structure DpllMem where
  locked   : List Int := []
  learnMs  : Nat := 0
  lockedMs : Nat := 0
  hoNoHist : Bool := false
  lockWin  : List Int := []
  asking   : Bool := false
  slew     : Int := 0
  selNext  : Option (Nat × Nat × Nat) := none
  actNext  : Option (Nat × DpAct × Int × Int) := none
  estimate : Option Int := none
  deriving DecidableEq, Repr

/-- 10 R391; 15 R547, R552, R557: what calibration remembers. `good`: the last pair in range of each TDC. `out`: the TDCs whose last pair was
out of range. `val`: the values in force that stand in no register. `temp`: an item's governing temperature at its last calibration. -/
structure CalMem where
  good : Tbl (Nat × Nat) := []
  out  : List Nat := []
  val  : Tbl (Int × Int) := []
  temp : Tbl Int := []
  deriving DecidableEq, Repr

/-! ### The Kelxaide Phase Link (chapter 13) -/

/-- 13 R496: what a peer's LLDPDU advertises. -/
structure KplPeer where
  enabled   : Bool
  cal       : Bool
  sync      : Bool
  noUp      : Bool
  clockId   : Nat
  port      : Nat
  cls       : Nat
  accuracy  : Nat
  variance  : Nat
  priority2 : Nat
  steps     : Nat
  ttl       : Nat
  deriving DecidableEq, Repr

/-- 13 R508: a port's servo: the delays of the last accepted exchanges (newest first), the median of the last millisecond, and
the offsets and delays accepted in this one. -/
structure Servo where
  delays  : List Int := []
  lastMed : Option Int := none
  offs    : List Int := []
  dels    : List Int := []
  deriving DecidableEq, Repr

/-- 13 R499: the peer's latest TIME message: the departure it describes, UTC_OFFSET and FLAGS. -/
structure KplTime where
  dep   : Nat
  utc   : Nat
  flags : Nat
  deriving DecidableEq, Repr

/-- 13 R503 to R508: the running state of one KPL port. `wait` holds the MARKs whose REPLY is awaited, as (SEQ, T1, network time
run at its departure); `out` the blocks last sent, as (KIND, PART, DATA). -/
structure KplPort where
  seq     : Nat := 0
  wait    : List (Nat × Nat × Nat) := []
  missRow : Nat := 0
  servo   : Servo := {}
  lastOff : Option Int := none
  time    : Option KplTime := none
  peer    : Option KplPeer := none
  out     : List (Nat × Nat × Nat) := []
  deriving DecidableEq, Repr

/-! ### PTP (chapter 13) -/

/-- IEEE 1588-2019: a master's dataset as its Announce gives it. `flags` is flagField of the Announce. -/
structure Foreign where
  sender : List Byte
  cls    : Nat
  acc    : Nat
  var    : Nat
  prio1  : Nat
  prio2  : Nat
  gm     : Nat
  steps  : Nat
  src    : Nat
  utc    : Nat
  flags  : Nat
  count  : Nat := 1
  deriving DecidableEq, Repr

/-- 13 R510 to R514: the running state of one port's PTP instance. `foreign` holds the masters heard, best first; `sync` a two-step Sync whose
Follow_Up is awaited, as (sequenceId, receive time, correction); `req` the sequenceId of the Delay_Req awaited; `back` the last completed
delay measurement, as (local departure, master's arrival). -/
structure PtpPort where
  foreign  : List Foreign := []
  annSeq   : Nat := 0
  syncSeq  : Nat := 0
  reqSeq   : Nat := 0
  sync     : Option (Nat × Nat × Int) := none
  req      : Option Nat := none
  back     : Option (Int × Int) := none
  servo    : Servo := {}
  deriving DecidableEq, Repr

/-- 13 R513: a two-step Sync forwarded as a transparent clock: its sourcePortIdentity and sequenceId, the port it left, and its
residence time, and the network time that had run then. -/
structure TcSync where
  src  : List Byte
  seq  : Nat
  out  : Nat
  res  : Int
  at0  : Nat
  deriving DecidableEq, Repr

/-! ### GNSS (chapter 14) -/

/-- 14 R528, R533: what the receiver measured on one tracked channel for a solution: the channel, its signal (SYSTEM, BAND, SV), C/N0 in
dB-Hz and elevation in degrees, whether its ephemeris is valid, its power in 0.1 dBm, the pseudorange residual in mm, the Doppler's
difference from prediction in 0.1 Hz, the L1 to L5 range difference beyond prediction in mm, and whether 10 s of C/N0 and elevations
meet the UNIFORM test. -/
structure GnssObs where
  ch      : Nat
  system  : Nat
  band    : Nat
  sv      : Nat
  cn0     : Nat
  elev    : Nat
  eph     : Bool
  power   : Int
  resid   : Int
  doppler : Int
  bands   : Int
  uniform : Bool
  deriving DecidableEq, Repr

/-- 14 R535, R538, R539: a solution: its tracked channels, the free position in mm, the time uncertainty in ns, the solution's time less
the time counter in units, and the broadcast UTC data where known: offset, leap (0 none, 1 insert, 2 delete) and the TAI second at
which it falls. -/
structure GnssSol where
  obs  : List GnssObs
  pos  : Int × Int × Int
  unc  : Nat
  diff : Int
  utc  : Option (Nat × Nat × Nat) := none
  deriving DecidableEq, Repr

/-- Chapter 14: what the receiver remembers: consecutive measurements below 2 mA, the survey's count, sums and sum of squares, consecutive
clean solutions since SPOOF, consecutive solutions more than 100 m off, the second its last time pulse marks, channels holding their
frequency, and whether almanac and ephemerides are held. -/
structure GnssMem where
  antLow  : Nat := 0
  count   : Nat := 0
  sum     : Int × Int × Int := (0, 0, 0)
  sq      : Int := 0
  clean   : Nat := 0
  far     : Nat := 0
  mark    : Option Nat := none
  holding : List Nat := []
  almanac : Bool := false
  deriving DecidableEq, Repr

/-! ### Calibration (chapter 15) -/

/-- 15 R552: a delay that moves to a new value, at most 1 ps per ms: when the move began (network time that had run), and each of its two
values as (from, to). -/
structure CalMove where
  begun : Nat
  a     : Int × Int
  b     : Int × Int
  deriving DecidableEq, Repr

/-- 15 R551, R555, R557: a calibration run: its CAL_RUN (none for a trigger), TARGET, the items that wait and those being measured, the
counts of items passed, failed and NOT_RUN, the pick cycle in which it began, and the MI channel it suspends. -/
structure CalRun where
  cmd    : Option Cmd := none
  target : Nat
  wait   : List Nat
  busy   : List Nat := []
  pass   : Nat := 0
  fail   : Nat := 0
  notRun : Nat := 0
  cycle  : Nat
  mi     : Option Nat := none
  deriving DecidableEq, Repr

/-- 15 R556: an ASYM window: its command, port, MI channel and CABLE, its start and end, and the count and sum of the KPL offsets and of the
pulses' offsets. -/
structure AsymRun where
  cmd   : Cmd
  port  : Nat
  mi    : Nat
  cable : Int
  t0    : Nat
  t1    : Nat
  kN    : Nat := 0
  kSum  : Int := 0
  rN    : Nat := 0
  rSum  : Int := 0
  deriving DecidableEq, Repr

/-- 15 R552 to R556: the end of a calibration measurement: an item's measured values, each with the RMS scatter of its repeats (delays in
2^-16 ns, the noise floor in 0.1 dB); an item that could not run; or the end of an ASYM window on a port. -/
inductive CalDone where
  | item (i : Nat) (vals : List (Int × Nat))
  | notRun (i : Nat)
  | asym (port : Nat)
  deriving DecidableEq, Repr

/-! ### Grooms (chapter 16) -/

/-- 16 R567: the consumers of groom outputs; a store request carries its LEDGER_SEQ (R576). -/
inductive Consumer where
  | completion | dpll
  | gnss (ch : Nat)
  | core
  | store (ledgerSeq : Nat)
  | event | applier
  deriving DecidableEq, Repr

/-- 16 R568: a window that a consumer holds open: the number it acted on, the digest and the complex of the copy it acted on, and the
pick cycle in which the first copy arrived. -/
structure OutWin where
  cons   : Nat
  seq    : Nat
  digest : Nat
  b      : Bool
  cycle  : Nat
  deriving DecidableEq, Repr

/-- 16 R577: an identity: the commit SEQs of the image and of the configuration, and the image's slot. -/
structure Identity where
  image : Nat
  cfg   : Nat
  slot  : Nat
  deriving DecidableEq, Repr

/-- A complex's memory: the identity it loads or runs, whether its present reset was a software request of its scope, and the network
time run at each of its resets that count under R575. -/
structure Complex where
  ident  : Option Identity := none
  soft   : Bool := false
  resets : List Nat := []
  deriving DecidableEq, Repr

/-- 16 R589 to R591: a core's sample log: watched events since the last sample, the next SEQ, the entries held, and whether one was lost
since the last. -/
structure GroomLog where
  run  : Nat := 0
  seq  : Nat := 0
  held : List (List Byte) := []
  lost : Bool := false
  deriving DecidableEq, Repr

/-- 16 R581: what a user task waits for: a compact time, an event code, or a completion of its own. -/
inductive WaitFor where
  | time (ct : Nat)
  | event (code : Nat)
  | completion
  deriving DecidableEq, Repr

/-- A user task: what it waits for and whether that has come, the completions it has not waited for, the entries it has submitted, and the value
its last read returned. -/
structure TaskSt where
  wait  : Option WaitFor := none
  due   : Bool := false
  inbox : List Completion := []
  subs  : Nat := 0
  value : Nat := 0
  deriving DecidableEq, Repr

/-! ### Observability (chapter 17) -/

/-- 17 R605, R606: a capture being written: its SNAP_TAKE, its boundary, its bytes, and the measurement records moved. -/
structure Capture where
  cmd   : Cmd
  time  : Nat
  data  : List Byte
  moved : Nat := 0
  deriving DecidableEq, Repr

/-- What the observability block remembers: the counters and OBS_WRAP as the present pick cycle found them (R595), the captures being written by
set, the SNAP_TAKE commands that wait for their set (R606), the next SNAP_SEQ by set (R604), the records latched in the peek window by set
(R609), and whether a health event is due (R612). -/
structure ObsMem where
  ctrStart  : Tbl Nat := []
  wrapStart : Nat := 0
  captures  : Tbl Capture := []
  snapWait  : List Cmd := []
  snapSeq   : Tbl Nat := []
  peek      : Tbl (List Byte) := []
  healthDue : Bool := false
  deriving DecidableEq, Repr

/-- 05 R191: peaking codes on their way to new ones: those in use when the change began, and when it did, in network time that has run. -/
structure EqMove where
  rx   : Nat
  tx   : Nat
  from0 : Nat
  deriving DecidableEq, Repr

/-- 08 R321, R326: a word of the loom, the stalls, the hayloft or the record rows found in error: corrected or not, its area, node and word as
LOOM_ECC_ADDR gives them, and the frame that holds it. -/
structure EccFind where
  corrected : Bool
  area  : Nat
  node  : Nat
  word  : Nat
  frame : Nat
  deriving DecidableEq, Repr

/-- What has been measured and counted in the pick cycles that end: per lane the FEC, symbol, uncorrectable and sync-header counts (17 R602) and
the PRBS errors (05 R210); VIN in mV and input power in 0.1 W (02 R54); die sensors; per core its events as (code, in user mode, occurrences)
and per heddle its events as (code, occurrences) (16 R583, R584); per lane what its receiver has adapted to (05 R192); words found in error (08 R326). -/
structure CycleMeas where
  lanes : List (Nat × List Nat) := []
  prbs  : List (Nat × Nat) := []
  power : Option (Nat × Nat) := none
  die   : List (Nat × Int) := []
  cores : List (Nat × List (Nat × Bool × Nat)) := []
  heds  : List (Nat × List (Nat × Nat)) := []
  eqs   : List (Nat × Nat) := []
  ecc   : List EccFind := []
  deriving DecidableEq, Repr

/-- 04 R134: the timers of R18, each measured as network time that has run (R630). -/
inductive Timer where
  | bpHold (pair : Nat)
  | laneHold (lane : Nat)
  | laneAcquire (lane : Nat)
  | engineStart (oe : Nat)
  | ramp (oe : Nat) (b : Bool)
  | rxWait (ring : Nat)
  | logFirst (ring : Nat)
  | pauseHold (port cls : Nat)
  | pauseRepeat (port : Nat)
  | portReset (port : Nat)
  | frerReset (handle : Nat)
  | armed (ch : Nat)
  | gate (ch : Nat)
  | ref13
  | qual (slot : Nat)
  | lock
  | holdover
  | learn
  | esmc (slot : Nat)
  | relock (syn : Nat)
  | todRx
  | lldp (port : Nat)
  | announce (port : Nat)
  | delayResp (port : Nat)
  | gnssSolution
  | gnssWord (ch : Nat)
  | antShort
  | calPeriod (item : Nat)
  | miGap (ch : Nat)
  | revert
  | shadow
  | xoBack
  deriving DecidableEq, Repr

end Sys2Proof.Machine
end

