-- ==== Sys2Proof/Syntax.lean ====
section
/-! DEFINITION. The commands the block takes: one constructor per row of spec/opcode_table.json, with the operands the
row's rule gives it. A ring command's row fixes its opcode and ACTION and carries the rest of the submission. -/

namespace Sys2Proof

open Machine

/-- One constructor per row of the table of operations and events; the rule named is the row's own. -/
inductive Instr where
  /-- POWER_ON (R92). -/
  | powerOn (lost : Bool) (ts : List (Nat × Int))
  /-- BROWN_OUT_ASSERT (R50). -/
  | brownOutAssert (up : Nat)
  /-- ENABLE_FALL (R46). -/
  | enableFall (up : Nat)
  /-- ENABLE_RISE (R49). -/
  | enableRise (long warn : Bool) (ts : List (Nat × Int))
  /-- VIO_RISE (R47). -/
  | vioRise (mv : Nat)
  /-- DIE_SHUTDOWN_TRIP (R74). -/
  | dieShutdownTrip (up : Nat)
  /-- BYPASS_SET_PAIR (R55). -/
  | bypassSetPair (d : Submission)
  /-- BYPASS_SET_HOLD (R55). -/
  | bypassSetHold (d : Submission)
  /-- BYPASS_HOLD_EXPIRY (R59). -/
  | bypassHoldExpiry (n : Nat)
  /-- WATCHDOG_EXPIRY (R575). -/
  | watchdogExpiry (core : Nat)
  /-- LOCKUP (R575). -/
  | lockup (core : Nat)
  /-- CLOCK_FAILURE (R85). -/
  | clockFailure (d : Domain) (i : Nat)
  /-- DOMAIN_RELEASE (R89). -/
  | domainRelease (r : Release)
  /-- RST_FORCE_WRITE (R90). -/
  | rstForceWrite (v : BitVec 32)
  /-- SWREQ_SYSTEM (R86). -/
  | swreqSystem (v : BitVec 32)
  /-- SWREQ_COMPLEX (R86). -/
  | swreqComplex (v : BitVec 32)
  /-- SWREQ_NODE (R322). -/
  | swreqNode (v : BitVec 32)
  /-- SWREQ_HEDDLE (R83). -/
  | swreqHeddle (v : BitVec 32)
  /-- SWREQ_ENGINE (R83). -/
  | swreqEngine (v : BitVec 32)
  /-- SWREQ_LANE (R83). -/
  | swreqLane (v : BitVec 32)
  /-- SWREQ_TIMING (R83). -/
  | swreqTiming (v : BitVec 32)
  /-- SWREQ_SYNTHESISER (R454). -/
  | swreqSynthesiser (v : BitVec 32)
  /-- SWREQ_PORT (R249). -/
  | swreqPort (v : BitVec 32)
  /-- DBG_REQ_SYSTEM (R116). -/
  | dbgReqSystem (v : BitVec 32)
  /-- DBG_REQ_COMPLEX (R116). -/
  | dbgReqComplex (v : BitVec 32)
  /-- BOOT_STEP_COMPLETE (R101). -/
  | bootStepComplete (ok : Bool) (failing : List Nat) (up : Nat)
  /-- PCIE_LINK_TRAINED (R120). -/
  | pcieLinkTrained (width speed : Nat)
  /-- PCIE_LINK_DOWN (R130). -/
  | pcieLinkDown (perst : Bool)
  /-- DL_GO (R128). -/
  | dlGo (v : BitVec 32)
  /-- DL_FETCH_DONE (R128). -/
  | dlFetchDone (ok : Bool) (up : Nat)
  /-- STORE_WRITE_DONE (R110). -/
  | storeWriteDone (ok : Bool)
  /-- REGISTER_WRITE (R6). -/
  | registerWrite (bar2 : Bool) (a : Nat) (w : RegWr)
  /-- INVALID_ACCESS (R122). -/
  | invalidAccess (bar2 read : Bool) (a n : Nat)
  /-- LATCHING_READ (R449). -/
  | latchingRead (bar2 : Bool) (a : Nat)
  /-- TIME_LATCH_READ (R484). -/
  | timeLatchRead (sec : Bool)
  /-- TAP_LAST_READ (R397). -/
  | tapLastRead (t : Nat)
  /-- OBS_PEEK_READ (R609). -/
  | obsPeekRead (w : Nat)
  /-- OBS_PEEK_SEL_WRITE (R609). -/
  | obsPeekSelWrite (v : BitVec 32)
  /-- COUNTER_LO_WRITE (R585). -/
  | counterLoWrite (a : Nat) (v : BitVec 32)
  /-- COUNTER_HI_WRITE (R585). -/
  | counterHiWrite (a : Nat) (v : BitVec 32)
  /-- HED_CTRL_WRITE (R307). -/
  | hedCtrlWrite (v : BitVec 32)
  /-- TRD_ENABLE_SET (R480). -/
  | trdEnableSet (t : Nat) (v : BitVec 32)
  /-- TRD_ENABLE_CLEAR (R480). -/
  | trdEnableClear (t : Nat) (v : BitVec 32)
  /-- OUTPUT_CFG_WRITE (R478). -/
  | outputCfgWrite (a : Nat) (v : BitVec 32)
  /-- DB_SQ_TAIL (R134). -/
  | dbSqTail (r v : Nat)
  /-- DB_CQ_HEAD (R134). -/
  | dbCqHead (r v : Nat)
  /-- DB_ARM_ENABLE (R168). -/
  | dbArmEnable (r k : Nat)
  /-- DB_ARM_DISABLE (R168). -/
  | dbArmDisable (r : Nat)
  /-- SUBMISSION_ACCEPT (R156). -/
  | submissionAccept (e : SqEntry) (x : Fetched)
  /-- EVENT_PENDING_FLUSH (R163). -/
  | eventPendingFlush (r : Nat)
  /-- FRAME_RX_DELIVERY (R161). -/
  | frameRxDelivery (w : HostWr)
  /-- RX_WAIT_EXPIRY (R161). -/
  | rxWaitExpiry (r : Nat)
  /-- BOBBIN_DRAIN (R245). -/
  | bobbinDrain (r p : Nat)
  /-- LOG_COMPLETION (R150). -/
  | logCompletion (w : HostWr)
  /-- TX_FRAME (R145). -/
  | txFrame (d : Submission)
  /-- RX_BUFFER (R146). -/
  | rxBuffer (d : Submission)
  /-- LOG_BUFFER (R150). -/
  | logBuffer (d : Submission)
  /-- RULE_WRITE (R291). -/
  | ruleWrite (d : Submission)
  /-- RULE_SWAP (R294). -/
  | ruleSwap (d : Submission)
  /-- RULE_CLEAR (R297). -/
  | ruleClear (d : Submission)
  /-- FDB_ADD (R277). -/
  | fdbAdd (d : Submission)
  /-- FDB_DEL (R277). -/
  | fdbDel (d : Submission)
  /-- FDB_FLUSH (R152). -/
  | fdbFlush (d : Submission)
  /-- SNAP_TAKE (R605). -/
  | snapTake (d : Submission)
  /-- SNAP_WRITE_DONE (R606). -/
  | snapWriteDone (set : Nat) (ok : Bool)
  /-- SNAP_FREEZE (R607). -/
  | snapFreeze (d : Submission)
  /-- SNAP_THAW (R607). -/
  | snapThaw (d : Submission)
  /-- PORT_SET_CONFIGURE (R255). -/
  | portSetConfigure (d : Submission)
  /-- PORT_SET_VLAN_MEMBER (R255). -/
  | portSetVlanMember (d : Submission)
  /-- LANE_SET_CONFIGURE (R204). -/
  | laneSetConfigure (d : Submission)
  /-- LANE_SET_RESET (R180). -/
  | laneSetReset (d : Submission)
  /-- LANE_SET_READAPT (R206). -/
  | laneSetReadapt (d : Submission)
  /-- READAPT_DONE (R206). -/
  | readaptDone (n rx tx : Nat)
  /-- LANE_SET_RETIRE (R180). -/
  | laneSetRetire (d : Submission)
  /-- LANE_SET_RETURN (R180). -/
  | laneSetReturn (d : Submission)
  /-- ENGINE_SET_CONFIGURE (R205). -/
  | engineSetConfigure (d : Submission)
  /-- ENGINE_SET_POWER_UP (R209). -/
  | engineSetPowerUp (d : Submission)
  /-- ENGINE_SET_POWER_DOWN (R209). -/
  | engineSetPowerDown (d : Submission)
  /-- ENGINE_SET_RESET (R209). -/
  | engineSetReset (d : Submission)
  /-- DRAIN_LSA (R201). -/
  | drainLsa (d : Submission)
  /-- DRAIN_LSB (R201). -/
  | drainLsb (d : Submission)
  /-- RESTORE_LSA (R201). -/
  | restoreLsa (d : Submission)
  /-- RESTORE_LSB (R201). -/
  | restoreLsb (d : Submission)
  /-- LASER_RAMP_DONE (R201). -/
  | laserRampDone (k : Nat) (b : Bool)
  /-- RESET_SYSTEM (R620). -/
  | resetSystem (d : Submission)
  /-- RESET_COMPLEX (R621). -/
  | resetComplex (d : Submission)
  /-- RESET_NODE (R322). -/
  | resetNode (d : Submission)
  /-- NODE_DRAIN_DONE (R322). -/
  | nodeDrainDone (n : Nat)
  /-- RESET_HEDDLE (R622). -/
  | resetHeddle (d : Submission)
  /-- RESET_ENGINE (R622). -/
  | resetEngine (d : Submission)
  /-- RESET_LANE (R622). -/
  | resetLane (d : Submission)
  /-- RESET_TIMING (R622). -/
  | resetTiming (d : Submission)
  /-- RESET_SYNTHESISER (R454). -/
  | resetSynthesiser (d : Submission)
  /-- RESET_PORT (R249). -/
  | resetPort (d : Submission)
  /-- IMAGE_WRITE (R155). -/
  | imageWrite (d : Submission)
  /-- IMAGE_CLEAR (R103). -/
  | imageClear (d : Submission)
  /-- CFG_WRITE (R616). -/
  | cfgWrite (d : Submission)
  /-- CAL_RUN_LANES (R551). -/
  | calRunLanes (d : Submission)
  /-- CAL_RUN_CORE (R551). -/
  | calRunCore (d : Submission)
  /-- CAL_RUN_MI (R551). -/
  | calRunMi (d : Submission)
  /-- CAL_RUN_OUTPUTS (R551). -/
  | calRunOutputs (d : Submission)
  /-- CAL_RUN_OUTPUT_LOOP (R551). -/
  | calRunOutputLoop (d : Submission)
  /-- CAL_RUN_ASYM (R556). -/
  | calRunAsym (d : Submission)
  /-- CAL_RUN_GNSS (R551). -/
  | calRunGnss (d : Submission)
  /-- CAL_ITEM_DONE (R552). -/
  | calItemDone (e : CalDone)
  /-- CAL_STORE (R559). -/
  | calStore (d : Submission)
  /-- MI_CAL_GAP_TIMEOUT (R553). -/
  | miCalGapTimeout (k : Nat)
  /-- SHED_SET_ENABLE (R242). -/
  | shedSetEnable (d : Submission)
  /-- SHED_SET_DISABLE (R242). -/
  | shedSetDisable (d : Submission)
  /-- FILTER_SET (R256). -/
  | filterSet (d : Submission)
  /-- HEDDLE_LOAD (R301). -/
  | heddleLoad (d : Submission)
  /-- HEDDLE_DISABLE (R301). -/
  | heddleDisable (d : Submission)
  /-- HEDDLE_ENABLE (R301). -/
  | heddleEnable (d : Submission)
  /-- HEDDLE_DRAINED (R301). -/
  | heddleDrained (h : Nat)
  /-- HEDDLE_READBACK_DONE (R301). -/
  | heddleReadbackDone (h : Nat) (ok : Bool)
  /-- PICKS_RESERVE (R346). -/
  | picksReserve (d : Submission)
  /-- PICKS_RELEASE (R345). -/
  | picksRelease (d : Submission)
  /-- MIRROR_SET_SESSION (R348). -/
  | mirrorSetSession (d : Submission)
  /-- MIRROR_SET_GROUP (R348). -/
  | mirrorSetGroup (d : Submission)
  /-- RATIONS_SET_EGRESS (R362). -/
  | rationsSetEgress (d : Submission)
  /-- RATIONS_SET_WEIGHT (R362). -/
  | rationsSetWeight (d : Submission)
  /-- FRER_SET_WRITE (R374). -/
  | frerSetWrite (d : Submission)
  /-- FRER_SET_RESET (R374). -/
  | frerSetReset (d : Submission)
  /-- REF_SET_CONFIGURE (R446). -/
  | refSetConfigure (d : Submission)
  /-- REF_SET_GLOBAL (R446). -/
  | refSetGlobal (d : Submission)
  /-- REF_SET_ESMC (R446). -/
  | refSetEsmc (d : Submission)
  /-- REF_SET_REQUALIFY (R420). -/
  | refSetRequalify (d : Submission)
  /-- DPLL_STEER (R440). -/
  | dpllSteer (d : Submission)
  /-- TIME_ADJUST_SLEW (R490). -/
  | timeAdjustSlew (d : Submission)
  /-- TIME_ADJUST_STEP (R491). -/
  | timeAdjustStep (d : Submission)
  /-- TIME_ADJUST_SET (R490). -/
  | timeAdjustSet (d : Submission)
  /-- TIMING_ROLE (R492). -/
  | timingRole (d : Submission)
  /-- KPL_SET (R521). -/
  | kplSet (d : Submission)
  /-- PTP_SET_PORT (R522). -/
  | ptpSetPort (d : Submission)
  /-- PTP_SET_CLOCK (R522). -/
  | ptpSetClock (d : Submission)
  /-- CLKOUT_SET_CLOCK (R478). -/
  | clkoutSetClock (d : Submission)
  /-- CLKOUT_SET_PULSE (R478). -/
  | clkoutSetPulse (d : Submission)
  /-- CLKOUT_SET_TOD (R478). -/
  | clkoutSetTod (d : Submission)
  /-- CLKOUT_SET_SYNTH (R454). -/
  | clkoutSetSynth (d : Submission)
  /-- ALIGN (R467). -/
  | align (d : Submission)
  /-- TREADLE_SET_PROGRAM (R472). -/
  | treadleSetProgram (d : Submission)
  /-- TREADLE_SET_STOP (R472). -/
  | treadleSetStop (d : Submission)
  /-- GNSS_SET_CONFIGURE (R543). -/
  | gnssSetConfigure (d : Submission)
  /-- GNSS_SET_POSITION (R536). -/
  | gnssSetPosition (d : Submission)
  /-- GNSS_SET_SURVEY_RESTART (R535). -/
  | gnssSetSurveyRestart (d : Submission)
  /-- GNSS_SET_COLD_START (R530). -/
  | gnssSetColdStart (d : Submission)
  /-- RING_SET_CONFIGURE (R165). -/
  | ringSetConfigure (d : Submission)
  /-- RING_SET_DISABLE (R164). -/
  | ringSetDisable (d : Submission)
  /-- ATTN_ACK (R143). -/
  | attnAck (d : Submission)
  /-- CANCEL (R159). -/
  | cancel (d : Submission)
  /-- NOP (R155). -/
  | nop (d : Submission)
  /-- PICK_CYCLE_BOUNDARY (R13). -/
  | pickCycleBoundary (n : Nat) (m : CycleMeas)
  /-- LANE_LOCK_GAINED (R180). -/
  | laneLockGained (n : Nat) (l : LockGain)
  /-- LINK_UP_HOLD_EXPIRY (R181). -/
  | linkUpHoldExpiry (n : Nat)
  /-- LANE_LOCK_LOST (R180). -/
  | laneLockLost (l : LockLoss)
  /-- LANE_ACQUIRE_TIMEOUT (R180). -/
  | laneAcquireTimeout (n : Nat)
  /-- SERDES_FAULT (R180). -/
  | serdesFault (n : Nat)
  /-- FEC_DEGRADED_SET (R179). -/
  | fecDegradedSet (n : Nat)
  /-- FEC_DEGRADED_CLEAR (R179). -/
  | fecDegradedClear (n : Nat)
  /-- LASER_INPUT_LOST (R199). -/
  | laserInputLost (k : Nat) (b : Bool)
  /-- LASER_INPUT_RETURN (R200). -/
  | laserInputReturn (k : Nat) (b : Bool)
  /-- ENGINE_SELF_TEST_DONE (R209). -/
  | engineSelfTestDone (k : Nat) (ok : Bool)
  /-- ENGINE_START_TIMEOUT (R209). -/
  | engineStartTimeout (k : Nat)
  /-- OPTICAL_MONITOR_UPDATE (R202). -/
  | opticalMonitorUpdate (k : Nat) (lsa lsb ots : Int) (pw : List (Int × Int))
  /-- FRAME_FIRST_BYTE (R330). -/
  | frameFirstByte (p tm n : Nat) (ctl : Bool)
  /-- FRAME_LAST_BYTE (R216). -/
  | frameLastByte (p : Nat) (l : List Byte) (pcs : Bool)
  /-- CONTROL_FRAME_RECEIVE (R234). -/
  | controlFrameReceive (p : Nat) (l : List Byte)
  /-- PAUSE_HOLD_EXPIRY (R234). -/
  | pauseHoldExpiry (p c : Nat)
  /-- HEAD_DISPATCH (R261). -/
  | headDispatch (n id : Nat) (l : List Byte) (noRoom : Nat)
  /-- HEAD_DECISION (R289). -/
  | headDecision (id : Nat)
  /-- HED_ECC_REPAIR (R304). -/
  | hedEccRepair (corrected : Bool) (mem gen unit src frame : Nat)
  /-- BEAM_RELEASE (R264). -/
  | beamRelease (q : Nat)
  /-- WARP_SEND (R318). -/
  | warpSend (n p choice arrived : Nat)
  /-- WEFT_SEND (R318). -/
  | weftSend (j p : Nat)
  /-- REED_ARRIVAL (R319). -/
  | reedArrival (n d seq ecc word : Nat)
  /-- RELEASE_REPORT (R316). -/
  | releaseReport (n d : Nat)
  /-- EGRESS_ENQUEUE (R351). -/
  | egressEnqueue (d : Nat)
  /-- HAYLOFT_SPILL (R325). -/
  | hayloftSpill (id : Nat)
  /-- HAYLOFT_FETCH (R325). -/
  | hayloftFetch (id : Nat) (bad : Bool) (stack word : Nat)
  /-- PAUSE_REPEAT (R235). -/
  | pauseRepeat (p : Nat)
  /-- EGRESS_CHOOSE (R352). -/
  | egressChoose (p tm n : Nat)
  /-- FRAME_TX_END (R595). -/
  | frameTxEnd (p : Nat)
  /-- CUT_UNDERRUN (R340). -/
  | cutUnderrun (p : Nat)
  /-- SHED_ENTRY_CHANGE (R237). -/
  | shedEntryChange (p : Nat)
  /-- LAUNCH_FETCH (R251). -/
  | launchFetch (id : Nat)
  /-- LAUNCH_START (R253). -/
  | launchStart (p tm n : Nat)
  /-- AGE_LIMIT_EXPIRY (R327). -/
  | ageLimitExpiry (id : Nat)
  /-- MCAST_COPY_TIMEOUT (R335). -/
  | mcastCopyTimeout (id : Nat)
  /-- FRER_RESET_TIMEOUT (R372). -/
  | frerResetTimeout (h : Nat)
  /-- XO_COMPARE_WINDOW (R385). -/
  | xoCompareWindow (ratio : Int)
  /-- TAP_SAMPLE (R395). -/
  | tapSample (t : Nat) (rx : Option TapHalf) (tx : Option TapHalf)
  /-- MI_EDGE (R398). -/
  | miEdge (k : Nat) (rising : Bool) (d : TdcEdge)
  /-- ARMED_INTERVAL_EXPIRY (R403). -/
  | armedIntervalExpiry (k : Nat)
  /-- GATE_END (R405). -/
  | gateEnd (k : Nat)
  /-- REF_ACTIVITY_LOSS (R432). -/
  | refActivityLoss (r : Nat) (valid : Bool)
  /-- QUAL_TIMER_EXPIRY (R421). -/
  | qualTimerExpiry (r : Nat)
  /-- DPLL_STATE_EVALUATE (R437). -/
  | dpllStateEvaluate (loop : Int) (slew : Int)
  /-- AGEING_LEARN (R436). -/
  | ageingLearn (slope : Int)
  /-- ESMC_PDU_RECEIVE (R442). -/
  | esmcPduReceive (p : Nat) (l : List Byte)
  /-- ESMC_TIMEOUT (R443). -/
  | esmcTimeout (r : Nat)
  /-- SYN_RELOCK_START (R455). -/
  | synRelockStart (n : Nat) (unlock : Bool)
  /-- SYN_LOCK_ACQUIRED (R453). -/
  | synLockAcquired (n : Nat)
  /-- SYN_FREQ_CHECK (R455). -/
  | synFreqCheck (n : Nat) (pass : Bool)
  /-- SYN_RELOCK_RETURN (R455). -/
  | synRelockReturn (n : Nat)
  /-- SYN_RELOCK_RETRY (R456). -/
  | synRelockRetry (n : Nat)
  /-- PULSE_EDGE (R466). -/
  | pulseEdge (o : Nat)
  /-- TREADLE_EDGE (R470). -/
  | treadleEdge (t : Nat)
  /-- TODIN_MESSAGE (R476). -/
  | todinMessage (t : Nat) (l : List Byte) (stop : Bool)
  /-- LLDP_SEND (R496). -/
  | lldpSend (p : Nat)
  /-- LLDPDU_RECEIVE (R497). -/
  | lldpduReceive (p : Nat) (l : List Byte)
  /-- LLDP_TTL_EXPIRY (R496). -/
  | lldpTtlExpiry (p : Nat)
  /-- KPL_SLOT (R503). -/
  | kplSlot (p tm n : Nat)
  /-- KPL_MARK_RECEIVE (R504). -/
  | kplMarkReceive (p tm n : Nat) (bs : List (Nat × Nat × Nat)) (bad : Bool) (dtm dn : Nat)
  /-- KPL_REPLY_RECEIVE (R507). -/
  | kplReplyReceive (p tm n : Nat) (bs : List (Nat × Nat × Nat)) (bad : Bool)
  /-- KPL_TIME_RECEIVE (R506). -/
  | kplTimeReceive (p : Nat) (bs : List (Nat × Nat × Nat)) (bad : Bool)
  /-- KPL_REPLY_TIMEOUT (R505). -/
  | kplReplyTimeout (p : Nat)
  /-- PTP_ANNOUNCE_SEND (R513). -/
  | ptpAnnounceSend (p : Nat)
  /-- PTP_SYNC_SEND (R513). -/
  | ptpSyncSend (p : Nat)
  /-- PTP_FOLLOW_UP_SEND (R513). -/
  | ptpFollowUpSend (p : Nat)
  /-- PTP_DELAY_REQ_RECEIVE (R513). -/
  | ptpDelayReqReceive (p : Nat) (l : List Byte)
  /-- PTP_DELAY_REQ_SEND (R514). -/
  | ptpDelayReqSend (p : Nat)
  /-- PTP_DELAY_RESP_RECEIVE (R514). -/
  | ptpDelayRespReceive (p : Nat) (l : List Byte)
  /-- PTP_DELAY_RESP_TIMEOUT (R514). -/
  | ptpDelayRespTimeout (p : Nat)
  /-- PTP_SYNC_RECEIVE (R514). -/
  | ptpSyncReceive (p : Nat) (l : List Byte)
  /-- PTP_FOLLOW_UP_RECEIVE (R514). -/
  | ptpFollowUpReceive (p : Nat) (l : List Byte)
  /-- PTP_ANNOUNCE_RECEIVE (R493). -/
  | ptpAnnounceReceive (p : Nat) (l : List Byte)
  /-- PTP_ANNOUNCE_TIMEOUT (R493). -/
  | ptpAnnounceTimeout (p : Nat)
  /-- PTP_IGNORED_RECEIVE (R511). -/
  | ptpIgnoredReceive (p : Nat) (l : List Byte)
  /-- FOLLOW_UP_MATCH_TIMEOUT (R513). -/
  | followUpMatchTimeout (p : Nat)
  /-- GNSS_SOLUTION (R538). -/
  | gnssSolution (g : GnssSol)
  /-- GROOM_OUTPUT_RECEIVE (R567). -/
  | groomOutputReceive (c : Consumer) (b : Bool) (seq digest : Nat)
  /-- GROOM_RESET_END (R571). -/
  | groomResetEnd (b : Bool)
  /-- GROOM_IMAGE_LOADED (R571). -/
  | groomImageLoaded (b : Bool)
  /-- RESYNC_FINAL_COPY (R572). -/
  | resyncFinalCopy (b : Bool)
  /-- SHADOW_TAKEOVER (R578). -/
  | shadowTakeover (b : Bool)
  /-- SHADOW_FAULT (R579). -/
  | shadowFault (b : Bool)
  /-- TASK_READ_REG (R581). -/
  | taskReadReg (t a : Nat)
  /-- TASK_READ_TIME (R581). -/
  | taskReadTime (t : Nat)
  /-- TASK_SUBMIT (R581). -/
  | taskSubmit (t op : Nat) (d : Submission)
  /-- TASK_WAIT (R581). -/
  | taskWait (t : Nat) (w : WaitFor)
  /-- TASK_WAIT_RESUME (R581). -/
  | taskWaitResume (t : Nat)
  /-- TASK_READ_PC (R581). -/
  | taskReadPc (t k : Nat)
  /-- TASK_RAISE (R581). -/
  | taskRaise (t : Nat) (detail : BitVec 32)
  /-- TASK_FAULT (R582). -/
  | taskFault (t : Nat)
  /-- LOG_SAMPLE (R589). -/
  | logSample (c t addr lat op : Nat) (user : Bool)
  /-- PWR_WARN_ASSERT (R42). -/
  | pwrWarnAssert
  /-- PWR_WARN_CLEAR (R42). -/
  | pwrWarnClear
  /-- OVERVOLTAGE_EVENT (R43). -/
  | overvoltageEvent
  /-- DIE_WARN_RISE (R54). -/
  | dieWarnRise
  /-- OE_WARN_RISE (R54). -/
  | oeWarnRise
  /-- TAP_RESET (R77). -/
  | tapReset
  /-- RESET_N_ASSERT (R83). -/
  | resetNAssert
  /-- RESET_N_RELEASE (R92). -/
  | resetNRelease
  /-- PERST_N_RISE (R93). -/
  | perstNRise
  /-- RUN (R125). -/
  | run
  /-- RELINK_DONE (R130). -/
  | relinkDone
  /-- TIME_NS_READ (R484). -/
  | timeNsRead
  /-- EFFECTIVE_AT_BOUNDARY (R20). -/
  | effectiveAtBoundary
  /-- RULE_WRITE_DONE (R292). -/
  | ruleWriteDone
  /-- RULE_SWAP_DEFERRED (R295). -/
  | ruleSwapDeferred
  /-- CAL_AUTO_EVALUATE (R557). -/
  | calAutoEvaluate
  /-- HALTER_EVALUATE (R329). -/
  | halterEvaluate
  /-- RATIONS_DEAL (R360). -/
  | rationsDeal
  /-- FDB_AGEING (R279). -/
  | fdbAgeing
  /-- FATE_LEDGER_RECORD (R599). -/
  | fateLedgerRecord
  /-- XO_MAIN_LOST (R386). -/
  | xoMainLost
  /-- XO_MAIN_RETURN (R387). -/
  | xoMainReturn
  /-- XO_SPARE_LOST (R389). -/
  | xoSpareLost
  /-- XO_SPARE_RETURN (R389). -/
  | xoSpareReturn
  /-- OVEN_STABLE_RISE (R388). -/
  | ovenStableRise
  /-- AGEING_TICK (R384). -/
  | ageingTick
  /-- REF13_ESTIMATE_TIMEOUT (R413). -/
  | ref13EstimateTimeout
  /-- REF_MONITOR_EVALUATE (R420). -/
  | refMonitorEvaluate
  /-- REF_SELECTION (R424). -/
  | refSelection
  /-- HOLDOVER_WINDOW_EXPIRY (R437). -/
  | holdoverWindowExpiry
  /-- STEP_THRESHOLD (R434). -/
  | stepThreshold
  /-- LEARNING_HOUR (R435). -/
  | learningHour
  /-- ESMC_INFO_SEND (R445). -/
  | esmcInfoSend
  /-- ESMC_EVENT_SEND (R445). -/
  | esmcEventSend
  /-- TOD_MESSAGE_SEND (R475). -/
  | todMessageSend
  /-- TIME_FIRST_SET (R483). -/
  | timeFirstSet
  /-- QUALITY_EVALUATE (R487). -/
  | qualityEvaluate
  /-- LEAP_APPLY (R486). -/
  | leapApply
  /-- BMCA_EVALUATE (R493). -/
  | bmcaEvaluate
  /-- KPL_SERVO_PUBLISH (R508). -/
  | kplServoPublish
  /-- GNSS_SOLUTION_TIMEOUT (R538). -/
  | gnssSolutionTimeout
  /-- LAG_WINDOW_EXPIRY (R568). -/
  | lagWindowExpiry
  /-- REVERT_HOLD_EXPIRY (R573). -/
  | revertHoldExpiry
  /-- HEALTH_EVENT (R612). -/
  | healthEvent
  /-- VIO_FALL (R48). -/
  | vioFall
  /-- DIE_WARN_FALL (R73). -/
  | dieWarnFall
  /-- OE_WARN_FALL (R73). -/
  | oeWarnFall
  /-- OVEN_STABLE_FALL (R388). -/
  | ovenStableFall
  /-- PCIE_CONFIG_REQUEST (R93). -/
  | pcieConfigRequest
  /-- TODIN_RX_VALID_EXPIRY (R482). -/
  | todinRxValidExpiry
  /-- ENGINE_SHUTDOWN_TRIP (R75). -/
  | engineShutdownTrip (k : Nat) (ots : Int)
  /-- JTAG_BYPASS (R77). -/
  | jtagBypass (tdi : List Bool)
  /-- JTAG_IDCODE (R77). -/
  | jtagIdcode (tdi : List Bool)
  /-- JTAG_SAMPLE_PRELOAD (R77). -/
  | jtagSamplePreload (lands tdi : List Bool)
  /-- JTAG_EXTEST (R77). -/
  | jtagExtest (lands tdi : List Bool)
  /-- JTAG_CLAMP (R77). -/
  | jtagClamp (tdi : List Bool)
  /-- JTAG_HIGHZ (R77). -/
  | jtagHighz (tdi : List Bool)
  /-- HEDDLE_GRAPH_ERROR (R301). -/
  | heddleGraphError (h : Nat)
  /-- LPI_RECEIVED (R194). -/
  | lpiReceived (n : Nat)
  /-- ELASTIC_SLIP (R190). -/
  | elasticSlip (n : Nat) (ins : Bool)
  /-- HAYLOFT_STACK_FAIL (R326). -/
  | hayloftStackFail (k : Nat)
  /-- GNSS_TIME_PULSE (R537). -/
  | gnssTimePulse (m : Nat)
  /-- GNSS_CHANNEL_HOLD (R529). -/
  | gnssChannelHold (c : Nat)
  /-- GNSS_CHANNEL_IDLE (R529). -/
  | gnssChannelIdle (c : Nat)
  /-- ANTENNA_MEASURE (R526). -/
  | antennaMeasure (ma : Nat) (limit : Bool)
  /-- ANTENNA_SHORT_RETRY (R527). -/
  | antennaShortRetry (below : Bool)
  /-- JAM_EVALUATE (R532). -/
  | jamEvaluate (l1 l5 : Nat) (notches : List (Int × Nat × Bool))
  deriving DecidableEq, Repr

end Sys2Proof
end

