-- ==== Sys2Proof/Decode.lean ====
section
/-! DEFINITION. Words of the operation table. The module takes commands, not instruction words: no row of spec/opcode_table.json gives its
command any bits, so no word spells one. -/

namespace Sys2Proof

/-- The command that a word of the table's bits spells: none, since no row gives bits. -/
def decodeTableWord (_nbits _w : Nat) : Option Instr := none

end Sys2Proof
end

