-- ==== Sys2Proof/Config.lean ====
section
/-! DEFINITION. What an implementation of the module fixes and the spec does not state: free values. Each is an opaque
constant with no body, so that no proof can see a value of it; State.freeIdx supplies a fresh argument at each use
(log entry 3 names every one). -/

namespace Sys2Proof.Config

/-- A value the spec leaves unstated where an operation needs one. The first argument names the use
(log entry 3 lists the uses), the second is the fresh index State.freeIdx. -/
opaque freeValue : Nat → Nat → BitVec 64

end Sys2Proof.Config
end

