-- ==== Sys2Proof/Machine/Graph.lean ====
section
/-! DEFINITION. Parse graphs: the state word of R266, the built-in graph of R634, the parse of R268 to R271 and the image
checks of R299 (chapter 7). -/

namespace Sys2Proof.Machine

open Sys2Proof

/-- One extract of a state word (07 R266): SRC, OFF, LEN, KEY_BYTE. -/
structure Extract where
  src : Nat
  off : Nat
  len : Nat
  key : Nat
  deriving DecidableEq, Repr

/-- A state word's fields (07 R266); `slots` holds the four (VALUE, NEXT) pairs. -/
structure GState where
  fieldOff  : Nat := 0
  fieldCtl  : Nat := 0
  advCtl    : Nat := 0
  advOff    : Nat := 0
  advMask   : Nat := 0
  advBase   : Nat := 0
  dflt      : Nat := 0x100
  fieldMask : Nat := 0
  slots     : List (Nat × Nat) := []
  extracts  : List Extract := []
  deriving DecidableEq, Repr

/-- 07 R267: ACCEPT, MALFORMED, and the mark of an unused slot. -/
def gAccept : Nat := 0x100
def gMalformed : Nat := 0x101
def gUnused : Nat := 0x8000

/-- The 64 bytes of a state word (07 R266); missing slots are unused, missing extracts none. -/
def GState.encode (g : GState) : List Byte :=
  let slot := fun i => let p := g.slots.getD i (0, gUnused); beBytes 4 p.1 ++ beBytes 2 p.2
  let ext := fun i =>
    let e := g.extracts.getD i ⟨0, 0, 0, 0⟩
    leBytes 1 e.src ++ leBytes 1 e.off ++ leBytes 1 e.len ++ leBytes 1 e.key ++ leBytes 2 0
  leBytes 1 g.fieldOff ++ leBytes 1 g.fieldCtl ++ leBytes 1 g.advCtl ++ leBytes 1 g.advOff ++ leBytes 1 g.advMask ++
    leBytes 1 g.advBase ++ beBytes 2 g.dflt ++ beBytes 4 g.fieldMask ++ slot 0 ++ slot 1 ++ slot 2 ++ slot 3 ++
    leBytes 4 0 ++ ext 0 ++ ext 1 ++ ext 2 ++ ext 3

/-- The fields of a 64-byte state word. -/
def GState.decode (w : List Byte) : GState :=
  { fieldOff := byteAt w 0, fieldCtl := byteAt w 1, advCtl := byteAt w 2, advOff := byteAt w 3, advMask := byteAt w 4,
    advBase := byteAt w 5, dflt := beAt w 6 2, fieldMask := beAt w 8 4,
    slots := (List.range 4).map (fun i => (beAt w (12 + 6 * i) 4, beAt w (16 + 6 * i) 2)),
    extracts := (List.range 4).map (fun x =>
      ⟨byteAt w (40 + 6 * x), byteAt w (41 + 6 * x), byteAt w (42 + 6 * x), byteAt w (43 + 6 * x)⟩) }

/-! ### The built-in graph (07 R634). Its states' numbers and their order are the model's (log entry 10). -/

/-- States 0 to 6: addresses and metadata, the tags, the EtherType, the R-TAG. -/
def builtinHead : List GState := [
  { advBase := 12, dflt := 1,
    extracts := [⟨1, 0, 12, 0⟩, ⟨3, 2, 3, 14⟩, ⟨3, 0, 2, 58⟩, ⟨3, 8, 12, 60⟩] },
  { fieldCtl := 1, fieldMask := 0xFFFF, dflt := 4, slots := [(0x8100, 2), (0x88A8, 2)], extracts := [⟨3, 5, 2, 72⟩] },
  { fieldOff := 4, fieldCtl := 1, fieldMask := 0xFFFF, advBase := 4, dflt := 4, slots := [(0x8100, 3), (0x88A8, 3)] },
  { advBase := 4, dflt := 4 },
  { fieldCtl := 1, fieldMask := 0xFFFF, advBase := 2, dflt := gAccept,
    slots := [(0xF1C1, 5), (0x0800, 7), (0x86DD, 8)], extracts := [⟨1, 0, 2, 12⟩] },
  { advBase := 4, dflt := 6 },
  { fieldCtl := 1, fieldMask := 0xFFFF, advBase := 2, dflt := gAccept,
    slots := [(0x0800, 7), (0x86DD, 8)], extracts := [⟨1, 0, 2, 12⟩] }]

/-- States 7 to 15: IPv4, IPv6 with up to two extension headers, UDP, TCP. -/
def builtinTail : List GState := [
  { fieldOff := 9, fieldCtl := 4, fieldMask := 0xFF, advCtl := 0x21, advMask := 0x0F, dflt := gAccept,
    slots := [(0x06, 15), (0x11, 14)], extracts := [⟨1, 12, 4, 32⟩, ⟨1, 16, 4, 48⟩, ⟨1, 9, 1, 17⟩, ⟨1, 1, 1, 18⟩] },
  { fieldOff := 6, fieldMask := 0xFF, dflt := 9, slots := [(0x00, 10), (0x2B, 10), (0x3C, 10)],
    extracts := [⟨1, 8, 16, 20⟩, ⟨1, 24, 16, 36⟩, ⟨1, 6, 1, 17⟩, ⟨1, 0, 2, 18⟩] },
  { fieldOff := 6, fieldMask := 0xFF, advBase := 40, dflt := gAccept, slots := [(0x06, 15), (0x11, 14)] },
  { advBase := 40, dflt := 11 },
  { fieldMask := 0xFF, dflt := 12, slots := [(0x00, 13), (0x2B, 13), (0x3C, 13)], extracts := [⟨1, 0, 1, 17⟩] },
  { fieldMask := 0xFF, advCtl := 0x31, advOff := 1, advMask := 0xFF, advBase := 8, dflt := gAccept,
    slots := [(0x06, 15), (0x11, 14)], extracts := [⟨1, 0, 1, 17⟩] },
  { advCtl := 0x31, advOff := 1, advMask := 0xFF, advBase := 8, dflt := 12 },
  { fieldOff := 2, fieldCtl := 9, fieldMask := 0xFFFF, advBase := 8, dflt := gAccept,
    extracts := [⟨1, 0, 2, 52⟩, ⟨1, 2, 2, 54⟩] },
  { fieldOff := 13, fieldCtl := 8, fieldMask := 0xFF, advCtl := 0x29, advOff := 12, advMask := 0xF0, dflt := gAccept,
    extracts := [⟨1, 0, 2, 52⟩, ⟨1, 2, 2, 54⟩, ⟨1, 13, 1, 56⟩] }]

/-- The built-in graph's states in order. -/
def builtinStates : List GState :=
  builtinHead ++ builtinTail

/-- Word `i` of the built-in graph, little-endian, as HED_GRAPH shows it; states beyond the graph read 0. -/
def builtinGraphWord (i : Nat) : Word :=
  match builtinStates[i / 16]? with
  | none => 0
  | some g => BitVec.ofNat 32 (leAt g.encode (4 * (i % 16)) 4)

/-- 07 R266, 00 R8: the bits of word `i` of a state word that are not reserved. -/
def graphMask (i : Nat) : Word :=
  match i % 16 with
  | 0 => 0xFF7F0FFF
  | 9 => 0
  | 11 => 0xFFFF0000
  | 12 => 0x0000FFFF
  | 14 => 0xFFFF0000
  | 15 => 0x0000FFFF
  | _ => 0xFFFFFFFF

/-! ### The parse (07 R268 to R271) -/

/-- 07 R269: the causes of a malformed parse. -/
def causeGraph : Nat := 0
def causeShort : Nat := 1
def causeLoop : Nat := 2
def causeCsum : Nat := 3

/-- What a parse works on (07 R260, R269): the window of up to 256 bytes, and the frame end, the number of bytes before
the FCS (`none` where the frame is longer than 256 bytes, so that its end lies beyond the window). -/
structure Head where
  win  : List Byte
  fend : Option Nat
  deriving DecidableEq, Repr

/-- A byte position lies past the frame end. -/
def Head.pastEnd (h : Head) (stop : Nat) : Bool :=
  match h.fend with
  | some e => decide (e < stop)
  | none => false

/-- A span ending before `stop` lies past the window. -/
def Head.pastWin (_ : Head) (stop : Nat) : Bool := decide (256 < stop)

/-- A parse under way: the cursor, the key writes so far in order (a byte, or a metadata offset read when the parse
ends, 07 R270), the PARTIAL flag, the payload mark, and the malformed cause. -/
structure Parse where
  cursor : Nat := 0
  writes : List (Nat × (Nat ⊕ Nat)) := []
  cut    : Bool := false
  mark   : Option Nat := none
  cause  : Option Nat := none
  deriving DecidableEq, Repr

/-- 07 R266, R269: one extract. A byte past the window or the frame end reads 0 and sets PARTIAL. -/
def Parse.extract (h : Head) (p : Parse) (e : Extract) : Parse :=
  if e.src = 0 then p
  else if e.src = 3 then
    { p with writes := p.writes ++ (List.range e.len).map (fun i => (e.key + i, .inr (e.off + i))) }
  else
    let at0 := if e.src = 1 then p.cursor + e.off else e.off
    let miss := fun i => h.pastWin (at0 + i + 1) || h.pastEnd (at0 + i + 1)
    { p with
      writes := p.writes ++ (List.range e.len).map (fun i =>
        (e.key + i, .inl (if miss i then 0 else byteAt h.win (at0 + i))))
      cut := p.cut || (List.range e.len).any miss }

/-- The one's complement sum of the 16-bit words of `n` bytes from offset `i`. -/
def onesSum (l : List Byte) (i n : Nat) : Nat :=
  let raw := (List.range ((n + 1) / 2)).foldl
    (fun a k => a + byteAt l (i + 2 * k) * 256 + (if 2 * k + 1 < n then byteAt l (i + 2 * k + 1) else 0)) 0
  let f := fun v => v % 65536 + v / 65536
  f (f (f raw))

/-- What one step of a parse leads to: another state, or the end. -/
inductive GNext where
  | state (n : Nat)
  | done
  deriving DecidableEq, Repr

/-- 07 R268, R269: one step in state `g`. -/
def Parse.step (h : Head) (g : GState) (p : Parse) : Parse × GNext :=
  let p := g.extracts.foldl (Parse.extract h) p
  let n := g.fieldCtl % 4 + 1
  let fo := p.cursor + g.fieldOff
  if h.pastEnd (fo + n) then ({ p with cause := some causeShort }, .done)
  else if h.pastWin (fo + n) then ({ p with cut := true }, .done)
  else
    let field := beAt h.win fo n &&& g.fieldMask
    let comp := g.advCtl % 2 == 1
    let ao := p.cursor + g.advOff
    if comp && h.pastEnd (ao + 1) then ({ p with cause := some causeShort }, .done)
    else if comp && h.pastWin (ao + 1) then ({ p with cut := true }, .done)
    else
      let adv := if comp then
          (byteAt h.win ao &&& g.advMask) / 2 ^ bits g.advCtl 1 3 * 2 ^ bits g.advCtl 4 3 + g.advBase
        else g.advBase
      let csum := bit g.fieldCtl 2
      if csum && h.pastEnd (p.cursor + adv) then ({ p with cause := some causeShort }, .done)
      else if csum && !h.pastWin (p.cursor + adv) && onesSum h.win p.cursor adv != 0xFFFF then
        ({ p with cause := some causeCsum }, .done)
      else
        let p := { p with cut := p.cut || (csum && h.pastWin (p.cursor + adv)), cursor := p.cursor + adv }
        let p := if bit g.fieldCtl 3 then { p with mark := some p.cursor } else p
        let next := match g.slots.find? (fun s => s.2 != gUnused && (s.1 &&& g.fieldMask) == field) with
          | some s => s.2
          | none => g.dflt
        if next = gAccept then (p, .done)
        else if next = gMalformed then ({ p with cause := some causeGraph }, .done)
        else (p, .state next)

/-- 07 R269: the parse from a state; at most 32 steps begin. -/
def Parse.run (h : Head) (graph : Nat → GState) : Nat → Nat → Parse → Parse
  | 0, _, p => { p with cause := some causeLoop }
  | n + 1, st, p =>
    match Parse.step h (graph st) p with
    | (p, .done) => p
    | (p, .state st') => Parse.run h graph n st' p

/-- The whole parse of a head by a graph. -/
def parseHead (h : Head) (graph : Nat → GState) : Parse := Parse.run h graph 32 0 {}

/-- 07 R270: the 80-byte key, later writes over earlier ones, metadata taken as it stands at the end. -/
def Parse.key (p : Parse) (md : List Byte) : List Byte :=
  p.writes.foldl (fun k w =>
    if w.1 < 80 then k.set w.1 (match w.2 with | .inl v => BitVec.ofNat 8 v | .inr o => md.getD o 0) else k)
    (List.replicate 80 0)

/-! ### Image checks (07 R266, R267, R299) -/

/-- A NEXT value valid for a graph of `n` states. -/
def nextOk (n v : Nat) : Bool := decide (v < n) || v == gAccept || v == gMalformed

/-- One state word's reserved bits and ranges. -/
def stateWordOk (n : Nat) (w : List Byte) : Bool :=
  let g := GState.decode w
  g.fieldCtl / 16 == 0 && g.advCtl / 128 == 0 && zeroBytes w 36 4 && nextOk n g.dflt &&
    g.slots.all (fun s => s.2 == gUnused || nextOk n s.2) &&
    (List.range 4).all (fun x => zeroBytes w (44 + 6 * x) 2) &&
    g.extracts.all (fun e => e.src == 0 ||
      (decide (e.src ≤ 3) && decide (1 ≤ e.len) && decide (e.len ≤ 16) && decide (e.key + e.len ≤ 80)))

/-- State word `i` of an image. -/
def imageWord (img : List Byte) (i : Nat) : List Byte := (img.drop (64 + 64 * i)).take 64

/-- 07 R298, R299: a graph image's checks. -/
def graphImageOk (img : List Byte) : Bool :=
  let n := leAt img 4 2
  leAt img 0 2 == 0x4847 && decide (1 ≤ n) && decide (n ≤ 256) && zeroBytes img 6 2 && zeroBytes img 12 52 &&
    img.length == 64 + 64 * n && crc32 (img.drop 64) == leAt img 8 4 &&
    (List.range n).all (fun i => stateWordOk n (imageWord img i))

end Sys2Proof.Machine
end

