-- ==== Sys2Proof/Machine/RegMap.lean ====
section
/-! DEFINITION. The BAR0 register map: the address of every register, the place of every field, and the row
(reset word and writable bits by access code) of every register, block by block as the spec's tables give them
(00 R6, R8; 02 R53, R54; 03 R114, R115, R118, R119; 04 R124, R127; 05 R210 to R213; 06 R258, R259; 07 R305, R306;
08 R349, R350; 09 R375 to R378; 10 R411, R412; 11 R448 to R450; 12 R481, R482; 13 R523, R524; 14 R544, R545;
15 R562, R563; 16 R592, R593; 17 R618, R619). -/

namespace Sys2Proof.Machine

/-- A field of a register: the register's BAR0 address, the lowest bit, the width. -/
structure Fld where
  addr : Nat
  lsb  : Nat
  w    : Nat
  deriving DecidableEq, Repr

/-- One row of a register table, for an array of `n1` by `n2` registers with strides `s1` and `s2`: the reset word
and the bits that take a host write under each access code of R6. A bit in none of them is RO or reserved. -/
structure RegRow where
  base  : Nat
  n1    : Nat := 1
  s1    : Nat := 0x10000000
  n2    : Nat := 1
  s2    : Nat := 4
  reset : BitVec 32 := 0
  rw    : BitVec 32 := 0
  rws   : BitVec 32 := 0
  w1c   : BitVec 32 := 0
  w1s   : BitVec 32 := 0
  wo    : BitVec 32 := 0
  deriving DecidableEq, Repr

/-- Whether the row has a register at address `a`. -/
def RegRow.covers (r : RegRow) (a : Nat) : Bool :=
  decide (r.base ≤ a) &&
    (let off := a - r.base
     let rem := off % r.s1
     decide (off / r.s1 < r.n1) && decide (rem / r.s2 < r.n2) && rem % r.s2 == 0)


namespace R

/-- 02 R53 (PWR_STATUS, RO). -/
def PWR_STATUS : Nat := 0xC00000
/-- 02 R53 (PWR_EVENT, W1C). -/
def PWR_EVENT : Nat := 0xC00004
/-- 02 R53 (PWR_VIN, RO). -/
def PWR_VIN : Nat := 0xC00008
/-- 02 R53 (PWR_PIN, RO). -/
def PWR_PIN : Nat := 0xC0000C
/-- 02 R53 (PWR_TEMP, RO). -/
def PWR_TEMP : Nat := 0xC00010
/-- 02 R53 (PWR_THERM_CFG, RWS). -/
def PWR_THERM_CFG : Nat := 0xC00014
/-- 02 R53 (PWR_BP_CTRL, RWS). -/
def PWR_BP_CTRL : Nat := 0xC00020
/-- 02 R53 (PWR_BP_STATUS, RO). -/
def PWR_BP_STATUS : Nat := 0xC00024
/-- 02 R53 (PWR_BP_HOLD, RWS). -/
def PWR_BP_HOLD : Nat := 0xC00028
/-- 02 R53 (PWR_BP_MAP0, RWS). -/
def PWR_BP_MAP0 : Nat := 0xC00030
/-- 02 R53 (PWR_BP_MAP1, RWS). -/
def PWR_BP_MAP1 : Nat := 0xC00034
/-- 02 R53 (PWR_BP_MAP2, RWS). -/
def PWR_BP_MAP2 : Nat := 0xC00038
/-- 02 R53 (PWR_BP_MAP3, RWS). -/
def PWR_BP_MAP3 : Nat := 0xC0003C
/-- 03 R114 (RST_CAUSE, W1C). -/
def RST_CAUSE : Nat := 0x10000
/-- 03 R114 (RST_STRAP, RO). -/
def RST_STRAP : Nat := 0x10004
/-- 03 R114 (RST_SWREQ, WO). -/
def RST_SWREQ : Nat := 0x10008
/-- 03 R114 (RST_DOMAIN, RO). -/
def RST_DOMAIN : Nat := 0x1000C
/-- 03 R114 (RST_FORCE, W1S). -/
def RST_FORCE : Nat := 0x10010
/-- 03 R114 (RST_BOOT, RO). -/
def RST_BOOT : Nat := 0x10014
/-- 03 R114 (RST_DBG_REQ, WO). -/
def RST_DBG_REQ : Nat := 0x10018
/-- 03 R118 (NVS_STATUS, RO). -/
def NVS_STATUS : Nat := 0x20000
/-- 03 R118 (NVS_IMG, RO). -/
def NVS_IMG : Nat := 0x20004
/-- 03 R118 (NVS_CAL, RO). -/
def NVS_CAL : Nat := 0x20008
/-- 03 R118 (NVS_CFG, RO). -/
def NVS_CFG : Nat := 0x2000C
/-- 03 R118 (NVS_LEDGER_HEAD, RO). -/
def NVS_LEDGER_HEAD : Nat := 0x20010
/-- 04 R124 (SYS_ID, RO). -/
def SYS_ID : Nat := 0x0
/-- 04 R124 (SYS_CTRL, W1S). -/
def SYS_CTRL : Nat := 0x4
/-- 04 R124 (SYS_STATUS, RO). -/
def SYS_STATUS : Nat := 0x8
/-- 04 R124 (SYS_SCRATCH, RW). -/
def SYS_SCRATCH : Nat := 0xC
/-- 04 R127 (HIF_STATUS, RO). -/
def HIF_STATUS : Nat := 0x40000
/-- 04 R127 (HIF_ERR, W1C). -/
def HIF_ERR : Nat := 0x40004
/-- 04 R127 (HIF_DL_ADDR_LO, RW). -/
def HIF_DL_ADDR_LO : Nat := 0x40010
/-- 04 R127 (HIF_DL_ADDR_HI, RW). -/
def HIF_DL_ADDR_HI : Nat := 0x40014
/-- 04 R127 (HIF_DL_LEN, RW). -/
def HIF_DL_LEN : Nat := 0x40018
/-- 04 R127 (HIF_DL_CTRL, WO). -/
def HIF_DL_CTRL : Nat := 0x4001C
/-- 04 R127 (HIF_DL_STATUS, RO). -/
def HIF_DL_STATUS : Nat := 0x40020
/-- 04 R127 (HIF_RING_SQ_LO, RWS). -/
def HIF_RING_SQ_LO (r : Nat) : Nat := 0x41000 + 0x40 * r
/-- 04 R127 (HIF_RING_SQ_HI, RWS). -/
def HIF_RING_SQ_HI (r : Nat) : Nat := 0x41004 + 0x40 * r
/-- 04 R127 (HIF_RING_CQ_LO, RWS). -/
def HIF_RING_CQ_LO (r : Nat) : Nat := 0x41008 + 0x40 * r
/-- 04 R127 (HIF_RING_CQ_HI, RWS). -/
def HIF_RING_CQ_HI (r : Nat) : Nat := 0x4100C + 0x40 * r
/-- 04 R127 (HIF_RING_CFG, RWS). -/
def HIF_RING_CFG (r : Nat) : Nat := 0x41010 + 0x40 * r
/-- 04 R127 (HIF_RING_PARAM, RWS). -/
def HIF_RING_PARAM (r : Nat) : Nat := 0x41014 + 0x40 * r
/-- 05 R210 (LANE_CFG, RWS). -/
def LANE_CFG (n : Nat) : Nat := 0x100000 + 0x400 * n
/-- 05 R210 (LANE_EQ, RWS). -/
def LANE_EQ (n : Nat) : Nat := 0x100004 + 0x400 * n
/-- 05 R210 (LANE_PRBS, RWS). -/
def LANE_PRBS (n : Nat) : Nat := 0x100008 + 0x400 * n
/-- 05 R210 (LANE_STATUS, RO). -/
def LANE_STATUS (n : Nat) : Nat := 0x100010 + 0x400 * n
/-- 05 R210 (LANE_EVENT, W1C). -/
def LANE_EVENT (n : Nat) : Nat := 0x100014 + 0x400 * n
/-- 05 R210 (LANE_EQ_STATUS, RO). -/
def LANE_EQ_STATUS (n : Nat) : Nat := 0x100018 + 0x400 * n
/-- 05 R210 (LANE_DELAY_TX, RO). -/
def LANE_DELAY_TX (n : Nat) : Nat := 0x100020 + 0x400 * n
/-- 05 R210 (LANE_DELAY_RX, RO). -/
def LANE_DELAY_RX (n : Nat) : Nat := 0x100024 + 0x400 * n
/-- 05 R210 (LANE_PRBS_ERR, RO). -/
def LANE_PRBS_ERR (n : Nat) : Nat := 0x100028 + 0x400 * n
/-- 05 R212 (OE_CFG, RWS). -/
def OE_CFG (k : Nat) : Nat := 0x180000 + 0x1000 * k
/-- 05 R212 (OE_STATUS, RO). -/
def OE_STATUS (k : Nat) : Nat := 0x180004 + 0x1000 * k
/-- 05 R212 (OE_EVENT, W1C). -/
def OE_EVENT (k : Nat) : Nat := 0x180008 + 0x1000 * k
/-- 05 R212 (OE_LASER, RO). -/
def OE_LASER (k : Nat) : Nat := 0x18000C + 0x1000 * k
/-- 05 R212 (OE_TEMP, RO). -/
def OE_TEMP (k : Nat) : Nat := 0x180010 + 0x1000 * k
/-- 05 R212 (OE_LANE_PWR, RO). -/
def OE_LANE_PWR (k : Nat) (l : Nat) : Nat := 0x180020 + 0x1000 * k + 0x4 * l
/-- 05 R212 (OE_ALARM, RWS). -/
def OE_ALARM (k : Nat) : Nat := 0x180040 + 0x1000 * k
/-- 06 R258 (MAC_CFG, RWS). -/
def MAC_CFG (p : Nat) : Nat := 0x200000 + 0x800 * p
/-- 06 R258 (MAC_TAG, RWS). -/
def MAC_TAG (p : Nat) : Nat := 0x200004 + 0x800 * p
/-- 06 R258 (MAC_PAUSE, RWS). -/
def MAC_PAUSE (p : Nat) : Nat := 0x200008 + 0x800 * p
/-- 06 R258 (MAC_LAUNCH, RWS). -/
def MAC_LAUNCH (p : Nat) : Nat := 0x20000C + 0x800 * p
/-- 06 R258 (MAC_ADDR_LO, RWS). -/
def MAC_ADDR_LO (p : Nat) : Nat := 0x200010 + 0x800 * p
/-- 06 R258 (MAC_ADDR_HI, RWS). -/
def MAC_ADDR_HI (p : Nat) : Nat := 0x200014 + 0x800 * p
/-- 06 R258 (MAC_STATUS, RO). -/
def MAC_STATUS (p : Nat) : Nat := 0x200020 + 0x800 * p
/-- 06 R258 (MAC_EVENT, W1C). -/
def MAC_EVENT (p : Nat) : Nat := 0x200024 + 0x800 * p
/-- 06 R258 (MAC_BOBBIN, RO). -/
def MAC_BOBBIN (p : Nat) : Nat := 0x200028 + 0x800 * p
/-- 06 R258 (MAC_SHED_STATUS, RO). -/
def MAC_SHED_STATUS (p : Nat) : Nat := 0x200030 + 0x800 * p
/-- 06 R258 (MAC_FILTER, RWS). -/
def MAC_FILTER (p : Nat) (f : Nat) : Nat := 0x200100 + 0x800 * p + 0x10 * f
/-- 06 R258 (MAC_VLAN_MEMBER, RWS). -/
def MAC_VLAN_MEMBER (p : Nat) (w : Nat) : Nat := 0x200400 + 0x800 * p + 0x4 * w
/-- 07 R305 (HED_CTRL, RWS). -/
def HED_CTRL : Nat := 0x400000
/-- 07 R305 (HED_STATUS, RO). -/
def HED_STATUS : Nat := 0x400004
/-- 07 R305 (HED_FAULT, W1C). -/
def HED_FAULT : Nat := 0x400008
/-- 07 R305 (HED_EVENT, W1C). -/
def HED_EVENT : Nat := 0x40000C
/-- 07 R305 (HED_GEN_STATUS, RO). -/
def HED_GEN_STATUS : Nat := 0x400010
/-- 07 R305 (HED_GEN_TAG0, RO). -/
def HED_GEN_TAG0 : Nat := 0x400014
/-- 07 R305 (HED_GEN_TAG1, RO). -/
def HED_GEN_TAG1 : Nat := 0x400018
/-- 07 R305 (HED_MALF_CFG, RWS). -/
def HED_MALF_CFG : Nat := 0x400020
/-- 07 R305 (HED_MALF_CNT_LO, RO). -/
def HED_MALF_CNT_LO (c : Nat) : Nat := 0x400040 + 0x8 * c
/-- 07 R305 (HED_MALF_CNT_HI, RO). -/
def HED_MALF_CNT_HI (c : Nat) : Nat := 0x400044 + 0x8 * c
/-- 07 R305 (HED_FDB_CFG, RWS). -/
def HED_FDB_CFG : Nat := 0x400060
/-- 07 R305 (HED_FDB_STATUS, RO). -/
def HED_FDB_STATUS : Nat := 0x400064
/-- 07 R305 (HED_LEARN, RWS). -/
def HED_LEARN (w : Nat) : Nat := 0x400080 + 0x4 * w
/-- 07 R305 (HED_ECC_ADDR, RO). -/
def HED_ECC_ADDR : Nat := 0x4000C0
/-- 07 R305 (HED_HEDDLE, RO). -/
def HED_HEDDLE (h : Nat) : Nat := 0x400100 + 0x4 * h
/-- 07 R305 (HED_GRAPH, RWS). -/
def HED_GRAPH (h : Nat) : Nat := 0x410000 + 0x4000 * h
/-- 08 R349 (LOOM_STATUS, RO). -/
def LOOM_STATUS : Nat := 0x600000
/-- 08 R349 (LOOM_EVENT, W1C). -/
def LOOM_EVENT : Nat := 0x600004
/-- 08 R349 (LOOM_ECC_ADDR, RO). -/
def LOOM_ECC_ADDR : Nat := 0x600008
/-- 08 R349 (LOOM_STALL_CFG, RWS). -/
def LOOM_STALL_CFG (n : Nat) : Nat := 0x600010 + 0x4 * n
/-- 08 R349 (LOOM_SPILL_CFG, RWS). -/
def LOOM_SPILL_CFG : Nat := 0x6000A0
/-- 08 R349 (LOOM_AGE, RWS). -/
def LOOM_AGE : Nat := 0x6000A4
/-- 08 R349 (LOOM_MCAST_WAIT, RWS). -/
def LOOM_MCAST_WAIT : Nat := 0x6000A8
/-- 08 R349 (LOOM_HAYLOFT, RO). -/
def LOOM_HAYLOFT : Nat := 0x6000AC
/-- 08 R349 (LOOM_HALT, RWS). -/
def LOOM_HALT (p : Nat) : Nat := 0x601000 + 0x8 * p
/-- 08 R349 (LOOM_HALT_STATUS, RO). -/
def LOOM_HALT_STATUS (p : Nat) : Nat := 0x602000 + 0x4 * p
/-- 08 R349 (LOOM_MIRROR, RWS). -/
def LOOM_MIRROR (m : Nat) : Nat := 0x603000 + 0x8 * m
/-- 08 R349 (LOOM_WOVEN, RO). -/
def LOOM_WOVEN (w : Nat) : Nat := 0x620000 + 0x20 * w
/-- 08 R349 (LOOM_GROUP, RWS). -/
def LOOM_GROUP (g : Nat) : Nat := 0x680000 + 0x40 * g
/-- 09 R375 (EGR_CLASS_LEVEL, RWS). -/
def EGR_CLASS_LEVEL (p : Nat) : Nat := 0x700000 + 0x20 * p
/-- 09 R375 (EGR_CLASS_WEIGHT0, RWS). -/
def EGR_CLASS_WEIGHT0 (p : Nat) : Nat := 0x700004 + 0x20 * p
/-- 09 R375 (EGR_CLASS_WEIGHT1, RWS). -/
def EGR_CLASS_WEIGHT1 (p : Nat) : Nat := 0x700008 + 0x20 * p
/-- 09 R375 (EGR_RATION_CFG, RWS). -/
def EGR_RATION_CFG (p : Nat) : Nat := 0x70000C + 0x20 * p
/-- 09 R375 (EGR_PORT_STATUS, RO). -/
def EGR_PORT_STATUS (p : Nat) : Nat := 0x700010 + 0x20 * p
/-- 09 R375 (EGR_QUEUED, RO). -/
def EGR_QUEUED (p : Nat) : Nat := 0x700014 + 0x20 * p
/-- 09 R375 (EGR_RATION_WEIGHT, RWS). -/
def EGR_RATION_WEIGHT (i : Nat) : Nat := 0x703000 + 0x4 * i
/-- 09 R375 (EGR_EVENT, W1C). -/
def EGR_EVENT : Nat := 0x704000
/-- 09 R377 (FRER_STATUS, RO). -/
def FRER_STATUS : Nat := 0x780000
/-- 09 R377 (FRER_EVENT, W1C). -/
def FRER_EVENT : Nat := 0x780004
/-- 09 R377 (FRER_STREAM, RWS). -/
def FRER_STREAM (h : Nat) : Nat := 0x790000 + 0x20 * h
/-- 09 R377 (FRER_STATE, RO). -/
def FRER_STATE (h : Nat) : Nat := 0x7C0000 + 0x10 * h
/-- 10 R411 (MEAS_STATUS, RO). -/
def MEAS_STATUS : Nat := 0x900000
/-- 10 R411 (MEAS_EVENT, W1C). -/
def MEAS_EVENT : Nat := 0x900004
/-- 10 R411 (MEAS_XO_AGEING, RWS). -/
def MEAS_XO_AGEING : Nat := 0x900008
/-- 10 R411 (MEAS_XO_CORR_LO, RO). -/
def MEAS_XO_CORR_LO : Nat := 0x900010
/-- 10 R411 (MEAS_XO_CORR_HI, RO). -/
def MEAS_XO_CORR_HI : Nat := 0x900014
/-- 10 R411 (MEAS_SPARE_OFFSET, RO). -/
def MEAS_SPARE_OFFSET : Nat := 0x900018
/-- 10 R411 (MEAS_CH_CFG, RWS). -/
def MEAS_CH_CFG (k : Nat) : Nat := 0x900100 + 0x20 * k
/-- 10 R411 (MEAS_CH_GATE, RWS). -/
def MEAS_CH_GATE (k : Nat) : Nat := 0x900104 + 0x20 * k
/-- 10 R411 (MEAS_CH_ARM, RWS). -/
def MEAS_CH_ARM (k : Nat) : Nat := 0x900108 + 0x20 * k
/-- 10 R411 (MEAS_CH_STATUS, RO). -/
def MEAS_CH_STATUS (k : Nat) : Nat := 0x90010C + 0x20 * k
/-- 10 R411 (MEAS_CH_LOST, RO). -/
def MEAS_CH_LOST (k : Nat) : Nat := 0x900110 + 0x20 * k
/-- 10 R411 (MEAS_CH_STRAY, RO). -/
def MEAS_CH_STRAY (k : Nat) : Nat := 0x900114 + 0x20 * k
/-- 10 R411 (MEAS_CH_DELAY, RO). -/
def MEAS_CH_DELAY (k : Nat) : Nat := 0x900118 + 0x20 * k
/-- 10 R411 (MEAS_TAP_LAST, RO). -/
def MEAS_TAP_LAST (t : Nat) : Nat := 0x910000 + 0x20 * t
/-- 11 R448 (DPLL_CTRL, RWS). -/
def DPLL_CTRL : Nat := 0x880000
/-- 11 R448 (DPLL_STATUS, RO). -/
def DPLL_STATUS : Nat := 0x880004
/-- 11 R448 (DPLL_EVENT, W1C). -/
def DPLL_EVENT : Nat := 0x880008
/-- 11 R448 (DPLL_QUAL, RO). -/
def DPLL_QUAL : Nat := 0x88000C
/-- 11 R448 (DPLL_BW_LINE, RWS). -/
def DPLL_BW_LINE : Nat := 0x880010
/-- 11 R448 (DPLL_BW_CLKIN, RWS). -/
def DPLL_BW_CLKIN : Nat := 0x880014
/-- 11 R448 (DPLL_BW_TIME, RWS). -/
def DPLL_BW_TIME : Nat := 0x880018
/-- 11 R448 (DPLL_BW_NT, RWS). -/
def DPLL_BW_NT : Nat := 0x88001C
/-- 11 R448 (DPLL_HO_CFG, RWS). -/
def DPLL_HO_CFG : Nat := 0x880020
/-- 11 R448 (DPLL_HO_WINDOW, RWS). -/
def DPLL_HO_WINDOW : Nat := 0x880024
/-- 11 R448 (DPLL_SLEW, RWS). -/
def DPLL_SLEW : Nat := 0x880028
/-- 11 R448 (DPLL_STEP, RWS). -/
def DPLL_STEP : Nat := 0x88002C
/-- 11 R448 (DPLL_LOCK, RWS). -/
def DPLL_LOCK : Nat := 0x880030
/-- 11 R448 (DPLL_VOTE, RWS). -/
def DPLL_VOTE : Nat := 0x880034
/-- 11 R448 (DPLL_LEARN, RO). -/
def DPLL_LEARN : Nat := 0x880038
/-- 11 R448 (DPLL_FREQ_LO, RO). -/
def DPLL_FREQ_LO : Nat := 0x880040
/-- 11 R448 (DPLL_FREQ_HI, RO). -/
def DPLL_FREQ_HI : Nat := 0x880044
/-- 11 R448 (DPLL_HO_FREQ_LO, RO). -/
def DPLL_HO_FREQ_LO : Nat := 0x880048
/-- 11 R448 (DPLL_HO_FREQ_HI, RO). -/
def DPLL_HO_FREQ_HI : Nat := 0x88004C
/-- 11 R448 (DPLL_STEER_LO, RO). -/
def DPLL_STEER_LO : Nat := 0x880050
/-- 11 R448 (DPLL_STEER_HI, RO). -/
def DPLL_STEER_HI : Nat := 0x880054
/-- 11 R448 (DPLL_PHASE_ERR, RO). -/
def DPLL_PHASE_ERR : Nat := 0x880058
/-- 11 R448 (DPLL_HO_ELAPSED, RO). -/
def DPLL_HO_ELAPSED : Nat := 0x88005C
/-- 11 R448 (DPLL_ESMC_CFG, RWS). -/
def DPLL_ESMC_CFG : Nat := 0x880060
/-- 11 R448 (DPLL_ESMC_EN, RWS). -/
def DPLL_ESMC_EN (w : Nat) : Nat := 0x880080 + 0x4 * w
/-- 11 R448 (DPLL_REF_CFG, RWS). -/
def DPLL_REF_CFG (r : Nat) : Nat := 0x880100 + 0x20 * r
/-- 11 R448 (DPLL_REF_FREQ, RWS). -/
def DPLL_REF_FREQ (r : Nat) : Nat := 0x880104 + 0x20 * r
/-- 11 R448 (DPLL_REF_LIMITS, RWS). -/
def DPLL_REF_LIMITS (r : Nat) : Nat := 0x880108 + 0x20 * r
/-- 11 R448 (DPLL_REF_TIMING, RWS). -/
def DPLL_REF_TIMING (r : Nat) : Nat := 0x88010C + 0x20 * r
/-- 11 R448 (DPLL_REF_DRIFT, RWS). -/
def DPLL_REF_DRIFT (r : Nat) : Nat := 0x880110 + 0x20 * r
/-- 11 R448 (DPLL_REF_DELAY, RWS). -/
def DPLL_REF_DELAY (r : Nat) : Nat := 0x880114 + 0x20 * r
/-- 11 R448 (DPLL_REF_STATUS, RO). -/
def DPLL_REF_STATUS (r : Nat) : Nat := 0x880118 + 0x20 * r
/-- 11 R448 (DPLL_REF_OFFSET, RO). -/
def DPLL_REF_OFFSET (r : Nat) : Nat := 0x88011C + 0x20 * r
/-- 12 R481 (SYN_STATUS, RO). -/
def SYN_STATUS : Nat := 0x8C0000
/-- 12 R481 (SYN_EVENT, W1C). -/
def SYN_EVENT : Nat := 0x8C0004
/-- 12 R481 (SYN_CFG, RWS). -/
def SYN_CFG : Nat := 0x8C0008
/-- 12 R481 (SYN_RELOCKS, RO). -/
def SYN_RELOCKS : Nat := 0x8C000C
/-- 12 R481 (CLKOUT_CFG, RWS). -/
def CLKOUT_CFG (k : Nat) : Nat := 0x8C0100 + 0x10 * k
/-- 12 R481 (CLKOUT_DIV_LO, RWS). -/
def CLKOUT_DIV_LO (k : Nat) : Nat := 0x8C0104 + 0x10 * k
/-- 12 R481 (CLKOUT_DIV_HI, RWS). -/
def CLKOUT_DIV_HI (k : Nat) : Nat := 0x8C0108 + 0x10 * k
/-- 12 R481 (CLKOUT_DELAY, RWS). -/
def CLKOUT_DELAY (k : Nat) : Nat := 0x8C010C + 0x10 * k
/-- 12 R481 (PULSE_CFG, RWS). -/
def PULSE_CFG (o : Nat) : Nat := 0x8C0200 + 0x20 * o
/-- 12 R481 (PULSE_PERIOD, RWS). -/
def PULSE_PERIOD (o : Nat) : Nat := 0x8C0204 + 0x20 * o
/-- 12 R481 (PULSE_WIDTH, RWS). -/
def PULSE_WIDTH (o : Nat) : Nat := 0x8C0208 + 0x20 * o
/-- 12 R481 (PULSE_DELAY, RWS). -/
def PULSE_DELAY (o : Nat) : Nat := 0x8C020C + 0x20 * o
/-- 12 R481 (PULSE_OFFSET_LO, RO). -/
def PULSE_OFFSET_LO (o : Nat) : Nat := 0x8C0210 + 0x20 * o
/-- 12 R481 (PULSE_OFFSET_HI, RO). -/
def PULSE_OFFSET_HI (o : Nat) : Nat := 0x8C0214 + 0x20 * o
/-- 12 R481 (PULSE_STATUS, RO). -/
def PULSE_STATUS (o : Nat) : Nat := 0x8C0218 + 0x20 * o
/-- 12 R481 (TRD_CFG, RWS). -/
def TRD_CFG (t : Nat) : Nat := 0x8C0300 + 0x20 * t
/-- 12 R481 (TRD_START_LO, RWS). -/
def TRD_START_LO (t : Nat) : Nat := 0x8C0304 + 0x20 * t
/-- 12 R481 (TRD_START_HI, RWS). -/
def TRD_START_HI (t : Nat) : Nat := 0x8C0308 + 0x20 * t
/-- 12 R481 (TRD_PERIOD, RWS). -/
def TRD_PERIOD (t : Nat) : Nat := 0x8C030C + 0x20 * t
/-- 12 R481 (TRD_WIDTH, RWS). -/
def TRD_WIDTH (t : Nat) : Nat := 0x8C0310 + 0x20 * t
/-- 12 R481 (TRD_COUNT, RWS). -/
def TRD_COUNT (t : Nat) : Nat := 0x8C0314 + 0x20 * t
/-- 12 R481 (TRD_DONE, RO). -/
def TRD_DONE (t : Nat) : Nat := 0x8C0318 + 0x20 * t
/-- 12 R481 (TRD_MISSED, RO). -/
def TRD_MISSED (t : Nat) : Nat := 0x8C031C + 0x20 * t
/-- 12 R481 (TOD_CFG, RWS). -/
def TOD_CFG : Nat := 0x8C0400
/-- 12 R481 (TOD_STATUS, RO). -/
def TOD_STATUS : Nat := 0x8C0404
/-- 12 R481 (TOD_RX_SEC_LO, RO). -/
def TOD_RX_SEC_LO : Nat := 0x8C0408
/-- 12 R481 (TOD_RX_SEC_HI, RO). -/
def TOD_RX_SEC_HI : Nat := 0x8C040C
/-- 12 R481 (TOD_RX_ERR, RO). -/
def TOD_RX_ERR : Nat := 0x8C0410
/-- 13 R523 (TIME_CTRL, RWS). -/
def TIME_CTRL : Nat := 0x800000
/-- 13 R523 (TIME_STATUS, RO). -/
def TIME_STATUS : Nat := 0x800004
/-- 13 R523 (TIME_EVENT, W1C). -/
def TIME_EVENT : Nat := 0x800008
/-- 13 R523 (TIME_CT_LO, RO). -/
def TIME_CT_LO : Nat := 0x800010
/-- 13 R523 (TIME_CT_HI, RO). -/
def TIME_CT_HI : Nat := 0x800014
/-- 13 R523 (TIME_SEC_LO, RO). -/
def TIME_SEC_LO : Nat := 0x800018
/-- 13 R523 (TIME_SEC_HI, RO). -/
def TIME_SEC_HI : Nat := 0x80001C
/-- 13 R523 (TIME_NS, RO). -/
def TIME_NS : Nat := 0x800020
/-- 13 R523 (TIME_UTC, RWS). -/
def TIME_UTC : Nat := 0x800024
/-- 13 R523 (TIME_EST, RO). -/
def TIME_EST : Nat := 0x800028
/-- 13 R523 (KPL_PORT_CFG, RWS). -/
def KPL_PORT_CFG (p : Nat) : Nat := 0x800100 + 0x20 * p
/-- 13 R523 (KPL_ASYM, RWS). -/
def KPL_ASYM (p : Nat) : Nat := 0x800104 + 0x20 * p
/-- 13 R523 (KPL_STATUS, RO). -/
def KPL_STATUS (p : Nat) : Nat := 0x800108 + 0x20 * p
/-- 13 R523 (KPL_DELAY, RO). -/
def KPL_DELAY (p : Nat) : Nat := 0x80010C + 0x20 * p
/-- 13 R523 (KPL_OFFSET, RO). -/
def KPL_OFFSET (p : Nat) : Nat := 0x800110 + 0x20 * p
/-- 13 R523 (KPL_PEER_ID_LO, RO). -/
def KPL_PEER_ID_LO (p : Nat) : Nat := 0x800114 + 0x20 * p
/-- 13 R523 (KPL_PEER_ID_HI, RO). -/
def KPL_PEER_ID_HI (p : Nat) : Nat := 0x800118 + 0x20 * p
/-- 13 R523 (PTP_PORT_CFG, RWS). -/
def PTP_PORT_CFG (p : Nat) : Nat := 0x804000 + 0x10 * p
/-- 13 R523 (PTP_PORT_INTERVALS, RWS). -/
def PTP_PORT_INTERVALS (p : Nat) : Nat := 0x804004 + 0x10 * p
/-- 13 R523 (PTP_PORT_ASYM, RWS). -/
def PTP_PORT_ASYM (p : Nat) : Nat := 0x804008 + 0x10 * p
/-- 13 R523 (PTP_PORT_STATUS, RO). -/
def PTP_PORT_STATUS (p : Nat) : Nat := 0x80400C + 0x10 * p
/-- 13 R523 (PTP_CLOCK_CFG, RWS). -/
def PTP_CLOCK_CFG : Nat := 0x806000
/-- 13 R523 (PTP_CLOCK_ID_LO, RWS). -/
def PTP_CLOCK_ID_LO : Nat := 0x806004
/-- 13 R523 (PTP_CLOCK_ID_HI, RWS). -/
def PTP_CLOCK_ID_HI : Nat := 0x806008
/-- 13 R523 (PTP_CLOCK_QUAL, RO). -/
def PTP_CLOCK_QUAL : Nat := 0x80600C
/-- 14 R544 (GNSS_CFG, RWS). -/
def GNSS_CFG : Nat := 0x940000
/-- 14 R544 (GNSS_LIMITS, RWS). -/
def GNSS_LIMITS : Nat := 0x940004
/-- 14 R544 (GNSS_SURVEY, RWS). -/
def GNSS_SURVEY : Nat := 0x940008
/-- 14 R544 (GNSS_SPOOF, RWS). -/
def GNSS_SPOOF : Nat := 0x94000C
/-- 14 R544 (GNSS_STATUS, RO). -/
def GNSS_STATUS : Nat := 0x940010
/-- 14 R544 (GNSS_EVENT, W1C). -/
def GNSS_EVENT : Nat := 0x940014
/-- 14 R544 (GNSS_JAM, RO). -/
def GNSS_JAM : Nat := 0x940018
/-- 14 R544 (GNSS_UTC, RO). -/
def GNSS_UTC : Nat := 0x94001C
/-- 14 R544 (GNSS_NOTCH, RO). -/
def GNSS_NOTCH (n : Nat) : Nat := 0x940020 + 0x4 * n
/-- 14 R544 (GNSS_POS_X_LO, RWS). -/
def GNSS_POS_X_LO : Nat := 0x940040
/-- 14 R544 (GNSS_POS_X_HI, RWS). -/
def GNSS_POS_X_HI : Nat := 0x940044
/-- 14 R544 (GNSS_POS_Y_LO, RWS). -/
def GNSS_POS_Y_LO : Nat := 0x940048
/-- 14 R544 (GNSS_POS_Y_HI, RWS). -/
def GNSS_POS_Y_HI : Nat := 0x94004C
/-- 14 R544 (GNSS_POS_Z_LO, RWS). -/
def GNSS_POS_Z_LO : Nat := 0x940050
/-- 14 R544 (GNSS_POS_Z_HI, RWS). -/
def GNSS_POS_Z_HI : Nat := 0x940054
/-- 14 R544 (GNSS_CH, RO). -/
def GNSS_CH (c : Nat) : Nat := 0x941000 + 0x8 * c
/-- 15 R562 (CAL_CTRL, RWS). -/
def CAL_CTRL : Nat := 0x980000
/-- 15 R562 (CAL_STATUS, RO). -/
def CAL_STATUS : Nat := 0x980004
/-- 15 R562 (CAL_EVENT, W1C). -/
def CAL_EVENT : Nat := 0x980008
/-- 15 R562 (CAL_ITEM, RO). -/
def CAL_ITEM (i : Nat) : Nat := 0x980100 + 0x4 * i
/-- 16 R592 (GROOM_CTRL, RWS). -/
def GROOM_CTRL : Nat := 0xA00000
/-- 16 R592 (GROOM_STATUS, RO). -/
def GROOM_STATUS : Nat := 0xA00004
/-- 16 R592 (GROOM_EVENT, W1C). -/
def GROOM_EVENT : Nat := 0xA00008
/-- 16 R592 (GROOM_LAST_FAULT, RO). -/
def GROOM_LAST_FAULT : Nat := 0xA0000C
/-- 16 R592 (GROOM_IDENT_A, RO). -/
def GROOM_IDENT_A : Nat := 0xA00010
/-- 16 R592 (GROOM_IDENT_B, RO). -/
def GROOM_IDENT_B : Nat := 0xA00014
/-- 16 R592 (GROOM_RESTARTS, RO). -/
def GROOM_RESTARTS : Nat := 0xA00018
/-- 16 R592 (GROOM_OUT_SEQ_LO, RO). -/
def GROOM_OUT_SEQ_LO : Nat := 0xA00020
/-- 16 R592 (GROOM_OUT_SEQ_HI, RO). -/
def GROOM_OUT_SEQ_HI : Nat := 0xA00024
/-- 16 R592 (GROOM_TASK_CFG, RWS). -/
def GROOM_TASK_CFG : Nat := 0xA00030
/-- 16 R592 (GROOM_TASK_STATUS, RO). -/
def GROOM_TASK_STATUS : Nat := 0xA00034
/-- 16 R592 (GROOM_PC_CTRL, RWS). -/
def GROOM_PC_CTRL (c : Nat) : Nat := 0xA01000 + 0x100 * c
/-- 16 R592 (GROOM_PC_STICKY, W1C). -/
def GROOM_PC_STICKY (c : Nat) : Nat := 0xA01004 + 0x100 * c
/-- 16 R592 (GROOM_CYC_LO, RO). -/
def GROOM_CYC_LO (c : Nat) : Nat := 0xA01008 + 0x100 * c
/-- 16 R592 (GROOM_CYC_HI, RO). -/
def GROOM_CYC_HI (c : Nat) : Nat := 0xA0100C + 0x100 * c
/-- 16 R592 (GROOM_PC_SEL, RWS). -/
def GROOM_PC_SEL (c : Nat) (k : Nat) : Nat := 0xA01010 + 0x100 * c + 0x4 * k
/-- 16 R592 (GROOM_PC_LO, RWS). -/
def GROOM_PC_LO (c : Nat) (k : Nat) : Nat := 0xA01040 + 0x100 * c + 0x8 * k
/-- 16 R592 (GROOM_PC_HI, RWS). -/
def GROOM_PC_HI (c : Nat) (k : Nat) : Nat := 0xA01044 + 0x100 * c + 0x8 * k
/-- 16 R592 (GROOM_LOG_CTRL, RWS). -/
def GROOM_LOG_CTRL (c : Nat) : Nat := 0xA01080 + 0x100 * c
/-- 16 R592 (GROOM_LOG_PERIOD, RWS). -/
def GROOM_LOG_PERIOD (c : Nat) : Nat := 0xA01084 + 0x100 * c
/-- 16 R592 (GROOM_LOG_STATUS, RO). -/
def GROOM_LOG_STATUS (c : Nat) : Nat := 0xA01088 + 0x100 * c
/-- 16 R592 (GROOM_HPC_SEL, RWS). -/
def GROOM_HPC_SEL (h : Nat) : Nat := 0xA02000 + 0x40 * h
/-- 16 R592 (GROOM_HPC_STICKY, W1C). -/
def GROOM_HPC_STICKY (h : Nat) : Nat := 0xA02004 + 0x40 * h
/-- 16 R592 (GROOM_HPC_LO, RWS). -/
def GROOM_HPC_LO (h : Nat) (k : Nat) : Nat := 0xA02008 + 0x40 * h + 0x8 * k
/-- 16 R592 (GROOM_HPC_HI, RWS). -/
def GROOM_HPC_HI (h : Nat) (k : Nat) : Nat := 0xA0200C + 0x40 * h + 0x8 * k
/-- 17 R618 (OBS_STATUS, RO). -/
def OBS_STATUS : Nat := 0xB00000
/-- 17 R618 (OBS_EVENT, W1C). -/
def OBS_EVENT : Nat := 0xB00004
/-- 17 R618 (OBS_WRAP, W1C). -/
def OBS_WRAP : Nat := 0xB00008
/-- 17 R618 (OBS_CFG, RWS). -/
def OBS_CFG : Nat := 0xB0000C
/-- 17 R618 (OBS_HEALTH, RO). -/
def OBS_HEALTH : Nat := 0xB00010
/-- 17 R618 (OBS_PEEK_SEL, RW). -/
def OBS_PEEK_SEL : Nat := 0xB00020
/-- 17 R618 (OBS_PEEK_DATA, RO). -/
def OBS_PEEK_DATA (w : Nat) : Nat := 0xB00100 + 0x4 * w
/-- 04 R127: word `w` (0 to 3) of MSI-X table entry `v`. -/
def MSIX_TABLE (v : Nat) (w : Nat) : Nat := 0x48000 + 0x10 * v + 4 * w
/-- 04 R127: word `w` (0 to 3) of the MSI-X pending bits. -/
def MSIX_PBA (w : Nat) : Nat := 0x49000 + 4 * w
/-- 03 R118: the read-only window on FRAM byte `b` (its word is at `b - b mod 4`). -/
def NVS_FRAM (b : Nat) : Nat := 0x30000 + b

end R

namespace F

/-- PWR_STATUS, RO. -/
def PWR_STATUS_PWR_WARN : Fld := ⟨R.PWR_STATUS, 0, 1⟩
/-- PWR_STATUS, RO. -/
def PWR_STATUS_DIE_WARN : Fld := ⟨R.PWR_STATUS, 1, 1⟩
/-- PWR_STATUS, RO. -/
def PWR_STATUS_OE_WARN : Fld := ⟨R.PWR_STATUS, 2, 1⟩
/-- PWR_EVENT, W1C. -/
def PWR_EVENT_PWR_WARN_SEEN : Fld := ⟨R.PWR_EVENT, 0, 1⟩
/-- PWR_EVENT, W1C. -/
def PWR_EVENT_DIE_WARN_SEEN : Fld := ⟨R.PWR_EVENT, 1, 1⟩
/-- PWR_EVENT, W1C. -/
def PWR_EVENT_OE_WARN_SEEN : Fld := ⟨R.PWR_EVENT, 2, 1⟩
/-- PWR_EVENT, W1C. -/
def PWR_EVENT_OE_SHUTDOWN_SEEN : Fld := ⟨R.PWR_EVENT, 3, 1⟩
/-- PWR_EVENT, W1C. -/
def PWR_EVENT_OVERVOLT_SEEN : Fld := ⟨R.PWR_EVENT, 4, 1⟩
/-- PWR_VIN, RO. -/
def PWR_VIN_VIN_MV : Fld := ⟨R.PWR_VIN, 0, 17⟩
/-- PWR_PIN, RO. -/
def PWR_PIN_PIN_DW : Fld := ⟨R.PWR_PIN, 0, 16⟩
/-- PWR_TEMP, RO. -/
def PWR_TEMP_DIE_MAX : Fld := ⟨R.PWR_TEMP, 0, 16⟩
/-- PWR_TEMP, RO. -/
def PWR_TEMP_OE_MAX : Fld := ⟨R.PWR_TEMP, 16, 16⟩
/-- PWR_THERM_CFG, RWS. -/
def PWR_THERM_CFG_DIE_WARN_C : Fld := ⟨R.PWR_THERM_CFG, 0, 8⟩
/-- PWR_THERM_CFG, RWS. -/
def PWR_THERM_CFG_OE_WARN_C : Fld := ⟨R.PWR_THERM_CFG, 8, 8⟩
/-- PWR_BP_CTRL, RWS. -/
def PWR_BP_CTRL_KEEP_EN : Fld := ⟨R.PWR_BP_CTRL, 0, 4⟩
/-- PWR_BP_CTRL, RWS. -/
def PWR_BP_CTRL_AUTO_DROP : Fld := ⟨R.PWR_BP_CTRL, 4, 4⟩
/-- PWR_BP_STATUS, RO. -/
def PWR_BP_STATUS_KEEP_ACTIVE : Fld := ⟨R.PWR_BP_STATUS, 0, 4⟩
/-- PWR_BP_STATUS, RO. -/
def PWR_BP_STATUS_DROPPED : Fld := ⟨R.PWR_BP_STATUS, 4, 4⟩
/-- PWR_BP_STATUS, RO. -/
def PWR_BP_STATUS_MAP_ERROR : Fld := ⟨R.PWR_BP_STATUS, 8, 4⟩
/-- PWR_BP_HOLD, RWS. -/
def PWR_BP_HOLD_LINK_HOLD_MS : Fld := ⟨R.PWR_BP_HOLD, 0, 16⟩
/-- PWR_BP_MAP0, RWS. -/
def PWR_BP_MAP0_PORT_A : Fld := ⟨R.PWR_BP_MAP0, 0, 9⟩
/-- PWR_BP_MAP0, RWS. -/
def PWR_BP_MAP0_PORT_B : Fld := ⟨R.PWR_BP_MAP0, 16, 9⟩
/-- PWR_BP_MAP1, RWS. -/
def PWR_BP_MAP1_PORT_A : Fld := ⟨R.PWR_BP_MAP1, 0, 9⟩
/-- PWR_BP_MAP1, RWS. -/
def PWR_BP_MAP1_PORT_B : Fld := ⟨R.PWR_BP_MAP1, 16, 9⟩
/-- PWR_BP_MAP2, RWS. -/
def PWR_BP_MAP2_PORT_A : Fld := ⟨R.PWR_BP_MAP2, 0, 9⟩
/-- PWR_BP_MAP2, RWS. -/
def PWR_BP_MAP2_PORT_B : Fld := ⟨R.PWR_BP_MAP2, 16, 9⟩
/-- PWR_BP_MAP3, RWS. -/
def PWR_BP_MAP3_PORT_A : Fld := ⟨R.PWR_BP_MAP3, 0, 9⟩
/-- PWR_BP_MAP3, RWS. -/
def PWR_BP_MAP3_PORT_B : Fld := ⟨R.PWR_BP_MAP3, 16, 9⟩
/-- RST_CAUSE, W1C. -/
def RST_CAUSE_POR : Fld := ⟨R.RST_CAUSE, 0, 1⟩
/-- RST_CAUSE, W1C. -/
def RST_CAUSE_BOR : Fld := ⟨R.RST_CAUSE, 1, 1⟩
/-- RST_CAUSE, W1C. -/
def RST_CAUSE_PIN : Fld := ⟨R.RST_CAUSE, 2, 1⟩
/-- RST_CAUSE, W1C. -/
def RST_CAUSE_WDOG_A : Fld := ⟨R.RST_CAUSE, 3, 1⟩
/-- RST_CAUSE, W1C. -/
def RST_CAUSE_WDOG_B : Fld := ⟨R.RST_CAUSE, 4, 1⟩
/-- RST_CAUSE, W1C. -/
def RST_CAUSE_LOCKUP_A : Fld := ⟨R.RST_CAUSE, 5, 1⟩
/-- RST_CAUSE, W1C. -/
def RST_CAUSE_LOCKUP_B : Fld := ⟨R.RST_CAUSE, 6, 1⟩
/-- RST_CAUSE, W1C. -/
def RST_CAUSE_SOFT : Fld := ⟨R.RST_CAUSE, 7, 1⟩
/-- RST_CAUSE, W1C. -/
def RST_CAUSE_DEBUG : Fld := ⟨R.RST_CAUSE, 8, 1⟩
/-- RST_CAUSE, W1C. -/
def RST_CAUSE_CLKFAIL : Fld := ⟨R.RST_CAUSE, 9, 1⟩
/-- RST_STRAP, RO. -/
def RST_STRAP_BAND : Fld := ⟨R.RST_STRAP, 0, 4⟩
/-- RST_STRAP, RO. -/
def RST_STRAP_BOOT_SRC : Fld := ⟨R.RST_STRAP, 4, 2⟩
/-- RST_STRAP, RO. -/
def RST_STRAP_WIDTH4 : Fld := ⟨R.RST_STRAP, 6, 1⟩
/-- RST_STRAP, RO. -/
def RST_STRAP_SAFE : Fld := ⟨R.RST_STRAP, 7, 1⟩
/-- RST_STRAP, RO. -/
def RST_STRAP_ROLE : Fld := ⟨R.RST_STRAP, 8, 2⟩
/-- RST_STRAP, RO. -/
def RST_STRAP_INVALID : Fld := ⟨R.RST_STRAP, 10, 1⟩
/-- RST_STRAP, RO. -/
def RST_STRAP_OHMS10 : Fld := ⟨R.RST_STRAP, 12, 20⟩
/-- RST_SWREQ, WO. -/
def RST_SWREQ_SCOPE : Fld := ⟨R.RST_SWREQ, 0, 4⟩
/-- RST_SWREQ, WO. -/
def RST_SWREQ_INDEX : Fld := ⟨R.RST_SWREQ, 4, 9⟩
/-- RST_SWREQ, WO. -/
def RST_SWREQ_KEY : Fld := ⟨R.RST_SWREQ, 16, 16⟩
/-- RST_DOMAIN, RO. -/
def RST_DOMAIN_HELD : Fld := ⟨R.RST_DOMAIN, 0, 9⟩
/-- RST_DOMAIN, RO. -/
def RST_DOMAIN_EXTENDED : Fld := ⟨R.RST_DOMAIN, 9, 9⟩
/-- RST_FORCE, W1S. -/
def RST_FORCE_RELEASE : Fld := ⟨R.RST_FORCE, 0, 9⟩
/-- RST_BOOT, RO. -/
def RST_BOOT_STEP : Fld := ⟨R.RST_BOOT, 0, 8⟩
/-- RST_BOOT, RO. -/
def RST_BOOT_STATE : Fld := ⟨R.RST_BOOT, 8, 2⟩
/-- RST_BOOT, RO. -/
def RST_BOOT_FALLBACK : Fld := ⟨R.RST_BOOT, 10, 8⟩
/-- RST_BOOT, RO. -/
def RST_BOOT_BOOT_LOW : Fld := ⟨R.RST_BOOT, 18, 14⟩
/-- RST_DBG_REQ, WO. -/
def RST_DBG_REQ_SCOPE : Fld := ⟨R.RST_DBG_REQ, 0, 4⟩
/-- NVS_STATUS, RO. -/
def NVS_STATUS_NOR_OK : Fld := ⟨R.NVS_STATUS, 0, 1⟩
/-- NVS_STATUS, RO. -/
def NVS_STATUS_FRAM_OK : Fld := ⟨R.NVS_STATUS, 1, 1⟩
/-- NVS_STATUS, RO. -/
def NVS_STATUS_BUSY : Fld := ⟨R.NVS_STATUS, 2, 1⟩
/-- NVS_STATUS, RO. -/
def NVS_STATUS_LAST_FAIL : Fld := ⟨R.NVS_STATUS, 3, 1⟩
/-- NVS_IMG, RO. -/
def NVS_IMG_VALID : Fld := ⟨R.NVS_IMG, 0, 1⟩
/-- NVS_IMG, RO. -/
def NVS_IMG_SLOT : Fld := ⟨R.NVS_IMG, 1, 1⟩
/-- NVS_IMG, RO. -/
def NVS_IMG_SUSPECT : Fld := ⟨R.NVS_IMG, 2, 2⟩
/-- NVS_IMG, RO. -/
def NVS_IMG_SEQ_LOW : Fld := ⟨R.NVS_IMG, 4, 12⟩
/-- NVS_CAL, RO. -/
def NVS_CAL_VALID : Fld := ⟨R.NVS_CAL, 0, 1⟩
/-- NVS_CAL, RO. -/
def NVS_CAL_SLOT : Fld := ⟨R.NVS_CAL, 1, 1⟩
/-- NVS_CAL, RO. -/
def NVS_CAL_SEQ_LOW : Fld := ⟨R.NVS_CAL, 4, 12⟩
/-- NVS_CFG, RO. -/
def NVS_CFG_VALID : Fld := ⟨R.NVS_CFG, 0, 1⟩
/-- NVS_CFG, RO. -/
def NVS_CFG_SLOT : Fld := ⟨R.NVS_CFG, 1, 1⟩
/-- NVS_CFG, RO. -/
def NVS_CFG_SEQ_LOW : Fld := ⟨R.NVS_CFG, 4, 12⟩
/-- NVS_LEDGER_HEAD, RO. -/
def NVS_LEDGER_HEAD_SEQ : Fld := ⟨R.NVS_LEDGER_HEAD, 0, 32⟩
/-- SYS_ID, RO. -/
def SYS_ID_PART : Fld := ⟨R.SYS_ID, 0, 16⟩
/-- SYS_ID, RO. -/
def SYS_ID_REVISION : Fld := ⟨R.SYS_ID, 16, 4⟩
/-- SYS_ID, RO. -/
def SYS_ID_REACH_L : Fld := ⟨R.SYS_ID, 20, 1⟩
/-- SYS_ID, RO. -/
def SYS_ID_COOLANT_X : Fld := ⟨R.SYS_ID, 21, 1⟩
/-- SYS_CTRL, W1S. -/
def SYS_CTRL_RUN : Fld := ⟨R.SYS_CTRL, 0, 1⟩
/-- SYS_CTRL, W1S. -/
def SYS_CTRL_RELINK_DONE : Fld := ⟨R.SYS_CTRL, 1, 1⟩
/-- SYS_STATUS, RO. -/
def SYS_STATUS_READY : Fld := ⟨R.SYS_STATUS, 0, 1⟩
/-- SYS_STATUS, RO. -/
def SYS_STATUS_RUN : Fld := ⟨R.SYS_STATUS, 1, 1⟩
/-- SYS_STATUS, RO. -/
def SYS_STATUS_RUN_REFUSED : Fld := ⟨R.SYS_STATUS, 2, 1⟩
/-- SYS_STATUS, RO. -/
def SYS_STATUS_RELINK : Fld := ⟨R.SYS_STATUS, 3, 1⟩
/-- SYS_STATUS, RO. -/
def SYS_STATUS_REFUSE_CAUSE : Fld := ⟨R.SYS_STATUS, 4, 4⟩
/-- HIF_STATUS, RO. -/
def HIF_STATUS_WIDTH : Fld := ⟨R.HIF_STATUS, 0, 4⟩
/-- HIF_STATUS, RO. -/
def HIF_STATUS_SPEED : Fld := ⟨R.HIF_STATUS, 4, 4⟩
/-- HIF_STATUS, RO. -/
def HIF_STATUS_ATTN : Fld := ⟨R.HIF_STATUS, 16, 16⟩
/-- HIF_ERR, W1C. -/
def HIF_ERR_ACCESS : Fld := ⟨R.HIF_ERR, 0, 1⟩
/-- HIF_ERR, W1C. -/
def HIF_ERR_DOORBELL_RANGE : Fld := ⟨R.HIF_ERR, 1, 1⟩
/-- HIF_ERR, W1C. -/
def HIF_ERR_DMA_READ : Fld := ⟨R.HIF_ERR, 2, 1⟩
/-- HIF_ERR, W1C. -/
def HIF_ERR_DMA_WRITE : Fld := ⟨R.HIF_ERR, 3, 1⟩
/-- HIF_ERR, W1C. -/
def HIF_ERR_DESC_FORMAT : Fld := ⟨R.HIF_ERR, 4, 1⟩
/-- HIF_DL_LEN, RW. -/
def HIF_DL_LEN_LENGTH : Fld := ⟨R.HIF_DL_LEN, 0, 26⟩
/-- HIF_DL_CTRL, WO. -/
def HIF_DL_CTRL_GO : Fld := ⟨R.HIF_DL_CTRL, 0, 1⟩
/-- HIF_DL_STATUS, RO. -/
def HIF_DL_STATUS_STATE : Fld := ⟨R.HIF_DL_STATUS, 0, 2⟩
/-- HIF_RING_CFG, RWS. -/
def HIF_RING_CFG_CLASS (r : Nat) : Fld := ⟨R.HIF_RING_CFG r, 0, 4⟩
/-- HIF_RING_CFG, RWS. -/
def HIF_RING_CFG_LOG2_SIZE (r : Nat) : Fld := ⟨R.HIF_RING_CFG r, 4, 4⟩
/-- HIF_RING_CFG, RWS. -/
def HIF_RING_CFG_MSIX_VEC (r : Nat) : Fld := ⟨R.HIF_RING_CFG r, 8, 7⟩
/-- HIF_RING_CFG, RWS. -/
def HIF_RING_CFG_RX_WAIT_US (r : Nat) : Fld := ⟨R.HIF_RING_CFG r, 16, 16⟩
/-- HIF_RING_PARAM, RWS. -/
def HIF_RING_PARAM_FIRST_PORT (r : Nat) : Fld := ⟨R.HIF_RING_PARAM r, 0, 9⟩
/-- HIF_RING_PARAM, RWS. -/
def HIF_RING_PARAM_LAST_PORT (r : Nat) : Fld := ⟨R.HIF_RING_PARAM r, 16, 9⟩
/-- HIF_RING_PARAM, RWS. -/
def HIF_RING_PARAM_CORE (r : Nat) : Fld := ⟨R.HIF_RING_PARAM r, 0, 3⟩
/-- LANE_CFG, RWS. -/
def LANE_CFG_ENABLE (n : Nat) : Fld := ⟨R.LANE_CFG n, 0, 1⟩
/-- LANE_CFG, RWS. -/
def LANE_CFG_RATE (n : Nat) : Fld := ⟨R.LANE_CFG n, 1, 3⟩
/-- LANE_CFG, RWS. -/
def LANE_CFG_FEC_25 (n : Nat) : Fld := ⟨R.LANE_CFG n, 4, 1⟩
/-- LANE_CFG, RWS. -/
def LANE_CFG_CLK_SYNC (n : Nat) : Fld := ⟨R.LANE_CFG n, 5, 1⟩
/-- LANE_CFG, RWS. -/
def LANE_CFG_GROUP4 (n : Nat) : Fld := ⟨R.LANE_CFG n, 6, 1⟩
/-- LANE_CFG, RWS. -/
def LANE_CFG_TX_INVERT (n : Nat) : Fld := ⟨R.LANE_CFG n, 7, 1⟩
/-- LANE_CFG, RWS. -/
def LANE_CFG_RX_INVERT (n : Nat) : Fld := ⟨R.LANE_CFG n, 8, 1⟩
/-- LANE_CFG, RWS. -/
def LANE_CFG_LOOPBACK (n : Nat) : Fld := ⟨R.LANE_CFG n, 9, 2⟩
/-- LANE_CFG, RWS. -/
def LANE_CFG_LINK_UP_HOLD_MS (n : Nat) : Fld := ⟨R.LANE_CFG n, 24, 8⟩
/-- LANE_EQ, RWS. -/
def LANE_EQ_CTLE_RX (n : Nat) : Fld := ⟨R.LANE_EQ n, 0, 5⟩
/-- LANE_EQ, RWS. -/
def LANE_EQ_CTLE_TX (n : Nat) : Fld := ⟨R.LANE_EQ n, 8, 5⟩
/-- LANE_EQ, RWS. -/
def LANE_EQ_TX_PRE (n : Nat) : Fld := ⟨R.LANE_EQ n, 16, 4⟩
/-- LANE_EQ, RWS. -/
def LANE_EQ_TX_POST (n : Nat) : Fld := ⟨R.LANE_EQ n, 20, 5⟩
/-- LANE_EQ, RWS. -/
def LANE_EQ_TX_AMP (n : Nat) : Fld := ⟨R.LANE_EQ n, 25, 3⟩
/-- LANE_EQ, RWS. -/
def LANE_EQ_DFE_FREEZE (n : Nat) : Fld := ⟨R.LANE_EQ n, 28, 1⟩
/-- LANE_PRBS, RWS. -/
def LANE_PRBS_GEN (n : Nat) : Fld := ⟨R.LANE_PRBS n, 0, 2⟩
/-- LANE_PRBS, RWS. -/
def LANE_PRBS_CHECK (n : Nat) : Fld := ⟨R.LANE_PRBS n, 2, 2⟩
/-- LANE_STATUS, RO. -/
def LANE_STATUS_STATE (n : Nat) : Fld := ⟨R.LANE_STATUS n, 0, 3⟩
/-- LANE_STATUS, RO. -/
def LANE_STATUS_BLOCK_LOCK (n : Nat) : Fld := ⟨R.LANE_STATUS n, 3, 1⟩
/-- LANE_STATUS, RO. -/
def LANE_STATUS_AM_LOCK (n : Nat) : Fld := ⟨R.LANE_STATUS n, 4, 1⟩
/-- LANE_STATUS, RO. -/
def LANE_STATUS_CLK_FALLBACK (n : Nat) : Fld := ⟨R.LANE_STATUS n, 5, 1⟩
/-- LANE_STATUS, RO. -/
def LANE_STATUS_CFG_ERROR (n : Nat) : Fld := ⟨R.LANE_STATUS n, 6, 1⟩
/-- LANE_STATUS, RO. -/
def LANE_STATUS_FEC_DEGRADED (n : Nat) : Fld := ⟨R.LANE_STATUS n, 7, 1⟩
/-- LANE_STATUS, RO. -/
def LANE_STATUS_TAP_VALID (n : Nat) : Fld := ⟨R.LANE_STATUS n, 8, 1⟩
/-- LANE_EVENT, W1C. -/
def LANE_EVENT_LINK_UP (n : Nat) : Fld := ⟨R.LANE_EVENT n, 0, 1⟩
/-- LANE_EVENT, W1C. -/
def LANE_EVENT_LINK_DOWN (n : Nat) : Fld := ⟨R.LANE_EVENT n, 1, 1⟩
/-- LANE_EVENT, W1C. -/
def LANE_EVENT_FAULT (n : Nat) : Fld := ⟨R.LANE_EVENT n, 2, 1⟩
/-- LANE_EVENT, W1C. -/
def LANE_EVENT_FEC_DEGRADED_SEEN (n : Nat) : Fld := ⟨R.LANE_EVENT n, 3, 1⟩
/-- LANE_EVENT, W1C. -/
def LANE_EVENT_SYNC_SLIP (n : Nat) : Fld := ⟨R.LANE_EVENT n, 4, 1⟩
/-- LANE_EVENT, W1C. -/
def LANE_EVENT_CLK_FALLBACK_SEEN (n : Nat) : Fld := ⟨R.LANE_EVENT n, 5, 1⟩
/-- LANE_EVENT, W1C. -/
def LANE_EVENT_LPI_SEEN (n : Nat) : Fld := ⟨R.LANE_EVENT n, 6, 1⟩
/-- LANE_EQ_STATUS, RO. -/
def LANE_EQ_STATUS_DFE_TAP1 (n : Nat) : Fld := ⟨R.LANE_EQ_STATUS n, 0, 8⟩
/-- LANE_EQ_STATUS, RO. -/
def LANE_EQ_STATUS_CTLE_CODE (n : Nat) : Fld := ⟨R.LANE_EQ_STATUS n, 8, 5⟩
/-- LANE_EQ_STATUS, RO. -/
def LANE_EQ_STATUS_EYE_HEIGHT (n : Nat) : Fld := ⟨R.LANE_EQ_STATUS n, 16, 8⟩
/-- LANE_DELAY_TX, RO. -/
def LANE_DELAY_TX_DELAY (n : Nat) : Fld := ⟨R.LANE_DELAY_TX n, 0, 32⟩
/-- LANE_DELAY_RX, RO. -/
def LANE_DELAY_RX_DELAY (n : Nat) : Fld := ⟨R.LANE_DELAY_RX n, 0, 32⟩
/-- LANE_PRBS_ERR, RO. -/
def LANE_PRBS_ERR_ERRORS (n : Nat) : Fld := ⟨R.LANE_PRBS_ERR n, 0, 32⟩
/-- OE_CFG, RWS. -/
def OE_CFG_ENABLE (k : Nat) : Fld := ⟨R.OE_CFG k, 0, 1⟩
/-- OE_CFG, RWS. -/
def OE_CFG_MODE0 (k : Nat) : Fld := ⟨R.OE_CFG k, 1, 2⟩
/-- OE_CFG, RWS. -/
def OE_CFG_MODE1 (k : Nat) : Fld := ⟨R.OE_CFG k, 3, 2⟩
/-- OE_CFG, RWS. -/
def OE_CFG_MODE2 (k : Nat) : Fld := ⟨R.OE_CFG k, 5, 2⟩
/-- OE_CFG, RWS. -/
def OE_CFG_MODE3 (k : Nat) : Fld := ⟨R.OE_CFG k, 7, 2⟩
/-- OE_STATUS, RO. -/
def OE_STATUS_STATE (k : Nat) : Fld := ⟨R.OE_STATUS k, 0, 3⟩
/-- OE_STATUS, RO. -/
def OE_STATUS_LSA_PRESENT (k : Nat) : Fld := ⟨R.OE_STATUS k, 3, 1⟩
/-- OE_STATUS, RO. -/
def OE_STATUS_LSB_PRESENT (k : Nat) : Fld := ⟨R.OE_STATUS k, 4, 1⟩
/-- OE_STATUS, RO. -/
def OE_STATUS_LSA_DRAINED (k : Nat) : Fld := ⟨R.OE_STATUS k, 5, 1⟩
/-- OE_STATUS, RO. -/
def OE_STATUS_LSB_DRAINED (k : Nat) : Fld := ⟨R.OE_STATUS k, 6, 1⟩
/-- OE_STATUS, RO. -/
def OE_STATUS_RX_LOW (k : Nat) : Fld := ⟨R.OE_STATUS k, 7, 1⟩
/-- OE_STATUS, RO. -/
def OE_STATUS_TX_LOW (k : Nat) : Fld := ⟨R.OE_STATUS k, 8, 1⟩
/-- OE_EVENT, W1C. -/
def OE_EVENT_LSA_LOST (k : Nat) : Fld := ⟨R.OE_EVENT k, 0, 1⟩
/-- OE_EVENT, W1C. -/
def OE_EVENT_LSB_LOST (k : Nat) : Fld := ⟨R.OE_EVENT k, 1, 1⟩
/-- OE_EVENT, W1C. -/
def OE_EVENT_LSA_BACK (k : Nat) : Fld := ⟨R.OE_EVENT k, 2, 1⟩
/-- OE_EVENT, W1C. -/
def OE_EVENT_LSB_BACK (k : Nat) : Fld := ⟨R.OE_EVENT k, 3, 1⟩
/-- OE_EVENT, W1C. -/
def OE_EVENT_FAULT (k : Nat) : Fld := ⟨R.OE_EVENT k, 4, 1⟩
/-- OE_EVENT, W1C. -/
def OE_EVENT_SHUTDOWN (k : Nat) : Fld := ⟨R.OE_EVENT k, 5, 1⟩
/-- OE_EVENT, W1C. -/
def OE_EVENT_RX_LOW_SEEN (k : Nat) : Fld := ⟨R.OE_EVENT k, 6, 1⟩
/-- OE_EVENT, W1C. -/
def OE_EVENT_TX_LOW_SEEN (k : Nat) : Fld := ⟨R.OE_EVENT k, 7, 1⟩
/-- OE_LASER, RO. -/
def OE_LASER_LSA_CDBM (k : Nat) : Fld := ⟨R.OE_LASER k, 0, 16⟩
/-- OE_LASER, RO. -/
def OE_LASER_LSB_CDBM (k : Nat) : Fld := ⟨R.OE_LASER k, 16, 16⟩
/-- OE_TEMP, RO. -/
def OE_TEMP_OTS (k : Nat) : Fld := ⟨R.OE_TEMP k, 0, 16⟩
/-- OE_LANE_PWR, RO. -/
def OE_LANE_PWR_TX_CDBM (k : Nat) (l : Nat) : Fld := ⟨R.OE_LANE_PWR k l, 0, 16⟩
/-- OE_LANE_PWR, RO. -/
def OE_LANE_PWR_RX_CDBM (k : Nat) (l : Nat) : Fld := ⟨R.OE_LANE_PWR k l, 16, 16⟩
/-- OE_ALARM, RWS. -/
def OE_ALARM_RX_LOW_CDBM (k : Nat) : Fld := ⟨R.OE_ALARM k, 0, 16⟩
/-- OE_ALARM, RWS. -/
def OE_ALARM_TX_LOW_CDBM (k : Nat) : Fld := ⟨R.OE_ALARM k, 16, 16⟩
/-- MAC_CFG, RWS. -/
def MAC_CFG_CUT_THROUGH (p : Nat) : Fld := ⟨R.MAC_CFG p, 0, 1⟩
/-- MAC_CFG, RWS. -/
def MAC_CFG_FC_MODE (p : Nat) : Fld := ⟨R.MAC_CFG p, 1, 2⟩
/-- MAC_CFG, RWS. -/
def MAC_CFG_LISTED_ONLY (p : Nat) : Fld := ⟨R.MAC_CFG p, 3, 1⟩
/-- MAC_CFG, RWS. -/
def MAC_CFG_INGRESS_FILTER (p : Nat) : Fld := ⟨R.MAC_CFG p, 4, 1⟩
/-- MAC_CFG, RWS. -/
def MAC_CFG_LATE_DISCARD (p : Nat) : Fld := ⟨R.MAC_CFG p, 5, 1⟩
/-- MAC_CFG, RWS. -/
def MAC_CFG_ONE_STEP (p : Nat) : Fld := ⟨R.MAC_CFG p, 6, 2⟩
/-- MAC_CFG, RWS. -/
def MAC_CFG_MAX_FRAME (p : Nat) : Fld := ⟨R.MAC_CFG p, 16, 16⟩
/-- MAC_TAG, RWS. -/
def MAC_TAG_PVID (p : Nat) : Fld := ⟨R.MAC_TAG p, 0, 12⟩
/-- MAC_TAG, RWS. -/
def MAC_TAG_VLAN_TYPE (p : Nat) : Fld := ⟨R.MAC_TAG p, 12, 1⟩
/-- MAC_TAG, RWS. -/
def MAC_TAG_TX_TAG (p : Nat) : Fld := ⟨R.MAC_TAG p, 13, 2⟩
/-- MAC_TAG, RWS. -/
def MAC_TAG_S_TPID (p : Nat) : Fld := ⟨R.MAC_TAG p, 16, 16⟩
/-- MAC_PAUSE, RWS. -/
def MAC_PAUSE_PAUSE_QUANTA (p : Nat) : Fld := ⟨R.MAC_PAUSE p, 0, 16⟩
/-- MAC_PAUSE, RWS. -/
def MAC_PAUSE_PFC_OBEY (p : Nat) : Fld := ⟨R.MAC_PAUSE p, 16, 8⟩
/-- MAC_LAUNCH, RWS. -/
def MAC_LAUNCH_FETCH_US (p : Nat) : Fld := ⟨R.MAC_LAUNCH p, 0, 16⟩
/-- MAC_LAUNCH, RWS. -/
def MAC_LAUNCH_LATE_NS (p : Nat) : Fld := ⟨R.MAC_LAUNCH p, 16, 16⟩
/-- MAC_ADDR_LO, RWS. -/
def MAC_ADDR_LO_ADDR_LOW (p : Nat) : Fld := ⟨R.MAC_ADDR_LO p, 0, 32⟩
/-- MAC_ADDR_HI, RWS. -/
def MAC_ADDR_HI_ADDR_HIGH (p : Nat) : Fld := ⟨R.MAC_ADDR_HI p, 0, 16⟩
/-- MAC_STATUS, RO. -/
def MAC_STATUS_RX_PAUSED (p : Nat) : Fld := ⟨R.MAC_STATUS p, 0, 1⟩
/-- MAC_STATUS, RO. -/
def MAC_STATUS_PFC_HELD (p : Nat) : Fld := ⟨R.MAC_STATUS p, 8, 8⟩
/-- MAC_STATUS, RO. -/
def MAC_STATUS_XOFF_SENT (p : Nat) : Fld := ⟨R.MAC_STATUS p, 16, 8⟩
/-- MAC_STATUS, RO. -/
def MAC_STATUS_SHED_ON (p : Nat) : Fld := ⟨R.MAC_STATUS p, 24, 1⟩
/-- MAC_EVENT, W1C. -/
def MAC_EVENT_BOBBIN_OVERFLOW (p : Nat) : Fld := ⟨R.MAC_EVENT p, 0, 1⟩
/-- MAC_EVENT, W1C. -/
def MAC_EVENT_LAUNCH_LATE (p : Nat) : Fld := ⟨R.MAC_EVENT p, 1, 1⟩
/-- MAC_EVENT, W1C. -/
def MAC_EVENT_STOMP_TX (p : Nat) : Fld := ⟨R.MAC_EVENT p, 2, 1⟩
/-- MAC_EVENT, W1C. -/
def MAC_EVENT_STOMP_RX_SEEN (p : Nat) : Fld := ⟨R.MAC_EVENT p, 3, 1⟩
/-- MAC_EVENT, W1C. -/
def MAC_EVENT_PAUSE_RX_SEEN (p : Nat) : Fld := ⟨R.MAC_EVENT p, 4, 1⟩
/-- MAC_EVENT, W1C. -/
def MAC_EVENT_SHED_MISSED_SEEN (p : Nat) : Fld := ⟨R.MAC_EVENT p, 5, 1⟩
/-- MAC_BOBBIN, RO. -/
def MAC_BOBBIN_LEVEL (p : Nat) : Fld := ⟨R.MAC_BOBBIN p, 0, 7⟩
/-- MAC_BOBBIN, RO. -/
def MAC_BOBBIN_LOST (p : Nat) : Fld := ⟨R.MAC_BOBBIN p, 16, 16⟩
/-- MAC_SHED_STATUS, RO. -/
def MAC_SHED_STATUS_ENTRY (p : Nat) : Fld := ⟨R.MAC_SHED_STATUS p, 0, 8⟩
/-- MAC_SHED_STATUS, RO. -/
def MAC_SHED_STATUS_PENDING (p : Nat) : Fld := ⟨R.MAC_SHED_STATUS p, 8, 1⟩
/-- MAC_FILTER, RWS. -/
def MAC_FILTER_ETHERTYPE (p : Nat) (f : Nat) : Fld := ⟨R.MAC_FILTER p f, 0, 16⟩
/-- MAC_FILTER, RWS. -/
def MAC_FILTER_ETYPE_MASK (p : Nat) (f : Nat) : Fld := ⟨R.MAC_FILTER p f, 16, 16⟩
/-- MAC_FILTER, RWS. -/
def MAC_FILTER_VID (p : Nat) (f : Nat) : Fld := ⟨R.MAC_FILTER p f + 4, 0, 12⟩
/-- MAC_FILTER, RWS. -/
def MAC_FILTER_VID_MATCH (p : Nat) (f : Nat) : Fld := ⟨R.MAC_FILTER p f + 4, 12, 1⟩
/-- MAC_FILTER, RWS. -/
def MAC_FILTER_ACTION (p : Nat) (f : Nat) : Fld := ⟨R.MAC_FILTER p f + 8, 0, 2⟩
/-- MAC_FILTER, RWS. -/
def MAC_FILTER_RING (p : Nat) (f : Nat) : Fld := ⟨R.MAC_FILTER p f + 8, 2, 7⟩
/-- MAC_FILTER, RWS. -/
def MAC_FILTER_MATCH_ID (p : Nat) (f : Nat) : Fld := ⟨R.MAC_FILTER p f + 8, 16, 16⟩
/-- MAC_VLAN_MEMBER, RWS. -/
def MAC_VLAN_MEMBER_MEMBER (p : Nat) (w : Nat) : Fld := ⟨R.MAC_VLAN_MEMBER p w, 0, 32⟩
/-- HED_CTRL, RWS. -/
def HED_CTRL_HEDDLE_EN : Fld := ⟨R.HED_CTRL, 0, 32⟩
/-- HED_STATUS, RO. -/
def HED_STATUS_IN_SERVICE : Fld := ⟨R.HED_STATUS, 0, 32⟩
/-- HED_FAULT, W1C. -/
def HED_FAULT_FAULT : Fld := ⟨R.HED_FAULT, 0, 32⟩
/-- HED_EVENT, W1C. -/
def HED_EVENT_WALK_LIMIT : Fld := ⟨R.HED_EVENT, 0, 1⟩
/-- HED_EVENT, W1C. -/
def HED_EVENT_ECC_CORRECTED : Fld := ⟨R.HED_EVENT, 1, 1⟩
/-- HED_EVENT, W1C. -/
def HED_EVENT_ECC_UNCORRECTABLE : Fld := ⟨R.HED_EVENT, 2, 1⟩
/-- HED_EVENT, W1C. -/
def HED_EVENT_RECIRC_LIMIT : Fld := ⟨R.HED_EVENT, 3, 1⟩
/-- HED_EVENT, W1C. -/
def HED_EVENT_LEARN_FULL : Fld := ⟨R.HED_EVENT, 4, 1⟩
/-- HED_EVENT, W1C. -/
def HED_EVENT_MOVE_REFUSED : Fld := ⟨R.HED_EVENT, 5, 1⟩
/-- HED_EVENT, W1C. -/
def HED_EVENT_CTRL_REFUSED : Fld := ⟨R.HED_EVENT, 6, 1⟩
/-- HED_EVENT, W1C. -/
def HED_EVENT_ACTION_INVALID : Fld := ⟨R.HED_EVENT, 7, 1⟩
/-- HED_GEN_STATUS, RO. -/
def HED_GEN_STATUS_IN_FORCE : Fld := ⟨R.HED_GEN_STATUS, 0, 1⟩
/-- HED_GEN_STATUS, RO. -/
def HED_GEN_STATUS_PENDING : Fld := ⟨R.HED_GEN_STATUS, 1, 1⟩
/-- HED_GEN_STATUS, RO. -/
def HED_GEN_STATUS_HELD0 : Fld := ⟨R.HED_GEN_STATUS, 2, 1⟩
/-- HED_GEN_STATUS, RO. -/
def HED_GEN_STATUS_HELD1 : Fld := ⟨R.HED_GEN_STATUS, 3, 1⟩
/-- HED_GEN_STATUS, RO. -/
def HED_GEN_STATUS_VALID0 : Fld := ⟨R.HED_GEN_STATUS, 4, 1⟩
/-- HED_GEN_STATUS, RO. -/
def HED_GEN_STATUS_VALID1 : Fld := ⟨R.HED_GEN_STATUS, 5, 1⟩
/-- HED_GEN_STATUS, RO. -/
def HED_GEN_STATUS_SWAP_SEQ : Fld := ⟨R.HED_GEN_STATUS, 16, 16⟩
/-- HED_GEN_TAG0, RO. -/
def HED_GEN_TAG0_TAG : Fld := ⟨R.HED_GEN_TAG0, 0, 32⟩
/-- HED_GEN_TAG1, RO. -/
def HED_GEN_TAG1_TAG : Fld := ⟨R.HED_GEN_TAG1, 0, 32⟩
/-- HED_MALF_CFG, RWS. -/
def HED_MALF_CFG_ACTION : Fld := ⟨R.HED_MALF_CFG, 0, 2⟩
/-- HED_MALF_CFG, RWS. -/
def HED_MALF_CFG_RING : Fld := ⟨R.HED_MALF_CFG, 2, 7⟩
/-- HED_MALF_CFG, RWS. -/
def HED_MALF_CFG_MATCH_ID : Fld := ⟨R.HED_MALF_CFG, 16, 16⟩
/-- HED_MALF_CNT_LO, RO. -/
def HED_MALF_CNT_LO_COUNT_LOW (c : Nat) : Fld := ⟨R.HED_MALF_CNT_LO c, 0, 32⟩
/-- HED_MALF_CNT_HI, RO. -/
def HED_MALF_CNT_HI_COUNT_HIGH (c : Nat) : Fld := ⟨R.HED_MALF_CNT_HI c, 0, 16⟩
/-- HED_FDB_CFG, RWS. -/
def HED_FDB_CFG_AGE_S : Fld := ⟨R.HED_FDB_CFG, 0, 20⟩
/-- HED_FDB_STATUS, RO. -/
def HED_FDB_STATUS_USED : Fld := ⟨R.HED_FDB_STATUS, 0, 21⟩
/-- HED_LEARN, RWS. -/
def HED_LEARN_LEARN (w : Nat) : Fld := ⟨R.HED_LEARN w, 0, 32⟩
/-- HED_ECC_ADDR, RO. -/
def HED_ECC_ADDR_MEMORY : Fld := ⟨R.HED_ECC_ADDR, 0, 3⟩
/-- HED_ECC_ADDR, RO. -/
def HED_ECC_ADDR_GEN : Fld := ⟨R.HED_ECC_ADDR, 3, 1⟩
/-- HED_ECC_ADDR, RO. -/
def HED_ECC_ADDR_UNIT : Fld := ⟨R.HED_ECC_ADDR, 8, 21⟩
/-- HED_HEDDLE, RO. -/
def HED_HEDDLE_STATE (h : Nat) : Fld := ⟨R.HED_HEDDLE h, 0, 3⟩
/-- HED_HEDDLE, RO. -/
def HED_HEDDLE_GRAPH_ID (h : Nat) : Fld := ⟨R.HED_HEDDLE h, 16, 16⟩
/-- LOOM_STATUS, RO. -/
def LOOM_STATUS_SAFE_CLOCK : Fld := ⟨R.LOOM_STATUS, 0, 1⟩
/-- LOOM_STATUS, RO. -/
def LOOM_STATUS_HAYLOFT_DEGRADED : Fld := ⟨R.LOOM_STATUS, 1, 1⟩
/-- LOOM_STATUS, RO. -/
def LOOM_STATUS_MAX_RESERVED : Fld := ⟨R.LOOM_STATUS, 16, 6⟩
/-- LOOM_EVENT, W1C. -/
def LOOM_EVENT_ECC_CORRECTED : Fld := ⟨R.LOOM_EVENT, 0, 1⟩
/-- LOOM_EVENT, W1C. -/
def LOOM_EVENT_ECC_UNCORRECTABLE : Fld := ⟨R.LOOM_EVENT, 1, 1⟩
/-- LOOM_EVENT, W1C. -/
def LOOM_EVENT_HEADROOM_SHORT : Fld := ⟨R.LOOM_EVENT, 2, 1⟩
/-- LOOM_EVENT, W1C. -/
def LOOM_EVENT_STACK_FAIL : Fld := ⟨R.LOOM_EVENT, 3, 1⟩
/-- LOOM_EVENT, W1C. -/
def LOOM_EVENT_REED_ORDER : Fld := ⟨R.LOOM_EVENT, 4, 1⟩
/-- LOOM_EVENT, W1C. -/
def LOOM_EVENT_WOVEN_REPHASE : Fld := ⟨R.LOOM_EVENT, 5, 1⟩
/-- LOOM_EVENT, W1C. -/
def LOOM_EVENT_WOVEN_OVERRUN : Fld := ⟨R.LOOM_EVENT, 6, 1⟩
/-- LOOM_EVENT, W1C. -/
def LOOM_EVENT_WOVEN_UNFIT : Fld := ⟨R.LOOM_EVENT, 7, 1⟩
/-- LOOM_EVENT, W1C. -/
def LOOM_EVENT_WOVEN_MISMATCH : Fld := ⟨R.LOOM_EVENT, 8, 1⟩
/-- LOOM_EVENT, W1C. -/
def LOOM_EVENT_MIRROR_SKIP : Fld := ⟨R.LOOM_EVENT, 9, 1⟩
/-- LOOM_EVENT, W1C. -/
def LOOM_EVENT_CUT_UNDERRUN : Fld := ⟨R.LOOM_EVENT, 10, 1⟩
/-- LOOM_ECC_ADDR, RO. -/
def LOOM_ECC_ADDR_AREA : Fld := ⟨R.LOOM_ECC_ADDR, 0, 3⟩
/-- LOOM_ECC_ADDR, RO. -/
def LOOM_ECC_ADDR_NODE : Fld := ⟨R.LOOM_ECC_ADDR, 3, 6⟩
/-- LOOM_ECC_ADDR, RO. -/
def LOOM_ECC_ADDR_WORD : Fld := ⟨R.LOOM_ECC_ADDR, 9, 23⟩
/-- LOOM_STALL_CFG, RWS. -/
def LOOM_STALL_CFG_INGRESS (n : Nat) : Fld := ⟨R.LOOM_STALL_CFG n, 0, 8⟩
/-- LOOM_STALL_CFG, RWS. -/
def LOOM_STALL_CFG_INTER (n : Nat) : Fld := ⟨R.LOOM_STALL_CFG n, 8, 8⟩
/-- LOOM_STALL_CFG, RWS. -/
def LOOM_STALL_CFG_EGRESS (n : Nat) : Fld := ⟨R.LOOM_STALL_CFG n, 16, 8⟩
/-- LOOM_SPILL_CFG, RWS. -/
def LOOM_SPILL_CFG_SPILL_PCT : Fld := ⟨R.LOOM_SPILL_CFG, 0, 8⟩
/-- LOOM_SPILL_CFG, RWS. -/
def LOOM_SPILL_CFG_FETCH_PCT : Fld := ⟨R.LOOM_SPILL_CFG, 8, 8⟩
/-- LOOM_AGE, RWS. -/
def LOOM_AGE_LIMIT_US : Fld := ⟨R.LOOM_AGE, 0, 20⟩
/-- LOOM_MCAST_WAIT, RWS. -/
def LOOM_MCAST_WAIT_WAIT_US : Fld := ⟨R.LOOM_MCAST_WAIT, 0, 16⟩
/-- LOOM_HAYLOFT, RO. -/
def LOOM_HAYLOFT_USED_MIB : Fld := ⟨R.LOOM_HAYLOFT, 0, 16⟩
/-- LOOM_HAYLOFT, RO. -/
def LOOM_HAYLOFT_STACK0_OK : Fld := ⟨R.LOOM_HAYLOFT, 16, 1⟩
/-- LOOM_HAYLOFT, RO. -/
def LOOM_HAYLOFT_STACK1_OK : Fld := ⟨R.LOOM_HAYLOFT, 17, 1⟩
/-- LOOM_HALT, RWS. -/
def LOOM_HALT_LIMIT (p : Nat) : Fld := ⟨R.LOOM_HALT p, 0, 16⟩
/-- LOOM_HALT, RWS. -/
def LOOM_HALT_HEADROOM (p : Nat) : Fld := ⟨R.LOOM_HALT p, 16, 8⟩
/-- LOOM_HALT, RWS. -/
def LOOM_HALT_XON_GAP (p : Nat) : Fld := ⟨R.LOOM_HALT p, 24, 8⟩
/-- LOOM_HALT_STATUS, RO. -/
def LOOM_HALT_STATUS_OCCUPANCY (p : Nat) : Fld := ⟨R.LOOM_HALT_STATUS p, 0, 16⟩
/-- LOOM_HALT_STATUS, RO. -/
def LOOM_HALT_STATUS_PORT_HOLD (p : Nat) : Fld := ⟨R.LOOM_HALT_STATUS p, 16, 1⟩
/-- LOOM_HALT_STATUS, RO. -/
def LOOM_HALT_STATUS_NODE_HOLD (p : Nat) : Fld := ⟨R.LOOM_HALT_STATUS p, 17, 1⟩
/-- LOOM_HALT_STATUS, RO. -/
def LOOM_HALT_STATUS_SPILLED (p : Nat) : Fld := ⟨R.LOOM_HALT_STATUS p, 18, 1⟩
/-- LOOM_MIRROR, RWS. -/
def LOOM_MIRROR_N_MINUS_1 (m : Nat) : Fld := ⟨R.LOOM_MIRROR m, 0, 24⟩
/-- LOOM_MIRROR, RWS. -/
def LOOM_MIRROR_TRUNC256 (m : Nat) : Fld := ⟨R.LOOM_MIRROR m, 24, 1⟩
/-- LOOM_MIRROR, RWS. -/
def LOOM_MIRROR_ENABLE (m : Nat) : Fld := ⟨R.LOOM_MIRROR m, 25, 1⟩
/-- LOOM_MIRROR, RWS. -/
def LOOM_MIRROR_RING (m : Nat) : Fld := ⟨R.LOOM_MIRROR m + 4, 0, 7⟩
/-- LOOM_MIRROR, RWS. -/
def LOOM_MIRROR_MATCH_ID (m : Nat) : Fld := ⟨R.LOOM_MIRROR m + 4, 16, 16⟩
/-- LOOM_WOVEN, RO. -/
def LOOM_WOVEN_STATE (w : Nat) : Fld := ⟨R.LOOM_WOVEN w + 24, 0, 2⟩
/-- LOOM_WOVEN, RO. -/
def LOOM_WOVEN_PHI (w : Nat) : Fld := ⟨R.LOOM_WOVEN w + 28, 0, 32⟩
/-- LOOM_GROUP, RWS. -/
def LOOM_GROUP_VALID (g : Nat) : Fld := ⟨R.LOOM_GROUP g + 32, 16, 1⟩
/-- LOOM_GROUP, RWS. -/
def LOOM_GROUP_KEEP_INGRESS (g : Nat) : Fld := ⟨R.LOOM_GROUP g + 32, 17, 1⟩
/-- EGR_CLASS_LEVEL, RWS. -/
def EGR_CLASS_LEVEL_LEVEL (p : Nat) (j : Nat) : Fld := ⟨R.EGR_CLASS_LEVEL p, 3 * j, 3⟩
/-- EGR_CLASS_WEIGHT0, RWS. -/
def EGR_CLASS_WEIGHT0_W (p : Nat) (j : Nat) : Fld := ⟨R.EGR_CLASS_WEIGHT0 p, 8 * j, 8⟩
/-- EGR_CLASS_WEIGHT1, RWS. -/
def EGR_CLASS_WEIGHT1_W (p : Nat) (j : Nat) : Fld := ⟨R.EGR_CLASS_WEIGHT1 p, 8 * (j - 4), 8⟩
/-- EGR_RATION_CFG, RWS. -/
def EGR_RATION_CFG_ON (p : Nat) : Fld := ⟨R.EGR_RATION_CFG p, 0, 8⟩
/-- EGR_RATION_CFG, RWS. -/
def EGR_RATION_CFG_OFF (p : Nat) : Fld := ⟨R.EGR_RATION_CFG p, 8, 8⟩
/-- EGR_RATION_CFG, RWS. -/
def EGR_RATION_CFG_CAP (p : Nat) : Fld := ⟨R.EGR_RATION_CFG p, 16, 8⟩
/-- EGR_RATION_CFG, RWS. -/
def EGR_RATION_CFG_RATIONED_TC (p : Nat) : Fld := ⟨R.EGR_RATION_CFG p, 24, 8⟩
/-- EGR_PORT_STATUS, RO. -/
def EGR_PORT_STATUS_RATIONED (p : Nat) : Fld := ⟨R.EGR_PORT_STATUS p, 0, 1⟩
/-- EGR_PORT_STATUS, RO. -/
def EGR_PORT_STATUS_NONEMPTY (p : Nat) : Fld := ⟨R.EGR_PORT_STATUS p, 1, 8⟩
/-- EGR_PORT_STATUS, RO. -/
def EGR_PORT_STATUS_DEMANDING (p : Nat) : Fld := ⟨R.EGR_PORT_STATUS p, 16, 9⟩
/-- EGR_QUEUED, RO. -/
def EGR_QUEUED_UNITS (p : Nat) : Fld := ⟨R.EGR_QUEUED p, 0, 24⟩
/-- EGR_RATION_WEIGHT, RWS. -/
def EGR_RATION_WEIGHT_WEIGHT (i : Nat) : Fld := ⟨R.EGR_RATION_WEIGHT i, 0, 4⟩
/-- EGR_EVENT, W1C. -/
def EGR_EVENT_RATIONED_SEEN : Fld := ⟨R.EGR_EVENT, 0, 1⟩
/-- FRER_STATUS, RO. -/
def FRER_STATUS_GENERATORS : Fld := ⟨R.FRER_STATUS, 0, 13⟩
/-- FRER_STATUS, RO. -/
def FRER_STATUS_RECOVERERS : Fld := ⟨R.FRER_STATUS, 16, 13⟩
/-- FRER_EVENT, W1C. -/
def FRER_EVENT_GEN_FOREIGN : Fld := ⟨R.FRER_EVENT, 0, 1⟩
/-- FRER_EVENT, W1C. -/
def FRER_EVENT_REC_PORT_MISMATCH : Fld := ⟨R.FRER_EVENT, 1, 1⟩
/-- FRER_EVENT, W1C. -/
def FRER_EVENT_ROGUE_SEEN : Fld := ⟨R.FRER_EVENT, 2, 1⟩
/-- FRER_EVENT, W1C. -/
def FRER_EVENT_RESET_SEEN : Fld := ⟨R.FRER_EVENT, 3, 1⟩
/-- FRER_STREAM, RWS. -/
def FRER_STREAM_MODE (h : Nat) : Fld := ⟨R.FRER_STREAM h, 0, 3⟩
/-- FRER_STREAM, RWS. -/
def FRER_STREAM_RTAG_INSERT (h : Nat) : Fld := ⟨R.FRER_STREAM h, 3, 1⟩
/-- FRER_STREAM, RWS. -/
def FRER_STREAM_RTAG_REMOVE (h : Nat) : Fld := ⟨R.FRER_STREAM h, 4, 1⟩
/-- FRER_STREAM, RWS. -/
def FRER_STREAM_TAKE_NO_SEQ (h : Nat) : Fld := ⟨R.FRER_STREAM h, 5, 1⟩
/-- FRER_STREAM, RWS. -/
def FRER_STREAM_HISTORY (h : Nat) : Fld := ⟨R.FRER_STREAM h, 8, 8⟩
/-- FRER_STREAM, RWS. -/
def FRER_STREAM_RESET_MS (h : Nat) : Fld := ⟨R.FRER_STREAM h, 16, 16⟩
/-- FRER_STREAM, RWS. -/
def FRER_STREAM_PORT (h : Nat) : Fld := ⟨R.FRER_STREAM h + 4, 0, 9⟩
/-- FRER_STREAM, RWS. -/
def FRER_STREAM_HOME_NODE (h : Nat) : Fld := ⟨R.FRER_STREAM h + 4, 16, 6⟩
/-- FRER_STATE, RO. -/
def FRER_STATE_SEQ (h : Nat) : Fld := ⟨R.FRER_STATE h, 0, 16⟩
/-- FRER_STATE, RO. -/
def FRER_STATE_TAKE_ANY (h : Nat) : Fld := ⟨R.FRER_STATE h, 16, 1⟩
/-- MEAS_STATUS, RO. -/
def MEAS_STATUS_XO_MAIN_OK : Fld := ⟨R.MEAS_STATUS, 0, 1⟩
/-- MEAS_STATUS, RO. -/
def MEAS_STATUS_XO_SPARE_OK : Fld := ⟨R.MEAS_STATUS, 1, 1⟩
/-- MEAS_STATUS, RO. -/
def MEAS_STATUS_MASTER_SPARE : Fld := ⟨R.MEAS_STATUS, 2, 1⟩
/-- MEAS_STATUS, RO. -/
def MEAS_STATUS_OVEN_STABLE : Fld := ⟨R.MEAS_STATUS, 3, 1⟩
/-- MEAS_STATUS, RO. -/
def MEAS_STATUS_STCLK_SAFE : Fld := ⟨R.MEAS_STATUS, 4, 1⟩
/-- MEAS_STATUS, RO. -/
def MEAS_STATUS_CAL_RANGE : Fld := ⟨R.MEAS_STATUS, 5, 1⟩
/-- MEAS_EVENT, W1C. -/
def MEAS_EVENT_XO_MAIN_LOST : Fld := ⟨R.MEAS_EVENT, 0, 1⟩
/-- MEAS_EVENT, W1C. -/
def MEAS_EVENT_XO_MAIN_BACK : Fld := ⟨R.MEAS_EVENT, 1, 1⟩
/-- MEAS_EVENT, W1C. -/
def MEAS_EVENT_XO_SPARE_LOST : Fld := ⟨R.MEAS_EVENT, 2, 1⟩
/-- MEAS_EVENT, W1C. -/
def MEAS_EVENT_OVEN_STABLE_SEEN : Fld := ⟨R.MEAS_EVENT, 3, 1⟩
/-- MEAS_EVENT, W1C. -/
def MEAS_EVENT_CAL_RANGE_SEEN : Fld := ⟨R.MEAS_EVENT, 4, 1⟩
/-- MEAS_EVENT, W1C. -/
def MEAS_EVENT_RECORDS_LOST : Fld := ⟨R.MEAS_EVENT, 5, 1⟩
/-- MEAS_EVENT, W1C. -/
def MEAS_EVENT_CORR_CLAMP : Fld := ⟨R.MEAS_EVENT, 6, 1⟩
/-- MEAS_XO_AGEING, RWS. -/
def MEAS_XO_AGEING_RATE : Fld := ⟨R.MEAS_XO_AGEING, 0, 32⟩
/-- MEAS_XO_CORR_LO, RO. -/
def MEAS_XO_CORR_LO_CORR_LOW : Fld := ⟨R.MEAS_XO_CORR_LO, 0, 32⟩
/-- MEAS_XO_CORR_HI, RO. -/
def MEAS_XO_CORR_HI_CORR_HIGH : Fld := ⟨R.MEAS_XO_CORR_HI, 0, 16⟩
/-- MEAS_SPARE_OFFSET, RO. -/
def MEAS_SPARE_OFFSET_OFFSET : Fld := ⟨R.MEAS_SPARE_OFFSET, 0, 32⟩
/-- MEAS_CH_CFG, RWS. -/
def MEAS_CH_CFG_MODE (k : Nat) : Fld := ⟨R.MEAS_CH_CFG k, 0, 3⟩
/-- MEAS_CH_CFG, RWS. -/
def MEAS_CH_CFG_EDGE (k : Nat) : Fld := ⟨R.MEAS_CH_CFG k, 3, 2⟩
/-- MEAS_CH_CFG, RWS. -/
def MEAS_CH_CFG_PRESCALE (k : Nat) : Fld := ⟨R.MEAS_CH_CFG k, 5, 2⟩
/-- MEAS_CH_CFG, RWS. -/
def MEAS_CH_CFG_SCALE_XO (k : Nat) : Fld := ⟨R.MEAS_CH_CFG k, 7, 1⟩
/-- MEAS_CH_CFG, RWS. -/
def MEAS_CH_CFG_DIV_MINUS_1 (k : Nat) : Fld := ⟨R.MEAS_CH_CFG k, 8, 24⟩
/-- MEAS_CH_GATE, RWS. -/
def MEAS_CH_GATE_GATE_NS (k : Nat) : Fld := ⟨R.MEAS_CH_GATE k, 0, 30⟩
/-- MEAS_CH_ARM, RWS. -/
def MEAS_CH_ARM_ARM_NS (k : Nat) : Fld := ⟨R.MEAS_CH_ARM k, 0, 30⟩
/-- MEAS_CH_STATUS, RO. -/
def MEAS_CH_STATUS_HELD (k : Nat) : Fld := ⟨R.MEAS_CH_STATUS k, 0, 15⟩
/-- MEAS_CH_LOST, RO. -/
def MEAS_CH_LOST_DEAD (k : Nat) : Fld := ⟨R.MEAS_CH_LOST k, 0, 12⟩
/-- MEAS_CH_LOST, RO. -/
def MEAS_CH_LOST_UNPAIRED (k : Nat) : Fld := ⟨R.MEAS_CH_LOST k, 12, 10⟩
/-- MEAS_CH_LOST, RO. -/
def MEAS_CH_LOST_FULL (k : Nat) : Fld := ⟨R.MEAS_CH_LOST k, 22, 10⟩
/-- MEAS_CH_STRAY, RO. -/
def MEAS_CH_STRAY_STOP (k : Nat) : Fld := ⟨R.MEAS_CH_STRAY k, 0, 16⟩
/-- MEAS_CH_STRAY, RO. -/
def MEAS_CH_STRAY_START (k : Nat) : Fld := ⟨R.MEAS_CH_STRAY k, 16, 16⟩
/-- MEAS_CH_DELAY, RO. -/
def MEAS_CH_DELAY_DELAY (k : Nat) : Fld := ⟨R.MEAS_CH_DELAY k, 0, 32⟩
/-- DPLL_CTRL, RWS. -/
def DPLL_CTRL_MODE : Fld := ⟨R.DPLL_CTRL, 0, 3⟩
/-- DPLL_CTRL, RWS. -/
def DPLL_CTRL_FORCE_REF : Fld := ⟨R.DPLL_CTRL, 4, 4⟩
/-- DPLL_CTRL, RWS. -/
def DPLL_CTRL_REVERTIVE : Fld := ⟨R.DPLL_CTRL, 8, 1⟩
/-- DPLL_CTRL, RWS. -/
def DPLL_CTRL_QL_SELECT : Fld := ⟨R.DPLL_CTRL, 9, 1⟩
/-- DPLL_CTRL, RWS. -/
def DPLL_CTRL_HYBRID : Fld := ⟨R.DPLL_CTRL, 10, 1⟩
/-- DPLL_CTRL, RWS. -/
def DPLL_CTRL_AGE_LEARN : Fld := ⟨R.DPLL_CTRL, 11, 1⟩
/-- DPLL_CTRL, RWS. -/
def DPLL_CTRL_STEP_POLICY : Fld := ⟨R.DPLL_CTRL, 12, 2⟩
/-- DPLL_CTRL, RWS. -/
def DPLL_CTRL_QL_FLOOR : Fld := ⟨R.DPLL_CTRL, 16, 4⟩
/-- DPLL_STATUS, RO. -/
def DPLL_STATUS_STATE : Fld := ⟨R.DPLL_STATUS, 0, 3⟩
/-- DPLL_STATUS, RO. -/
def DPLL_STATUS_FREQ_SEL : Fld := ⟨R.DPLL_STATUS, 4, 4⟩
/-- DPLL_STATUS, RO. -/
def DPLL_STATUS_TIME_SEL : Fld := ⟨R.DPLL_STATUS, 8, 4⟩
/-- DPLL_STATUS, RO. -/
def DPLL_STATUS_HISTORY_VALID : Fld := ⟨R.DPLL_STATUS, 12, 1⟩
/-- DPLL_STATUS, RO. -/
def DPLL_STATUS_WARMING : Fld := ⟨R.DPLL_STATUS, 13, 1⟩
/-- DPLL_STATUS, RO. -/
def DPLL_STATUS_DISAGREE : Fld := ⟨R.DPLL_STATUS, 14, 1⟩
/-- DPLL_STATUS, RO. -/
def DPLL_STATUS_STEP_PENDING : Fld := ⟨R.DPLL_STATUS, 15, 1⟩
/-- DPLL_STATUS, RO. -/
def DPLL_STATUS_QL_OUT : Fld := ⟨R.DPLL_STATUS, 16, 4⟩
/-- DPLL_EVENT, W1C. -/
def DPLL_EVENT_REF_SWITCH : Fld := ⟨R.DPLL_EVENT, 0, 1⟩
/-- DPLL_EVENT, W1C. -/
def DPLL_EVENT_REF_FAILED : Fld := ⟨R.DPLL_EVENT, 1, 1⟩
/-- DPLL_EVENT, W1C. -/
def DPLL_EVENT_DRIFT_WARN_SEEN : Fld := ⟨R.DPLL_EVENT, 2, 1⟩
/-- DPLL_EVENT, W1C. -/
def DPLL_EVENT_DISAGREE_SEEN : Fld := ⟨R.DPLL_EVENT, 3, 1⟩
/-- DPLL_EVENT, W1C. -/
def DPLL_EVENT_HOLDOVER_SEEN : Fld := ⟨R.DPLL_EVENT, 4, 1⟩
/-- DPLL_EVENT, W1C. -/
def DPLL_EVENT_HO_EXPIRED : Fld := ⟨R.DPLL_EVENT, 5, 1⟩
/-- DPLL_EVENT, W1C. -/
def DPLL_EVENT_FREE_RUN_SEEN : Fld := ⟨R.DPLL_EVENT, 6, 1⟩
/-- DPLL_EVENT, W1C. -/
def DPLL_EVENT_LOCKED_SEEN : Fld := ⟨R.DPLL_EVENT, 7, 1⟩
/-- DPLL_EVENT, W1C. -/
def DPLL_EVENT_STEP_PENDING_SEEN : Fld := ⟨R.DPLL_EVENT, 8, 1⟩
/-- DPLL_EVENT, W1C. -/
def DPLL_EVENT_STEER_CLAMP : Fld := ⟨R.DPLL_EVENT, 9, 1⟩
/-- DPLL_EVENT, W1C. -/
def DPLL_EVENT_QL_CHANGE : Fld := ⟨R.DPLL_EVENT, 10, 1⟩
/-- DPLL_EVENT, W1C. -/
def DPLL_EVENT_ESMC_TIMEOUT : Fld := ⟨R.DPLL_EVENT, 11, 1⟩
/-- DPLL_BW_LINE, RWS. -/
def DPLL_BW_LINE_BW_MHZ : Fld := ⟨R.DPLL_BW_LINE, 0, 17⟩
/-- DPLL_BW_CLKIN, RWS. -/
def DPLL_BW_CLKIN_BW_MHZ : Fld := ⟨R.DPLL_BW_CLKIN, 0, 17⟩
/-- DPLL_BW_TIME, RWS. -/
def DPLL_BW_TIME_BW_MHZ : Fld := ⟨R.DPLL_BW_TIME, 0, 17⟩
/-- DPLL_BW_NT, RWS. -/
def DPLL_BW_NT_BW_MHZ : Fld := ⟨R.DPLL_BW_NT, 0, 17⟩
/-- DPLL_HO_CFG, RWS. -/
def DPLL_HO_CFG_LEARN_H : Fld := ⟨R.DPLL_HO_CFG, 0, 8⟩
/-- DPLL_HO_CFG, RWS. -/
def DPLL_HO_CFG_HO_AVG_S : Fld := ⟨R.DPLL_HO_CFG, 8, 16⟩
/-- DPLL_HO_WINDOW, RWS. -/
def DPLL_HO_WINDOW_HO_WINDOW_S : Fld := ⟨R.DPLL_HO_WINDOW, 0, 32⟩
/-- DPLL_SLEW, RWS. -/
def DPLL_SLEW_SLEW_NS_S : Fld := ⟨R.DPLL_SLEW, 0, 10⟩
/-- DPLL_SLEW, RWS. -/
def DPLL_SLEW_EXIT_SLEW : Fld := ⟨R.DPLL_SLEW, 16, 16⟩
/-- DPLL_STEP, RWS. -/
def DPLL_STEP_STEP_NS : Fld := ⟨R.DPLL_STEP, 0, 32⟩
/-- DPLL_LOCK, RWS. -/
def DPLL_LOCK_LOCK_FREQ : Fld := ⟨R.DPLL_LOCK, 0, 16⟩
/-- DPLL_LOCK, RWS. -/
def DPLL_LOCK_LOCK_S : Fld := ⟨R.DPLL_LOCK, 16, 8⟩
/-- DPLL_LOCK, RWS. -/
def DPLL_LOCK_LOCK_PHASE : Fld := ⟨R.DPLL_LOCK, 24, 8⟩
/-- DPLL_VOTE, RWS. -/
def DPLL_VOTE_VOTE_PPB : Fld := ⟨R.DPLL_VOTE, 0, 16⟩
/-- DPLL_VOTE, RWS. -/
def DPLL_VOTE_VOTE_PHASE_NS : Fld := ⟨R.DPLL_VOTE, 16, 16⟩
/-- DPLL_LEARN, RO. -/
def DPLL_LEARN_HOURS : Fld := ⟨R.DPLL_LEARN, 0, 16⟩
/-- DPLL_PHASE_ERR, RO. -/
def DPLL_PHASE_ERR_ERROR : Fld := ⟨R.DPLL_PHASE_ERR, 0, 32⟩
/-- DPLL_HO_ELAPSED, RO. -/
def DPLL_HO_ELAPSED_SECONDS : Fld := ⟨R.DPLL_HO_ELAPSED, 0, 32⟩
/-- DPLL_ESMC_CFG, RWS. -/
def DPLL_ESMC_CFG_ENHANCED : Fld := ⟨R.DPLL_ESMC_CFG, 0, 1⟩
/-- DPLL_ESMC_CFG, RWS. -/
def DPLL_ESMC_CFG_TIMEOUT_S : Fld := ⟨R.DPLL_ESMC_CFG, 8, 8⟩
/-- DPLL_ESMC_EN, RWS. -/
def DPLL_ESMC_EN_PORTS (w : Nat) : Fld := ⟨R.DPLL_ESMC_EN w, 0, 32⟩
/-- DPLL_REF_CFG, RWS. -/
def DPLL_REF_CFG_ENABLE (r : Nat) : Fld := ⟨R.DPLL_REF_CFG r, 0, 1⟩
/-- DPLL_REF_CFG, RWS. -/
def DPLL_REF_CFG_PRIORITY (r : Nat) : Fld := ⟨R.DPLL_REF_CFG r, 1, 4⟩
/-- DPLL_REF_CFG, RWS. -/
def DPLL_REF_CFG_LANE (r : Nat) : Fld := ⟨R.DPLL_REF_CFG r, 5, 9⟩
/-- DPLL_REF_CFG, RWS. -/
def DPLL_REF_CFG_FALLING (r : Nat) : Fld := ⟨R.DPLL_REF_CFG r, 14, 1⟩
/-- DPLL_REF_CFG, RWS. -/
def DPLL_REF_CFG_QL_ESMC (r : Nat) : Fld := ⟨R.DPLL_REF_CFG r, 15, 1⟩
/-- DPLL_REF_CFG, RWS. -/
def DPLL_REF_CFG_QL_FIXED (r : Nat) : Fld := ⟨R.DPLL_REF_CFG r, 16, 4⟩
/-- DPLL_REF_FREQ, RWS. -/
def DPLL_REF_FREQ_HZ (r : Nat) : Fld := ⟨R.DPLL_REF_FREQ r, 0, 30⟩
/-- DPLL_REF_LIMITS, RWS. -/
def DPLL_REF_LIMITS_ACCEPT_PPB (r : Nat) : Fld := ⟨R.DPLL_REF_LIMITS r, 0, 16⟩
/-- DPLL_REF_LIMITS, RWS. -/
def DPLL_REF_LIMITS_REJECT_PPB (r : Nat) : Fld := ⟨R.DPLL_REF_LIMITS r, 16, 16⟩
/-- DPLL_REF_TIMING, RWS. -/
def DPLL_REF_TIMING_QUAL_S (r : Nat) : Fld := ⟨R.DPLL_REF_TIMING r, 0, 16⟩
/-- DPLL_REF_TIMING, RWS. -/
def DPLL_REF_TIMING_ACT_WINDOW (r : Nat) : Fld := ⟨R.DPLL_REF_TIMING r, 16, 8⟩
/-- DPLL_REF_DRIFT, RWS. -/
def DPLL_REF_DRIFT_DRIFT_LIMIT (r : Nat) : Fld := ⟨R.DPLL_REF_DRIFT r, 0, 16⟩
/-- DPLL_REF_DRIFT, RWS. -/
def DPLL_REF_DRIFT_DRIFT_S (r : Nat) : Fld := ⟨R.DPLL_REF_DRIFT r, 16, 16⟩
/-- DPLL_REF_DELAY, RWS. -/
def DPLL_REF_DELAY_DELAY (r : Nat) : Fld := ⟨R.DPLL_REF_DELAY r, 0, 32⟩
/-- DPLL_REF_STATUS, RO. -/
def DPLL_REF_STATUS_STATE (r : Nat) : Fld := ⟨R.DPLL_REF_STATUS r, 0, 3⟩
/-- DPLL_REF_STATUS, RO. -/
def DPLL_REF_STATUS_ACTIVE (r : Nat) : Fld := ⟨R.DPLL_REF_STATUS r, 3, 1⟩
/-- DPLL_REF_STATUS, RO. -/
def DPLL_REF_STATUS_IN_ACCEPT (r : Nat) : Fld := ⟨R.DPLL_REF_STATUS r, 4, 1⟩
/-- DPLL_REF_STATUS, RO. -/
def DPLL_REF_STATUS_DRIFT_WARN (r : Nat) : Fld := ⟨R.DPLL_REF_STATUS r, 5, 1⟩
/-- DPLL_REF_STATUS, RO. -/
def DPLL_REF_STATUS_SELECTABLE (r : Nat) : Fld := ⟨R.DPLL_REF_STATUS r, 6, 1⟩
/-- DPLL_REF_STATUS, RO. -/
def DPLL_REF_STATUS_QL_TIMEOUT (r : Nat) : Fld := ⟨R.DPLL_REF_STATUS r, 7, 1⟩
/-- DPLL_REF_STATUS, RO. -/
def DPLL_REF_STATUS_QL (r : Nat) : Fld := ⟨R.DPLL_REF_STATUS r, 8, 4⟩
/-- DPLL_REF_STATUS, RO. -/
def DPLL_REF_STATUS_FAIL_CAUSE (r : Nat) : Fld := ⟨R.DPLL_REF_STATUS r, 12, 4⟩
/-- DPLL_REF_STATUS, RO. -/
def DPLL_REF_STATUS_QUAL_LEFT_S (r : Nat) : Fld := ⟨R.DPLL_REF_STATUS r, 16, 16⟩
/-- DPLL_REF_OFFSET, RO. -/
def DPLL_REF_OFFSET_OFFSET (r : Nat) : Fld := ⟨R.DPLL_REF_OFFSET r, 0, 32⟩
/-- SYN_STATUS, RO. -/
def SYN_STATUS_LOCKED : Fld := ⟨R.SYN_STATUS, 0, 4⟩
/-- SYN_STATUS, RO. -/
def SYN_STATUS_RELOCKING : Fld := ⟨R.SYN_STATUS, 4, 4⟩
/-- SYN_STATUS, RO. -/
def SYN_STATUS_SAFE0 : Fld := ⟨R.SYN_STATUS, 8, 1⟩
/-- SYN_STATUS, RO. -/
def SYN_STATUS_SAFE1 : Fld := ⟨R.SYN_STATUS, 9, 1⟩
/-- SYN_STATUS, RO. -/
def SYN_STATUS_SAFE_GEN_OK : Fld := ⟨R.SYN_STATUS, 10, 1⟩
/-- SYN_EVENT, W1C. -/
def SYN_EVENT_UNLOCK : Fld := ⟨R.SYN_EVENT, 0, 4⟩
/-- SYN_EVENT, W1C. -/
def SYN_EVENT_RELOCK_DONE : Fld := ⟨R.SYN_EVENT, 4, 4⟩
/-- SYN_EVENT, W1C. -/
def SYN_EVENT_RELOCK_RETRY : Fld := ⟨R.SYN_EVENT, 8, 1⟩
/-- SYN_EVENT, W1C. -/
def SYN_EVENT_ALIGN_DONE : Fld := ⟨R.SYN_EVENT, 9, 1⟩
/-- SYN_EVENT, W1C. -/
def SYN_EVENT_TRD_MISSED_SEEN : Fld := ⟨R.SYN_EVENT, 10, 1⟩
/-- SYN_EVENT, W1C. -/
def SYN_EVENT_TODIN_ERROR : Fld := ⟨R.SYN_EVENT, 11, 1⟩
/-- SYN_EVENT, W1C. -/
def SYN_EVENT_PULSE_SKIPPED : Fld := ⟨R.SYN_EVENT, 12, 1⟩
/-- SYN_CFG, RWS. -/
def SYN_CFG_MULT2 : Fld := ⟨R.SYN_CFG, 0, 8⟩
/-- SYN_CFG, RWS. -/
def SYN_CFG_MULT3 : Fld := ⟨R.SYN_CFG, 8, 8⟩
/-- SYN_RELOCKS, RO. -/
def SYN_RELOCKS_COUNT (j : Nat) : Fld := ⟨R.SYN_RELOCKS, 8 * j, 8⟩
/-- CLKOUT_CFG, RWS. -/
def CLKOUT_CFG_ENABLE (k : Nat) : Fld := ⟨R.CLKOUT_CFG k, 0, 1⟩
/-- CLKOUT_CFG, RWS. -/
def CLKOUT_CFG_SQUELCH (k : Nat) : Fld := ⟨R.CLKOUT_CFG k, 1, 1⟩
/-- CLKOUT_DIV_LO, RWS. -/
def CLKOUT_DIV_LO_DIV_LOW (k : Nat) : Fld := ⟨R.CLKOUT_DIV_LO k, 0, 32⟩
/-- CLKOUT_DIV_HI, RWS. -/
def CLKOUT_DIV_HI_DIV_HIGH (k : Nat) : Fld := ⟨R.CLKOUT_DIV_HI k, 0, 1⟩
/-- CLKOUT_DELAY, RWS. -/
def CLKOUT_DELAY_DELAY (k : Nat) : Fld := ⟨R.CLKOUT_DELAY k, 0, 14⟩
/-- PULSE_CFG, RWS. -/
def PULSE_CFG_ENABLE (o : Nat) : Fld := ⟨R.PULSE_CFG o, 0, 1⟩
/-- PULSE_CFG, RWS. -/
def PULSE_CFG_INVERT (o : Nat) : Fld := ⟨R.PULSE_CFG o, 1, 1⟩
/-- PULSE_CFG, RWS. -/
def PULSE_CFG_SQUELCH (o : Nat) : Fld := ⟨R.PULSE_CFG o, 2, 1⟩
/-- PULSE_PERIOD, RWS. -/
def PULSE_PERIOD_PERIOD_NS (o : Nat) : Fld := ⟨R.PULSE_PERIOD o, 0, 30⟩
/-- PULSE_WIDTH, RWS. -/
def PULSE_WIDTH_WIDTH_NS (o : Nat) : Fld := ⟨R.PULSE_WIDTH o, 0, 30⟩
/-- PULSE_DELAY, RWS. -/
def PULSE_DELAY_DELAY (o : Nat) : Fld := ⟨R.PULSE_DELAY o, 0, 32⟩
/-- PULSE_OFFSET_LO, RO. -/
def PULSE_OFFSET_LO_OFFSET (o : Nat) : Fld := ⟨R.PULSE_OFFSET_LO o, 0, 32⟩
/-- PULSE_OFFSET_HI, RO. -/
def PULSE_OFFSET_HI_OFFSET (o : Nat) : Fld := ⟨R.PULSE_OFFSET_HI o, 0, 32⟩
/-- PULSE_STATUS, RO. -/
def PULSE_STATUS_RUNNING (o : Nat) : Fld := ⟨R.PULSE_STATUS o, 0, 1⟩
/-- PULSE_STATUS, RO. -/
def PULSE_STATUS_ALIGNED (o : Nat) : Fld := ⟨R.PULSE_STATUS o, 1, 1⟩
/-- PULSE_STATUS, RO. -/
def PULSE_STATUS_SQUELCHED (o : Nat) : Fld := ⟨R.PULSE_STATUS o, 2, 1⟩
/-- PULSE_STATUS, RO. -/
def PULSE_STATUS_SKIPPED (o : Nat) : Fld := ⟨R.PULSE_STATUS o, 16, 16⟩
/-- TRD_CFG, RWS. -/
def TRD_CFG_ENABLE (t : Nat) : Fld := ⟨R.TRD_CFG t, 0, 1⟩
/-- TRD_CFG, RWS. -/
def TRD_CFG_INVERT (t : Nat) : Fld := ⟨R.TRD_CFG t, 1, 1⟩
/-- TRD_CFG, RWS. -/
def TRD_CFG_GUARD (t : Nat) : Fld := ⟨R.TRD_CFG t, 2, 1⟩
/-- TRD_START_LO, RWS. -/
def TRD_START_LO_START (t : Nat) : Fld := ⟨R.TRD_START_LO t, 0, 32⟩
/-- TRD_START_HI, RWS. -/
def TRD_START_HI_START (t : Nat) : Fld := ⟨R.TRD_START_HI t, 0, 32⟩
/-- TRD_PERIOD, RWS. -/
def TRD_PERIOD_PERIOD_NS (t : Nat) : Fld := ⟨R.TRD_PERIOD t, 0, 32⟩
/-- TRD_WIDTH, RWS. -/
def TRD_WIDTH_WIDTH_NS (t : Nat) : Fld := ⟨R.TRD_WIDTH t, 0, 32⟩
/-- TRD_COUNT, RWS. -/
def TRD_COUNT_COUNT (t : Nat) : Fld := ⟨R.TRD_COUNT t, 0, 32⟩
/-- TRD_DONE, RO. -/
def TRD_DONE_DONE (t : Nat) : Fld := ⟨R.TRD_DONE t, 0, 32⟩
/-- TRD_MISSED, RO. -/
def TRD_MISSED_MISSED (t : Nat) : Fld := ⟨R.TRD_MISSED t, 0, 32⟩
/-- TOD_CFG, RWS. -/
def TOD_CFG_TX_EN : Fld := ⟨R.TOD_CFG, 0, 1⟩
/-- TOD_CFG, RWS. -/
def TOD_CFG_RX_EN : Fld := ⟨R.TOD_CFG, 1, 1⟩
/-- TOD_CFG, RWS. -/
def TOD_CFG_TX_PPS : Fld := ⟨R.TOD_CFG, 2, 1⟩
/-- TOD_CFG, RWS. -/
def TOD_CFG_RX_PPS : Fld := ⟨R.TOD_CFG, 3, 1⟩
/-- TOD_CFG, RWS. -/
def TOD_CFG_INVERT : Fld := ⟨R.TOD_CFG, 4, 1⟩
/-- TOD_CFG, RWS. -/
def TOD_CFG_BAUD : Fld := ⟨R.TOD_CFG, 8, 24⟩
/-- TOD_STATUS, RO. -/
def TOD_STATUS_RX_VALID : Fld := ⟨R.TOD_STATUS, 0, 1⟩
/-- TOD_STATUS, RO. -/
def TOD_STATUS_RX_SEQ : Fld := ⟨R.TOD_STATUS, 16, 16⟩
/-- TOD_RX_SEC_LO, RO. -/
def TOD_RX_SEC_LO_SEC_LOW : Fld := ⟨R.TOD_RX_SEC_LO, 0, 32⟩
/-- TOD_RX_SEC_HI, RO. -/
def TOD_RX_SEC_HI_SEC_HIGH : Fld := ⟨R.TOD_RX_SEC_HI, 0, 16⟩
/-- TOD_RX_SEC_HI, RO. -/
def TOD_RX_SEC_HI_UTC_OFFSET : Fld := ⟨R.TOD_RX_SEC_HI, 16, 16⟩
/-- TOD_RX_ERR, RO. -/
def TOD_RX_ERR_CRC : Fld := ⟨R.TOD_RX_ERR, 0, 10⟩
/-- TOD_RX_ERR, RO. -/
def TOD_RX_ERR_FRAMING : Fld := ⟨R.TOD_RX_ERR, 10, 10⟩
/-- TOD_RX_ERR, RO. -/
def TOD_RX_ERR_ORPHAN : Fld := ⟨R.TOD_RX_ERR, 20, 10⟩
/-- TIME_CTRL, RWS. -/
def TIME_CTRL_FLOOR : Fld := ⟨R.TIME_CTRL, 0, 3⟩
/-- TIME_CTRL, RWS. -/
def TIME_CTRL_PPS_TRACEABLE : Fld := ⟨R.TIME_CTRL, 3, 1⟩
/-- TIME_CTRL, RWS. -/
def TIME_CTRL_DELAY_GATE : Fld := ⟨R.TIME_CTRL, 8, 8⟩
/-- TIME_CTRL, RWS. -/
def TIME_CTRL_HO_SPEC_S : Fld := ⟨R.TIME_CTRL, 16, 16⟩
/-- TIME_STATUS, RO. -/
def TIME_STATUS_QUALITY : Fld := ⟨R.TIME_STATUS, 0, 3⟩
/-- TIME_STATUS, RO. -/
def TIME_STATUS_ROLE : Fld := ⟨R.TIME_STATUS, 4, 2⟩
/-- TIME_STATUS, RO. -/
def TIME_STATUS_SOURCE : Fld := ⟨R.TIME_STATUS, 8, 2⟩
/-- TIME_STATUS, RO. -/
def TIME_STATUS_SOURCE_PORT : Fld := ⟨R.TIME_STATUS, 16, 9⟩
/-- TIME_EVENT, W1C. -/
def TIME_EVENT_QUALITY_CHANGE : Fld := ⟨R.TIME_EVENT, 0, 1⟩
/-- TIME_EVENT, W1C. -/
def TIME_EVENT_STEPPED : Fld := ⟨R.TIME_EVENT, 1, 1⟩
/-- TIME_EVENT, W1C. -/
def TIME_EVENT_TIME_SET : Fld := ⟨R.TIME_EVENT, 2, 1⟩
/-- TIME_EVENT, W1C. -/
def TIME_EVENT_SOURCE_CHANGE : Fld := ⟨R.TIME_EVENT, 3, 1⟩
/-- TIME_EVENT, W1C. -/
def TIME_EVENT_LEAP_APPLIED : Fld := ⟨R.TIME_EVENT, 4, 1⟩
/-- TIME_EVENT, W1C. -/
def TIME_EVENT_KPL_DOWN : Fld := ⟨R.TIME_EVENT, 5, 1⟩
/-- TIME_EVENT, W1C. -/
def TIME_EVENT_DELAY_STEP : Fld := ⟨R.TIME_EVENT, 6, 1⟩
/-- TIME_EVENT, W1C. -/
def TIME_EVENT_PTP_RESP_MISSED : Fld := ⟨R.TIME_EVENT, 7, 1⟩
/-- TIME_EVENT, W1C. -/
def TIME_EVENT_KPL_BAD : Fld := ⟨R.TIME_EVENT, 8, 1⟩
/-- TIME_CT_LO, RO. -/
def TIME_CT_LO_CT : Fld := ⟨R.TIME_CT_LO, 0, 32⟩
/-- TIME_CT_HI, RO. -/
def TIME_CT_HI_CT : Fld := ⟨R.TIME_CT_HI, 0, 32⟩
/-- TIME_SEC_LO, RO. -/
def TIME_SEC_LO_SEC_LOW : Fld := ⟨R.TIME_SEC_LO, 0, 32⟩
/-- TIME_SEC_HI, RO. -/
def TIME_SEC_HI_SEC_HIGH : Fld := ⟨R.TIME_SEC_HI, 0, 16⟩
/-- TIME_SEC_HI, RO. -/
def TIME_SEC_HI_FRACTION : Fld := ⟨R.TIME_SEC_HI, 16, 16⟩
/-- TIME_NS, RO. -/
def TIME_NS_NS : Fld := ⟨R.TIME_NS, 0, 30⟩
/-- TIME_UTC, RWS. -/
def TIME_UTC_UTC_OFFSET : Fld := ⟨R.TIME_UTC, 0, 16⟩
/-- TIME_UTC, RWS. -/
def TIME_UTC_LEAP61 : Fld := ⟨R.TIME_UTC, 16, 1⟩
/-- TIME_UTC, RWS. -/
def TIME_UTC_LEAP59 : Fld := ⟨R.TIME_UTC, 17, 1⟩
/-- TIME_UTC, RWS. -/
def TIME_UTC_UTC_VALID : Fld := ⟨R.TIME_UTC, 18, 1⟩
/-- TIME_UTC, RWS. -/
def TIME_UTC_MANUAL : Fld := ⟨R.TIME_UTC, 19, 1⟩
/-- TIME_EST, RO. -/
def TIME_EST_OFFSET : Fld := ⟨R.TIME_EST, 0, 32⟩
/-- KPL_PORT_CFG, RWS. -/
def KPL_PORT_CFG_ENABLE (p : Nat) : Fld := ⟨R.KPL_PORT_CFG p, 0, 1⟩
/-- KPL_PORT_CFG, RWS. -/
def KPL_PORT_CFG_LOCAL_PRIORITY (p : Nat) : Fld := ⟨R.KPL_PORT_CFG p, 1, 8⟩
/-- KPL_PORT_CFG, RWS. -/
def KPL_PORT_CFG_NO_UPSTREAM (p : Nat) : Fld := ⟨R.KPL_PORT_CFG p, 9, 1⟩
/-- KPL_ASYM, RWS. -/
def KPL_ASYM_ASYM (p : Nat) : Fld := ⟨R.KPL_ASYM p, 0, 32⟩
/-- KPL_STATUS, RO. -/
def KPL_STATUS_STATE (p : Nat) : Fld := ⟨R.KPL_STATUS p, 0, 3⟩
/-- KPL_STATUS, RO. -/
def KPL_STATUS_DIRECTION (p : Nat) : Fld := ⟨R.KPL_STATUS p, 3, 2⟩
/-- KPL_STATUS, RO. -/
def KPL_STATUS_PEER_CAL (p : Nat) : Fld := ⟨R.KPL_STATUS p, 5, 1⟩
/-- KPL_STATUS, RO. -/
def KPL_STATUS_PEER_FOLLOWING (p : Nat) : Fld := ⟨R.KPL_STATUS p, 6, 1⟩
/-- KPL_STATUS, RO. -/
def KPL_STATUS_MISSED (p : Nat) : Fld := ⟨R.KPL_STATUS p, 16, 16⟩
/-- KPL_DELAY, RO. -/
def KPL_DELAY_DELAY (p : Nat) : Fld := ⟨R.KPL_DELAY p, 0, 32⟩
/-- KPL_OFFSET, RO. -/
def KPL_OFFSET_OFFSET (p : Nat) : Fld := ⟨R.KPL_OFFSET p, 0, 32⟩
/-- KPL_PEER_ID_LO, RO. -/
def KPL_PEER_ID_LO_ID (p : Nat) : Fld := ⟨R.KPL_PEER_ID_LO p, 0, 32⟩
/-- KPL_PEER_ID_HI, RO. -/
def KPL_PEER_ID_HI_ID (p : Nat) : Fld := ⟨R.KPL_PEER_ID_HI p, 0, 32⟩
/-- PTP_PORT_CFG, RWS. -/
def PTP_PORT_CFG_ENABLE (p : Nat) : Fld := ⟨R.PTP_PORT_CFG p, 0, 1⟩
/-- PTP_PORT_CFG, RWS. -/
def PTP_PORT_CFG_TRANSPORT (p : Nat) : Fld := ⟨R.PTP_PORT_CFG p, 1, 2⟩
/-- PTP_PORT_CFG, RWS. -/
def PTP_PORT_CFG_TWO_STEP (p : Nat) : Fld := ⟨R.PTP_PORT_CFG p, 3, 1⟩
/-- PTP_PORT_CFG, RWS. -/
def PTP_PORT_CFG_MCAST_NF (p : Nat) : Fld := ⟨R.PTP_PORT_CFG p, 6, 1⟩
/-- PTP_PORT_CFG, RWS. -/
def PTP_PORT_CFG_NOT_SLAVE (p : Nat) : Fld := ⟨R.PTP_PORT_CFG p, 7, 1⟩
/-- PTP_PORT_CFG, RWS. -/
def PTP_PORT_CFG_LOCAL_PRIORITY (p : Nat) : Fld := ⟨R.PTP_PORT_CFG p, 8, 8⟩
/-- PTP_PORT_INTERVALS, RWS. -/
def PTP_PORT_INTERVALS_LOG_SYNC (p : Nat) : Fld := ⟨R.PTP_PORT_INTERVALS p, 0, 8⟩
/-- PTP_PORT_INTERVALS, RWS. -/
def PTP_PORT_INTERVALS_LOG_DELAY_REQ (p : Nat) : Fld := ⟨R.PTP_PORT_INTERVALS p, 8, 8⟩
/-- PTP_PORT_INTERVALS, RWS. -/
def PTP_PORT_INTERVALS_LOG_ANNOUNCE (p : Nat) : Fld := ⟨R.PTP_PORT_INTERVALS p, 16, 8⟩
/-- PTP_PORT_INTERVALS, RWS. -/
def PTP_PORT_INTERVALS_ANNOUNCE_TIMEOUT (p : Nat) : Fld := ⟨R.PTP_PORT_INTERVALS p, 24, 8⟩
/-- PTP_PORT_ASYM, RWS. -/
def PTP_PORT_ASYM_ASYM (p : Nat) : Fld := ⟨R.PTP_PORT_ASYM p, 0, 32⟩
/-- PTP_PORT_STATUS, RO. -/
def PTP_PORT_STATUS_STATE (p : Nat) : Fld := ⟨R.PTP_PORT_STATUS p, 0, 4⟩
/-- PTP_PORT_STATUS, RO. -/
def PTP_PORT_STATUS_RESP_MISSED (p : Nat) : Fld := ⟨R.PTP_PORT_STATUS p, 16, 16⟩
/-- PTP_CLOCK_CFG, RWS. -/
def PTP_CLOCK_CFG_PROFILE : Fld := ⟨R.PTP_CLOCK_CFG, 0, 2⟩
/-- PTP_CLOCK_CFG, RWS. -/
def PTP_CLOCK_CFG_TC_ONLY : Fld := ⟨R.PTP_CLOCK_CFG, 2, 1⟩
/-- PTP_CLOCK_CFG, RWS. -/
def PTP_CLOCK_CFG_DOMAIN : Fld := ⟨R.PTP_CLOCK_CFG, 8, 8⟩
/-- PTP_CLOCK_CFG, RWS. -/
def PTP_CLOCK_CFG_PRIORITY2 : Fld := ⟨R.PTP_CLOCK_CFG, 16, 8⟩
/-- PTP_CLOCK_ID_LO, RWS. -/
def PTP_CLOCK_ID_LO_ID : Fld := ⟨R.PTP_CLOCK_ID_LO, 0, 32⟩
/-- PTP_CLOCK_ID_HI, RWS. -/
def PTP_CLOCK_ID_HI_ID : Fld := ⟨R.PTP_CLOCK_ID_HI, 0, 32⟩
/-- PTP_CLOCK_QUAL, RO. -/
def PTP_CLOCK_QUAL_CLOCK_CLASS : Fld := ⟨R.PTP_CLOCK_QUAL, 0, 8⟩
/-- PTP_CLOCK_QUAL, RO. -/
def PTP_CLOCK_QUAL_CLOCK_ACCURACY : Fld := ⟨R.PTP_CLOCK_QUAL, 8, 8⟩
/-- PTP_CLOCK_QUAL, RO. -/
def PTP_CLOCK_QUAL_VARIANCE : Fld := ⟨R.PTP_CLOCK_QUAL, 16, 16⟩
/-- GNSS_CFG, RWS. -/
def GNSS_CFG_BIAS_EN : Fld := ⟨R.GNSS_CFG, 0, 1⟩
/-- GNSS_CFG, RWS. -/
def GNSS_CFG_BIAS_5V : Fld := ⟨R.GNSS_CFG, 1, 1⟩
/-- GNSS_CFG, RWS. -/
def GNSS_CFG_CONST_EN : Fld := ⟨R.GNSS_CFG, 4, 3⟩
/-- GNSS_CFG, RWS. -/
def GNSS_CFG_BAND_EN : Fld := ⟨R.GNSS_CFG, 8, 2⟩
/-- GNSS_CFG, RWS. -/
def GNSS_CFG_MODE : Fld := ⟨R.GNSS_CFG, 12, 2⟩
/-- GNSS_CFG, RWS. -/
def GNSS_CFG_JAM_INVALIDATE : Fld := ⟨R.GNSS_CFG, 14, 1⟩
/-- GNSS_CFG, RWS. -/
def GNSS_CFG_MIN_SATS : Fld := ⟨R.GNSS_CFG, 16, 4⟩
/-- GNSS_LIMITS, RWS. -/
def GNSS_LIMITS_UNC_LIMIT_NS : Fld := ⟨R.GNSS_LIMITS, 0, 8⟩
/-- GNSS_LIMITS, RWS. -/
def GNSS_LIMITS_JAM_LIMIT : Fld := ⟨R.GNSS_LIMITS, 8, 8⟩
/-- GNSS_LIMITS, RWS. -/
def GNSS_LIMITS_ELEV_MASK_DEG : Fld := ⟨R.GNSS_LIMITS, 16, 8⟩
/-- GNSS_LIMITS, RWS. -/
def GNSS_LIMITS_CN0_MIN : Fld := ⟨R.GNSS_LIMITS, 24, 8⟩
/-- GNSS_SURVEY, RWS. -/
def GNSS_SURVEY_SURVEY_S : Fld := ⟨R.GNSS_SURVEY, 0, 20⟩
/-- GNSS_SURVEY, RWS. -/
def GNSS_SURVEY_SIGMA_CM : Fld := ⟨R.GNSS_SURVEY, 20, 12⟩
/-- GNSS_SPOOF, RWS. -/
def GNSS_SPOOF_RESID_M : Fld := ⟨R.GNSS_SPOOF, 0, 8⟩
/-- GNSS_SPOOF, RWS. -/
def GNSS_SPOOF_JUMP_NS : Fld := ⟨R.GNSS_SPOOF, 8, 16⟩
/-- GNSS_SPOOF, RWS. -/
def GNSS_SPOOF_CLEAR_S : Fld := ⟨R.GNSS_SPOOF, 24, 8⟩
/-- GNSS_STATUS, RO. -/
def GNSS_STATUS_ANT : Fld := ⟨R.GNSS_STATUS, 0, 2⟩
/-- GNSS_STATUS, RO. -/
def GNSS_STATUS_POS_STATE : Fld := ⟨R.GNSS_STATUS, 2, 2⟩
/-- GNSS_STATUS, RO. -/
def GNSS_STATUS_TIME_VALID : Fld := ⟨R.GNSS_STATUS, 4, 1⟩
/-- GNSS_STATUS, RO. -/
def GNSS_STATUS_SPOOF : Fld := ⟨R.GNSS_STATUS, 5, 1⟩
/-- GNSS_STATUS, RO. -/
def GNSS_STATUS_JAMMED_L1 : Fld := ⟨R.GNSS_STATUS, 6, 1⟩
/-- GNSS_STATUS, RO. -/
def GNSS_STATUS_JAMMED_L5 : Fld := ⟨R.GNSS_STATUS, 7, 1⟩
/-- GNSS_STATUS, RO. -/
def GNSS_STATUS_SATS_USED : Fld := ⟨R.GNSS_STATUS, 8, 8⟩
/-- GNSS_STATUS, RO. -/
def GNSS_STATUS_UNC_NS : Fld := ⟨R.GNSS_STATUS, 16, 8⟩
/-- GNSS_EVENT, W1C. -/
def GNSS_EVENT_ANT_FAULT : Fld := ⟨R.GNSS_EVENT, 0, 1⟩
/-- GNSS_EVENT, W1C. -/
def GNSS_EVENT_TIME_VALID_LOST : Fld := ⟨R.GNSS_EVENT, 1, 1⟩
/-- GNSS_EVENT, W1C. -/
def GNSS_EVENT_TIME_VALID_GAINED : Fld := ⟨R.GNSS_EVENT, 2, 1⟩
/-- GNSS_EVENT, W1C. -/
def GNSS_EVENT_SPOOF_SEEN : Fld := ⟨R.GNSS_EVENT, 3, 1⟩
/-- GNSS_EVENT, W1C. -/
def GNSS_EVENT_JAM_SEEN : Fld := ⟨R.GNSS_EVENT, 4, 1⟩
/-- GNSS_EVENT, W1C. -/
def GNSS_EVENT_SURVEY_DONE : Fld := ⟨R.GNSS_EVENT, 5, 1⟩
/-- GNSS_JAM, RO. -/
def GNSS_JAM_JI_L1 : Fld := ⟨R.GNSS_JAM, 0, 8⟩
/-- GNSS_JAM, RO. -/
def GNSS_JAM_JI_L5 : Fld := ⟨R.GNSS_JAM, 8, 8⟩
/-- GNSS_JAM, RO. -/
def GNSS_JAM_ANT_MA : Fld := ⟨R.GNSS_JAM, 16, 12⟩
/-- GNSS_UTC, RO. -/
def GNSS_UTC_UTC_OFFSET : Fld := ⟨R.GNSS_UTC, 0, 16⟩
/-- GNSS_UTC, RO. -/
def GNSS_UTC_LEAP : Fld := ⟨R.GNSS_UTC, 16, 2⟩
/-- GNSS_UTC, RO. -/
def GNSS_UTC_UTC_KNOWN : Fld := ⟨R.GNSS_UTC, 18, 1⟩
/-- GNSS_NOTCH, RO. -/
def GNSS_NOTCH_OFFSET_KHZ (n : Nat) : Fld := ⟨R.GNSS_NOTCH n, 0, 16⟩
/-- GNSS_NOTCH, RO. -/
def GNSS_NOTCH_DEPTH_DB (n : Nat) : Fld := ⟨R.GNSS_NOTCH n, 16, 8⟩
/-- GNSS_NOTCH, RO. -/
def GNSS_NOTCH_ACTIVE (n : Nat) : Fld := ⟨R.GNSS_NOTCH n, 24, 1⟩
/-- GNSS_CH, RO. -/
def GNSS_CH_STATE (c : Nat) : Fld := ⟨R.GNSS_CH c, 0, 3⟩
/-- GNSS_CH, RO. -/
def GNSS_CH_SYSTEM (c : Nat) : Fld := ⟨R.GNSS_CH c, 4, 2⟩
/-- GNSS_CH, RO. -/
def GNSS_CH_BAND (c : Nat) : Fld := ⟨R.GNSS_CH c, 6, 1⟩
/-- GNSS_CH, RO. -/
def GNSS_CH_SV (c : Nat) : Fld := ⟨R.GNSS_CH c, 8, 6⟩
/-- GNSS_CH, RO. -/
def GNSS_CH_CN0 (c : Nat) : Fld := ⟨R.GNSS_CH c, 16, 8⟩
/-- GNSS_CH, RO. -/
def GNSS_CH_ELEV (c : Nat) : Fld := ⟨R.GNSS_CH c, 24, 8⟩
/-- GNSS_CH, RO. -/
def GNSS_CH_EXCLUDE (c : Nat) : Fld := ⟨R.GNSS_CH c + 4, 0, 5⟩
/-- CAL_CTRL, RWS. -/
def CAL_CTRL_AUTO_EN : Fld := ⟨R.CAL_CTRL, 0, 1⟩
/-- CAL_CTRL, RWS. -/
def CAL_CTRL_TEMP_DELTA : Fld := ⟨R.CAL_CTRL, 8, 8⟩
/-- CAL_CTRL, RWS. -/
def CAL_CTRL_PERIOD_S : Fld := ⟨R.CAL_CTRL, 16, 16⟩
/-- CAL_STATUS, RO. -/
def CAL_STATUS_RUNNING : Fld := ⟨R.CAL_STATUS, 0, 1⟩
/-- CAL_STATUS, RO. -/
def CAL_STATUS_DEFAULTS : Fld := ⟨R.CAL_STATUS, 1, 1⟩
/-- CAL_STATUS, RO. -/
def CAL_STATUS_FAILED_ANY : Fld := ⟨R.CAL_STATUS, 2, 1⟩
/-- CAL_EVENT, W1C. -/
def CAL_EVENT_TRIGGERED : Fld := ⟨R.CAL_EVENT, 0, 1⟩
/-- CAL_EVENT, W1C. -/
def CAL_EVENT_FAIL_SEEN : Fld := ⟨R.CAL_EVENT, 1, 1⟩
/-- CAL_EVENT, W1C. -/
def CAL_EVENT_DEFAULTS_SEEN : Fld := ⟨R.CAL_EVENT, 2, 1⟩
/-- CAL_ITEM, RO. -/
def CAL_ITEM_STATE (i : Nat) : Fld := ⟨R.CAL_ITEM i, 0, 2⟩
/-- CAL_ITEM, RO. -/
def CAL_ITEM_PENDING (i : Nat) : Fld := ⟨R.CAL_ITEM i, 2, 1⟩
/-- CAL_ITEM, RO. -/
def CAL_ITEM_NOT_RUN (i : Nat) : Fld := ⟨R.CAL_ITEM i, 3, 1⟩
/-- CAL_ITEM, RO. -/
def CAL_ITEM_TEMP (i : Nat) : Fld := ⟨R.CAL_ITEM i, 16, 16⟩
/-- GROOM_CTRL, RWS. -/
def GROOM_CTRL_PREFER_B : Fld := ⟨R.GROOM_CTRL, 0, 1⟩
/-- GROOM_CTRL, RWS. -/
def GROOM_CTRL_REVERT_EN : Fld := ⟨R.GROOM_CTRL, 1, 1⟩
/-- GROOM_CTRL, RWS. -/
def GROOM_CTRL_SHADOW_S : Fld := ⟨R.GROOM_CTRL, 2, 6⟩
/-- GROOM_CTRL, RWS. -/
def GROOM_CTRL_REVERT_HOLD_S : Fld := ⟨R.GROOM_CTRL, 8, 8⟩
/-- GROOM_CTRL, RWS. -/
def GROOM_CTRL_WDOG_MS : Fld := ⟨R.GROOM_CTRL, 16, 16⟩
/-- GROOM_STATUS, RO. -/
def GROOM_STATUS_STATE_A : Fld := ⟨R.GROOM_STATUS, 0, 3⟩
/-- GROOM_STATUS, RO. -/
def GROOM_STATUS_STATE_B : Fld := ⟨R.GROOM_STATUS, 3, 3⟩
/-- GROOM_STATUS, RO. -/
def GROOM_STATUS_LEADER_B : Fld := ⟨R.GROOM_STATUS, 8, 1⟩
/-- GROOM_STATUS, RO. -/
def GROOM_STATUS_DUAL : Fld := ⟨R.GROOM_STATUS, 9, 1⟩
/-- GROOM_STATUS, RO. -/
def GROOM_STATUS_HANDOVER : Fld := ⟨R.GROOM_STATUS, 10, 1⟩
/-- GROOM_EVENT, W1C. -/
def GROOM_EVENT_FAILOVER : Fld := ⟨R.GROOM_EVENT, 0, 1⟩
/-- GROOM_EVENT, W1C. -/
def GROOM_EVENT_DIVERGENCE : Fld := ⟨R.GROOM_EVENT, 1, 1⟩
/-- GROOM_EVENT, W1C. -/
def GROOM_EVENT_LAG : Fld := ⟨R.GROOM_EVENT, 2, 1⟩
/-- GROOM_EVENT, W1C. -/
def GROOM_EVENT_WDOG : Fld := ⟨R.GROOM_EVENT, 3, 1⟩
/-- GROOM_EVENT, W1C. -/
def GROOM_EVENT_LOCKUP : Fld := ⟨R.GROOM_EVENT, 4, 1⟩
/-- GROOM_EVENT, W1C. -/
def GROOM_EVENT_RESYNC_DONE : Fld := ⟨R.GROOM_EVENT, 5, 1⟩
/-- GROOM_EVENT, W1C. -/
def GROOM_EVENT_REVERT : Fld := ⟨R.GROOM_EVENT, 6, 1⟩
/-- GROOM_EVENT, W1C. -/
def GROOM_EVENT_HANDOVER_DONE : Fld := ⟨R.GROOM_EVENT, 7, 1⟩
/-- GROOM_EVENT, W1C. -/
def GROOM_EVENT_HANDOVER_ABORT : Fld := ⟨R.GROOM_EVENT, 8, 1⟩
/-- GROOM_EVENT, W1C. -/
def GROOM_EVENT_RETIRED : Fld := ⟨R.GROOM_EVENT, 9, 1⟩
/-- GROOM_EVENT, W1C. -/
def GROOM_EVENT_TASK_FAULT : Fld := ⟨R.GROOM_EVENT, 10, 1⟩
/-- GROOM_LAST_FAULT, RO. -/
def GROOM_LAST_FAULT_KIND : Fld := ⟨R.GROOM_LAST_FAULT, 0, 3⟩
/-- GROOM_LAST_FAULT, RO. -/
def GROOM_LAST_FAULT_COMPLEX_B : Fld := ⟨R.GROOM_LAST_FAULT, 3, 1⟩
/-- GROOM_LAST_FAULT, RO. -/
def GROOM_LAST_FAULT_CORE : Fld := ⟨R.GROOM_LAST_FAULT, 4, 3⟩
/-- GROOM_IDENT_A, RO. -/
def GROOM_IDENT_A_IMAGE_SEQ : Fld := ⟨R.GROOM_IDENT_A, 0, 16⟩
/-- GROOM_IDENT_A, RO. -/
def GROOM_IDENT_A_CFG_SEQ : Fld := ⟨R.GROOM_IDENT_A, 16, 16⟩
/-- GROOM_IDENT_B, RO. -/
def GROOM_IDENT_B_IMAGE_SEQ : Fld := ⟨R.GROOM_IDENT_B, 0, 16⟩
/-- GROOM_IDENT_B, RO. -/
def GROOM_IDENT_B_CFG_SEQ : Fld := ⟨R.GROOM_IDENT_B, 16, 16⟩
/-- GROOM_RESTARTS, RO. -/
def GROOM_RESTARTS_A : Fld := ⟨R.GROOM_RESTARTS, 0, 16⟩
/-- GROOM_RESTARTS, RO. -/
def GROOM_RESTARTS_B : Fld := ⟨R.GROOM_RESTARTS, 16, 16⟩
/-- GROOM_OUT_SEQ_LO, RO. -/
def GROOM_OUT_SEQ_LO_SEQ : Fld := ⟨R.GROOM_OUT_SEQ_LO, 0, 32⟩
/-- GROOM_OUT_SEQ_HI, RO. -/
def GROOM_OUT_SEQ_HI_SEQ : Fld := ⟨R.GROOM_OUT_SEQ_HI, 0, 32⟩
/-- GROOM_TASK_CFG, RWS. -/
def GROOM_TASK_CFG_USER_SHARE : Fld := ⟨R.GROOM_TASK_CFG, 0, 7⟩
/-- GROOM_TASK_CFG, RWS. -/
def GROOM_TASK_CFG_USER_READ : Fld := ⟨R.GROOM_TASK_CFG, 8, 6⟩
/-- GROOM_TASK_STATUS, RO. -/
def GROOM_TASK_STATUS_RUNNING : Fld := ⟨R.GROOM_TASK_STATUS, 0, 16⟩
/-- GROOM_TASK_STATUS, RO. -/
def GROOM_TASK_STATUS_FAULTED : Fld := ⟨R.GROOM_TASK_STATUS, 16, 16⟩
/-- GROOM_PC_CTRL, RWS. -/
def GROOM_PC_CTRL_EN (c : Nat) : Fld := ⟨R.GROOM_PC_CTRL c, 0, 8⟩
/-- GROOM_PC_CTRL, RWS. -/
def GROOM_PC_CTRL_CYC_EN (c : Nat) : Fld := ⟨R.GROOM_PC_CTRL c, 8, 1⟩
/-- GROOM_PC_STICKY, W1C. -/
def GROOM_PC_STICKY_WRAP (c : Nat) : Fld := ⟨R.GROOM_PC_STICKY c, 0, 8⟩
/-- GROOM_PC_STICKY, W1C. -/
def GROOM_PC_STICKY_CYC_WRAP (c : Nat) : Fld := ⟨R.GROOM_PC_STICKY c, 8, 1⟩
/-- GROOM_CYC_LO, RO. -/
def GROOM_CYC_LO_CYCLES (c : Nat) : Fld := ⟨R.GROOM_CYC_LO c, 0, 32⟩
/-- GROOM_CYC_HI, RO. -/
def GROOM_CYC_HI_CYCLES (c : Nat) : Fld := ⟨R.GROOM_CYC_HI c, 0, 32⟩
/-- GROOM_PC_SEL, RWS. -/
def GROOM_PC_SEL_EVENT (c : Nat) (k : Nat) : Fld := ⟨R.GROOM_PC_SEL c k, 0, 8⟩
/-- GROOM_PC_SEL, RWS. -/
def GROOM_PC_SEL_USER (c : Nat) (k : Nat) : Fld := ⟨R.GROOM_PC_SEL c k, 8, 1⟩
/-- GROOM_PC_SEL, RWS. -/
def GROOM_PC_SEL_PRIV (c : Nat) (k : Nat) : Fld := ⟨R.GROOM_PC_SEL c k, 9, 1⟩
/-- GROOM_PC_LO, RWS. -/
def GROOM_PC_LO_COUNT_LOW (c : Nat) (k : Nat) : Fld := ⟨R.GROOM_PC_LO c k, 0, 32⟩
/-- GROOM_PC_HI, RWS. -/
def GROOM_PC_HI_COUNT_HIGH (c : Nat) (k : Nat) : Fld := ⟨R.GROOM_PC_HI c k, 0, 16⟩
/-- GROOM_LOG_CTRL, RWS. -/
def GROOM_LOG_CTRL_EVENT (c : Nat) : Fld := ⟨R.GROOM_LOG_CTRL c, 0, 8⟩
/-- GROOM_LOG_CTRL, RWS. -/
def GROOM_LOG_CTRL_ENABLE (c : Nat) : Fld := ⟨R.GROOM_LOG_CTRL c, 8, 1⟩
/-- GROOM_LOG_PERIOD, RWS. -/
def GROOM_LOG_PERIOD_N_MINUS_1 (c : Nat) : Fld := ⟨R.GROOM_LOG_PERIOD c, 0, 24⟩
/-- GROOM_LOG_STATUS, RO. -/
def GROOM_LOG_STATUS_HELD (c : Nat) : Fld := ⟨R.GROOM_LOG_STATUS c, 0, 13⟩
/-- GROOM_LOG_STATUS, RO. -/
def GROOM_LOG_STATUS_LOST (c : Nat) : Fld := ⟨R.GROOM_LOG_STATUS c, 16, 16⟩
/-- GROOM_HPC_SEL, RWS. -/
def GROOM_HPC_SEL_EVENT (h : Nat) (j : Nat) : Fld := ⟨R.GROOM_HPC_SEL h, 8 * j, 8⟩
/-- GROOM_HPC_STICKY, W1C. -/
def GROOM_HPC_STICKY_WRAP (h : Nat) : Fld := ⟨R.GROOM_HPC_STICKY h, 0, 4⟩
/-- GROOM_HPC_LO, RWS. -/
def GROOM_HPC_LO_COUNT_LOW (h : Nat) (k : Nat) : Fld := ⟨R.GROOM_HPC_LO h k, 0, 32⟩
/-- GROOM_HPC_HI, RWS. -/
def GROOM_HPC_HI_COUNT_HIGH (h : Nat) (k : Nat) : Fld := ⟨R.GROOM_HPC_HI h k, 0, 16⟩
/-- OBS_STATUS, RO. -/
def OBS_STATUS_CAPTURING : Fld := ⟨R.OBS_STATUS, 0, 7⟩
/-- OBS_STATUS, RO. -/
def OBS_STATUS_FROZEN : Fld := ⟨R.OBS_STATUS, 8, 9⟩
/-- OBS_EVENT, W1C. -/
def OBS_EVENT_WRAP_SEEN : Fld := ⟨R.OBS_EVENT, 0, 1⟩
/-- OBS_EVENT, W1C. -/
def OBS_EVENT_SNAP_LATE : Fld := ⟨R.OBS_EVENT, 1, 1⟩
/-- OBS_WRAP, W1C. -/
def OBS_WRAP_WRAP : Fld := ⟨R.OBS_WRAP, 0, 7⟩
/-- OBS_CFG, RWS. -/
def OBS_CFG_HEALTH_S : Fld := ⟨R.OBS_CFG, 0, 16⟩
/-- OBS_HEALTH, RO. -/
def OBS_HEALTH_TIME_DEGRADED : Fld := ⟨R.OBS_HEALTH, 0, 1⟩
/-- OBS_HEALTH, RO. -/
def OBS_HEALTH_LANE_DOWN_FAULT : Fld := ⟨R.OBS_HEALTH, 1, 1⟩
/-- OBS_HEALTH, RO. -/
def OBS_HEALTH_ENGINE_NOT_READY : Fld := ⟨R.OBS_HEALTH, 2, 1⟩
/-- OBS_HEALTH, RO. -/
def OBS_HEALTH_NO_REDUNDANCY : Fld := ⟨R.OBS_HEALTH, 3, 1⟩
/-- OBS_HEALTH, RO. -/
def OBS_HEALTH_HAYLOFT_DEGRADED : Fld := ⟨R.OBS_HEALTH, 4, 1⟩
/-- OBS_HEALTH, RO. -/
def OBS_HEALTH_HEDDLE_OUT : Fld := ⟨R.OBS_HEALTH, 5, 1⟩
/-- OBS_HEALTH, RO. -/
def OBS_HEALTH_CAL_INCOMPLETE : Fld := ⟨R.OBS_HEALTH, 6, 1⟩
/-- OBS_HEALTH, RO. -/
def OBS_HEALTH_XO_MAIN_OUT : Fld := ⟨R.OBS_HEALTH, 7, 1⟩
/-- OBS_HEALTH, RO. -/
def OBS_HEALTH_POWER_THERMAL : Fld := ⟨R.OBS_HEALTH, 8, 1⟩
/-- OBS_PEEK_SEL, RW. -/
def OBS_PEEK_SEL_SET : Fld := ⟨R.OBS_PEEK_SEL, 0, 8⟩
/-- OBS_PEEK_SEL, RW. -/
def OBS_PEEK_SEL_RECORD : Fld := ⟨R.OBS_PEEK_SEL, 8, 24⟩
/-- OBS_PEEK_DATA, RO. -/
def OBS_PEEK_DATA_DATA (w : Nat) : Fld := ⟨R.OBS_PEEK_DATA w, 0, 32⟩
end F

/-- Rows of the SYS block. -/
def rowsSYS : List RegRow := [
  { base := 0x0, reset := 0x15120 }, -- SYS_ID
  { base := 0x4, w1s := 0x3 }, -- SYS_CTRL
  { base := 0x8 }, -- SYS_STATUS
  { base := 0xC, rw := 0xFFFFFFFF } -- SYS_SCRATCH
]

/-- Rows of the RST block. -/
def rowsRST : List RegRow := [
  { base := 0x10000, reset := 0x1, w1c := 0x3FF }, -- RST_CAUSE
  { base := 0x10004 }, -- RST_STRAP
  { base := 0x10008, wo := 0xFFFF1FFF }, -- RST_SWREQ
  { base := 0x1000C }, -- RST_DOMAIN
  { base := 0x10010, w1s := 0x1FF }, -- RST_FORCE
  { base := 0x10014 }, -- RST_BOOT
  { base := 0x10018, wo := 0xF } -- RST_DBG_REQ
]

/-- Rows of the NVS block. -/
def rowsNVS : List RegRow := [
  { base := 0x20000 }, -- NVS_STATUS
  { base := 0x20004 }, -- NVS_IMG
  { base := 0x20008 }, -- NVS_CAL
  { base := 0x2000C }, -- NVS_CFG
  { base := 0x20010 } -- NVS_LEDGER_HEAD
]

/-- Rows of the HIF block. -/
def rowsHIF : List RegRow := [
  { base := 0x40000 }, -- HIF_STATUS
  { base := 0x40004, w1c := 0x1F }, -- HIF_ERR
  { base := 0x40010, rw := 0xFFFFFFFF }, -- HIF_DL_ADDR_LO
  { base := 0x40014, rw := 0xFFFFFFFF }, -- HIF_DL_ADDR_HI
  { base := 0x40018, rw := 0x3FFFFFF }, -- HIF_DL_LEN
  { base := 0x4001C, wo := 0x1 }, -- HIF_DL_CTRL
  { base := 0x40020 }, -- HIF_DL_STATUS
  { base := 0x41000, n1 := 128, s1 := 0x40, rws := 0xFFFFFFFF }, -- HIF_RING_SQ_LO
  { base := 0x41004, n1 := 128, s1 := 0x40, rws := 0xFFFFFFFF }, -- HIF_RING_SQ_HI
  { base := 0x41008, n1 := 128, s1 := 0x40, rws := 0xFFFFFFFF }, -- HIF_RING_CQ_LO
  { base := 0x4100C, n1 := 128, s1 := 0x40, rws := 0xFFFFFFFF }, -- HIF_RING_CQ_HI
  { base := 0x41010, n1 := 128, s1 := 0x40, reset := 0x640000, rws := 0xFFFF7FFF }, -- HIF_RING_CFG
  { base := 0x41014, n1 := 128, s1 := 0x40, rws := 0x1FF01FF }, -- HIF_RING_PARAM
  { base := 0x48000, n1 := 128, s1 := 0x10, n2 := 3, s2 := 0x4, rw := 0xFFFFFFFF }, -- MSI-X table
  { base := 0x4800C, n1 := 128, s1 := 0x10, rw := 0x1 }, -- MSI-X vector control (bit 0: mask)
  { base := 0x49000, n1 := 4, s1 := 0x4 } -- MSI-X pending bits
]

/-- Rows of the LANE block. -/
def rowsLANE : List RegRow := [
  { base := 0x100000, n1 := 272, s1 := 0x400, reset := 0xA000000, rws := 0xFF0007FF }, -- LANE_CFG
  { base := 0x100004, n1 := 272, s1 := 0x400, reset := 0xA840C0C, rws := 0x1FFF1F1F }, -- LANE_EQ
  { base := 0x100008, n1 := 272, s1 := 0x400, rws := 0xF }, -- LANE_PRBS
  { base := 0x100010, n1 := 272, s1 := 0x400 }, -- LANE_STATUS
  { base := 0x100014, n1 := 272, s1 := 0x400, w1c := 0x7F }, -- LANE_EVENT
  { base := 0x100018, n1 := 272, s1 := 0x400 }, -- LANE_EQ_STATUS
  { base := 0x100020, n1 := 272, s1 := 0x400 }, -- LANE_DELAY_TX
  { base := 0x100024, n1 := 272, s1 := 0x400 }, -- LANE_DELAY_RX
  { base := 0x100028, n1 := 272, s1 := 0x400 } -- LANE_PRBS_ERR
]

/-- Rows of the OE block. -/
def rowsOE : List RegRow := [
  { base := 0x180000, n1 := 32, s1 := 0x1000, rws := 0x1FF }, -- OE_CFG
  { base := 0x180004, n1 := 32, s1 := 0x1000 }, -- OE_STATUS
  { base := 0x180008, n1 := 32, s1 := 0x1000, w1c := 0xFF }, -- OE_EVENT
  { base := 0x18000C, n1 := 32, s1 := 0x1000 }, -- OE_LASER
  { base := 0x180010, n1 := 32, s1 := 0x1000 }, -- OE_TEMP
  { base := 0x180020, n1 := 32, s1 := 0x1000, n2 := 8, s2 := 0x4 }, -- OE_LANE_PWR
  { base := 0x180040, n1 := 32, s1 := 0x1000, reset := 0xFE70FC7C, rws := 0xFFFFFFFF } -- OE_ALARM
]

/-- Rows of the MAC block. -/
def rowsMAC : List RegRow := [
  { base := 0x200000, n1 := 273, s1 := 0x800, reset := 0x5F20000, rws := 0xFFFF00FF }, -- MAC_CFG
  { base := 0x200004, n1 := 273, s1 := 0x800, reset := 0x88A80001, rws := 0xFFFF7FFF }, -- MAC_TAG
  { base := 0x200008, n1 := 273, s1 := 0x800, reset := 0x7FFFFF, rws := 0xFFFFFF }, -- MAC_PAUSE
  { base := 0x20000C, n1 := 273, s1 := 0x800, reset := 0x14, rws := 0xFFFFFFFF }, -- MAC_LAUNCH
  { base := 0x200010, n1 := 273, s1 := 0x800, rws := 0xFFFFFFFF }, -- MAC_ADDR_LO
  { base := 0x200014, n1 := 273, s1 := 0x800, rws := 0xFFFF }, -- MAC_ADDR_HI
  { base := 0x200020, n1 := 273, s1 := 0x800 }, -- MAC_STATUS
  { base := 0x200024, n1 := 273, s1 := 0x800, w1c := 0x3F }, -- MAC_EVENT
  { base := 0x200028, n1 := 273, s1 := 0x800 }, -- MAC_BOBBIN
  { base := 0x200030, n1 := 273, s1 := 0x800 }, -- MAC_SHED_STATUS
  { base := 0x200100, n1 := 273, s1 := 0x800, n2 := 32, s2 := 0x10, rws := 0xFFFFFFFF }, -- MAC_FILTER
  { base := 0x200104, n1 := 273, s1 := 0x800, n2 := 32, s2 := 0x10, rws := 0x1FFF }, -- MAC_FILTER
  { base := 0x200108, n1 := 273, s1 := 0x800, n2 := 32, s2 := 0x10, rws := 0xFFFF01FF }, -- MAC_FILTER
  { base := 0x20010C, n1 := 273, s1 := 0x800, n2 := 32, s2 := 0x10 }, -- MAC_FILTER
  { base := 0x200400, n1 := 273, s1 := 0x800, reset := 0x2, rws := 0xFFFFFFFF }, -- MAC_VLAN_MEMBER
  { base := 0x200404, n1 := 273, s1 := 0x800, n2 := 127, s2 := 0x4, rws := 0xFFFFFFFF } -- MAC_VLAN_MEMBER
]

/-- Rows of the HED block. -/
def rowsHED : List RegRow := [
  { base := 0x400000, reset := 0xFFFFFFFF, rws := 0xFFFFFFFF }, -- HED_CTRL
  { base := 0x400004 }, -- HED_STATUS
  { base := 0x400008, w1c := 0xFFFFFFFF }, -- HED_FAULT
  { base := 0x40000C, w1c := 0xFF }, -- HED_EVENT
  { base := 0x400010 }, -- HED_GEN_STATUS
  { base := 0x400014 }, -- HED_GEN_TAG0
  { base := 0x400018 }, -- HED_GEN_TAG1
  { base := 0x400020, rws := 0xFFFF01FF }, -- HED_MALF_CFG
  { base := 0x400040, n1 := 4, s1 := 0x8 }, -- HED_MALF_CNT_LO
  { base := 0x400044, n1 := 4, s1 := 0x8 }, -- HED_MALF_CNT_HI
  { base := 0x400060, reset := 0x12C, rws := 0xFFFFF }, -- HED_FDB_CFG
  { base := 0x400064 }, -- HED_FDB_STATUS
  { base := 0x400080, n1 := 9, s1 := 0x4, rws := 0xFFFFFFFF }, -- HED_LEARN
  { base := 0x4000C0 }, -- HED_ECC_ADDR
  { base := 0x400100, n1 := 32, s1 := 0x4, reset := 0x10000 }, -- HED_HEDDLE
  { base := 0x410000, n1 := 32, s1 := 0x4000, n2 := 4096, s2 := 0x4, rws := 0xFFFFFFFF } -- HED_GRAPH
]

/-- Rows of the LOOM block. -/
def rowsLOOM : List RegRow := [
  { base := 0x600000 }, -- LOOM_STATUS
  { base := 0x600004, w1c := 0x7FF }, -- LOOM_EVENT
  { base := 0x600008 }, -- LOOM_ECC_ADDR
  { base := 0x600010, n1 := 36, s1 := 0x4, reset := 0x201030, rws := 0xFFFFFF }, -- LOOM_STALL_CFG
  { base := 0x6000A0, reset := 0x1932, rws := 0xFFFF }, -- LOOM_SPILL_CFG
  { base := 0x6000A4, rws := 0xFFFFF }, -- LOOM_AGE
  { base := 0x6000A8, rws := 0xFFFF }, -- LOOM_MCAST_WAIT
  { base := 0x6000AC, reset := 0x30000 }, -- LOOM_HAYLOFT
  { base := 0x601000, n1 := 272, s1 := 0x8, reset := 0x4040600, rws := 0xFFFFFFFF }, -- LOOM_HALT
  { base := 0x601004, n1 := 272, s1 := 0x8 }, -- LOOM_HALT
  { base := 0x602000, n1 := 272, s1 := 0x4 }, -- LOOM_HALT_STATUS
  { base := 0x603000, n1 := 16, s1 := 0x8, rws := 0x3FFFFFF }, -- LOOM_MIRROR
  { base := 0x603004, n1 := 16, s1 := 0x8, rws := 0xFFFF007F }, -- LOOM_MIRROR
  { base := 0x620000, n1 := 4096, s1 := 0x20, n2 := 8, s2 := 0x4 }, -- LOOM_WOVEN
  { base := 0x680000, n1 := 8192, s1 := 0x40, n2 := 8, s2 := 0x4, rws := 0xFFFFFFFF }, -- LOOM_GROUP
  { base := 0x680020, n1 := 8192, s1 := 0x40, rws := 0x3FFFF }, -- LOOM_GROUP
  { base := 0x680024, n1 := 8192, s1 := 0x40, n2 := 7, s2 := 0x4 } -- LOOM_GROUP
]

/-- Rows of the EGR block. -/
def rowsEGR : List RegRow := [
  { base := 0x700000, n1 := 272, s1 := 0x20, reset := 0xFAC688, rws := 0xFFFFFF }, -- EGR_CLASS_LEVEL
  { base := 0x700004, n1 := 272, s1 := 0x20, reset := 0x1010101, rws := 0xFFFFFFFF }, -- EGR_CLASS_WEIGHT0
  { base := 0x700008, n1 := 272, s1 := 0x20, reset := 0x1010101, rws := 0xFFFFFFFF }, -- EGR_CLASS_WEIGHT1
  { base := 0x70000C, n1 := 272, s1 := 0x20, reset := 0x7F500810, rws := 0xFFFFFFFF }, -- EGR_RATION_CFG
  { base := 0x700010, n1 := 272, s1 := 0x20 }, -- EGR_PORT_STATUS
  { base := 0x700014, n1 := 272, s1 := 0x20 }, -- EGR_QUEUED
  { base := 0x703000, n1 := 275, s1 := 0x4, reset := 0x1, rws := 0xF }, -- EGR_RATION_WEIGHT
  { base := 0x704000, w1c := 0x1 } -- EGR_EVENT
]

/-- Rows of the FRER block. -/
def rowsFRER : List RegRow := [
  { base := 0x780000 }, -- FRER_STATUS
  { base := 0x780004, w1c := 0xF }, -- FRER_EVENT
  { base := 0x790000, n1 := 4096, s1 := 0x20, rws := 0xFFFFFF3F }, -- FRER_STREAM
  { base := 0x790004, n1 := 4096, s1 := 0x20, rws := 0x3F01FF }, -- FRER_STREAM
  { base := 0x790008, n1 := 4096, s1 := 0x20, n2 := 6, s2 := 0x4 }, -- FRER_STREAM
  { base := 0x7C0000, n1 := 4096, s1 := 0x10, n2 := 4, s2 := 0x4 } -- FRER_STATE
]

/-- Rows of the TIME block. -/
def rowsTIME : List RegRow := [
  { base := 0x800000, reset := 0x70800A01, rws := 0xFFFFFF0F }, -- TIME_CTRL
  { base := 0x800004, reset := 0x1FF0007 }, -- TIME_STATUS
  { base := 0x800008, w1c := 0x1FF }, -- TIME_EVENT
  { base := 0x800010 }, -- TIME_CT_LO
  { base := 0x800014 }, -- TIME_CT_HI
  { base := 0x800018 }, -- TIME_SEC_LO
  { base := 0x80001C }, -- TIME_SEC_HI
  { base := 0x800020 }, -- TIME_NS
  { base := 0x800024, reset := 0x25, rws := 0xFFFFF }, -- TIME_UTC
  { base := 0x800028 }, -- TIME_EST
  { base := 0x800100, n1 := 272, s1 := 0x20, reset := 0x100, rws := 0x3FF }, -- KPL_PORT_CFG
  { base := 0x800104, n1 := 272, s1 := 0x20, rws := 0xFFFFFFFF }, -- KPL_ASYM
  { base := 0x800108, n1 := 272, s1 := 0x20 }, -- KPL_STATUS
  { base := 0x80010C, n1 := 272, s1 := 0x20 }, -- KPL_DELAY
  { base := 0x800110, n1 := 272, s1 := 0x20 }, -- KPL_OFFSET
  { base := 0x800114, n1 := 272, s1 := 0x20 }, -- KPL_PEER_ID_LO
  { base := 0x800118, n1 := 272, s1 := 0x20 }, -- KPL_PEER_ID_HI
  { base := 0x804000, n1 := 272, s1 := 0x10, reset := 0x8000, rws := 0xFFCF }, -- PTP_PORT_CFG
  { base := 0x804004, n1 := 272, s1 := 0x10, reset := 0x3FDFCFC, rws := 0xFFFFFFFF }, -- PTP_PORT_INTERVALS
  { base := 0x804008, n1 := 272, s1 := 0x10, rws := 0xFFFFFFFF }, -- PTP_PORT_ASYM
  { base := 0x80400C, n1 := 272, s1 := 0x10, reset := 0x3 }, -- PTP_PORT_STATUS
  { base := 0x806000, reset := 0x801802, rws := 0xFFFF07 }, -- PTP_CLOCK_CFG
  { base := 0x806004, rws := 0xFFFFFFFF }, -- PTP_CLOCK_ID_LO
  { base := 0x806008, rws := 0xFFFFFFFF }, -- PTP_CLOCK_ID_HI
  { base := 0x80600C, reset := 0xFFFFFEF8 } -- PTP_CLOCK_QUAL
]

/-- Rows of the DPLL block. -/
def rowsDPLL : List RegRow := [
  { base := 0x880000, reset := 0x100, rws := 0xF3FF7 }, -- DPLL_CTRL
  { base := 0x880004 }, -- DPLL_STATUS
  { base := 0x880008, w1c := 0xFFF }, -- DPLL_EVENT
  { base := 0x88000C }, -- DPLL_QUAL
  { base := 0x880010, reset := 0x2710, rws := 0x1FFFF }, -- DPLL_BW_LINE
  { base := 0x880014, reset := 0x3E8, rws := 0x1FFFF }, -- DPLL_BW_CLKIN
  { base := 0x880018, reset := 0xA, rws := 0x1FFFF }, -- DPLL_BW_TIME
  { base := 0x88001C, reset := 0x7D0, rws := 0x1FFFF }, -- DPLL_BW_NT
  { base := 0x880020, reset := 0x70830, rws := 0xFFFFFF }, -- DPLL_HO_CFG
  { base := 0x880024, reset := 0x15180, rws := 0xFFFFFFFF }, -- DPLL_HO_WINDOW
  { base := 0x880028, reset := 0x64000A, rws := 0xFFFF03FF }, -- DPLL_SLEW
  { base := 0x88002C, reset := 0x3E8, rws := 0xFFFFFFFF }, -- DPLL_STEP
  { base := 0x880030, reset := 0xA0A0064, rws := 0xFFFFFFFF }, -- DPLL_LOCK
  { base := 0x880034, reset := 0x6403E8, rws := 0xFFFFFFFF }, -- DPLL_VOTE
  { base := 0x880038 }, -- DPLL_LEARN
  { base := 0x880040 }, -- DPLL_FREQ_LO
  { base := 0x880044 }, -- DPLL_FREQ_HI
  { base := 0x880048 }, -- DPLL_HO_FREQ_LO
  { base := 0x88004C }, -- DPLL_HO_FREQ_HI
  { base := 0x880050 }, -- DPLL_STEER_LO
  { base := 0x880054 }, -- DPLL_STEER_HI
  { base := 0x880058 }, -- DPLL_PHASE_ERR
  { base := 0x88005C }, -- DPLL_HO_ELAPSED
  { base := 0x880060, reset := 0x501, rws := 0xFF01 }, -- DPLL_ESMC_CFG
  { base := 0x880080, n1 := 9, s1 := 0x4, rws := 0xFFFFFFFF }, -- DPLL_ESMC_EN
  { base := 0x880100, n1 := 14, s1 := 0x20, rws := 0xFFFFF }, -- DPLL_REF_CFG
  { base := 0x880104, n1 := 14, s1 := 0x20, rws := 0x3FFFFFFF }, -- DPLL_REF_FREQ
  { base := 0x880108, n1 := 10, s1 := 0x20, reset := 0x23F00FA0, rws := 0xFFFFFFFF }, -- DPLL_REF_LIMITS
  { base := 0x880248, n1 := 4, s1 := 0x20, reset := 0x640032, rws := 0xFFFFFFFF }, -- DPLL_REF_LIMITS
  { base := 0x88010C, n1 := 10, s1 := 0x20, reset := 0xC000A, rws := 0xFFFFFF }, -- DPLL_REF_TIMING
  { base := 0x88024C, n1 := 4, s1 := 0x20, reset := 0xC003C, rws := 0xFFFFFF }, -- DPLL_REF_TIMING
  { base := 0x880110, n1 := 14, s1 := 0x20, reset := 0x640064, rws := 0xFFFFFFFF }, -- DPLL_REF_DRIFT
  { base := 0x880114, n1 := 14, s1 := 0x20, rws := 0xFFFFFFFF }, -- DPLL_REF_DELAY
  { base := 0x880118, n1 := 14, s1 := 0x20 }, -- DPLL_REF_STATUS
  { base := 0x88011C, n1 := 14, s1 := 0x20 } -- DPLL_REF_OFFSET
]

/-- Rows of the SYN block. -/
def rowsSYN : List RegRow := [
  { base := 0x8C0000 }, -- SYN_STATUS
  { base := 0x8C0004, w1c := 0x1FFF }, -- SYN_EVENT
  { base := 0x8C0008, reset := 0x8096, rws := 0xFFFF }, -- SYN_CFG
  { base := 0x8C000C }, -- SYN_RELOCKS
  { base := 0x8C0100, n1 := 8, s1 := 0x10, rws := 0x3 }, -- CLKOUT_CFG
  { base := 0x8C0104, n1 := 4, s1 := 0x10, reset := 0x30, rws := 0xFFFFFFFF }, -- CLKOUT_DIV_LO
  { base := 0x8C0144, n1 := 4, s1 := 0x10, reset := 0x40, rws := 0xFFFFFFFF }, -- CLKOUT_DIV_LO
  { base := 0x8C0108, n1 := 8, s1 := 0x10, rws := 0x1 }, -- CLKOUT_DIV_HI
  { base := 0x8C010C, n1 := 8, s1 := 0x10, rws := 0x3FFF }, -- CLKOUT_DELAY
  { base := 0x8C0200, n1 := 4, s1 := 0x20, rws := 0x7 }, -- PULSE_CFG
  { base := 0x8C0204, n1 := 2, s1 := 0x20, reset := 0x3B9ACA00 }, -- PULSE_PERIOD
  { base := 0x8C0244, n1 := 2, s1 := 0x20, reset := 0x989680, rws := 0x3FFFFFFF }, -- PULSE_PERIOD
  { base := 0x8C0208, n1 := 4, s1 := 0x20, reset := 0xF4240, rws := 0x3FFFFFFF }, -- PULSE_WIDTH
  { base := 0x8C020C, n1 := 4, s1 := 0x20, rws := 0xFFFFFFFF }, -- PULSE_DELAY
  { base := 0x8C0210, n1 := 4, s1 := 0x20 }, -- PULSE_OFFSET_LO
  { base := 0x8C0214, n1 := 4, s1 := 0x20 }, -- PULSE_OFFSET_HI
  { base := 0x8C0218, n1 := 4, s1 := 0x20 }, -- PULSE_STATUS
  { base := 0x8C0300, n1 := 8, s1 := 0x20, rws := 0x7 }, -- TRD_CFG
  { base := 0x8C0304, n1 := 8, s1 := 0x20, rws := 0xFFFFFFFF }, -- TRD_START_LO
  { base := 0x8C0308, n1 := 8, s1 := 0x20, rws := 0xFFFFFFFF }, -- TRD_START_HI
  { base := 0x8C030C, n1 := 8, s1 := 0x20, rws := 0xFFFFFFFF }, -- TRD_PERIOD
  { base := 0x8C0310, n1 := 8, s1 := 0x20, rws := 0xFFFFFFFF }, -- TRD_WIDTH
  { base := 0x8C0314, n1 := 8, s1 := 0x20, rws := 0xFFFFFFFF }, -- TRD_COUNT
  { base := 0x8C0318, n1 := 8, s1 := 0x20 }, -- TRD_DONE
  { base := 0x8C031C, n1 := 8, s1 := 0x20 }, -- TRD_MISSED
  { base := 0x8C0400, reset := 0x1C20000, rws := 0xFFFFFF1F }, -- TOD_CFG
  { base := 0x8C0404 }, -- TOD_STATUS
  { base := 0x8C0408 }, -- TOD_RX_SEC_LO
  { base := 0x8C040C }, -- TOD_RX_SEC_HI
  { base := 0x8C0410 } -- TOD_RX_ERR
]

/-- Rows of the MEAS block. -/
def rowsMEAS : List RegRow := [
  { base := 0x900000 }, -- MEAS_STATUS
  { base := 0x900004, w1c := 0x7F }, -- MEAS_EVENT
  { base := 0x900008, rws := 0xFFFFFFFF }, -- MEAS_XO_AGEING
  { base := 0x900010 }, -- MEAS_XO_CORR_LO
  { base := 0x900014 }, -- MEAS_XO_CORR_HI
  { base := 0x900018 }, -- MEAS_SPARE_OFFSET
  { base := 0x900100, n1 := 8, s1 := 0x20, rws := 0xFFFFFFFF }, -- MEAS_CH_CFG
  { base := 0x900104, n1 := 8, s1 := 0x20, reset := 0xF4240, rws := 0x3FFFFFFF }, -- MEAS_CH_GATE
  { base := 0x900108, n1 := 8, s1 := 0x20, rws := 0x3FFFFFFF }, -- MEAS_CH_ARM
  { base := 0x90010C, n1 := 8, s1 := 0x20 }, -- MEAS_CH_STATUS
  { base := 0x900110, n1 := 8, s1 := 0x20 }, -- MEAS_CH_LOST
  { base := 0x900114, n1 := 8, s1 := 0x20 }, -- MEAS_CH_STRAY
  { base := 0x900118, n1 := 8, s1 := 0x20 }, -- MEAS_CH_DELAY
  { base := 0x910000, n1 := 286, s1 := 0x20, n2 := 8, s2 := 0x4 } -- MEAS_TAP_LAST
]

/-- Rows of the GNSS block. -/
def rowsGNSS : List RegRow := [
  { base := 0x940000, reset := 0x40370, rws := 0xF7373 }, -- GNSS_CFG
  { base := 0x940004, reset := 0x1E0A6414, rws := 0xFFFFFFFF }, -- GNSS_LIMITS
  { base := 0x940008, reset := 0x6400E10, rws := 0xFFFFFFFF }, -- GNSS_SURVEY
  { base := 0x94000C, reset := 0x3C00641E, rws := 0xFFFFFFFF }, -- GNSS_SPOOF
  { base := 0x940010 }, -- GNSS_STATUS
  { base := 0x940014, w1c := 0x3F }, -- GNSS_EVENT
  { base := 0x940018 }, -- GNSS_JAM
  { base := 0x94001C }, -- GNSS_UTC
  { base := 0x940020, n1 := 8, s1 := 0x4 }, -- GNSS_NOTCH
  { base := 0x940040, rws := 0xFFFFFFFF }, -- GNSS_POS_X_LO
  { base := 0x940044, rws := 0xFFFFFFFF }, -- GNSS_POS_X_HI
  { base := 0x940048, rws := 0xFFFFFFFF }, -- GNSS_POS_Y_LO
  { base := 0x94004C, rws := 0xFFFFFFFF }, -- GNSS_POS_Y_HI
  { base := 0x940050, rws := 0xFFFFFFFF }, -- GNSS_POS_Z_LO
  { base := 0x940054, rws := 0xFFFFFFFF }, -- GNSS_POS_Z_HI
  { base := 0x941000, n1 := 96, s1 := 0x8, n2 := 2, s2 := 0x4 } -- GNSS_CH
]

/-- Rows of the CAL block. -/
def rowsCAL : List RegRow := [
  { base := 0x980000, reset := 0xE101001, rws := 0xFFFFFF01 }, -- CAL_CTRL
  { base := 0x980004 }, -- CAL_STATUS
  { base := 0x980008, w1c := 0x7 }, -- CAL_EVENT
  { base := 0x980100, n1 := 302, s1 := 0x4 } -- CAL_ITEM
]

/-- Rows of the GROOM block. -/
def rowsGROOM : List RegRow := [
  { base := 0xA00000, reset := 0x640A2A, rws := 0xFFFFFFFF }, -- GROOM_CTRL
  { base := 0xA00004 }, -- GROOM_STATUS
  { base := 0xA00008, w1c := 0x7FF }, -- GROOM_EVENT
  { base := 0xA0000C }, -- GROOM_LAST_FAULT
  { base := 0xA00010 }, -- GROOM_IDENT_A
  { base := 0xA00014 }, -- GROOM_IDENT_B
  { base := 0xA00018 }, -- GROOM_RESTARTS
  { base := 0xA00020 }, -- GROOM_OUT_SEQ_LO
  { base := 0xA00024 }, -- GROOM_OUT_SEQ_HI
  { base := 0xA00030, reset := 0x32, rws := 0x3F7F }, -- GROOM_TASK_CFG
  { base := 0xA00034 }, -- GROOM_TASK_STATUS
  { base := 0xA01000, n1 := 6, s1 := 0x100, reset := 0x100, rws := 0x1FF }, -- GROOM_PC_CTRL
  { base := 0xA01004, n1 := 6, s1 := 0x100, w1c := 0x1FF }, -- GROOM_PC_STICKY
  { base := 0xA01008, n1 := 6, s1 := 0x100 }, -- GROOM_CYC_LO
  { base := 0xA0100C, n1 := 6, s1 := 0x100 }, -- GROOM_CYC_HI
  { base := 0xA01010, n1 := 6, s1 := 0x100, n2 := 8, s2 := 0x4, rws := 0x3FF }, -- GROOM_PC_SEL
  { base := 0xA01040, n1 := 6, s1 := 0x100, n2 := 8, s2 := 0x8, rws := 0xFFFFFFFF }, -- GROOM_PC_LO
  { base := 0xA01044, n1 := 6, s1 := 0x100, n2 := 8, s2 := 0x8, rws := 0xFFFF }, -- GROOM_PC_HI
  { base := 0xA01080, n1 := 6, s1 := 0x100, rws := 0x1FF }, -- GROOM_LOG_CTRL
  { base := 0xA01084, n1 := 6, s1 := 0x100, rws := 0xFFFFFF }, -- GROOM_LOG_PERIOD
  { base := 0xA01088, n1 := 6, s1 := 0x100 }, -- GROOM_LOG_STATUS
  { base := 0xA02000, n1 := 32, s1 := 0x40, rws := 0xFFFFFFFF }, -- GROOM_HPC_SEL
  { base := 0xA02004, n1 := 32, s1 := 0x40, w1c := 0xF }, -- GROOM_HPC_STICKY
  { base := 0xA02008, n1 := 32, s1 := 0x40, n2 := 4, s2 := 0x8, rws := 0xFFFFFFFF }, -- GROOM_HPC_LO
  { base := 0xA0200C, n1 := 32, s1 := 0x40, n2 := 4, s2 := 0x8, rws := 0xFFFF } -- GROOM_HPC_HI
]

/-- Rows of the OBS block. -/
def rowsOBS : List RegRow := [
  { base := 0xB00000 }, -- OBS_STATUS
  { base := 0xB00004, w1c := 0x3 }, -- OBS_EVENT
  { base := 0xB00008, w1c := 0x7F }, -- OBS_WRAP
  { base := 0xB0000C, reset := 0x3C, rws := 0xFFFF }, -- OBS_CFG
  { base := 0xB00010 }, -- OBS_HEALTH
  { base := 0xB00020, rw := 0xFFFFFFFF }, -- OBS_PEEK_SEL
  { base := 0xB00100, n1 := 64, s1 := 0x4 } -- OBS_PEEK_DATA
]

/-- Rows of the PWR block. -/
def rowsPWR : List RegRow := [
  { base := 0xC00000 }, -- PWR_STATUS
  { base := 0xC00004, w1c := 0x1F }, -- PWR_EVENT
  { base := 0xC00008 }, -- PWR_VIN
  { base := 0xC0000C }, -- PWR_PIN
  { base := 0xC00010 }, -- PWR_TEMP
  { base := 0xC00014, reset := 0x4B64, rws := 0xFFFF }, -- PWR_THERM_CFG
  { base := 0xC00020, rws := 0xFF }, -- PWR_BP_CTRL
  { base := 0xC00024 }, -- PWR_BP_STATUS
  { base := 0xC00028, reset := 0xC8, rws := 0xFFFF }, -- PWR_BP_HOLD
  { base := 0xC00030, reset := 0x1FF01FF, rws := 0x1FF01FF }, -- PWR_BP_MAP0
  { base := 0xC00034, reset := 0x1FF01FF, rws := 0x1FF01FF }, -- PWR_BP_MAP1
  { base := 0xC00038, reset := 0x1FF01FF, rws := 0x1FF01FF }, -- PWR_BP_MAP2
  { base := 0xC0003C, reset := 0x1FF01FF, rws := 0x1FF01FF } -- PWR_BP_MAP3
]

/-- The rows of the block that holds address `a` (04 R123); none above the PWR block. -/
def blockRows (a : Nat) : List RegRow :=
  if a < 0x10000 then rowsSYS
  else if a < 0x20000 then rowsRST
  else if a < 0x40000 then rowsNVS
  else if a < 0x100000 then rowsHIF
  else if a < 0x180000 then rowsLANE
  else if a < 0x200000 then rowsOE
  else if a < 0x400000 then rowsMAC
  else if a < 0x600000 then rowsHED
  else if a < 0x700000 then rowsLOOM
  else if a < 0x780000 then rowsEGR
  else if a < 0x800000 then rowsFRER
  else if a < 0x880000 then rowsTIME
  else if a < 0x8C0000 then rowsDPLL
  else if a < 0x900000 then rowsSYN
  else if a < 0x940000 then rowsMEAS
  else if a < 0x980000 then rowsGNSS
  else if a < 0xA00000 then rowsCAL
  else if a < 0xB00000 then rowsGROOM
  else if a < 0xC00000 then rowsOBS
  else if a < 0xC10000 then rowsPWR
  else []

/-- The row that holds the register at address `a`, if a register occupies it (04 R122). -/
def rowOf (a : Nat) : Option RegRow := (blockRows a).find? (fun r => r.covers a)

end Sys2Proof.Machine
end

