-- ==== Sys2Proof/Machine/State.lean ====
section
/-! DEFINITION. The state of the module as plain data, the reasons a step can stop, and the state after reset. -/

namespace Sys2Proof.Machine

open Sys2Proof

/-- Why a command stops with a fault. No rule of the spec stops the block, so no meaning raises one; the constructor
keeps the type inhabited. -/
inductive Fault where
  /-- Raised by no command. Safe: a stop proves nothing false. -/
  | none
  deriving DecidableEq, Repr

/-- Why a command is refused. -/
inductive Refusal where
  /-- Raised by the dispatch for a command that has no meaning yet. Safe: a stop proves nothing false. -/
  | notModelled (mnemonic : String)
  deriving DecidableEq, Repr

set_option maxRecDepth 4096 in
/-- The module. Every BAR0 register stands in `regs`, keyed by its address; an unlisted register holds its reset word. -/
structure State where
  /-- commands waiting, first in, first out -/
  pending   : List Instr := []
  /-- the model's own: the index that the free values of Config are applied to -/
  freeIdx   : Nat := 0
  /-- 04 R122, R123; every register table: the register file of BAR0, keyed by address; an unlisted register holds its reset word -/
  regs      : Tbl Word := []
  /-- 04 R122: the word that the last register read returned -/
  rdata     : Word := 0
  /-- 10 R397; 11 R449; 13 R484; 14 R545; 16 R586; 17 R609: the words that a latching read holds, by reader and register -/
  latches   : Tbl Word := []
  /-- 00 R2, R3; 13 R483: the time counter -/
  nt        : Nat := 0
  /-- 01 R18, R630: network time that each running timer has counted -/
  timers    : List (Timer × Nat) := []
  /-- 01 R18, R630: how often each periodic evaluation has been made -/
  evals     : Tbl Nat := []
  /-- 01 R16, 12 R458: where the pick cycles of the safe clock begin, modulo 100 ns -/
  safePhase : Nat := 0
  /-- 00 R7: the W1C bits set since the pick cycle began, by register -/
  setNow    : Tbl Word := []
  /-- 01 R13: pick cycles begun -/
  cycles    : Nat := 0
  -- power (chapter 2)
  /-- 02 R46, R49, R50, R74: the supply: off, standby, on, brown-out or thermal shutdown -/
  supply    : Supply := .off
  /-- 02 R41, R50, R74: VIN is above the brown-out threshold -/
  vinOk     : Bool := false
  /-- 02 R46: the ENABLE pin -/
  enable    : Bool := true
  /-- 02 R47: the range detected on VIO -/
  vio       : Vio := .absent
  /-- 03 R83: the RESET_N pin -/
  resetN    : Bool := true
  /-- 03 R83; 04 R120: the PERST_N pin -/
  perstN    : Bool := false
  /-- 02 R54, R73: the last readings of the die sensors TS0 to TS15 -/
  dieTemp   : Tbl Int := []
  /-- 02 R77: the test access port -/
  tap       : Tap := {}
  -- reset and boot (chapter 3)
  /-- 03 R92: how far the release order has come -/
  order     : Nat := 0
  /-- 03 R101, R105: the number of the present boot -/
  bootNo    : Nat := 0
  /-- 03 R105, R117: the causes that this boot's ledger records carry -/
  bootCause : Nat := 0
  /-- 03 R101, R104: the ledger is not kept in this boot: the FRAM could not be used -/
  ledgerOff : Bool := false
  /-- 03 R101, R104: records of steps before the FRAM opened, to be written when it does -/
  early     : List LedgerRec := []
  /-- 03 R102: steps to which the interrupted boot applies a fallback -/
  bootFb    : List Nat := []
  /-- 03 R101: a fallback was applied in the present boot step -/
  fell      : Bool := false
  /-- 03 R97, R101: the boot ends in a debug hold -/
  debugHold : Bool := false
  /-- 03 R101: what LANES_UP, ENGINES_UP or PORTS_UP was bringing up when the last reset of system scope came -/
  wasBusy   : List Nat := []
  /-- 03 R105, R108: the boot ledger in the FRAM, by place in its ring -/
  ledger    : Tbl LedgerRec := []
  /-- 03 R107, R119: the copies of the NOR's layout header that are valid, a bit each -/
  norHdr    : Nat := 3
  /-- 03 R108, R119: the copies of the FRAM header that are valid, a bit each -/
  framHdr   : Nat := 3
  /-- 03 R109: the two copies of each commit record in the FRAM -/
  commits   : Tbl CommitRec := []
  /-- 03 R107, R111: the NOR slots: image A and B, calibration 0 and 1, configuration 0 and 1, each with whether it reads back as written
  -/
  nor       : Tbl SlotData := []
  /-- 03 R110: the store write in progress -/
  job       : Option StoreJob := none
  /-- 17 R617: CFG_WRITE commands whose record is stored and waits to be taken -/
  cfgApply  : List StoreJob := []
  /-- 17 R617; 08 R323: LOOM_STALL_CFG words of a configuration record that wait for their stalls to empty -/
  stallWait : Tbl Word := []
  /-- 03 R87 to R91: domains whose clock failed and that run on the boot oscillator -/
  onBootOsc : List Domain := []
  /-- 03 R87, R91: synthesisers, lanes, engines and ports whose clock failed: held in reset on the boot oscillator -/
  elemHeld  : List (Domain × Nat) := []
  -- host interface (chapter 4)
  /-- 04 R131 to R139, R144 to R150, R161, R163, R168: the BAR2 side of the ring pairs: the four doorbell indices, PHASE, the armed
  index, posted buffers, the delivery queue, draining, pending EVENT records and their episode, counts for R611, records of a LOG ring lost, a RING_SET DISABLE under way -/
  rings     : Tbl RingSt := []
  /-- 04 R156 to R158: commands accepted and not complete, with boundary, lateness and whether begun -/
  accepted  : List Cmd := []
  /-- 04 R131, R138, R139: the completions written to host memory, each as its 32 bytes, by address -/
  cq        : Tbl (List Byte) := []
  /-- 04 R166: completions that wait for a groom -/
  cqHeld    : List (Nat × Completion) := []
  /-- 04 R143: attention bits set in the present pick cycle -/
  attnNow   : Nat := 0
  /-- 04 R168: the MSI-X messages sent -/
  msixSent  : List Nat := []
  /-- 04 R130: the refusals of RELINK_DONE whose EVENT completions wait for the rings to resume -/
  relinkLog : List EventRec := []
  /-- 04 R134: doorbell writes that have arrived in the present pick cycle, by ring and offset, each with the last value written -/
  dbNow     : List (Nat × Nat × Word) := []
  /-- 04 R168: completions written in the present pick cycle, which an arming of this cycle still meets -/
  wroteNow  : List (Nat × Nat) := []
  /-- 04 R120: configuration requests answer retry -/
  cfgRetry  : Bool := false
  -- counters and fates (chapter 17)
  /-- 17 R600 to R602: the counters of sets 0x00 to 0x06 -/
  ctr       : Tbl Nat := []
  /-- 17 R599: fates decided and not yet in the ledger -/
  fateQ     : List (Nat × Nat) := []
  /-- 17 R608: counter sets that wrapped in the present pick cycle -/
  wrapped   : List Nat := []
  -- frames (chapters 6 to 9)
  /-- 06 to 09: every copy of a frame that the module holds, with its place -/
  frames    : Tbl Frame := []
  /-- the model's own: the name of the next copy of a frame -/
  nextId    : Nat := 0
  /-- 04 R130: losses of the link: commands of an earlier era complete no more -/
  era       : Nat := 0
  /-- 06 R244: the frame last sent by each port, as it left -/
  sent      : Tbl (List Byte) := []
  /-- 04 R146, R150, R161; 17 R606: what the module wrote into the host's buffers, by address -/
  rxData    : Tbl (List Byte) := []
  /-- 06 R237: the shed in force on each port -/
  sheds     : Tbl Shed := []
  /-- 06 R245 to R247: the bobbins of ports 0 to 272 and 274 -/
  bobbins   : Tbl (List BobbinEntry) := []
  /-- 06 R247: entries for bobbins in the present pick cycle, by port -/
  bobbinNow : List (Nat × BobbinEntry) := []
  /-- 06 R232, R255: when a port's receive filters or MAX_FRAME last changed, and what they were before -/
  macWas    : Tbl MacWas := []
  /-- 06 R248: ports in an overflow episode of their bobbin -/
  bobbinEp  : List Nat := []
  /-- 06 R234: the hold of each (port, class) by received PAUSE or PFC -/
  pauseFor  : Tbl Nat := []
  /-- 06 R235: PAUSE and PFC frames to be sent -/
  ctlQ      : List Ctl := []
  /-- 06 R235: PAUSE and PFC frames sent in the present pick cycle -/
  ctlSent   : List Ctl := []
  /-- 06 R249: ports whose reset is under way -/
  portRst   : List Nat := []
  -- heddles (chapter 7)
  /-- 07 R281, R282: the entries of tree, action and pattern memories of both generations -/
  rules     : Tbl (List Byte) := []
  /-- 07 R294: the swaps, newest first -/
  swaps     : List (Nat × Nat) := []
  /-- 07 R295: SWAP_SEQ -/
  swapSeq   : Nat := 0
  /-- 07 R292, R297: the rule writer's command under way -/
  writer    : Option RuleJob := none
  /-- 07 R292, R297: commands that wait for the rule writer -/
  writeQ    : List RuleJob := []
  /-- 07 R296: RULE_SWAP commands deferred at their boundary -/
  swapWait  : List Cmd := []
  /-- 07 R276 to R279: the forwarding database by place -/
  fdb       : Tbl FdbEntry := []
  /-- 07 R278, R279: entries that a command changed in the present pick cycle -/
  fdbTouched : List (Nat × Nat) := []
  /-- 07 R280: FDB_FLUSH commands that acted in the present pick cycle -/
  fdbFlushes : List Submission := []
  /-- 07 R280: places that a command freed in the present pick cycle -/
  fdbFreed  : List Nat := []
  /-- 07 R261: the round-robin pointer to the node's heddles -/
  hedPtr    : Tbl Nat := []
  /-- 07 R264: the sequence number of the next head of a port's beam -/
  headSeq   : Tbl Nat := []
  /-- 07 R301: the LOAD, DISABLE or ENABLE under way on each heddle -/
  hedJobs   : Tbl HedJob := []
  -- loom (chapter 8)
  /-- 08 R312 to R320: shuttles at intermediates, on the weft and in the reeds -/
  shuttles  : List Shuttle := []
  /-- 08 R314 to R319: each (source, output) pair -/
  pairs     : Tbl Pair := []
  /-- 08 R309: warp (true) and weft picks used in the present pick cycle, by node and pick -/
  picksNow  : List (Bool × Nat × Nat) := []
  /-- 08 R348: group entries changed in the present pick cycle, as they were -/
  groupWas  : Tbl (List Nat) := []
  /-- 08 R315: the record rows in use -/
  rows      : List Row := []
  /-- 08 R324: the turn of each node's ingress queues -/
  warpPtr   : Tbl Nat := []
  /-- 08 R322: nodes whose reset drains -/
  nodeRst   : List Nat := []
  /-- 08 R329: inner ports that the halter holds -/
  innerHold : List Nat := []
  /-- 08 R336, R337: each mirror session's N_MINUS_1 count and its copies -/
  mirrors   : Tbl (Nat × Nat) := []
  /-- 08 R332: nodes whose headroom does not fit the ingress pool -/
  headShort : List Nat := []
  -- egress (chapter 9)
  /-- 09 R355: the deficit round robin of each port -/
  drr       : Tbl Drr := []
  /-- 09 R358, R360: the ration balance of each (ingress, egress) pair -/
  balance   : Tbl Int := []
  /-- 09 R358, R360: the pool of each egress port -/
  pool      : Tbl Nat := []
  /-- 09 R360: units each port has transmitted in the present pick cycle -/
  unitsNow  : Tbl Nat := []
  /-- 09 R360: units each port transmitted in the previous pick cycle -/
  unitsLast : Tbl Nat := []
  /-- 09 R359: the demand of each pair at the start of the last five pick cycles -/
  demand    : Tbl Nat := []
  -- lanes and engines (chapter 5)
  /-- 05 R202: optical monitor alarms that stand, with their 1.0 dB hysteresis -/
  oeLow     : List Nat := []
  /-- 05 R175: multi-lane ports whose lanes the PCS has deskewed -/
  deskewed  : List Nat := []
  /-- 05 R191: optical lanes whose peaking moves to changed codes -/
  eqMoves   : Tbl EqMove := []
  -- timebase and measurement (chapter 10)
  /-- 01 R630: network time that has run, steps of the counter apart -/
  elapsed   : Nat := 0
  /-- 10 R383; 11 R430: the integral of the output frequency against the crystal scale -/
  scaleAcc  : Int := 0
  /-- 10 R384: the ageing accumulator -/
  corrAcc   : Int := 0
  /-- 10 R385: the millisecond windows of the last second -/
  spareWin  : List Int := []
  /-- 10 R385: consecutive windows that moved more than 2 ppm -/
  spareBad  : Nat := 0
  /-- 10 R388: OVEN_STABLE has risen since the TIMING reset -/
  ovenSeen  : Bool := false
  /-- 10 R398 to R409: the instrument channels MI0 to MI7 -/
  chans     : Tbl MiChan := []
  -- references and the DPLL (chapter 11)
  /-- 11 R415 to R421: the monitors of REF0 to REF13 -/
  slots     : Tbl RefSlot := []
  /-- 11 R433 to R437: what the DPLL remembers -/
  dpll      : DpllMem := {}
  -- synthesis and outputs (chapter 12)
  /-- 12 R454 to R456: each synthesiser's relock -/
  synStage  : Tbl SynStage := []
  /-- 12 R462 to R464: each running CLKOUT's anchor, divider, delay and multiplier -/
  clkouts   : Tbl ClkOut := []
  /-- 12 R465 to R469: each running pulse output -/
  pulses    : Tbl PulseOut := []
  /-- 12 R470 to R472: each running treadle programme -/
  treadles  : Tbl Trd := []
  /-- 12 R476: the last two edges of PPSIN on each input -/
  ppsEdge   : Tbl Nat := []
  /-- 12 R475: SEQ of the next TODOUT message -/
  todSeq    : Nat := 0
  /-- 12 R475: the last TODOUT message -/
  todSent   : List Byte := []
  -- network time (chapter 13)
  /-- 13 R483, R487: the counter has been set -/
  timeSet   : Bool := false
  /-- 13 R492, R493: the chosen KPL or PTP upstream -/
  upstream  : Option (Nat × Nat) := none
  /-- 13 R496 to R509: the KPL ports -/
  kpl       : Tbl KplPort := []
  /-- 13 R493, R510 to R514: the PTP ports -/
  ptp       : Tbl PtpPort := []
  /-- 13 R513: Syncs forwarded as a transparent clock whose Follow_Up is awaited -/
  tcSyncs   : List TcSync := []
  /-- 13 R513: Follow_Ups that went on without a match, by port, with the network time that had run -/
  tcMiss    : List (Nat × Nat) := []
  -- GNSS (chapter 14)
  /-- 14 R526 to R542: what the receiver remembers -/
  gnss      : GnssMem := {}
  -- calibration (chapter 15)
  /-- 10 R391, 15 R547, R552, R557: what calibration remembers: the TDCs' last pairs, values that stand in no register, temperatures -/
  cal       : CalMem := {}
  /-- 15 R552: delays that move to a new value -/
  calMoves  : Tbl CalMove := []
  /-- 15 R550 to R558: calibration runs under way and waiting -/
  calRuns   : List CalRun := []
  /-- 15 R556: ASYM windows -/
  asyms     : List AsymRun := []
  -- grooms and user tasks (chapter 16)
  /-- 16 R570 to R577: complexes A and B -/
  complexes : Tbl Complex := []
  /-- 16 R570, R571, R573: the complex that leads from the next boundary -/
  leadNext  : Option (Bool × Bool) := none
  /-- 16 R572: how long DUAL lasts -/
  dualLeft  : Nat := 0
  /-- 16 R567: the number of the last output each consumer acted on -/
  acted     : Tbl Nat := []
  /-- 16 R568: comparison windows that are open -/
  outWins   : List OutWin := []
  /-- 16 R585: low words of performance counters that wait for their high words -/
  perfHold  : Tbl Word := []
  /-- 16 R589 to R591: the sample logs -/
  logs      : Tbl GroomLog := []
  /-- 17 R602; 16 R583: heddle resets -/
  hedResets : Nat := 0
  /-- 16 R580 to R582: the user tasks -/
  tasks     : Tbl TaskSt := []
  /-- 16 R566: the number of the input batch -/
  batch     : Nat := 0
  -- observability (chapter 17)
  /-- 17 R595, R604 to R609, R612: what observability remembers -/
  obs       : ObsMem := {}
  deriving DecidableEq, Repr

/-- The state after reset: every register at its reset word, nothing powered, nothing waiting. -/
def State.reset : State := {}

end Sys2Proof.Machine
end

