-- ==== Sys2Proof/Machine/Ops.lean ====
section
/-! DEFINITION. The named operations over the state that every chapter uses: registers and fields, timers, counters and
fates, attention, events, completions and the boundary grid. -/

namespace Sys2Proof.Machine

open Sys2Proof

/-! ### Registers -/

/-- The reset word of the register at `a`: its table's, or the built-in graph's for HED_GRAPH (07 R305, R634). -/
def resetWord (a : Nat) : Word :=
  if 0x410000 ≤ a ∧ a < 0x490000 then builtinGraphWord ((a - 0x410000) % 0x4000 / 4)
  else match rowOf a with
    | some r => r.reset
    | none => 0

/-- The word the register at `a` holds. -/
def State.rd (s : State) (a : Nat) : Word := (Tbl.find a s.regs).getD (resetWord a)

/-- The register at `a` set to `v` by the module itself. -/
def State.wr (a : Nat) (v : Word) (s : State) : State := { s with regs := Tbl.put (resetWord a) a v s.regs }

/-- The value of a field. -/
def State.get (s : State) (f : Fld) : Nat := bits (s.rd f.addr).toNat f.lsb f.w

/-- Whether a one-bit field is set. -/
def State.on (s : State) (f : Fld) : Bool := s.get f != 0

/-- A field as two's complement. -/
def State.getI (s : State) (f : Fld) : Int := toInt f.w (s.get f)

/-- A word with the bits of a field replaced. -/
def Fld.put (f : Fld) (w : Word) (v : Nat) : Word :=
  let m := (BitVec.ofNat 32 (2 ^ f.w - 1)) <<< f.lsb
  (w &&& ~~~m) ||| ((BitVec.ofNat 32 v <<< f.lsb) &&& m)

/-- A field set by the module; every other bit of its register stays. -/
def State.set (f : Fld) (v : Nat) (s : State) : State := s.wr f.addr (f.put (s.rd f.addr) v)

/-- A one-bit field set to a truth value. -/
def State.setB (f : Fld) (b : Bool) (s : State) : State := s.set f (b2n b)

/-- A field set to an integer's two's complement, saturated. -/
def State.setI (f : Fld) (i : Int) (s : State) : State := s.set f (satInt f.w i)

/-- A saturating count field advanced by `n`. -/
def State.bump (f : Fld) (n : Nat) (s : State) : State := s.set f (satNat f.w (s.get f + n))

/-- The 64-bit value of a _LO and _HI pair. -/
def State.get2 (s : State) (lo hi : Nat) : Nat := (s.rd lo).toNat + (s.rd hi).toNat * 2 ^ 32

/-- A _LO and _HI pair set to a `w`-bit value. -/
def State.set2 (lo hi w v : Nat) (s : State) : State :=
  let v := v % 2 ^ w
  (s.wr lo (BitVec.ofNat 32 v)).wr hi (BitVec.ofNat 32 (v / 2 ^ 32))

/-- `n` consecutive words from address `a` written from a list of words. -/
def State.wrWords (a : Nat) : List Nat → State → State
  | [], s => s
  | v :: t, s => State.wrWords (a + 4) t (s.wr a (BitVec.ofNat 32 v))

/-- `f` applied when `c` holds. -/
def State.when (c : Bool) (f : State → State) (s : State) : State := if c then f s else s

/-- `f` applied for each element of a list in turn. -/
def State.forEach {α : Type} (l : List α) (f : α → State → State) (s : State) : State := l.foldl (fun s a => f a s) s

/-- A fresh free value of width at most 64 for the use `u` (log entry 3). -/
def State.free (u : Nat) (s : State) : Nat × State :=
  ((Config.freeValue u s.freeIdx).toNat, { s with freeIdx := s.freeIdx + 1 })

/-- A sticky W1C bit set by the module, remembered for this pick cycle (00 R7). -/
def State.stick (a b : Nat) (s : State) : State :=
  { (s.set ⟨a, b, 1⟩ 1) with setNow := Tbl.put 0 a ((s.setNow.getD a 0) ||| (1#32 <<< b)) s.setNow }

/-! ### Time -/

/-- One nanosecond, in units of 2^-16 ns (00 R2). -/
def ns : Nat := 65536

/-- One second. -/
def sec : Nat := 1000000000 * ns

/-- One millisecond. -/
def ms : Nat := 1000000 * ns

/-- One microsecond. -/
def us : Nat := 1000 * ns

/-- The grid spacing: 50 ns (01 R13, R16). -/
def grid : Nat := 50 * ns

/-- The first grid instant at or after `t`. -/
def ceilGrid (t : Nat) : Nat := (t + grid - 1) / grid * grid

/-- The first grid instant after `t`. -/
def nextGrid (t : Nat) : Nat := (t / grid + 1) * grid

/-- The compact time of an instant (00 R3). -/
def ct (t : Nat) : Nat := t % 2 ^ 64

/-- The instant a compact time names relative to network time, by its signed difference (00 R4). -/
def State.ofCt (s : State) (c : Nat) : Int := (s.nt : Int) + ctDiff c (ct s.nt)

/-- 13 R487: the quality code. -/
def State.quality (s : State) : Nat := s.get F.TIME_STATUS_QUALITY

/-- 13 R488: time quality is below its floor. -/
def State.degraded (s : State) : Bool := decide (s.quality > s.get F.TIME_CTRL_FLOOR)

/-! ### Timers (01 R18, R630) -/

/-- The time a timer has run, if it runs. -/
def State.timer (s : State) (t : Timer) : Option Nat := (s.timers.find? (fun p => p.1 = t)).map (·.2)

/-- A timer stopped. -/
def State.stop (t : Timer) (s : State) : State := { s with timers := s.timers.filter (fun p => p.1 ≠ t) }

/-- A timer started from 0 (restarted where it runs). -/
def State.start (t : Timer) (s : State) : State :=
  { s with timers := s.timers.filter (fun p => p.1 ≠ t) ++ [(t, 0)] }

/-- A timer started unless it runs. -/
def State.startOnce (t : Timer) (s : State) : State := if (s.timer t).isSome then s else s.start t

/-- The evaluation cycle that a timer's chapter states, in network time; those evaluated at a pick-cycle boundary, or faster, are evaluated at
every boundary (04 R162; 05 R180; 08 R335; 09 R372; 10 R403; 12 R456; 13 R505). -/
def Timer.period : Timer → Nat
  | .gnssWord _ | .qual _ | .lock | .holdover | .learn | .esmc _ | .lldp _ | .announce _ | .delayResp _ | .gnssSolution | .antShort => ms
  | .ref13 => us
  | .calPeriod _ => sec
  | _ => 1

/-- Whether a timer runs and an evaluation has found that it has reached `d`: the first evaluation at or after its end has come, so that an event
of the evaluation cycle in which it ends still comes first (01 R17, R18). -/
def State.ran (s : State) (t : Timer) (d : Nat) : Bool :=
  match s.timer t with
  | some e => decide (d ≤ e ∧ (s.elapsed + d - e + t.period - 1) / t.period * t.period ≤ s.elapsed)
  | none => false

/-! ### Periodic evaluations (01 R18, R630) -/

/-- The numbers of the evaluations that are rows of their own. -/
def evFdb : Nat := 0
def evHalter : Nat := 1
def evRations : Nat := 2
def evAgeing : Nat := 3
def evCompare : Nat := 4
def evMonitor : Nat := 5
def evSelect : Nat := 6
def evDpll : Nat := 7
def evQuality : Nat := 8
def evPublish : Nat := 9
def evEsmc : Nat := 10
def evQl : Nat := 11
def evAntenna : Nat := 12
def evJam : Nat := 13
def evSolution : Nat := 14
def evCal : Nat := 15
def evLldp (p : Nat) : Nat := 0x1000 + p
def evAnnounce (p : Nat) : Nat := 0x2000 + p
def evSync (p : Nat) : Nat := 0x3000 + p
def evDelayReq (p : Nat) : Nat := 0x4000 + p

/-- Whether an evaluation of number `k` that comes once in every `p` of network time is due: fewer have been made than periods have run. -/
def State.evalDue (s : State) (k p : Nat) : Bool := decide (s.evals.getD k 0 < s.elapsed / p)

/-- An evaluation made. -/
def State.evalMade (k : Nat) (s : State) : State := { s with evals := Tbl.put 0 k (s.evals.getD k 0 + 1) s.evals }

/-- Whether an evaluation of number `k` that comes once per pick cycle is still to come in the present one. -/
def State.cycleDue (s : State) (k : Nat) : Bool := decide (s.evals.getD k 0 ≤ s.cycles)

/-- That evaluation made. -/
def State.cycleMade (k : Nat) (s : State) : State := { s with evals := Tbl.put 0 k (s.cycles + 1) s.evals }

/-- Whether a sending of number `k` that comes once in every `p` of network time is still to come in the present one. -/
def State.slotDue (s : State) (k p : Nat) : Bool := s.evals.getD k 0 != s.elapsed / p + 1

/-- That sending made. -/
def State.slotMade (k p : Nat) (s : State) : State := { s with evals := Tbl.put 0 k (s.elapsed / p + 1) s.evals }

/-- 10 R395: the sample of tap `t` for the sample instant `at0` is still to be taken. -/
def State.sampleDue (s : State) (t at0 : Nat) : Bool := s.evals.getD (0x100 + t) 0 != at0 + 1

/-- That sample taken. -/
def State.sampleMade (t at0 : Nat) (s : State) : State := { s with evals := Tbl.put 0 (0x100 + t) (at0 + 1) s.evals }

/-- Every running timer advanced by `d` of network time (01 R630). -/
def State.runTimers (d : Nat) (s : State) : State := { s with timers := s.timers.map (fun p => (p.1, p.2 + d)) }

/-! ### Counters and fates (17 R595 to R602) -/

/-- The key of counter `i` of record `r` of set `set`. -/
def ctrKey (set r i : Nat) : Nat := set * 2 ^ 40 + r * 2 ^ 8 + i

/-- A counter's value. -/
def State.ctrOf (s : State) (set r i : Nat) : Nat := s.ctr.getD (ctrKey set r i) 0

/-- A counter of sets 0x00 to 0x06 advanced; a wrap past 2^64 − 1 sets the set's OBS_WRAP bit and WRAP_SEEN, whose event
the end of the pick cycle writes (17 R608). -/
def State.count (set r i n : Nat) (s : State) : State :=
  let v := s.ctrOf set r i + n
  let s' := { s with ctr := Tbl.put 0 (ctrKey set r i) (v % 2 ^ 64) s.ctr }
  if v < 2 ^ 64 then s'
  else { ((s'.stick R.OBS_WRAP set).stick R.OBS_EVENT 0) with wrapped := s.wrapped ++ [set] }

/-- 17 R597: a frame entered in the ledger of its ingress port. -/
def State.enter (port : Nat) (s : State) : State := s.count 0 port 0 1

/-- 17 R598: a copy entered as made. -/
def State.madeCopy (port : Nat) (s : State) : State := s.count 0 port 1 1

/-- 17 R595: the ledger index of a fate code. -/
def fateIndex (code : Nat) : Nat :=
  match code with
  | 0x00 => 0 | 0x01 => 1 | 0x10 => 2 | 0x11 => 3 | 0x12 => 4 | 0x13 => 5 | 0x20 => 6 | 0x21 => 7 | 0x22 => 8
  | 0x23 => 9 | 0x30 => 10 | 0x31 => 11 | 0x32 => 12 | 0x33 => 13 | 0x34 => 14 | 0x35 => 15 | 0x40 => 16
  | 0x41 => 17 | 0x50 => 18 | 0x60 => 19 | _ => 20

/-- 17 R599: a fate decided for one copy of a frame of `port`, on its way to that port's ledger. -/
def State.fate (port code : Nat) (s : State) : State := { s with fateQ := s.fateQ ++ [(port, code)] }

/-! ### Attention and the status word (04 R141, R142) -/

/-- Attention bits set: sticky until acknowledged, and remembered for this pick cycle (04 R143). -/
def State.attn (mask : Nat) (s : State) : State :=
  if mask = 0 then s
  else { (s.set ⟨R.HIF_STATUS, 16, 14⟩ (s.get ⟨R.HIF_STATUS, 16, 14⟩ ||| mask)) with attnNow := s.attnNow ||| mask }

/-- 04 R141: the STATUS word of a completion written now: attention bits 0 to 13, TIME_DEGRADED, LEADER_B. -/
def State.statusWord (s : State) : Nat :=
  s.get ⟨R.HIF_STATUS, 16, 14⟩ + 2 ^ 14 * b2n s.degraded + 2 ^ 15 * s.get F.GROOM_STATUS_LEADER_B

/-! ### Domains and rings -/

/-- Whether domain bit `i` of RST_DOMAIN.HELD is held (03 R115): 0 NVS to 8 PORTS. -/
def State.heldDomain (s : State) (i : Nat) : Bool := s.on ⟨R.RST_DOMAIN, i, 1⟩

/-- 04 R127: the class codes. -/
def clsFrameTx : Nat := 1
def clsFrameRx : Nat := 2
def clsTs : Nat := 3
def clsRule : Nat := 4
def clsFdb : Nat := 5
def clsSnap : Nat := 6
def clsMgmt : Nat := 7
def clsEvent : Nat := 8
def clsLog : Nat := 9

/-- The class of a ring. -/
def State.cls (s : State) (r : Nat) : Nat := s.get (F.HIF_RING_CFG_CLASS r)

/-- 04 R131: the entries of each ring of the pair. -/
def State.ringSize (s : State) (r : Nat) : Nat := 2 ^ s.get (F.HIF_RING_CFG_LOG2_SIZE r)

/-- The BAR2 side of a ring. -/
def State.ring (s : State) (r : Nat) : RingSt := s.rings.getD r {}

/-- A ring's BAR2 side changed. -/
def State.modRing (r : Nat) (f : RingSt → RingSt) (s : State) : State :=
  { s with rings := Tbl.put {} r (f (s.ring r)) s.rings }

/-- SYS_CTRL.RUN. -/
def State.run (s : State) : Bool := s.on F.SYS_CTRL_RUN

/-- SYS_STATUS.RELINK. -/
def State.relink (s : State) : Bool := s.on F.SYS_STATUS_RELINK

/-- 04 R166, 16 R571: a groom is in service while some complex is IN_STEP or SOLO. -/
def State.groomUp (s : State) : Bool :=
  let up := fun v : Nat => v == 3 || v == 4
  up (s.get F.GROOM_STATUS_STATE_A) || up (s.get F.GROOM_STATUS_STATE_B)

/-- 04 R131: where entry `i` of a ring's completion ring lies in host memory. -/
def State.cqAddr (s : State) (r i : Nat) : Nat := s.get2 (R.HIF_RING_CQ_LO r) (R.HIF_RING_CQ_HI r) + 32 * i

/-- 04 R131: where entry `i` of a ring's submission ring lies in host memory. -/
def State.sqAddr (s : State) (r i : Nat) : Nat := s.get2 (R.HIF_RING_SQ_LO r) (R.HIF_RING_SQ_HI r) + 32 * i

/-- 04 R131: unconsumed completions of a ring. -/
def State.cqUsed (s : State) (r : Nat) : Nat :=
  let q := s.ring r
  (q.cqTail + s.ringSize r - q.cqHead) % s.ringSize r

/-- 04 R131: room for completions: size − 1 less the unconsumed ones and those that wait for a groom (R166). -/
def State.cqRoom (s : State) (r : Nat) : Nat :=
  s.ringSize r - 1 - s.cqUsed r - (s.cqHeld.filter (fun x => x.1 == r)).length

/-- Accepted commands of a ring without completions; those of before a loss of the link complete no more (04 R130). -/
def State.outstanding (s : State) (r : Nat) : List Cmd :=
  s.accepted.filter (fun c => c.sub.ring == r && (c.era == s.era || decide (128 ≤ r)))

/-- A command taken now, with the boundary at which it acts. -/
def State.newCmd (op : Nat) (d : Submission) (boundary : Nat) (s : State) : Cmd :=
  { op := op, sub := d, boundary := boundary, era := s.era }

/-- 04 R168, PCIe 5.0: the message of vector `v` sent, or held pending where the vector is masked. -/
def State.sendMsix (v : Nat) (s : State) : State :=
  if (s.rd (R.MSIX_TABLE v 3)).getLsbD 0 then
    let a := R.MSIX_PBA (v / 32)
    s.wr a (s.rd a ||| (1#32 <<< (v % 32)))
  else { s with msixSent := s.msixSent ++ [v] }

/-- One completion put into ring `r` at DB_CQ_TAIL (04 R131, R138, R139), with STATUS and PHASE as they stand, and the wake-up of R168. -/
def State.putCq (r : Nat) (c : Completion) (s : State) : State :=
  let q := s.ring r
  let k := q.cqTail
  let c := { c with status := BitVec.ofNat 16 s.statusWord, cflags := c.cflags ||| BitVec.ofNat 8 (b2n q.phase) }
  let n := (k + 1) % s.ringSize r
  let wake := q.armed == some k
  let s := { s with cq := Tbl.ins (s.cqAddr r k) c.bytes s.cq, wroteNow := (r, k) :: s.wroteNow }
  let s := s.modRing r (fun q => { q with
    cqTail := n, phase := if n = 0 then !q.phase else q.phase, armed := if wake then none else q.armed })
  if wake then s.sendMsix (s.get (F.HIF_RING_CFG_MSIX_VEC r)) else s

/-- 04 R161: a frame leaves a ring's delivery queue; the wait of the frame then at its head begins. -/
def State.rxPop (r id : Nat) (s : State) : State :=
  let was := (s.ring r).rxQueue
  let s := s.modRing r (fun q => { q with rxQueue := q.rxQueue.filter (fun i => i != id) })
  if was.head? = some id then (if was.length ≤ 1 then s.stop (.rxWait r) else s.start (.rxWait r)) else s

/-- A user task changed. -/
def State.modTask (t : Nat) (f : TaskSt → TaskSt) (s : State) : State := { s with tasks := Tbl.put {} t (f (s.tasks.getD t {})) s.tasks }

/-- 16 R581: tasks that wait for an event code find it. -/
def State.wakeTasks (code : Nat) (s : State) : State :=
  { s with tasks := s.tasks.map (fun (x : Nat × TaskSt) =>
      if x.2.wait = some (.event code) then (x.1, { x.2 with due := true }) else x) }

/-- 04 R130, R142, R158, R166: a completion of ring `r`. While RELINK is set it is lost and counted; while no groom is in
service it waits for one. A user task's own completions go to the task (16 R581): its ring number is 128 plus the task. -/
def State.complete (r : Nat) (c : Completion) (s : State) : State :=
  if 128 ≤ r then s.modTask (r - 128) (fun t => { t with inbox := t.inbox ++ [c] })
  else if s.relink then s.count 5 (16 + r) 0 1
  else if s.groomUp then s.putCq r c
  else { s with cqHeld := s.cqHeld ++ [(r, c)] }

/-- The flag byte of a completion but for PHASE: LATE, MORE, FATE_VALID and TIME_DEGRADED (04 R138). -/
def cflagsOf (late more fateValid degraded : Bool) : BitVec 8 :=
  BitVec.ofNat 8 (2 * b2n late + 4 * b2n more + 8 * b2n fateValid + 16 * b2n degraded)

/-- The flag byte of a completion whose time is taken as it is written. -/
def State.cflags (s : State) (late more fateValid : Bool) : BitVec 8 := cflagsOf late more fateValid s.degraded

/-- 04 R130: the completion of a command accepted before the link was lost is lost too, and counted. -/
def State.completeEra (era r : Nat) (c : Completion) (s : State) : State :=
  if r < 128 ∧ era ≠ s.era then s.count 5 (16 + r) 0 1 else s.complete r c

/-- The completion of a command (04 R138, R158); Q1 [0] of a RULE command is the generation in force (04 R151). -/
def State.completeCmd (c : Cmd) (result : Nat) (time q1 q2 : Nat) (s : State) : State :=
  let q1 := if 0x10 ≤ c.op ∧ c.op ≤ 0x12 then q1 / 2 * 2 + s.get F.HED_GEN_STATUS_IN_FORCE else q1
  s.completeEra c.era c.sub.ring
    { status := 0, sqIndex := c.sub.index, result := result, cflags := s.cflags c.late false false, tag := c.sub.tag,
      time := BitVec.ofNat 64 time, q1 := BitVec.ofNat 64 q1, q2 := BitVec.ofNat 64 q2 }

/-! ### Events (04 R144, R149, R163; 17 R610, R611) -/

/-- The blocks of R610's table, by ID. -/
inductive Blk where
  | pwr | hif | lane | oe | mac | hed | loom | egr | frer | time | dpll | syn | meas | gnss | cal | groom | obs
  deriving DecidableEq, Repr

/-- 17 R610: block IDs. -/
def Blk.id : Blk → Nat
  | .pwr => 0x01 | .hif => 0x04 | .lane => 0x05 | .oe => 0x06 | .mac => 0x07 | .hed => 0x08 | .loom => 0x09
  | .egr => 0x0A | .frer => 0x0B | .time => 0x0C | .dpll => 0x0D | .syn => 0x0E | .meas => 0x0F | .gnss => 0x10
  | .cal => 0x11 | .groom => 0x12 | .obs => 0x13

/-- The sticky register of a block's event bits; LANE, OE and MAC have one per element. -/
def Blk.reg (b : Blk) (src : Nat) : Nat :=
  match b with
  | .pwr => R.PWR_EVENT | .hif => R.HIF_ERR | .lane => R.LANE_EVENT src | .oe => R.OE_EVENT src
  | .mac => R.MAC_EVENT src | .hed => R.HED_EVENT | .loom => R.LOOM_EVENT | .egr => R.EGR_EVENT
  | .frer => R.FRER_EVENT | .time => R.TIME_EVENT | .dpll => R.DPLL_EVENT | .syn => R.SYN_EVENT
  | .meas => R.MEAS_EVENT | .gnss => R.GNSS_EVENT | .cal => R.CAL_EVENT | .groom => R.GROOM_EVENT
  | .obs => R.OBS_EVENT

/-- 17 R610: the detail word of an event of a block, where it is a register. -/
def State.evDetail (s : State) (b : Blk) (bitNo src : Nat) : Nat :=
  let rd := fun a => (s.rd a).toNat
  match b with
  | .pwr => rd R.PWR_VIN
  | .hif => 0
  | .lane => rd (R.LANE_STATUS src)
  | .oe => rd (R.OE_STATUS src)
  | .mac => rd (R.MAC_STATUS src)
  | .hed => if bitNo = 1 ∨ bitNo = 2 then rd R.HED_ECC_ADDR else if src < 32 then rd (R.HED_HEDDLE src) else 0
  | .loom => if bitNo = 0 ∨ bitNo = 1 then rd R.LOOM_ECC_ADDR else 0
  | .egr => rd (R.EGR_PORT_STATUS src)
  | .frer => rd (R.FRER_STATE src)
  | .time => rd R.TIME_STATUS
  | .dpll => rd R.DPLL_STATUS
  | .syn => rd R.SYN_STATUS
  | .meas => rd R.MEAS_STATUS
  | .gnss => rd R.GNSS_STATUS
  | .cal => rd (R.CAL_ITEM src)
  | .groom => rd R.GROOM_STATUS
  | .obs => rd R.OBS_HEALTH

/-- 04 R141, 17 R611: the attention bit that an event code sets besides EVENT, as a mask. -/
def attnOf (code : Nat) : Nat :=
  let blk := code / 256
  let b := code % 256
  if code = 0x0410 then 2 ^ 3
  else if code = 0x0411 then 2 ^ 1
  else if code = 0x0412 ∨ code = 0x0413 then 2 ^ 13
  else if code = 0x1210 then 2 ^ 4
  else if blk = 0x01 then (if b = 0 ∨ b = 4 then 2 ^ 9 else if b ≤ 3 then 2 ^ 8 else 0)
  else if blk = 0x03 then 2 ^ 11
  else if blk = 0x04 then 2 ^ 13
  else if blk = 0x05 then (if b = 2 then 2 ^ 10 else 0)
  else if blk = 0x06 then (if b = 0 ∨ b = 1 ∨ b = 4 then 2 ^ 10 else 0)
  else if blk = 0x07 then (if b = 0 then 2 ^ 2 else 0)
  else if blk = 0x0C then (if b = 0 then 2 ^ 5 else 0)
  else if blk = 0x0D then (if b = 0 ∨ b = 1 then 2 ^ 6 else 0)
  else if blk = 0x0E then (if b < 4 then 2 ^ 7 else 0)
  else if blk = 0x11 then (if b ≤ 1 then 2 ^ 12 else 0)
  else if blk = 0x12 then (if b ≤ 9 then 2 ^ 4 else 0)
  else 0

/-- Enabled EVENT rings, in order. -/
def State.eventRings (s : State) : List Nat := (List.range 128).filter (fun r => s.cls r == clsEvent)

/-- The EVENT completion of a record (04 R149). -/
def State.eventCompletion (s : State) (e : EventRec) : Completion :=
  { status := 0, sqIndex := 0xFFFF, result := 0, cflags := s.cflags false false false, tag := 0,
    time := BitVec.ofNat 64 e.time,
    q1 := BitVec.ofNat 64 (e.code % 65536 + e.src % 65536 * 2 ^ 16 + e.detail % 2 ^ 32 * 2 ^ 32),
    q2 := BitVec.ofNat 64 (e.count % 2 ^ 32) }

/-- 04 R163: an occurrence merged into the pending record of its code and source, or a new record, or counted as
discarded when all 256 are in use. -/
def State.merge (r : Nat) (e : EventRec) (s : State) : State :=
  let q := s.ring r
  let s := s.count 5 (16 + r) 1 1
  if q.pending.any (fun p => p.code == e.code && p.src == e.src) then
    s.modRing r (fun q => { q with pending := q.pending.map (fun p =>
      if p.code == e.code && p.src == e.src then { p with detail := e.detail, count := p.count + 1 } else p) })
  else if q.pending.length < 256 then s.modRing r (fun q => { q with pending := q.pending ++ [e] })
  else s.count 5 (16 + r) 2 1

/-- One occurrence on one EVENT ring of `rs`: lost and counted while RELINK is set (log entry 74), written, or merged while the ring is full or older records wait (04 R163).
The first merge of an episode sets EVENT_LOST and gives event 0x0411 on every EVENT ring; `n` bounds the episodes that one
occurrence can begin, one per ring. -/
def State.eventOn (rs : List Nat) : Nat → Nat → EventRec → State → State
  | n, r, e, s =>
    if s.relink then s.count 5 (16 + r) 0 1
    else if s.cqRoom r = 0 ∨ (s.ring r).pending ≠ [] then
      let first := !(s.ring r).episode
      let s := s.merge r e
      if first then
        let s := (s.modRing r (fun q => { q with episode := true })).attn (2 ^ 1)
        match n with
        | 0 => s
        | n + 1 =>
          let e' : EventRec :=
            { code := 0x0411, src := r, detail := (s.ring r).pending.length, time := e.time, count := 1 }
          s.forEach rs (fun r' => State.eventOn rs n r' e')
      else s
    else (s.attn 1).complete r (s.eventCompletion e)

/-- 04 R144: the EVENT completions of one occurrence, on every enabled EVENT ring. -/
def State.eventAll (e : EventRec) (s : State) : State :=
  s.forEach s.eventRings (fun r => State.eventOn s.eventRings s.eventRings.length r e)

/-- 04 R144, R632: one occurrence with its code, source and detail: its attention bit, and from RUN on one EVENT
completion on every enabled EVENT ring. -/
def State.event (code src detail : Nat) (s : State) : State :=
  let s := (s.attn (attnOf code)).wakeTasks code
  if s.run then s.eventAll { code := code, src := src, detail := detail, time := s.nt, count := 1 } else s

/-- 17 R610: an occurrence of event bit `b` of a block: the sticky bit and its event. -/
def State.raise (blk : Blk) (b src : Nat) (s : State) : State :=
  let s := s.stick (blk.reg src) b
  s.event (blk.id * 256 + b) src (s.evDetail blk b src)

/-- As `raise`, with the detail word given. -/
def State.raiseD (blk : Blk) (b src detail : Nat) (s : State) : State :=
  (s.stick (blk.reg src) b).event (blk.id * 256 + b) src detail

/-- 04 R122, R135, R140: a HIF_ERR bit set, with RING_ERROR: source a ring or 0xFFFF, detail the offending value. -/
def State.hifErr (b src value : Nat) (s : State) : State := s.raiseD .hif b src value

/-- 17 R611: a frame ends HOST_RING_FULL for ring `r`: the attention bit now, the event at the end of the pick cycle. -/
def State.ringFull (r : Nat) (s : State) : State :=
  (s.attn (2 ^ 3)).modRing r (fun q => { q with ended := q.ended + 1 })

/-- 04 R147: a frame was steered to a ring whose class is not FRAME_RX, and ends HOST_RING_FULL: RING_ERROR as well. -/
def State.ringNotRx (r : Nat) (s : State) : State :=
  ((s.ringFull r).attn (2 ^ 13)).modRing r (fun q => { q with notRx := q.notRx + 1 })

/-- 17 R611: the events 0x0410 and 0x0412 of the pick cycle that ends, one per ring. -/
def State.flushRingFull (s : State) : State :=
  let rs := s.rings.filter (fun p => p.2.ended ≠ 0 ∨ p.2.notRx ≠ 0)
  s.forEach rs (fun p s =>
    let s := s.when (p.2.ended ≠ 0) (State.event 0x0410 p.1 p.2.ended)
    let s := s.when (p.2.notRx ≠ 0) (State.event 0x0412 p.1 p.2.notRx)
    s.modRing p.1 (fun q => { q with ended := 0, notRx := 0 }))

/-- 17 R608: the WRAP_SEEN events of the pick cycle that ends, one per set. -/
def State.flushWraps (s : State) : State :=
  { (s.forEach s.wrapped (fun set => State.event (0x1300 + 0) set (s.rd R.OBS_HEALTH).toNat)) with wrapped := [] }

end Sys2Proof.Machine
end

