-- ==== Sys2Proof/Machine/Rings.lean ====
section
/-! DEFINITION. How the module takes a submission: fetching, the checks of R140, the boundary at which a command acts, and
its completion (01 R20 to R25; 04 R129, R140, R154 to R159, R632). -/

namespace Sys2Proof.Machine

open Sys2Proof

/-! ### Result codes (04 R140) -/

def rOk : Nat := 0x00
def rBadOpcode : Nat := 0x10
def rBadParam : Nat := 0x11
def rBadPort : Nat := 0x12
def rTooFar : Nat := 0x13
def rState : Nat := 0x14
def rBusy : Nat := 0x15
def rDmaError : Nat := 0x16
def rStoreFail : Nat := 0x17
def rCancelled : Nat := 0x18
def rTableFull : Nat := 0x19
def rFrameEnded : Nat := 0x20

/-! ### A submission's fields -/

/-- Bits of P0. -/
def Submission.P0 (d : Submission) (lsb w : Nat) : Nat := bits d.p0.toNat lsb w
/-- Bits of P1. -/
def Submission.P1 (d : Submission) (lsb w : Nat) : Nat := bits d.p1.toNat lsb w
/-- Bits of P2. -/
def Submission.P2 (d : Submission) (lsb w : Nat) : Nat := bits d.p2.toNat lsb w
/-- FLAGS.AT. -/
def Submission.at? (d : Submission) : Bool := d.flags.getLsbD 0
/-- FLAGS.FENCE. -/
def Submission.fence (d : Submission) : Bool := d.flags.getLsbD 1
/-- FLAGS.TS_REQ. -/
def Submission.tsReq (d : Submission) : Bool := d.flags.getLsbD 2
/-- The parameter block's bytes. -/
def Submission.bytes (d : Submission) : List Byte := d.block.getD []
/-- Byte `i` of the block. -/
def Submission.b (d : Submission) (i : Nat) : Nat := byteAt d.bytes i
/-- The little-endian value of `n` block bytes at offset `i`. -/
def Submission.le (d : Submission) (i n : Nat) : Nat := leAt d.bytes i n
/-- 04 R154: the block's length, P2. -/
def Submission.len (d : Submission) : Nat := d.p2.toNat
/-- A block that begins with ACTION at byte 0, bytes 1 to 7 reserved, and has `n` bytes in all. -/
def Submission.form (d : Submission) (action n : Nat) : Bool :=
  d.b 0 == action && zeroBytes d.bytes 1 7 && d.len == n

/-! ### Command specifications -/

/-- What a command answers when it acts: a result with Q1 and Q2, or nothing yet (it completes under a later event). -/
inductive Answer where
  | done (code q1 q2 : Nat)
  /-- as `done`, at an instant of its own (13 R519) -/
  | doneAt (code time q1 q2 : Nat)
  | wait
  /-- the command has written its completion itself (03 R86) -/
  | gone
  deriving DecidableEq, Repr

/-- One command of a ring class. `first`: the first boundary of its kind at or after an instant (01 R24), `none` for a
command that acts on acceptance (04 R155). `check`: BAD_PARAM or BAD_PORT, 0 where neither applies. `act`: its action. -/
structure CmdSpec where
  cls    : Nat
  block  : Bool
  takesAt : Bool := true
  /-- defined bits of P0, P1 and P2; the others are reserved -/
  p0      : Nat := 2 ^ 32 - 1
  p1      : Nat := 2 ^ 64 - 1
  p2      : Nat := 2 ^ 64 - 1
  first  : Submission → State → Option (Nat → Nat)
  check  : Submission → State → Nat
  act    : Cmd → State → State × Answer

/-- The pick-cycle boundary (01 R24). -/
def onPick : Submission → State → Option (Nat → Nat) := fun _ _ => some ceilGrid

/-- The second of network time (01 R24). -/
def onSecond : Submission → State → Option (Nat → Nat) := fun _ _ => some (fun t => (t + sec - 1) / sec * sec)

/-- Acceptance (04 R155). -/
def onAccept : Submission → State → Option (Nat → Nat) := fun _ _ => none

/-- 04 R156, R146, R150: the accepted submissions of a ring that have no completion, posted buffers among them. -/
def State.heldOf (s : State) (r : Nat) : Nat := (s.outstanding r).length + (s.ring r).posted.length

/-- 04 R156: the accepted submissions of the module that have no completion. -/
def State.heldAll (s : State) : Nat := s.accepted.length + s.rings.foldl (fun n x => n + x.2.posted.length) 0

/-- 04 R156, R157, R632: whether the module fetches and accepts this submission of a ring of class `cls` now: it is the
ring's next entry, a completion slot can be reserved (the slots of buffers are found when a frame or samples fill them, R160, R161), the
limits of 64 and 1,024 hold, and any FENCE is met. A user task's submission (16 R581) has no ring. -/
def State.fetches (s : State) (cls : Nat) (d : Submission) : Bool :=
  s.groomUp &&
  (if 128 ≤ d.ring then s.run
   else
    s.cls d.ring == cls && !s.relink && !(s.ring d.ring).stopping && (s.run || cls == clsRule || cls == clsFdb) &&
    d.index == (s.ring d.ring).sqHead && (s.ring d.ring).sqHead != (s.ring d.ring).sqTail &&
    (cls == clsFrameRx || cls == clsLog || decide ((s.outstanding d.ring).length < s.cqRoom d.ring)) &&
    decide (s.heldOf d.ring < 64) && decide (s.heldAll < 1024) &&
    (!d.fence || s.outstanding d.ring == []))

/-- A submission fetched: DB_SQ_HEAD passes it (04 R133). -/
def State.fetched (d : Submission) (s : State) : State :=
  if 128 ≤ d.ring then s
  else s.modRing d.ring (fun q => { q with sqHead := (q.sqHead + 1) % s.ringSize d.ring })

/-- Whether reserved FLAGS bits are set for a class (04 R137). -/
def Submission.badFlags (d : Submission) (cls : Nat) : Bool :=
  bits d.flags.toNat 3 5 != 0 || (d.tsReq && cls != clsFrameTx)

/-- 04 R127, R137: whether a descriptor sets a reserved bit. -/
def CmdSpec.reservedSet (k : CmdSpec) (d : Submission) : Bool :=
  d.badFlags k.cls || d.p0.toNat &&& k.p0 != d.p0.toNat || d.p1.toNat &&& k.p1 != d.p1.toNat ||
    d.p2.toNat &&& k.p2 != d.p2.toNat

/-- The length of a pick cycle: one step of the grid, or 100 ns on the safe clock (01 R13, R16). -/
def State.cycleLen (s : State) : Nat := if s.on F.SYN_STATUS_SAFE0 then 2 * grid else grid

/-- When the module accepts a submission: `at0` into the pick cycle that runs; or, for the row of a command with a boundary (`row`), which
comes at the boundary that ends the pick cycle of its acceptance, `at0` into the cycle before (log entry 7). -/
def State.acceptAt (s : State) (row : Bool) (d : Submission) : Nat :=
  let lag := min d.at0 (s.cycleLen - 1)
  if row then s.nt + lag - s.cycleLen else s.nt + lag

/-- The instant of a submission's acceptance: commands that act on acceptance have no boundary to come at. -/
def CmdSpec.acceptAt (k : CmdSpec) (row : Bool) (d : Submission) (s : State) : Nat := s.acceptAt (row && (k.first d s).isSome) d

/-- 04 R140: the BAD_PARAM or BAD_PORT that a command's action would answer, 0 where it would answer neither. -/
def CmdSpec.actBad (k : CmdSpec) (d : Submission) (acc : Nat) (s : State) : Nat :=
  match (k.act (s.newCmd 0 d acc) s).2 with
  | .done code _ _ => if code = rBadParam ∨ code = rBadPort then code else 0
  | _ => 0

/-- 04 R140: the first check of acceptance at the instant `acc` that fails, 0 where none does. A BAD_PARAM or BAD_PORT that only the action
finds still comes before TOO_FAR. -/
def CmdSpec.refusal (k : CmdSpec) (d : Submission) (acc : Nat) (s : State) : Nat :=
  if k.block && d.block.isNone then rDmaError
  else if k.reservedSet d then rBadParam
  else if d.at? && (!k.takesAt || (k.first d s).isNone) then rBadParam
  else
    let c := k.check d s
    if c ≠ 0 then c
    else if d.at? ∧ ctDiff d.time.toNat (ct acc) > 2 ^ 62 then
      let b := k.actBad d acc s
      if b ≠ 0 then b else rTooFar
    else rOk

/-- The HIF_ERR bits a refusal sets: DMA_READ for an unreadable block, DESC_FORMAT for reserved bits or an unknown opcode
of the descriptor (04 R127). -/
def State.refusalErr (format : Bool) (code : Nat) (d : Submission) (s : State) : State :=
  (s.when (code = rDmaError) (State.hifErr 2 d.ring d.p1.toNat)).when format (State.hifErr 4 d.ring d.index)

/-- 01 R20 to R22: the boundary of a command accepted at `acc`, and whether it is late. A time that equals `acc` has not passed: 13 R485 calls
a time past that is behind network time. -/
def boundaryOf (f : Nat → Nat) (acc : Nat) (d : Submission) : Nat × Bool :=
  if d.at? then
    let t := (acc : Int) + ctDiff d.time.toNat (ct acc)
    if t < (acc : Int) then (f (acc + 1), true) else (f t.toNat, false)
  else (f (acc + 1), false)

/-- 06 R242, 07 R306: HED_GEN_STATUS.PENDING and MAC_SHED_STATUS.PENDING while an accepted RULE_SWAP or SHED_SET waits. -/
def State.updPending (c : Cmd) (s : State) : State :=
  if c.op = 0x11 then s.setB F.HED_GEN_STATUS_PENDING (s.accepted.any (fun x => x.op == 0x11))
  else if c.op = 0x4A then
    let p := c.sub.P0 0 9
    s.setB (F.MAC_SHED_STATUS_PENDING p) (s.accepted.any (fun x => x.op == 0x4A && x.sub.P0 0 9 == p))
  else s

/-- A command's action: its completion follows at once, or it stays accepted, begun, until the event that ends it. -/
def CmdSpec.actNow (k : CmdSpec) (c : Cmd) (s : State) : State :=
  match k.act c s with
  | (s', .done code q1 q2) => (s'.completeCmd c code c.boundary q1 q2).updPending c
  | (s', .doneAt code time q1 q2) => (s'.completeCmd c code time q1 q2).updPending c
  | (s', .gone) => s'
  | (s', .wait) => ({ s' with accepted := s'.accepted ++ [{ c with begun := true }] }).updPending c

/-- Whether accepted command `x` acts before `y`, in the order of 01 R25; equals keep the order of acceptance. -/
def Cmd.before (x y : Cmd) : Bool :=
  decide (x.boundary < y.boundary) || (x.boundary == y.boundary && decide (x.sub.ring < y.sub.ring))

/-- The first of the accepted commands whose boundary has come and that have not begun. -/
def State.dueCmd (s : State) : Option Cmd :=
  (s.accepted.filter (fun c => !c.begun && decide (c.boundary ≤ s.nt))).foldl (fun m c =>
    match m with
    | none => some c
    | some x => if c.before x then some c else m) none

/-- A command accepted: it acts in this step if it acts on acceptance, or if its row (`row`) comes at its boundary and its turn is the first
of that boundary (01 R25); else it waits. -/
def CmdSpec.enter (k : CmdSpec) (c : Cmd) (row : Bool) (s : State) : State :=
  let w := { s with accepted := s.accepted ++ [c] }
  if row && w.dueCmd == some c then k.actNow c s else w.updPending c

/-- A submission taken by the module: refused, or accepted (01 R20 to R25; 04 R140, R156). -/
def CmdSpec.take (k : CmdSpec) (op : Nat) (row : Bool) (d : Submission) (s : State) : State :=
  if s.fetches k.cls d then
    let s := s.fetched d
    let acc := k.acceptAt row d s
    let code := k.refusal d acc s
    if code ≠ rOk then
      (s.refusalErr (k.reservedSet d) code d).completeCmd (s.newCmd op d acc) code acc 0 0
    else
      match k.first d s with
      | none => k.actNow (s.newCmd op d acc) s
      | some f => k.enter { s.newCmd op d (boundaryOf f acc d).1 with late := (boundaryOf f acc d).2 } row s
  else s

/-- A begun command that `p` names ends: its completion is written (04 R158). -/
def State.finish (p : Cmd → Bool) (code time q1 q2 : Nat) (s : State) : State :=
  match s.accepted.find? (fun c => c.begun && p c) with
  | none => s
  | some c => ({ s with accepted := s.accepted.erase c }).completeCmd c code time q1 q2

/-- Accepted commands that `p` names and that have not begun are cancelled at `time` (04 R159, R164; 18 R622). -/
def State.cancelWaiting (p : Cmd → Bool) (time : Nat) (s : State) : State :=
  let cs := s.accepted.filter (fun c => !c.begun && p c)
  ({ s with accepted := s.accepted.filter (fun c => c.begun || !p c) }).forEach cs
    (fun c s => (s.completeCmd c rCancelled time 0 0).updPending c)

/-- Begun commands that `p` names end with a result. -/
def State.endBegun (p : Cmd → Bool) (code : Nat) (s : State) : State :=
  let cs := s.accepted.filter (fun c => c.begun && p c)
  ({ s with accepted := s.accepted.filter (fun c => !c.begun || !p c) }).forEach cs
    (fun c s => s.completeCmd c code s.nt 0 0)

/-! ### Register values in parameter blocks -/

/-- 04 R140: whether a value for the register at `a` keeps its reserved bits 0. -/
def regValueOk (a v : Nat) : Bool :=
  match rowOf a with
  | some r => (BitVec.ofNat 32 v &&& ~~~(r.rws ||| r.rw)) == 0#32
  | none => false

/-- Whether consecutive block words from offset `i` are valid values for the registers at `as`. -/
def Submission.regsOk (d : Submission) (i : Nat) (as : List Nat) : Bool :=
  (as.zip (List.range as.length)).all (fun x => regValueOk x.1 (d.le (i + 4 * x.2) 4))

/-- Consecutive block words from offset `i` written to the registers at `as`. -/
def State.putRegs (d : Submission) (i : Nat) (as : List Nat) (s : State) : State :=
  s.forEach (as.zip (List.range as.length)) (fun x => State.wr x.1 (BitVec.ofNat 32 (d.le (i + 4 * x.2) 4)))

/-! ### Ring configuration (04 R129) -/

/-- A ring's configuration words: SQ and CQ bases, CFG, PARAM. -/
structure RingCfg where
  sq    : Nat
  cqb   : Nat
  cfg   : Nat
  param : Nat
  deriving DecidableEq, Repr

/-- The configuration in a ring's HIF_RING registers. -/
def State.ringCfg (s : State) (r : Nat) : RingCfg :=
  { sq := s.get2 (R.HIF_RING_SQ_LO r) (R.HIF_RING_SQ_HI r), cqb := s.get2 (R.HIF_RING_CQ_LO r) (R.HIF_RING_CQ_HI r),
    cfg := (s.rd (R.HIF_RING_CFG r)).toNat, param := (s.rd (R.HIF_RING_PARAM r)).toNat }

/-- 04 R129: the port range of a TS ring is empty, reversed, beyond 272, or overlaps another's. -/
def RingCfg.tsBad (c : RingCfg) (others : List RingCfg) : Bool :=
  let lo := bits c.param 0 9
  let hi := bits c.param 16 9
  decide (hi < lo) || decide (272 < hi) ||
    others.any (fun o => bits o.cfg 0 4 == clsTs && decide (bits o.param 0 9 ≤ hi) && decide (lo ≤ bits o.param 16 9))

/-- 04 R129: the checks of an enabled ring's configuration, beside the other enabled rings' configurations. -/
def RingCfg.invalid (c : RingCfg) (others : List RingCfg) : Bool :=
  let cls := bits c.cfg 0 4
  let n := bits c.cfg 4 4
  (c.sq % 4096 != 0 && cls != clsTs && cls != clsEvent) || c.cqb % 4096 != 0 || cls == 0 || decide (9 < cls) ||
    decide (n < 4) || (cls == clsTs && c.tsBad others)

/-- Rings enabled, in order. -/
def State.enabledRings (s : State) : List Nat := (List.range 128).filter (fun r => s.cls r != 0)

/-- 04 R129: whether some enabled ring makes the configuration invalid. -/
def State.ringsInvalid (s : State) : Bool :=
  s.enabledRings.any (fun r =>
    (s.ringCfg r).invalid ((s.enabledRings.filter (fun q => q != r)).map s.ringCfg))

end Sys2Proof.Machine
end

