-- ==== Sys2Proof/Machine/Ports.lean ====
section
/-! DEFINITION. Ports as the lanes form them: which lanes make one port, whether a lane's configuration is valid, whether
a port is up, and which port IDs a command may name (00 R10, R11; 05 R170 to R175, R193). -/

namespace Sys2Proof.Machine

open Sys2Proof

/-- OE_CFG.MODEp of engine `k`. -/
def oeMode (k p : Nat) : Fld := ⟨R.OE_CFG k, 1 + 2 * p, 2⟩

/-- The mode of pair `p` in an OE_CFG word. -/
def modeIn (cfg p : Nat) : Nat := bits cfg (1 + 2 * p) 2

/-- 05 R171: MODE 3 is valid only when both pairs of the half hold it. -/
def modesValid (cfg : Nat) : Bool :=
  ((modeIn cfg 0 == 3) == (modeIn cfg 1 == 3)) && ((modeIn cfg 2 == 3) == (modeIn cfg 3 == 3))

/-- Whether the mode of pair `p` is valid by R171. -/
def pairValid (cfg p : Nat) : Bool := modeIn cfg p != 3 || modeIn cfg (p / 2 * 2 + (1 - p % 2)) == 3

/-- 00 R10, 05 R170: the lowest lane of the port that optical lane `l` of an engine with OE_CFG `cfg` belongs to. -/
def leadIn (cfg l : Nat) : Nat :=
  let p := l / 2
  match modeIn cfg p with
  | 2 => 2 * p
  | 3 => if pairValid cfg p then l / 4 * 4 else l
  | _ => l

/-- 05 R174: whether a LANE_CFG word sets GROUP4. -/
def group4 (cfg : Nat) : Bool := cfg.testBit 6

/-- 05 R174: board lanes 256 + 4g to 259 + 4g form one port. -/
def State.grouped (s : State) (g : Nat) : Bool :=
  let cfg := (s.rd (R.LANE_CFG (256 + 4 * g))).toNat
  group4 cfg && bits cfg 1 3 == 3

/-- The lowest lane of the port that a lane belongs to: that port's ID (00 R10). -/
def State.leadOf (s : State) (n : Nat) : Nat :=
  if n < 256 then n / 8 * 8 + leadIn (s.rd (R.OE_CFG (n / 8))).toNat (n % 8)
  else if s.grouped ((n - 256) / 4) then 256 + (n - 256) / 4 * 4
  else n

/-- The lanes of a port, lowest first. -/
def State.lanesOf (s : State) (p : Nat) : List Nat :=
  ((List.range 8).map (fun i => p / 8 * 8 + i)).filter (fun n => decide (n < 272) && s.leadOf n == p)

/-- The ports that some lanes belong to, without repeats. -/
def State.portsOf (s : State) (ls : List Nat) : List Nat := (ls.map s.leadOf).eraseDups

/-- 05 R173, R174, R193, R211: whether a board lane's LANE_CFG and LANE_EQ words are valid. -/
def boardValid (n cfg eq : Nat) : Bool :=
  bits cfg 9 2 != 3 && decide (bits cfg 1 3 ≤ 3) && (!group4 cfg || (n % 4 == 0 && bits cfg 1 3 == 3)) &&
    decide (bits eq 16 4 + bits eq 20 5 ≤ 32)

/-- 05 R174: the lane whose RATE, CLK_SYNC and equaliser settings a lane takes: the lowest of a group of board lanes, or the lane itself. -/
def State.lineLane (s : State) (n : Nat) : Nat := if n < 256 then n else s.leadOf n

/-- 05 R174: a lane's LANE_CFG as it acts: RATE, FEC_25 and CLK_SYNC are those of the lane that it takes them from. -/
def State.lineCfg (s : State) (n : Nat) : Nat :=
  setBits (s.rd (R.LANE_CFG n)).toNat 1 5 (bits (s.rd (R.LANE_CFG (s.lineLane n))).toNat 1 5)

/-- 05 R171, R173, R174, R193: whether a lane's configuration is valid. A member of a group follows its lowest lane. -/
def State.laneValid (s : State) (n : Nat) : Bool :=
  if n < 256 then
    bits (s.rd (R.LANE_CFG n)).toNat 9 2 != 3 && pairValid (s.rd (R.OE_CFG (n / 8))).toNat (n % 8 / 2)
  else boardValid n (s.lineCfg n) (s.rd (R.LANE_EQ (s.lineLane n))).toNat

/-- 05 R180: lane states. -/
def lnDown : Nat := 0
def lnAcquire : Nat := 1
def lnHold : Nat := 2
def lnUp : Nat := 3
def lnFault : Nat := 4
def lnRetired : Nat := 5

/-- A lane's state. -/
def State.lane (s : State) (n : Nat) : Nat := s.get (F.LANE_STATUS_STATE n)

/-- 05 R175: a port has one lane, or its lanes are deskewed. -/
def State.aligned (s : State) (p : Nat) : Bool := decide ((s.lanesOf p).length ≤ 1) || s.deskewed.contains p

/-- 05 R175, R180: a port is up while every one of its lanes is UP and deskewed, and no pattern of R206 occupies it. Ports 272 to 274
have no lane: the host port is up while the link is trained, the others always. -/
def State.portUp (s : State) (p : Nat) : Bool :=
  if p < 272 then
    s.leadOf p == p && s.aligned p &&
      (s.lanesOf p).all (fun n => s.lane n == lnUp && bits (s.rd (R.LANE_PRBS n)).toNat 0 4 == 0)
  else decide (p ≤ 274)

/-- 00 R11: BAD_PORT for a reserved ID or a multi-lane port named by other than its lowest lane; 0 otherwise. -/
def State.badPort (s : State) (p : Nat) : Nat :=
  if 275 ≤ p ∧ p ≤ 287 then rBadPort
  else if p < 272 ∧ s.leadOf p ≠ p then rBadPort
  else rOk

/-- 00 R10: the fabric node of a port. -/
def nodeOf (p : Nat) : Nat :=
  if p < 256 then p / 8 else if p < 264 then 32 else if p < 272 then 33 else if p = 273 then 35 else 34

/-- 00 R10: the heddle bank of a node. -/
def bankOf (n : Nat) : Nat := n / 9

/-- 05 R169, R173: a lane's line rate in kb/s. -/
def State.laneKbps (s : State) (n : Nat) : Nat :=
  if n < 256 then (if s.get (oeMode (n / 8) (n % 8 / 2)) = 0 then 106250000 else 212500000)
  else match s.get (F.LANE_CFG_RATE (s.lineLane n)) with
    | 0 => 10312500
    | 1 => 25781250
    | 2 => 53125000
    | _ => 106250000

/-- 05 R183: the time of `n` line bits of a lane, in units of 2^-16 ns. -/
def State.lineTime (s : State) (lane n : Nat) : Nat := n * ns * 1000000 / s.laneKbps lane

/-- 05 R183; 10 R396: what the latest sample of a lane's tap latched of one half: the edge's time, and the line bits from the latest marker's
first bit to that edge. `none` where that half is not valid. -/
def State.tapEdge (s : State) (rx : Bool) (n : Nat) : Option (Int × Nat) :=
  let w := fun i => (s.rd (R.MEAS_TAP_LAST n + 4 * i)).toNat
  let k := b2n (!rx)
  if bit (w 7) k then some (s.ofCt (w 0 + w 1 * 2 ^ 32) + (w (2 + k) : Nat), w (4 + k)) else none

/-- 05 R182, R183: when line bit `n` after a marker passes the tap point of a port's lowest lane: as the tap's latest sample places the marker,
or, before a first sample, after `tm`, where that marker passed it. -/
def State.bitTime (s : State) (rx : Bool) (p tm n : Nat) : Int :=
  match s.tapEdge rx p with
  | some (t, b) => t + ((n : Int) - b) * ((ns * 1000000 : Nat) : Int) / (s.laneKbps p : Nat)
  | none => ((tm + s.lineTime p n : Nat) : Int)

/-- 05 R183: the receive time of an event `n` line bits after a marker (`tm`: log entry 79). -/
def State.rxTime (s : State) (p tm n : Nat) : Nat := (s.bitTime true p tm n - ((s.rd (R.LANE_DELAY_RX p)).toNat : Nat)).toNat

/-- 05 R183: the transmit time of an event `n` line bits after a marker (`tm`: log entry 79). -/
def State.txTimeOf (s : State) (p tm n : Nat) : Nat := (s.bitTime false p tm n + ((s.rd (R.LANE_DELAY_TX p)).toNat : Nat)).toNat

/-- 05 R170, R173: a port's Ethernet rate in Gb/s. -/
def State.portGbps (s : State) (p : Nat) : Nat :=
  if p < 256 then
    match s.get (oeMode (p / 8) (p % 8 / 2)) with
    | 0 => 100
    | 1 => 200
    | 2 => 400
    | _ => 800
  else if p < 272 then
    if s.grouped ((p - 256) / 4) then 400
    else match s.get (F.LANE_CFG_RATE p) with
      | 0 => 10
      | 1 => 25
      | 2 => 50
      | _ => 100
  else 100

/-- 05 R176, R184: whether a lane's rate carries alignment markers. -/
def State.hasMarkers (s : State) (n : Nat) : Bool :=
  decide (n < 256) ||
    (match s.get (F.LANE_CFG_RATE (s.lineLane n)) with
     | 0 => false
     | 1 => s.on (F.LANE_CFG_FEC_25 (s.lineLane n))
     | _ => true)

end Sys2Proof.Machine
end

