-- ==== Sys2Proof/Machine/Rules.lean ====
section
/-! DEFINITION. Rule memories and the walk over them, pattern matching, actions, the forwarding database's bucket, and the
entry checks of RULE_WRITE (07 R274 to R291). -/

namespace Sys2Proof.Machine

open Sys2Proof

/-- 07 R281: the memories of a generation. -/
def memTree : Nat := 0
def memAction : Nat := 1
def memPattern : Nat := 2

/-- 07 R281: entries of a memory (tree units, actions, patterns). -/
def memEntries (m : Nat) : Nat := if m = 0 then 524288 else if m = 1 then 262144 else 4096

/-- 07 R281: bytes of one entry (a tree entry's are one unit's). -/
def memWidth (m : Nat) : Nat := if m = 2 then 128 else 64

/-- The key of an entry in the state's rule memories. -/
def ruleKey (gen mem i : Nat) : Nat := gen * 2 ^ 24 + mem * 2 ^ 20 + i

/-- The bytes of an entry; one never written reads 0 (07 R282: empty at reset). -/
def ruleEntry (t : Tbl (List Byte)) (gen mem i : Nat) : List Byte := (Tbl.find (ruleKey gen mem i) t).getD []

/-- 07 R282: the generation header, unit 0 of the tree memory. -/
def header (t : Tbl (List Byte)) (gen : Nat) : List Byte := ruleEntry t gen memTree 0

/-- 07 R282: whether a generation's header is valid. -/
def headerValid (t : Tbl (List Byte)) (gen : Nat) : Bool := bit (byteAt (header t gen) 0) 7

/-- 07 R283: TYPE, UNITS and VALID of a node or rule. -/
def nodeType (e : List Byte) : Nat := byteAt e 0 % 4
def nodeUnits (e : List Byte) : Nat := byteAt e 0 / 4 % 4
def nodeValid (e : List Byte) : Bool := bit (byteAt e 0) 7

/-- 07 R285: the key bytes a rule of `u` units compares. -/
def ruleBytes (u : Nat) : Nat := if u = 1 then 20 else if u = 2 then 40 else 80

/-- The bytes of a rule: the present contents of all its units (07 R292). -/
def ruleAt (t : Tbl (List Byte)) (gen u : Nat) : List Byte :=
  let w := fun i => let e := ruleEntry t gen memTree i; e ++ List.replicate (64 - e.length) 0
  let n := nodeUnits (w u)
  (List.range (max n 1)).flatMap (fun i => w (u + i))

/-- 07 R285: whether a rule matches a key. -/
def ruleMatches (rule key : List Byte) : Bool :=
  let n := ruleBytes (nodeUnits rule)
  let k := byteAt rule 1
  nodeType rule == 3 && nodeValid rule &&
    (List.range n).all (fun i =>
      let m := byteAt rule (16 + n + i)
      (byteAt key (k + i) &&& m) == (byteAt rule (16 + i) &&& m))

/-- Key bits [first, first + w), the first most significant (07 R270, R283). -/
def keyBits (key : List Byte) (first w : Nat) : Nat :=
  (List.range w).foldl (fun a i =>
    let b := first + i
    2 * a + b2n (bit (byteAt key (b / 8)) (7 - b % 8))) 0

/-- A walk's result: the winning rule's (priority, unit, action) if any, and whether the walk broke a limit (07 R287). -/
structure Walk where
  best  : Option (Nat × Nat × Nat) := none
  limit : Bool := false
  deriving DecidableEq, Repr

/-- 07 R286: the better of two matches: the higher PRIORITY, then the lower unit. -/
def betterRule (a : Nat × Nat × Nat) : Option (Nat × Nat × Nat) → Option (Nat × Nat × Nat)
  | none => some a
  | some b => if a.1 > b.1 ∨ (a.1 = b.1 ∧ a.2.1 < b.2.1) then some a else some b

/-- 07 R284, R286: the listed valid rules of a leaf compared. -/
def leafRules (t : Tbl (List Byte)) (gen : Nat) (leaf key : List Byte) (best : Option (Nat × Nat × Nat)) :
    Option (Nat × Nat × Nat) :=
  (List.range (min (byteAt leaf 1) 12)).foldl (fun best i =>
    let u := leAt leaf (8 + 4 * i) 4 % 2 ^ 19
    let r := ruleAt t gen u
    if ruleMatches r key then betterRule (leAt r 4 4 % 2 ^ 20, u, leAt r 8 4 % 2 ^ 18) best else best) best

/-- 07 R283, R287: the unit a CUT node leads to. A unit of a rule read as a node may name none of R283's: which unit of the generation the walk then
goes on at depends on its bytes, by a free value (log entry 3). -/
def cutChild (gen u : Nat) (e key : List Byte) : Nat :=
  let w := byteAt e 1
  let first := leAt e 2 2 % 1024
  let base := leAt e 4 4 % 2 ^ 19
  if 1 ≤ w ∧ w ≤ 8 ∧ first + w ≤ 640 ∧ base + 2 ^ w - 1 < 2 ^ 19 then base + keyBits key first w
  else (Config.freeValue 287 (ruleKey gen memTree u * 2 ^ 64 + leAt e 0 8)).toNat % 2 ^ 19

/-- 07 R286, R287: the walk from unit `u`, having passed `c` CUT nodes and `l` leaves; `fuel` bounds their sum. -/
def walkFrom (t : Tbl (List Byte)) (gen : Nat) (key : List Byte) :
    Nat → Nat → Nat → Nat → Option (Nat × Nat × Nat) → Walk
  | 0, _, _, _, _ => { best := none, limit := true }
  | fuel + 1, u, c, l, best =>
    if u = 0 then { best := none, limit := true }
    else
      let e := ruleEntry t gen memTree u
      if !nodeValid e || nodeType e == 0 then { best := best }
      else if nodeType e = 1 then
        if c = 16 then { best := none, limit := true }
        else walkFrom t gen key fuel (cutChild gen u e key) (c + 1) l best
      else if nodeType e = 2 then
        if l = 8 then { best := none, limit := true }
        else
          let best := leafRules t gen e key best
          let nx := leAt e 4 4 % 2 ^ 19
          if nx = 0 then { best := best } else walkFrom t gen key fuel nx c (l + 1) best
      else { best := none, limit := true }

/-- 07 R286: the walk of a generation's tree for a key. -/
def walk (t : Tbl (List Byte)) (gen : Nat) (key : List Byte) : Walk :=
  walkFrom t gen key 26 (leAt (header t gen) 4 4 % 2 ^ 19) 0 0 none

/-- 07 R275: whether a pattern entry matches a head. -/
def patternMatches (e : List Byte) (h : Head) (mark : Option Nat) : Bool :=
  bit (byteAt e 0) 0 &&
  (match (if bit (byteAt e 0) 1 then mark else some 0) with
   | none => false
   | some a =>
     let n := byteAt e 1
     (List.range (byteAt e 3 + 1)).any (fun o =>
       decide (byteAt e 2 ≤ o) && !h.pastWin (a + o + n) && !h.pastEnd (a + o + n) && decide (a + o + n ≤ h.win.length) &&
       (List.range n).all (fun i => !bit (leAt e 8 8) i || byteAt h.win (a + o + i) == byteAt e (64 + i))))

/-- 07 R274: the pattern vector of a head under a generation. -/
def patternVector (t : Tbl (List Byte)) (gen : Nat) (h : Head) (mark : Option Nat) : Nat :=
  t.foldl (fun v p =>
    if p.1 / 2 ^ 20 = gen * 16 + memPattern ∧ patternMatches p.2 h mark then v ||| 2 ^ (byteAt p.2 4 % 64) else v) 0

/-! ### Actions (07 R288) -/

/-- An action entry's fields. -/
structure Action where
  valid    : Bool
  drop     : Bool
  noLearn  : Bool
  recirc   : Bool
  mirror   : Bool
  noCut    : Bool
  dest     : Nat
  destId   : Nat
  tc       : Option Nat
  pcp      : Option Nat
  dei      : Option Nat
  vid      : Option Nat
  matchId  : Nat
  session  : Nat
  stream   : Option Nat
  woven    : Option Nat
  meta4    : Nat
  counter  : Option Nat
  deriving DecidableEq, Repr

/-- 07 R288: an action entry decoded. -/
def Action.decode (e : List Byte) : Action :=
  let c := byteAt e 0
  let q := byteAt e 4
  let g := byteAt e 5
  let opt := fun (b : Bool) (v : Nat) => if b then some v else none
  { valid := bit c 0, drop := bit c 1, noLearn := bit c 2, recirc := bit c 3, mirror := bit c 4, noCut := bit c 5,
    dest := byteAt e 1 % 4, destId := leAt e 2 2, tc := opt (bit q 3) (q % 8), pcp := opt (bit q 7) (q / 16 % 8),
    dei := opt (bit g 1) (g % 2), vid := opt (bit g 2) (leAt e 6 2 % 4096), matchId := leAt e 8 2,
    session := byteAt e 10 % 16, stream := opt (bit (leAt e 12 2) 15) (leAt e 12 2 % 4096),
    woven := opt (bit (leAt e 14 2) 15) (leAt e 14 2 % 4096), meta4 := leAt e 16 4,
    counter := opt (bit (leAt e 20 4) 31) (leAt e 20 4 % 2 ^ 18) }

/-- The action at an index of a generation. -/
def actionAt (t : Tbl (List Byte)) (gen i : Nat) : Action := Action.decode (ruleEntry t gen memAction i)

/-- The action DEST FDB with no other field set, as a missing MISS_ACTION gives (07 R282). -/
def fdbAlone : Action := { Action.decode [] with valid := true }

/-! ### RULE_WRITE's checks (07 R282 to R285, R288, R291) -/

/-- One tree entry's checks, given its unit and all bytes of its units. -/
def treeEntryOk (u : Nat) (e : List Byte) : Bool :=
  let hdr := byteAt e 0
  if u = 0 then
    !bit hdr 7 || (hdr % 128 == 0 && zeroBytes e 1 3 && decide (1 ≤ leAt e 4 4) && decide (leAt e 4 4 < 2 ^ 19) &&
      bits (leAt e 8 4) 18 13 == 0 && bits (leAt e 12 4) 18 13 == 0 && zeroBytes e 20 44)
  else if nodeType e = 3 ∧ nodeUnits e = 0 then false
  else if !nodeValid e then true
  else
    let resHdr := bits hdr 4 3 == 0
    match nodeType e with
    | 0 => resHdr && nodeUnits e == 0 && zeroBytes e 1 63
    | 1 =>
      let w := byteAt e 1
      resHdr && nodeUnits e == 0 && decide (1 ≤ w) && decide (w ≤ 8) && decide (leAt e 2 2 < 1024) &&
        decide (leAt e 2 2 + w ≤ 640) && decide (leAt e 4 4 + 2 ^ w - 1 ≤ 524287) && zeroBytes e 8 56
    | 2 =>
      resHdr && nodeUnits e == 0 && decide (byteAt e 1 ≤ 12) && zeroBytes e 2 2 && decide (leAt e 4 4 < 2 ^ 19) &&
        (List.range 12).all (fun i => decide (leAt e (8 + 4 * i) 4 < 2 ^ 19)) && zeroBytes e 56 8
    | _ =>
      let n := ruleBytes (nodeUnits e)
      resHdr && decide (byteAt e 1 + n ≤ 80) && zeroBytes e 2 2 && decide (leAt e 4 4 < 2 ^ 20) &&
        decide (leAt e 8 4 < 2 ^ 18) && zeroBytes e 12 4 && zeroBytes e (16 + 2 * n) (64 * nodeUnits e - 16 - 2 * n)

/-- One action entry's checks. -/
def actionEntryOk (e : List Byte) : Bool :=
  !bit (byteAt e 0) 0 ||
    (byteAt e 0 / 64 == 0 && byteAt e 1 / 4 == 0 && byteAt e 5 / 8 == 0 && decide (leAt e 6 2 < 4096) &&
      byteAt e 11 == 0 && byteAt e 10 / 16 == 0 && bits (leAt e 12 2) 12 3 == 0 && bits (leAt e 14 2) 12 3 == 0 &&
      bits (leAt e 20 4) 18 13 == 0 && zeroBytes e 24 40 &&
      (match byteAt e 1 % 4 with
       | 1 => decide (leAt e 2 2 ≤ 271)
       | 2 => decide (leAt e 2 2 < 8192)
       | 3 => decide (leAt e 2 2 < 128)
       | _ => true))

/-- One pattern entry's checks. -/
def patternEntryOk (e : List Byte) : Bool :=
  !bit (byteAt e 0) 0 ||
    (byteAt e 0 / 4 == 0 && decide (1 ≤ byteAt e 1) && decide (byteAt e 1 ≤ 64) && decide (byteAt e 2 ≤ byteAt e 3) &&
      decide (byteAt e 4 < 64) && zeroBytes e 5 3 && zeroBytes e 16 48)

/-- 07 R291: a block read as consecutive entries from `u`: the entries as (first index, bytes), or `none` where a check
fails or the last entry does not end at the block's end. `fuel` bounds the entries. -/
def blockEntries (mem : Nat) : Nat → Nat → List Byte → Option (List (Nat × List Byte))
  | 0, _, l => if l.isEmpty then some [] else none
  | fuel + 1, u, l =>
    if l.isEmpty then some []
    else
      let k := if mem = memTree ∧ u ≠ 0 ∧ nodeType l = 3 then max (nodeUnits l) 1 else 1
      let w := memWidth mem * k
      let e := l.take w
      if e.length < w then none
      else if (mem = memTree ∧ !treeEntryOk u e) ∨ (mem = memAction ∧ !actionEntryOk e) ∨
          (mem = memPattern ∧ !patternEntryOk e) then none
      else (blockEntries mem fuel (u + k) (l.drop w)).map (fun t => (u, e) :: t)

/-! ### The forwarding database (07 R276 to R279) -/

/-- 07 R276: the bucket of a (VID, address) pair. -/
def fdbBucket (vid mac : Nat) : Nat := crc32 (beBytes 2 (vid % 4096) ++ beBytes 6 mac) % 2 ^ 17

/-- The index of a key's entry. -/
def fdbFind (t : Tbl FdbEntry) (vid mac : Nat) : Option (Nat × FdbEntry) :=
  let b := fdbBucket vid mac * 8
  (t.filter (fun p => decide (b ≤ p.1) && decide (p.1 < b + 8))).find? (fun p => p.2.vid == vid && p.2.mac == mac)

/-- 07 R276: the first free way of a key's bucket that is not kept back, as an index. -/
def fdbFree (t : Tbl FdbEntry) (vid mac : Nat) (keep : Nat → Bool) : Option Nat :=
  ((List.range 8).map (fun w => fdbBucket vid mac * 8 + w)).find? (fun i => !t.has i && !keep i)

/-- Whether an address is a group address: the I/G bit of its first octet (07 R277). -/
def groupMac (mac : Nat) : Bool := bit mac 40

end Sys2Proof.Machine
end

