-- ==== Sys2Proof/Machine/Frames.lean ====
section
/-! DEFINITION. Operations over the frames that the module holds: the frame table, the end of a copy and what follows from
it, the bobbins, tags, the edits of a transmitting MAC and transmission times (06 R218, R225 to R228, R244 to R247, R629;
09 R351, R367; 17 R597 to R599). -/

namespace Sys2Proof.Machine

open Sys2Proof

/-! ### The frame table -/

/-- The frame `id`. -/
def State.frame (s : State) (id : Nat) : Option Frame := Tbl.find id s.frames

/-- A frame changed. -/
def State.modFrame (id : Nat) (f : Frame → Frame) (s : State) : State :=
  match s.frame id with
  | none => s
  | some x => { s with frames := Tbl.ins id (f x) s.frames }

/-- A frame added under the next identifier, last in its queue. -/
def State.addFrame (f : Frame) (s : State) : State :=
  { s with frames := Tbl.ins s.nextId { f with order := s.nextId } s.frames, nextId := s.nextId + 1 }

/-- A frame moved to a stage, last in that stage's queue. -/
def State.place (id : Nat) (st : Stage) (s : State) : State :=
  { (s.modFrame id (fun f => { f with stage := st, order := s.nextId })) with nextId := s.nextId + 1 }

/-- A frame gone from the module. -/
def State.dropFrame (id : Nat) (s : State) : State := { s with frames := Tbl.del id s.frames }

/-- A frame put into a list kept in queue order. -/
def insertByOrder (x : Nat × Frame) : List (Nat × Frame) → List (Nat × Frame)
  | [] => [x]
  | y :: t => if x.2.order < y.2.order then x :: y :: t else y :: insertByOrder x t

/-- The frames that `p` names, in the order of their queues. -/
def State.framesBy (s : State) (p : Frame → Bool) : List (Nat × Frame) :=
  (s.frames.filter (fun x => p x.2)).foldl (fun l x => insertByOrder x l) []

/-- The first frame that `p` names. -/
def State.firstBy (s : State) (p : Frame → Bool) : Option (Nat × Frame) :=
  s.frames.foldl (fun best x =>
    if p x.2 then
      match best with
      | none => some x
      | some b => if x.2.order < b.2.order then some x else some b
    else best) none

/-- The port whose egress a copy is bound for, where one is known. -/
def Dest.egressPort : Dest → Option Nat
  | .port p => some p
  | .mask _ [p] => some p
  | _ => Option.none

/-- How many fates a copy carries: one for each port of a node copy not yet split (08 R334). -/
def Frame.copies (f : Frame) : Nat :=
  match f.dest with
  | .mask _ ps => ps.length
  | _ => 1

/-- The node of an output (00 R10; 08 R337 for rings). -/
def Dest.node : Dest → Nat
  | .port p => nodeOf p
  | .mask n _ => n
  | .recirc => 35
  | _ => 34

/-- The input node of a copy: its ingress port's, N35 on a later pass, N34 for a mirror copy. -/
def Frame.inNode (f : Frame) : Nat :=
  if f.pass > 1 then 35 else nodeOf f.port

/-- The queue port of a copy's head and ingress queue: its ingress port, or 273 on a later pass (07 R290). -/
def Frame.qport (f : Frame) : Nat := if f.pass > 1 then 273 else f.port

/-! ### Egress registers -/

/-- Frames of a port's class queue, oldest first. -/
def State.classQ (s : State) (p c : Nat) : List (Nat × Frame) :=
  s.framesBy (fun f => f.stage == .egress && f.dest.egressPort == some p && f.tc == c)

/-- EGR_PORT_STATUS.NONEMPTY and EGR_QUEUED of a port, from its queues (09 R376). -/
def State.updEgress (p : Nat) (s : State) : State :=
  if 272 ≤ p then s
  else
    let fs := s.frames.filter (fun x => x.2.stage == .egress && x.2.dest.egressPort == some p)
    let ne := (List.range 8).foldl (fun m c => m + (if fs.any (fun x => x.2.tc == c) then 2 ^ c else 0)) 0
    let bytes := fs.foldl (fun n x => n + x.2.len) 0
    (s.set (F.EGR_PORT_STATUS_NONEMPTY p) ne).set (F.EGR_QUEUED_UNITS p) ((bytes + 63) / 64)

/-! ### Bobbins (06 R245 to R248) -/

/-- A bobbin's level shown; below 48 its overflow episode ends. -/
def State.bobbinShow (p : Nat) (s : State) : State :=
  let n := (s.bobbins.getD p []).length
  let s := if n < 48 then { s with bobbinEp := s.bobbinEp.filter (fun q => q != p) } else s
  if p ≤ 272 then s.set (F.MAC_BOBBIN_LEVEL p) n else s

/-- An entry for a bobbin, added as the pick cycle ends. -/
def State.bobbinAdd (p : Nat) (e : BobbinEntry) (s : State) : State := { s with bobbinNow := s.bobbinNow ++ [(p, e)] }

/-- An entry added to a bobbin, or discarded and counted when 64 are present. -/
def State.bobbinPut (p : Nat) (e : BobbinEntry) (s : State) : State :=
  let q := s.bobbins.getD p []
  if q.length < 64 then
    ({ s with bobbins := Tbl.ins p (q ++ [e]) s.bobbins }).bobbinShow p
  else
    let s := s.bump (F.MAC_BOBBIN_LOST p) 1
    if s.bobbinEp.contains p then s
    else ({ s with bobbinEp := s.bobbinEp ++ [p] }).raise .mac 0 p

/-- The bobbins' evaluation once per pick cycle: what was drained in it is free, and its new entries are added (06 R247). -/
def State.bobbinFlush (s : State) : State := ({ s with bobbinNow := [] }).forEach s.bobbinNow (fun x => State.bobbinPut x.1 x.2)

/-- 06 R246: the entries of a copy with TS_REQ that ends unsent. -/
def State.bobbinUnsent (f : Frame) (code : Nat) (s : State) : State :=
  match f.tsId with
  | none => s
  | some t =>
    let ps := match f.dest with
      | .port p => [p]
      | .mask _ ps => ps
      | _ => [272]
    s.forEach ps (fun p => State.bobbinAdd (if f.port = 274 then 274 else p)
      { tsId := t, time := ct s.nt, notSent := some code, degraded := s.degraded })

/-! ### The end of a copy -/

/-- 04 R145: the completion of a FRAME_TX command, with its fate when the frame ended before it left N34. -/
def State.completeTx (cmd : Nat × Nat × Nat) (fate : Option Nat) (time : Nat) (s : State) : State :=
  match s.accepted.find? (fun c => c.begun && c.key == cmd) with
  | none => s
  | some c =>
    ({ s with accepted := s.accepted.erase c }).completeEra c.era c.sub.ring
      { status := 0, sqIndex := c.sub.index, result := if fate.isSome then rFrameEnded else rOk,
        cflags := s.cflags c.late false fate.isSome, tag := c.sub.tag, time := BitVec.ofNat 64 time,
        q1 := BitVec.ofNat 64 (fate.getD 0), q2 := 0 }

/-- A copy ends with a fate: one for each of its port copies, with the bobbin entry of R246 and the completion of R145. -/
def State.endFrame (id code : Nat) (s : State) : State :=
  match s.frame id with
  | none => s
  | some f =>
    let s := s.dropFrame id
    let s := match f.stage, f.dest with
      | .ring, .ring q => s.rxPop q id
      | _, _ => s
    let s := s.forEach (List.range f.copies) (fun _ => State.fate f.port code)
    let s := s.bobbinUnsent f code
    let s := match f.cmd with
      | none => s
      | some c => s.completeTx c (some code) (if f.stage = .unread then s.nt else f.readAt)
    match f.dest.egressPort with
    | some p => s.updEgress p
    | none => s

/-- Every copy that `p` names ends with one fate. -/
def State.endFrames (p : Frame → Bool) (code : Nat) (s : State) : State :=
  s.forEach (s.framesBy p) (fun x => State.endFrame x.1 code)

/-! ### Tags (06 R225, R226) -/

/-- Whether a TPID is a tag's. -/
def isTpid (sTpid v : Nat) : Bool := v == 0x8100 || v == sTpid

/-- The number of tags at the head of a frame, at most `n`. -/
def tagCount (sTpid : Nat) (l : List Byte) : Nat → Nat
  | 0 => 0
  | n + 1 =>
    let k := tagCount sTpid l n
    if k = n ∧ isTpid sTpid (beAt l (12 + 4 * n) 2) then n + 1 else k

/-- The offset of an R-TAG that follows at most two tags. -/
def rtagAt (sTpid : Nat) (l : List Byte) : Option Nat :=
  let o := 12 + 4 * tagCount sTpid l 2
  if beAt l o 2 = 0xF1C1 ∧ o + 8 ≤ l.length then some o else none

/-- The offset of the EtherType after the tags. -/
def etherAt (sTpid : Nat) (l : List Byte) : Nat :=
  match rtagAt sTpid l with
  | some o => o + 6
  | none => 12 + 4 * tagCount sTpid l 2

/-- A port's MAC_TAG.S_TPID, as its own tags are recognised. -/
def State.sTpid (s : State) (p : Nat) : Nat := s.get (F.MAC_TAG_S_TPID p)

/-- The VID and PRIO (PCP, DEI, TAGGED) of a frame received on a port. -/
def State.vidPrio (s : State) (p : Nat) (l : List Byte) : Nat × Nat :=
  let tpid := if s.on (F.MAC_TAG_VLAN_TYPE p) then s.sTpid p else 0x8100
  let pvid := s.get (F.MAC_TAG_PVID p)
  if beAt l 12 2 = tpid then
    let tci := beAt l 14 2
    let v := tci % 4096
    (if v = 0 then pvid else v, tci / 8192 + 8 * bits tci 12 1 + 16)
  else (pvid, 0)

/-! ### PTP event messages (06 R244) -/

/-- Where a PTP message begins, over UDP on destination port `port`, with the offset of the UDP header and whether it is
IPv6. -/
def ptpOn (port sTpid : Nat) (l : List Byte) : Option (Nat × Option (Nat × Bool)) :=
  let e := etherAt sTpid l
  let et := beAt l e 2
  let ip := e + 2
  if et = 0x88F7 then some (ip, none)
  else if et = 0x0800 ∧ byteAt l (ip + 9) = 17 then
    let u := ip + byteAt l ip % 16 * 4
    if beAt l (u + 2) 2 = port then some (u + 8, some (u, false)) else none
  else if et = 0x86DD ∧ byteAt l (ip + 6) = 17 then
    let u := ip + 40
    if beAt l (u + 2) 2 = port then some (u + 8, some (u, true)) else none
  else none

/-- A PTP event message: UDP port 319. -/
def ptpAt : Nat → List Byte → Option (Nat × Option (Nat × Bool)) := ptpOn 319

/-- Bytes of `l` from `i` replaced by `v`. -/
def patch (l : List Byte) (i : Nat) (v : List Byte) : List Byte := l.take i ++ v ++ l.drop (i + v.length)

/-- A correctionField with `d` added: 0x7FFF_FFFF_FFFF_FFFF on overflow, of either sign. -/
def addCorrection (l : List Byte) (p : Nat) (d : Int) : List Byte :=
  let c := toInt 64 (beAt l (p + 8) 8) + d
  patch l (p + 8) (beBytes 8 (if c ≥ 2 ^ 63 ∨ c < -(2 ^ 63) then 2 ^ 63 - 1 else ofInt 64 c))

/-- The UDP checksum after the payload changed from `o` to `l`: 0 over IPv4 where it was nonzero, kept correct over IPv6. -/
def fixUdp (o l : List Byte) : Option (Nat × Bool) → List Byte
  | none => l
  | some (u, false) => if beAt l (u + 6) 2 = 0 then l else patch l (u + 6) [0, 0]
  | some (u, true) =>
    let n := beAt l (u + 4) 2
    let fold := fun v => v % 65535
    let hc := 65535 - beAt o (u + 6) 2
    let v := fold (hc + 65535 - onesSum (o.drop (u + 8)) 0 (n - 8) + onesSum (l.drop (u + 8)) 0 (n - 8))
    patch l (u + 6) (beBytes 2 (65535 - v))

/-- 06 R244: the one-step rewrite of a frame leaving port `p0` with ONE_STEP `mode` at transmit time `t`, and whether it applied. -/
def oneStep (sTpid mode p0 inPort tin t : Nat) (l : List Byte) : List Byte × Bool :=
  match ptpAt sTpid l with
  | none => (l, false)
  | some (p, u) =>
    let ours := inPort == 272 || inPort == 274
    if mode = 0 ∨ mode = 3 ∨ byteAt l p % 16 > 3 ∨ inPort = p0 then (l, false)
    else if !ours then (fixUdp l (addCorrection l p (ctDiff (ct t) (ct tin))) u, true)
    else if mode = 2 ∧ byteAt l p % 16 = 0 ∧ !bit (byteAt l (p + 6)) 1 then
      let l' := patch l (p + 34) (beBytes 6 (t / sec) ++ beBytes 4 (t % sec / ns))
      (fixUdp l (addCorrection l' p (t % ns : Nat)) u, true)
    else (l, false)

/-- 13 R513: as a transparent clock, the residence time of a two-step Sync that left port `p` unrewritten is remembered, and
added to the correctionField of the matching Follow_Up. A Follow_Up without a match goes on unchanged at once and is counted when 10 ms have
passed (log entry 88). -/
def State.tcStep (p : Nat) (f : Frame) (l : List Byte) (one : Bool) (s : State) : List Byte × State :=
  if f.port = 272 ∨ f.port = 274 ∨ !s.on F.PTP_CLOCK_CFG_TC_ONLY ∨ !s.groomUp then (l, s)
  else
    match (ptpAt (s.sTpid p) l).or (ptpOn 320 (s.sTpid p) l) with
    | none => (l, s)
    | some (i, u) =>
      let src := (l.drop (i + 20)).take 10
      let seq := beAt l (i + 30) 2
      if byteAt l i % 16 = 0 ∧ bit (byteAt l (i + 6)) 1 ∧ !one then
        (l, { s with tcSyncs := ({ src := src, seq := seq, out := p, res := (f.txAt : Int) - f.tin, at0 := s.elapsed } :: s.tcSyncs).take 64 })
      else if byteAt l i % 16 = 8 then
        match s.tcSyncs.find? (fun x => x.src == src && x.seq == seq && x.out == p && decide (s.elapsed ≤ x.at0 + 10 * ms)) with
        | some x => (fixUdp l (addCorrection l i x.res) u, { s with tcSyncs := s.tcSyncs.erase x })
        | none => (l, { s with tcMiss := s.tcMiss ++ [(p, s.elapsed)] })
      else (l, s)

/-! ### Transmit edits (06 R218, R228; 09 R367, R371) -/

/-- The tag control word a port inserts for a frame. -/
def Frame.tci (f : Frame) : Nat :=
  f.setPcp.getD f.tc % 8 * 8192 + f.setDei.getD 0 % 2 * 4096 + f.setVid.getD f.vid % 4096

/-- The bytes of a copy as port `p` transmits it, but for the one-step rewrite: R-TAG removal, TX_TAG, R-TAG insertion,
padding. -/
def State.txEdit (s : State) (p : Nat) (f : Frame) : List Byte :=
  let st := s.sTpid p
  let l := f.data
  let l := if f.rtagRem then
      match rtagAt st l with
      | some o => l.take o ++ l.drop (o + 6)
      | none => l
    else l
  let l := match s.get (F.MAC_TAG_TX_TAG p) with
    | 1 => if isTpid st (beAt l 12 2) then l.take 12 ++ l.drop 16 else l
    | 2 => l.take 12 ++ beBytes 2 0x8100 ++ beBytes 2 f.tci ++ l.drop 12
    | 3 => l.take 12 ++ beBytes 2 st ++ beBytes 2 f.tci ++ l.drop 12
    | _ => l
  let l := if f.rtagIns then
      let o := 12 + 4 * tagCount st l 3
      l.take o ++ beBytes 2 0xF1C1 ++ beBytes 2 0 ++ beBytes 2 (f.rtag.getD 0) ++ l.drop o
    else l
  l ++ List.replicate (60 - l.length) 0

/-- 06 R629: the length that a frame of `n` bytes, with the edits that `f` meets, has as port `p` transmits it. -/
def State.editedLen (s : State) (p : Nat) (f : Frame) (n : Nat) : Nat := (s.txEdit p f).length + n - f.data.length

/-- L of a copy as port `p` transmits it: a frame still arriving counts its ingress port's MAX_FRAME, FCS included (06 R214, R222). -/
def State.txLen (s : State) (p : Nat) (f : Frame) : Nat :=
  if f.whole then (s.txEdit p f).length + 4 else s.editedLen p f f.maxFrame

/-- 06 R629: the time of `n` bytes on a port, in units of 2^-16 ns, rounded up. -/
def State.byteTime (s : State) (p n : Nat) : Nat :=
  let r := s.portGbps p
  (n * 8 * ns + r - 1) / r

/-- 06 R629: a copy's transmission time. -/
def State.txTime (s : State) (p : Nat) (f : Frame) : Nat := s.byteTime p (s.txLen p f + 8)

/-- Traffic counters of port_traffic (17 R602). -/
def State.traffic (p i n : Nat) (s : State) : State := s.count 1 p i n

/-- A port's STOMP counter of a cause: FCS, oversize, PCS, underrun (4) or internal (3). -/
def stompCtr (cause : Nat) : Nat := match cause with | 0 => 9 | 1 => 10 | 2 => 11 | 4 => 12 | _ => 13

/-! ### The port going down (05 R208) -/

/-- Frames received, transmitted or queued for a port that goes down. A cut-through frame being received ends stomped
downstream (06 R217). -/
def State.portDownFrames (p : Nat) (s : State) : State :=
  let rx := fun f : Frame => f.port == p && !f.whole && f.pass == 1 && f.stage != .unread
  let s := { s with frames := s.frames.map (fun (x : Nat × Frame) =>
    if rx x.2 && x.2.cut then (x.1, { x.2 with whole := true, len := x.2.arrived, bad := some 2 }) else x) }
  let s := s.forEach (s.framesBy rx) (fun (x : Nat × Frame) s =>
    let s := if x.2.inLedger then s else s.enter p
    s.endFrame x.1 0x13)
  let s := s.endFrames (fun (f : Frame) => f.dest.egressPort == some p &&
    (f.stage == .sending || f.stage == .egress || f.stage == .launch || f.stage == .admission)) 0x31
  s.updEgress p

end Sys2Proof.Machine
end

