-- ==== Sys2Proof/Machine/Links.lean ====
section
/-! DEFINITION. What follows when the link of a port changes: the frames of a port that goes down (05 R208), its KPL state
(13 R495, R509), the transmit clock's fall-back (05 R188) and the by-pass keep waves (02 R57 to R60). -/

namespace Sys2Proof.Machine

open Sys2Proof

/-! ### KPL link states (13 R495, R509) -/

/-- KPL states of KPL_STATUS. -/
def kplOff : Nat := 0
def kplWaitLink : Nat := 1
def kplWaitPeer : Nat := 2
def kplRunning : Nat := 3
def kplSuspended : Nat := 4

/-- A KPL port's state. -/
def State.kplState (s : State) (p : Nat) : Nat := s.get (F.KPL_STATUS_STATE p)

/-- The running state of a KPL port. -/
def State.kplPort (s : State) (p : Nat) : KplPort := s.kpl.getD p {}

/-- The running state of a KPL port changed. -/
def State.modKpl (p : Nat) (f : KplPort → KplPort) (s : State) : State :=
  { s with kpl := Tbl.put {} p (f (s.kplPort p)) s.kpl }

/-- A KPL port put into a state. Leaving RUNNING stops its MARKs; entering it, MISSED is 0. -/
def State.setKpl (p st : Nat) (s : State) : State :=
  let s := s.set (F.KPL_STATUS_STATE p) st
  if st = kplRunning then (s.set (F.KPL_STATUS_MISSED p) 0).modKpl p (fun k => { k with wait := [], missRow := 0 })
  else s.modKpl p (fun k => { k with wait := [] })

/-- 13 R495: the port runs 50GbE or faster with RS(544,514), and its lanes have CLK_SYNC. -/
def State.kplAble (s : State) (p : Nat) : Bool :=
  decide (p < 272) && s.leadOf p == p && decide (50 ≤ s.portGbps p) && s.on (F.LANE_CFG_CLK_SYNC p)

/-- 13 R495, R509: the conditions of a link: R495's first two, every lane UP with marker lock. -/
def State.kplLink (s : State) (p : Nat) : Bool :=
  s.kplAble p && (s.lanesOf p).all (fun n => s.lane n == lnUp && s.on (F.LANE_STATUS_AM_LOCK n))

/-- 13 R509: the peer advertises KPL_ENABLED and CLK_SYNC. -/
def State.kplPeerOk (s : State) (p : Nat) : Bool :=
  match (s.kplPort p).peer with
  | some k => k.enabled && k.sync
  | none => false

/-- 13 R509: a KPL port's state follows its enable, the role, its link, its clock and its peer. -/
def State.kplEval (p : Nat) (s : State) : State :=
  if !s.on (F.KPL_PORT_CFG_ENABLE p) || s.get F.TIME_STATUS_ROLE == 0 then
    s.when (s.kplState p != kplOff) (State.setKpl p kplOff)
  else
    let s := s.when (s.kplState p == kplOff) (State.setKpl p kplWaitLink)
    let s := s.when (!s.kplLink p && s.kplState p != kplWaitLink) (State.setKpl p kplWaitLink)
    let s := s.when (s.kplState p == kplWaitLink && s.kplLink p) (State.setKpl p kplWaitPeer)
    let fb := s.on (F.LANE_STATUS_CLK_FALLBACK p)
    let s := s.when (fb && (s.kplState p == kplWaitPeer || s.kplState p == kplRunning)) (State.setKpl p kplSuspended)
    let s := s.when (!fb && s.kplState p == kplSuspended) (State.setKpl p kplWaitPeer)
    s.when (s.kplState p == kplWaitPeer && s.kplPeerOk p) (State.setKpl p kplRunning)

/-! ### By-pass keep waves (02 R57 to R60) -/

/-- A bit of pair `n` in a by-pass register's field group. -/
def bpBit (a base n : Nat) : Fld := ⟨a, base + n, 1⟩

/-- The two ports of a pair's map. -/
def State.bpPorts (s : State) (n : Nat) : Nat × Nat :=
  (s.get ⟨R.PWR_BP_MAP0 + 4 * n, 0, 9⟩, s.get ⟨R.PWR_BP_MAP0 + 4 * n, 16, 9⟩)

/-- 02 R57: the map of a pair is valid: distinct optical port IDs, each the lowest lane of its port. -/
def State.bpMapOk (s : State) (n : Nat) : Bool :=
  let (a, b) := s.bpPorts n
  a != b && decide (a < 256) && decide (b < 256) && s.leadOf a == a && s.leadOf b == b

/-- Either port of a pair has no link. -/
def State.bpNoLink (s : State) (n : Nat) : Bool :=
  let (a, b) := s.bpPorts n
  !s.portUp a || !s.portUp b

/-- 02 R57: whether the wave of a pair is driven. -/
def State.bpDriven (s : State) (n : Nat) : Bool :=
  s.run && s.supply == .on && s.on (bpBit R.PWR_BP_CTRL 0 n) && s.bpMapOk n && !s.on (bpBit R.PWR_BP_STATUS 4 n)

/-- One pair: MAP_ERROR (02 R58), KEEP_ACTIVE, and its hold timer (02 R59). -/
def State.updPair (n : Nat) (s : State) : State :=
  let bad := s.on (bpBit R.PWR_BP_CTRL 0 n) && !s.bpMapOk n
  let was := s.on (bpBit R.PWR_BP_STATUS 8 n)
  let s := s.setB (bpBit R.PWR_BP_STATUS 8 n) bad
  let s := s.when (bad && !was) (fun s => s.event 0x0110 n (s.rd R.PWR_BP_STATUS).toNat)
  let drive := s.bpDriven n
  let s := s.setB (bpBit R.PWR_BP_STATUS 0 n) drive
  if drive && s.on (bpBit R.PWR_BP_CTRL 4 n) && s.bpNoLink n then s.startOnce (.bpHold n) else s.stop (.bpHold n)

/-- Every pair. -/
def State.updKeep (s : State) : State := s.forEach (List.range 4) State.updPair

/-! ### Link changes -/

/-- 05 R185: a lane's transmitter is to run from SYN1's lane reference: CLK_SYNC of the lane that it takes it from (R174). -/
def State.syncMode (s : State) (n : Nat) : Bool := s.on (F.LANE_CFG_CLK_SYNC (s.lineLane n))

/-- 05 R185, R188: a lane's transmitter runs from SYN1's lane reference; else from XO_SPARE. -/
def State.onSyn1 (s : State) (n : Nat) : Bool := s.syncMode n && !s.on (F.LANE_STATUS_CLK_FALLBACK n)

/-- 05 R188: CLK_FALLBACK of a synchronous lane from SYN1's loss of lock to its return. -/
def State.updFallback (n : Nat) (s : State) : State :=
  let fb := s.syncMode n && (s.on F.SYN_STATUS_SAFE1 || s.on ⟨R.SYN_STATUS, 5, 1⟩)
  let was := s.on (F.LANE_STATUS_CLK_FALLBACK n)
  let s := s.setB (F.LANE_STATUS_CLK_FALLBACK n) fb
  s.when (fb && !was) (State.raise .lane 5 n)

/-- 05 R188; 13 R509: every lane's source and KPL state follow SYN1. -/
def State.laneSources (s : State) : State := (s.forEach (List.range 272) State.updFallback).forEach (List.range 272) State.kplEval

/-- The ports whose lanes share the configuration of lane group `g` (an engine, or eight board lanes). -/
def groupPorts (g : Nat) : List Nat := ((List.range 8).map (fun i => 8 * g + i)).filter (fun p => decide (p < 272))

/-- A change to lanes of group `g`, with what follows for its ports: those that go down, KPL, the keep waves. -/
def State.linkChange (g : Nat) (f : State → State) (s : State) : State :=
  let up := (groupPorts g).filter (fun p => s.portUp p)
  let s := f s
  let s := s.forEach (up.filter (fun p => !s.portUp p)) State.portDownFrames
  let s := s.forEach (groupPorts g) State.kplEval
  s.updKeep

end Sys2Proof.Machine
end

