-- ==== Sys2Proof/Machine/Store.lean ====
section
/-! DEFINITION. Chapter 3, the tack room: commit records and slots (R107 to R113), the boot ledger (R105, R106), the FRAM window (R118),
and the commands that write an image (04 R155). -/

namespace Sys2Proof.Machine

open Sys2Proof

/-! ### Commit records (03 R109 to R112) -/

/-- The store's kinds. -/
def knImage : Nat := 1
def knCal : Nat := 2
def knCfg : Nat := 3

/-- A slot's data. -/
def State.slotData (s : State) (kind slot : Nat) : SlotData := s.nor.getD (kind * 2 + slot) {}

/-- 03 R107: the place of a slot in the NOR flash, and its size. -/
def norBase (kind slot : Nat) : Nat := if kind = 1 then 0x20000 + slot * 0x3000000 else if kind = 2 then 0x6020000 + slot * 0x400000 else 0x6820000 + slot * 0x800000
def slotSize (kind : Nat) : Nat := norBase kind 1 - norBase kind 0

/-- The 60 bytes of a commit record that its CRC covers. -/
def CommitRec.body (kind : Nat) (r : CommitRec) : List Byte :=
  leBytes 2 0x4B52 ++ leBytes 1 kind ++ leBytes 1 r.slot ++ leBytes 4 r.seq ++ leBytes 4 r.length ++ leBytes 4 r.crc ++
    leBytes 4 r.ledgerSeq ++ leBytes 1 (b2n r.suspect) ++ List.replicate 39 0

/-- The 64 bytes of a commit record. -/
def CommitRec.bytes (kind : Nat) (r : CommitRec) : List Byte := r.body kind ++ leBytes 4 r.check

/-- A commit record with its CRC. -/
def CommitRec.sealed (kind : Nat) (r : CommitRec) : CommitRec := { r with check := crc32 (r.body kind) }

/-- The module's serial, which the spec does not give: a free value (log entry 3). -/
def partSerial : Nat := (Config.freeValue 560 0).toNat % 2 ^ 32

/-- 15 R560: a slot's data is this module's: calibration data of another module, or with a count out of range, is treated as invalid. -/
def dataOurs (kind : Nat) (l : List Byte) : Bool :=
  kind != knCal || (leAt l 0 2 == 0x434C && leAt l 4 4 == partSerial && decide (1 ≤ leAt l 2 2 ∧ leAt l 2 2 ≤ 302))

/-- 03 R111: the commit record of copy `c` of a kind, where its CRC and that of its data check, and the data are this module's. -/
def State.commitAt (s : State) (kind c : Nat) : Option CommitRec :=
  match Tbl.find (kind * 2 + c) s.commits with
  | some r =>
    let d := s.slotData kind r.slot
    if crc32 (r.body kind) == r.check && d.good && d.data.length == r.length && crc32 d.data == r.crc && dataOurs kind d.data then some r else none
  | none => none

/-- 03 R101: the slot of a kind found by the NOR's layout header, while the FRAM is not used. What the header says the spec does not give: the
slot and its SEQ are a free value (log entry 3). -/
def State.norFinds (s : State) (kind : Nat) : Option (Nat × CommitRec) :=
  let v := (Config.freeValue 101 kind).toNat
  let d := s.slotData kind (v % 2)
  if s.norHdr % 4 ≠ 0 ∧ d.good then
    some (0, { slot := v % 2, seq := v / 2 % 2 ^ 32, length := d.data.length, crc := crc32 d.data, ledgerSeq := 0 })
  else none

/-- 03 R111: the newest valid commit record of a kind, with its copy. -/
def State.newest (s : State) (kind : Nat) : Option (Nat × CommitRec) :=
  if s.ledgerOff then s.norFinds kind
  else match s.commitAt kind 0, s.commitAt kind 1 with
    | some a, some b => if seqNewer 32 b.seq a.seq then some (1, b) else some (0, a)
    | some a, none => some (0, a)
    | none, some b => some (1, b)
    | none, none => none

/-- 03 R119: NVS_IMG, NVS_CAL or NVS_CFG shown. -/
def State.showKind (kind : Nat) (s : State) : State :=
  let a := R.NVS_IMG + 4 * (kind - 1)
  let sus := fun slot => b2n ((s.commits.filter (fun x => x.1 / 2 == knImage && x.2.suspect && x.2.slot == slot)).length != 0)
  let w := (match s.newest kind with
    | some (_, r) => 1 + 2 * r.slot + r.seq % 4096 * 16
    | none => 0) + (if kind = knImage then 4 * sus 0 + 8 * sus 1 else 0)
  s.wr a (BitVec.ofNat 32 w)

/-- 03 R103: whether an image slot is marked suspect. -/
def State.suspect (s : State) (slot : Nat) : Bool := s.commits.any (fun x => x.1 / 2 == knImage && x.2.slot == slot && x.2.suspect)

/-- The suspect mark of an image slot set or cleared. -/
def State.setSuspect (slot : Nat) (on : Bool) (s : State) : State :=
  ({ s with commits := s.commits.map (fun (x : Nat × CommitRec) =>
      if x.1 / 2 = knImage ∧ x.2.slot = slot then (x.1, { x.2 with suspect := on : CommitRec }.sealed knImage) else x) }).showKind knImage

/-! ### Store writes (03 R110, R112, R113) -/

/-- NVS_STATUS.BUSY. -/
def State.storeBusy (s : State) : Bool := s.job.isSome

/-- A store write is to be made: the slot not named by the newest valid commit of its kind, slot 0 where none is valid. Its data is written
once the arbiter has taken the request (16 R576). -/
def State.storeStart (kind : Nat) (data : List Byte) (apply : Bool) (c : Cmd) (s : State) : State :=
  let slot := match s.newest kind with
    | some (_, r) => 1 - r.slot
    | none => 0
  { (s.set F.NVS_STATUS_BUSY 1) with
    job := some { kind := kind, slot := slot, data := data, apply := apply, sub := some c } }

/-- 03 R113, 16 R576: the arbiter takes a store request with LEDGER_SEQ `n` from complex `b`: from the leader alone, and none that is committed
or in progress. -/
def State.storeTakes (s : State) (leader b : Bool) (n : Nat) : Bool :=
  leader == b && !s.commits.any (fun x => x.2.ledgerSeq == n) &&
    (match s.job with
     | some j => j.ledgerSeq.isNone
     | none => false)

/-- The write of a request that the arbiter has taken begins: its slot is no longer whole (03 R110, R112). -/
def State.storeBegin (n : Nat) (s : State) : State :=
  match s.job with
  | some j => { s with
      job := some { j with ledgerSeq := some n }
      nor := Tbl.ins (j.kind * 2 + j.slot) { data := j.data, good := false } s.nor }
  | none => s

/-- A store write ends: BUSY clears, and STORE rises with its event. -/
def State.storeEnd (j : StoreJob) (ok : Bool) (s : State) : State :=
  let s := ({ s with job := none }).set F.NVS_STATUS_BUSY 0
  let s := s.setB F.NVS_STATUS_LAST_FAIL (!ok)
  if ok then
    let n := match s.newest j.kind with
      | some (_, r) => r.seq
      | none => 0
    s.event 0x0300 j.kind (j.slot + n % 65536 * 65536)
  else s.event 0x0301 j.kind rStoreFail

/-- The command of a store write completes. -/
def State.storeComplete (j : StoreJob) (code time q1 : Nat) (s : State) : State :=
  match j.sub with
  | some c => s.finish (fun x => x.op == c.op && x.sub == c.sub) code time q1 0
  | none => s

/-- 03 R110: the data of a write read back well: its commit record goes into the copy that does not hold the newest commit. LEDGER_SEQ `n` is
that of the store request (16 R576). -/
def State.storeCommit (j : StoreJob) (n : Nat) (s : State) : State :=
  let (copy, seq) := match s.newest j.kind with
    | some (c, r) => (1 - c, (r.seq + 1) % 2 ^ 32)
    | none => (0, 1)
  let r : CommitRec :=
    { slot := j.slot, seq := seq, length := j.data.length, crc := crc32 j.data, ledgerSeq := n }
  ({ s with
    nor := Tbl.ins (j.kind * 2 + j.slot) { data := j.data, good := true } s.nor
    commits := Tbl.ins (j.kind * 2 + copy) (r.sealed j.kind) s.commits }).showKind j.kind

/-! ### The boot ledger (03 R101, R105, R106) -/

/-- The 28 bytes of a ledger record that its CRC covers. -/
def LedgerRec.body (r : LedgerRec) : List Byte :=
  leBytes 4 r.seq ++ leBytes 4 r.boot ++ leBytes 1 r.step ++ leBytes 1 r.outcome ++ leBytes 1 r.fallback ++
    leBytes 1 r.cause ++ leBytes 4 r.ntSec ++ leBytes 4 r.uptime ++ leBytes 4 r.detail ++ leBytes 4 0

/-- The 32 bytes of a ledger record. -/
def LedgerRec.bytes (r : LedgerRec) : List Byte := r.body ++ leBytes 4 r.check

/-- 03 R106: the ledger's records whose CRC checks, by place; the others are as absent. -/
def State.ledgerValid (s : State) : Tbl LedgerRec := s.ledger.filter (fun x => decide (x.1 < 1920) && crc32 x.2.body == x.2.check)

/-- 03 R106: the ledger head, with its place: the valid record with the newest SEQ. -/
def State.ledgerTop (s : State) : Option (Nat × LedgerRec) :=
  s.ledgerValid.foldl (fun m x =>
    match m with
    | none => some x
    | some y => if seqNewer 32 x.2.seq y.2.seq then some x else some y) none

/-- The newest ledger record. -/
def State.ledgerHead (s : State) : Option LedgerRec := s.ledgerTop.map (fun x => x.2)

/-- A record appended to the ledger: it takes the place after the head's, its SEQ follows, and BOOT is this boot's. The first record of a ledger
takes place 0 (DESIGN CHOICE, log entry 61). -/
def State.ledgerPut (r : LedgerRec) (s : State) : State :=
  let (k, seq) := match s.ledgerTop with
    | some (p, h) => ((p + 1) % 1920, (h.seq + 1) % 2 ^ 32)
    | none => (0, 1)
  let r : LedgerRec := { r with seq := seq, boot := s.bootNo }
  ({ s with ledger := Tbl.ins k { r with check := crc32 r.body } s.ledger }).wr R.NVS_LEDGER_HEAD (BitVec.ofNat 32 seq)

/-- A ledger record of this boot, `up` microseconds after the release of AON. Until the FRAM is open (release order 3) it waits; while the
ledger is off it is not written. -/
def State.ledgerAdd (step outcome detail up : Nat) (s : State) : State :=
  let r : LedgerRec :=
    { seq := 0, boot := 0, step := step, outcome := outcome, fallback := s.get F.RST_BOOT_FALLBACK, cause := s.bootCause,
      ntSec := if s.timeSet then s.nt / sec % 2 ^ 32 else 0, uptime := up % 2 ^ 32, detail := detail % 2 ^ 32 }
  if s.ledgerOff then s
  else if s.order < 3 then { s with early := s.early ++ [r] }
  else s.ledgerPut r

/-- 03 R108, R118: the word of the FRAM window at byte offset `o`. What the header and unwritten places hold the spec does not give: free
values (log entry 3). -/
def State.framWord (s : State) (o : Nat) : Word :=
  let blank := BitVec.ofNat 32 (Config.freeValue 108 o).toNat
  if 0x100 ≤ o ∧ o < 0x280 then
    let k := (o - 0x100) / 64
    match Tbl.find (2 + k) s.commits with
    | some r => BitVec.ofNat 32 (leAt (r.bytes (1 + k / 2)) ((o - 0x100) % 64) 4)
    | none => blank
  else if 0x1000 ≤ o then
    match Tbl.find ((o - 0x1000) / 32) s.ledger with
    | some r => BitVec.ofNat 32 (leAt r.bytes (o % 32) 4)
    | none => blank
  else blank

/-! ### IMAGE_WRITE and IMAGE_CLEAR (04 R155; 03 R103; 18 R626) -/

/-- Whether a command is one of the three that write the store. -/
def State.storeRefuses (s : State) : Bool := s.storeBusy

/-- IMAGE_WRITE. The image is the block; a slot holds 48 MiB (03 R107). -/
def specImageWrite : CmdSpec where
  cls := clsMgmt
  block := true
  takesAt := false
  p0 := 0
  first := onAccept
  check d _ := if d.len = 0 ∨ slotSize knImage < d.len then rBadParam else rOk
  act c s :=
    if s.storeRefuses || s.on F.GROOM_STATUS_HANDOVER then (s, .done rBusy 0 0)
    else (s.storeStart knImage c.sub.bytes false c, .wait)

/-- IMAGE_WRITE stores a firmware image in the other slot. -/
def execImageWrite (d : Submission) (s : State) : Host.Outcome State Fault Refusal := .next (specImageWrite.take 0x45 true d s)

/-- IMAGE_CLEAR. -/
def specImageClear : CmdSpec where
  cls := clsMgmt
  block := false
  takesAt := false
  p0 := 1
  p1 := 0
  p2 := 0
  first := onAccept
  check _ _ := rOk
  act c s := (s.setSuspect (c.sub.P0 0 1) false, .done rOk 0 0)

/-- IMAGE_CLEAR clears the suspect mark of an image slot. -/
def execImageClear (d : Submission) (s : State) : Host.Outcome State Fault Refusal := .next (specImageClear.take 0x46 true d s)

end Sys2Proof.Machine
end

