-- ==== Sys2Proof/Machine/Lanes.lean ====
section
/-! DEFINITION. Chapter 5: the lane state machine (R180), the engine state machine (R209), laser inputs and ramps
(R199 to R201), optical monitoring (R202), and LANE_SET and ENGINE_SET (R204 to R207). -/

namespace Sys2Proof.Machine

open Sys2Proof

/-! ### Lanes (05 R180) -/

/-- 05 R209: engine states. -/
def oeOff : Nat := 0
def oeStarting : Nat := 1
def oeReady : Nat := 2
def oeNoLight : Nat := 3
def oeFault : Nat := 4
def oeShutdown : Nat := 5

/-- An engine's state. -/
def State.oe (s : State) (k : Nat) : Nat := s.get (F.OE_STATUS_STATE k)

/-- 05 R180: the lane's domain is released and, for an optical lane, its engine is READY. -/
def State.laneMayRun (s : State) (n : Nat) : Bool :=
  !s.heldDomain 6 && !s.elemHeld.contains (.lanes, n) && (decide (256 ≤ n) || s.oe (n / 8) == oeReady)

/-- 05 R191: the peaking codes that the registers of an optical lane ask for; codes above 24 act as 24. -/
def State.eqAsked (s : State) (n : Nat) : Nat × Nat := (min 24 (s.get (F.LANE_EQ_CTLE_RX n)), min 24 (s.get (F.LANE_EQ_CTLE_TX n)))

/-- `a` on its way to `b`, `k` steps on. -/
def towards (a b k : Nat) : Nat := if a ≤ b then min b (a + k) else max b (a - k)

/-- 05 R191: the peaking codes in use: a change is applied at one code step per µs. -/
def State.eqNow (s : State) (n : Nat) : Nat × Nat :=
  let to0 := s.eqAsked n
  match Tbl.find n s.eqMoves with
  | none => to0
  | some m => (towards m.rx to0.1 ((s.elapsed - m.from0) / us), towards m.tx to0.2 ((s.elapsed - m.from0) / us))

/-- LANE_EQ_STATUS.CTLE_CODE of an optical lane that runs follows the code in use. -/
def State.eqShow (n : Nat) (s : State) : State :=
  s.when (decide (n < 256) && decide (s.lane n ≠ lnDown ∧ s.lane n < lnFault)) (State.set (F.LANE_EQ_STATUS_CTLE_CODE n) (s.eqNow n).1)

/-- Registers written by `f`, with the peaking codes of lane `n` on their way from those in use. -/
def State.eqChange (n : Nat) (f : State → State) (s : State) : State :=
  let was := s.eqNow n
  let s := f s
  if n < 256 ∧ s.eqAsked n ≠ was then { s with eqMoves := Tbl.ins n { rx := was.1, tx := was.2, from0 := s.elapsed } s.eqMoves }
  else { s with eqMoves := Tbl.del n s.eqMoves }

/-- At a pick cycle: peaking codes that move (05 R191). -/
def State.eqMoveAll (s : State) : State :=
  s.forEach s.eqMoves (fun x s =>
    let s := s.eqShow x.1
    if s.eqNow x.1 = s.eqAsked x.1 then { s with eqMoves := Tbl.del x.1 s.eqMoves } else s)

/-- 05 R192: what a lane's receiver has adapted to: an optical lane's peaking is its code in use; DFE_FREEZE holds a board lane's settings. -/
def State.eqAdapt (n eq : Nat) (s : State) : State :=
  let w := BitVec.ofNat 32 eq &&& 0x00FF1FFF#32
  if n < 256 then (s.wr (R.LANE_EQ_STATUS n) w).eqShow n
  else s.when (!s.on (F.LANE_EQ_DFE_FREEZE (s.lineLane n))) (State.wr (R.LANE_EQ_STATUS n) w)

/-- 05 R192: a board lane's receiver starts from its defaults, which the spec does not give: a free value (log entry 3). -/
def State.eqDefaults (n : Nat) (s : State) : State :=
  if n < 256 then s.eqShow n
  else
    let (v, s) := s.free 18
    s.wr (R.LANE_EQ_STATUS n) (BitVec.ofNat 32 v &&& 0x00FF1FFF#32)

/-- 03 R100: the peaking codes that the stored calibration gives lane `n`, loaded as the lane's domain or its engine starts. Where none is
stored the codes stay as they are. -/
def State.trimLoad (n : Nat) (s : State) : State :=
  match s.newest knCal with
  | none => s
  | some (_, r) =>
    let l := (s.slotData knCal r.slot).data
    match (List.range (min 302 (leAt l 2 2))).find? (fun e => leAt l (64 + 16 * e) 2 == n) with
    | some e =>
      let v := leAt l (64 + 16 * e + 4) 8
      s.eqChange n (fun s => (s.set (F.LANE_EQ_CTLE_RX n) (v % 32)).set (F.LANE_EQ_CTLE_TX n) (v / 256 % 32))
    | none => s

/-- A lane put into a state without lock: its timers stop, its port is no longer deskewed, a receiver that acquires starts from its defaults;
leaving UP is a LINK_DOWN. -/
def State.laneTo (n st : Nat) (s : State) : State :=
  let was := s.lane n
  let s := (s.stop (.laneHold n)).stop (.laneAcquire n)
  let s := (((s.set (F.LANE_STATUS_STATE n) st).set (F.LANE_STATUS_BLOCK_LOCK n) 0).set (F.LANE_STATUS_AM_LOCK n) 0).set
    (F.LANE_STATUS_TAP_VALID n) 0
  let p := s.leadOf n
  let s : State := { s with deskewed := s.deskewed.filter (fun x => x != p) }
  let s := s.when (st == lnAcquire) (fun s => (s.start (.laneAcquire n)).eqDefaults n)
  s.when (was == lnUp) (fun s => (s.count 2 n 7 1).raise .lane 1 n)

/-- A lane follows its configuration: turned off when not enabled, held DOWN with CFG_ERROR when invalid, acquiring when
it may. -/
def State.laneCheck (n : Nat) (s : State) : State :=
  let st := s.lane n
  if st = lnRetired ∨ s.heldDomain 6 then s
  else if !s.on (F.LANE_CFG_ENABLE n) then
    (s.when (st != lnDown) (State.laneTo n lnDown)).set (F.LANE_STATUS_CFG_ERROR n) 0
  else if st = lnFault then s
  else if !s.laneValid n then
    (s.when (st != lnDown) (State.laneTo n lnDown)).set (F.LANE_STATUS_CFG_ERROR n) 1
  else
    let s := s.set (F.LANE_STATUS_CFG_ERROR n) 0
    if !s.laneMayRun n then s.when (st != lnDown) (State.laneTo n lnDown)
    else s.when (st == lnDown) (State.laneTo n lnAcquire)

/-- A lane that runs is taken down and follows its configuration afresh. -/
def State.laneRestart (n : Nat) (s : State) : State :=
  let st := s.lane n
  (s.when (st == lnAcquire || st == lnHold || st == lnUp) (State.laneTo n lnDown)).laneCheck n

/-- The lanes of group `g`. -/
def groupLanes (g : Nat) : List Nat := groupPorts g

/-- 05 R180, R622: a reset of one lane: its live state at reset, its configuration kept, a delay that moves left where it is (15 R554), its trims
loaded (03 R100). A RETIRED lane returns to
DOWN as well (log entry 77). -/
def State.resetLane (n : Nat) (s : State) : State :=
  s.linkChange (n / 8) (fun s =>
    let s := s.laneTo n lnDown
    let s := ((s.set (F.LANE_STATUS_FEC_DEGRADED n) 0).set (F.LANE_STATUS_CFG_ERROR n) 0).wr (R.LANE_EQ_STATUS n) 0
    let s : State := { s with calMoves := Tbl.del n s.calMoves }
    (s.when (decide (n < 256)) (State.trimLoad n)).laneCheck n)

/-- A lane's locks: block lock, and marker lock where its rate has markers, which needs block lock. On a lane with RS-FEC marker lock brings
codeword synchronisation (05 R177). -/
def State.setLocks (n : Nat) (block marker : Bool) (s : State) : State :=
  let a := block && marker && s.hasMarkers n
  ((s.setB (F.LANE_STATUS_BLOCK_LOCK n) block).setB (F.LANE_STATUS_AM_LOCK n) a).setB (F.LANE_STATUS_TAP_VALID n) (block && s.lane n != lnDown)

/-- Whether a lane has every lock of its rate (05 R180). -/
def State.locked (s : State) (n : Nat) : Bool :=
  s.on (F.LANE_STATUS_BLOCK_LOCK n) && (s.on (F.LANE_STATUS_AM_LOCK n) || !s.hasMarkers n)

/-- Whether a lane acquires, holds or is up. -/
def State.laneRuns (s : State) (n : Nat) : Bool := s.lane n == lnAcquire || s.lane n == lnHold || s.lane n == lnUp

/-- LANE_LOCK_GAINED: a lane gains block lock or marker lock, and the PCS may have deskewed its port; a lane in ACQUIRE with every lock of its
rate starts its hold timer (05 R175, R177, R180). -/
def execLaneLockGained (n : Nat) (l : LockGain) (s : State) : Host.Outcome State Fault Refusal :=
  if n < 272 ∧ s.laneRuns n then
    .next (s.linkChange (n / 8) (fun s =>
      let s := s.setLocks n (l.block || s.on (F.LANE_STATUS_BLOCK_LOCK n)) (l.marker || s.on (F.LANE_STATUS_AM_LOCK n))
      let p := s.leadOf n
      let s : State := if l.deskew && s.locked n then { s with deskewed := s.deskewed.filter (fun x => x != p) ++ [p] } else s
      let s := s.eqAdapt n l.eq
      if s.lane n = lnAcquire ∧ s.locked n then ((s.stop (.laneAcquire n)).start (.laneHold n)).set (F.LANE_STATUS_STATE n) lnHold else s))
  else .next s

/-- LINK_UP_HOLD_EXPIRY: the hold timer expires with lock held; the lane goes UP (05 R180, R181). -/
def execLinkUpHoldExpiry (n : Nat) (s : State) : Host.Outcome State Fault Refusal :=
  if n < 272 ∧ s.lane n = lnHold ∧ s.ran (.laneHold n) (max 1 (s.get (F.LANE_CFG_LINK_UP_HOLD_MS n)) * ms) then
    .next (s.linkChange (n / 8) (fun s => ((s.stop (.laneHold n)).set (F.LANE_STATUS_STATE n) lnUp).raise .lane 0 n))
  else .next s

/-- 06 R217: the bytes received before a loss of lock of the frame that port `p` is receiving. -/
def State.cutShort (p : Nat) (rx : List Byte) (s : State) : State :=
  { s with frames := s.frames.map (fun (x : Nat × Frame) =>
      if x.2.port == p && !x.2.whole && x.2.pass == 1 && x.2.stage != .unread && decide (x.2.arrived ≤ rx.length) then
        (x.1, { x.2 with data := rx.take x.2.maxFrame, arrived := min rx.length x.2.maxFrame })
      else x) }

/-- LANE_LOCK_LOST: a lane loses block lock, and marker lock with it, or marker lock alone; from HOLD or UP it returns to ACQUIRE, its port going
down (05 R177, R180). -/
def execLaneLockLost (l : LockLoss) (s : State) : Host.Outcome State Fault Refusal :=
  let n := l.lane
  if n < 272 ∧ s.laneRuns n ∧ (l.block ∨ s.hasMarkers n) then
    let keep := s.on (F.LANE_STATUS_BLOCK_LOCK n) && !l.block
    .next ((s.cutShort (s.leadOf n) l.rx).linkChange (n / 8) (fun s =>
      (s.when (s.lane n != lnAcquire) (State.laneTo n lnAcquire)).setLocks n keep false))
  else .next s

/-- LANE_ACQUIRE_TIMEOUT: 500 ms without lock; acquisition restarts and the failure is counted (05 R180). -/
def execLaneAcquireTimeout (n : Nat) (s : State) : Host.Outcome State Fault Refusal :=
  if n < 272 ∧ s.lane n = lnAcquire ∧ s.ran (.laneAcquire n) (500 * ms) then
    .next ((s.start (.laneAcquire n)).count 2 n 6 1)
  else .next s

/-- SERDES_FAULT: a PLL unlocked for 1 ms or a failed self-test puts the lane into FAULT (05 R180). -/
def execSerdesFault (n : Nat) (s : State) : Host.Outcome State Fault Refusal :=
  if n < 272 ∧ s.lane n ≠ lnRetired ∧ s.lane n ≠ lnFault then
    .next (s.linkChange (n / 8) (fun s => (s.laneTo n lnFault).raise .lane 2 n))
  else .next s

/-- LPI_RECEIVED: low-power idle is treated as idle and sets LPI_SEEN (05 R194). -/
def execLpiReceived (n : Nat) (s : State) : Host.Outcome State Fault Refusal :=
  if n < 272 ∧ s.on (F.LANE_STATUS_BLOCK_LOCK n) then .next (s.raise .lane 6 n) else .next s

/-- 05 R173, R176: whether a lane's rate uses RS-FEC. -/
def State.rsFec (s : State) (n : Nat) : Bool := s.hasMarkers n

/-- FEC_DEGRADED_SET: the corrected-symbol ratio over 10 ms exceeds 1e-4 (05 R179). -/
def execFecDegradedSet (n : Nat) (s : State) : Host.Outcome State Fault Refusal :=
  if n < 272 ∧ s.rsFec n ∧ s.on (F.LANE_STATUS_BLOCK_LOCK n) ∧ !s.on (F.LANE_STATUS_FEC_DEGRADED n) then
    .next ((s.set (F.LANE_STATUS_FEC_DEGRADED n) 1).raise .lane 3 n)
  else .next s

/-- FEC_DEGRADED_CLEAR: the ratio has stayed below 5e-5 for 100 ms (05 R179). -/
def execFecDegradedClear (n : Nat) (s : State) : Host.Outcome State Fault Refusal :=
  if n < 272 then .next (s.set (F.LANE_STATUS_FEC_DEGRADED n) 0) else .next s

/-- 05 R190: synchronous mode at both ends of a lane's port: the peer's is the flag that its KPL messages carry (log entry 79). -/
def State.bothSync (s : State) (n : Nat) : Bool :=
  s.onSyn1 n && (match (s.kplPort (s.leadOf n)).peer with
    | some k => k.sync
    | none => false)

/-- ELASTIC_SLIP: an elastic store inserts or deletes an idle block, counted, and SYNC_SLIP on a lane synchronous at both ends
(05 R189, R190). -/
def execElasticSlip (n : Nat) (ins : Bool) (s : State) : Host.Outcome State Fault Refusal :=
  if n < 272 then
    let s := s.count 2 n (if ins then 4 else 5) 1
    .next (s.when (s.bothSync n) (State.raise .lane 4 n))
  else .next s

/-! ### LANE_SET (05 R175, R186, R193, R204 to R207) -/

/-- LANE_SET's block form, lane range, and CONFIGURE's values. -/
def laneBlockOk (action : Nat) (d : Submission) : Bool :=
  let n := d.P0 0 9
  let cfg := d.le 4 4
  let eq := d.le 8 4
  d.b 0 == action && zeroBytes d.bytes 1 3 && d.len == 16 && decide (n ≤ 271) &&
    (action != 0 ||
      (d.regsOk 4 [R.LANE_CFG 0, R.LANE_EQ 0, R.LANE_PRBS 0] && bits cfg 9 2 != 3 &&
        (decide (n < 256) || (decide (bits cfg 1 3 ≤ 3) && decide (bits eq 16 4 + bits eq 20 5 ≤ 32)))))

/-- A LANE_CFG word as lane `n` holds it: RATE of an optical lane is not written (05 R211). -/
def State.laneCfgWord (s : State) (n cfg : Nat) : Nat :=
  if n < 256 then setBits cfg 1 3 (s.get (F.LANE_CFG_RATE n)) else cfg

/-- The bits of LANE_CFG that change the rate, the FEC or the grouping of a board lane; FEC_25 is ignored but at 25GbE (05 R211). -/
def lineBits (n cfg : Nat) : Nat :=
  if n < 256 then 0 else bits cfg 1 3 + (if bits cfg 1 3 = 1 then 8 * bits cfg 4 1 else 0) + 16 * bits cfg 6 1

/-- LANE_SET's checks. -/
def laneCheckSet (action : Nat) (d : Submission) (s : State) : Nat :=
  let n := d.P0 0 9
  if !laneBlockOk action d then rBadParam
  else if action = 0 ∧ s.leadOf n ≠ n then
    let old := (s.rd (R.LANE_CFG n)).toNat
    let new := s.laneCfgWord n (d.le 4 4)
    if bits old 1 6 ≠ bits new 1 6 then rBadPort else rOk
  else rOk

/-- A lane's three configuration registers written, by LANE_SET or before RUN. -/
def State.laneConfigure (n cfg eq prbs : Nat) (s : State) : State :=
  s.linkChange (n / 8) (fun s =>
    let old := (s.rd (R.LANE_CFG n)).toNat
    let new := s.laneCfgWord n cfg
    let q := if n < 256 then [n] else (List.range 4).map (fun i => n / 4 * 4 + i)
    let s := s.when (s.get (F.LANE_PRBS_CHECK n) == 0 && bits prbs 2 2 != 0) (State.wr (R.LANE_PRBS_ERR n) 0)
    let s := s.eqChange n (fun s =>
      ((s.wr (R.LANE_CFG n) (BitVec.ofNat 32 new)).wr (R.LANE_EQ n) (BitVec.ofNat 32 eq)).wr (R.LANE_PRBS n) (BitVec.ofNat 32 prbs))
    let group := bits old 6 1 != bits new 6 1 || s.grouped ((n - 256) / 4)
    let s := if lineBits n old ≠ lineBits n new then
        s.forEach (if decide (256 ≤ n) && group then q else [n]) State.laneRestart
      else s.forEach q State.laneCheck
    s.forEach q State.updFallback)

/-- 05 R174, R186: a lane that KPL or a reference slot uses, or one that takes its CLK_SYNC from it. -/
def State.laneTimed (s : State) (n : Nat) : Bool :=
  (n :: (s.lanesOf n).filter (fun m => s.lineLane m == n)).any (fun m => s.on (F.KPL_PORT_CFG_ENABLE m) ||
    (List.range 8).any (fun r => s.on (F.DPLL_REF_CFG_ENABLE r) && s.get (F.DPLL_REF_CFG_LANE r) == m))

/-- LANE_SET's action (05 R180, R186, R206, R207). RESET sets no bit of RST_CAUSE (log entry 77). -/
def laneAct (action : Nat) (c : Cmd) (s : State) : State × Answer :=
  let d := c.sub
  let n := d.P0 0 9
  let st := s.lane n
  let ok := fun s : State => (s, Answer.done rOk (s.lane n) 0)
  let refuse := (s, Answer.done rState st 0)
  match action with
  | 0 =>
    let off := s.on (F.LANE_CFG_CLK_SYNC n) && !bit (d.le 4 4) 5
    if off && s.laneTimed n then refuse else ok (s.laneConfigure n (d.le 4 4) (d.le 8 4) (d.le 12 4))
  | 1 => if st = lnRetired then refuse else ok (s.resetLane n)
  | 2 =>
    if st = lnRetired then refuse
    else (s.linkChange (n / 8) (fun s =>
      s.when (st == lnAcquire || st == lnHold || st == lnUp) (State.laneTo n lnAcquire)), .wait)
  | 3 =>
    if st = lnRetired then refuse
    else
      let s := s.linkChange (n / 8) (State.laneTo n lnRetired)
      ok ((s.attn (2 ^ 10)).event 0x0502 n (s.rd (R.LANE_STATUS n)).toNat)
  | _ =>
    if st ≠ lnRetired then refuse
    else ok (s.linkChange (n / 8) (fun s => (s.laneTo n lnDown).laneCheck n))

/-- LANE_SET with one ACTION. -/
def specLane (action : Nat) : CmdSpec where
  cls := clsMgmt
  block := true
  p0 := 0x1FF
  first := onPick
  check := laneCheckSet action
  act := laneAct action

/-- LANE_SET CONFIGURE writes a lane's LANE_CFG, LANE_EQ and LANE_PRBS (05 R204). -/
def execLaneSetConfigure (d : Submission) (s : State) : Host.Outcome State Fault Refusal :=
  .next ((specLane 0).take 0x41 true d s)

/-- LANE_SET RESET resets a lane, which returns to DOWN (05 R180). -/
def execLaneSetReset (d : Submission) (s : State) : Host.Outcome State Fault Refusal :=
  .next ((specLane 1).take 0x41 true d s)

/-- LANE_SET READAPT restarts adaptation or the peaking search of a lane (05 R206). -/
def execLaneSetReadapt (d : Submission) (s : State) : Host.Outcome State Fault Refusal :=
  .next ((specLane 2).take 0x41 true d s)

/-- LANE_SET RETIRE turns a lane's transmitter off and retires it (05 R180). -/
def execLaneSetRetire (d : Submission) (s : State) : Host.Outcome State Fault Refusal :=
  .next ((specLane 3).take 0x41 true d s)

/-- LANE_SET RETURN returns a retired lane to DOWN (05 R180). -/
def execLaneSetReturn (d : Submission) (s : State) : Host.Outcome State Fault Refusal :=
  .next ((specLane 4).take 0x41 true d s)

/-- A READAPT command of lane `n`. -/
def isReadapt (n : Nat) (c : Cmd) : Bool := c.op == 0x41 && c.sub.P0 0 9 == n && c.sub.b 0 == 2

/-- READAPT_DONE: a READAPT search ends with peaking codes, held in LANE_EQ of an optical lane; its command completes
(05 R206). -/
def execReadaptDone (n rx tx : Nat) (s : State) : Host.Outcome State Fault Refusal :=
  if s.accepted.any (fun c => c.begun && isReadapt n c) then
    let s := s.when (decide (n < 256)) (fun s =>
      s.eqChange n (fun s => (s.set (F.LANE_EQ_CTLE_RX n) (min rx 24)).set (F.LANE_EQ_CTLE_TX n) (min tx 24)))
    .next (s.finish (isReadapt n) rOk s.nt (s.lane n) 0)
  else .next s

/-! ### Engines (05 R199 to R202, R209; 02 R75) -/

/-- An input of an engine: LSA, or LSB where `b`. -/
def laserPresent (k : Nat) (b : Bool) : Fld := if b then F.OE_STATUS_LSB_PRESENT k else F.OE_STATUS_LSA_PRESENT k
def laserDrained (k : Nat) (b : Bool) : Fld := if b then F.OE_STATUS_LSB_DRAINED k else F.OE_STATUS_LSA_DRAINED k

/-- An input is in use: present and not drained. -/
def State.inUse (s : State) (k : Nat) (b : Bool) : Bool := s.on (laserPresent k b) && !s.on (laserDrained k b)

/-- The lanes of an engine go to DOWN (05 R209); a retired lane stays as it is (R180). -/
def State.oeLanesDown (k : Nat) (s : State) : State :=
  s.forEach (groupLanes k) (fun n s => s.when (s.lane n != lnDown && s.lane n != lnRetired) (State.laneTo n lnDown))

/-- An engine put into a state; its lanes run only in READY. Starting, it loads its trims (05 R209; 03 R100). -/
def State.oeTo (k st : Nat) (s : State) : State :=
  s.linkChange k (fun s =>
    let s := (s.set (F.OE_STATUS_STATE k) st).stop (.engineStart k)
    let s := s.when (st == oeStarting) (fun s => (s.forEach (groupLanes k) State.trimLoad).start (.engineStart k))
    if st = oeReady then s.forEach (groupLanes k) State.laneCheck else s.oeLanesDown k)

/-- 05 R209: an engine's OTS is below 75 °C. -/
def State.oeCool (s : State) (k : Nat) : Bool := decide (s.getI (F.OE_TEMP_OTS k) < 600)

/-- 05 R209: an enabled engine starts before RUN or at boot. -/
def State.oeBoot (k : Nat) (s : State) : State :=
  s.when (s.oe k == oeOff && s.on (F.OE_CFG_ENABLE k) && s.oeCool k && !s.heldDomain 7 && !s.elemHeld.contains (.engines, k)) (State.oeTo k oeStarting)

/-- 05 R209: READY with no input in use becomes NO_LIGHT; NO_LIGHT with one becomes READY. The PORT_FAULT of the first row is that of the loss
that took the last input, whose event is LSA_LOST or LSB_LOST (R199; 04 R144). -/
def State.oeLight (k : Nat) (s : State) : State :=
  let lit := s.inUse k false || s.inUse k true
  if s.oe k = oeReady ∧ !lit then s.oeTo k oeNoLight
  else if s.oe k = oeNoLight ∧ lit then s.oeTo k oeReady
  else s

/-- ENGINE_SELF_TEST_DONE: a starting engine's self-test ends (05 R209). -/
def execEngineSelfTestDone (k : Nat) (ok : Bool) (s : State) : Host.Outcome State Fault Refusal :=
  if k < 32 ∧ s.oe k = oeStarting ∧ !s.elemHeld.contains (.engines, k) then
    if ok then .next (s.oeTo k (if s.inUse k false || s.inUse k true then oeReady else oeNoLight))
    else .next ((s.oeTo k oeFault).raise .oe 4 k)
  else .next s

/-- ENGINE_START_TIMEOUT: 500 ms in STARTING puts an engine into FAULT (05 R209). -/
def execEngineStartTimeout (k : Nat) (s : State) : Host.Outcome State Fault Refusal :=
  if k < 32 ∧ s.oe k = oeStarting ∧ !s.elemHeld.contains (.engines, k) ∧ s.ran (.engineStart k) (500 * ms) then .next ((s.oeTo k oeFault).raise .oe 4 k)
  else .next s

/-- PWR_TEMP.OE_MAX from every engine's reading (02 R54). -/
def State.updOeMax (s : State) : State :=
  s.setI F.PWR_TEMP_OE_MAX ((List.range 32).foldl (fun m k => max m (s.getI (F.OE_TEMP_OTS k))) (s.getI (F.OE_TEMP_OTS 0)))

/-- ENGINE_SHUTDOWN_TRIP: an engine's OTS reaches its trip, of at least 88 °C; that engine alone is powered down (02 R71, R75). -/
def execEngineShutdownTrip (k : Nat) (ots : Int) (s : State) : Host.Outcome State Fault Refusal :=
  if k < 32 ∧ 704 ≤ ots ∧ (s.oe k = oeStarting ∨ s.oe k = oeReady ∨ s.oe k = oeNoLight) then
    let s := (s.setI (F.OE_TEMP_OTS k) ots).updOeMax
    .next (((s.oeTo k oeShutdown).raise .pwr 3 k).raise .oe 5 k)
  else .next s

/-- A drain or restore of one input: DRAIN_LSA 4, DRAIN_LSB 5, RESTORE_LSA 6, RESTORE_LSB 7. -/
def isRamp (k : Nat) (b : Bool) (c : Cmd) : Bool :=
  c.op == 0x42 && c.sub.P0 0 5 == k && (c.sub.b 0 == 4 + b2n b || c.sub.b 0 == 6 + b2n b)

/-- The ramp under way on an input. -/
def State.ramp? (s : State) (k : Nat) (b : Bool) : Option Cmd := s.accepted.find? (fun c => c.begun && isRamp k b c)

/-- A drain (action 4 or 5). -/
def isDrain (c : Cmd) : Bool := c.sub.b 0 == 4 || c.sub.b 0 == 5

/-- An input's ramp begins where a drain or restore waits: a drain at once, a restore once the input is present. -/
def State.rampStart (k : Nat) (b : Bool) (s : State) : State :=
  match s.ramp? k b with
  | some c => if isDrain c || s.on (laserPresent k b) then s.startOnce (.ramp k b) else s
  | none => s

/-- A ramp ends with a result; the next one on that input begins. -/
def State.rampEnd (k : Nat) (b : Bool) (code : Nat) (s : State) : State :=
  let s := (s.stop (.ramp k b)).finish (isRamp k b) code s.nt (s.oe k) 0
  s.rampStart k b

/-- 05 R201: the ramp of an input is reversed where the other input is lost during it: its drained mark clears, and its command completes with
STATE. -/
def State.rampReverse (k : Nat) (b : Bool) (s : State) : State :=
  if (s.ramp? k b).isSome && (s.timer (.ramp k b)).isSome then (s.set (laserDrained k b) 0).rampEnd k b rState else s

/-- LASER_INPUT_LOST: an input falls below 12.0 dBm (05 R199). Lost during a ramp of the other, it reverses that ramp
(05 R201); a restore ramp of the lost input waits for its return. -/
def execLaserInputLost (k : Nat) (b : Bool) (s : State) : Host.Outcome State Fault Refusal :=
  if k < 32 ∧ s.on (laserPresent k b) then
    let used := s.inUse k b
    let s := s.set (laserPresent k b) 0
    let s := match s.ramp? k b with
      | some c => if isDrain c then s else s.stop (.ramp k b)
      | none => s.stop (.ramp k b)
    if used then .next (((s.raise .oe (b2n b) k).rampReverse k (!b)).oeLight k)
    else .next s
  else .next s

/-- LASER_INPUT_RETURN: an input has stayed above 14.0 dBm for 100 ms; undrained, it is ramped back into use over 10 ms (05 R200). -/
def execLaserInputReturn (k : Nat) (b : Bool) (s : State) : Host.Outcome State Fault Refusal :=
  if k < 32 ∧ !s.on (laserPresent k b) then
    let s := s.set (laserPresent k b) 1
    let s := s.rampStart k b
    if s.on (laserDrained k b) then .next s else .next (((s.startOnce (.ramp k b)).raise .oe (2 + b2n b) k).oeLight k)
  else .next s

/-- LASER_RAMP_DONE: a ramp has run its 10 ms: a drain marks its input drained, a restore puts it back in use (05 R201), as an automatic return
does (R200). -/
def execLaserRampDone (k : Nat) (b : Bool) (s : State) : Host.Outcome State Fault Refusal :=
  if !s.ran (.ramp k b) (10 * ms) then .next s
  else match s.ramp? k b with
    | some c =>
      if isDrain c then .next (((s.set (laserDrained k b) 1).oeLight k).rampEnd k b rOk)
      else
        let was := s.on (laserDrained k b)
        let s := s.set (laserDrained k b) 0
        .next (((s.when was (State.raise .oe (2 + b2n b) k)).oeLight k).rampEnd k b rOk)
    | none => .next (s.stop (.ramp k b))

/-- One lane power of an engine against its threshold: low, with a recovery of 1.0 dB (05 R202). -/
def State.lanePower (k l : Nat) (rx : Bool) (v : Int) (s : State) : State :=
  let key := k * 16 + l * 2 + b2n rx
  let lim := s.getI (if rx then F.OE_ALARM_RX_LOW_CDBM k else F.OE_ALARM_TX_LOW_CDBM k)
  let was := s.oeLow.contains key
  if !s.on (F.LANE_CFG_ENABLE (8 * k + l)) ∨ (was ∧ lim + 100 ≤ v) then
    { s with oeLow := s.oeLow.filter (fun x => x != key) }
  else if !was ∧ v < lim then
    let s := { s with oeLow := s.oeLow ++ [key] }
    (s.set (if rx then F.OE_STATUS_RX_LOW k else F.OE_STATUS_TX_LOW k) 1).raise .oe (if rx then 6 else 7) k
  else s

/-- OPTICAL_MONITOR_UPDATE: every 1 ms an engine measures its laser inputs, OTS and lane powers (05 R202). `pw` gives lanes
0 to 7 as (transmit, receive) in 0.01 dBm. -/
def execOpticalMonitorUpdate (k : Nat) (lsa lsb ots : Int) (pw : List (Int × Int)) (s : State) :
    Host.Outcome State Fault Refusal :=
  if k < 32 then
    let s := ((s.setI (F.OE_LASER_LSA_CDBM k) lsa).setI (F.OE_LASER_LSB_CDBM k) lsb).setI (F.OE_TEMP_OTS k) ots
    let s := s.forEach (List.range 8) (fun l s =>
      let v := pw.getD l (0, 0)
      let s := (s.setI (F.OE_LANE_PWR_TX_CDBM k l) v.1).setI (F.OE_LANE_PWR_RX_CDBM k l) v.2
      (s.lanePower k l true v.2).lanePower k l false v.1)
    let low := fun rx : Bool => s.oeLow.any (fun x => x / 16 == k && x % 2 == b2n rx)
    .next ((s.setB (F.OE_STATUS_RX_LOW k) (low true)).setB (F.OE_STATUS_TX_LOW k) (low false)).updOeMax
  else .next s

/-! ### ENGINE_SET (05 R171, R172, R205 to R207) -/

/-- OE_CFG of an engine written: the lanes of the pairs that change mode restart, with those of an 800GbE port that they leave or form (05 R172). -/
def State.oeConfigure (k cfg : Nat) (s : State) : State :=
  s.linkChange k (fun s =>
    let old := (s.rd (R.OE_CFG k)).toNat
    let s := s.wr (R.OE_CFG k) (BitVec.ofNat 32 cfg)
    let moved := (List.range 4).filter (fun p => modeIn old p != modeIn cfg p)
    let joined := fun c p => modeIn c p == 3 && pairValid c p
    let half := fun p : Nat => if joined old p || joined cfg p then [p / 2 * 2, p / 2 * 2 + 1] else [p]
    let ps := (moved.map half).flatten.eraseDups
    let s := s.forEach ps (fun p s => (s.laneRestart (8 * k + 2 * p)).laneRestart (8 * k + 2 * p + 1))
    s.forEach (groupLanes k) State.laneCheck)

/-- ENGINE_SET's checks: the block, and CONFIGURE's OE_CFG under R171. -/
def engineCheck (action : Nat) (d : Submission) : Nat :=
  if d.b 0 == action && zeroBytes d.bytes 1 3 && d.len == 8 &&
      (action != 0 || (d.regsOk 4 [R.OE_CFG 0] && modesValid (d.le 4 4))) then rOk
  else rBadParam

/-- 05 R200, R201: an input is in use and no ramp brings it in still. -/
def State.drawn (s : State) (k : Nat) (b : Bool) : Bool := s.inUse k b && ((s.ramp? k b).isSome || (s.timer (.ramp k b)).isNone)

/-- ENGINE_SET's action (05 R201, R206, R207, R209). RESET sets no bit of RST_CAUSE (log entry 77). -/
def engineAct (action : Nat) (c : Cmd) (s : State) : State × Answer :=
  let k := c.sub.P0 0 5
  let st := s.oe k
  let ok := fun s : State => (s, Answer.done rOk (s.oe k) 0)
  let refuse := (s, Answer.done rState st 0)
  let begin_ := fun (b : Bool) (s : State) => (s.when (s.ramp? k b).isNone
    (fun s => if isDrain c || s.on (laserPresent k b) then s.start (.ramp k b) else s), Answer.wait)
  match action with
  | 0 => ok (s.oeConfigure k (c.sub.le 4 4))
  | 1 =>
    if !s.oeCool k then refuse
    else if st = oeOff ∨ st = oeFault ∨ st = oeShutdown then ok (s.oeTo k oeStarting)
    else ok s
  | 2 => ok (s.when (st != oeOff) (State.oeTo k oeOff))
  | 3 =>
    if st = oeShutdown then refuse
    else ok (s.when (st == oeReady || st == oeNoLight || st == oeFault) (State.oeTo k oeStarting))
  | 4 => if s.drawn k true then begin_ false s else refuse
  | 5 => if s.drawn k false then begin_ true s else refuse
  | 6 => begin_ false s
  | _ => begin_ true s

/-- ENGINE_SET with one ACTION. -/
def specEngine (action : Nat) : CmdSpec where
  cls := clsMgmt
  block := true
  p0 := 0x1F
  first := onPick
  check d _ := engineCheck action d
  act := engineAct action

/-- 05 R622: a reset of one engine, as ENGINE_SET RESET. -/
def State.resetEngine (k : Nat) (s : State) : State :=
  let st := s.oe k
  s.when (st == oeReady || st == oeNoLight || st == oeFault) (State.oeTo k oeStarting)

/-- ENGINE_SET CONFIGURE writes OE_CFG and changes pair modes (05 R205). -/
def execEngineSetConfigure (d : Submission) (s : State) : Host.Outcome State Fault Refusal :=
  .next ((specEngine 0).take 0x42 true d s)

/-- ENGINE_SET POWER_UP powers an engine on and starts it (05 R209). -/
def execEngineSetPowerUp (d : Submission) (s : State) : Host.Outcome State Fault Refusal :=
  .next ((specEngine 1).take 0x42 true d s)

/-- ENGINE_SET POWER_DOWN takes an engine's lanes down and powers it off (05 R209). -/
def execEngineSetPowerDown (d : Submission) (s : State) : Host.Outcome State Fault Refusal :=
  .next ((specEngine 2).take 0x42 true d s)

/-- ENGINE_SET RESET restarts an engine from STARTING (05 R209). -/
def execEngineSetReset (d : Submission) (s : State) : Host.Outcome State Fault Refusal :=
  .next ((specEngine 3).take 0x42 true d s)

/-- ENGINE_SET DRAIN_LSA ramps the LSA input out over 10 ms (05 R201). -/
def execDrainLsa (d : Submission) (s : State) : Host.Outcome State Fault Refusal :=
  .next ((specEngine 4).take 0x42 true d s)

/-- ENGINE_SET DRAIN_LSB ramps the LSB input out over 10 ms (05 R201). -/
def execDrainLsb (d : Submission) (s : State) : Host.Outcome State Fault Refusal :=
  .next ((specEngine 5).take 0x42 true d s)

/-- ENGINE_SET RESTORE_LSA ramps the LSA input back in once present (05 R201). -/
def execRestoreLsa (d : Submission) (s : State) : Host.Outcome State Fault Refusal :=
  .next ((specEngine 6).take 0x42 true d s)

/-- ENGINE_SET RESTORE_LSB ramps the LSB input back in once present (05 R201). -/
def execRestoreLsb (d : Submission) (s : State) : Host.Outcome State Fault Refusal :=
  .next ((specEngine 7).take 0x42 true d s)

/-! ### BYPASS_SET (02 R55, R59, R60) -/

/-- BYPASS_SET PAIR. -/
def specBypassPair : CmdSpec where
  cls := clsMgmt
  block := true
  p0 := 0x3
  first := onPick
  check d _ :=
    if d.form 0 16 && d.regsOk 8 [R.PWR_BP_MAP0] && d.b 12 / 4 == 0 && zeroBytes d.bytes 13 3 then rOk else rBadParam
  act c s :=
    let d := c.sub
    let n := d.P0 0 2
    let en := bit (d.b 12) 0
    let s := (s.wr (R.PWR_BP_MAP0 + 4 * n) (BitVec.ofNat 32 (d.le 8 4))).setB (bpBit R.PWR_BP_CTRL 0 n) en
    let s := (s.setB (bpBit R.PWR_BP_CTRL 4 n) (bit (d.b 12) 1)).set (bpBit R.PWR_BP_STATUS 8 n) 0
    let s := s.when en (fun s => (s.set (bpBit R.PWR_BP_STATUS 4 n) 0).stop (.bpHold n))
    (s.updKeep, .done rOk 0 0)

/-- BYPASS_SET HOLD. -/
def specBypassHold : CmdSpec where
  cls := clsMgmt
  block := true
  p0 := 0xF
  first := onPick
  check d _ := if d.P0 0 4 == 15 && d.form 1 12 && d.regsOk 8 [R.PWR_BP_HOLD] then rOk else rBadParam
  act c s := (s.wr R.PWR_BP_HOLD (BitVec.ofNat 32 (c.sub.le 8 4)), .done rOk 0 0)

/-- BYPASS_SET PAIR sets one pair's map, KEEP_EN and AUTO_DROP, clearing DROPPED and restarting the wave (02 R55, R60). -/
def execBypassSetPair (d : Submission) (s : State) : Host.Outcome State Fault Refusal :=
  .next (specBypassPair.take 0x44 true d s)

/-- BYPASS_SET HOLD sets LINK_HOLD_MS for every pair (02 R55). -/
def execBypassSetHold (d : Submission) (s : State) : Host.Outcome State Fault Refusal :=
  .next (specBypassHold.take 0x44 true d s)

/-- BYPASS_HOLD_EXPIRY: a pair's hold timer reaches LINK_HOLD_MS with link still absent; the wave stops (02 R59). -/
def execBypassHoldExpiry (n : Nat) (s : State) : Host.Outcome State Fault Refusal :=
  if n < 4 ∧ s.bpNoLink n ∧ s.ran (.bpHold n) (max 1 (s.get F.PWR_BP_HOLD_LINK_HOLD_MS) * ms) then
    let s := (s.set (bpBit R.PWR_BP_STATUS 4 n) 1).updKeep
    .next (s.event 0x0111 n (s.rd R.PWR_BP_STATUS).toNat)
  else .next s

end Sys2Proof.Machine
end

