-- ==== Sys2Proof/Machine/Stalls.lean ====
section
/-! DEFINITION. What the stalls, the hayloft and the sheds hold a frame to: occupancies, the halter's levels, headroom,
and the gates of a shed (06 R237 to R240; 08 R323 to R332). -/

namespace Sys2Proof.Machine

open Sys2Proof

/-! ### Stalls -/

/-- 08 R323: the division of a node's stalls in 64 KiB units; a setting that breaks a limit is ignored. -/
def State.stalls (s : State) (n : Nat) : Nat × Nat × Nat :=
  let i := s.get (F.LOOM_STALL_CFG_INGRESS n)
  let m := s.get (F.LOOM_STALL_CFG_INTER n)
  let e := s.get (F.LOOM_STALL_CFG_EGRESS n)
  if 16 ≤ i ∧ 8 ≤ m ∧ 8 ≤ e ∧ i + m + e = 96 then (i, m, e) else (48, 16, 32)

/-- 64 KiB. -/
def unit64 : Nat := 65536

/-- The bytes of a copy still at its input node. -/
def Frame.bytesIn (f : Frame) : Nat := (if f.whole then f.len else f.arrived) - f.sent

/-- 08 R328: whether a copy counts towards its ingress port's occupancy: held in ingress stalls or hayloft, and neither a
mirror copy (R339) nor a woven frame waiting (R343). -/
def Frame.inStalls (f : Frame) : Bool :=
  f.stored && f.mirror.isNone &&
    (match f.stage with
     | .receiving | .head | .heddle _ | .beam | .ingress => true
     | .loom => decide (f.sent < f.len) || !f.whole
     | _ => false)

/-- 08 R328: an ingress port's occupancy in bytes. -/
def State.occupancy (s : State) (p : Nat) : Nat :=
  s.frames.foldl (fun n x => if x.2.qport = p ∧ x.2.inStalls then n + x.2.bytesIn else n) 0

/-- A port's flow-control mode; 3 acts as 0. -/
def State.fcMode (s : State) (p : Nat) : Nat :=
  if 272 ≤ p then 0
  else let m := s.get (F.MAC_CFG_FC_MODE p); if m = 3 then 0 else m

/-- 08 R350: XON_GAP, 0 acting as 1. -/
def State.xonGap (s : State) (p : Nat) : Nat := max 1 (s.get (F.LOOM_HALT_XON_GAP p))

/-- 08 R350: LIMIT, in force. -/
def State.haltLimit (s : State) (p : Nat) : Nat :=
  max (s.get (F.LOOM_HALT_LIMIT p)) (s.get (F.LOOM_HALT_HEADROOM p) + s.xonGap p + 1)

/-- The ports of a node that hold frames in its ingress stalls. -/
def nodePorts (n : Nat) : List Nat :=
  if n < 32 then (List.range 8).map (fun i => 8 * n + i)
  else if n = 32 then (List.range 8).map (fun i => 256 + i)
  else if n = 33 then (List.range 8).map (fun i => 264 + i)
  else if n = 34 then [272, 274]
  else [273]

/-- 08 R332: the units of a node's headroom reserves. -/
def State.reserves (s : State) (n : Nat) : Nat :=
  (nodePorts n).foldl (fun a p => if s.fcMode p ≠ 0 then a + s.get (F.LOOM_HALT_HEADROOM p) else a) 0

/-- 08 R325: bytes of a node's working part. -/
def State.workingSize (s : State) (n : Nat) : Nat := ((s.stalls n).1 - s.reserves n) * unit64

/-- Bytes in a node's working part: frames of its ports that are neither spilled nor in a reserve. -/
def State.workingUsed (s : State) (n : Nat) : Nat :=
  s.frames.foldl (fun a x =>
    if x.2.inNode = n ∧ x.2.inStalls ∧ !x.2.spilled ∧ !x.2.reserve then a + x.2.bytesIn else a) 0

/-- Bytes in a port's headroom reserve. -/
def State.reserveUsed (s : State) (p : Nat) : Nat :=
  s.frames.foldl (fun a x => if x.2.qport = p ∧ x.2.reserve ∧ x.2.inStalls then a + x.2.bytesIn else a) 0

/-- 08 R350: SPILL_PCT, values above 95 acting as 95. -/
def State.spillPct (s : State) : Nat := min 95 (s.get F.LOOM_SPILL_CFG_SPILL_PCT)

/-- 08 R350: FETCH_PCT, values at or above SPILL_PCT acting as SPILL_PCT − 5. -/
def State.fetchPct (s : State) : Nat :=
  let f := s.get F.LOOM_SPILL_CFG_FETCH_PCT
  if f ≥ s.spillPct then s.spillPct - 5 else f

/-- A port held by the halter: its LOOM_HALT_STATUS bits, or a hold of an internal source (08 R331). -/
def State.held (s : State) (p : Nat) : Bool :=
  if p < 272 then s.on (F.LOOM_HALT_STATUS_PORT_HOLD p) || s.on (F.LOOM_HALT_STATUS_NODE_HOLD p)
  else s.innerHold.contains p

/-- 08 R330: whether the halter admits a frame of a port at its first byte. -/
def State.admits (s : State) (p : Nat) : Bool :=
  if 272 ≤ p then true
  else
    let above := decide (s.occupancy p ≥ s.haltLimit p * unit64)
    let full := s.on (F.LOOM_HALT_STATUS_NODE_HOLD p) &&
      (s.fcMode p == 0 || decide (s.reserveUsed p ≥ s.get (F.LOOM_HALT_HEADROOM p) * unit64))
    !above && !full

/-! ### Queues -/

/-- The frames of an ingress queue (ingress port, output node, class), oldest first (08 R324). -/
def State.ingressQ (s : State) (p n c : Nat) : List (Nat × Frame) :=
  s.framesBy (fun f => f.stage == .ingress && f.qport == p && f.dest.node == n && f.tc == c)

/-- Whether some frame of an ingress queue is in the hayloft. -/
def State.queueSpilled (s : State) (p n c : Nat) : Bool := (s.ingressQ p n c).any (fun x => x.2.spilled)

/-- LOOM_HAYLOFT.USED_MIB and a port's SPILLED flag brought up to date. -/
def State.updHayloft (p : Nat) (s : State) : State :=
  let used := s.frames.foldl (fun a x => if x.2.spilled then a + x.2.len else a) 0
  let s := s.set F.LOOM_HAYLOFT_USED_MIB (satNat 16 ((used + 1048575) / 1048576))
  if p < 272 then
    s.setB (F.LOOM_HALT_STATUS_SPILLED p) (s.frames.any (fun x => x.2.spilled && x.2.qport == p))
  else s

/-- A frame released into its ingress queue, behind any spilled part of it (08 R324). -/
def State.enqueue (id : Nat) (s : State) : State :=
  match s.frame id with
  | none => s
  | some f =>
    let sp := s.queueSpilled f.qport f.dest.node f.tc
    ((s.place id .ingress).modFrame id (fun f => { f with spilled := sp })).updHayloft f.qport

/-! ### Sheds (06 R237 to R240) -/

/-- A position's entry: its number and GATES; the last entry holds to the cycle's end. `acc` is the end of the entries
before, in units of 1.25 ns. -/
def entryAt (pos : Nat) : Nat → Nat → List (Nat × Nat) → Nat × Nat
  | _, _, [] => (0, 0xFF)
  | _, i, [e] => (i, e.1)
  | acc, i, e :: r => if pos < (acc + e.2) * (ns * 5 / 4) then (i, e.1) else entryAt pos (acc + e.2) (i + 1) r

/-- A shed's cycle in units of 2^-16 ns. -/
def Shed.cycle (d : Shed) : Nat := d.cycleNs * ns

/-- The position in the cycle at network time `t`, from the signed compact-time difference. -/
def Shed.pos (d : Shed) (t : Nat) : Nat := (ctDiff (ct t) d.base % (d.cycle : Int)).toNat

/-- The entry in force at `t` and its gates. -/
def Shed.entry (d : Shed) (t : Nat) : Nat × Nat := entryAt (d.pos t) 0 0 d.entries

/-- The spans of a cycle as (start, stop, gates), cut at the cycle's end; the last entry holds to it. -/
def shedSpans (cyc : Nat) : Nat → List (Nat × Nat) → List (Nat × Nat × Nat)
  | _, [] => []
  | a, [e] => if a < cyc then [(a, cyc, e.1)] else []
  | a, e :: r =>
    if a < cyc then
      let b := min cyc (a + e.2 * (ns * 5 / 4))
      (a, b, e.1) :: shedSpans cyc b r
    else []

/-- The length of the open stretch of class `c` at the front of a list of spans. -/
def openPrefix (c : Nat) : List (Nat × Nat × Nat) → Nat
  | [] => 0
  | (a, b, g) :: r => if bit g c then b - a + openPrefix c r else 0

/-- 06 R239: how long class `c` stays open from position `pos`; none where its run never closes. -/
def Shed.openFor (d : Shed) (c pos : Nat) : Option Nat :=
  let sp := shedSpans d.cycle 0 d.entries
  if sp.all (fun x => bit x.2.2 c) then none
  else
    let here := sp.filter (fun x => decide (pos < x.2.1))
    match here with
    | [] => some 0
    | (a, b, g) :: r => if bit g c then some (b - max a pos + openPrefix c (r ++ sp)) else some 0

/-- 06 R240: the longest open run of class `c`; none where the class never closes. -/
def Shed.longest (d : Shed) (c : Nat) : Option Nat :=
  let sp := shedSpans d.cycle 0 d.entries
  if sp.all (fun x => bit x.2.2 c) then none
  else some (sp.foldl (fun m x => max m ((d.openFor c x.1).getD 0)) 0)

/-- The shed in force on a port. -/
def State.shed (s : State) (p : Nat) : Option Shed := Tbl.find p s.sheds

/-- 06 R239: whether a transmission of class `c` that takes `len` may start on a port at `t`. -/
def State.gateFits (s : State) (p c t len : Nat) : Bool :=
  match s.shed p with
  | none => true
  | some d =>
    match d.openFor c (d.pos t) with
    | none => true
    | some r => decide (0 < r ∧ len ≤ r)

/-- 06 R240: whether a transmission of class `c` can never fit the shed in force. -/
def State.neverFits (s : State) (p c len : Nat) : Bool :=
  match s.shed p with
  | none => false
  | some d =>
    match d.longest c with
    | none => false
    | some r => decide (r < len)

/-- 06 R242: the first start of a port's shed cycle at or after `t`, or the pick cycle when no shed runs. -/
def State.shedStart (s : State) (p t : Nat) : Nat :=
  match s.shed p with
  | none => ceilGrid t
  | some d => t + (d.cycle - d.pos t) % d.cycle

/-- MAC_SHED_STATUS.ENTRY and SHED_ON of a port brought up to date. -/
def State.updShed (p : Nat) (s : State) : State :=
  match s.shed p with
  | none => (s.set (F.MAC_SHED_STATUS_ENTRY p) 0).setB (F.MAC_STATUS_SHED_ON p) false
  | some d => (s.set (F.MAC_SHED_STATUS_ENTRY p) (d.entry s.nt).1).setB (F.MAC_STATUS_SHED_ON p) true

/-! ### Holds by the link partner (06 R234) -/

/-- Whether class `c` of a port is held by PAUSE or PFC received. -/
def State.classHeld (s : State) (p c : Nat) : Bool :=
  s.on (F.MAC_STATUS_RX_PAUSED p) || bit (s.get (F.MAC_STATUS_PFC_HELD p)) c

end Sys2Proof.Machine
end

