-- ==== Sys2Proof/Machine/Heddles.lean ====
section
/-! DEFINITION. Chapter 7: heads and heddles, the decision, learning, the forwarding database commands, the rule writer,
swaps, and parse graphs in service. -/

namespace Sys2Proof.Machine

open Sys2Proof

/-! ### Heddle states (07 R301) -/

def hdIn : Nat := 0
def hdDraining : Nat := 1
def hdLoading : Nat := 2
def hdOut : Nat := 3
def hdFault : Nat := 4

/-- A heddle's state. -/
def State.hed (s : State) (h : Nat) : Nat := s.get (F.HED_HEDDLE_STATE h)

/-- A heddle's state set, with its bit of HED_STATUS. -/
def State.setHed (h v : Nat) (s : State) : State :=
  (s.set (F.HED_HEDDLE_STATE h) v).setB ⟨R.HED_STATUS, h, 1⟩ (v == hdIn)

/-- 07 R301, R308: HEDDLE_LOAD puts a heddle in or out of service, and its HEDDLE_EN bit with it (log entry 92). -/
def State.hedService (h : Nat) (on : Bool) (s : State) : State :=
  (s.setHed h (if on then hdIn else hdOut)).setB ⟨R.HED_CTRL, h, 1⟩ on

/-- 07 R264: heads in a heddle go back to wait for another, with their sequence numbers. -/
def State.returnHeads (h : Nat) (s : State) : State :=
  { s with frames := s.frames.map (fun (x : Nat × Frame) =>
      if x.2.stage = .heddle h then (x.1, { x.2 with stage := .head }) else x) }

/-- 07 R301: a heddle enters FAULT. -/
def State.hedFault (h : Nat) (s : State) : State :=
  let s := (s.returnHeads h).setHed h hdFault
  (s.stick R.HED_FAULT h).event 0x0810 h (s.rd (R.HED_HEDDLE h)).toNat

/-- A HED_EVENT bit set, with its source. -/
def State.hedEvent (b src : Nat) (s : State) : State := s.raise .hed b src

/-- Q1 of a HEDDLE_LOAD completion (07 R301). -/
def State.hedQ1 (s : State) (h : Nat) : Nat := s.hed h + s.get (F.HED_HEDDLE_GRAPH_ID h) * 65536

/-- State word `i` of a heddle's graph, from its HED_GRAPH window. -/
def State.graphBytes (s : State) (h i : Nat) : List Byte :=
  (List.range 16).flatMap (fun k => leBytes 4 (s.rd (R.HED_GRAPH h + 64 * i + 4 * k)).toNat)

/-- A graph image written into a heddle's window; states beyond the image are emptied. -/
def State.writeGraph (h : Nat) (img : List Byte) (s : State) : State :=
  let n := leAt img 4 2
  let s := { s with regs := s.regs.filter (fun r =>
    !(decide (R.HED_GRAPH h ≤ r.1) && decide (r.1 < R.HED_GRAPH h + 0x4000))) }
  let s := s.forEach (List.range n) (fun i s =>
    s.wrWords (R.HED_GRAPH h + 64 * i) ((List.range 16).map (fun k => leAt img (64 + 64 * i + 4 * k) 4)))
  let s := s.forEach (List.range (builtinStates.length - n)) (fun i =>
    State.wrWords (R.HED_GRAPH h + 64 * (n + i)) (List.replicate 16 0))
  s.set (F.HED_HEDDLE_GRAPH_ID h) (leAt img 2 2)

/-! ### Generations (07 R294, R296) -/

/-- The generation in force at an ingress timestamp. -/
def State.genAt (s : State) (t : Nat) : Nat :=
  match s.swaps.find? (fun p => decide (p.1 ≤ t)) with
  | some p => p.2
  | none => match s.swaps.getLast? with
    | some p => 1 - p.2
    | none => s.get F.HED_GEN_STATUS_IN_FORCE

/-- Whether a frame has a pass still to be decided. -/
def Frame.undecided (f : Frame) : Bool :=
  !f.direct &&
    (match f.stage with
     | .receiving | .head | .heddle _ => true
     | .unread | .ring | .sending | .egress | .launch => false
     | _ => f.dest == .recirc)

/-- Whether a generation not in force has a frame with a pass still to be decided. -/
def State.genBound (s : State) (g : Nat) : Bool :=
  g != s.get F.HED_GEN_STATUS_IN_FORCE && s.frames.any (fun x => x.2.gen == g && x.2.undecided)

/-- 07 R296: whether a generation not in force is held; it stops being held in the pick cycle after its last frame's final decision or end. -/
def State.genHeld (s : State) (g : Nat) : Bool :=
  g != s.get F.HED_GEN_STATUS_IN_FORCE &&
    (s.on (if g = 0 then F.HED_GEN_STATUS_HELD0 else F.HED_GEN_STATUS_HELD1) || s.genBound g)

/-- HED_GEN_STATUS.HELD0 and HELD1 brought up to date within a pick cycle. -/
def State.updHeld (s : State) : State :=
  (s.setB F.HED_GEN_STATUS_HELD0 (s.genHeld 0)).setB F.HED_GEN_STATUS_HELD1 (s.genHeld 1)

/-- HED_GEN_STATUS.HELD0 and HELD1 as a pick cycle begins. -/
def State.newHeld (s : State) : State :=
  (s.setB F.HED_GEN_STATUS_HELD0 (s.genBound 0)).setB F.HED_GEN_STATUS_HELD1 (s.genBound 1)

/-- VALID and TAG of a generation's header shown. -/
def State.updHeader (g : Nat) (s : State) : State :=
  let e := header s.rules g
  let v := headerValid s.rules g
  if g = 0 then (s.setB F.HED_GEN_STATUS_VALID0 v).set F.HED_GEN_TAG0_TAG (leAt e 16 4)
  else (s.setB F.HED_GEN_STATUS_VALID1 v).set F.HED_GEN_TAG1_TAG (leAt e 16 4)

/-! ### The forwarding database (07 R276 to R280) -/

/-- The port an entry yields to a lookup in this pick cycle. -/
def State.fdbPort (s : State) (e : FdbEntry) : Option Nat :=
  if e.born = some s.cycles then e.was else some e.port

/-- 07 R277: a destination looked up. -/
def State.fdbLookup (s : State) (vid mac : Nat) : Option Nat :=
  if groupMac mac then none
  else match fdbFind s.fdb vid mac with
    | some (_, e) => s.fdbPort e
    | none => none

/-- The database with its occupancy shown. -/
def State.setFdb (t : Tbl FdbEntry) (s : State) : State := ({ s with fdb := t }).set F.HED_FDB_STATUS_USED t.length

/-- Whether FDB_FLUSH removes an entry (04 R152). -/
def flushes (d : Submission) (e : FdbEntry) : Bool :=
  (d.P0 0 9 == 0x1FF || e.port == d.P0 0 9) && (d.P0 21 1 == 1 || e.vid == d.P0 9 12) && (d.P0 22 1 == 1 || !e.static)

/-- A learnt entry put in place, unless an FDB_FLUSH of this pick cycle removes it (07 R280). -/
def State.setLearnt (i : Nat) (e : FdbEntry) (s : State) : State :=
  s.setFdb (if s.fdbFlushes.any (fun d => flushes d e) then Tbl.del i s.fdb else Tbl.ins i e s.fdb)

/-- 07 R278, R280: a source learnt, as far as the FDB commands of this pick cycle, which come after learning, leave it: not where one named its
key, not as one flushes it, and not in a place that one freed (log entry 81). -/
def State.learn (vid mac port : Nat) (s : State) : State :=
  if s.fdbTouched.contains (vid, mac) then s
  else match fdbFind s.fdb vid mac with
    | some (i, e) =>
      if e.port = port then s.setLearnt i { e with idle := 0 }
      else if e.static then s.hedEvent 5 0xFFFF
      else s.setLearnt i { e with port := port, idle := 0, born := some s.cycles, was := s.fdbPort e }
    | none =>
      match fdbFree s.fdb vid mac (fun i => s.fdbFreed.contains i) with
      | some i => s.setLearnt i { vid := vid, mac := mac, port := port, static := false, born := some s.cycles }
      | none => s.hedEvent 4 0xFFFF

/-! ### Copies made at the heddles -/

/-- Bytes of mirror copies at N34 (08 R339). -/
def State.mirrorUsed (s : State) : Nat :=
  s.frames.foldl (fun n x => if x.2.mirror.isSome then n + x.2.len else n) 0

/-- 08 R336 to R339: a mirror session counts a frame and copies every Nth. -/
def State.mirrorCopy (f : Frame) (m q2 : Nat) (s : State) : State :=
  if !s.on (F.LOOM_MIRROR_ENABLE m) then s
  else
    let (n, k) := s.mirrors.getD m (0, 0)
    if (n + 1) % (s.get (F.LOOM_MIRROR_N_MINUS_1 m) + 1) ≠ 0 then { s with mirrors := Tbl.ins m (n + 1, k) s.mirrors }
    else
      let s := { s with mirrors := Tbl.ins m (n + 1, k + 1) s.mirrors }
      let lim := if s.on (F.LOOM_MIRROR_TRUNC256 m) then 256 else 128
      let d := f.data.take lim
      if s.mirrorUsed + d.length > 524288 then (s.raiseD .loom 9 34 m).count 5 m 1 1
      else
        let q2 := q2 + f.len % 16384 * 2 ^ 32 + (k + 1) % 65536 * 2 ^ 48
        let c : Frame := { port := f.port, tin := f.tin, stage := .ingress, data := d, len := d.length + 4, whole := true,
                           pass := f.pass, direct := true, dest := .ring (s.get (F.LOOM_MIRROR_RING m)), tc := f.tc,
                           vid := f.vid, matchId := s.get (F.LOOM_MIRROR_MATCH_ID m),
                           mirror := some (q2, decide (lim < f.data.length)), root := s.nextId }
        ((s.count 5 m 0 1).madeCopy f.port).addFrame c

/-- A copy of a whole frame made for a ring: the filter's COPY (06 R230) or the malformed copy (07 R272). -/
def State.ringCopy (f : Frame) (q mid : Nat) (st : Stage) (s : State) : State :=
  (s.madeCopy f.port).addFrame
    { f with stage := st, direct := true, dest := .ring q, matchId := mid, after := {}, copyTo := none, hseq := none,
             root := s.nextId, cut := false, tsId := none, cmd := none }

/-- 07 R273: what the heddles decided, once the frame's last byte has passed its receive checks. -/
def State.settle (id : Nat) (s : State) : State :=
  match s.frame id with
  | none => s
  | some f =>
    let a := f.after
    let s := s.modFrame id (fun f => { f with after := { fate := a.fate } })
    let s := s.when a.learn (State.learn f.vid (beAt f.data 6 6) f.port)
    let s := match a.mirror with
      | some (m, q2) => s.mirrorCopy f m q2
      | none => s
    let s := s.when a.malf
      (State.ringCopy f (s.get F.HED_MALF_CFG_RING) (s.get F.HED_MALF_CFG_MATCH_ID) .ingress)
    match a.fate with
    | some c => s.endFrame id c
    | none => s

/-! ### HEAD_DISPATCH (07 R261) -/

/-- 07 R261: the heddle that takes a head of node `n`, by the node's pointer; `noRoom` marks heddles whose queue is full. -/
def State.pickHeddle (s : State) (n noRoom : Nat) : Option Nat :=
  let p := s.hedPtr.getD n 0
  ((List.range 8).map (fun i => 8 * bankOf n + (p + i) % 8)).find? (fun h =>
    s.on ⟨R.HED_STATUS, h, 1⟩ && !bit noRoom h)

/-- A head given to a heddle: its sequence number on first dispatch, and the pointer moved on. -/
def State.dispatch (id : Nat) (f : Frame) (h : Nat) (s : State) : State :=
  let s := { s with hedPtr := Tbl.ins f.inNode ((h + 1) % 8) s.hedPtr }
  let q := s.headSeq.getD f.qport 0
  match f.hseq with
  | some _ => s.modFrame id (fun f => { f with stage := .heddle h })
  | none => ({ s with headSeq := Tbl.ins f.qport ((q + 1) % 65536) s.headSeq }).modFrame id
      (fun f => { f with stage := .heddle h, hseq := some q })

/-- Whether an earlier head of the frame's port still waits. -/
def State.headBefore (s : State) (f : Frame) : Bool :=
  s.frames.any (fun x => x.2.stage == .head && x.2.qport == f.qport && decide (x.2.order < f.order))

/-! ### HEAD_DECISION (07 R268 to R290) -/

/-- 07 R260: a frame's head. -/
def Frame.head (f : Frame) : Head :=
  if f.whole ∧ f.len ≤ 256 then { win := f.data, fend := some (f.len - 4) }
  else { win := (f.data ++ f.tail).take 256, fend := none }

/-- 07 R271: the metadata. -/
def Frame.metadata (f : Frame) (flags pats graph : Nat) : List Byte :=
  beBytes 2 f.port ++ beBytes 2 f.vid ++ beBytes 1 f.prio ++ beBytes 1 f.pass ++ beBytes 1 flags ++ beBytes 1 0 ++
    beBytes 8 pats ++ beBytes 4 f.meta4 ++ beBytes 2 f.filterId ++ beBytes 2 graph ++ beBytes 8 0

/-- 07 R273: a malformed parse counted. -/
def State.countMalformed (c : Nat) (s : State) : State :=
  let v := s.get (F.HED_MALF_CNT_LO_COUNT_LOW c) + s.get (F.HED_MALF_CNT_HI_COUNT_HIGH c) * 2 ^ 32 + 1
  (s.set (F.HED_MALF_CNT_LO_COUNT_LOW c) v).set (F.HED_MALF_CNT_HI_COUNT_HIGH c) (v / 2 ^ 32)

/-- 07 R278: whether the MAC port of a frame learns on this pass. -/
def State.learns (s : State) (f : Frame) : Bool :=
  f.pass == 1 && decide (f.port < 272) && s.on ⟨R.HED_LEARN (f.port / 32), f.port % 32, 1⟩ &&
    !groupMac (beAt f.data 6 6)

/-- 07 R282, R286, R289: the action a key meets and whether its walk broke a limit. -/
def State.actionFor (s : State) (g : Nat) (key : List Byte) : Action × Bool :=
  if headerValid s.rules g then
    let w := walk s.rules g key
    match w.best with
    | some (_, _, a) => (actionAt s.rules g a, w.limit)
    | none =>
      let m := leAt (header s.rules g) 8 4
      (if bit m 31 then actionAt s.rules g (m % 2 ^ 18) else fdbAlone, w.limit)
  else (fdbAlone, false)

/-- 07 R289 step 6: FDB_MISS_ACTION's destination, where it is valid and not FDB. -/
def State.missDest (s : State) (g : Nat) : Option (Nat × Nat) :=
  let m := leAt (header s.rules g) 12 4
  let a := actionAt s.rules g (m % 2 ^ 18)
  if headerValid s.rules g ∧ bit m 31 ∧ a.valid ∧ a.dest ≠ 0 then some (a.dest, a.destId) else none

/-- A DEST and DEST_ID as a destination. -/
def destOf (d i : Nat) : Dest := match d with | 1 => .port i | 2 => .group i | _ => .ring i

/-- 07 R289 step 6: the destination of a frame under an action; none where the frame ends RULE_DROP. -/
def State.resolve (s : State) (f : Frame) (a : Action) : Option Dest :=
  if a.dest = 0 then
    match s.fdbLookup f.vid (beAt f.data 0 6) with
    | some p => if p = f.port then none else some (.port p)
    | none => (s.missDest f.gen).map (fun d => destOf d.1 d.2)
  else some (destOf a.dest a.destId)

/-- 08 R338: the part of the mirror metadata that the decision fixes. -/
def mirrorMeta (a : Action) (tc pass : Nat) (dropped : Bool) (dest : Option Dest) : Nat :=
  let (kind, i) : Nat × Nat := match dest with
    | some (.port p) => (0, p)
    | some .recirc => (0, 273)
    | some (.group g) => (1, g)
    | some (.ring q) => (2, q)
    | _ => (3, 0)
  a.session + 16 * b2n dropped + 32 * b2n (dest == some .recirc) + 64 * tc + 512 * kind + 2048 * i + 2 ^ 27 * pass

/-- A port's nominal rate allows cut-through to another (06 R222). -/
def State.cutOk (s : State) (f : Frame) : Bool :=
  match f.dest with
  | .port p =>
    decide (p < 272) && decide (f.port < 272) && s.on (F.MAC_CFG_CUT_THROUGH f.port) &&
      f.after.mirror.isNone && f.copyTo.isNone && decide (s.portGbps p ≤ s.portGbps f.port) &&
      s.classQ p f.tc == [] && !s.held f.port &&
      s.gateFits p f.tc s.nt (s.byteTime p (s.editedLen p f f.maxFrame + 8))
  | _ => false

/-- 07 R289: an action applied to a frame that heddle `h` decides. -/
def State.applyAction (id h : Nat) (f : Frame) (a : Action) (s : State) : State :=
  if !a.valid then
    (s.hedEvent 7 h).modFrame id (fun f => { f with after := { f.after with fate := some 0x21 } })
  else
    let s := match a.counter with
      | some i => s.count 3 i 0 1
      | none => s
    let tc := a.tc.getD (f.prio % 8)
    let limit := a.recirc && !a.drop && decide (4 ≤ f.pass)
    let s := s.when limit (State.hedEvent 3 h)
    let dest := if a.drop ∨ limit then none else if a.recirc then some Dest.recirc else s.resolve f a
    let after : After :=
      { fate := if dest.isNone then some 0x21 else none
        mirror := if a.mirror then some (a.session, mirrorMeta a tc f.pass (a.drop || limit) dest) else none
        malf := f.after.malf, learn := f.after.learn && !a.noLearn }
    let f' := fun f : Frame => { f with
      after := after, dest := dest.getD .none, tc := tc,
      setPcp := if a.pcp.isSome then a.pcp else f.setPcp,
      setDei := if a.dei.isSome then a.dei else f.setDei,
      setVid := if a.vid.isSome then a.vid else f.setVid,
      stream := a.stream, wovenTo := a.woven, meta4 := if a.recirc then a.meta4 else f.meta4,
      matchId := if a.matchId ≠ 0 then a.matchId else f.filterId }
    let s := s.modFrame id f'
    let cut := !a.noCut && a.woven.isNone && (!f.whole || f.bad.isSome) && f.pass == 1 &&
      (match s.frame id with | some g => s.cutOk g | none => false)
    s.modFrame id (fun f => { f with cut := cut })

/-- 07 R268 to R290: a heddle decides a head. -/
def State.decideHead (id h : Nat) (f : Frame) (s : State) : State :=
  if f.direct then s.modFrame id (fun f => { f with stage := .beam })
  else
    let hd := f.head
    let p := parseHead hd (fun i => GState.decode (s.graphBytes h i))
    let s := match p.cause with
      | some c => s.countMalformed c
      | none => s
    let act := s.get F.HED_MALF_CFG_ACTION
    let base := s.modFrame id (fun f => { f with stage := .beam, after := { learn := s.learns f } })
    if p.cause.isSome ∧ act ≠ 2 then
      base.modFrame id (fun f => { f with after := { f.after with fate := some 0x20, malf := act == 1 } })
    else
      let flags := b2n p.cut + (match p.cause with | some c => 2 + 4 * c | none => 0)
      let md := f.metadata flags (patternVector s.rules f.gen hd p.mark) (s.get (F.HED_HEDDLE_GRAPH_ID h))
      let (a, lim) := s.actionFor f.gen (p.key md)
      let s := base.when lim (State.hedEvent 0 h)
      match s.frame id with
      | some f => s.applyAction id h f a
      | none => s

/-- 06 R216, 07 R273: a decided frame whose last byte is in: its receive fate where it was bad and does not leave by
cut-through, else what its checks settle. -/
def State.afterDecision (id : Nat) (s : State) : State :=
  match s.frame id with
  | none => s
  | some f =>
    if !f.whole then s
    else match f.bad with
      | none => s.settle id
      | some c =>
        if f.cut ∧ f.after.fate.isNone then s
        else s.endFrame id (if c = 0 then 0x10 else if c = 1 then 0x12 else 0x13)

/-- 07 R264: an earlier head of a frame's port is undecided, or decided and not yet released. -/
def State.seqBefore (s : State) (f : Frame) : Bool :=
  s.frames.any (fun x => x.2.qport == f.qport &&
    (match x.2.stage, x.2.hseq, f.hseq with
     | .heddle _, some a, some b => seqNewer 16 b a
     | .head, some a, some b => seqNewer 16 b a
     | .beam, some a, some b => seqNewer 16 b a && x.2.after.fate.isNone
     | _, _, _ => false))

/-- 07 R264: the beam of a frame's node holds its 1,024 decided heads, so that the decision waits; the head whose turn its port has reached passes
(log entry 80). -/
def State.beamFull (s : State) (f : Frame) : Bool :=
  decide (1024 ≤ (s.frames.filter (fun x => x.2.stage == .beam && x.2.inNode == f.inNode)).length) && s.seqBefore f

/-- HEAD_DECISION: a heddle parses a head, matches rules and the FDB, and applies the chosen action (07 R289). -/
def execHeadDecision (id : Nat) (s : State) : Host.Outcome State Fault Refusal :=
  match s.frame id with
  | some f =>
    match f.stage with
    | .heddle h => if s.beamFull f then .next s else .next (((s.decideHead id h f).afterDecision id).updHeld)
    | _ => .next s
  | none => .next s

/-- HED_ECC_REPAIR: a heddle memory word is corrected, or is uncorrectable and repaired from another bank's copy; the frame
whose lookup met it ends INTERNAL_UNCORRECTABLE (07 R304). -/
def execHedEccRepair (corrected : Bool) (mem gen unit src frame : Nat) (s : State) :
    Host.Outcome State Fault Refusal :=
  if corrected then .next (s.hedEvent 1 src)
  else
    let s := ((s.set F.HED_ECC_ADDR_MEMORY mem).set F.HED_ECC_ADDR_GEN (if mem ≤ 2 then gen else 0)).set
      F.HED_ECC_ADDR_UNIT unit
    let s := s.hedEvent 2 src
    match s.frame frame with
    | some f =>
      if f.stage = .heddle src then
        if f.whole then .next (s.endFrame frame 0x60)
        else .next (s.modFrame frame (fun f => { f with stage := .beam, after := { fate := some 0x60 } }))
      else .next s
    | none => .next s

/-! ### Forwarding database commands (04 R152; 07 R277) -/

/-- An FDB command names a key in this pick cycle (07 R280). -/
def State.touch (vid mac : Nat) (s : State) : State := { s with fdbTouched := (vid, mac) :: s.fdbTouched }

/-- An FDB command frees places in this pick cycle, which learning found taken (07 R280). -/
def State.freed (l : List Nat) (s : State) : State := { s with fdbFreed := l ++ s.fdbFreed }

/-- FDB_ADD. -/
def specFdbAdd : CmdSpec where
  cls := clsFdb
  block := false
  takesAt := false
  p0 := 0x3FFFFF
  p1 := 2 ^ 48 - 1
  first := onPick
  check d s := if d.P0 0 9 > 271 then rBadPort else s.badPort (d.P0 0 9)
  act c s :=
    let d := c.sub
    let vid := d.P0 9 12
    let mac := d.P1 0 48
    let e : FdbEntry := { vid := vid, mac := mac, port := d.P0 0 9, static := d.P0 21 1 == 1 }
    match fdbFind s.fdb vid mac with
    | some (i, _) => ((s.touch vid mac).setFdb (Tbl.ins i e s.fdb), .done rOk i 0)
    | none =>
      match fdbFree s.fdb vid mac (fun _ => false) with
      | some i => ((s.touch vid mac).setFdb (Tbl.ins i e s.fdb), .done rOk i 0)
      | none => (s, .done rTableFull 0 0)

/-- FDB_DEL. -/
def specFdbDel : CmdSpec where
  cls := clsFdb
  block := false
  takesAt := false
  p0 := 0x1FFE00
  p1 := 2 ^ 48 - 1
  first := onPick
  check _ _ := rOk
  act c s :=
    let vid := c.sub.P0 9 12
    let mac := c.sub.P1 0 48
    match fdbFind s.fdb vid mac with
    | some (i, _) => (((s.touch vid mac).freed [i]).setFdb (Tbl.del i s.fdb), .done rOk i 0)
    | none => (s.touch vid mac, .done rBadParam 0 0)

/-- FDB_FLUSH. -/
def specFdbFlush : CmdSpec where
  cls := clsFdb
  block := false
  takesAt := false
  p0 := 0x7FFFFF
  first := onPick
  check d s :=
    let p := d.P0 0 9
    if p = 0x1FF then rOk else if p > 274 then rBadPort else s.badPort p
  act c s :=
    let gone := s.fdb.filter (fun x => flushes c.sub x.2)
    let s := s.forEach (gone.filter (fun x => x.2.static)) (fun x => State.touch x.2.vid x.2.mac)
    let s := { s.freed (gone.map (·.1)) with fdbFlushes := c.sub :: s.fdbFlushes }
    (s.setFdb (s.fdb.filter (fun x => !flushes c.sub x.2)), .done rOk gone.length 0)

/-- FDB_ADD adds or replaces a forwarding database entry (07 R277). -/
def execFdbAdd (d : Submission) (s : State) : Host.Outcome State Fault Refusal := .next (specFdbAdd.take 0x20 true d s)

/-- FDB_DEL removes a forwarding database entry (07 R277). -/
def execFdbDel (d : Submission) (s : State) : Host.Outcome State Fault Refusal := .next (specFdbDel.take 0x21 true d s)

/-- FDB_FLUSH removes entries by port and VID (04 R152). -/
def execFdbFlush (d : Submission) (s : State) : Host.Outcome State Fault Refusal :=
  .next (specFdbFlush.take 0x22 true d s)

/-- 07 R306: AGE_S in force. -/
def State.ageS (s : State) : Nat :=
  let a := s.get F.HED_FDB_CFG_AGE_S
  if a = 0 then 0 else max 10 (min a 1000000)

/-- FDB_AGEING: once per second, dynamic entries unseen for the ageing time are removed (07 R279). -/
def execFdbAgeing (s : State) : Host.Outcome State Fault Refusal :=
  if !s.evalDue evFdb sec then .next s
  else
    let s := s.evalMade evFdb
    if s.ageS = 0 then .next s
    else
    let t := s.fdb.map (fun (x : Nat × FdbEntry) => (x.1, { x.2 with idle := x.2.idle + 1 }))
    .next (s.setFdb (t.filter (fun x => x.2.static || decide (x.2.idle ≤ s.ageS))))

/-! ### The rule writer (07 R291 to R297) -/

/-- 07 R291: RULE_WRITE's entries, or none where a check fails. -/
def ruleWriteEntries (d : Submission) : Option (List (Nat × List Byte)) :=
  let mem := d.P0 1 3
  let off := d.P2 0 32
  let len := d.P2 32 32
  if mem > 2 then none
  else
    let w := memWidth mem
    if len = 0 ∨ len > 1048576 ∨ off % w ≠ 0 ∨ len % w ≠ 0 ∨ off + len > w * memEntries mem then none
    else
      let l := d.bytes.take len
      blockEntries mem (len / w) (off / w) (l ++ List.replicate (len - l.length) 0)

/-- One entry written into a generation's memory, all its units together (07 R292). -/
def State.writeEntry (gen mem : Nat) (e : Nat × List Byte) (s : State) : State :=
  let w := memWidth mem
  let k := e.2.length / w
  let t := (List.range k).foldl (fun t i => Tbl.put [] (ruleKey gen mem (e.1 + i)) ((e.2.drop (w * i)).take w) t) s.rules
  let s := { s with rules := t }
  if mem = memTree ∧ e.1 = 0 then s.updHeader gen else s

/-- 07 R297: the place of an entry in RULE_CLEAR's order. -/
def clearPos (mem i : Nat) : Nat :=
  if mem = 0 then (if i = 0 then 790527 else i - 1) else if mem = 1 then 524287 + i else 786431 + i

/-- An entry with VALID 0: bit 7 of HDR in the tree memory, bit 0 of CTRL in the others. -/
def invalidated (mem : Nat) (e : List Byte) : List Byte :=
  match e with
  | [] => []
  | b :: t => (if mem = 0 then b &&& 0x7F else b &&& 0xFE) :: t

/-- 07 R297: the entries at places `lo` to `hi` − 1 of a generation cleared. -/
def State.clearRange (gen lo hi : Nat) (s : State) : State :=
  let t := s.rules.map (fun (x : Nat × List Byte) =>
    let mem := x.1 / 2 ^ 20 % 16
    let p := clearPos mem (x.1 % 2 ^ 20)
    if x.1 / 2 ^ 24 = gen ∧ lo ≤ p ∧ p < hi then (x.1, invalidated mem x.2) else x)
  ({ s with rules := t }).updHeader gen

/-- 07 R297: entries that a RULE_CLEAR writes. -/
def clearLen : Nat := 790528

/-- Entries that a command of the writer has yet to write. -/
def RuleJob.left (j : RuleJob) : Nat := if j.clear then clearLen - j.at0 else j.entries.length

/-- The next `n` entries of the writer's command written, the last of them in pick cycle `c`. -/
def State.writeNext (n c : Nat) (j : RuleJob) (s : State) : State :=
  if j.clear then
    { (s.clearRange j.gen j.at0 (j.at0 + n)) with writer := some { j with at0 := j.at0 + n, wrote := some c } }
  else
    let s := s.forEach (j.entries.take n) (fun e => State.writeEntry j.gen j.mem e)
    { s with writer := some { j with entries := j.entries.drop n, wrote := some c } }

/-- 07 R292: the last entry of the writer's command is written in pick cycle `c`, at `t`, and it completes; the writer is busy until the cycle
after. -/
def State.writeLast (c t : Nat) (j : RuleJob) (s : State) : State :=
  (s.writeNext j.left c j).finish (fun x => x == { j.cmd with begun := true }) rOk t 0 0

/-- 07 R292, R296: the first waiting command that may begin takes the writer; one whose generation is held, or for a RULE_CLEAR in force, completes
at `t` without effect. -/
def State.beginWriter (t : Nat) : List RuleJob → State → State
  | [], s => { s with writer := none, writeQ := [] }
  | j :: r, s =>
    if s.genHeld j.gen ∨ (j.clear ∧ j.gen = s.get F.HED_GEN_STATUS_IN_FORCE) then
      let code := if s.genHeld j.gen then rBusy else rState
      State.beginWriter t r (s.finish (fun c => c == { j.cmd with begun := true }) code t 0 0)
    else { s with writer := some j, writeQ := r }

/-- 07 R292: `n` pick cycles begin, of `d` each, the last of them the present one: the writer writes one entry in each, but leaves a command's last
entry in the present cycle to RULE_WRITE_DONE; a command that has ended gives way to the next. `k` bounds the commands. -/
def State.writeCycles (d : Nat) : Nat → Nat → State → State
  | 0, _, s => s
  | k + 1, n, s =>
    match s.writer with
    | none => s
    | some j =>
      if n = 0 then s
      else if j.left = 0 then (s.beginWriter (s.nt - (n - 1) * d) s.writeQ).writeCycles d k n
      else if n ≤ j.left then s.when (1 < j.left) (State.writeNext (min n (j.left - 1)) (if n < j.left then s.cycles else s.cycles - 1) j)
      else (s.writeLast (s.cycles - (n - j.left)) (s.nt - (n - j.left) * d) j).writeCycles d k (n - j.left)

/-- 07 R292: the last entry of the writer's command is due in the present pick cycle. -/
def State.lastDue (s : State) (j : RuleJob) : Bool := j.left == 1 && j.wrote != some s.cycles

/-- 07 R292: a pick cycle ends: what is left of it to write is written. -/
def State.endWrites (s : State) : State :=
  match s.writer with
  | none => s
  | some j => s.when (s.lastDue j) (State.writeLast s.cycles s.nt j)

/-- A writer command reaches its boundary. -/
def State.startJob (j : RuleJob) (s : State) : State × Answer :=
  if s.writer.isSome then ({ s with writeQ := s.writeQ ++ [j] }, .wait)
  else if s.genHeld j.gen then (s, .done rBusy 0 0)
  else if 1 < j.left then (s.writeNext 1 s.cycles j, .wait)
  else ({ s with writer := some j }, .wait)

/-- 07 R288, R11: an action entry names a multi-lane port by other than its lowest lane. -/
def State.actionPortBad (s : State) (e : List Byte) : Bool :=
  bit (byteAt e 0) 0 && byteAt e 1 % 4 == 1 && s.badPort (leAt e 2 2) != rOk

/-- RULE_WRITE. -/
def specRuleWrite : CmdSpec where
  cls := clsRule
  block := true
  p0 := 0xF
  first := onPick
  check d s := match ruleWriteEntries d with
    | none => rBadParam
    | some l => if d.P0 1 3 = memAction ∧ l.any (fun e => s.actionPortBad e.2) then rBadParam else rOk
  act c s :=
    s.startJob { cmd := c, gen := c.sub.P0 0 1, mem := c.sub.P0 1 3, entries := (ruleWriteEntries c.sub).getD [] }

/-- RULE_CLEAR. -/
def specRuleClear : CmdSpec where
  cls := clsRule
  block := false
  p0 := 1
  first := onPick
  check _ _ := rOk
  act c s :=
    if c.sub.P0 0 1 = s.get F.HED_GEN_STATUS_IN_FORCE then (s, .done rState 0 0)
    else s.startJob { cmd := c, gen := c.sub.P0 0 1, mem := 0, entries := [], clear := true }

/-- 07 R294: a generation put in force at boundary `b`; the result and Q1. -/
def State.swapTo (g b : Nat) (s : State) : State × Nat × Nat :=
  let q1 := fun s : State => s.swapSeq * 65536
  if !headerValid s.rules g then (s, rState, q1 s)
  else if g = s.get F.HED_GEN_STATUS_IN_FORCE then (s, rOk, q1 s)
  else
    let n := (s.swapSeq + 1) % 2 ^ 32
    let s := ({ s with swapSeq := n, swaps := (b, g) :: s.swaps }).set F.HED_GEN_STATUS_IN_FORCE g
    let s := (s.set F.HED_GEN_STATUS_SWAP_SEQ n).updHeld
    (s, rOk, q1 s)

/-- 07 R295: whether an earlier RULE_WRITE or RULE_CLEAR of a swap's ring on its generation has not completed. -/
def State.swapBlocked (s : State) (c : Cmd) (g : Nat) : Bool :=
  let n := s.ringSize c.sub.ring
  let age := fun i : Nat => ((s.ring c.sub.ring).sqHead + n - 1 - i) % n
  s.accepted.any (fun x => (x.op == 0x10 || x.op == 0x12) && x.sub.ring == c.sub.ring && x.sub.P0 0 1 == g &&
    (decide (128 ≤ c.sub.ring) || decide (age c.sub.index < age x.sub.index)))

/-- RULE_SWAP. -/
def specRuleSwap : CmdSpec where
  cls := clsRule
  block := false
  p0 := 1
  first := onPick
  check _ _ := rOk
  act c s :=
    if s.swapBlocked c (c.sub.P0 0 1) then ({ s with swapWait := s.swapWait ++ [c] }, .wait)
    else
      let (s, code, q1) := s.swapTo (c.sub.P0 0 1) c.boundary
      (s, .done code q1 0)

/-- RULE_WRITE checks a block and begins to write it entry by entry (07 R291, R292). -/
def execRuleWrite (d : Submission) (s : State) : Host.Outcome State Fault Refusal :=
  .next (specRuleWrite.take 0x10 true d s)

/-- RULE_SWAP puts a generation in force at its pick-cycle boundary (07 R294). -/
def execRuleSwap (d : Submission) (s : State) : Host.Outcome State Fault Refusal :=
  .next (specRuleSwap.take 0x11 true d s)

/-- RULE_CLEAR writes VALID 0 into every entry of a generation not in force (07 R297). -/
def execRuleClear (d : Submission) (s : State) : Host.Outcome State Fault Refusal :=
  .next (specRuleClear.take 0x12 true d s)

/-- RULE_WRITE_DONE: the writer writes a command's last entry and completes it; the next waiting command begins in the pick cycle after
(07 R292). -/
def execRuleWriteDone (s : State) : Host.Outcome State Fault Refusal :=
  match s.writer with
  | none => .next s
  | some j => .next (s.when (s.lastDue j) (State.writeLast s.cycles s.nt j))

/-- RULE_SWAP_DEFERRED: a swap that waited for earlier writes takes effect at the pick cycle after the last of them, with
LATE (07 R295). -/
def execRuleSwapDeferred (s : State) : Host.Outcome State Fault Refusal :=
  match s.swapWait with
  | [] => .next s
  | c :: r =>
    if s.swapBlocked c (c.sub.P0 0 1) then .next s
    else
      let (s, code, q1) := ({ s with swapWait := r }).swapTo (c.sub.P0 0 1) s.nt
      let s := { s with accepted := s.accepted.map (fun x => if x == { c with begun := true } then { x with late := true } else x) }
      .next ((s.finish (fun x => x == { c with begun := true, late := true }) code s.nt q1 0).updPending c)

/-! ### Heddle commands (07 R298 to R303) -/

/-- 07 R300: another heddle of the bank is not IN_SERVICE. -/
def State.bankBusy (s : State) (h : Nat) : Bool :=
  (List.range 8).any (fun i => h / 8 * 8 + i != h && s.hed (h / 8 * 8 + i) != hdIn)

/-- HEDDLE_LOAD's block: LOAD's image is checked under R299. -/
def heddleCheck (action : Nat) (d : Submission) : Nat :=
  let img := d.bytes.drop 8
  let ok := if action = 0 then d.form 0 (72 + 64 * leAt img 4 2) && graphImageOk (img.take (64 + 64 * leAt img 4 2))
    else d.form action 8
  if ok then rOk else rBadParam

/-- HEDDLE_LOAD LOAD, DISABLE or ENABLE at its boundary (07 R300, R301). -/
def heddleAct (action : Nat) (c : Cmd) (s : State) : State × Answer :=
  let h := c.sub.P0 0 5
  let st := s.hed h
  let job : HedJob := { kind := action, image := c.sub.bytes.drop 8, cmd := c }
  let put := fun s : State => { s with hedJobs := Tbl.ins h job s.hedJobs }
  let out := st == hdOut || st == hdFault
  if action < 2 ∧ s.bankBusy h then (s, .done rBusy (s.hedQ1 h) 0)
  else if s.hedJobs.has h then (s, .done rState (s.hedQ1 h) 0)
  else if action < 2 ∧ st = hdIn then ((put s).setHed h hdDraining, .wait)
  else if action = 0 ∧ out then (((put s).writeGraph h job.image).setHed h hdLoading, .wait)
  else if action = 2 ∧ out then (put s, .wait)
  else (s, .done rState (s.hedQ1 h) 0)

/-- HEDDLE_LOAD. -/
def specHeddle (action : Nat) : CmdSpec where
  cls := clsMgmt
  block := true
  p0 := 0x1F
  first := onPick
  check d _ := heddleCheck action d
  act := heddleAct action

/-- HEDDLE_LOAD LOAD drains a heddle and writes a new parse graph (07 R301). -/
def execHeddleLoad (d : Submission) (s : State) : Host.Outcome State Fault Refusal :=
  .next ((specHeddle 0).take 0x4C true d s)

/-- HEDDLE_LOAD DISABLE drains a heddle and takes it out of service (07 R301). -/
def execHeddleDisable (d : Submission) (s : State) : Host.Outcome State Fault Refusal :=
  .next ((specHeddle 1).take 0x4C true d s)

/-- HEDDLE_LOAD ENABLE returns an OUT or FAULT heddle to service if its graph reads back (07 R301). -/
def execHeddleEnable (d : Submission) (s : State) : Host.Outcome State Fault Refusal :=
  .next ((specHeddle 2).take 0x4C true d s)

/-- A heddle's command ends. -/
def State.endHedJob (h code : Nat) (s : State) : State :=
  match Tbl.find h s.hedJobs with
  | none => s
  | some j =>
    ({ s with hedJobs := Tbl.del h s.hedJobs }).finish (fun c => c == { j.cmd with begun := true }) code s.nt (s.hedQ1 h) 0

/-- HEDDLE_DRAINED: a draining heddle has decided its last head and moves to LOADING or OUT (07 R301). -/
def execHeddleDrained (h : Nat) (s : State) : Host.Outcome State Fault Refusal :=
  if s.hed h ≠ hdDraining ∨ s.frames.any (fun x => x.2.stage == .heddle h) then .next s
  else match Tbl.find h s.hedJobs with
    | none => .next s
    | some j =>
      if j.kind = 0 then .next ((s.writeGraph h j.image).setHed h hdLoading)
      else .next ((s.hedService h false).endHedJob h rOk)

/-- HEDDLE_READBACK_DONE: a graph has been read back; the heddle resumes service or enters FAULT (07 R301). -/
def execHeddleReadbackDone (h : Nat) (ok : Bool) (s : State) : Host.Outcome State Fault Refusal :=
  match Tbl.find h s.hedJobs with
  | none => .next s
  | some j =>
    if j.kind = 1 ∨ (j.kind = 0 ∧ s.hed h ≠ hdLoading) then .next s
    else if ok then .next ((s.hedService h true).endHedJob h rOk)
    else if j.kind = 0 then .next ((s.hedFault h).endHedJob h rState)
    else .next ((s.setHed h hdFault).endHedJob h rState)

/-- HEDDLE_GRAPH_ERROR: an uncorrectable graph word puts a heddle in FAULT; its heads go to other heddles (07 R301, R304). -/
def execHeddleGraphError (h : Nat) (s : State) : Host.Outcome State Fault Refusal :=
  let s := ((s.set F.HED_ECC_ADDR_MEMORY 4).set F.HED_ECC_ADDR_GEN 0).set F.HED_ECC_ADDR_UNIT h
  .next (((s.hedEvent 2 h).hedFault h).endHedJob h rState)

/-- 07 R307: a write of HED_CTRL before RUN. -/
def State.hedCtrl (v : Word) (s : State) : State :=
  let old := (s.rd R.HED_CTRL).toNat
  let bank := fun k => bits v.toNat (8 * k) 8
  let s := s.when ((List.range 4).any (fun k => bank k == 0)) (State.hedEvent 6 0xFFFF)
  let new := (List.range 4).foldl (fun a k => a + (if bank k = 0 then bits old (8 * k) 8 else bank k) * 256 ^ k) 0
  let s := s.wr R.HED_CTRL (BitVec.ofNat 32 new)
  s.forEach (List.range 32) (fun h s =>
    if bit new h ∧ !bit old h then
      if (List.range 256).all (fun i => stateWordOk 256 (s.graphBytes h i)) then s.setHed h hdIn else s.hedFault h
    else if !bit new h ∧ bit old h then (s.returnHeads h).setHed h hdOut
    else s)

/-- HED_CTRL_WRITE: heddles are enabled or disabled before RUN, graphs checked on enable, an empty bank refused
(07 R307). -/
def execHedCtrlWrite (v : BitVec 32) (s : State) : Host.Outcome State Fault Refusal :=
  if s.run then .next s else .next (s.hedCtrl v)

/-- 07 R303, 18 R622: a reset of heddle scope: the graph stays, heads go to other heddles, a command under way is
cancelled. -/
def State.resetHeddle (h : Nat) (s : State) : State :=
  let s := (s.returnHeads h).endHedJob h rCancelled
  if s.hed h = hdDraining ∨ s.hed h = hdLoading then s.setHed h hdIn else s

end Sys2Proof.Machine
end

