-- ==== Sys2Proof/Machine/Mac.lean ====
section
/-! DEFINITION. Chapter 6: reception and its checks, tags and filters, PAUSE and PFC, sheds, the bobbin's drain, host frames
and launch frames up to their launch, and the MAC's commands. -/

namespace Sys2Proof.Machine

open Sys2Proof

/-! ### Flow control (06 R233 to R236) -/

/-- PAUSE_QUANTA, values below 0x0200 acting as 0x0200. -/
def State.quanta (s : State) (p : Nat) : Nat := max 0x200 (s.get (F.MAC_PAUSE_PAUSE_QUANTA p))

/-- 06 R234: `q` quanta on a port, in units of 2^-16 ns. -/
def State.quantaTime (s : State) (p q : Nat) : Nat := s.byteTime p (64 * q)

/-- 06 R235: the bytes of a control frame, with its FCS: to 01-80-C2-00-00-01 from the port's MAC_ADDR; PAUSE carries its time, PFC its vector
and a time for each class. -/
def State.ctlBytes (s : State) (c : Ctl) : List Byte :=
  let body := if c.opcode = 1 then beBytes 2 c.time
    else beBytes 2 c.vec ++ (List.range 8).flatMap (fun i => beBytes 2 (if bit c.vec i then c.time else 0))
  let l := beBytes 6 0x0180C2000001 ++ beBytes 2 (s.get (F.MAC_ADDR_HI_ADDR_HIGH c.port)) ++ beBytes 4 (s.get (F.MAC_ADDR_LO_ADDR_LOW c.port)) ++
    beBytes 2 0x8808 ++ beBytes 2 c.opcode ++ body
  let l := l ++ List.replicate (60 - l.length) 0
  l ++ leBytes 4 (crc32 l)

/-- A control frame of the port's mode queued, with time `t` for every class. -/
def State.sendCtl (p t : Nat) (s : State) : State :=
  match s.fcMode p with
  | 1 => { s with ctlQ := s.ctlQ ++ [{ port := p, opcode := 1, vec := 0xFF, time := t }] }
  | 2 => { s with ctlQ := s.ctlQ ++ [{ port := p, opcode := 0x0101, vec := 0xFF, time := t }] }
  | _ => s

/-- FLOW_CONTROL_SEND: a hold sent for every class (06 R235). -/
def State.sendHold (p : Nat) (s : State) : State :=
  if s.fcMode p = 0 ∨ s.portRst.contains p then s
  else ((s.sendCtl p (s.quanta p)).set (F.MAC_STATUS_XOFF_SENT p) 0xFF).start (.pauseRepeat p)

/-- FLOW_CONTROL_SEND: a release, time 0, for the classes held at the partner. -/
def State.sendRelease (p : Nat) (s : State) : State :=
  if s.get (F.MAC_STATUS_XOFF_SENT p) = 0 ∨ s.portRst.contains p then s
  else ((s.sendCtl p 0).set (F.MAC_STATUS_XOFF_SENT p) 0).stop (.pauseRepeat p)

/-- PAUSE_REPEAT: every PAUSE_QUANTA / 2 quanta of a hold, the MAC repeats its frame (06 R235). -/
def execPauseRepeat (p : Nat) (s : State) : Host.Outcome State Fault Refusal :=
  if s.get (F.MAC_STATUS_XOFF_SENT p) ≠ 0 ∧ s.ran (.pauseRepeat p) (s.quantaTime p (s.quanta p) / 2) then
    .next (s.sendHold p)
  else .next s

/-- A hold of class `c` (8: PAUSE, every class) by the link partner for `q` quanta; 0 releases. -/
def State.holdClass (p c q : Nat) (s : State) : State :=
  let f : Fld := if c = 8 then F.MAC_STATUS_RX_PAUSED p else ⟨R.MAC_STATUS p, 8 + c, 1⟩
  if q = 0 then (s.set f 0).stop (.pauseHold p c)
  else ({ s with pauseFor := Tbl.ins (p * 16 + c) q s.pauseFor } |>.set f 1).start (.pauseHold p c)

/-- Every hold received from the link partner cleared. -/
def State.clearHolds (p : Nat) (s : State) : State := s.forEach (List.range 9) (fun c => State.holdClass p c 0)

/-- 06 R233, R234: a control frame that passed its receive checks is consumed, counted and obeyed by mode; `e` is where its EtherType lies. -/
def State.control (p e : Nat) (l : List Byte) (s : State) : State :=
  let op := beAt l (e + 2) 2
  match s.fcMode p, op with
  | 1, 0x0001 => ((s.traffic p 4 1).holdClass p 8 (beAt l (e + 4) 2)).raise .mac 4 p
  | 2, 0x0101 =>
    let cs := (List.range 8).filter (fun c => bit (byteAt l (e + 5)) c && bit (s.get (F.MAC_PAUSE_PFC_OBEY p)) c)
    let s := (s.traffic p 5 1).forEach cs (fun c => State.holdClass p c (beAt l (e + 6 + 2 * c) 2))
    s.raise .mac 4 p
  | _, _ => s.traffic p 8 1

/-- PAUSE_HOLD_EXPIRY: a received pause time runs out and its classes are released (06 R234). -/
def execPauseHoldExpiry (p c : Nat) (s : State) : Host.Outcome State Fault Refusal :=
  if s.ran (.pauseHold p c) (s.quantaTime p (s.pauseFor.getD (p * 16 + c) 0)) then .next (s.holdClass p c 0)
  else .next s

/-! ### Membership, filters and consumed kinds -/

/-- 06 R227: whether a VID is a member on a port; VID 4095 never is. -/
def State.member (s : State) (p vid : Nat) : Bool :=
  vid != 4095 && s.on ⟨R.MAC_VLAN_MEMBER p (vid / 32), vid % 32, 1⟩

/-- Words 0 to 2 of a port's receive filter entries whose ACTION is not 0, in order. -/
def State.filtersOf (s : State) (p : Nat) : List (Nat × Nat × Nat) :=
  if 272 ≤ p then []
  else ((List.range 32).map (fun f =>
    let a := R.MAC_FILTER p f
    ((s.rd a).toNat, (s.rd (a + 4)).toNat, (s.rd (a + 8)).toNat))).filter (fun e => e.2.2 % 4 != 0)

/-- 06 R229: whether a filter entry matches an EtherType and a VID. -/
def filterHit (et vid : Nat) (e : Nat × Nat × Nat) : Bool :=
  let mask := e.1 / 65536
  (et &&& mask) == (e.1 % 65536 &&& mask) && (!bit e.2.1 12 || e.2.1 % 4096 == vid)

/-- What the MAC finds in a frame (06 R226 to R231): VID and PRIO, the discard fate, the filter's ACTION, RING and
MATCH_ID. -/
structure RxVerdict where
  vid    : Nat
  prio   : Nat
  fate   : Option Nat
  action : Nat := 0
  ring   : Nat := 0
  mid    : Nat := 0
  deriving DecidableEq, Repr

/-- 06 R226 to R231: membership and filters for a frame of port `p` with bytes `l`. -/
def State.verdict (s : State) (p : Nat) (filters : List (Nat × Nat × Nat)) (l : List Byte) : RxVerdict :=
  let (vid, prio) := s.vidPrio p l
  if s.on (F.MAC_CFG_INGRESS_FILTER p) ∧ !s.member p vid then { vid := vid, prio := prio, fate := some 0x23 }
  else match filters.find? (filterHit (beAt l (etherAt (s.sTpid p) l) 2) vid) with
    | some e =>
      { vid := vid, prio := prio, fate := none, action := e.2.2 % 4, ring := bits e.2.2 2 7, mid := e.2.2 / 65536 }
    | none =>
      { vid := vid, prio := prio,
        fate := if s.on (F.MAC_CFG_LISTED_ONLY p) ∧ p < 272 then some 0x22 else none }

/-- 11 R442: an ESMC PDU: slow-protocol EtherType, subtype 10, the ITU-T OUI. -/
def isEsmc (l : List Byte) (e : Nat) : Bool :=
  beAt l e 2 == 0x8809 && byteAt l (e + 2) == 0x0A && beAt l (e + 3) 3 == 0x0019A7

/-- 13 R512: a PTP message of the clock's domain in the port's transport. -/
def State.isPtp (s : State) (p : Nat) (l : List Byte) (e : Nat) : Bool :=
  let t := s.get (F.PTP_PORT_CFG_TRANSPORT p)
  let ip := e + 2
  let u4 := ip + byteAt l ip % 16 * 4
  let ptpPort := fun u => beAt l (u + 2) 2 == 319 || beAt l (u + 2) 2 == 320
  let here := fun i => byteAt l (i + 4) == s.get F.PTP_CLOCK_CFG_DOMAIN
  s.on (F.PTP_PORT_CFG_ENABLE p) && !s.on F.PTP_CLOCK_CFG_TC_ONLY &&
    (match t with
     | 1 => beAt l e 2 == 0x0800 && byteAt l (ip + 9) == 17 && ptpPort u4 && here (u4 + 8)
     | 2 => beAt l e 2 == 0x86DD && byteAt l (ip + 6) == 17 && ptpPort (ip + 40) && here (ip + 48)
     | _ => beAt l e 2 == 0x88F7 && here ip)

/-- 17 R597: the kind of a frame that the MAC consumes: 1 a control frame, 2 an ESMC PDU or PTP message, 3 an LLDPDU
(which a filter may still steer or copy), 0 none. -/
def State.consumed (s : State) (p : Nat) (l : List Byte) : Nat :=
  if 272 ≤ p then 0
  else
    let e := etherAt (s.sTpid p) l
    if beAt l e 2 = 0x8808 then 1
    else if isEsmc l e && s.on ⟨R.DPLL_ESMC_EN (p / 32), p % 32, 1⟩ then 2
    else if s.isPtp p l e then 2
    else if beAt l e 2 = 0x88CC ∧ s.on (F.KPL_PORT_CFG_ENABLE p) then 3
    else 0

/-! ### Reception -/

/-- MAX_FRAME of a port, held within its range (06 R214). -/
def State.maxFrame (s : State) (p : Nat) : Nat := max 1518 (min 16000 (s.get (F.MAC_CFG_MAX_FRAME p)))

/-- Whether a copy is its port's frame under reception. -/
def Frame.underway (f : Frame) (p : Nat) : Bool := f.port == p && !f.whole && f.pass == 1 && f.stage != .unread

/-- FRAME_FIRST_BYTE: a frame's first byte arrives on port `p`, `n` line bits after the marker that passed the tap point at
`tm`; it is entered in the ledger and judged by the halter (08 R330; 06 R243; 17 R597). `ctl` marks a frame of a kind that
the MAC consumes, which is entered only once it proves to be a frame. The filters and MAX_FRAME are those in force at its timestamp (06 R232,
R255). -/
def execFrameFirstByte (p tm n : Nat) (ctl : Bool) (s : State) : Host.Outcome State Fault Refusal :=
  if 272 ≤ p ∨ !s.portUp p ∨ s.heldDomain 8 ∨ s.nodeRst.contains (nodeOf p) ∨ s.frames.any (fun x => x.2.underway p) then .next s
  else
    let t := s.rxTime p tm n
    let rst := s.portRst.contains p
    let was := match Tbl.find p s.macWas with
      | some w => if t < w.till then (w.filters, w.maxFrame) else (s.filtersOf p, s.maxFrame p)
      | none => (s.filtersOf p, s.maxFrame p)
    let f : Frame :=
      { port := p, tin := t, tinDeg := s.degraded, stage := .receiving, inLedger := !ctl, stored := s.admits p || rst, flushed := rst,
        reserve := s.held p && s.fcMode p != 0, filters := was.1, maxFrame := was.2, gen := s.genAt t,
        root := s.nextId }
    .next ((s.when (!ctl) (State.enter p)).addFrame f)

/-- A frame not yet in the ledger is entered (17 R597). -/
def State.enterLate (f : Frame) (s : State) : State := if f.inLedger then s else s.enter f.port

/-- 06 R215: the receive fate of `L` bytes `l`, FCS included; 0 where the frame passes. -/
def rxFate (maxFrame : Nat) (l : List Byte) (pcs : Bool) : Nat :=
  if pcs then 0x13
  else if l.length < 64 then 0x11
  else if l.length > maxFrame then 0x12
  else if leAt l (l.length - 4) 4 ≠ crc32 (l.take (l.length - 4)) then 0x10
  else 0

/-- 06 R224: an FCS that is the inverse of the computed one. -/
def stomped (l : List Byte) : Bool :=
  leAt l (l.length - 4) 4 == 2 ^ 32 - 1 - crc32 (l.take (l.length - 4))

/-- The cause of a bad ending from a receive fate (06 R223). -/
def causeOf (fate : Nat) : Nat := if fate = 0x10 then 0 else if fate = 0x12 then 1 else 2

/-- 06 R216, R217: a frame fails its receive checks. One that leaves by cut-through, or still may, keeps its bytes and ends
stomped; any other ends with its receive fate. -/
def State.rxBad (id : Nat) (f : Frame) (l : List Byte) (fate : Nat) (s : State) : State :=
  let s := s.enterLate f
  let s := if fate = 0x10 ∧ stomped l then (s.raise .mac 3 f.port).traffic f.port 14 1 else s
  let n := min l.length f.maxFrame
  let mayCut := f.cut || (match f.stage with
    | .heddle _ => s.on (F.MAC_CFG_CUT_THROUGH f.port) && decide (256 < n) && !f.direct
    | _ => false)
  if mayCut ∧ fate ≠ 0x11 then
    s.modFrame id (fun f => { f with whole := true, len := n, data := l.take (n - 4), bad := some (causeOf fate),
                                     inLedger := true })
  else s.endFrame id fate

/-- A frame that passed: its filter's action, its copy, and its head waiting (06 R229 to R231; 08 R330; 07 R273). -/
def State.rxGood (id : Nat) (f : Frame) (l : List Byte) (v : RxVerdict) (s : State) : State :=
  let f' : Frame := { f with data := l.take (l.length - 4), tail := l.drop (l.length - 4), len := l.length, whole := true,
                             vid := v.vid, prio := v.prio, filterId := v.mid, inLedger := true,
                             matchId := if f.stage = .receiving then v.mid else f.matchId,
                             copyTo := if v.action = 3 then some v.ring else none }
  let f' := if v.action = 2 then { f' with direct := true, dest := .ring v.ring, tc := v.prio % 8 } else f'
  let s := { s with frames := Tbl.ins id f' s.frames }
  let s := if v.action = 3 then s.ringCopy { f' with tc := v.prio % 8 } v.ring v.mid .head else s
  if f.stage = .receiving then (s.place id .head).updHeld else s.settle id

/-- 06 R216, 17 R597: a frame's last byte has arrived on port `p`: `l` are its bytes with the FCS, `pcs` whether a block of
it lay in an uncorrectable codeword. In near-end loopback they are those that the port sent last, in far-end loopback the port sends them
again (05 R211). -/
def State.lastByte (p : Nat) (l : List Byte) (pcs : Bool) (s : State) : State :=
  let l := if s.get (F.LANE_CFG_LOOPBACK p) = 1 then s.sent.getD p l else l
  let s : State := if s.get (F.LANE_CFG_LOOPBACK p) = 2 then { s with sent := Tbl.ins p l s.sent } else s
  match s.firstBy (fun f => f.underway p) with
  | none => s
  | some (id, f) =>
    let kind := s.consumed p l
    if f.flushed then
      if kind ≠ 0 then s.dropFrame id else (s.enterLate f).endFrame id 0x35
    else
      let fate := rxFate f.maxFrame l pcs
      if fate ≠ 0 then s.rxBad id f l fate
      else
        let v := s.verdict p f.filters l
        if kind = 1 then (s.control p (etherAt (s.sTpid p) l) l).dropFrame id
        else if kind = 2 ∨ (kind = 3 ∧ v.action < 2) then s.dropFrame id
        else
          let s := ((s.enterLate f).traffic p 0 1).traffic p 1 l.length
          match v.fate with
          | some c => s.endFrame id c
          | none => if f.stored then s.rxGood id f l v else s.endFrame id 0x30

/-- FRAME_LAST_BYTE: a frame's last byte arrives; the receive checks, filters and membership decide its receive fate
(06 R216). -/
def execFrameLastByte (p : Nat) (l : List Byte) (pcs : Bool) (s : State) : Host.Outcome State Fault Refusal :=
  .next ((s.lastByte p l pcs).updHeld)

/-- CONTROL_FRAME_RECEIVE: the last byte of a PAUSE or PFC frame arrives; it is consumed and obeyed (06 R233, R234). A
frame that is no control frame takes its course as at FRAME_LAST_BYTE. -/
def execControlFrameReceive (p : Nat) (l : List Byte) (s : State) : Host.Outcome State Fault Refusal :=
  .next ((s.lastByte p l false).updHeld)

/-- HEAD_DISPATCH: a waiting head of node `n` goes to the first in-service heddle of its bank with room (07 R261). `l` are
the bytes that have arrived of a frame not yet whole, which needs more than 256 of them: a frame of 256 bytes is received whole first
(06 R217, R221). -/
def execHeadDispatch (n id : Nat) (l : List Byte) (noRoom : Nat) (s : State) : Host.Outcome State Fault Refusal :=
  match s.frame id, s.pickHeddle n noRoom with
  | some f, some h =>
    if f.inNode ≠ n ∨ s.headBefore f then .next s
    else if f.stage = .head then .next (s.dispatch id f h)
    else if f.stage = .receiving ∧ 256 < l.length ∧ f.stored ∧ !f.flushed ∧ f.inLedger then
      let v := s.verdict f.port f.filters l
      if v.fate.isSome then .next s
      else
        let f' : Frame := { f with data := l.take f.maxFrame, arrived := min l.length f.maxFrame, vid := v.vid, prio := v.prio, filterId := v.mid,
                                   matchId := v.mid, copyTo := if v.action = 3 then some v.ring else none }
        let f' := if v.action = 2 then { f' with direct := true, dest := .ring v.ring, tc := v.prio % 8 } else f'
        .next (({ s with frames := Tbl.ins id f' s.frames }).dispatch id f' h)
    else .next s
  | _, _ => .next s

/-! ### Reset of port scope (06 R248, R249; 18 R622) -/

/-- A reset of one port's MAC. -/
def State.resetPort (p : Nat) (s : State) : State :=
  let n := (s.bobbins.getD p []).length
  let s := (({ s with bobbins := Tbl.del p s.bobbins }).bump (F.MAC_BOBBIN_LOST p) n).bobbinShow p
  let s := s.clearHolds p
  let s := s.forEach (s.framesBy (fun f => f.underway p)) (fun x s =>
    if x.2.inLedger then s.endFrame x.1 0x35 else s.dropFrame x.1)
  let s := s.endFrames (fun f => f.stage == .sending && f.dest.egressPort == some p) 0x35
  ({ s with portRst := if s.portRst.contains p then s.portRst else s.portRst ++ [p],
            ctlQ := s.ctlQ.filter (fun c => c.port != p) }).start (.portReset p)

/-- Whether an index names a port that a reset of port scope may name. -/
def State.portIndexOk (s : State) (p : Nat) : Bool := decide (p ≤ 272) && s.badPort p == rOk

/-- At a pick cycle: port resets that have lasted 10 µs end, but for a port held for want of its clock (03 R87); the halter's hold is sent. -/
def State.endPortResets (s : State) : State :=
  let done := s.portRst.filter (fun p => s.ran (.portReset p) (10 * us) && !s.elemHeld.contains (.ports, p))
  s.forEach done (fun p s =>
    let s := ({ s with portRst := s.portRst.filter (fun q => q != p) }).stop (.portReset p)
    if s.held p then s.sendHold p else s)

/-! ### PORT_SET, FILTER_SET, SHED_SET (06 R238, R255 to R257) -/

/-- The registers that PORT_SET CONFIGURE writes, in block order. -/
def portRegs (p : Nat) : List Nat :=
  [R.MAC_CFG p, R.MAC_TAG p, R.MAC_PAUSE p, R.MAC_LAUNCH p, R.MAC_ADDR_LO p, R.MAC_ADDR_HI p]

/-- A port index from 0 to `hi` under R11. -/
def State.portUpTo (s : State) (hi p : Nat) : Nat := if p > hi then rBadPort else s.badPort p

/-- A port's receive filters and MAX_FRAME as they are until boundary `b` (06 R232, R255). -/
def State.macKeep (p b : Nat) (s : State) : State :=
  { s with macWas := Tbl.ins p { till := b, filters := s.filtersOf p, maxFrame := s.maxFrame p } s.macWas }

/-- PORT_SET CONFIGURE. A change of FC_MODE releases every hold under the old mode; while the halter holds the port, a hold of the new mode
follows (06 R236). -/
def specPortConfigure : CmdSpec where
  cls := clsMgmt
  block := true
  p0 := 0x1FF
  first := onPick
  check d s :=
    if !d.form 0 32 || !d.regsOk 8 (portRegs 0) || bits (d.le 8 4) 1 2 == 3 then rBadParam
    else s.portUpTo 272 (d.P0 0 9)
  act c s :=
    let d := c.sub
    let p := d.P0 0 9
    let change := decide (p < 272) && bits (d.le 8 4) 1 2 != s.get (F.MAC_CFG_FC_MODE p)
    let s := s.when change (fun s => (s.clearHolds p).sendRelease p)
    (((s.macKeep p c.boundary).putRegs d 8 (portRegs p)).when (change && s.held p) (State.sendHold p), .done rOk 0 0)

/-- PORT_SET VLAN_MEMBER. -/
def specPortVlan : CmdSpec where
  cls := clsMgmt
  block := true
  p0 := 0x1FF
  first := onPick
  check d s := if !d.form 1 520 then rBadParam else s.portUpTo 272 (d.P0 0 9)
  act c s :=
    let d := c.sub
    (s.wrWords (R.MAC_VLAN_MEMBER (d.P0 0 9) 0) ((List.range 128).map (fun w =>
      let v := d.le (8 + 4 * w) 4
      if w = 127 then v % 2 ^ 31 else v)), .done rOk 0 0)

/-- FILTER_SET: whether its block is well-formed. -/
def filterBlockOk (d : Submission) : Bool :=
  let n := d.b 1
  decide (d.b 0 ≤ 31) && decide (1 ≤ n) && decide (n ≤ 32) && decide (d.b 0 + n ≤ 32) && zeroBytes d.bytes 2 6 &&
    d.len == 8 + 16 * n &&
    (List.range n).all (fun i =>
      d.regsOk (8 + 16 * i) [R.MAC_FILTER 0 0, R.MAC_FILTER 0 0 + 4, R.MAC_FILTER 0 0 + 8] &&
        d.le (20 + 16 * i) 4 == 0)

/-- FILTER_SET. -/
def specFilterSet : CmdSpec where
  cls := clsMgmt
  block := true
  p0 := 0x1FF
  first := onPick
  check d s := if !filterBlockOk d then rBadParam else s.portUpTo 271 (d.P0 0 9)
  act c s :=
    let d := c.sub
    let p := d.P0 0 9
    ((s.macKeep p c.boundary).forEach (List.range (d.b 1)) (fun i => State.wrWords (R.MAC_FILTER p (d.b 0 + i))
      ((List.range 3).map (fun w => d.le (8 + 16 * i + 4 * w) 4))), .done rOk 0 0)

/-- A frame ends SHED_MISSED on a port. -/
def State.shedMissed (id p : Nat) (s : State) : State := (s.endFrame id 0x33).raise .mac 5 p

/-- A class-queue head whose transmission exceeds every open run ends SHED_MISSED at once (06 R240). `k` bounds them. -/
def State.pruneFrom (p : Nat) : Nat → State → State
  | 0, s => s
  | k + 1, s =>
    let head := (List.range 8).findSome? (fun c =>
      match s.firstBy (fun f => f.stage == .egress && f.dest.egressPort == some p && f.tc == c) with
      | some (id, f) => if s.neverFits p c (s.txTime p f) then some id else none
      | none => none)
    match head with
    | some id => State.pruneFrom p k (s.shedMissed id p)
    | none => s

/-- The class queues of a port whose heads or shed have changed (06 R240). -/
def State.pruneShed (p : Nat) (s : State) : State := s.pruneFrom p s.frames.length

/-- SHED_SET's block with ENABLE 1 (06 R238). -/
def shedBlockOk (d : Submission) : Bool :=
  let n := d.le 12 2
  let cyc := d.le 8 4
  let base := d.le 0 8
  decide (1 ≤ n) && decide (n ≤ 256) && d.len == 16 + 8 * n && d.b 15 == 0 && cyc % 50 == 0 && decide (1000 ≤ cyc) &&
    decide (cyc ≤ 1000000000) && base % 65536 == 0 && base / 65536 % 50 == 0 &&
    (List.range n).all (fun e => zeroBytes d.bytes (17 + 8 * e) 3 && decide (1 ≤ d.le (20 + 8 * e) 4))

/-- SHED_SET's checks: ENABLE 1 those of R238; ENABLE 0 only its length, ENABLE and the reserved byte. -/
def shedCheck (d : Submission) (s : State) : Nat :=
  let ok := if d.b 14 = 1 then shedBlockOk d else d.b 14 == 0 && d.len == 16 && d.b 15 == 0
  if !ok then rBadParam else s.portUpTo 271 (d.P0 0 9)

/-- The boundary of a SHED_SET: the start of its port's next shed cycle (06 R242). -/
def onShed : Submission → State → Option (Nat → Nat) := fun d s => some (s.shedStart (d.P0 0 9))

/-- SHED_SET, with either ENABLE. -/
def specShedSet : CmdSpec where
  cls := clsMgmt
  block := true
  p0 := 0x1FF
  first := onShed
  check := shedCheck
  act c s :=
    let d := c.sub
    let p := d.P0 0 9
    let t := if d.b 14 = 1 then
        Tbl.ins p { base := d.le 0 8, cycleNs := d.le 8 4,
                    entries := (List.range (d.le 12 2)).map (fun e => (d.b (16 + 8 * e), d.le (20 + 8 * e) 4)) } s.sheds
      else Tbl.del p s.sheds
    ((({ s with sheds := t }).updShed p).pruneShed p, .done rOk 0 0)

/-- PORT_SET CONFIGURE writes a port's MAC_CFG, MAC_TAG, MAC_PAUSE, MAC_LAUNCH and address (06 R255). -/
def execPortSetConfigure (d : Submission) (s : State) : Host.Outcome State Fault Refusal :=
  .next (specPortConfigure.take 0x40 true d s)

/-- PORT_SET VLAN_MEMBER writes a port's VLAN membership bitmap (06 R255). -/
def execPortSetVlanMember (d : Submission) (s : State) : Host.Outcome State Fault Refusal :=
  .next (specPortVlan.take 0x40 true d s)

/-- FILTER_SET writes receive filter entries of a port (06 R256). -/
def execFilterSet (d : Submission) (s : State) : Host.Outcome State Fault Refusal :=
  .next (specFilterSet.take 0x4B true d s)

/-- SHED_SET with ENABLE 1 installs a new shed at the start of the next shed cycle (06 R242). -/
def execShedSetEnable (d : Submission) (s : State) : Host.Outcome State Fault Refusal :=
  .next (specShedSet.take 0x4A true d s)

/-- SHED_SET with ENABLE 0 opens every gate of a port (06 R242). -/
def execShedSetDisable (d : Submission) (s : State) : Host.Outcome State Fault Refusal :=
  .next (specShedSet.take 0x4A true d s)

/-- SHED_ENTRY_CHANGE: network time reaches the next shed entry and the port's gates change (06 R237). -/
def execShedEntryChange (p : Nat) (s : State) : Host.Outcome State Fault Refusal := .next (s.updShed p)

/-! ### The bobbin's drain (06 R245; 04 R148) -/

/-- BOBBIN_DRAIN: a TS ring with completion room drains the oldest entry of a bobbin it serves as one completion. -/
def execBobbinDrain (r p : Nat) (s : State) : Host.Outcome State Fault Refusal :=
  let serves := s.cls r == clsTs && decide (s.get (F.HIF_RING_PARAM_FIRST_PORT r) ≤ p) &&
    decide (p ≤ s.get (F.HIF_RING_PARAM_LAST_PORT r))
  match s.bobbins.getD p [] with
  | [] => .next s
  | e :: q =>
    if serves && s.run && !s.relink && s.groomUp && s.cqRoom r != 0 then
      let s := ({ s with bobbins := Tbl.put [] p q s.bobbins }).bobbinShow p
      let q1 := p + e.tsId * 2 ^ 9 + b2n e.oneStep * 2 ^ 21 + b2n e.late * 2 ^ 22 + b2n e.notSent.isSome * 2 ^ 23 +
        e.notSent.getD 0 * 2 ^ 24
      .next (s.complete r
        { status := 0, sqIndex := 0xFFFF, result := rOk,
          cflags := cflagsOf false false false e.degraded, tag := 0,
          time := BitVec.ofNat 64 e.time, q1 := BitVec.ofNat 64 q1, q2 := 0 })
    else .next s

/-! ### Host frames (04 R145; 06 R219, R250, R251) -/

/-- FETCH_US of a port, clamped to 5 to 1,000 µs. -/
def State.fetchUs (s : State) (p : Nat) : Nat := max 5 (min 1000 (s.get (F.MAC_LAUNCH_FETCH_US p)))

/-- A FRAME_TX buffer read: the frame's bytes, padded, with its FCS. -/
def hostBytes (d : Submission) : List Byte :=
  let n := d.P0 16 14
  let l := d.bytes.take n
  l ++ List.replicate (max n 60 - l.length) 0

/-- 04 R145: checks of a FRAME_TX submission. -/
def txCheck (d : Submission) (s : State) : Nat :=
  let p := d.P0 0 9
  if d.P0 16 14 < 14 ∨ (d.at? ∧ p = 0x1FF) then rBadParam
  else if p = 0x1FF then rOk
  else s.portUpTo 271 p

/-- A host frame whose buffer has been read waits for its heddle, ends RESET_FLUSHED while port 272 is being reset (06 R249), or ends
VLAN_NOT_MEMBER (06 R227). -/
def State.hostRead (id : Nat) (d : Submission) (s : State) : State :=
  let l := hostBytes d
  let (vid, prio) := s.vidPrio 272 l
  let s := (s.modFrame id (fun f => { f with
    data := l, tail := leBytes 4 (crc32 l), len := l.length + 4, whole := true, readAt := ct s.nt, vid := vid, prio := prio,
    tin := s.nt, tinDeg := s.degraded, gen := s.genAt s.nt })).place id .head
  if s.portRst.contains 272 then s.endFrame id 0x35
  else
    let s := (s.traffic 272 0 1).traffic 272 1 (l.length + 4)
    if d.P0 0 9 = 0x1FF ∧ s.on (F.MAC_CFG_INGRESS_FILTER 272) ∧ !s.member 272 vid then s.endFrame id 0x23 else s

/-- Whether a FRAME_TX submission's buffer is read on acceptance (06 R251): no launch frame, or one whose launch time is less than FETCH_US
ahead. -/
def State.readsNow (s : State) (d : Submission) : Bool :=
  !d.at? || decide (s.ofCt d.time.toNat < (s.nt + s.fetchUs (d.P0 0 9) * us : Nat))

/-- Whether a FRAME_TX submission is longer than port 272's MAX_FRAME (06 R219). -/
def State.txLong (s : State) (d : Submission) : Bool := decide (d.P0 16 14 + 4 > s.maxFrame 272)

/-- A FRAME_TX submission accepted at `acc` (06 R219, R251, R254; 17 R597). -/
def State.acceptTx (d : Submission) (acc : Nat) (s : State) : State :=
  let p := d.P0 0 9
  let launch := if d.at? then some (s.ofCt d.time.toNat) else none
  let c : Cmd := { s.newCmd 1 d acc with begun := true }
  let id := s.nextId
  let f : Frame :=
    { port := 272, tin := s.nt, tinDeg := s.degraded, stage := .unread, direct := p != 0x1FF,
      dest := if p = 0x1FF then .none else .port p, tc := d.P0 9 3,
      tsId := if d.tsReq then some (d.P2 0 12) else none, cmd := some (s.era, d.ring, d.index), launch := launch,
      isLaunch := d.at?, late := (launch.map (fun t => decide (t < (acc : Int)))).getD false, gen := s.genAt s.nt, root := id }
  let s := ((({ s with accepted := s.accepted ++ [c] }).enter 272).addFrame f)
  if s.txLong d then (s.modFrame id (fun f => { f with readAt := ct s.nt, stage := .head })).endFrame id 0x12
  else if s.readsNow d then s.hostRead id d
  else s

/-- FRAME_TX. Its buffer is no parameter block, and is read after the checks of acceptance (04 R140; 06 R251). -/
def specTxFrame : CmdSpec where
  cls := clsFrameTx
  block := false
  p0 := 0x3FFF0FFF
  p2 := 0xFFF
  first := fun _ _ => some id
  check := txCheck
  act _ s := (s, .wait)

/-- The result of a FRAME_TX submission at acceptance: R140's checks, then DMA_ERROR where a buffer read at once cannot be read. -/
def State.txRefusal (d : Submission) (acc : Nat) (s : State) : Nat :=
  let code := specTxFrame.refusal d acc s
  if code ≠ rOk then code else if d.block.isNone && s.readsNow d && !s.txLong d then rDmaError else rOk

/-- TX_FRAME: FRAME_TX enters a host frame for a port, the heddles or a launch time (04 R145). A held host port fetches no
submission (08 R331). -/
def State.txFrame (d : Submission) (s : State) : State :=
  if s.fetches clsFrameTx d ∧ !s.innerHold.contains 272 then
    let s := s.fetched d
    let acc := s.acceptAt false d
    let code := s.txRefusal d acc
    if code ≠ rOk then
      (s.refusalErr (specTxFrame.reservedSet d) code d).completeCmd (s.newCmd 1 d acc) code acc 0 0
    else (s.acceptTx d acc).updHeld
  else s

/-- TX_FRAME: FRAME_TX enters a host frame for a port, the heddles or a launch time (04 R145). -/
def execTxFrame (d : Submission) (s : State) : Host.Outcome State Fault Refusal := .next (s.txFrame d)

/-- A launch frame's buffer cannot be read: its command completes DMA_ERROR, and the module is left as it was before it, the ledger's entry
among it (04 R140; log entry 78). -/
def State.launchUnread (id : Nat) (c : Cmd) (s : State) : State :=
  let s := ({ s with accepted := s.accepted.erase c }).dropFrame id
  let s := { s with ctr := Tbl.put 0 (ctrKey 0 272 0) (s.ctrOf 0 272 0 - 1) s.ctr }
  ((s.hifErr 2 c.sub.ring c.sub.p1.toNat).completeCmd c rDmaError s.nt 0 0).updHeld

/-- LAUNCH_FETCH: FETCH_US before its launch time the module reads a launch frame's buffer (06 R251). -/
def execLaunchFetch (id : Nat) (s : State) : Host.Outcome State Fault Refusal :=
  match s.frame id with
  | some f =>
    match f.stage, f.launch, f.cmd, f.dest with
    | .unread, some t, some cmd, .port p =>
      if (s.nt + s.fetchUs p * us : Nat) < t then .next s
      else match s.accepted.find? (fun c => c.begun && c.key == cmd) with
        | some c => .next (if c.sub.block.isNone then s.launchUnread id c else s.hostRead id c.sub)
        | none => .next s
    | _, _, _, _ => .next s
  | none => .next s

end Sys2Proof.Machine
end

