-- ==== Sys2Proof/Machine/Loom.lean ====
section
/-! DEFINITION. Chapter 8: the beam's release, woven streams, shuttles through warp, weft and reed, the hayloft, the halter,
multicast, ageing, and the loom's commands; with the rations that a warp pick needs (09 R357 to R359, R365, R366). -/

namespace Sys2Proof.Machine

open Sys2Proof

/-- A LOOM_EVENT bit set for a node, with the handle or session it concerns. -/
def State.loomEvent (b node detail : Nat) (s : State) : State := s.raiseD .loom b node detail

/-! ### Woven streams (08 R342 to R344) -/

/-- One pick: 1.25 ns. -/
def pickTime : Nat := grid / 40

/-- A woven handle's reservation bytes, from LOOM_WOVEN. -/
def State.wovenBytes (s : State) (w : Nat) : List Byte :=
  (List.range 6).flatMap (fun i => leBytes 4 (s.rd (R.LOOM_WOVEN w + 4 * i)).toNat)

/-- The warp picks of a reservation. -/
def wovenPicks (b : List Byte) : List Nat := (List.range (byteAt b 1)).map (fun i => byteAt b (16 + i))

/-- Handles with a reservation. -/
def State.wovenHandles (s : State) : List Nat :=
  ((s.regs.filter (fun r => decide (R.LOOM_WOVEN 0 ≤ r.1) && decide (r.1 < R.LOOM_WOVEN 4096) &&
    (r.1 - R.LOOM_WOVEN 0) % 0x20 == 24)).map (fun r => (r.1 - R.LOOM_WOVEN 0) / 0x20)).filter
    (fun w => s.get (F.LOOM_WOVEN_STATE w) != 0)

/-- 08 R343: t_ref of a woven frame: its stream is anchored by its first frame, and re-anchored beyond 20 ns. -/
def State.wovenRef (w node tin : Nat) (s : State) : Nat × State :=
  let x := tin + leAt (s.wovenBytes w) 6 2 * ns
  let phi := s.get (F.LOOM_WOVEN_PHI w)
  let anchor := fun s : State => (s.set (F.LOOM_WOVEN_PHI w) (x % grid)).set (F.LOOM_WOVEN_STATE w) 2
  if s.get (F.LOOM_WOVEN_STATE w) ≠ 2 then (x, anchor s)
  else
    let n := (x + grid - phi + grid / 2) / grid - 1
    let t := n * grid + phi
    let d := if x ≥ t then x - t else t - x
    if d > 20 * ns then (x, (anchor s).loomEvent 5 node w) else (t, s)

/-- 08 R343, R344: the pick cycle of a woven frame: the first whose earliest reserved pick starts at or after t_ref and that
no other frame of the stream has, none beyond four cycles after t_ref. -/
def State.wovenCycle (s : State) (w t : Nat) : Option Nat :=
  let p := (wovenPicks (s.wovenBytes w)).foldl min 36
  let c := ceilGrid (t - p * pickTime)
  let taken := fun k => s.frames.any (fun x => x.2.stage == .woven && x.2.wovenTo == some w && x.2.cycle == k)
  ((List.range 5).map (fun i => c + i * grid)).find? (fun k => !taken k && decide (s.nt ≤ k) && decide (k ≤ t + 4 * grid))

/-- The frames that wait in a stream's queue. -/
def State.wovenWaiting (s : State) (w : Nat) : List (Nat × Frame) :=
  s.framesBy (fun f => f.stage == .woven && f.wovenTo == some w)

/-- 08 R344: a frame released with a woven handle: it takes its cycle, or goes on as an ordinary frame. -/
def State.releaseWoven (id w : Nat) (f : Frame) (s : State) : State :=
  let b := s.wovenBytes w
  let n := f.inNode
  if s.get (F.LOOM_WOVEN_STATE w) = 0 ∨ s.on F.LOOM_STATUS_SAFE_CLOCK then s.enqueue id
  else if leAt b 2 2 % 512 ≠ f.port ∨ f.dest ≠ .port (leAt b 4 2 % 512) then (s.loomEvent 8 n w).enqueue id
  else if f.len + 8 > 304 * byteAt b 1 then (s.loomEvent 7 n w).enqueue id
  else
    let (t, s) := s.wovenRef w n f.tin
    match s.wovenCycle w t with
    | some c =>
      if (s.wovenWaiting w).length < 4 then
        (s.place id .woven).modFrame id (fun f => { f with
          cycle := c, launch := some ((c + 100 * ns + leAt b 8 2 * ns : Nat) : Int) })
      else (s.loomEvent 6 n w).enqueue id
    | none => (s.loomEvent 6 n w).enqueue id

/-- Frames waiting in a stream's queue are forwarded as ordinary frames (08 R344, R345). -/
def State.unweave (w : Nat) (s : State) : State :=
  s.forEach (s.wovenWaiting w) (fun x s =>
    (s.modFrame x.1 (fun f => { f with wovenTo := none, launch := none })).enqueue x.1)

/-! ### BEAM_RELEASE (07 R264; 09 R365, R366) -/

/-- 09 R365, R366: a generation handle numbers a frame that its home node's beam releases. -/
def State.frerGenerate (id : Nat) (f : Frame) (s : State) : State :=
  match f.stream with
  | none => s
  | some h =>
    if s.get (F.FRER_STREAM_MODE h) ≠ 1 then s
    else if s.get (F.FRER_STREAM_HOME_NODE h) ≠ f.inNode then
      (s.raise .frer 0 h).modFrame id (fun f => { f with rtag := none, made := true })
    else
      let n := s.get (F.FRER_STATE_SEQ h)
      ((s.set (F.FRER_STATE_SEQ h) (n + 1)).count 4 h 0 1).modFrame id
        (fun f => { f with rtag := some n, made := true, rtagIns := s.on (F.FRER_STREAM_RTAG_INSERT h) })

/-- A decided frame may leave the beam: no earlier head of its port is undecided (07 R264, 01 R27). -/
def State.beamReady (s : State) (q : Nat) (f : Frame) : Bool :=
  f.stage == .beam && f.qport == q && f.after.fate.isNone && (f.wovenTo.isNone || f.whole) &&
    !s.seqBefore f

/-- BEAM_RELEASE: the beam releases the next decided head of an ingress port in sequence order (07 R264). -/
def execBeamRelease (q : Nat) (s : State) : Host.Outcome State Fault Refusal :=
  match s.firstBy (s.beamReady q) with
  | none => .next s
  | some (id, f) =>
    let s := s.frerGenerate id f
    match f.wovenTo with
    | some w => .next (s.releaseWoven id w f)
    | none => .next (s.enqueue id)

/-! ### Rations at the input node (09 R357 to R359) -/

/-- The key of a balance. -/
def balKey (i e : Nat) : Nat := e * 512 + i

/-- 09 R358: whether a frame needs a ration to take a warp pick. -/
def State.rationed (s : State) (f : Frame) : Option Nat :=
  match f.dest with
  | .port e =>
    if e < 272 ∧ s.on (F.EGR_PORT_STATUS_RATIONED e) ∧ bit (s.get (F.EGR_RATION_CFG_RATIONED_TC e)) f.tc ∧
        f.mirror.isNone then some e
    else none
  | _ => none

/-- 09 R358: whether a frame may take a warp pick under its rations. -/
def State.rationOk (s : State) (f : Frame) : Bool :=
  match s.rationed f with
  | some e => decide (0 < s.balance.getD (balKey f.port e) 0)
  | none => true

/-- 09 R358: a frame whose first shuttle leaves is charged. -/
def State.chargeRation (f : Frame) (s : State) : State :=
  match s.rationed f with
  | some e =>
    let k := balKey f.port e
    { s with balance := Tbl.ins k (s.balance.getD k 0 - (((f.len + 20 + 63) / 64 * 256 : Nat) : Int)) s.balance }
  | none => s

/-! ### Multicast at the input node (08 R333, R334) -/

/-- A word of the group entry in force: in the pick cycle of a change, the one before it (08 R348). -/
def State.groupWord (s : State) (g i : Nat) : Nat :=
  match Tbl.find g s.groupWas with
  | some l => l.getD i 0
  | none => (s.rd (R.LOOM_GROUP g + 4 * i)).toNat

/-- The ports of a group entry. -/
def State.groupPorts (s : State) (g : Nat) : List Nat :=
  (List.range 272).filter (fun p => bit (s.groupWord g (p / 32)) (p % 32))

/-- The nodes of a list of ports, in order. -/
def nodesOf (ps : List Nat) : List Nat := (ps.map nodeOf).eraseDups

/-- A multicast frame leaves its ingress queue: one node copy for each output node of the group in force, in its place. FRAME_TX of a host frame
completes with the first node copy (log entry 83). -/
def State.expandGroup (id : Nat) (f : Frame) (g : Nat) (s : State) : State :=
  let ps := s.groupPorts g
  let ps := if bit (s.groupWord g 8) 17 then ps else ps.filter (fun p => p != f.port)
  match nodesOf ps with
  | [] => s.endFrame id 0x21
  | n0 :: rest =>
    if !bit (s.groupWord g 8) 16 then s.endFrame id 0x21
    else
      let at0 := fun n => ps.filter (fun p => nodeOf p == n)
      let s := s.forEach (List.range (ps.length - 1)) (fun _ => State.madeCopy f.port)
      let s := s.modFrame id (fun f => { f with dest := .mask n0 (at0 n0), root := id })
      s.forEach rest (fun n s =>
        { s with frames := Tbl.ins s.nextId { f with dest := .mask n (at0 n), root := id, cmd := none } s.frames,
                 nextId := s.nextId + 1 })

/-- Every multicast frame ready at a node's ingress queues makes its node copies. -/
def State.expandGroups (n : Nat) (s : State) : State :=
  s.forEach (s.framesBy (fun f => f.stage == .ingress && f.inNode == n && f.whole && !f.spilled)) (fun x s =>
    match x.2.dest with
    | .group g => s.expandGroup x.1 x.2 g
    | _ => s)

/-! ### WARP_SEND (08 R313, R317, R318) -/

/-- The key of a (source, output) pair. -/
def pairKey (s d : Nat) : Nat := s * 36 + d

/-- A pair's numbers. -/
def State.pair (s : State) (n d : Nat) : Pair := s.pairs.getD (pairKey n d) {}

/-- 08 R317: intermediate credit of node `n` for output `d` at intermediate `j`. -/
def State.interCredit (s : State) (n j d : Nat) : Bool :=
  decide ((s.shuttles.filter (fun x => x.place == .inter && x.src == n && x.via == j && x.dst == d)).length < 2)

/-- 08 R317: egress credit of output `d` at intermediate `j`. -/
def State.egressCredit (s : State) (j d : Nat) : Bool :=
  decide ((s.shuttles.filter (fun x => x.place != .inter && x.via == j && x.dst == d)).length < 2)

/-- 08 R315: whether a frame has or can take a record row at its input node. -/
def State.rowFree (s : State) (n : Nat) (f : Frame) : Bool :=
  s.rows.any (fun r => r.node == n && r.root == f.root) ||
    decide ((s.rows.filter (fun r => r.node == n)).length < 16384)

/-- A record row written or extended for a frame's output node. -/
def State.takeRow (n : Nat) (f : Frame) (s : State) : State :=
  let d := f.dest.node
  if s.rows.any (fun r => r.node == n && r.root == f.root) then
    { s with rows := s.rows.map (fun r => if r.node == n && r.root == f.root then { r with wait := r.wait ++ [d] } else r) }
  else { s with rows := s.rows ++ [{ node := n, root := f.root, wait := [d] }] }

/-- Bytes of a frame that can be sent now; `arrived` bounds those of a frame not yet whole. -/
def Frame.ready (f : Frame) (arrived : Nat) : Nat := (if f.whole then f.len else min f.maxFrame (max f.arrived arrived)) - f.sent

/-- 08 R313, R318: whether a frame at the front of its queue may start in a shuttle through intermediate `j`. -/
def State.mayStart (s : State) (n j : Nat) (f : Frame) : Bool :=
  !f.spilled && (f.whole || f.cut) && s.interCredit n j f.dest.node && !s.nodeRst.contains f.dest.node && s.rowFree n f &&
    s.rationOk f && (match f.dest with | .group _ => false | _ => true)

/-- The frames of port `q` that may start now, each at the front of its queue, for output `d` where one is given. -/
def State.starters (s : State) (n j q : Nat) (d : Option Nat) : List (Nat × Frame) :=
  let l := s.framesBy (fun f => f.stage == .ingress && f.inNode == n && f.qport == q)
  l.filter (fun x => s.mayStart n j x.2 && (d == none || d == some x.2.dest.node) &&
    !l.any (fun y => decide (y.2.order < x.2.order) && y.2.dest.node == x.2.dest.node && y.2.tc == x.2.tc))

/-- 08 R318, 09 R351: the next frame to start: round robin over the node's ports; `choice` picks among one port's
queues, where the spec names no order. -/
def State.nextStart (s : State) (n j choice : Nat) (d : Option Nat) : Option (Nat × Frame) :=
  let ps := nodePorts n
  let k := s.warpPtr.getD n 0
  let order := (List.range ps.length).map (fun i => ps.getD ((k + i) % ps.length) 0)
  order.foldl (fun r q =>
    match r with
    | some x => some x
    | none =>
      let l := s.starters n j q d
      if l.isEmpty then none else l[choice % l.length]?) none

/-- A segment of `b` bytes of a frame goes into a shuttle; a FRAME_TX frame that has left N34 completes (04 R145). -/
def State.sendSeg (id b : Nat) (s : State) : State :=
  let s := s.modFrame id (fun f => { f with stage := .loom, sent := f.sent + b })
  match s.frame id with
  | some f =>
    if f.whole ∧ f.len ≤ f.sent then
      match f.cmd with
      | some c => (s.modFrame id (fun f => { f with cmd := none })).completeTx c none f.readAt
      | none => s
    else s
  | none => s

/-- A frame's first shuttle leaves: its row, its ration, its serial, and the round-robin pointer. -/
def State.startFrame (n : Nat) (f : Frame) (s : State) : State :=
  let s := (s.takeRow n f).chargeRation f
  let d := f.dest.node
  let p := s.pair n d
  let s := { s with pairs := Tbl.ins (pairKey n d) { p with serial := (p.serial + 1) % 65536 } s.pairs }
  let ps := nodePorts n
  { s with warpPtr := Tbl.ins n (((ps.findIdx? (fun q => q == f.qport)).getD 0 + 1) % ps.length) s.warpPtr }

/-- 08 R313: frames start in a shuttle for `d` until it is full or four have; `room` bytes are left. -/
def State.fillShuttle (n j d choice : Nat) : Nat → Nat → List (Nat × Nat) → State → List (Nat × Nat) × State
  | 0, _, segs, s => (segs, s)
  | k + 1, room, segs, s =>
    if room ≤ 8 then (segs, s)
    else match s.nextStart n j choice (some d) with
      | none => (segs, s)
      | some (id, f) =>
        if f.cut then (segs, s)
        else
          let b := min (room - 8) f.len
          let s := (s.startFrame n f).sendSeg id b
          if b < f.len then (segs ++ [(id, b)], s)
          else State.fillShuttle n j d choice k (room - 8 - b) (segs ++ [(id, b)]) s

/-- 08 R314: the descriptor of a frame that starts in a shuttle, with its serial; bytes 4 and 5 are its record row's place at the source node. -/
def State.descriptor (s : State) (f : Frame) (serial : Nat) : List Byte :=
  let lowest := fun n => (nodePorts n).headD 0
  let (mc, dst) : Nat × Nat := match f.dest with
    | .mask n ps => (1, ps.foldl (fun a p => a + 2 ^ (p - lowest n)) 0)
    | .port p => (0, p)
    | .recirc => (0, 273)
    | _ => (0, 272)
  let row := (s.rows.findIdx? (fun r => r.node == f.inNode && r.root == f.root)).getD 0
  leBytes 2 ((if f.cut then 0 else f.len % 2 ^ 14) + mc * 2 ^ 14) ++ leBytes 2 (dst % 2 ^ 9 + f.tc * 2 ^ 9) ++ leBytes 2 row ++ leBytes 2 serial

/-- 08 R312: each of a shuttle's two header words. -/
def State.headerWord (s : State) (x : Shuttle) : Nat :=
  let bad := if x.cut && x.fin then x.segs.head?.bind (fun g => (s.frame g.1).bind (·.bad)) else none
  let held := x.segs.foldl (fun a g => a + g.2) 0
  x.seq + x.src * 2 ^ 24 + x.dst * 2 ^ 30 + x.starts * 2 ^ 36 + b2n x.cont * 2 ^ 39 + b2n x.cut * 2 ^ 40 + b2n (x.cut && x.fin) * 2 ^ 41 +
    b2n bad.isSome * 2 ^ 42 + min 2 (bad.getD 0) * 2 ^ 43 + b2n x.poison * 2 ^ 45 + b2n x.woven * 2 ^ 46 +
    (if x.cut && x.starts == 0 then held else x.serial) * 2 ^ 48

/-- A shuttle sent into the warp with the pair's next SEQ. -/
def State.launchShuttle (sh : Shuttle) (s : State) : State :=
  let p := s.pair sh.src sh.dst
  { s with pairs := Tbl.ins (pairKey sh.src sh.dst) { p with seq := (p.seq + 1) % 2 ^ 24 } s.pairs,
           shuttles := s.shuttles ++ [{ sh with seq := p.seq }] }

/-- A cut-through or woven frame's next shuttle, which carries it alone (08 R340, R343). -/
def State.sendAlone (n j pick id arrived : Nat) (f : Frame) (s : State) : State :=
  let first := f.sent == 0
  let p := s.pair n f.dest.node
  let s := if first then s.startFrame n f else s
  let b := min (f.ready arrived) (if first then 296 else 304)
  let s := (s.modFrame id (fun f => { f with arrived := min f.maxFrame (max f.arrived arrived) })).sendSeg id b
  s.launchShuttle
    { src := n, dst := f.dest.node, seq := 0, via := j, cycle := s.cycles, pick := pick, starts := b2n first,
      cont := !first, cut := f.cut, fin := f.whole && decide (f.len ≤ f.sent + b), woven := f.wovenTo.isSome,
      serial := p.serial, segs := [(id, b)] }

/-- An ordinary shuttle: the part-sent frame's continuation where there is one, then frames that start. -/
def State.sendShuttle (n j d pick choice : Nat) (cont : Option (Nat × Frame)) (s : State) : State :=
  let p := s.pair n d
  let (segs, room, s) : List (Nat × Nat) × Nat × State := match cont with
    | some (id, f) => let b := min 304 (f.len - f.sent); ([(id, b)], 304 - b, s.sendSeg id b)
    | none => ([], 304, s)
  let k := segs.length
  let (segs, s) := s.fillShuttle n j d choice 4 room segs
  s.launchShuttle
    { src := n, dst := d, seq := 0, via := j, cycle := s.cycles, pick := pick, starts := segs.length - k,
      cont := k == 1, serial := p.serial, segs := segs }

/-- 13 R491: every pick is idle from a step of the counter until the new time reaches the grid. -/
def State.picksIdle (s : State) : Bool := !s.on F.SYN_STATUS_SAFE0 && s.nt % grid != 0

/-- 08 R309: pick `p` of a node, in the warp (true) or the weft, is still to come in the present pick cycle. -/
def State.pickOpen (s : State) (warp : Bool) (n p : Nat) : Bool :=
  !s.picksIdle && !s.picksNow.any (fun x => x.1 == warp && x.2.1 == n && decide (p ≤ x.2.2))

/-- A pick of a node used. -/
def State.usePick (warp : Bool) (n p : Nat) (s : State) : State := { s with picksNow := (warp, n, p) :: s.picksNow }

/-- WARP_SEND: in warp pick `p` node `n` sends one eligible shuttle to intermediate (n + p) mod 36: a woven shuttle due, a
part-sent frame, or the queue that the rations and the round robin choose (08 R309, R318). `arrived` is how many bytes of a
frame still arriving the node holds. -/
def execWarpSend (n p choice arrived : Nat) (s : State) : Host.Outcome State Fault Refusal :=
  let j := (n + p) % 36
  if 36 ≤ n ∨ 36 ≤ p ∨ s.nodeRst.contains n ∨ s.nodeRst.contains j ∨ !s.pickOpen true n p then .next s
  else
    let s := (s.expandGroups n).usePick true n p
    let woven := s.firstBy (fun f => f.inNode == n && f.wovenTo.isSome && decide (f.cycle ≤ s.nt) &&
      (f.stage == .woven || (f.stage == .loom && decide (f.sent < f.len) && f.launch.isSome)) &&
      (wovenPicks (s.wovenBytes (f.wovenTo.getD 0))).contains p && s.interCredit n j f.dest.node && s.rowFree n f)
    match woven with
    | some (id, f) => .next (s.sendAlone n j p id 0 f)
    | none =>
      let part := s.firstBy (fun f => f.inNode == n && f.stage == .loom && decide (0 < f.ready arrived) &&
        (f.whole || f.cut) && f.launch.all (fun _ => f.isLaunch) && s.interCredit n j f.dest.node &&
        !s.nodeRst.contains f.dest.node)
      match part with
      | some (id, f) =>
        if f.cut then .next (s.sendAlone n j p id arrived f)
        else .next (s.sendShuttle n j f.dest.node p choice (some (id, f)))
      | none =>
        match s.nextStart n j choice none with
        | some (id, f) =>
          if f.cut then .next (s.sendAlone n j p id arrived f)
          else .next (s.sendShuttle n j f.dest.node p choice none)
        | none => .next s

/-- WEFT_SEND: in weft pick `p` intermediate `j` sends a landed shuttle with egress credit to output (j + p) mod 36
(08 R309, R310, R318). -/
def execWeftSend (j p : Nat) (s : State) : Host.Outcome State Fault Refusal :=
  let d := (j + p) % 36
  let due := fun x : Shuttle => x.place == .inter && x.via == j && x.dst == d &&
    (decide (x.cycle < s.cycles) || decide (x.pick + 2 ≤ p))
  if 36 ≤ j ∨ 36 ≤ p ∨ !s.pickOpen false j p ∨ !s.egressCredit j d then .next s
  else match s.shuttles.find? due with
    | none => .next s
    | some x =>
      .next { s.usePick false j p with shuttles := s.shuttles.map (fun y => if y == x then { y with place := .weft } else y) }

/-! ### The reed (08 R319 to R321, R341) -/

/-- 08 R321, R341: a frame with a byte in a bad shuttle ends; a cut-through frame in transmission ends stomped. -/
def State.poisonFrame (id : Nat) (s : State) : State :=
  match s.frame id with
  | none => s
  | some f =>
    if f.cut ∧ f.stage = .sending then
      s.modFrame id (fun f => { f with whole := true, len := f.got + 4, bad := some 3, data := f.data.take f.got })
    else s.endFrame id 0x60

/-- 08 R321, R326: a word found in error is corrected, or ends the frame that holds it. -/
def State.loomEcc (e : EccFind) (s : State) : State :=
  if e.corrected then s.loomEvent 0 e.node 0
  else
    let s := ((s.set F.LOOM_ECC_ADDR_AREA e.area).set F.LOOM_ECC_ADDR_NODE (if e.area = 2 ∨ e.area = 3 then 0 else e.node)).set F.LOOM_ECC_ADDR_WORD e.word
    (s.loomEvent 1 e.node (s.rd R.LOOM_ECC_ADDR).toNat).poisonFrame e.frame

/-- A released segment joins its frame; a whole frame, or a cut-through frame's first part, is ready to be placed. -/
def State.joinSeg (id b : Nat) (s : State) : State :=
  let s := s.modFrame id (fun f => { f with got := f.got + b })
  match s.frame id with
  | none => s
  | some f =>
    if f.stage = .loom ∧ ((f.whole ∧ f.len ≤ f.got) ∨ f.cut) then
      (s.place id .joined).modFrame id (fun f => { f with cycle := s.cycles })
    else s

/-- The shuttle that the reed of `d` awaits next from `n`. -/
def State.reedNext (s : State) (n d : Nat) : Option Shuttle :=
  s.shuttles.find? (fun x => x.place == .reed && x.src == n && x.dst == d && x.seq == (s.pair n d).next)

/-- Bytes held in a node's egress stalls. -/
def State.egressUsed (s : State) (d : Nat) : Nat :=
  s.frames.foldl (fun n x =>
    if x.2.dest.node = d ∧ x.2.mirror.isNone then
      match x.2.stage with
      | .loom | .joined | .admission | .egress | .launch | .sending | .ring => n + x.2.got
      | _ => n
    else n) 0

/-- 08 R319: the reed releases shuttles while it holds the next one and the egress stalls have room (R317); `k` bounds
them. -/
def State.reedRelease (n d : Nat) : Nat → State → State
  | 0, s => s
  | k + 1, s =>
    match s.reedNext n d with
    | none => s
    | some x =>
      if s.egressUsed d + (x.segs.foldl (fun a g => a + g.2) 0) > (s.stalls d).2.2 * unit64 then s else
      let p := s.pair n d
      let s := { s with shuttles := s.shuttles.erase x,
                        pairs := Tbl.ins (pairKey n d) { p with next := (p.next + 1) % 2 ^ 24 } s.pairs }
      let s := s.forEach x.segs (fun g s => if x.poison then s.poisonFrame g.1 else s.joinSeg g.1 g.2)
      State.reedRelease n d k s

/-- REED_ARRIVAL: the shuttle of pair (n, d) with SEQ `seq` reaches the reed, and shuttles in order are released
(08 R319). `ecc` is 0 clean, 1 corrected on the way, 2 poisoned at `word`. -/
def execReedArrival (n d seq ecc word : Nat) (s : State) : Host.Outcome State Fault Refusal :=
  match s.shuttles.find? (fun x => x.place == .weft && x.src == n && x.dst == d && x.seq == seq) with
  | none => .next s
  | some x =>
    let s := if ecc = 0 then s
      else
        let s := ((s.set F.LOOM_ECC_ADDR_AREA 0).set F.LOOM_ECC_ADDR_NODE d).set F.LOOM_ECC_ADDR_WORD word
        s.loomEvent (ecc - 1) d (s.rd R.LOOM_ECC_ADDR).toNat
    if (seq + 2 ^ 24 - (s.pair n d).next) % 2 ^ 24 ≥ 256 then
      let s := ({ s with shuttles := s.shuttles.erase x }).loomEvent 4 d 0
      .next (s.forEach x.segs (fun g => State.poisonFrame g.1))
    else
      let s := { s with shuttles := s.shuttles.map (fun y =>
        if y == x then { y with place := .reed, poison := decide (ecc = 2) } else y) }
      .next (s.reedRelease n d s.shuttles.length)

/-- RELEASE_REPORT: in maintenance picks the reed of `d` reports released shuttles to node `n`, which frees the record rows
of frames all of whose node copies are released (08 R315, R316). -/
def execReleaseReport (n d : Nat) (s : State) : Host.Outcome State Fault Refusal :=
  let p := s.pair n d
  let s := if p.next = p.told then s else { s with pairs := Tbl.ins (pairKey n d) { p with told := p.next } s.pairs }
  let open_ := fun r : Row => s.frames.any (fun x => x.2.root == r.root && x.2.stage == .loom && x.2.dest.node == d)
  let rows := s.rows.map (fun r =>
    if r.node == n && !open_ r then { r with wait := r.wait.filter (fun e => e != d) } else r)
  let unsent := fun r : Row => s.frames.any (fun x => x.2.root == r.root && x.2.stage == .ingress && x.2.inNode == r.node)
  .next { s with rows := rows.filter (fun r => !r.wait.isEmpty || unsent r) }

/-! ### The hayloft (08 R324 to R327) -/

/-- 01 R35, 08 R326: the bytes that the hayloft holds, 16 GiB for each stack in service. -/
def State.hayloftSize (s : State) : Nat := (s.get F.LOOM_HAYLOFT_STACK0_OK + s.get F.LOOM_HAYLOFT_STACK1_OK) * 2 ^ 34

/-- Bytes spilled. -/
def State.spilledBytes (s : State) : Nat := s.frames.foldl (fun a x => if x.2.spilled then a + x.2.len else a) 0

/-- HAYLOFT_SPILL: a node at or above SPILL_PCT spills a frame, the last of its queue that is in the stalls (08 R325). -/
def execHayloftSpill (id : Nat) (s : State) : Host.Outcome State Fault Refusal :=
  match s.frame id with
  | some f =>
    let n := f.inNode
    let later := (s.ingressQ f.qport f.dest.node f.tc).any (fun x => decide (f.order < x.2.order) && !x.2.spilled)
    let room := decide (s.spilledBytes + f.len ≤ s.hayloftSize)
    if f.stage = .ingress ∧ f.whole ∧ !f.spilled ∧ !later ∧ room ∧
        s.spillPct * s.workingSize n ≤ 100 * s.workingUsed n then
      .next ((s.modFrame id (fun f => { f with spilled := true, cut := false })).updHayloft f.qport)
    else .next s
  | none => .next s

/-- HAYLOFT_FETCH: a node at or below FETCH_PCT fetches the frame at the front of a queue back; one that lost bytes with a
stack, or meets an uncorrectable word (`bad`, at `word`), ends INTERNAL_UNCORRECTABLE (08 R325, R326). -/
def execHayloftFetch (id : Nat) (bad : Bool) (stack word : Nat) (s : State) : Host.Outcome State Fault Refusal :=
  match s.frame id with
  | some f =>
    let n := f.inNode
    let earlier := (s.ingressQ f.qport f.dest.node f.tc).any (fun x => decide (x.2.order < f.order))
    if f.stage = .ingress ∧ f.spilled ∧ !earlier ∧ 100 * s.workingUsed n ≤ s.fetchPct * s.workingSize n then
      let s := (s.modFrame id (fun f => { f with spilled := false })).updHayloft f.qport
      if bad then
        let s := ((s.set F.LOOM_ECC_ADDR_AREA (2 + stack % 2)).set F.LOOM_ECC_ADDR_NODE 0).set F.LOOM_ECC_ADDR_WORD word
        .next ((s.loomEvent 1 n (s.rd R.LOOM_ECC_ADDR).toNat).endFrame id 0x60)
      else if f.bad.isSome then .next (s.endFrame id 0x60)
      else .next s
    else .next s
  | none => .next s

/-- HAYLOFT_STACK_FAIL: one HBM stack fails; frames with bytes in it end as they are fetched, and the hayloft goes on with
the other (08 R326). -/
def execHayloftStackFail (k : Nat) (s : State) : Host.Outcome State Fault Refusal :=
  let s := s.set (if k % 2 = 0 then F.LOOM_HAYLOFT_STACK0_OK else F.LOOM_HAYLOFT_STACK1_OK) 0
  let s := s.set F.LOOM_STATUS_HAYLOFT_DEGRADED 1
  let s := { s with frames := s.frames.map (fun (x : Nat × Frame) =>
    if x.2.spilled then (x.1, { x.2 with bad := some 3 }) else x) }
  .next (s.loomEvent 3 0xFFFF 0)

/-- 08 R350: LIMIT_US in force. -/
def State.ageLimit (s : State) : Nat := min 1000000 (s.get F.LOOM_AGE_LIMIT_US)

/-- Whether a frame is at the front of its ingress queue or egress class queue. -/
def State.atFront (s : State) (f : Frame) : Bool :=
  match f.stage with
  | .ingress => !(s.ingressQ f.qport f.dest.node f.tc).any (fun x => decide (x.2.order < f.order))
  | .egress => !(s.frames.any (fun x => x.2.stage == .egress && x.2.dest.egressPort == f.dest.egressPort &&
      x.2.tc == f.tc && decide (x.2.order < f.order)))
  | _ => false

/-- AGE_LIMIT_EXPIRY: a frame at the front of its queue has been in the module for LIMIT_US and ends AGE_LIMIT
(08 R327). -/
def execAgeLimitExpiry (id : Nat) (s : State) : Host.Outcome State Fault Refusal :=
  match s.frame id with
  | some f =>
    if s.ageLimit ≠ 0 ∧ s.atFront f ∧ s.ageLimit * us ≤ f.age then .next (s.endFrame id 0x34) else .next s
  | none => .next s

/-- MCAST_COPY_TIMEOUT: a held port copy's timer reaches WAIT_US (08 R335). -/
def execMcastCopyTimeout (id : Nat) (s : State) : Host.Outcome State Fault Refusal :=
  let w := s.get F.LOOM_MCAST_WAIT_WAIT_US
  match s.frame id with
  | some f => if f.stage = .admission ∧ w ≠ 0 ∧ w * us ≤ f.waited then .next (s.endFrame id 0x32) else .next s
  | none => .next s

/-! ### The halter (08 R328 to R332) -/

/-- 08 R329: one port evaluated; `full` and `calm` say that its node's working part is full, or at most 90 % full. -/
def State.haltPort (p : Nat) (full calm : Bool) (s : State) : State :=
  let occ := s.occupancy p
  let on := (s.haltLimit p - s.get (F.LOOM_HALT_HEADROOM p)) * unit64
  let off := (s.haltLimit p - s.get (F.LOOM_HALT_HEADROOM p) - s.xonGap p) * unit64
  let release := decide (occ ≤ off) && calm
  let ph := decide (on ≤ occ) || (s.on (F.LOOM_HALT_STATUS_PORT_HOLD p) && !release)
  let nh := full || (s.on (F.LOOM_HALT_STATUS_NODE_HOLD p) && !release)
  let s := s.set (F.LOOM_HALT_STATUS_OCCUPANCY p) (satNat 16 ((occ + unit64 - 1) / unit64))
  let s := (s.setB (F.LOOM_HALT_STATUS_PORT_HOLD p) ph).setB (F.LOOM_HALT_STATUS_NODE_HOLD p) nh
  let xoff := s.get (F.MAC_STATUS_XOFF_SENT p) != 0
  if (ph || nh) && !xoff then s.sendHold p
  else if !(ph || nh) && xoff then s.sendRelease p
  else s

/-- 08 R331: an internal source held or released with its node. -/
def State.haltInner (p : Nat) (full calm : Bool) (s : State) : State :=
  if full then { s with innerHold := if s.innerHold.contains p then s.innerHold else s.innerHold ++ [p] }
  else if calm then { s with innerHold := s.innerHold.filter (fun q => q != p) }
  else s

/-- 08 R332: HEADROOM_SHORT of a node, raised when the condition begins. -/
def State.checkHeadroom (n : Nat) (s : State) : State :=
  let short := decide (s.reserves n > (s.stalls n).1 - 16)
  if short && !s.headShort.contains n then ({ s with headShort := s.headShort ++ [n] }).loomEvent 2 n 0
  else if !short && s.headShort.contains n then { s with headShort := s.headShort.filter (fun m => m != n) }
  else s

/-- HALTER_EVALUATE: once per pick cycle the halter holds or releases each port's classes (08 R329). -/
def execHalterEvaluate (s : State) : Host.Outcome State Fault Refusal :=
  .next (s.when (s.cycleDue evHalter) (fun s => (s.cycleMade evHalter).forEach (List.range 36) (fun n s =>
    let used := s.workingUsed n
    let size := s.workingSize n
    let full := decide (size ≤ used)
    let calm := decide (100 * used ≤ 90 * size)
    let s := s.checkHeadroom n
    s.forEach (nodePorts n) (fun p => if p < 272 then State.haltPort p full calm else State.haltInner p full calm))))

/-! ### PICKS_RESERVE (08 R345, R346) -/

/-- A RESERVE block's fields within their ranges. -/
def State.reserveOk (s : State) (d : Submission) : Bool :=
  let n := d.b 1
  let ps := wovenPicks d.bytes
  let i := d.le 2 2
  let e := d.le 4 2
  let rateOk := fun p => decide (271 < p) || decide (100 ≤ s.portGbps p)
  d.len == 24 && decide (1 ≤ n) && decide (n ≤ 8) && zeroBytes d.bytes 10 6 && zeroBytes d.bytes (16 + n) (8 - n) &&
    i / 512 == 0 && e / 512 == 0 && ps.all (fun p => decide (p < 36)) && decide (ps.eraseDups.length = n) &&
    rateOk i && rateOk e && decide (320 ≤ d.le 6 2) && decide (d.le 6 2 ≤ 10000) && decide (150 ≤ d.le 8 2) &&
    decide (d.le 8 2 ≤ 10000) &&
    (decide (271 < i) || decide (n * 2432 ≤ (d.le 6 2 - 320) * s.portGbps i))

/-- PICKS_RESERVE's BAD_PARAM and BAD_PORT. -/
def picksCheck (d : Submission) (s : State) : Nat :=
  if d.b 0 = 1 then (if d.len = 24 then rOk else rBadParam)
  else if d.b 0 ≠ 0 ∨ !s.reserveOk d then rBadParam
  else
    let c := s.portUpTo 271 (d.le 2 2)
    if c ≠ rOk then c else s.portUpTo 271 (d.le 4 2)

/-- 08 R346: a reservation's warp picks as (input node, pick) and the weft picks they give, as (intermediate, pick). -/
def picksOf (b : List Byte) : List (Nat × Nat) × List (Nat × Nat) :=
  let s := nodeOf (leAt b 2 2 % 512)
  let d := nodeOf (leAt b 4 2 % 512)
  let ps := wovenPicks b
  (ps.map (fun p => (s, p)), ps.map (fun p => let j := (s + p) % 36; (j, (d + 36 - j) % 36)))

/-- LOOM_STATUS.MAX_RESERVED brought up to date. -/
def State.updReserved (s : State) : State :=
  let all := s.wovenHandles.flatMap (fun w => (picksOf (s.wovenBytes w)).1)
  s.set F.LOOM_STATUS_MAX_RESERVED
    ((List.range 36).foldl (fun m n => max m (all.filter (fun p => p.1 == n)).length) 0)

/-- PICKS_RESERVE at its boundary: BUSY, TABLE_FULL, STATE in that order, then the reservation. -/
def picksAct (c : Cmd) (s : State) : State × Answer :=
  let d := c.sub
  let w := d.P0 0 12
  if d.b 0 = 1 then
    if s.get (F.LOOM_WOVEN_STATE w) = 0 then (s, .done rState 0 0)
    else (((s.unweave w).wrWords (R.LOOM_WOVEN w) (List.replicate 8 0)).updReserved, .done rOk 0 0)
  else
    let others := (s.wovenHandles.filter (fun v => v != w)).map (fun v => picksOf (s.wovenBytes v))
    let (warp, weft) := picksOf d.bytes
    let busy := others.any (fun o => o.1.any warp.contains || o.2.any weft.contains)
    let n := nodeOf (d.le 2 2)
    let used := (s.wovenHandles.flatMap (fun v => (picksOf (s.wovenBytes v)).1)).filter (fun p => p.1 == n)
    if busy then (s, .done rBusy 0 0)
    else if used.length + d.b 1 > 32 then (s, .done rTableFull 0 0)
    else if s.get (F.LOOM_WOVEN_STATE w) ≠ 0 then (s, .done rState 0 0)
    else ((s.wrWords (R.LOOM_WOVEN w) ((List.range 6).map (fun i => d.le (4 * i) 4) ++ [1, 0])).updReserved,
          .done rOk 0 0)

/-- PICKS_RESERVE, with either ACTION. -/
def specPicks : CmdSpec where
  cls := clsMgmt
  block := true
  p0 := 0xFFF
  first := onPick
  check := picksCheck
  act := picksAct

/-- PICKS_RESERVE RESERVE reserves warp and weft picks for a woven stream (08 R346). -/
def execPicksReserve (d : Submission) (s : State) : Host.Outcome State Fault Refusal := .next (specPicks.take 0x4D true d s)

/-- PICKS_RESERVE RELEASE frees a woven stream's picks (08 R345). -/
def execPicksRelease (d : Submission) (s : State) : Host.Outcome State Fault Refusal := .next (specPicks.take 0x4D true d s)

/-! ### MIRROR_SET (08 R348) -/

/-- MIRROR_SET SESSION. -/
def specMirrorSession : CmdSpec where
  cls := clsMgmt
  block := true
  p0 := 0x1FFF
  first := onPick
  check d _ :=
    if !d.form 0 16 || decide (15 < d.P0 0 13) || !d.regsOk 8 [R.LOOM_MIRROR 0, R.LOOM_MIRROR 0 + 4] then rBadParam
    else rOk
  act c s :=
    let m := c.sub.P0 0 13
    let was := s.on (F.LOOM_MIRROR_ENABLE m)
    let s := s.putRegs c.sub 8 [R.LOOM_MIRROR m, R.LOOM_MIRROR m + 4]
    let k := (s.mirrors.getD m (0, 0)).2
    (if s.on (F.LOOM_MIRROR_ENABLE m) && !was then { s with mirrors := Tbl.ins m (0, k) s.mirrors } else s,
     .done rOk 0 0)

/-- MIRROR_SET GROUP. -/
def specMirrorGroup : CmdSpec where
  cls := clsMgmt
  block := true
  p0 := 0x1FFF
  first := onPick
  check d _ := if !d.form 1 72 || d.b 42 / 4 != 0 || !zeroBytes d.bytes 43 29 then rBadParam else rOk
  act c s :=
    let g := c.sub.P0 0 13
    let was := (List.range 16).map (s.groupWord g)
    let s := { s with groupWas := Tbl.ins g was s.groupWas }
    (s.wrWords (R.LOOM_GROUP g) ((List.range 16).map (fun i => c.sub.le (8 + 4 * i) 4)), .done rOk 0 0)

/-- MIRROR_SET SESSION writes a mirror session (08 R348). -/
def execMirrorSetSession (d : Submission) (s : State) : Host.Outcome State Fault Refusal :=
  .next (specMirrorSession.take 0x4E true d s)

/-- MIRROR_SET GROUP writes a multicast group entry (08 R348). -/
def execMirrorSetGroup (d : Submission) (s : State) : Host.Outcome State Fault Refusal :=
  .next (specMirrorGroup.take 0x4E true d s)

/-! ### Reset of node scope (08 R322; 18 R622) -/

/-- A reset of node scope begins: every input node stops using the node, whose intermediate queues drain. -/
def State.resetNode (n : Nat) (s : State) : State :=
  if s.nodeRst.contains n then s else { s with nodeRst := s.nodeRst ++ [n] }

/-- Whether a frame is held in node `n`: in its ingress stalls and hayloft, being received on its ports, or at its egress. -/
def Frame.heldAt (f : Frame) (n : Nat) : Bool :=
  let inSide := f.inNode == n &&
    (match f.stage with
     | .receiving | .head | .heddle _ | .beam | .ingress | .woven => true
     | .loom => decide (f.sent < f.len) || !f.whole
     | _ => false)
  let outSide := f.dest.node == n &&
    (match f.stage with
     | .joined | .admission | .egress | .launch | .sending | .ring => true
     | .loom => f.whole && decide (f.len ≤ f.sent)
     | _ => false)
  inSide || outSide

/-- NODE_DRAIN_DONE: a node's intermediate queues have drained; the node is reset, its frames meet the fates of R622, and
SEQ and SERIAL restart at 0 for every pair that has it as source or output (08 R322). -/
def execNodeDrainDone (n : Nat) (s : State) : Host.Outcome State Fault Refusal :=
  if !s.nodeRst.contains n ∨ s.shuttles.any (fun x => x.place == .inter && x.via == n) then .next s
  else
    let s := s.forEach (s.framesBy (fun f => f.heldAt n)) (fun x s => (s.enterLate x.2).endFrame x.1 0x35)
    let s := s.endFrames (fun f => f.dest.node == n && (f.stage == .ingress || f.stage == .loom) &&
      (match f.dest with | .group _ => false | _ => true)) 0x31
    let s : State := { s with
      nodeRst := s.nodeRst.filter (fun m => m != n)
      shuttles := s.shuttles.filter (fun x => x.src != n && x.dst != n)
      rows := (s.rows.filter (fun (r : Row) => r.node != n)).map (fun (r : Row) => { r with wait := r.wait.filter (fun d => d != n) })
      pairs := s.pairs.filter (fun p => p.1 / 36 != n && p.1 % 36 != n) }
    let s := { s with rows := s.rows.filter (fun r => !r.wait.isEmpty) }
    .next ((s.finish (fun c => c.op == 0x43 && c.sub.P0 0 4 == 3 && c.sub.P0 4 9 == n) rOk s.nt 0 0).updHeld)

end Sys2Proof.Machine
end

