-- ==== Sys2Proof/Machine/Clock.lean ====
section
/-! DEFINITION. The time counter and what follows a change of it: treadle programmes (12 R470 to R472), steps and first
settings (13 R483, R490, R491), quality (13 R487, R488), the announced clock quality (13 R489) and UTC (13 R486). -/

namespace Sys2Proof.Machine

open Sys2Proof

/-! ### Offsets in registers -/

/-- A signed 48-bit value of units of 10^-16 in a _LO and _HI pair (10 R412, 11 R449). -/
def State.get48 (s : State) (lo hi : Nat) : Int := toInt 48 (s.get2 lo hi)

/-- A signed 48-bit value set. -/
def State.set48 (lo hi : Nat) (v : Int) (s : State) : State := s.set2 lo hi 48 (satInt 48 v)

/-- 11 R430: the output frequency against the crystal scale, in units of 10^-16. -/
def State.freq (s : State) : Int := s.get48 R.DPLL_FREQ_LO R.DPLL_FREQ_HI

/-- 11 R437: DPLL states. -/
def dpFreeRun : Nat := 0
def dpAcquiring : Nat := 1
def dpLocked : Nat := 2
def dpHoldover : Nat := 3
def dpSteered : Nat := 4

/-- The DPLL's state. -/
def State.dp (s : State) : Nat := s.get F.DPLL_STATUS_STATE

/-- FREQ_SEL and TIME_SEL: a slot, or 15 for none. -/
def State.freqSel (s : State) : Nat := s.get F.DPLL_STATUS_FREQ_SEL
def State.timeSel (s : State) : Nat := s.get F.DPLL_STATUS_TIME_SEL

/-! ### Treadle programmes (12 R470 to R472) -/

/-- 12 R470: E_k. -/
def Trd.edge (d : Trd) (k : Nat) : Int := d.start + k * d.period

/-- The index of the first edge at or after `x`, from index `k` on; none where the programme has no such edge. -/
def Trd.from (d : Trd) (k : Nat) (x : Int) : Option Nat :=
  let j := if d.period = 0 then (if d.edge k ≥ x then k else k + 1)
    else max k (-((d.start - x) / (d.period : Int))).toNat
  let stop := if d.period = 0 then some 1 else d.stop
  match stop with
  | some n => if j < n then some j else none
  | none => some j

/-- 12 R472: the boundary of a treadle command at or after `x`: the running programme's next edge, or the pick cycle. -/
def State.treadleStart (s : State) (t x : Nat) : Nat :=
  match Tbl.find t s.treadles with
  | none => ceilGrid x
  | some d =>
    match d.from d.k x with
    | some k => (d.edge k).toNat
    | none => ceilGrid x

/-- A treadle goes on with the edge of index `k`, or its programme has ended. -/
def State.treadleAt (t k : Nat) (d : Trd) (s : State) : State :=
  let ended := if d.period = 0 then decide (1 ≤ k) else
    match d.stop with
    | some n => decide (n ≤ k)
    | none => false
  { s with treadles := if ended then Tbl.del t s.treadles else Tbl.ins t { d with k := k } s.treadles }

/-- 12 R471: `n` edges of a treadle missed. -/
def State.treadleMiss (t n : Nat) (s : State) : State := (s.bump (F.TRD_MISSED_MISSED t) n).raise .syn 10 t

/-- 12 R471, 13 R491: the edges before `x` that a forward step passes are missed. -/
def State.treadleSkip (x : Int) (t : Nat) (s : State) : State :=
  match Tbl.find t s.treadles with
  | none => s
  | some d =>
    let j := match d.from d.k x with
      | some j => j
      | none => if d.period = 0 then 1 else d.stop.getD d.k
    s.when (decide (d.k < j)) (fun s => (s.treadleMiss t (j - d.k)).treadleAt t j d)

/-- TREADLE_EDGE: treadle `t` reaches E_k: it emits the edge, or misses it under GUARD (12 R470, R471). -/
def execTreadleEdge (t : Nat) (s : State) : Host.Outcome State Fault Refusal :=
  match Tbl.find t s.treadles with
  | none => .next s
  | some d =>
    if t < 8 ∧ d.edge d.k ≤ (s.nt : Int) then
      let s := if s.on (F.TRD_CFG_GUARD t) && s.degraded then s.treadleMiss t 1 else s.bump (F.TRD_DONE_DONE t) 1
      .next (s.treadleAt t (d.k + 1) d)
    else .next s

/-! ### Changes of the time counter (13 R483, R490, R491) -/

/-- The first boundary of a waiting command's kind at or after `x` (01 R24). -/
def State.kindOf (s : State) (c : Cmd) (x : Nat) : Nat :=
  if c.op = 0x58 then (x + sec - 1) / sec * sec
  else if c.op = 0x4A then s.shedStart (c.sub.P0 0 9) x
  else if c.op = 0x59 then s.treadleStart (c.sub.P0 0 3) x
  else ceilGrid x

/-- 13 R491: a waiting command after a step of `d`: a skipped effective-at boundary acts at the first of its kind after it,
late; a command without an effective-at time takes the first boundary of its kind. -/
def State.restep (s : State) (old : Nat) (d : Int) (c : Cmd) : Cmd :=
  if c.begun then c
  else if !c.sub.at? then { c with boundary := s.kindOf c (s.nt + 1) }
  else if 0 < d ∧ old < c.boundary ∧ c.boundary < s.nt then { c with boundary := s.kindOf c s.nt, late := true }
  else c

/-- The span of the 48-bit seconds counter (00 R2; log entry 26). -/
def ntSpan : Nat := 2 ^ 48 * sec

/-- 10 R405: GATE_NS, values that it does not allow acting as 1,000,000. -/
def gateNs (v : Nat) : Nat :=
  if v % 50 = 0 ∧ 1000 ≤ v ∧ v ≤ 1000000000 ∧ 1000000000 % v = 0 then v else 1000000

/-- 10 R405: after the counter moved from `old` to `new`, an open gate ends at the next multiple of its length. -/
def MiChan.regate (old new : Nat) (c : MiChan) : MiChan :=
  let g := gateNs (c.gate % 2 ^ 30) * ns
  match c.gate0 with
  | some t => { c with gate0 := some (if t ≤ old then new / g * g else (new + g - 1) / g * g) }
  | none => c

/-- 13 R491: the counter moved by `d`; the phases measured against it move with it (11 R416). After a backward step what has been done stays
done: its boundary counts as the instant of the step (07 R294). -/
def State.moveTime (d : Int) (s : State) : State :=
  let old := s.nt
  let s := { s with nt := (((s.nt : Int) + d) % (ntSpan : Int)).toNat }
  let s := s.when (decide (0 < d)) (fun s => s.forEach (List.range 8) (State.treadleSkip (s.nt : Int)))
  let s := { s with
    accepted := s.accepted.map (s.restep old d)
    swaps := s.swaps.map (fun (p : Nat × Nat) => (min p.1 s.nt, p.2))
    macWas := s.macWas.map (fun (x : Nat × MacWas) => (x.1, { x.2 with till := min x.2.till s.nt }))
    chans := s.chans.map (fun (x : Nat × MiChan) => (x.1, x.2.regate old s.nt))
    slots := s.slots.map (fun (x : Nat × RefSlot) => (x.1, { x.2 with phase := x.2.phase.map (fun p => p + d) })) }
  s.forEach s.sheds (fun x => State.updShed x.1)

/-- 13 R491: a step of the counter by `d`. -/
def State.stepTime (d : Int) (s : State) : State := (s.moveTime d).raise .time 1 0xFFFF

/-- 13 R483: the first setting of network time. -/
def State.firstSet (v : Int) (s : State) : State :=
  ({ (s.moveTime (v - s.nt)) with timeSet := true }).raise .time 2 0xFFFF

/-! ### Quality (13 R487 to R489) -/

/-- 13 R493: the source of REF13 where KPL is: its port's running state. -/
def State.upKpl (s : State) : Option KplPort :=
  match s.upstream with
  | some (1, p) => some (s.kplPort p)
  | _ => none

/-- The running state of a port's PTP instance. -/
def State.ptpPort (s : State) (p : Nat) : PtpPort := s.ptp.getD p {}

/-- A port's PTP instance changed. -/
def State.modPtp (p : Nat) (f : PtpPort → PtpPort) (s : State) : State :=
  { s with ptp := Tbl.put {} p (f (s.ptpPort p)) s.ptp }

/-- 13 R493: the best qualified foreign master of a port: IEEE 1588-2019 asks for two Announces (PRESUMED, log entry 51). -/
def PtpPort.master (q : PtpPort) : Option Foreign := q.foreign.find? (fun f => decide (2 ≤ f.count))

/-- 13 R493: the source of REF13 where PTP is: the foreign master. -/
def State.upPtp (s : State) : Option Foreign :=
  match s.upstream with
  | some (2, p) => (s.ptpPort p).master
  | _ => none

/-- 13 R524: SOURCE and SOURCE_PORT shown. -/
def State.showSource (s : State) : State :=
  let t := s.timeSel
  let (k, p) := s.upstream.getD (0, 0x1FF)
  (s.set F.TIME_STATUS_SOURCE (if t = 10 ∨ t = 11 ∨ t = 12 then 3 else k)).set F.TIME_STATUS_SOURCE_PORT p

/-- 13 R487: the upstream reports TIME_TRACEABLE, in its KPL TIME message or its Announce. -/
def State.upTraceable (s : State) : Bool :=
  match s.upKpl, s.upPtp with
  | some k, _ => (match k.time with | some t => bit t.flags 4 | none => false)
  | none, some f => bit f.flags 4
  | none, none => false

/-- 13 R487: TIME_SEL is traceable. -/
def State.traceable (s : State) : Bool :=
  let t := s.timeSel
  (t == 12 && s.on F.GNSS_STATUS_TIME_VALID) || (t == 13 && s.upTraceable) ||
    ((t == 10 || t == 11) && s.on F.TIME_CTRL_PPS_TRACEABLE)

/-- 13 R487: the quality code that holds. -/
def State.qualityNow (s : State) : Nat :=
  let st := s.dp
  if !s.timeSet then 7
  else if s.on F.MEAS_STATUS_MASTER_SPARE ∨ s.on F.SYN_STATUS_SAFE1 then 6
  else if st = dpFreeRun then 5
  else if st = dpAcquiring then 4
  else if st = dpHoldover then
    (if s.get F.DPLL_HO_ELAPSED_SECONDS > s.get F.TIME_CTRL_HO_SPEC_S ∨ s.dpll.hoNoHist then 3 else 2)
  else if st = dpLocked ∧ s.traceable then 0
  else 1

/-- 13 R489: timing roles. -/
def roHold : Nat := 0
def roFollow : Nat := 1
def roLead : Nat := 2

/-- The timing role in force. -/
def State.role (s : State) : Nat := s.get F.TIME_STATUS_ROLE

/-- 13 R489: whether the module announces its upstream's quality. -/
def State.passOn (s : State) : Bool := s.role == roFollow && s.timeSel == 13 && decide (s.quality ≤ 1)

/-- 13 R489: clockClass, clockAccuracy and offsetScaledLogVariance of the upstream. -/
def State.upQual (s : State) : Nat × Nat × Nat :=
  match s.upKpl, s.upPtp with
  | some k, _ => (match k.peer with | some p => (p.cls, p.accuracy, p.variance) | none => (248, 0xFE, 0xFFFF))
  | none, some f => (f.cls, f.acc, f.var)
  | none, none => (248, 0xFE, 0xFFFF)

/-- 13 R489: the clock quality the module announces. -/
def State.clockQual (s : State) : Nat × Nat × Nat :=
  let q := s.quality
  let r := s.role
  if r = roHold ∨ 4 ≤ q then (248, 0xFE, 0xFFFF)
  else if s.passOn then s.upQual
  else if q = 0 then (6, 0x21, 0x4E5D)
  else if r = roLead then (if q = 2 then 7 else 140, 0xFE, 0xFFFF)
  else (if q = 2 then 135 else if q = 3 then 165 else 140, 0xFE, 0xFFFF)

/-- 13 R489: the announced timeSource. KPL carries no timeSource, so that a KPL upstream's is a free value (log entry 3). -/
def State.timeSource (s : State) : Nat :=
  if s.timeSel = 12 then 0x20
  else if s.passOn then
    match s.upPtp with
    | some f => f.src
    | none => (Config.freeValue 131 (s.get F.TIME_STATUS_SOURCE_PORT)).toNat % 256
  else 0xA0

/-- 13 R489: the announced stepsRemoved. -/
def State.stepsRemoved (s : State) : Nat :=
  if s.role = roFollow ∧ s.timeSel = 13 then
    match s.upKpl, s.upPtp with
    | some k, _ => (match k.peer with | some p => p.steps + 1 | none => 0)
    | none, some f => f.steps + 1
    | none, none => 0
  else 0

/-- PTP_CLOCK_QUAL brought up to date. -/
def State.updClockQual (s : State) : State :=
  let (c, a, v) := s.clockQual
  ((s.set F.PTP_CLOCK_QUAL_CLOCK_CLASS c).set F.PTP_CLOCK_QUAL_CLOCK_ACCURACY a).set F.PTP_CLOCK_QUAL_VARIANCE v

/-- 13 R487, R488: QUALITY recomputed; a change is an event. -/
def State.evalQuality (s : State) : State :=
  let q := s.qualityNow
  let was := s.quality
  let s := (s.set F.TIME_STATUS_QUALITY q).updClockQual
  s.when (was != q) (State.raise .time 0 0xFFFF)

/-- QUALITY_EVALUATE: once per millisecond TIME_STATUS.QUALITY is recomputed (13 R487, R488). -/
def execQualityEvaluate (s : State) : Host.Outcome State Fault Refusal :=
  if s.evalDue evQuality ms then .next ((s.evalMade evQuality).evalQuality) else .next s

/-! ### UTC (13 R486) -/

/-- UTC_OFFSET, LEAP61, LEAP59 and UTC_VALID taken from a time source, unless MANUAL is set. -/
def State.takeUtc (off : Nat) (l61 l59 valid : Bool) (s : State) : State :=
  if s.on F.TIME_UTC_MANUAL then s
  else (((s.set F.TIME_UTC_UTC_OFFSET off).setB F.TIME_UTC_LEAP61 l61).setB F.TIME_UTC_LEAP59 l59).setB
    F.TIME_UTC_UTC_VALID valid

/-- LEAP_APPLY: at the start of the TAI second that R486 names, UTC_OFFSET changes by one and the flag clears. -/
def execLeapApply (s : State) : Host.Outcome State Fault Refusal :=
  let off := s.getI F.TIME_UTC_UTC_OFFSET
  let m := ((s.nt / sec : Nat) : Int) - off
  let put := fun (d : Int) (f : Fld) => ((s.setI F.TIME_UTC_UTC_OFFSET (off + d)).set f 0).raise .time 4 0xFFFF
  if s.on F.TIME_UTC_LEAP61 ∧ m % 86400 = 1 then .next (put 1 F.TIME_UTC_LEAP61)
  else if s.on F.TIME_UTC_LEAP59 ∧ m % 86400 = 86399 then .next (put (-1) F.TIME_UTC_LEAP59)
  else .next s

end Sys2Proof.Machine
end

