-- ==== Sys2Proof/Machine/Refs.lean ====
section
/-! DEFINITION. Chapter 11, reference slots: activity, frequency and drift monitors (R413 to R419), qualification (R420, R421),
ranks (R422, R423) and QLs (R441 to R443). -/

namespace Sys2Proof.Machine

open Sys2Proof

/-! ### A slot's monitor -/

/-- 11 R420: slot states. -/
def slDisabled : Nat := 0
def slFailed : Nat := 1
def slQualifying : Nat := 2
def slQualified : Nat := 3

/-- The slots. -/
def slotList : List Nat := List.range 14

/-- A slot's state. -/
def State.slot (s : State) (r : Nat) : Nat := s.get (F.DPLL_REF_STATUS_STATE r)

/-- A slot's monitor. -/
def State.slotMem (s : State) (r : Nat) : RefSlot := s.slots.getD r {}

/-- A slot's monitor changed. -/
def State.modSlot (r : Nat) (f : RefSlot → RefSlot) (s : State) : State :=
  { s with slots := Tbl.put {} r (f (s.slotMem r)) s.slots }

/-- 11 R413: whether a slot carries time. -/
def carriesTime (r : Nat) : Bool := decide (10 ≤ r ∧ r ≤ 13)

/-- 11 R413: the source of a slot is valid: a lane that exists, or a CLKIN nominal within its range. -/
def State.slotSource (s : State) (r : Nat) : Bool :=
  if r < 8 then decide (s.get (F.DPLL_REF_CFG_LANE r) < 272)
  else if r < 10 then
    let hz := s.get (F.DPLL_REF_FREQ_HZ r)
    decide (1000 ≤ hz ∧ hz ≤ 800000000)
  else true

/-- 11 R413, R416: the nominal duration of `n` cycles of a slot's source, in units of 2^-16 ns. -/
def State.nominal (s : State) (r : Nat) (n : Int) : Int :=
  if r < 8 then n * 256 * (ns * 1000000 : Nat) / (s.laneKbps (s.get (F.DPLL_REF_CFG_LANE r)) : Nat)
  else if r < 10 then n * (sec : Nat) / (s.get (F.DPLL_REF_FREQ_HZ r) : Nat)
  else if r < 13 then n * (sec : Nat)
  else n

/-- 11 R417: how long REF8 to REF11 stay active without an edge. -/
def State.actWindow (s : State) (r : Nat) : Nat :=
  max (2 * us) ((s.nominal r (max 9 (s.get (F.DPLL_REF_TIMING_ACT_WINDOW r)) : Nat)).toNat / 8)

/-- 11 R413, R417: whether a slot is active; `valid` is the RX_VALID of its tap at this sample. -/
def State.slotActive (s : State) (r : Nat) (valid : Bool) : Bool :=
  if r < 8 then valid
  else if r < 12 then
    match (s.slotMem r).edge with
    | some e => decide (s.elapsed < e + s.actWindow r)
    | none => false
  else if r = 12 then s.on F.GNSS_STATUS_TIME_VALID
  else match s.timer .ref13 with
    | some t => decide (t < 10 * ms)
    | none => false

/-- 11 R416: the window of a slot's offset. -/
def slotWindow (r : Nat) : Nat := if r < 10 then sec else 16 * sec

/-- Points no longer needed are dropped: all beyond the first that is a whole window old. -/
def trimPoints (now w : Nat) : List (Nat × Int × Int) → List (Nat × Int × Int)
  | [] => []
  | p :: t => if now < p.1 + w then p :: trimPoints now w t else [p]

/-- 11 R416: the fractional frequency offset of a slot's source from nominal in the crystal scale, in units of 10^-12, once a
full window has run. -/
def State.slotOffset (s : State) (r : Nat) : Option Int :=
  match (s.slotMem r).points with
  | [] => none
  | p :: t =>
    match t.find? (fun q => decide (q.1 + slotWindow r ≤ p.1)) with
    | none => none
    | some q =>
      let x : Int := ((p.1 : Int) - q.1) - (p.2.1 - q.2.1) / 10000000000000000
      if x = 0 then none else some ((s.nominal r (p.2.2 - q.2.2) - x) * 1000000000000 / x)

/-- The network time that had run when network time read `t`. -/
def State.elapsedAt (s : State) (t : Nat) : Nat := ((s.elapsed : Int) + t - s.nt).toNat

/-- 11 R416: an edge of a slot's source at network time `t`, `n` cycles after the one before. -/
def State.refEdge (r t n : Nat) (s : State) : State :=
  let e := s.elapsedAt t
  let acc := s.scaleAcc - s.freq * ((s.elapsed : Int) - e)
  s.modSlot r (fun m => { m with edge := some e, acc := acc, cyc := m.cyc + n })

/-- 11 R416: the phase of the last edge of a time-carrying slot, at network time `t`, that marks second `m`. -/
def State.refMark (r t m : Nat) (s : State) : State :=
  let p : Int := (t : Int) - s.getI (F.DPLL_REF_DELAY_DELAY r) - (m * sec : Nat)
  s.modSlot r (fun x => { x with mark := some m, phase := some p })

/-- 11 R415, 13 R508: the DPLL takes a REF13 estimate `e`, local minus upstream. -/
def State.refEstimate (e : Int) (s : State) : State :=
  let s := (s.setI F.TIME_EST_OFFSET e).start .ref13
  s.modSlot 13 (fun m => { m with
    edge := some s.elapsed, acc := s.scaleAcc, cyc := (s.elapsed : Int) - e,
    phase := some (e - s.getI (F.DPLL_REF_DELAY_DELAY 13)) })

/-! ### QL and rank (11 R422, R423, R441, R443) -/

/-- 11 R441: codes 9 to 14 act as 15. -/
def qlNorm (q : Nat) : Nat := if 9 ≤ q then 15 else q

/-- 11 R441: the order of a QL, best first. -/
def qlRank (q : Nat) : Nat := if q = 0 then 9 else if q ≤ 8 then q else 10

/-- 11 R443: the QL of a slot. -/
def State.slotQl (s : State) (r : Nat) : Nat :=
  if r < 8 ∧ s.on (F.DPLL_REF_CFG_QL_ESMC r) then (s.slotMem r).ql.getD 0
  else qlNorm (s.get (F.DPLL_REF_CFG_QL_FIXED r))

/-- 11 R422: whether a slot is selectable. -/
def State.selectable (s : State) (r : Nat) : Bool :=
  s.slot r == slQualified && s.get (F.DPLL_REF_CFG_PRIORITY r) != 0 &&
    (!s.on F.DPLL_CTRL_QL_SELECT ||
      (decide (qlRank (s.slotQl r) ≤ qlRank (qlNorm (s.get F.DPLL_CTRL_QL_FLOOR))) && s.slotQl r != 15))

/-- 11 R423: a slot's rank, least best. -/
def State.slotRank (s : State) (r : Nat) : Nat :=
  let p := s.get (F.DPLL_REF_CFG_PRIORITY r)
  if s.on F.DPLL_CTRL_QL_SELECT then 16 * qlRank (s.slotQl r) + p else p

/-- QL and SELECTABLE of a slot shown. -/
def State.showSlot (r : Nat) (s : State) : State :=
  (s.set (F.DPLL_REF_STATUS_QL r) (s.slotQl r)).setB (F.DPLL_REF_STATUS_SELECTABLE r) (s.selectable r)

/-! ### Qualification (11 R420, R421) -/

/-- A slot leaves qualification. -/
def State.slotTo (r st : Nat) (s : State) : State :=
  let s := ((s.set (F.DPLL_REF_STATUS_STATE r) st).set ⟨R.DPLL_QUAL, r, 1⟩ 0).stop (.qual r)
  ((s.set (F.DPLL_REF_STATUS_QUAL_LEFT_S r) 0).set (F.DPLL_REF_STATUS_DRIFT_WARN r) 0).showSlot r

/-- 11 R420: a slot fails with a cause: 1 activity, 2 frequency, 3 source invalid. -/
def State.slotFail (r cause : Nat) (s : State) : State :=
  let was := s.slot r
  if was = slQualifying ∨ was = slQualified then
    let s := (s.slotTo r slFailed).set (F.DPLL_REF_STATUS_FAIL_CAUSE r) cause
    s.when (was == slQualified) (State.raise .dpll 1 r)
  else s

/-- 11 R420: REQUALIFY, or a change of a slot's source: back to FAILED, its monitor window restarted. -/
def State.requalify (r : Nat) (s : State) : State :=
  if s.slot r = slDisabled then s
  else (s.slotTo r slFailed).modSlot r (fun m => { m with points := [], offs := [] })

/-- 11 R416, R420: a change of LANE or FALLING gives a slot another source, none of whose edges has been seen; a change of DELAY moves its phase. -/
def State.newSource (r : Nat) (s : State) : State := s.modSlot r (fun m => { ql := m.ql })

/-- A slot qualifies. -/
def State.slotQualify (r : Nat) (s : State) : State :=
  (((s.slotTo r slQualified).set ⟨R.DPLL_QUAL, r, 1⟩ 1).modSlot r (fun m => { m with warned := false })).showSlot r

/-- 11 R420: ENABLE of a slot followed at its boundary. -/
def State.slotEnable (r : Nat) (s : State) : State :=
  let en := s.on (F.DPLL_REF_CFG_ENABLE r)
  if en && s.slot r == slDisabled then
    (s.newSource r).slotTo r slFailed
  else if !en && s.slot r != slDisabled then
    ((s.slotTo r slDisabled).set (F.DPLL_REF_STATUS_ACTIVE r) 0).set (F.DPLL_REF_STATUS_IN_ACCEPT r) 0
  else s.showSlot r

/-- 11 R417, R420: the activity of a slot taken at a tap sample. -/
def State.slotSample (r : Nat) (valid : Bool) (s : State) : State :=
  if s.slot r = slDisabled then s
  else
    let a := s.slotActive r valid
    let s := s.setB (F.DPLL_REF_STATUS_ACTIVE r) a
    s.when (!a) (State.slotFail r 1)

/-- 11 R418: ACCEPT_PPB and REJECT_PPB in force, in units of 10^-12. -/
def State.slotLimits (s : State) (r : Nat) : Int × Int :=
  let a := s.get (F.DPLL_REF_LIMITS_ACCEPT_PPB r)
  let j := s.get (F.DPLL_REF_LIMITS_REJECT_PPB r)
  ((1000 * (if a ≥ j then (j : Int) - 1 else a)), 1000 * j)

/-- 11 R418: a slot's offset lies within accept; a full window is required. -/
def State.inAccept (s : State) (r : Nat) : Bool :=
  match s.slotOffset r with
  | some o => decide ((o.natAbs : Int) ≤ (s.slotLimits r).1)
  | none => false

/-- 11 R418: a slot's offset lies beyond reject. -/
def State.beyondReject (s : State) (r : Nat) : Bool :=
  match s.slotOffset r with
  | some o => decide ((s.slotLimits r).2 ≤ (o.natAbs : Int))
  | none => false

/-- DRIFT_S, 0 acting as 1. -/
def State.driftS (s : State) (r : Nat) : Nat := max 1 (s.get (F.DPLL_REF_DRIFT_DRIFT_S r))

/-- 11 R419: the present offset against that of DRIFT_S seconds earlier. -/
def State.drifts (s : State) (r : Nat) : Bool :=
  let l := (s.slotMem r).offs
  match l.head?, l[1000 * s.driftS r]? with
  | some a, some b => decide ((a - b).natAbs > 10 * s.get (F.DPLL_REF_DRIFT_DRIFT_LIMIT r))
  | _, _ => false

/-- 11 R416, R418, R419: one slot's measurements brought up to date: its offset, IN_ACCEPT and DRIFT_WARN. -/
def State.slotMeasure (r : Nat) (s : State) : State :=
  let m := s.slotMem r
  let fresh := match m.edge, m.points with
    | some e, [] => [(e, m.acc, m.cyc)]
    | some e, p :: _ => if p.1 < e then [(e, m.acc, m.cyc)] else []
    | none, _ => []
  let pts := fresh ++ m.points
  let now := match pts with
    | p :: _ => p.1
    | [] => 0
  let s := s.modSlot r (fun m => { m with points := trimPoints now (slotWindow r) pts })
  let s := match s.slotOffset r with
    | some o =>
      (s.setI (F.DPLL_REF_OFFSET_OFFSET r) o).modSlot r (fun m =>
        { m with offs := (o :: m.offs).take (1000 * s.driftS r + 1) })
    | none => s
  let s := s.setB (F.DPLL_REF_STATUS_IN_ACCEPT r) (s.inAccept r)
  let was := s.on (F.DPLL_REF_STATUS_DRIFT_WARN r)
  let q := s.slot r == slQualified
  let warn := s.drifts r || (q && !s.inAccept r && !s.beyondReject r)
  let s := s.setB (F.DPLL_REF_STATUS_DRIFT_WARN r) warn
  if warn && !was && q && !(s.slotMem r).warned then
    (s.modSlot r (fun m => { m with warned := true })).raise .dpll 2 r
  else s

/-- QUAL_LEFT_S of a slot. -/
def State.showLeft (r : Nat) (s : State) : State :=
  match s.timer (.qual r) with
  | some t =>
    let d := s.get (F.DPLL_REF_TIMING_QUAL_S r) * sec
    s.set (F.DPLL_REF_STATUS_QUAL_LEFT_S r) ((d - t + sec - 1) / sec)
  | none => s

/-- 11 R420: one slot evaluated. -/
def State.slotEvaluate (r : Nat) (s : State) : State :=
  if s.slot r = slDisabled then s
  else
    let s := s.slotMeasure r
    let act := s.on (F.DPLL_REF_STATUS_ACTIVE r)
    let st := s.slot r
    if !act then s.slotFail r 1
    else if !s.slotSource r then s.slotFail r 3
    else if st = slFailed then
      if s.inAccept r then
        if s.get (F.DPLL_REF_TIMING_QUAL_S r) = 0 then s.slotQualify r
        else ((s.set (F.DPLL_REF_STATUS_STATE r) slQualifying).start (.qual r)).showLeft r
      else s
    else if st = slQualifying then (if s.inAccept r then s.showLeft r else s.slotFail r 2)
    else if s.beyondReject r then s.slotFail r 2
    else s.showSlot r

/-- REF_MONITOR_EVALUATE: once per millisecond each slot's frequency, drift and state are evaluated (11 R418 to R420). -/
def execRefMonitorEvaluate (s : State) : Host.Outcome State Fault Refusal :=
  if s.evalDue evMonitor ms then .next ((s.evalMade evMonitor).forEach slotList State.slotEvaluate) else .next s

/-- QUAL_TIMER_EXPIRY: a slot's QUAL_S expires; it qualifies unless it fails in the same evaluation cycle, whose monitors come
first (11 R420, R421). -/
def execQualTimerExpiry (r : Nat) (s : State) : Host.Outcome State Fault Refusal :=
  if r < 14 ∧ !s.evalDue evMonitor ms ∧ s.slot r = slQualifying ∧ s.ran (.qual r) (s.get (F.DPLL_REF_TIMING_QUAL_S r) * sec) then
    if !s.on (F.DPLL_REF_STATUS_ACTIVE r) then .next (s.slotFail r 1)
    else if !s.slotSource r then .next (s.slotFail r 3)
    else if !s.inAccept r then .next (s.slotFail r 2)
    else .next (s.slotQualify r)
  else .next s

/-- REF_ACTIVITY_LOSS: the selected reference fails activity; the DPLL holds its frequency until the next evaluation
(11 R417, R432). `valid` is the RX_VALID of the slot's tap. -/
def execRefActivityLoss (r : Nat) (valid : Bool) (s : State) : Host.Outcome State Fault Refusal :=
  if r < 14 ∧ (s.freqSel = r ∨ s.timeSel = r) ∧ !s.slotActive r valid then .next (s.slotSample r valid) else .next s

/-- REF13_ESTIMATE_TIMEOUT: no REF13 estimate for 10 ms; REF13 fails activity (11 R413, R415). -/
def execRef13EstimateTimeout (s : State) : Host.Outcome State Fault Refusal :=
  if s.ran .ref13 (10 * ms) then .next (s.slotSample 13 false) else .next s

end Sys2Proof.Machine
end

