-- ==== Sys2Proof/Machine/Meas.lean ====
section
/-! DEFINITION. Chapter 10: the crystals and the ageing correction (R383 to R389), the interpolators (R390, R391), phase taps
(R394 to R397) and instrument inputs with their records (R398 to R410). -/

namespace Sys2Proof.Machine

open Sys2Proof

/-! ### Crystals (10 R383 to R389) -/

/-- 10 R384: units of 10^-16 per unit of the accumulator. -/
def corrUnit : Int := 8640000

/-- 10 R384: the clamp, ±100 ppm in the accumulator's units. -/
def corrMax : Int := 1000000000000 * corrUnit

/-- An integer held within `lo` and `hi`. -/
def clampI (lo hi v : Int) : Int := if v < lo then lo else if hi < v then hi else v

/-- The nearest integer to `a / b`, halves upward. -/
def roundDiv (a b : Int) : Int := (2 * a + b) / (2 * b)

/-- AGEING_TICK: once per millisecond the accumulator advances by RATE and MEAS_XO_CORR follows (10 R384, R386). -/
def execAgeingTick (s : State) : Host.Outcome State Fault Refusal :=
  if !s.evalDue evAgeing ms then .next s
  else if s.on F.MEAS_STATUS_MASTER_SPARE then .next (s.evalMade evAgeing)
  else
    let s := s.evalMade evAgeing
    let was := s.corrAcc
    let v := clampI (-corrMax) corrMax (was + s.getI F.MEAS_XO_AGEING_RATE)
    let s := ({ s with corrAcc := v }).set48 R.MEAS_XO_CORR_LO R.MEAS_XO_CORR_HI (roundDiv v corrUnit)
    .next (s.when (v.natAbs == corrMax.natAbs && was != v) (State.raise .meas 6 0xFFFF))

/-- 11 R435: learning forgotten. -/
def State.forgetLearning (s : State) : State :=
  let s := (s.set F.DPLL_LEARN_HOURS 0).set F.DPLL_STATUS_HISTORY_VALID 0
  { s with dpll := { s.dpll with learnMs := 0, lockedMs := 0 } }

/-- 10 R386: XO_MAIN is lost; XO_SPARE becomes the master where it is present. -/
def State.xoMainLost (s : State) : State :=
  if !s.on F.MEAS_STATUS_XO_MAIN_OK then s
  else
    let s := (s.set F.MEAS_STATUS_XO_MAIN_OK 0).setB F.MEAS_STATUS_MASTER_SPARE (s.on F.MEAS_STATUS_XO_SPARE_OK)
    let s := s.when (s.on F.MEAS_STATUS_OVEN_STABLE) (State.start .xoBack)
    ({ s.forgetLearning with spareBad := 0 }).raise .meas 0 0xFFFF

/-- XO_MAIN_LOST: its clock monitor sees no clean cycle of XO_MAIN for 64 boot-oscillator cycles (10 R385, R386). -/
def execXoMainLost (s : State) : Host.Outcome State Fault Refusal := .next s.xoMainLost

/-- XO_COMPARE_WINDOW: one 1 ms comparison of XO_SPARE with XO_MAIN, in units of 10^-12, enters the running average of one
second; three consecutive windows more than 2 ppm from it are a loss of XO_MAIN (10 R385, R386). -/
def execXoCompareWindow (ratio : Int) (s : State) : Host.Outcome State Fault Refusal :=
  let due := s.evalDue evCompare ms
  let s := s.when due (State.evalMade evCompare)
  if !due ∨ !s.on F.MEAS_STATUS_XO_SPARE_OK ∨ !s.on F.MEAS_STATUS_XO_MAIN_OK then .next s
  else if s.spareWin ≠ [] ∧ (ratio - s.getI F.MEAS_SPARE_OFFSET_OFFSET).natAbs > 2000000 then
    if 2 ≤ s.spareBad then .next s.xoMainLost else .next { s with spareBad := s.spareBad + 1 }
  else
    let w := (ratio :: s.spareWin).take 1000
    let s := { s with spareWin := w, spareBad := 0 }
    .next (s.setI F.MEAS_SPARE_OFFSET_OFFSET (w.foldl (fun a b => a + b) 0 / (w.length : Int)))

/-- XO_MAIN_RETURN: clean, oven-stable and steady for 30 min, XO_MAIN returns to service (10 R387). The oven's 30 min are timed here; the
monitor and the ratio are what the row reports. -/
def execXoMainReturn (s : State) : Host.Outcome State Fault Refusal :=
  if !s.on F.MEAS_STATUS_XO_MAIN_OK ∧ s.on F.MEAS_STATUS_OVEN_STABLE ∧ s.ran .xoBack (1800 * sec) then
    let s := s.stop .xoBack
    let s := (s.set F.MEAS_STATUS_XO_MAIN_OK 1).set F.MEAS_STATUS_MASTER_SPARE 0
    .next (({ s with spareWin := [], spareBad := 0 }).raise .meas 1 0xFFFF)
  else .next s

/-- XO_SPARE_LOST: no safe clock remains; the groom clock moves to XO_MAIN (10 R389, 12 R451). -/
def execXoSpareLost (s : State) : Host.Outcome State Fault Refusal :=
  if s.on F.MEAS_STATUS_XO_SPARE_OK then
    let s := (s.set F.MEAS_STATUS_XO_SPARE_OK 0).set F.SYN_STATUS_SAFE_GEN_OK 0
    .next (({ s with spareWin := [], spareBad := 0 }).raise .meas 2 0xFFFF)
  else .next s

/-- XO_SPARE_RETURN: XO_SPARE is present again, and the safe clock with it (10 R389). -/
def execXoSpareReturn (s : State) : Host.Outcome State Fault Refusal :=
  .next ((s.set F.MEAS_STATUS_XO_SPARE_OK 1).set F.SYN_STATUS_SAFE_GEN_OK 1)

/-- OVEN_STABLE_RISE: the oven current has stayed within 2 % for 60 s; the first rise after a TIMING reset is an event
(10 R388, 11 R435). -/
def execOvenStableRise (s : State) : Host.Outcome State Fault Refusal :=
  if s.on F.MEAS_STATUS_OVEN_STABLE then .next s
  else
    let s := (s.set F.MEAS_STATUS_OVEN_STABLE 1).set F.DPLL_STATUS_WARMING 0
    let s := s.when (!s.on F.MEAS_STATUS_XO_MAIN_OK) (State.start .xoBack)
    .next (({ s with ovenSeen := true }).when (!s.ovenSeen) (State.raise .meas 3 0xFFFF))

/-- OVEN_STABLE_FALL: the oven current leaves 2 % of its settled value (10 R388, 11 R435). -/
def execOvenStableFall (s : State) : Host.Outcome State Fault Refusal :=
  .next (((s.set F.MEAS_STATUS_OVEN_STABLE 0).set F.DPLL_STATUS_WARMING 1).stop .xoBack)

/-! ### Interpolators (10 R390, R391) -/

/-- One STCLK period: 81,920 units (10 R390). -/
def stclk : Nat := 81920

/-- One bin (chapter 10). -/
def bin : Nat := 80

/-- 10 R391: T in units from a raw code and a calibration pair. -/
def tdcUnits (c c1 c2 : Nat) : Int := roundDiv (((c : Int) - c1) * stclk) ((c2 : Int) - c1) + stclk

/-- 10 R391: whether a calibration pair is in range. -/
def tdcGood (c1 c2 : Nat) : Bool := decide (1050 ≤ (c2 : Int) - c1 ∧ (c2 : Int) - c1 ≤ 1350)

/-- 10 R391: TDC `key` places an event: its time, and whether the last good calibration was used. Before any good calibration
of that TDC the interval T is a free value within its range (log entry 3). -/
def State.place1 (key : Nat) (d : TdcEdge) (s : State) : Nat × Bool × State :=
  if tdcGood d.c1 d.c2 then
    let out := s.cal.out.filter (fun k => k != key)
    let s := { s with cal := { s.cal with good := Tbl.ins key (d.c1, d.c2) s.cal.good, out := out } }
    (((d.e : Int) - tdcUnits d.c d.c1 d.c2).toNat, false, s.setB F.MEAS_STATUS_CAL_RANGE (out != []))
  else
    let was := s.cal.out
    let s := ({ s with cal := { s.cal with out := key :: was.filter (fun k => k != key) } }).set F.MEAS_STATUS_CAL_RANGE 1
    let s := s.when (was == []) (State.raise .meas 4 (if 286 ≤ key then key - 286 else 0xFFFF))
    match Tbl.find key s.cal.good with
    | some (c1, c2) => (((d.e : Int) - tdcUnits d.c c1 c2).toNat, true, s)
    | none =>
      let (v, s) := s.free 391
      (d.e - (stclk + v % (stclk + 1)), true, s)

/-- 10 R390, R396: the DEGRADED condition of samples and records. -/
def State.measDegraded (s : State) : Bool := s.on F.MEAS_STATUS_STCLK_SAFE || s.degraded

/-! ### Phase taps (10 R394 to R397) -/

/-- 05 R203: the receive half of a lane's tap is valid while the lane holds block lock. -/
def State.tapRx (s : State) (n : Nat) : Bool := decide (n < 272) && s.on (F.LANE_STATUS_BLOCK_LOCK n)

/-- 05 R185, R203: the transmit half is valid while the transmitter runs: its lane is on, and its source is present. -/
def State.tapTx (s : State) (n : Nat) : Bool :=
  decide (n < 272) && (s.onSyn1 n || s.on F.MEAS_STATUS_XO_SPARE_OK) && (s.lane n == lnAcquire || s.lane n == lnHold || s.lane n == lnUp)

/-- One half of a sample: its edge time, phase, position and cycles, and CAL_RANGE, where it is valid. -/
def State.tapHalf (key at0 : Nat) (ok : Bool) (h : Option TapHalf) (s : State) :
    Option (Nat × Nat × Nat × Nat × Bool) × State :=
  match h with
  | none => (none, s)
  | some h =>
    if !ok then (none, s)
    else
      let (t, cal, s) := s.place1 key h.edge
      if at0 ≤ t ∧ t < at0 + us then (some (t, t - at0, h.bitpos, min h.cycles 0xFFFF, cal), s) else (none, s)

/-- A tap's eight words written (10 R396). -/
def State.tapWords (t at0 : Nat) (rx tx : Option (Nat × Nat × Nat × Nat × Bool)) (noEdge : Bool) (s : State) : State :=
  let g := fun (f : Nat × Nat × Nat × Nat × Bool → Nat) (h : Option (Nat × Nat × Nat × Nat × Bool)) =>
    match h with
    | some x => f x
    | none => 0
  let cal := fun (h : Option (Nat × Nat × Nat × Nat × Bool)) => match h with
    | some x => x.2.2.2.2
    | none => false
  let flags := b2n rx.isSome + 2 * b2n tx.isSome + 4 * b2n noEdge + 8 * b2n (cal rx || cal tx) + 16 * b2n s.measDegraded +
    32 * b2n (s.on F.MEAS_STATUS_MASTER_SPARE)
  s.wrWords (R.MEAS_TAP_LAST t) [ct at0 % 2 ^ 32, ct at0 / 2 ^ 32, g (fun x => x.2.1) rx, g (fun x => x.2.1) tx,
    g (fun x => x.2.2.1) rx, g (fun x => x.2.2.1) tx, g (fun x => x.2.2.2.1) rx + 65536 * g (fun x => x.2.2.2.1) tx, flags]

/-- 12 R476: the second that the next edge of PPSIN marks while TODIN labels it. -/
def State.todLabels (s : State) (r : Nat) : Bool :=
  s.on F.TOD_CFG_RX_EN && s.on F.TOD_STATUS_RX_VALID && s.get F.TOD_CFG_RX_PPS + 10 == r

/-- 11 R416: the edge of REF10 or REF11 at `t` marks the second after the last labelled one, or the nearest second. -/
def State.ppsMark (r t : Nat) (s : State) : State :=
  let near := (((t : Int) - s.getI (F.DPLL_REF_DELAY_DELAY r)).toNat + sec / 2) / sec
  let m := match (s.slotMem r).mark with
    | some m => if s.todLabels r then m + 1 else near
    | none => near
  let old := Tbl.find r s.ppsEdge
  let s := { s with ppsEdge := Tbl.ins r t s.ppsEdge }
  let s := match old with
    | some e => { s with ppsEdge := Tbl.ins (r + 10) e s.ppsEdge }
    | none => s
  s.refMark r t m

/-- TAP_SAMPLE: tap `t` takes its sample of the last whole microsecond; a reference tap feeds its slot (10 R395 to R397;
11 R417). -/
def execTapSample (t : Nat) (rx tx : Option TapHalf) (s : State) : Host.Outcome State Fault Refusal :=
  let at0 := s.nt / us * us
  if 286 ≤ t ∨ s.heldDomain 1 ∨ !s.sampleDue t at0 then .next s
  else
    let s := s.sampleMade t at0
    let r := t - 272
    let lane := if t < 272 then t else s.get (F.DPLL_REF_CFG_LANE r)
    let okRx := if 280 ≤ t then true else s.tapRx lane
    let (a, s) := s.tapHalf t at0 okRx rx
    let (b, s) := s.tapHalf t at0 (decide (t < 272) && s.tapTx t) tx
    let a := if t < 272 then a else a.map (fun x => (x.1, x.2.1, 0, x.2.2.2.1, x.2.2.2.2))
    let s := s.tapWords t at0 a b (decide (272 ≤ t) && a.isNone)
    if t < 272 then .next s
    else
      let s := match a with
        | some x =>
          let s := s.when (decide (r < 13)) (State.refEdge r x.1 x.2.2.2.1)
          let s := s.when (r == 10 || r == 11) (State.ppsMark r x.1)
          match r, s.gnss.mark with
          | 12, some m => s.refMark 12 x.1 m
          | _, _ => s
        | none => s
      .next (s.slotSample r a.isSome)

/-! ### Instrument inputs (10 R398 to R409) -/

/-- A channel. -/
def State.mi (s : State) (k : Nat) : MiChan := s.chans.getD k {}

/-- A channel changed. -/
def State.modMi (k : Nat) (f : MiChan → MiChan) (s : State) : State := { s with chans := Tbl.put {} k (f (s.mi k)) s.chans }

/-- Fields of a channel's CFG in force. -/
def MiChan.mode (c : MiChan) : Nat := let m := c.cfg % 8; if m = 6 ∨ m = 7 then 0 else m
def MiChan.ratio (c : MiChan) : Nat := 2 ^ bits c.cfg 5 2
def MiChan.div (c : MiChan) : Nat := bits c.cfg 8 24 + 1
def MiChan.scale (c : MiChan) : Bool := bit c.cfg 7
def MiChan.gateLen (c : MiChan) : Nat := gateNs (c.gate % 2 ^ 30) * ns

/-- 10 R398: whether a channel's edge select passes an edge. -/
def MiChan.passes (c : MiChan) (rising : Bool) : Bool :=
  match bits c.cfg 3 2 with
  | 1 => !rising
  | 2 => true
  | _ => rising

/-- 10 R401: the mode a channel works in and the channel that sets it: a stop channel follows its start channel, and the
interval modes set on a stop channel alone act as OFF. -/
def State.miMode (s : State) (k : Nat) : Nat × Nat :=
  let up := (s.mi (k - 1)).mode
  if k % 2 = 1 ∧ (up = 2 ∨ up = 3) then (up, k - 1)
  else
    let m := (s.mi k).mode
    (if k % 2 = 1 ∧ (m = 2 ∨ m = 3) then 0 else m, k)

/-- The integral of the crystal scale at a network time near now. -/
def State.accAt (s : State) (t : Nat) : Int := s.scaleAcc - s.freq * ((s.nt : Int) - t)

/-- 10 R406: an interval given in the crystal scale where SCALE_XO asks for it. -/
def scaled (xo : Bool) (v a0 a1 : Int) : Int := if xo then v - roundDiv (a1 - a0) 10000000000000000 else v

/-- Flags of a record (10 R408). -/
def fCoincident : Nat := 1
def fOrder : Nat := 2
def fTimeout : Nat := 4
def fGap : Nat := 8
def fNoEdge : Nat := 16
def fShort : Nat := 32
def fCalRange : Nat := 64

/-- 10 R408, R409: a record of channel `k`: held, or discarded and counted where 16,384 are held. -/
def State.miRecord (k mode time : Nat) (value : Int) (count flags : Nat) (s : State) : State :=
  let c := s.mi k
  let flags := flags + 128 * b2n s.measDegraded + 256 * b2n (s.on F.MEAS_STATUS_MASTER_SPARE) +
    512 * b2n (c.scale && decide (2 ≤ mode ∧ mode ≤ 4))
  if 16384 ≤ c.recs.length then
    let s := s.modMi k (fun c => { c with seq := c.seq + 1, lost := true })
    (s.bump (F.MEAS_CH_LOST_FULL k) 1).raise .meas 5 k
  else
    let b := leBytes 8 (ct time) ++ leBytes 8 (ofInt 64 value) ++ leBytes 4 (count % 2 ^ 32) ++ leBytes 1 k ++ leBytes 1 mode ++
      leBytes 2 (flags + 1024 * b2n c.lost) ++ leBytes 4 (c.seq % 2 ^ 32) ++ leBytes 4 0
    let s := s.modMi k (fun c => { c with seq := c.seq + 1, lost := false, recs := c.recs ++ [b] })
    s.set (F.MEAS_CH_STATUS_HELD k) (c.recs.length + 1)

/-- 10 R405: the open gate of a channel ends at `e`, whole or SHORT, with its record. -/
def State.closeGate (k e : Nat) (short : Bool) (s : State) : State :=
  let c := s.mi k
  let fs := if short then fShort else 0
  if c.mode = 5 then
    let n := c.idx * c.ratio
    (s.miRecord k 5 e n (min (n - c.total0) 0xFFFFFFFF) fs).modMi k (fun c => { c with total0 := n })
  else
    let s := match c.first, c.last with
      | some ⟨i, some t, a, x⟩, some ⟨j, some u, b, y⟩ =>
        s.miRecord k 4 e (scaled c.scale ((u : Int) - t) a b) ((j - i) * c.ratio) (fs + fCalRange * b2n (x || y))
      | _, _ => s.miRecord k 4 e 0 0 (fs + fNoEdge)
    s.modMi k (fun c => { c with first := none, last := none, conv := match c.last with | some x => x.time.or c.conv | none => c.conv })

/-- The gates of a channel that end at or before `t` closed in turn. -/
def State.passGates (k t : Nat) (s : State) : State :=
  match (s.mi k).gate0 with
  | none => s
  | some g =>
    let d := (s.mi k).gateLen
    s.forEach (List.range ((t - g) / d)) (fun i s =>
      (s.closeGate k (g + (i + 1) * d) false).modMi k (fun c => { c with gate0 := some (g + (i + 1) * d) }))

/-- GATE_END: a FREQUENCY or TOTALISE gate of channel `k` ends and its record is written (10 R405). -/
def execGateEnd (k : Nat) (s : State) : Host.Outcome State Fault Refusal :=
  match (s.mi k).gate0 with
  | none => .next s
  | some g =>
    let e := g + (s.mi k).gateLen
    if k < 8 ∧ e ≤ s.nt + grid then
      .next ((s.closeGate k e false).modMi k (fun c => { c with gate0 := some e }))
    else .next s

/-- Network time less the network time that has run: what a change of the counter changes (01 R630). -/
def State.ntOffset (s : State) : Int := (s.nt : Int) - s.elapsed

/-- 10 R403, 01 R630: the end of the STCLK cycle that contains an arming's expiry, moved with the counter. -/
def State.expiry (s : State) (k : Nat) : Option Int :=
  let c := s.mi k
  match c.armed with
  | some ⟨_, some t, _, _⟩ =>
    if c.arm % 2 ^ 30 = 0 then none
    else some (((t + c.arm % 2 ^ 30 * ns) / stclk * stclk + stclk : Nat) + (s.ntOffset - c.armOff))
  | _ => none

/-- 10 R403: an arming expires with a TIMEOUT record. -/
def State.disarm (k : Nat) (s : State) : State :=
  match (s.mi k).armed with
  | some ⟨_, some t, _, x⟩ =>
    (s.miRecord k 3 t 0 0 (fTimeout + fCalRange * b2n x)).modMi k (fun c => { c with armed := none })
  | _ => s.modMi k (fun c => { c with armed := none })

/-- ARMED_INTERVAL_EXPIRY: an armed pair reaches start + ARM_NS without a stop (10 R403). -/
def execArmedIntervalExpiry (k : Nat) (s : State) : Host.Outcome State Fault Refusal :=
  match s.expiry k with
  | some e => if k < 8 ∧ e ≤ ((s.nt + grid : Nat) : Int) then .next (s.disarm k) else .next s
  | none => .next s

/-- 10 R402: the oldest start and stop of one index make a record, until one side has none. -/
def State.pairUp (k : Nat) : Nat → State → State
  | 0, s => s
  | n + 1, s =>
    match (s.mi k).queue, (s.mi (k + 1)).queue with
    | a :: ta, b :: tb =>
      let s := (s.modMi k (fun c => { c with queue := ta })).modMi (k + 1) (fun c => { c with queue := tb })
      let cal := fCalRange * b2n (a.cal || b.cal)
      let s := match a.time, b.time with
        | some t, some u =>
          let v : Int := (u : Int) - t
          let fs := (if v.natAbs < 2 * bin then fCoincident else 0) + (if v < 0 then fOrder else 0)
          s.miRecord k 2 t (scaled (s.mi k).scale v a.acc b.acc) a.idx (fs + cal)
        | some t, none => s.miRecord k 2 t 0 a.idx (fGap + cal)
        | none, _ =>
          let (t, s) := s.free 402
          s.miRecord k 2 t 0 a.idx (fGap + cal)
      s.pairUp k n
    | _, _ => s

/-- 10 R402: a channel more than 4,096 edges ahead of its partner gives up its surplus. -/
def State.unpair (lead trail : Nat) (s : State) : State :=
  let a := (s.mi lead).idx
  let b := (s.mi trail).idx
  if b + 4096 < a then
    (s.bump (F.MEAS_CH_LOST_UNPAIRED lead) (a - b)).modMi lead (fun c =>
      { c with idx := b, queue := c.queue.filter (fun e => decide (e.idx ≤ b)) })
  else s

/-- Two timestamps lie in one STCLK cycle. -/
def sameStclk (a b : Nat) : Bool := a / stclk == b / stclk

/-- A stray count taken back: the edge was no stray (10 R404). -/
def State.unstray (f : Fld) (s : State) : State := s.set f (s.get f - 1)

/-- 10 R403: a start and a stop make a record, and the pair disarms. -/
def State.intervalEnd (k t u : Nat) (a e : MiEdge) (s : State) : State :=
  let v : Int := (u : Int) - t
  let fs := (if v.natAbs < 2 * bin then fCoincident else 0) + fCalRange * b2n (a.cal || e.cal)
  (s.miRecord k 3 t (scaled (s.mi k).scale v a.acc e.acc) 0 fs).modMi k (fun c => { c with armed := none })

/-- 10 R403, R404: a start of an armed-interval pair at `t`: a stop of the same STCLK cycle that came first, but whose timestamp is no more than 2
bins before it, completes it. -/
def State.armStart (k t : Nat) (e : MiEdge) (s : State) : State :=
  let c := s.mi k
  if c.armed.isSome then (s.bump (F.MEAS_CH_STRAY_START k) 1).modMi k (fun c => { c with start0 := some e })
  else
    let s := s.modMi k (fun c => { c with armed := some e, armOff := s.ntOffset, stop0 := none })
    match c.stop0 with
    | some b =>
      let u := b.time.getD 0
      s.when (sameStclk t u && decide (t ≤ u + 2 * bin)) (fun s => (s.unstray (F.MEAS_CH_STRAY_STOP k)).intervalEnd k t u e b)
    | none => s

/-- 10 R403, R404: a stop of an armed-interval pair at `u`; a start of the same STCLK cycle that was ignored, and whose timestamp is later, arms the
pair after it. -/
def State.armStop (k u : Nat) (e : MiEdge) (s : State) : State :=
  let stray := fun s : State => (s.bump (F.MEAS_CH_STRAY_STOP k) 1).modMi k (fun c => { c with stop0 := some e })
  match (s.mi k).armed with
  | some a =>
    let t := a.time.getD 0
    if u + 2 * bin < t then stray s
    else
      let next := (s.mi k).start0
      let s := (s.intervalEnd k t u a e).modMi k (fun c => { c with start0 := none })
      match next with
      | some b =>
        let t := b.time.getD 0
        s.when (sameStclk t u && decide (u < t)) (fun s =>
          (s.unstray (F.MEAS_CH_STRAY_START k)).modMi k (fun c => { c with armed := some b, armOff := s.ntOffset }))
      | none => s
  | none => stray s

/-- A converted edge, or one that was not (10 R400), in the mode of its pair's or its own channel. -/
def State.miUse (k mode start : Nat) (e : MiEdge) (s : State) : State :=
  match mode, e.time with
  | 1, some t => s.miRecord k 1 t 0 e.idx (fCalRange * b2n e.cal)
  | 2, _ =>
    let s := s.modMi k (fun c => { c with queue := c.queue ++ [e] })
    s.pairUp start 1
  | 3, some t => if k = start then s.armStart k t e else s.armStop start t e
  | 4, some t =>
    let due := match (s.mi k).gate0 with
      | some g => decide (g ≤ t)
      | none => false
    s.when due (State.modMi k (fun c => if c.first.isNone then { c with first := some e } else { c with last := some e }))
  | _, _ => s

/-- 10 R400, R405: the converted edge that one of mode `m` must follow by 100 ns: the last one; in FREQUENCY the gate's first, its last being
converted when no other follows. -/
def MiChan.before (c : MiChan) (m : Nat) : Option Nat :=
  if m = 4 then (match c.first with | some x => x.time | none => c.conv) else c.conv

/-- 10 R405: an edge before a TOTALISE gate begins is none of its increase. -/
def State.preGate (k mode t : Nat) (s : State) : State :=
  match (s.mi k).gate0 with
  | some g => s.when (mode == 5 && decide (t < g)) (State.modMi k (fun c => { c with total0 := c.idx * c.ratio }))
  | none => s

/-- 10 R398, R400: an edge that leaves the prescaler of channel `k`. -/
def State.miEdge (k mode start : Nat) (d : TdcEdge) (s : State) : State :=
  let (t0, cal, _) := s.place1 (286 + k) d
  let t := t0 - (s.rd (R.MEAS_CH_DELAY k)).toNat
  let s := s.when (mode == 4 || mode == 5) (State.passGates k t)
  let n := (s.mi k).idx + 1
  let turn := mode != 5 && ((mode != 1 && mode != 2) || n % (s.mi start).div == 0)
  let dead := match (s.mi k).before mode with
    | some u => decide (t < u + 100 * ns)
    | none => false
  let s := s.when (turn && !dead) (fun s => (s.place1 (286 + k) d).2.2)
  let s := match s.expiry start with
    | some e => s.when (mode == 3 && decide (e ≤ (t : Int))) (State.disarm start)
    | none => s
  let s := (s.modMi k (fun c => { c with idx := n })).preGate k mode t
  let s := s.when (mode == 2) (State.unpair k (if k = start then k + 1 else start))
  if !turn ∨ (s.mi k).idx ≠ n then s
  else if dead then (s.bump (F.MEAS_CH_LOST_DEAD k) 1).miUse k mode start { idx := n, time := none }
  else
    (s.modMi k (fun c => if mode = 4 ∧ c.first.isSome then c else { c with conv := some t })).miUse k mode start
      { idx := n, time := some t, acc := s.accAt t, cal := cal }

/-- 15 R556: a reference pulse on channel `k` within an ASYM window: the counter at it, less CABLE, less the nearest second. -/
def State.asymEdge (k : Nat) (d : TdcEdge) (s : State) : State :=
  if s.asyms.any (fun a => a.mi == k) then
    let (t0, _, s) := s.place1 (286 + k) d
    let t : Int := (t0 : Int) - (s.rd (R.MEAS_CH_DELAY k)).toNat
    { s with asyms := s.asyms.map (fun (a : AsymRun) =>
        let v := t - a.cable
        if a.mi = k ∧ (a.t0 : Int) ≤ t ∧ t < a.t1 then
          { a with rN := a.rN + 1, rSum := a.rSum + (v - (v + (sec / 2 : Nat)) / (sec : Int) * (sec : Nat)) }
        else a) }
  else s

/-- 15 R551: OUTPUT_LOOP suspends the mode of its MI channel. -/
def State.miSuspended (s : State) (k : Nat) : Bool := s.calRuns.any (fun r => r.mi == some k)

/-- MI_EDGE: an edge on instrument input `k` passes its edge select, prescaler, counter, decimator and TDC (10 R398 to R405). -/
def execMiEdge (k : Nat) (rising : Bool) (d : TdcEdge) (s : State) : Host.Outcome State Fault Refusal :=
  let s := if 8 ≤ k ∨ s.heldDomain 1 then s else s.asymEdge k d
  let (mode, start) := s.miMode k
  let c := s.mi k
  if 8 ≤ k ∨ s.heldDomain 1 ∨ s.miSuspended k ∨ mode = 0 ∨ !c.passes rising then .next s
  else if c.pre + 1 < c.ratio then .next (s.modMi k (fun c => { c with pre := c.pre + 1 }))
  else .next ((s.modMi k (fun c => { c with pre := 0 })).miEdge k mode start d)

/-- 10 R407: whether a channel's registers differ from its settings in force. -/
def State.miDiffers (s : State) (k : Nat) : Bool :=
  let c := s.mi k
  (s.rd (R.MEAS_CH_CFG k)).toNat != c.cfg || (s.rd (R.MEAS_CH_GATE k)).toNat != c.gate || (s.rd (R.MEAS_CH_ARM k)).toNat != c.arm

/-- 10 R407: a channel restarts with the settings in its registers. -/
def State.miRestart (k : Nat) (s : State) : State :=
  let s := s.when (s.mi k).gate0.isSome (fun s => match (s.mi k).gate0 with
    | some g => s.when (decide (g < s.nt)) (State.closeGate k s.nt true)
    | none => s)
  let s := (s.wr (R.MEAS_CH_LOST k) 0).wr (R.MEAS_CH_STRAY k) 0
  let s := s.modMi k (fun c => { (({} : MiChan)) with
    cfg := (s.rd (R.MEAS_CH_CFG k)).toNat, gate := (s.rd (R.MEAS_CH_GATE k)).toNat, arm := (s.rd (R.MEAS_CH_ARM k)).toNat,
    conv := c.conv, seq := c.seq, lost := c.lost, recs := c.recs })
  let m := (s.mi k).mode
  let g := (s.mi k).gateLen
  s.when (m == 4 || m == 5) (State.modMi k (fun c => { c with gate0 := some ((s.nt + g - 1) / g * g) }))

/-- 10 R407: changed settings act at a pick-cycle boundary; a change to either channel of a pair restarts both. -/
def State.miApply (s : State) : State :=
  let ch := (List.range 8).filter s.miDiffers
  let ks := (List.range 8).filter (fun k =>
    ch.contains k || (ch.contains (k + 1 - 2 * (k % 2)) &&
      ((s.miMode (k / 2 * 2)).1 == 2 || (s.miMode (k / 2 * 2)).1 == 3 ||
        (let m := s.get (F.MEAS_CH_CFG_MODE (k / 2 * 2)); m == 2 || m == 3))))
  s.forEach ks State.miRestart

end Sys2Proof.Machine
end

