-- ==== Sys2Proof/Machine/Syn.lean ====
section
/-! DEFINITION. Chapter 12: the synthesisers' guarded relock and the safe clock (R453 to R460), CLKOUTs (R461 to R464), pulse
outputs (R465 to R469), treadle commands (R472, R480) and the time-of-day serial lines (R474 to R476). -/

namespace Sys2Proof.Machine

open Sys2Proof

/-! ### Synthesisers (12 R451 to R460) -/

/-- Bit `n` of a group of SYN_STATUS: LOCKED from 0, RELOCKING from 4. -/
def synBit (base n : Nat) : Fld := ⟨R.SYN_STATUS, base + n, 1⟩

/-- 12 R461: a multiplier held within its range (R478). -/
def multOf (v : Nat) : Nat := max 128 (min 160 v)

/-- The multiplier of SYN2 or SYN3. -/
def State.synMult (s : State) (n : Nat) : Nat := multOf (s.get (if n = 2 then F.SYN_CFG_MULT2 else F.SYN_CFG_MULT3))

/-- Where a synthesiser's relock stands. -/
def State.synAt (s : State) (n : Nat) : SynStage := s.synStage.getD n .idle

/-- The stage of a synthesiser set. -/
def State.synTo (n : Nat) (st : SynStage) (s : State) : State := { s with synStage := Tbl.put .idle n st s.synStage }

/-- 08 R344: woven frames that wait go on as ordinary frames, and each stream re-anchors at its next frame. -/
def State.weaveOff (s : State) : State :=
  s.forEach s.wovenHandles (fun w s => (s.unweave w).set (F.LOOM_WOVEN_STATE w) 1)

/-- 12 R455, R458, R459: a domain moved to or from the safe clock: the core domains for SYN0, whose pick cycles then begin anywhere (01 R16:
the phase is a free value), TIMING for SYN1 with the fall-back of the synchronous lanes (05 R188) and their KPL (13 R509). -/
def State.setSafe (n : Nat) (on : Bool) (s : State) : State :=
  if n = 0 then
    let (v, s) := if on && !s.on F.SYN_STATUS_SAFE0 then s.free 16 else (s.safePhase, s)
    let s : State := { s with safePhase := v % (2 * grid) }
    ((s.setB F.SYN_STATUS_SAFE0 on).setB F.LOOM_STATUS_SAFE_CLOCK on).when on State.weaveOff
  else if n = 1 then ((s.setB F.SYN_STATUS_SAFE1 on).setB F.MEAS_STATUS_STCLK_SAFE on).laneSources
  else s

/-- 12 R455: the guarded relock of synthesiser `n` begins. Without a safe clock (R460) the domain stays where it is, and clock
failure follows; lanes leave SYN1 all the same (05 R188). -/
def State.synRelock (n : Nat) (s : State) : State :=
  let s := s.when (!s.on (synBit 4 n)) (State.bump (F.SYN_RELOCKS_COUNT n) 1)
  let s := ((s.set (synBit 0 n) 0).set (synBit 4 n) 1).synTo n (.locking false)
  ((s.start (.relock n)).when (decide (n < 2) && s.on F.SYN_STATUS_SAFE_GEN_OK) (State.setSafe n true)).when (n == 1) State.laneSources

/-- 10 R389, 12 R451: the crystal of the groom clock: XO_SPARE, or XO_MAIN while XO_SPARE is absent (`true`). -/
def State.groomOnMain (s : State) : Bool := !s.on F.MEAS_STATUS_XO_SPARE_OK

/-- SYN_RELOCK_START: a synthesiser loses lock, or sees an input step (12 R453 to R455). -/
def execSynRelockStart (n : Nat) (unlock : Bool) (s : State) : Host.Outcome State Fault Refusal :=
  if 4 ≤ n ∨ s.heldDomain 2 ∨ (unlock ∧ !s.on (synBit 0 n)) then .next s
  else .next ((s.synRelock n).when unlock (State.raise .syn n n))

/-- SYN_LOCK_ACQUIRED: the lock detector counts 1,024 good input cycles (12 R453). -/
def execSynLockAcquired (n : Nat) (s : State) : Host.Outcome State Fault Refusal :=
  if 4 ≤ n ∨ s.heldDomain 1 ∨ s.elemHeld.contains (.syn, n) then .next s
  else match s.synAt n with
    | .locking r => .next ((s.set (synBit 0 n) 1).synTo n (.checking r))
    | .idle => .next (s.set (synBit 0 n) 1)
    | _ => .next s

/-- SYN_FREQ_CHECK: the 10 µs frequency check passes, or sends the relock back (12 R455). -/
def execSynFreqCheck (n : Nat) (pass : Bool) (s : State) : Host.Outcome State Fault Refusal :=
  match s.synAt n with
  | .checking r =>
    if pass then .next ((s.stop (.relock n)).synTo n (.passed s.nt))
    else .next ((s.set (synBit 0 n) 0).synTo n (.locking r))
  | _ => .next s

/-- The CLKOUT_SET SYNTH that awaits synthesiser `n`. -/
def isSynth (n : Nat) (c : Cmd) : Bool := c.op == 0x57 && c.sub.b 0 == 3 && c.sub.P0 0 32 == n

/-- SYN_RELOCK_RETURN: at the next whole microsecond the fed domains or outputs return (12 R455, R478). -/
def execSynRelockReturn (n : Nat) (s : State) : Host.Outcome State Fault Refusal :=
  match s.synAt n with
  | .passed t =>
    if s.nt % us = 0 ∨ s.nt / us ≠ t / us then
      let s := (s.synTo n .idle).set (synBit 4 n) 0
      let s := (s.when (decide (n < 2)) (State.setSafe n false)).raise .syn (4 + n) n
      .next (s.finish (isSynth n) rOk s.nt 1 0)
    else .next s
  | _ => .next s

/-- SYN_RELOCK_RETRY: an attempt that has not passed its check within 1 ms of its 10 µs row restarts there (12 R456). -/
def execSynRelockRetry (n : Nat) (s : State) : Host.Outcome State Fault Refusal :=
  let again := fun r : Bool => s.ran (.relock n) (if r then ms else ms + 10 * us)
  let go := (((s.set (synBit 0 n) 0).synTo n (.locking true)).start (.relock n)).bump (F.SYN_RELOCKS_COUNT n) 1
  match s.synAt n with
  | .locking r => if again r then .next (go.raise .syn 8 n) else .next s
  | .checking r => if again r then .next (go.raise .syn 8 n) else .next s
  | _ => .next s

/-! ### CLKOUTs (12 R461 to R464) -/

/-- The synthesiser of CLKOUTk. -/
def clkoutSyn (k : Nat) : Nat := if k < 4 then 2 else 3

/-- DIV of a CLKOUT, held within its range (12 R461, R478). -/
def State.clkoutDiv (s : State) (k : Nat) : Nat :=
  max 4 (min 8000000000 ((s.rd (R.CLKOUT_DIV_LO k)).toNat + 2 ^ 32 * s.get (F.CLKOUT_DIV_HI_DIV_HIGH k)))

/-- 12 R462: a CLKOUT follows its registers at the boundary `b`: a new anchor at its enable and at each change of DIV, DELAY or
MULT. -/
def State.clkoutApply (k b : Nat) (s : State) : State :=
  if !s.on (F.CLKOUT_CFG_ENABLE k) then { s with clkouts := Tbl.del k s.clkouts }
  else
    let c : ClkOut := { anchor := s.elapsedAt b, div := s.clkoutDiv k, delay := s.get (F.CLKOUT_DELAY_DELAY k),
                        mult := s.synMult (clkoutSyn k) }
    match Tbl.find k s.clkouts with
    | some o => if o = { c with anchor := o.anchor } then s else { s with clkouts := Tbl.ins k c s.clkouts }
    | none => { s with clkouts := Tbl.ins k c s.clkouts }

/-- 12 R462: grid edge `i` of a CLKOUT, on the scale of the network time that has run. -/
def ClkOut.edge (c : ClkOut) (i : Nat) : Nat := c.anchor + c.delay * bin + i * c.div * 20 * ns / c.mult

/-- 12 R463, R464: whether a CLKOUT places edges: enabled, its synthesiser not relocking, not squelched in free run. -/
def State.clkoutRuns (s : State) (k : Nat) : Bool :=
  s.clkouts.has k && !s.on (synBit 4 (clkoutSyn k)) && !(s.on (F.CLKOUT_CFG_SQUELCH k) && s.dp == dpFreeRun)

/-- 12 R462: a running CLKOUT's synthesiser changes its multiplier at the boundary `b`: a new anchor. -/
def State.clkoutMult (k b : Nat) (s : State) : State :=
  match Tbl.find k s.clkouts with
  | some c => { s with clkouts := Tbl.ins k { c with anchor := s.elapsedAt b, mult := s.synMult (clkoutSyn k) } s.clkouts }
  | none => s

/-- 12 R454, R462: the multiplier of SYN2 or SYN3 changed at the boundary `b`. -/
def State.multTo (n v b : Nat) (s : State) : State :=
  let was := s.synMult n
  let s := s.set (if n = 2 then F.SYN_CFG_MULT2 else F.SYN_CFG_MULT3) v
  if s.synMult n = was then s
  else ((s.forEach ((List.range 8).filter (fun k => clkoutSyn k == n)) (fun k => State.clkoutMult k b))).synRelock n

/-! ### Pulse outputs (12 R465 to R469) -/

/-- 12 R465: whether a period is valid. -/
def periodOk (v : Nat) : Bool := decide (v % 50 = 0 ∧ 1000 ≤ v ∧ v ≤ 1000000000 ∧ 1000000000 % v = 0)

/-- The valid periods. -/
def periods : List Nat :=
  ((List.range 10).flatMap (fun a => (List.range 10).map (fun b => 2 ^ a * 5 ^ b))).filter periodOk

/-- 12 R478: a period as it acts: itself where valid, else the greatest valid period below it, or the least. -/
def periodOf (v : Nat) : Nat := periods.foldl (fun m p => if p ≤ v ∧ m < p then p else m) 1000

/-- The period of a pulse output's registers, in ns. -/
def State.pulsePeriod (s : State) (o : Nat) : Nat := if o ≤ 1 then 1000000000 else periodOf (s.get (F.PULSE_PERIOD_PERIOD_NS o))

/-- The delay of a pulse output's registers, in units. -/
def State.pulseDelay (s : State) (o : Nat) : Int := s.getI (F.PULSE_DELAY_DELAY o) * bin

/-- WIDTH_NS as it acts, in ns. -/
def State.pulseWidth (s : State) (o : Nat) : Nat :=
  max 100 (min (s.pulsePeriod o - 100) (s.get (F.PULSE_WIDTH_WIDTH_NS o)))

/-- 12 R466, R467: a pulse output anchored; its first leading edge is the first at or after `x`. -/
def State.pulseAnchor (o x : Nat) (s : State) : State :=
  let d := s.pulsePeriod o * ns
  let dl := s.pulseDelay o
  let first := (-((dl - x) / (d : Int))).toNat * d
  let p : PulseOut := { offset := (s.nt : Int) - s.elapsed, next := first, period := d, delay := dl, newPeriod := d, newDelay := dl,
                        width := s.pulseWidth o * ns, highEnd := ((Tbl.find o s.pulses).map (·.highEnd)).getD 0 }
  ({ s with pulses := Tbl.ins o p s.pulses }).wr (R.PULSE_STATUS o)
    (((s.rd (R.PULSE_STATUS o)) &&& 0x6#32) ||| 1#32)

/-- 12 R466, R469: a pulse output follows its registers at the boundary `b`: ENABLE, and where it runs the new period, delay and width. -/
def State.pulseApply (o b : Nat) (s : State) : State :=
  if !s.on (F.PULSE_CFG_ENABLE o) then ({ s with pulses := Tbl.del o s.pulses }).wr (R.PULSE_STATUS o) 0
  else match Tbl.find o s.pulses with
    | none => s.pulseAnchor o b
    | some p =>
      let p := { p with newPeriod := s.pulsePeriod o * ns, newDelay := s.pulseDelay o, width := s.pulseWidth o * ns }
      { s with pulses := Tbl.ins o p s.pulses }

/-- 12 R469: the period and delay for the next intended instant: the new ones where it is a multiple of the new period. -/
def PulseOut.now (p : PulseOut) : PulseOut := if p.next % p.newPeriod = 0 then { p with period := p.newPeriod, delay := p.newDelay } else p

/-- PULSE_EDGE: a pulse output reaches its next intended instant: it emits its pulse with PULSE_OFFSET, or skips it under
SQUELCH (12 R465 to R469). -/
def execPulseEdge (o : Nat) (s : State) : Host.Outcome State Fault Refusal :=
  match Tbl.find o s.pulses with
  | none => .next s
  | some p0 =>
    let p := p0.now
    let at0 := (p.next : Int) + p.delay
    if (s.elapsed : Int) + p.offset < at0 then .next s
    else
      let p' := { p with next := p.next + p.period, last := some p.next }
      if s.on (F.PULSE_CFG_SQUELCH o) ∧ s.degraded then
        let s := ({ s with pulses := Tbl.ins o p' s.pulses }).set (F.PULSE_STATUS_SQUELCHED o) 1
        .next ((s.bump (F.PULSE_STATUS_SKIPPED o) 1).raise .syn 12 o)
      else
        let off := (s.nt : Int) - s.elapsed - p.offset
        let p' := { p' with highEnd := (at0 - p.offset).toNat + p.width }
        let s := ({ s with pulses := Tbl.ins o p' s.pulses }).set2 (R.PULSE_OFFSET_LO o) (R.PULSE_OFFSET_HI o) 64 (ofInt 64 off)
        .next ((s.setB (F.PULSE_STATUS_ALIGNED o) (decide (off.natAbs ≤ bin))).set (F.PULSE_STATUS_SQUELCHED o) 0)

/-- 12 R467: ALIGN re-anchors a running pulse output at the second `b`. -/
def State.pulseAlign (o b : Nat) (s : State) : State :=
  match Tbl.find o s.pulses with
  | none => s
  | some p =>
    let e := s.elapsedAt b
    (s.pulseAnchor o (if e < p.highEnd then b + (p.highEnd - e) + 100 * ns else b)).raise .syn 9 (8 + o)

/-- ALIGN's action on one bit of its mask. -/
def State.alignBit (b i : Nat) (s : State) : State :=
  if i < 8 then
    match Tbl.find i s.clkouts with
    | none => s
    | some c => ({ s with clkouts := Tbl.ins i { c with anchor := s.elapsedAt b } s.clkouts }).raise .syn 9 i
  else s.pulseAlign (i - 8) b

/-- ALIGN (12 R467, R479). -/
def specAlign : CmdSpec where
  cls := clsMgmt
  block := false
  p0 := 0xFFF
  p1 := 0
  p2 := 0
  first := onSecond
  check d _ := if d.P0 0 12 = 0 then rBadParam else rOk
  act c s := (s.forEach ((List.range 12).filter (fun i => bit (c.sub.P0 0 12) i)) (State.alignBit c.boundary), .done rOk 0 0)

/-- ALIGN re-anchors the outputs its mask names at a second of network time. -/
def execAlign (d : Submission) (s : State) : Host.Outcome State Fault Refusal := .next (specAlign.take 0x58 true d s)

/-! ### CLKOUT_SET (12 R478) -/

/-- The registers of an ACTION's block, in order. -/
def clkoutRegs (action i : Nat) : List Nat :=
  match action with
  | 0 => [R.CLKOUT_CFG i, R.CLKOUT_DIV_LO i, R.CLKOUT_DIV_HI i, R.CLKOUT_DELAY i]
  | 1 => [R.PULSE_CFG i, R.PULSE_PERIOD i, R.PULSE_WIDTH i, R.PULSE_DELAY i]
  | _ => [R.TOD_CFG]

/-- CLKOUT_SET's checks: P0 fits ACTION, no reserved bit, every value in its range. -/
def clkoutCheck (action : Nat) (d : Submission) : Nat :=
  let i := d.p0.toNat
  let ok := match action with
    | 0 =>
      let v := d.le 12 4 + 2 ^ 32 * (d.le 16 4 % 2)
      decide (i < 8) && d.form 0 24 && d.regsOk 8 (clkoutRegs 0 0) && decide (4 ≤ v ∧ v ≤ 8000000000)
    | 1 =>
      let per := if i ≤ 1 then 1000000000 else d.le 12 4
      let w := d.le 16 4
      decide (i < 4) && d.form 1 24 && d.regsOk 8 (clkoutRegs 1 2) && periodOk per && decide (100 ≤ w ∧ w + 100 ≤ per)
    | 2 =>
      let baud := bits (d.le 8 4) 8 24
      decide (i = 0) && d.form 2 12 && d.regsOk 8 [R.TOD_CFG] && decide (9600 ≤ baud ∧ baud ≤ 10000000)
    | _ => decide (i = 2 ∨ i = 3) && d.form 3 12 && decide (128 ≤ d.le 8 4 ∧ d.le 8 4 ≤ 160)
  if ok then rOk else rBadParam

/-- CLKOUT_SET's action. -/
def clkoutAct (action : Nat) (c : Cmd) (s : State) : State × Answer :=
  let d := c.sub
  let i := d.p0.toNat
  let b := c.boundary
  match action with
  | 0 => ((s.putRegs d 8 (clkoutRegs 0 i)).clkoutApply i b, .done rOk 0 0)
  | 1 =>
    let per := s.rd (R.PULSE_PERIOD i)
    let s := (s.putRegs d 8 (clkoutRegs 1 i)).when (decide (i ≤ 1)) (State.wr (R.PULSE_PERIOD i) per)
    (s.pulseApply i b, .done rOk 0 0)
  | 2 => (s.putRegs d 8 [R.TOD_CFG], .done rOk 0 0)
  | _ =>
    if s.synMult i = d.le 8 4 then (s, .done rOk (s.get (synBit 0 i)) 0) else (s.multTo i (d.le 8 4) b, .wait)

/-- CLKOUT_SET with one ACTION. -/
def specClkout (action : Nat) : CmdSpec where
  cls := clsMgmt
  block := true
  first := onPick
  check d _ := clkoutCheck action d
  act := clkoutAct action

/-- CLKOUT_SET CLOCK writes a CLKOUT's enable, divider and delay. -/
def execClkoutSetClock (d : Submission) (s : State) : Host.Outcome State Fault Refusal :=
  .next ((specClkout 0).take 0x57 true d s)

/-- CLKOUT_SET PULSE writes a pulse output's configuration, period, width and delay. -/
def execClkoutSetPulse (d : Submission) (s : State) : Host.Outcome State Fault Refusal :=
  .next ((specClkout 1).take 0x57 true d s)

/-- CLKOUT_SET TOD writes the time-of-day serial configuration. -/
def execClkoutSetTod (d : Submission) (s : State) : Host.Outcome State Fault Refusal :=
  .next ((specClkout 2).take 0x57 true d s)

/-- CLKOUT_SET SYNTH changes SYN2's or SYN3's multiplier through a guarded relock and completes at its end. -/
def execClkoutSetSynth (d : Submission) (s : State) : Host.Outcome State Fault Refusal :=
  .next ((specClkout 3).take 0x57 true d s)

/-- 12 R478: whether an address is that of CLKOUT_CFG, PULSE_CFG, TOD_CFG or SYN_CFG. -/
def isOutputCfg (a : Nat) : Bool :=
  (List.range 8).any (fun k => a == R.CLKOUT_CFG k) || (List.range 4).any (fun o => a == R.PULSE_CFG o) ||
    a == R.TOD_CFG || a == R.SYN_CFG

/-- 12 R478: a write before RUN to one of those registers, acting on its group at the next pick-cycle boundary. -/
def State.outputWrite (a : Nat) (v : Word) (s : State) : State :=
  let b := nextGrid s.nt
  if a = R.SYN_CFG then (s.multTo 2 (bits v.toNat 0 8) b).multTo 3 (bits v.toNat 8 8) b
  else
    let m : Word := match rowOf a with
      | some r => r.rws ||| r.rw
      | none => 0
    let s := s.wr a (v &&& m)
    if a = R.TOD_CFG then s
    else
      let s := s.forEach ((List.range 8).filter (fun k => a == R.CLKOUT_CFG k)) (fun k => State.clkoutApply k b)
      s.forEach ((List.range 4).filter (fun o => a == R.PULSE_CFG o)) (fun o => State.pulseApply o b)

/-- OUTPUT_CFG_WRITE: before RUN, such a write acts as CLKOUT_SET would (12 R478). -/
def execOutputCfgWrite (a : Nat) (v : BitVec 32) (s : State) : Host.Outcome State Fault Refusal :=
  if isOutputCfg a ∧ !s.run then .next (s.outputWrite a v) else .next s

/-! ### TREADLE_SET (12 R472, R480) -/

/-- The boundary of a treadle command: the treadle's next period. -/
def onTreadle : Submission → State → Option (Nat → Nat) := fun d s => some (s.treadleStart (d.P0 0 3))

/-- 12 R472: a new programme of treadle `t` at the instant `b`; none where its single pulse has passed. -/
def newTreadle (start : Int) (periodNs count b : Nat) : Option Trd :=
  if periodNs = 0 then (if start < b then none else some { start := start, period := 0, k := 0, stop := some 1 })
  else
    let d := periodNs * ns
    let k := (-((start - b) / (d : Int))).toNat
    some { start := start, period := d, k := k, stop := if count = 0 then none else some (k + count) }

/-- A new programme takes effect: TRD_DONE and TRD_MISSED restart. -/
def State.treadleBegin (t : Nat) (p : Trd) (s : State) : State :=
  ({ s with treadles := Tbl.ins t p s.treadles } |>.wr (R.TRD_DONE t) 0).wr (R.TRD_MISSED t) 0

/-- A treadle's programme ends, ENABLE reading 0. -/
def State.treadleStop (t : Nat) (s : State) : State :=
  ({ s with treadles := Tbl.del t s.treadles }).set (F.TRD_CFG_ENABLE t) 0

/-- 12 R480: PERIOD_NS and WIDTH_NS are in their ranges. -/
def treadleOk (per w : Nat) : Bool :=
  (per == 0 || decide (200 ≤ per)) && decide (20 ≤ w) && decide (w ≤ if per = 0 then 1000000000 else per - 20)

/-- TREADLE_SET PROGRAM. -/
def specTreadleProgram : CmdSpec where
  cls := clsMgmt
  block := true
  p0 := 0x7
  first := onTreadle
  check d _ := if d.form 0 32 && treadleOk (d.le 16 4) (d.le 20 4) && d.regsOk 28 [R.TRD_CFG 0] then rOk else rBadParam
  act c s :=
    let d := c.sub
    let t := d.P0 0 3
    let start := (c.boundary : Int) + ctDiff (d.le 8 8) (ct c.boundary)
    match newTreadle start (d.le 16 4) (d.le 24 4) c.boundary with
    | none => (s, .done rState 0 0)
    | some p =>
      let s := s.wrWords (R.TRD_START_LO t) [d.le 8 4, d.le 12 4, d.le 16 4, d.le 20 4, d.le 24 4]
      ((s.wr (R.TRD_CFG t) (BitVec.ofNat 32 (d.le 28 4))).treadleBegin t p, .done rOk (ct (p.edge p.k).toNat) 0)

/-- TREADLE_SET STOP. -/
def specTreadleStop : CmdSpec where
  cls := clsMgmt
  block := true
  p0 := 0x7
  first := onTreadle
  check d _ := if d.form 1 32 then rOk else rBadParam
  act c s := (s.treadleStop (c.sub.P0 0 3), .done rOk 0 0)

/-- TREADLE_SET PROGRAM installs a new programme at the start of the treadle's next period. -/
def execTreadleSetProgram (d : Submission) (s : State) : Host.Outcome State Fault Refusal :=
  .next (specTreadleProgram.take 0x59 true d s)

/-- TREADLE_SET STOP ends a treadle's programme. -/
def execTreadleSetStop (d : Submission) (s : State) : Host.Outcome State Fault Refusal :=
  .next (specTreadleStop.take 0x59 true d s)

/-- 12 R480: a treadle's registers latched as a programme at the next pick-cycle boundary. -/
def State.treadleLatch (t : Nat) (s : State) : State :=
  let b := s.treadleStart t (s.nt + 1)
  let start := (b : Int) + ctDiff (s.get2 (R.TRD_START_LO t) (R.TRD_START_HI t)) (ct b)
  let per := s.get (F.TRD_PERIOD_PERIOD_NS t)
  match newTreadle start (if per = 0 then 0 else max 200 per) (s.get (F.TRD_COUNT_COUNT t)) b with
  | none => s
  | some p => s.treadleBegin t p

/-- 12 R480: a write of TRD_CFG before RUN. -/
def State.trdCfgWrite (t : Nat) (v : Word) (s : State) : State :=
  let was := s.on (F.TRD_CFG_ENABLE t)
  let s := s.wr (R.TRD_CFG t) (v &&& 7#32)
  if s.on (F.TRD_CFG_ENABLE t) then s.when (!was) (State.treadleLatch t)
  else s.treadleStop t

/-- TRD_ENABLE_SET: before RUN, setting TRD_CFG.ENABLE latches the treadle's registers as a PROGRAM (12 R480). -/
def execTrdEnableSet (t : Nat) (v : BitVec 32) (s : State) : Host.Outcome State Fault Refusal :=
  if t < 8 ∧ !s.run ∧ v.getLsbD 0 then .next (s.trdCfgWrite t v) else .next s

/-- TRD_ENABLE_CLEAR: before RUN, clearing TRD_CFG.ENABLE acts as a STOP (12 R480). -/
def execTrdEnableClear (t : Nat) (v : BitVec 32) (s : State) : Host.Outcome State Fault Refusal :=
  if t < 8 ∧ !s.run ∧ !v.getLsbD 0 then .next (s.trdCfgWrite t v) else .next s

/-! ### Time-of-day serial (12 R474 to R476, R482) -/

/-- 12 R475: the time message for the intended instant `i` of a pulse output. FREQ_TRACEABLE is defined nowhere: a free value
(log entry 3). OFFSET_NS is rounded down (log entry 87). -/
def State.todMessage (o i : Nat) (s : State) : List Byte × State :=
  let (fr, s) := s.free 475
  let (c, a, _) := s.clockQual
  let flags := s.get F.TIME_UTC_LEAP61 + 2 * s.get F.TIME_UTC_LEAP59 + 4 * s.get F.TIME_UTC_UTC_VALID +
    8 * b2n (s.quality == 0) + 16 * (fr % 2) + 32 * b2n s.degraded + 64 * s.get (F.PULSE_STATUS_ALIGNED o)
  let off := toInt 64 (s.get2 (R.PULSE_OFFSET_LO o) (R.PULSE_OFFSET_HI o)) / (ns : Int)
  let body := [1#8, 24#8] ++ beBytes 6 (i / sec) ++ beBytes 2 (s.get F.TIME_UTC_UTC_OFFSET) ++ beBytes 1 flags ++ beBytes 1 c ++
    beBytes 1 a ++ beBytes 1 s.timeSource ++ beBytes 4 (satInt 32 off) ++ beBytes 2 (s.todSeq % 65536)
  ([0x5A#8, 0xC3#8] ++ body ++ beBytes 2 (body.foldl crc16Byte 0xFFFF), s)

/-- TOD_MESSAGE_SEND: 1 ms after an intended leading edge of the selected PPSOUT its message goes out (12 R475). -/
def execTodMessageSend (s : State) : Host.Outcome State Fault Refusal :=
  let o := s.get F.TOD_CFG_TX_PPS
  match Tbl.find o s.pulses with
  | none => .next s
  | some p =>
    match p.last with
    | none => .next s
    | some i =>
      if s.on F.TOD_CFG_TX_EN ∧ (i : Int) + p.delay + (ms : Nat) ≤ (s.elapsed : Int) + p.offset then
        let (l, s) := s.todMessage o i
        .next { s with todSent := l, todSeq := s.todSeq + 1, pulses := Tbl.ins o { p with last := none } s.pulses }
      else .next s

/-- A TODIN error counted. -/
def State.todError (f : Fld) (s : State) : State := (s.bump f 1).raise .syn 11 0

/-- TODIN_MESSAGE: a message whose first start bit fell at network time `t`, with `stop` every stop bit good, is checked and
labels the edge of the selected PPSIN that precedes it (12 R476). -/
def execTodinMessage (t : Nat) (l : List Byte) (stop : Bool) (s : State) : Host.Outcome State Fault Refusal :=
  let r := 10 + s.get F.TOD_CFG_RX_PPS
  let here := fun e : Nat => decide (e < t ∧ t ≤ e + sec)
  if !s.on F.TOD_CFG_RX_EN then .next s
  else if !stop ∨ byteAt l 0 ≠ 0x5A ∨ byteAt l 1 ≠ 0xC3 then .next (s.todError F.TOD_RX_ERR_FRAMING)
  else if byteAt l 2 ≠ 1 ∨ byteAt l 3 ≠ 24 ∨ l.length ≠ 24 then .next s
  else if ((l.drop 2).take 20).foldl crc16Byte 0xFFFF ≠ beAt l 22 2 then .next (s.todError F.TOD_RX_ERR_CRC)
  else
    let m := beAt l 4 6
    let accept := fun (e k : Nat) (s : State) =>
      let s := ((s.set F.TOD_STATUS_RX_VALID 1).set F.TOD_STATUS_RX_SEQ (beAt l 20 2)).start .todRx
      let s := ((s.set F.TOD_RX_SEC_LO_SEC_LOW (m % 2 ^ 32)).set F.TOD_RX_SEC_HI_SEC_HIGH (m / 2 ^ 32)).set
        F.TOD_RX_SEC_HI_UTC_OFFSET (beAt l 10 2)
      (s.refMark r e (m + k)).when (s.timeSel == r)
        (State.takeUtc (beAt l 10 2) (bit (byteAt l 12) 0) (bit (byteAt l 12) 1) (bit (byteAt l 12) 2))
    match Tbl.find r s.ppsEdge, Tbl.find (r + 10) s.ppsEdge with
    | some e, some p =>
      if here e then .next (accept e 0 s)
      else if here p then .next (accept e 1 s)
      else .next (s.todError F.TOD_RX_ERR_ORPHAN)
    | some e, none => if here e then .next (accept e 0 s) else .next (s.todError F.TOD_RX_ERR_ORPHAN)
    | none, _ => .next (s.todError F.TOD_RX_ERR_ORPHAN)

/-- TODIN_RX_VALID_EXPIRY: 2 s pass without an accepted TODIN message (12 R482). -/
def execTodinRxValidExpiry (s : State) : Host.Outcome State Fault Refusal :=
  if s.ran .todRx (2 * sec) then .next ((s.set F.TOD_STATUS_RX_VALID 0).stop .todRx) else .next s

end Sys2Proof.Machine
end

