-- ==== Sys2Proof/Machine/Dpll.lean ====
section
/-! DEFINITION. Chapter 11, the DPLL: selection by rank and vote (R424 to R426), its frequency and paths (R427 to R434), learning and
holdover (R435 to R438), its state machine (R437), steering (R440), QL_OUT and ESMC time-outs (R443, R444), and REF_SET and
DPLL_STEER (R446, R447). -/

namespace Sys2Proof.Machine

open Sys2Proof

/-! ### Selection (11 R424 to R426) -/

/-- DPLL_CTRL.MODE, values 4 to 7 acting as 0. -/
def State.dpMode (s : State) : Nat := let m := s.get F.DPLL_CTRL_MODE; if 4 ≤ m then 0 else m
def mdAuto : Nat := 0
def mdForced : Nat := 1
def mdSteered : Nat := 2
def mdFreeRun : Nat := 3

/-- 11 R424: two slots agree in offset and, where both carry time, in phase. -/
def State.agree (s : State) (x y : Nat) : Bool :=
  let off := fun r => s.getI (F.DPLL_REF_OFFSET_OFFSET r)
  decide ((off x - off y).natAbs ≤ 10 * s.get F.DPLL_VOTE_VOTE_PPB) &&
    (!(carriesTime x && carriesTime y) ||
      match (s.slotMem x).phase, (s.slotMem y).phase with
      | some a, some b => decide ((a - b).natAbs ≤ ns * s.get F.DPLL_VOTE_VOTE_PHASE_NS)
      | _, _ => true)

/-- 11 R424: how many other qualified slots of `cands` agree with `x`. -/
def State.support (s : State) (cands : List Nat) (x : Nat) : Nat :=
  (cands.filter (fun y => s.slot y == slQualified && y != x && s.agree x y)).length

/-- The member of a list with the greatest support, the lowest slot on ties. -/
def State.bestSupport (s : State) (cands : List Nat) : List Nat → Option Nat
  | [] => none
  | x :: t =>
    match s.bestSupport cands t with
    | none => some x
    | some y => if s.support cands y > s.support cands x then some y else some x

/-- 11 R424: one choice over `cands` with the reference selected before: the choice, and DISAGREE set (`some true`), cleared
(`some false`) or untouched. -/
def State.choose (s : State) (cands : List Nat) (cur : Option Nat) : Option Nat × Option Bool :=
  let sel := cands.filter s.selectable
  let best := sel.foldl (fun m x => min m (s.slotRank x)) 100000
  let top := sel.filter (fun x => s.slotRank x == best)
  match cur with
  | some c =>
    if sel.contains c then
      let e := if s.on F.DPLL_CTRL_REVERTIVE then top else sel.filter (fun x => s.slotRank x == s.slotRank c)
      if e.contains c then
        let rivals := e.filter (fun x => !s.agree x c)
        match s.bestSupport cands rivals with
        | none => (some c, some false)
        | some x => (some (if s.support cands x > s.support cands c then x else c), some true)
      else (s.bestSupport cands e, none)
    else (s.bestSupport cands top, none)
  | none => (s.bestSupport cands top, none)

/-- A selection register's value as a slot. -/
def selOf (v : Nat) : Option Nat := if v < 14 then some v else none

/-- 11 R425, R426: FREQ_SEL, TIME_SEL and DISAGREE as the mode chooses them; no reference is selected in STEERED and FREE_RUN. -/
def State.selection (s : State) : Option Nat × Option Nat × Option Bool :=
  let both := fun c : Option Nat => match c with
    | some r => (some r, if carriesTime r then some r else none)
    | none => (none, none)
  if s.dpMode = mdForced then
    let r := s.get F.DPLL_CTRL_FORCE_REF
    let (f, t) := both (if r < 14 ∧ s.slot r = slQualified then some r else none)
    (f, t, none)
  else if s.dpMode ≠ mdAuto then (none, none, none)
  else if !s.on F.DPLL_CTRL_HYBRID then
    let (c, dis) := s.choose slotList (selOf s.freqSel)
    let (f, t) := both c
    (f, t, dis)
  else
    let (f, d1) := s.choose (List.range 10) (selOf s.freqSel)
    let (t, d2) := s.choose [10, 11, 12, 13] (selOf s.timeSel)
    let dis := if d1 = some true ∨ d2 = some true then some true else if d1.isSome then d1 else d2
    (if f.isSome then f else t, t, dis)

/-- 11 R444: QL_OUT follows the state and the selection; a change is an event and attention bit TIME_QUALITY. -/
def State.updQl (s : State) : State :=
  let q := if s.dp = dpLocked ∧ s.freqSel < 14 then s.slotQl s.freqSel else 7
  let was := s.get F.DPLL_STATUS_QL_OUT
  let s := s.set F.DPLL_STATUS_QL_OUT q
  if q = was then s else (s.raise .dpll 10 0xFFFF).attn (2 ^ 5)

/-- 11 R424: DISAGREE as a choice leaves it; its first rise is an event. -/
def State.showDisagree (dis : Option Bool) (s : State) : State :=
  match dis with
  | some true =>
    let was := s.on F.DPLL_STATUS_DISAGREE
    (s.set F.DPLL_STATUS_DISAGREE 1).when (!was) (State.raise .dpll 3 0xFFFF)
  | some false => s.set F.DPLL_STATUS_DISAGREE 0
  | none => s

/-- 11 R426: FREQ_SEL and TIME_SEL become `f` and `t`; a change is REF_SWITCH with attention bit REFERENCE. -/
def State.setSel (f t : Nat) (s : State) : State :=
  let s := { s with dpll := { s.dpll with selNext := none } }
  if f = s.freqSel ∧ t = s.timeSel then s
  else
    let s := (s.set F.DPLL_STATUS_FREQ_SEL f).set F.DPLL_STATUS_TIME_SEL t
    (((s.raise .dpll 0 (if f < 14 then f else 0xFFFF)).updQl).updClockQual).showSource

/-- 11 R424, R426: a choice made and applied at once, as at the boundary of a change of MODE. -/
def State.select (s : State) : State :=
  let (f, t, dis) := s.selection
  (s.showDisagree dis).setSel (f.getD 15) (t.getD 15)

/-- 10 R395, 11 R426: the tap sample instant that follows the present moment, as network time that has run. -/
def State.nextSample (s : State) : Nat := s.elapsed + (us - s.nt % us)

/-- 11 R426: a selection that waits is applied. -/
def State.settleSel (s : State) : State :=
  match s.dpll.selNext with
  | some (_, f, t) => s.setSel f t
  | none => s

/-- REF_SELECTION: once per millisecond the DPLL chooses FREQ_SEL and TIME_SEL; a change is applied at the tap sample instant that follows
(11 R424 to R426). -/
def execRefSelection (s : State) : Host.Outcome State Fault Refusal :=
  if s.evalDue evSelect ms then
    let s := (s.evalMade evSelect).settleSel
    let (f, t, dis) := s.selection
    let s := s.showDisagree dis
    .next { s with dpll := { s.dpll with selNext := some (s.nextSample, f.getD 15, t.getD 15) } }
  else .next s

/-! ### Frequency (11 R430, R433, R436 to R438) -/

/-- One hundredth of a ppb in units of 10^-16. -/
def cPpb : Int := 100000

/-- 11 R430: the greatest change of the output frequency in one millisecond, 0.1 ppm per µs. -/
def freqStep : Int := 1000000000000

/-- The output frequency set. -/
def State.setFreq (v : Int) (s : State) : State := s.set48 R.DPLL_FREQ_LO R.DPLL_FREQ_HI v

/-- The output frequency moved towards `v` by at most `d`. -/
def State.moveFreq (v d : Int) (s : State) : State :=
  let f := s.freq
  s.setFreq (if v > f + d then f + d else if v < f - d then f - d else v)

/-- 11 R436: the mean over the HO_AVG_S most recent seconds LOCKED, which end 2 s before the present. -/
def State.hoMean (s : State) : Option Int :=
  let l := (s.dpll.locked.drop 2000).take (1000 * max 1 (s.get F.DPLL_HO_CFG_HO_AVG_S))
  if l = [] then none else some (l.foldl (fun a b => a + b) 0 / (l.length : Int))

/-- DPLL_HO_FREQ shown. -/
def State.showHo (s : State) : State :=
  match s.hoMean with
  | some v => s.set48 R.DPLL_HO_FREQ_LO R.DPLL_HO_FREQ_HI v
  | none => s

/-- 11 R435: HISTORY_VALID from the hours learnt. -/
def State.updHistory (s : State) : State :=
  let h := s.get F.DPLL_HO_CFG_LEARN_H
  let v := if h = 0 then decide (max 1 (s.get F.DPLL_HO_CFG_HO_AVG_S) ≤ s.get F.DPLL_LEARN_HOURS * 3600 + s.dpll.learnMs / 1000)
    else decide (h ≤ s.get F.DPLL_LEARN_HOURS)
  s.setB F.DPLL_STATUS_HISTORY_VALID v

/-- 11 R435: the DPLL learns while LOCKED with XO_MAIN in service and OVEN_STABLE set. -/
def State.learns? (s : State) : Bool :=
  s.dp == dpLocked && s.on F.MEAS_STATUS_XO_MAIN_OK && !s.on F.MEAS_STATUS_MASTER_SPARE && s.on F.MEAS_STATUS_OVEN_STABLE

/-- 11 R435, R436: one millisecond spent LOCKED: its frequency is kept, and it counts as learning where that runs. -/
def State.lockedMs (s : State) : State :=
  if s.dp ≠ dpLocked then s
  else
    let keep := 1000 * (max 1 (s.get F.DPLL_HO_CFG_HO_AVG_S) + 2)
    let m := s.dpll
    ({ s with dpll := { m with
      lockedMs := m.lockedMs + 1, learnMs := m.learnMs + b2n s.learns?, locked := (s.freq :: m.locked).take keep } }).showHo.updHistory

/-- LEARNING_HOUR: a whole hour of learning advances DPLL_LEARN.HOURS (11 R435). -/
def execLearningHour (s : State) : Host.Outcome State Fault Refusal :=
  if 3600000 ≤ s.dpll.learnMs then
    .next (({ s with dpll := { s.dpll with learnMs := s.dpll.learnMs - 3600000 } }).bump F.DPLL_LEARN_HOURS 1).updHistory
  else .next s

/-- AGEING_LEARN: every 24 h of LOCKED running the servo core adds the fitted slope, in units of RATE, to
MEAS_XO_AGEING.RATE (11 R436). -/
def execAgeingLearn (slope : Int) (s : State) : Host.Outcome State Fault Refusal :=
  if s.on F.DPLL_CTRL_AGE_LEARN ∧ s.on F.DPLL_STATUS_HISTORY_VALID ∧ s.groomUp ∧ 86400000 ≤ s.dpll.lockedMs then
    let s := { s with dpll := { s.dpll with lockedMs := s.dpll.lockedMs % 86400000 } }
    .next (s.setI F.MEAS_XO_AGEING_RATE (s.getI F.MEAS_XO_AGEING_RATE + slope))
  else .next s

/-! ### Phase (11 R429, R433, R434) -/

/-- 11 R434: the time path waits for TIME_ADJUST: the threshold was reached under ASK, and ASK is still the policy. -/
def State.waitsAdjust (s : State) : Bool := s.dpll.asking && s.get F.DPLL_CTRL_STEP_POLICY == 2

/-- The time path's error in units of 2^-16 ns: TIME_SEL's time less the counter, and what TIME_ADJUST SLEW has left. -/
def State.timeError (s : State) : Int :=
  (if s.timeSel < 14 then -((s.slotMem s.timeSel).phase.getD 0) else 0) + s.dpll.slew

/-- DPLL_PHASE_ERR shown, and STEP_PENDING ended once the error is below STEP_NS. -/
def State.showError (s : State) : State :=
  let e := s.timeError
  let s := s.setI F.DPLL_PHASE_ERR_ERROR (e / 256)
  if e.natAbs < max 1 (s.get F.DPLL_STEP_STEP_NS) * ns then
    s.set F.DPLL_STATUS_STEP_PENDING 0
  else s

/-- STEP_THRESHOLD: the phase error reaches STEP_NS; STEP_PENDING is set and STEP_POLICY acts (11 R434). -/
def execStepThreshold (s : State) : Host.Outcome State Fault Refusal :=
  let s := s.showError
  let e := s.timeError
  if s.timeSel < 14 ∧ !s.on F.DPLL_STATUS_STEP_PENDING ∧ max 1 (s.get F.DPLL_STEP_STEP_NS) * ns ≤ e.natAbs then
    let s := (s.set F.DPLL_STATUS_STEP_PENDING 1).raise .dpll 8 s.timeSel
    match s.get F.DPLL_CTRL_STEP_POLICY with
    | 1 => .next (if 0 < e then (s.stepTime e).showError else s)
    | 2 => .next { s with dpll := { s.dpll with asking := true } }
    | _ => .next s
  else .next s

/-! ### The state machine (11 R437) -/

/-- The DPLL put into a state, leaving holdover's window behind; what an evaluation decided before is void. -/
def State.dpTo (st : Nat) (s : State) : State :=
  let was := s.dp
  let s := ((s.set F.DPLL_STATUS_STATE st).stop .lock).when (st != dpHoldover) (fun s =>
    (s.stop .holdover).set F.DPLL_HO_ELAPSED_SECONDS 0)
  let keep := decide (st = dpLocked ∨ was = dpLocked)
  { s with dpll := { s.dpll with lockWin := if keep then s.dpll.lockWin else [], hoNoHist := false, actNext := none } }

/-- Holdover begins: its window starts (11 R436, R437). -/
def State.enterHoldover (s : State) : State :=
  let hist := s.on F.DPLL_STATUS_HISTORY_VALID
  let s := (s.dpTo dpHoldover).start .holdover
  { s with dpll := { s.dpll with hoNoHist := !hist } }

/-- Nothing is selectable in ACQUIRING or LOCKED: holdover with history, else free run. -/
def State.loseRefs (s : State) : State :=
  if s.on F.DPLL_STATUS_HISTORY_VALID then (s.showHo.enterHoldover).raise .dpll 4 0xFFFF
  else (s.dpTo dpFreeRun).raise .dpll 6 0xFFFF

/-- The frequency errors of the last second. -/
def State.lockError (s : State) : State :=
  let d := s.freq - (if s.freqSel < 14 then s.getI (F.DPLL_REF_OFFSET_OFFSET s.freqSel) * 10000 else 0)
  { s with dpll := { s.dpll with lockWin := (d :: s.dpll.lockWin).take 1000 } }

/-- 11 R437: the lock criterion: the frequency error averaged over 1 s, and the phase error where a TIME_SEL exists. -/
def State.lockMet (s : State) : Bool :=
  let l := s.dpll.lockWin
  let mean := l.foldl (fun a b => a + b) 0 / 1000
  l.length == 1000 && decide ((mean.natAbs : Int) ≤ s.get F.DPLL_LOCK_LOCK_FREQ * cPpb) &&
    (decide (14 ≤ s.timeSel) || decide (s.timeError.natAbs ≤ s.get F.DPLL_LOCK_LOCK_PHASE * 10 * ns))

/-- 11 R427: the bandwidth of the path that follows slot `r`, in mHz: the register of its type, within that type's range. It shapes the
loops' frequencies that DPLL_STATE_EVALUATE reports (log entry 15). -/
def State.bandwidth (s : State) (r : Nat) : Nat :=
  if r < 8 then max 1000 (min 100000 (s.get F.DPLL_BW_LINE_BW_MHZ))
  else if r < 10 then max 100 (min 10000 (s.get F.DPLL_BW_CLKIN_BW_MHZ))
  else if r < 13 then max 1 (min 100 (s.get F.DPLL_BW_TIME_BW_MHZ))
  else max 500 (min 20000 (s.get F.DPLL_BW_NT_BW_MHZ))

/-- 11 R427 to R433: the loops' frequency for this millisecond: the reference followed by the frequency path (`loop`), and the
time path's contribution (`slew`) within SLEW_NS_S, none while it waits under ASK; held while the selected reference is inactive. -/
def State.loopFreq (loop slew : Int) (s : State) : State :=
  if s.freqSel < 14 ∧ !s.on (F.DPLL_REF_STATUS_ACTIVE s.freqSel) then s
  else
    let lim : Int := max 1 (min 1000 (s.get F.DPLL_SLEW_SLEW_NS_S)) * 10000000
    let c := if s.waitsAdjust then 0 else clampI (-lim) lim slew
    s.moveFreq (loop + c) freqStep

/-- 11 R433: a frequency of `c` units of 10^-16 removes so much of TIME_ADJUST SLEW's error in a millisecond. -/
def State.workSlew (slew : Int) (s : State) : State :=
  let e := s.dpll.slew
  let lim : Int := max 1 (min 1000 (s.get F.DPLL_SLEW_SLEW_NS_S)) * 10000000
  let d := clampI (-lim) lim slew * (ms : Nat) / 10000000000000000
  let d := if 0 ≤ e then clampI 0 e d else clampI e 0 d
  if s.waitsAdjust ∨ s.timeSel < 14 then s else { s with dpll := { s.dpll with slew := e - d } }

/-- 11 R433: the contribution that removes TIME_ADJUST SLEW's error where no reference carries time. -/
def State.slewPart (slew : Int) (s : State) : Int :=
  let lim : Int := max 1 (min 1000 (s.get F.DPLL_SLEW_SLEW_NS_S)) * 10000000
  if s.dpll.slew = 0 then 0 else clampI (-lim) lim slew

/-- The output frequency of this millisecond by the DPLL's state (11 R430, R433, R436, R438, R440). -/
def State.dpFreq (loop slew : Int) (s : State) : State :=
  let st := s.dp
  let c := s.slewPart slew
  let s := s.workSlew slew
  if st = dpFreeRun then s.moveFreq c (max 1 (s.get F.DPLL_SLEW_EXIT_SLEW) * 100)
  else if st = dpHoldover then
    if s.dpMode = mdSteered then s else s.moveFreq (s.get48 R.DPLL_HO_FREQ_LO R.DPLL_HO_FREQ_HI + c) freqStep
  else if st = dpSteered then s.moveFreq (s.get48 R.DPLL_STEER_LO R.DPLL_STEER_HI + c) freqStep
  else s.loopFreq loop slew

/-- FREQ_SEL as the last evaluation of the selection leaves it, applied or not yet. -/
def State.freqNext (s : State) : Nat :=
  match s.dpll.selNext with
  | some (_, f, _) => f
  | none => s.freqSel

/-- 11 R437: what an evaluation decides, and the timer of LOCK_S as it leaves it. -/
def State.dpDecide (s : State) : DpAct × State :=
  let sel := decide (s.freqNext < 14)
  let st := s.dp
  if st = dpSteered then (if s.groomUp then .stay else .unsteer, s)
  else if st = dpHoldover then
    (if s.dpMode = mdSteered then (if s.groomUp then .steer else .stay) else if sel then .acquire else .stay, s)
  else if st = dpFreeRun then (if sel ∧ (s.dpMode = mdAuto ∨ s.dpMode = mdForced) then .acquire else .stay, s)
  else if !sel then (.lose, s)
  else if st = dpLocked then (if s.lockMet then .stay else .unlock, s)
  else if s.lockMet then
    let s := s.startOnce .lock
    (if s.ran .lock (s.get F.DPLL_LOCK_LOCK_S * sec) then .lock else .stay, s)
  else (.stay, s.stop .lock)

/-- 11 R437: a transition's action. -/
def State.dpDo (a : DpAct) (s : State) : State :=
  match a with
  | .stay => s
  | .acquire => s.dpTo dpAcquiring
  | .lock => (s.dpTo dpLocked).raise .dpll 7 s.freqSel
  | .unlock => s.dpTo dpAcquiring
  | .lose => s.loseRefs
  | .steer => s.dpTo dpSteered
  | .unsteer => s.enterHoldover

/-- 11 R437: what the last evaluation decided is done: the transition, then the output frequency, learning and QL_OUT of the state it leaves. -/
def State.settleAct (s : State) : State :=
  match s.dpll.actNext with
  | none => s
  | some (_, a, loop, slew) =>
    let s := ({ s with dpll := { s.dpll with actNext := none } }).dpDo a
    let s := ((s.dpFreq loop slew).lockedMs).updQl
    match s.timer .holdover with
    | some t => s.set F.DPLL_HO_ELAPSED_SECONDS (satNat 32 (t / sec))
    | none => s

/-- 11 R426, R437: at a boundary, the selection and the actions whose tap sample instant has come. -/
def State.settleDpll (s : State) : State :=
  let s := match s.dpll.selNext with
    | some (t, _, _) => s.when (decide (t ≤ s.elapsed)) State.settleSel
    | none => s
  match s.dpll.actNext with
  | some (t, _) => s.when (decide (t ≤ s.elapsed)) State.settleAct
  | none => s

/-- DPLL_STATE_EVALUATE: once per millisecond the state machine evaluates lock, selection and holdover; its actions, with the loops'
frequencies in units of 10^-16, come at the tap sample instant that follows (11 R427 to R438). -/
def execDpllStateEvaluate (loop slew : Int) (s : State) : Host.Outcome State Fault Refusal :=
  if s.evalDue evDpll ms then
    let (a, s) := ((((s.evalMade evDpll).settleAct).showError).lockError).dpDecide
    .next { s with dpll := { s.dpll with actNext := some (s.nextSample, a, loop, slew) } }
  else .next s

/-- HOLDOVER_WINDOW_EXPIRY: HO_WINDOW_S expires with no reference selected in that evaluation cycle; the DPLL goes to FREE_RUN (11 R437). -/
def execHoldoverWindowExpiry (s : State) : Host.Outcome State Fault Refusal :=
  let w := s.get F.DPLL_HO_WINDOW_HO_WINDOW_S
  if s.dp = dpHoldover ∧ 14 ≤ s.freqNext ∧ !s.evalDue evSelect ms ∧ w ≠ 0xFFFFFFFF ∧ s.ran .holdover (w * sec) then
    .next ((s.dpTo dpFreeRun).raise .dpll 5 0xFFFF).updQl
  else .next s

/-- 11 R437: a change of MODE at its boundary; between AUTO and FORCED the next evaluation chooses. -/
def State.dpModeChange (was : Nat) (s : State) : State :=
  let m := s.dpMode
  if m = was then s
  else if m = mdSteered then (if s.dp = dpSteered then s else (s.dpTo dpSteered).select)
  else if m = mdFreeRun then (s.dpTo dpFreeRun).select.updQl
  else if s.dp = dpSteered then
    let s := s.select
    s.dpTo (if s.freqSel < 14 then dpAcquiring else dpFreeRun)
  else s

/-! ### ESMC time-out (11 R443) -/

/-- TIMEOUT_S, 0 acting as 1. -/
def State.esmcTimeout (s : State) : Nat := max 1 (s.get F.DPLL_ESMC_CFG_TIMEOUT_S) * sec

/-- ESMC_TIMEOUT: no information PDU for TIMEOUT_S; the slot's QL becomes DNU (11 R443). -/
def execEsmcTimeout (r : Nat) (s : State) : Host.Outcome State Fault Refusal :=
  if r < 8 ∧ s.on (F.DPLL_REF_CFG_QL_ESMC r) ∧ s.ran (.esmc r) s.esmcTimeout then
    let s := ((s.stop (.esmc r)).modSlot r (fun m => { m with ql := some 15 })).set (F.DPLL_REF_STATUS_QL_TIMEOUT r) 1
    .next ((s.showSlot r).raise .dpll 11 r).updQl
  else .next s

/-! ### REF_SET and DPLL_STEER (11 R414, R426, R446, R447) -/

/-- A slot's six registers. -/
def slotRegs (r : Nat) : List Nat :=
  [R.DPLL_REF_CFG r, R.DPLL_REF_FREQ r, R.DPLL_REF_LIMITS r, R.DPLL_REF_TIMING r, R.DPLL_REF_DRIFT r, R.DPLL_REF_DELAY r]

/-- The registers of REF_SET GLOBAL. -/
def globalRegs : List Nat :=
  [R.DPLL_CTRL, R.DPLL_BW_LINE, R.DPLL_BW_CLKIN, R.DPLL_BW_TIME, R.DPLL_BW_NT, R.DPLL_HO_CFG, R.DPLL_HO_WINDOW, R.DPLL_SLEW,
   R.DPLL_STEP, R.DPLL_LOCK, R.DPLL_VOTE]

/-- The registers of REF_SET ESMC. -/
def esmcRegs : List Nat := R.DPLL_ESMC_CFG :: (List.range 9).map (fun w => R.DPLL_ESMC_EN w)

/-- REF_SET's checks (11 R414, R426, R446). -/
def refCheck (action : Nat) (d : Submission) (s : State) : Nat :=
  let r := d.P0 0 4
  let slotOk := decide (r ≤ 13)
  let ok := match action with
    | 0 =>
      let cfg := d.le 8 4
      let lane := bits cfg 5 9
      slotOk && d.form 0 32 && d.regsOk 8 (slotRegs 0) &&
        (decide (8 ≤ r) || (decide (lane < 272) && !(List.range 8).any (fun q =>
          q != r && bit cfg 0 && s.on (F.DPLL_REF_CFG_ENABLE q) && s.get (F.DPLL_REF_CFG_LANE q) == lane)))
    | 1 =>
      let c := d.le 8 4
      decide (r = 15) && d.form 1 52 && d.regsOk 8 globalRegs &&
        (bits c 0 3 != 1 || (decide (bits c 4 4 ≤ 13) && s.on (F.DPLL_REF_CFG_ENABLE (bits c 4 4))))
    | 2 => decide (r = 15) && d.form 2 48 && d.regsOk 8 esmcRegs
    | _ => slotOk && d.form 3 8
  if ok then rOk else rBadParam

/-- 11 R420, R446: a slot's six registers written at a boundary. -/
def State.slotConfigure (r : Nat) (f : State → State) (s : State) : State :=
  let key := fun s : State => (s.get (F.DPLL_REF_CFG_LANE r), s.get (F.DPLL_REF_FREQ_HZ r), s.get (F.DPLL_REF_CFG_FALLING r),
    s.get (F.DPLL_REF_DELAY_DELAY r))
  let old := key s
  let s' := f s
  let other := s'.get (F.DPLL_REF_CFG_LANE r) != s.get (F.DPLL_REF_CFG_LANE r) || s'.get (F.DPLL_REF_CFG_FALLING r) != s.get (F.DPLL_REF_CFG_FALLING r)
  let s' := s'.when other (State.newSource r)
  let moved := s.getI (F.DPLL_REF_DELAY_DELAY r) - s'.getI (F.DPLL_REF_DELAY_DELAY r)
  let s' := s'.modSlot r (fun m => { m with phase := m.phase.map (fun p => p + moved) })
  let esmc := s'.on (F.DPLL_REF_CFG_QL_ESMC r)
  let s' := s'.when (decide (r < 8) && esmc && !(s.on (F.DPLL_REF_CFG_QL_ESMC r))) (State.start (.esmc r))
  let s' := s'.when (!esmc) (fun s => (s.stop (.esmc r)).set (F.DPLL_REF_STATUS_QL_TIMEOUT r) 0)
  ((s'.when (key s' != old) (State.requalify r)).slotEnable r).updQl

/-- REF_SET's action. -/
def refAct (action : Nat) (c : Cmd) (s : State) : State × Answer :=
  let d := c.sub
  let r := d.P0 0 4
  match action with
  | 0 =>
    if r < 8 ∧ bit (d.le 8 4) 0 ∧ !s.syncMode (bits (d.le 8 4) 5 9) then (s, .done rState 0 0)
    else (s.slotConfigure r (State.putRegs d 8 (slotRegs r)), .done rOk 0 0)
  | 1 =>
    let was := s.dpMode
    let s := (s.putRegs d 8 globalRegs).dpModeChange was
    (((s.forEach slotList State.showSlot).updHistory).updQl, .done rOk 0 0)
  | 2 => (s.putRegs d 8 esmcRegs, .done rOk 0 0)
  | _ => ((s.requalify r).updQl, .done rOk 0 0)

/-- REF_SET with one ACTION. -/
def specRef (action : Nat) : CmdSpec where
  cls := clsMgmt
  block := true
  p0 := 0xF
  first := onPick
  check := refCheck action
  act := refAct action

/-- REF_SET CONFIGURE writes a slot's source, limits, timing, drift and delay. -/
def execRefSetConfigure (d : Submission) (s : State) : Host.Outcome State Fault Refusal := .next ((specRef 0).take 0x51 true d s)

/-- REF_SET GLOBAL writes the DPLL's mode and loop settings. -/
def execRefSetGlobal (d : Submission) (s : State) : Host.Outcome State Fault Refusal := .next ((specRef 1).take 0x51 true d s)

/-- REF_SET ESMC writes the ESMC options and port enables. -/
def execRefSetEsmc (d : Submission) (s : State) : Host.Outcome State Fault Refusal := .next ((specRef 2).take 0x51 true d s)

/-- REF_SET REQUALIFY sends a slot back to FAILED. -/
def execRefSetRequalify (d : Submission) (s : State) : Host.Outcome State Fault Refusal := .next ((specRef 3).take 0x51 true d s)

/-- DPLL_STEER (11 R440, R447). -/
def specSteer : CmdSpec where
  cls := clsMgmt
  block := true
  p0 := 0
  first := onPick
  check d _ :=
    let v := toInt 64 (d.le 0 8)
    if d.len = 8 ∧ v = toInt 48 (d.le 0 6) then rOk else rBadParam
  act c s :=
    let v := toInt 48 (c.sub.le 0 6)
    let w := clampI (-freqStep) freqStep v
    let s := (s.set48 R.DPLL_STEER_LO R.DPLL_STEER_HI w).when (w != v) (State.raise .dpll 9 0xFFFF)
    (s, .done rOk (ofInt 64 w) 0)

/-- DPLL_STEER sets the steering word, clamped to ±100 ppm. -/
def execDpllSteer (d : Submission) (s : State) : Host.Outcome State Fault Refusal := .next (specSteer.take 0x52 true d s)

end Sys2Proof.Machine
end

