-- ==== Sys2Proof/Machine/Gnss.lean ====
section
/-! DEFINITION. Chapter 14, the GNSS receiver: the antenna's bias (R526, R527), channels (R528, R529), jamming (R531, R532), solutions with
their consistency checks, survey and time validity (R533 to R539), the time pulse (R537), its reset (R542) and GNSS_SET (R543). -/

namespace Sys2Proof.Machine

open Sys2Proof

/-- The receiver's memory changed. -/
def State.modGnss (f : GnssMem → GnssMem) (s : State) : State := { s with gnss := f s.gnss }

/-- ANT: 0 OFF, 1 OK, 2 OPEN, 3 SHORT. -/
def State.ant (s : State) : Nat := s.get F.GNSS_STATUS_ANT

/-- GNSS_CFG.MODE, 3 acting as 0. -/
def State.gnssMode (s : State) : Nat := let m := s.get F.GNSS_CFG_MODE; if m = 3 then 0 else m

/-- POS_STATE: 0 OFF, 1 SURVEYING, 2 SURVEYED, 3 FIXED. -/
def State.posState (s : State) : Nat := s.get F.GNSS_STATUS_POS_STATE

/-- 14 R538: TIME_VALID set, with its events. -/
def State.setValid (v : Bool) (s : State) : State :=
  let was := s.on F.GNSS_STATUS_TIME_VALID
  let s := s.setB F.GNSS_STATUS_TIME_VALID v
  if v && !was then s.raise .gnss 2 0 else if !v && was then s.raise .gnss 1 0 else s

/-! ### Antenna (14 R526, R527) -/

/-- ANT set; entering OPEN or SHORT is ANT_FAULT, and TIME_VALID is 0 there. -/
def State.antTo (v : Nat) (s : State) : State :=
  let was := s.ant
  let s := s.set F.GNSS_STATUS_ANT v
  if v = was ∨ v < 2 then s
  else ((s.raise .gnss 0 0).setValid false).when (v == 3) (State.start .antShort)

/-- 14 R526, R527: the bias supply's voltage in tenths of a volt: off while ANT is SHORT, but for the last 10 ms of each second. -/
def State.bias (s : State) : Nat :=
  let on := s.on F.GNSS_CFG_BIAS_EN && (s.ant != 3 || decide (sec - 10 * ms ≤ (s.timer .antShort).getD 0))
  if on then (if s.on F.GNSS_CFG_BIAS_5V then 50 else 33) else 0

/-- One measurement of the bias current, in 0.1 mA. -/
def State.antMeasure (ma : Nat) (limit : Bool) (s : State) : State :=
  if !s.on F.GNSS_CFG_BIAS_EN then ((s.set F.GNSS_JAM_ANT_MA 0).modGnss (fun g => { g with antLow := 0 })).antTo 0
  else
    let s := s.set F.GNSS_JAM_ANT_MA (satNat 12 ma)
    if s.ant = 3 then s
    else if limit then s.antTo 3
    else if ma < 20 then
      let s := s.modGnss (fun g => { g with antLow := g.antLow + 1 })
      if 10 ≤ s.gnss.antLow then s.antTo 2 else s
    else (s.modGnss (fun g => { g with antLow := 0 })).antTo 1

/-- ANTENNA_MEASURE: every 1 ms the bias current is measured, in 0.1 mA; `limit`: it stood at the limit for the whole millisecond
(14 R526, R527). After a SHORT the bias is off, and ANTENNA_SHORT_RETRY judges. -/
def execAntennaMeasure (ma : Nat) (limit : Bool) (s : State) : Host.Outcome State Fault Refusal :=
  if s.evalDue evAntenna ms then .next ((s.evalMade evAntenna).antMeasure ma limit) else .next s

/-- ANTENNA_SHORT_RETRY: once per second after a short the bias is on for 10 ms; `below`: the current stayed below the limit for all of
them, and ANT leaves SHORT (14 R527). -/
def execAntennaShortRetry (below : Bool) (s : State) : Host.Outcome State Fault Refusal :=
  if s.ant = 3 ∧ s.on F.GNSS_CFG_BIAS_EN ∧ s.ran .antShort sec then
    if below then .next (((s.stop .antShort).modGnss (fun g => { g with antLow := 0 })).antTo 1) else .next (s.start .antShort)
  else .next s

/-! ### Channels (14 R528, R529) -/

/-- The channels. -/
def gnssChannels : List Nat := List.range 96

/-- A channel back in IDLE. -/
def State.channelIdle (c : Nat) (s : State) : State :=
  let s := ((s.wr (R.GNSS_CH c) 0).wr (R.GNSS_CH c + 4) 0).stop (.gnssWord c)
  s.modGnss (fun g => { g with holding := g.holding.filter (fun x => x != c) })

/-- 14 R528, R529: a channel takes an oscillator word: it holds no longer, its timer restarts, and an IDLE channel acquires. MODE OFF stops all
channels. -/
def State.channelWord (c : Nat) (s : State) : State :=
  if s.gnssMode = 0 then s
  else
    let s := (s.start (.gnssWord c)).modGnss (fun g => { g with holding := g.holding.filter (fun x => x != c) })
    let st : Fld := ⟨R.GNSS_CH c, 0, 3⟩
    s.when (s.get st == 0) (State.set st 1)

/-- GNSS_CHANNEL_HOLD: no word for 5 ms: the channel holds its last frequency (14 R529). -/
def execGnssChannelHold (c : Nat) (s : State) : Host.Outcome State Fault Refusal :=
  if c < 96 ∧ s.ran (.gnssWord c) (5 * ms) ∧ !s.gnss.holding.contains c then
    .next (s.modGnss (fun g => { g with holding := g.holding ++ [c] }))
  else .next s

/-- GNSS_CHANNEL_IDLE: no word for 100 ms: the channel returns to IDLE (14 R529). -/
def execGnssChannelIdle (c : Nat) (s : State) : Host.Outcome State Fault Refusal :=
  if c < 96 ∧ s.ran (.gnssWord c) (100 * ms) then .next (s.channelIdle c) else .next s

/-! ### Interference (14 R531, R532) -/

/-- 14 R532: every enabled band is JAMMED and JAM_INVALIDATE is set. -/
def State.jamInvalid (s : State) : Bool :=
  let en := s.get F.GNSS_CFG_BAND_EN
  s.on F.GNSS_CFG_JAM_INVALIDATE && en != 0 &&
    (!bit en 0 || s.on F.GNSS_STATUS_JAMMED_L1) && (!bit en 1 || s.on F.GNSS_STATUS_JAMMED_L5)

/-- One band's indicator. -/
def State.jamBand (f ji : Fld) (v : Nat) (s : State) : State :=
  let was := s.on f
  let v := satNat 8 v
  let now := decide (s.get F.GNSS_LIMITS_JAM_LIMIT ≤ v)
  let s := (s.set ji v).setB f now
  s.when (now && !was) (State.raise .gnss 4 0)

/-- JAM_EVALUATE: every 100 ms each band's indicator and JAMMED are set from the noise after the notches, in 0.1 dB above the calibrated
floor; `notches` gives each filter's offset in kHz, depth in dB and whether it is active (14 R531, R532). -/
def execJamEvaluate (l1 l5 : Nat) (notches : List (Int × Nat × Bool)) (s : State) : Host.Outcome State Fault Refusal :=
  if !s.evalDue evJam (100 * ms) then .next s
  else
    let s := (s.evalMade evJam).forEach ((List.range 8).zip notches) (fun x s =>
      ((s.setI (F.GNSS_NOTCH_OFFSET_KHZ x.1) x.2.1).set (F.GNSS_NOTCH_DEPTH_DB x.1) (satNat 8 x.2.2.1)).setB (F.GNSS_NOTCH_ACTIVE x.1) x.2.2.2)
    let s := (s.jamBand F.GNSS_STATUS_JAMMED_L1 F.GNSS_JAM_JI_L1 l1).jamBand F.GNSS_STATUS_JAMMED_L5 F.GNSS_JAM_JI_L5 l5
    .next (if s.jamInvalid then s.setValid false else s)

/-! ### Consistency checks (14 R533) -/

/-- The tests that a channel's measurements fail. -/
def State.obsFails (s : State) (o : GnssObs) : Nat :=
  b2n (decide (o.power > -1150)) + 2 * b2n (decide (o.resid.natAbs > 1000 * max 1 (s.get F.GNSS_SPOOF_RESID_M))) +
    4 * b2n (decide (o.doppler.natAbs > 100)) + 8 * b2n (decide (o.bands.natAbs > 30000)) + 16 * b2n o.uniform

/-- The satellite of a channel. -/
def GnssObs.sat (o : GnssObs) : Nat := o.system * 64 + o.sv

/-- The tests that a satellite fails, over its channels. -/
def State.satFails (s : State) (obs : List GnssObs) (k : Nat) : Nat :=
  (obs.filter (fun o => o.sat == k)).foldl (fun m o => m ||| s.obsFails o) 0

/-- 14 R528: an enabled signal tracked at or above CN0_MIN, its satellite above the mask with a valid ephemeris. -/
def State.obsUsable (s : State) (o : GnssObs) : Bool :=
  bit (s.get F.GNSS_CFG_CONST_EN) o.system && bit (s.get F.GNSS_CFG_BAND_EN) o.band && o.eph &&
    decide (s.get F.GNSS_LIMITS_CN0_MIN ≤ o.cn0) && decide (min 60 (s.get F.GNSS_LIMITS_ELEV_MASK_DEG) < o.elev)

/-- Satellites of a list of channels. -/
def satsOf (obs : List GnssObs) : List Nat := (obs.map GnssObs.sat).eraseDups

/-- Satellites used in a solution. -/
def State.usedSats (s : State) (obs : List GnssObs) : List Nat :=
  (satsOf (obs.filter s.obsUsable)).filter (fun k => s.satFails obs k == 0)

/-- GNSS_CH of a channel: 3 USED, 4 EXCLUDED, else 2 TRACKING. -/
def State.showChannel (obs : List GnssObs) (o : GnssObs) (s : State) : State :=
  let m := s.satFails obs o.sat
  let st := if m ≠ 0 then 4 else if s.obsUsable o then 3 else 2
  let w := st + o.system * 2 ^ 4 + o.band * 2 ^ 6 + o.sv % 64 * 2 ^ 8 + satNat 8 o.cn0 * 2 ^ 16 + satNat 8 o.elev * 2 ^ 24
  if o.ch < 96 then
    ((s.wr (R.GNSS_CH o.ch) (BitVec.ofNat 32 w)).wr (R.GNSS_CH o.ch + 4) (BitVec.ofNat 32 m)).startOnce (.gnssWord o.ch)
  else s

/-- A channel that a solution does not list has lost its signal: it acquires again (log entry 59). -/
def State.channelLost (obs : List GnssObs) (c : Nat) (s : State) : State :=
  s.when (decide (2 ≤ s.get ⟨R.GNSS_CH c, 0, 3⟩) && !obs.any (fun o => o.ch == c))
    (fun s => (s.set ⟨R.GNSS_CH c, 0, 3⟩ 1).wr (R.GNSS_CH c + 4) 0)

/-! ### Position (14 R534 to R536) -/

/-- GNSS_POS. -/
def State.gnssPos (s : State) : Int × Int × Int :=
  (toInt 64 (s.get2 R.GNSS_POS_X_LO R.GNSS_POS_X_HI), toInt 64 (s.get2 R.GNSS_POS_Y_LO R.GNSS_POS_Y_HI),
    toInt 64 (s.get2 R.GNSS_POS_Z_LO R.GNSS_POS_Z_HI))

/-- GNSS_POS set. -/
def State.setPos (p : Int × Int × Int) (s : State) : State :=
  ((s.set2 R.GNSS_POS_X_LO R.GNSS_POS_X_HI 64 (ofInt 64 p.1)).set2 R.GNSS_POS_Y_LO R.GNSS_POS_Y_HI 64 (ofInt 64 p.2.1)).set2
    R.GNSS_POS_Z_LO R.GNSS_POS_Z_HI 64 (ofInt 64 p.2.2)

/-- The square of a vector's length. -/
def norm2 (p : Int × Int × Int) : Int := p.1 * p.1 + p.2.1 * p.2.1 + p.2.2 * p.2.2

/-- MIN_SATS: 1 to 12. -/
def State.minSats (s : State) : Nat := max 1 (min 12 (s.get F.GNSS_CFG_MIN_SATS))

/-- A survey begins. -/
def State.surveyBegin (s : State) : State :=
  (s.set F.GNSS_STATUS_POS_STATE 1).modGnss (fun g => { g with count := 0, sum := (0, 0, 0), sq := 0, far := 0 })

/-- 14 R535: one free position averaged; the survey ends once SURVEY_S seconds are averaged and the mean's three-dimensional standard
deviation is at most SIGMA_CM. -/
def State.surveyAdd (p : Int × Int × Int) (s : State) : State :=
  let g := s.gnss
  let g := { g with
    count := g.count + 1, sum := (g.sum.1 + p.1, g.sum.2.1 + p.2.1, g.sum.2.2 + p.2.2), sq := g.sq + norm2 p }
  let s := { s with gnss := g }
  let n : Int := g.count
  let lim : Int := 10 * (max 1 (s.get F.GNSS_SURVEY_SIGMA_CM) : Nat)
  if max 60 (s.get F.GNSS_SURVEY_SURVEY_S) ≤ g.count ∧ g.sq * n - norm2 g.sum ≤ lim * lim * n * n * (n - 1) then
    let m := fun v : Int => (2 * v + n) / (2 * n)
    ((s.setPos (m g.sum.1, m g.sum.2.1, m g.sum.2.2)).set F.GNSS_STATUS_POS_STATE 2).raise .gnss 5 0
  else s

/-! ### Solutions (14 R534, R538, R539) -/

/-- 14 R534: whether a solution shows spoofing: satellites excluded below MIN_SATS, its time off the counter's while the DPLL is LOCKED to
another reference, or 60 solutions more than 100 m off. -/
def State.spoofed (s : State) (obs : List GnssObs) (diff : Int) : Bool :=
  let used := (s.usedSats obs).length
  let tracked := (satsOf (obs.filter s.obsUsable)).length
  (decide (used < s.minSats) && decide (used < tracked)) ||
    (s.dp == dpLocked && decide (s.freqSel < 14) && s.freqSel != 12 && s.timeSel != 12 &&
      decide (diff.natAbs > max 1 (s.get F.GNSS_SPOOF_JUMP_NS) * ns)) ||
    decide (60 ≤ s.gnss.far)

/-- SPOOF follows a solution. -/
def State.updSpoof (bad : Bool) (s : State) : State :=
  let was := s.on F.GNSS_STATUS_SPOOF
  if bad then
    let s := (s.set F.GNSS_STATUS_SPOOF 1).modGnss (fun g => { g with clean := 0 })
    s.when (!was) (State.raise .gnss 3 0)
  else
    let s := s.modGnss (fun g => { g with clean := g.clean + 1 })
    s.when (was && decide (max 1 (s.get F.GNSS_SPOOF_CLEAR_S) ≤ s.gnss.clean)) (State.set F.GNSS_STATUS_SPOOF 0)

/-- 14 R538: TIME_VALID's conditions at a delivery. -/
def State.validNow (s : State) (used unc : Nat) : Bool :=
  (s.ant == 1 || !s.on F.GNSS_CFG_BIAS_EN) && s.posState != 0 && decide (s.minSats ≤ used) &&
    (s.posState != 1 || decide (4 ≤ used)) && decide (unc ≤ max 1 (s.get F.GNSS_LIMITS_UNC_LIMIT_NS)) &&
    !s.on F.GNSS_STATUS_SPOOF && !s.jamInvalid

/-- 14 R539: GNSS_UTC kept, and fed to TIME_UTC while REF12 is TIME_SEL; the flag of a leap is set from 24 h before the TAI second at which
it falls to that second. -/
def State.gnssUtc (u : Nat × Nat × Nat) (s : State) : State :=
  let (off, leap, at0) := u
  let s := ((s.set F.GNSS_UTC_UTC_OFFSET off).set F.GNSS_UTC_LEAP leap).set F.GNSS_UTC_UTC_KNOWN 1
  let near := decide (s.nt / sec ≤ at0 ∧ at0 ≤ s.nt / sec + 86400)
  s.when (s.timeSel == 12) (State.takeUtc off (leap == 1 && near) (leap == 2 && near) true)

/-- GNSS_SOLUTION: the solution for a second of network time is delivered, one in each second (14 R528, R533 to R539). -/
def execGnssSolution (g : GnssSol) (s : State) : Host.Outcome State Fault Refusal :=
  if s.gnssMode = 0 ∨ !s.groomUp ∨ s.heldDomain 1 ∨ !s.slotDue evSolution sec then .next s
  else
    let s := s.slotMade evSolution sec
    let used := (s.usedSats g.obs).length
    let s := (s.forEach gnssChannels (State.channelLost g.obs)).forEach g.obs (State.showChannel g.obs)
    let s := (s.start .gnssSolution).modGnss (fun m => { m with almanac := true })
    let s := (s.set F.GNSS_STATUS_SATS_USED (satNat 8 used)).set F.GNSS_STATUS_UNC_NS (satNat 8 g.unc)
    let s := if s.posState = 1 ∧ 4 ≤ used then s.surveyAdd g.pos else s
    let q := s.gnssPos
    let d := norm2 (g.pos.1 - q.1, g.pos.2.1 - q.2.1, g.pos.2.2 - q.2.2)
    let far := (s.posState == 2 || s.posState == 3) && decide (4 ≤ used) && decide (d > 100000 * 100000)
    let s := s.modGnss (fun m => { m with far := if far then m.far + 1 else 0 })
    let s := s.updSpoof (s.spoofed g.obs g.diff)
    let s := match g.utc with
      | some u => s.gnssUtc u
      | none => s
    .next (s.setValid (s.validNow used g.unc))

/-- GNSS_SOLUTION_TIMEOUT: no solution for 2 s: TIME_VALID falls (14 R538). -/
def execGnssSolutionTimeout (s : State) : Host.Outcome State Fault Refusal :=
  if s.ran .gnssSolution (2 * sec) then .next ((s.stop .gnssSolution).setValid false) else .next s

/-- GNSS_TIME_PULSE: the receiver emits its time pulse at its estimate of the start of TAI second `m`; tap 284 measures it (14 R537). -/
def execGnssTimePulse (m : Nat) (s : State) : Host.Outcome State Fault Refusal :=
  if s.posState ≠ 0 ∧ s.groomUp then .next (s.modGnss (fun g => { g with mark := some m })) else .next s

/-- 14 R542: a reset of TIMING scope: channels stop; the survey in progress, SPOOF and the notches clear; position and configuration stay. -/
def State.resetGnss (s : State) : State :=
  let s := (s.setValid false).forEach gnssChannels State.channelIdle
  let s := s.forEach (List.range 8) (fun n => State.wr (R.GNSS_NOTCH n) 0)
  let alm := s.gnss.almanac
  let s := ({ s with gnss := { almanac := alm } }).stop .gnssSolution
  let s := (s.wr R.GNSS_STATUS 0).wr R.GNSS_JAM 0
  match s.gnssMode with
  | 1 => s.surveyBegin
  | 2 => s.set F.GNSS_STATUS_POS_STATE 3
  | _ => s

/-! ### GNSS_SET (14 R526, R535, R536, R543) -/

/-- The registers of GNSS_SET CONFIGURE. -/
def gnssRegs : List Nat := [R.GNSS_CFG, R.GNSS_LIMITS, R.GNSS_SURVEY, R.GNSS_SPOOF]

/-- 14 R526, R535, R536: the receiver's configuration followed at a boundary, from the mode `was`. -/
def State.gnssFollow (was : Nat) (s : State) : State :=
  let s := if s.on F.GNSS_CFG_BIAS_EN then s else (s.stop .antShort).antTo 0
  let m := s.gnssMode
  if m = was then s
  else if m = 1 then s.surveyBegin
  else if m = 2 then (s.set F.GNSS_STATUS_POS_STATE 3).modGnss (fun g => { g with far := 0 })
  else (s.forEach gnssChannels State.channelIdle).set F.GNSS_STATUS_POS_STATE 0

/-- POSITION's coordinates. -/
def posOf (d : Submission) : Int × Int × Int := (toInt 64 (d.le 8 8), toInt 64 (d.le 16 8), toInt 64 (d.le 24 8))

/-- GNSS_SET's checks by ACTION. -/
def gnssCheck (action : Nat) (d : Submission) (s : State) : Nat :=
  let ok := match action with
    | 0 => d.form 0 24 && d.regsOk 8 gnssRegs
    | 1 =>
      let p := posOf d
      let inRange := fun v : Int => decide (v.natAbs ≤ 7000000000)
      d.form 1 32 && inRange p.1 && inRange p.2.1 && inRange p.2.2 && decide (norm2 p ≥ 6300000000 * 6300000000)
    | 2 => d.form 2 8 && s.gnssMode == 1
    | _ => d.form 3 8
  if ok then rOk else rBadParam

/-- GNSS_SET's action. -/
def gnssAct (action : Nat) (c : Cmd) (s : State) : State × Answer :=
  match action with
  | 0 =>
    let was := s.gnssMode
    ((s.putRegs c.sub 8 gnssRegs).gnssFollow was, .done rOk 0 0)
  | 1 => ((s.setPos (posOf c.sub)).modGnss (fun g => { g with far := 0 }), .done rOk 0 0)
  | 2 => if s.gnssMode = 1 then (s.surveyBegin, .done rOk 0 0) else (s, .done rBadParam 0 0)
  | _ => (s.modGnss (fun g => { g with almanac := false }), .done rOk 0 0)

/-- GNSS_SET with one ACTION. -/
def specGnss (action : Nat) : CmdSpec where
  cls := clsMgmt
  block := true
  p0 := 0
  first := onPick
  check := gnssCheck action
  act := gnssAct action

/-- GNSS_SET CONFIGURE writes the receiver's configuration. -/
def execGnssSetConfigure (d : Submission) (s : State) : Host.Outcome State Fault Refusal := .next ((specGnss 0).take 0x5A true d s)

/-- GNSS_SET POSITION sets the position used for timing. -/
def execGnssSetPosition (d : Submission) (s : State) : Host.Outcome State Fault Refusal := .next ((specGnss 1).take 0x5A true d s)

/-- GNSS_SET SURVEY_RESTART restarts the survey. -/
def execGnssSetSurveyRestart (d : Submission) (s : State) : Host.Outcome State Fault Refusal :=
  .next ((specGnss 2).take 0x5A true d s)

/-- GNSS_SET COLD_START discards almanac and ephemerides. -/
def execGnssSetColdStart (d : Submission) (s : State) : Host.Outcome State Fault Refusal := .next ((specGnss 3).take 0x5A true d s)

end Sys2Proof.Machine
end

