-- ==== Sys2Proof/Machine/NetTime.lean ====
section
/-! DEFINITION. Chapter 13, network time and the Kelxaide Phase Link: the first setting and TIME_ADJUST (R483, R490, R491, R519), roles
and the upstream (R492 to R494, R520), KPL (R495 to R509, R521) and its servo. -/

namespace Sys2Proof.Machine

open Sys2Proof

/-! ### First setting and TIME_ADJUST (13 R483, R490, R491, R519) -/

/-- TIME_FIRST_SET: the first valid estimate of TIME_SEL sets a counter whose quality is UNSET, at the pick-cycle boundary that follows it
(13 R483). REF10 and REF11 need a TODIN label (12 R476). -/
def execTimeFirstSet (s : State) : Host.Outcome State Fault Refusal :=
  let t := s.timeSel
  let labelled := t == 12 || t == 13 || ((t == 10 || t == 11) && s.todLabels t)
  match (s.slotMem t).phase, (s.slotMem t).edge with
  | some p, some e => if !s.timeSet && labelled && decide (e < s.elapsed) then .next (s.firstSet ((s.nt : Int) - p)) else .next s
  | _, _ => .next s

/-- 13 R490: whether a TIME_SEL refuses TIME_ADJUST: one exists, and STEP_PENDING is not set under ASK. -/
def State.adjustRefused (s : State) : Bool :=
  decide (s.timeSel < 14) && !(s.on F.DPLL_STATUS_STEP_PENDING && s.get F.DPLL_CTRL_STEP_POLICY == 2)

/-- TIME_ADJUST's OFFSET. -/
def adjOffset (d : Submission) : Int := toInt 64 (d.le 8 8)

/-- TIME_ADJUST SET's value in units. -/
def adjValue (d : Submission) : Nat := d.le 8 6 * sec + d.le 16 4 * ns

/-- 13 R490, R519: TIME_ADJUST's checks by FORM. -/
def adjCheck (form : Nat) (d : Submission) (_ : State) : Nat :=
  let ok := d.form form 24 &&
    (if form = 2 then d.le 14 2 == 0 && d.le 20 4 == 0 && decide (d.le 16 4 < 1000000000) && adjValue d % grid == 0
     else zeroBytes d.bytes 16 8 && decide ((adjOffset d).natAbs < 2 ^ 62))
  if ok then rOk else rBadParam

/-- 11 R434: TIME_ADJUST has acted: the path resumes. -/
def State.adjusted (s : State) : State := ({ s with dpll := { s.dpll with asking := false } }).showError

/-- TIME_ADJUST's action by FORM (13 R490, R491). On the safe clock a STEP or a SET acts at the start of a safe-clock
pick cycle, past its boundary. -/
def adjAct (form : Nat) (c : Cmd) (s : State) : State × Answer :=
  let d := c.sub
  let done := fun (t : Int) (s : State) => (s.adjusted, Answer.doneAt rOk (ofInt 64 t) 0 0)
  if s.adjustRefused || (form == 2 && s.timeSet && decide (s.timeSel < 14)) then (s, .done rState 0 0)
  else match form with
    | 0 => done c.boundary { s with dpll := { s.dpll with slew := s.dpll.slew + adjOffset d } }
    | 1 => done ((if s.on F.SYN_STATUS_SAFE0 then (s.nt : Int) else c.boundary) + adjOffset d) (s.stepTime (adjOffset d))
    | _ =>
      let dv : Int := adjValue d - c.boundary
      done ((if s.on F.SYN_STATUS_SAFE0 then (s.nt : Int) else c.boundary) + dv) (if s.timeSet then s.stepTime dv else s.firstSet ((s.nt : Int) + dv))

/-- TIME_ADJUST with one FORM. -/
def specAdjust (form : Nat) : CmdSpec where
  cls := clsMgmt
  block := true
  p0 := 0
  first := onPick
  check := adjCheck form
  act := adjAct form

/-- TIME_ADJUST SLEW adds an offset to the time path's error. -/
def execTimeAdjustSlew (d : Submission) (s : State) : Host.Outcome State Fault Refusal := .next ((specAdjust 0).take 0x53 true d s)

/-- TIME_ADJUST STEP adds an offset to the counter. -/
def execTimeAdjustStep (d : Submission) (s : State) : Host.Outcome State Fault Refusal := .next ((specAdjust 1).take 0x53 true d s)

/-- TIME_ADJUST SET loads an absolute time. -/
def execTimeAdjustSet (d : Submission) (s : State) : Host.Outcome State Fault Refusal := .next ((specAdjust 2).take 0x53 true d s)

/-! ### Candidates and directions (13 R493, R494) -/

/-- The ports that a lane may lead. -/
def portList : List Nat := List.range 272

/-- 13 R512: a port's PTP instance takes part: enabled, not TC_ONLY, the role not HOLD. -/
def State.ptpActive (s : State) (p : Nat) : Bool :=
  s.on (F.PTP_PORT_CFG_ENABLE p) && !s.on F.PTP_CLOCK_CFG_TC_ONLY && s.role != roHold

/-- PROFILE, 3 acting as 2. -/
def State.g8275 (s : State) : Bool := decide (2 ≤ s.get F.PTP_CLOCK_CFG_PROFILE)

/-- A dataset as one number, lower better: by the alternate BMCA of G.8275.1 or the default one of IEEE 1588-2019 with priority1 128
(13 R493; log entry 51). -/
def dataKey (alt : Bool) (cls acc var p2 lp id steps : Nat) : Nat :=
  let k := ((cls * 256 + acc) * 65536 + var) * 256 + p2
  if alt then ((k * 256 + lp) * 2 ^ 64 + (if cls ≤ 127 then 0 else id)) * 2 ^ 80 + steps % 65536 * 2 ^ 64 + id
  else ((k * 256) * 2 ^ 64 + id) * 2 ^ 80 + steps % 65536 * 2 ^ 64

/-- The quality part of a dataset, lower better. -/
def qualKey (cls acc var : Nat) : Nat := (cls * 256 + acc) * 65536 + var

/-- A candidate of R493: 1 KPL or 2 PTP, its port, its quality and its dataset. -/
structure Candidate where
  kind : Nat
  port : Nat
  qual : Nat
  key  : Nat
  deriving DecidableEq, Repr

/-- 13 R493: the candidate of a KPL port. -/
def State.kplCandidate (s : State) (p : Nat) : Option Candidate :=
  match (s.kplPort p).peer with
  | some k =>
    if s.kplState p = kplRunning ∧ !s.on (F.KPL_STATUS_PEER_FOLLOWING p) ∧ !s.on (F.KPL_PORT_CFG_NO_UPSTREAM p) ∧ !k.noUp then
      some { kind := 1, port := p, qual := qualKey k.cls k.accuracy k.variance,
             key := dataKey s.g8275 k.cls k.accuracy k.variance k.priority2 (max 1 (s.get (F.KPL_PORT_CFG_LOCAL_PRIORITY p)))
               k.clockId k.steps }
    else none
  | none => none

/-- The clockIdentity of a foreign master: the first 8 bytes of its port identity. -/
def Foreign.clockId (f : Foreign) : Nat := beAt f.sender 0 8

/-- A foreign master's dataset on a port. -/
def State.foreignKey (s : State) (p : Nat) (f : Foreign) : Nat :=
  dataKey s.g8275 f.cls f.acc f.var f.prio2 (max 1 (s.get (F.PTP_PORT_CFG_LOCAL_PRIORITY p))) f.clockId f.steps

/-- 13 R493, R494: the candidate of a PTP port. -/
def State.ptpCandidate (s : State) (p : Nat) : Option Candidate :=
  match (s.ptpPort p).master with
  | some f =>
    if s.ptpActive p ∧ !s.on (F.PTP_PORT_CFG_NOT_SLAVE p) ∧ s.kplState p ≠ kplRunning then
      some { kind := 2, port := p, qual := qualKey f.cls f.acc f.var, key := s.foreignKey p f }
    else none
  | none => none

/-- The better of two candidates; a tie between KPL and PTP goes to KPL, another to the lower port. -/
def betterCand (a b : Candidate) : Candidate :=
  if a.key < b.key then a else if b.key < a.key then b else if b.kind < a.kind then b else a

/-- Every candidate, KPL first. -/
def State.candidates (s : State) : List Candidate := portList.filterMap s.kplCandidate ++ portList.filterMap s.ptpCandidate

/-- 13 R489, R493: the module's own quality to beat: what it would announce without REF13 (log entry 55). -/
def State.ownQual (s : State) : Nat :=
  if s.timeSel = 13 then qualKey 248 0xFE 0xFFFF
  else
    let (c, a, v) := s.clockQual
    qualKey c a v

/-- 13 R493: the source that the candidates give. -/
def State.bestSource (s : State) : Option Candidate :=
  match s.candidates.filter (fun c => decide (c.qual < s.ownQual)) with
  | [] => none
  | c :: t => some (t.foldl betterCand c)

/-- 13 R494: a port's direction: 1 UPSTREAM, 3 PASSIVE, 2 DOWNSTREAM. -/
def State.direction (s : State) (kind p : Nat) : Nat :=
  if s.role ≠ roFollow then 2
  else if s.upstream = some (kind, p) then 1
  else
    match (if kind = 1 then s.kplCandidate p else s.ptpCandidate p) with
    | some c => if c.qual < s.ownQual then 3 else 2
    | none => 2

/-- 13 R492, R494: DIRECTION and the PTP state of one port. -/
def State.showDir (p : Nat) (s : State) : State :=
  let k := s.on (F.KPL_PORT_CFG_ENABLE p) && s.role != roHold
  let s := s.set (F.KPL_STATUS_DIRECTION p) (if k then s.direction 1 p else 0)
  s.set (F.PTP_PORT_STATUS_STATE p)
    (if s.ptpActive p then (match s.direction 2 p with | 1 => 9 | 3 => 7 | _ => 6) else 3)

/-- The source of REF13 set; a change is SOURCE_CHANGE. -/
def State.setSource (u : Option (Nat × Nat)) (s : State) : State :=
  let was := s.upstream
  let s := ({ s with upstream := u }).showSource
  (s.when (was != u) (fun s => s.raise .time 3 (match u with | some x => x.2 | none => 0xFFFF))).updClockQual

/-- A port's PTP registers followed after a write or a change of role: a port that no longer takes part forgets what it ran. -/
def State.ptpFollow (p : Nat) (s : State) : State :=
  let s := s.when (!s.ptpActive p) (fun s => (({ s with ptp := Tbl.del p s.ptp }).stop (.announce p)).stop (.delayResp p))
  s.showDir p

/-- Directions of every port after a change of source. -/
def State.showDirs (s : State) : State := s.forEach portList State.showDir

/-- BMCA_EVALUATE: in FOLLOW the protocol core compares the candidates; the best that beats the module's own quality becomes the
source of REF13 (13 R493). -/
def execBmcaEvaluate (s : State) : Host.Outcome State Fault Refusal :=
  if s.role = roFollow ∧ s.groomUp then
    .next ((s.setSource (s.bestSource.map (fun c => (c.kind, c.port)))).showDirs)
  else .next s

/-! ### Roles (13 R492, R520) -/

/-- 13 R492: a role put in force, with the fields it writes. -/
def State.setRole (r : Nat) (s : State) : State :=
  let was := s.dpMode
  let prio := fun (a b c : Nat) (s : State) =>
    ((s.set (F.DPLL_REF_CFG_PRIORITY 10) a).set (F.DPLL_REF_CFG_PRIORITY 12) b).set (F.DPLL_REF_CFG_PRIORITY 13) c
  let s := (s.set F.TIME_STATUS_ROLE r).set F.DPLL_CTRL_MODE (if r = roHold then mdFreeRun else mdAuto)
  let s := if r = roHold then prio 0 0 0 s else if r = roFollow then prio 3 2 1 s else prio 2 1 0 s
  let s := (s.forEach slotList State.showSlot).dpModeChange was
  let s := s.when (r != roFollow) (State.setSource none)
  ((s.forEach portList State.kplEval).forEach portList State.ptpFollow).updClockQual

/-- TIMING_ROLE. -/
def specRole : CmdSpec where
  cls := clsMgmt
  block := true
  p0 := 0
  first := onPick
  check d _ := if d.len = 8 ∧ d.b 0 ≤ 2 ∧ zeroBytes d.bytes 1 7 then rOk else rBadParam
  act c s := (s.setRole (c.sub.b 0), .done rOk 0 0)

/-- TIMING_ROLE sets HOLD, FOLLOW or LEAD. -/
def execTimingRole (d : Submission) (s : State) : Host.Outcome State Fault Refusal := .next (specRole.take 0x54 true d s)

/-! ### KPL_SET (13 R495, R521) -/

/-- 13 R521: KPL_PORT_CFG and KPL_ASYM of a port written at a boundary. -/
def State.kplConfigure (p cfg asym : Nat) (s : State) : State :=
  let old := s.get (F.KPL_ASYM_ASYM p)
  let s := (s.wr (R.KPL_PORT_CFG p) (BitVec.ofNat 32 cfg)).wr (R.KPL_ASYM p) (BitVec.ofNat 32 asym)
  let s := s.when (decide (old ≠ asym ∧ s.upstream = some (1, p))) (State.requalify 13)
  (s.kplEval p).showDir p

/-- KPL_SET. -/
def specKpl : CmdSpec where
  cls := clsMgmt
  block := true
  p0 := 0x1FF
  first := onPick
  check d s := if !d.form 0 16 || !d.regsOk 8 [R.KPL_PORT_CFG 0, R.KPL_ASYM 0] then rBadParam else s.portUpTo 271 (d.P0 0 9)
  act c s :=
    let d := c.sub
    let p := d.P0 0 9
    let en := bit (d.le 8 4) 0 && !s.on (F.KPL_PORT_CFG_ENABLE p)
    if en && !(s.kplAble p && (s.lanesOf p).all (fun n => s.on (F.LANE_STATUS_AM_LOCK n))) then (s, .done rState 0 0)
    else (s.kplConfigure p (d.le 8 4) (d.le 12 4), .done rOk 0 0)

/-- KPL_SET writes a port's KPL_PORT_CFG and KPL_ASYM. -/
def execKplSet (d : Submission) (s : State) : Host.Outcome State Fault Refusal := .next (specKpl.take 0x55 true d s)

/-! ### Frames of the protocol core (06 R245; 13 R496, R513; 11 R445) -/

/-- Frames of port 274 that await a bobbin entry, and those entries. -/
def State.coreWaits (s : State) : Nat :=
  (s.frames.filter (fun x => x.2.port == 274 && x.2.tsId.isSome)).length + (s.bobbins.getD 274 []).length +
    (s.bobbinNow.filter (fun x => x.1 == 274)).length

/-- Whether the protocol core can hand a frame to port 274 now. -/
def State.coreReady (s : State) (ts : Bool) : Bool := s.groomUp && !s.innerHold.contains 274 && (!ts || decide (s.coreWaits < 64))

/-- A frame of the protocol core enters through port 274 for port `p`; a held groom port, or 64 frames awaiting their entries, makes it
wait. Its class the spec does not give: a free value (log entry 3). -/
def State.coreSend (p : Nat) (l : List Byte) (ts : Option Nat) (s : State) : State :=
  if !s.coreReady ts.isSome then s
  else
    let (c, s) := s.free 274
    let l := l ++ List.replicate (60 - l.length) 0
    let f : Frame :=
      { port := 274, tin := s.nt, stage := .head, data := l, tail := leBytes 4 (crc32 l), len := l.length + 4, whole := true,
        direct := true, dest := .port p, tc := c % 8, prio := c % 8, tsId := ts, gen := s.genAt s.nt, root := s.nextId }
    ((s.enter 274).addFrame f).updHeld

/-- The source address of a frame that the protocol core sends on a port: the port's own. -/
def State.coreSrc (s : State) (p : Nat) : List Byte := beBytes 6 (s.get2 (R.MAC_ADDR_LO p) (R.MAC_ADDR_HI p))

/-- A PDU that the MAC passes to the protocol core: its port receives a frame, not flushed, whose bytes `l` pass the receive checks and
are of kind `kind`. Its receive time. -/
def State.pduAt (s : State) (kind p : Nat) (l : List Byte) : Option Nat :=
  match s.firstBy (fun f => f.underway p) with
  | some (_, f) => if !f.flushed ∧ rxFate f.maxFrame l false = 0 ∧ s.consumed p l = kind then some f.tin else none
  | none => none

/-- The MAC's part of a received PDU. -/
def State.pduTaken (p : Nat) (l : List Byte) (s : State) : State := (s.lastByte p l false).updHeld

/-! ### Capability advertisement (13 R496, R497) -/

/-- PTP_CLOCK_ID. -/
def State.clockId (s : State) : Nat := s.get2 R.PTP_CLOCK_ID_LO R.PTP_CLOCK_ID_HI

/-- 15 R549: the lanes of a port are calibrated. -/
def State.lanesCal (s : State) (p : Nat) : Bool := (s.lanesOf p).all (fun n => s.get (F.CAL_ITEM_STATE n) == 1)

/-- 13 R496: the LLDPDU of a port. -/
def State.lldpdu (s : State) (p : Nat) : List Byte :=
  let (c, a, v) := s.clockQual
  let flags := b2n (s.on (F.KPL_PORT_CFG_ENABLE p)) + 2 * b2n (s.lanesCal p) + 4 * b2n (s.on (F.LANE_CFG_CLK_SYNC p)) +
    8 * b2n (s.on (F.KPL_PORT_CFG_NO_UPSTREAM p))
  beBytes 6 0x0180C200000E ++ s.coreSrc p ++ beBytes 2 0x88CC ++
    (beBytes 2 (1 * 512 + 9) ++ [7#8] ++ beBytes 8 s.clockId) ++ (beBytes 2 (2 * 512 + 3) ++ [7#8] ++ beBytes 2 p) ++
    (beBytes 2 (3 * 512 + 2) ++ beBytes 2 4) ++
    (beBytes 2 (127 * 512 + 26) ++ beBytes 3 0x5A4B50 ++ [1#8, 1#8] ++ beBytes 1 flags ++ beBytes 8 s.clockId ++ beBytes 2 p ++
      beBytes 1 c ++ beBytes 1 a ++ beBytes 2 v ++ beBytes 1 (s.get F.PTP_CLOCK_CFG_PRIORITY2) ++ [0#8] ++
      beBytes 2 s.stepsRemoved ++ [0#8, 0#8]) ++ [0#8, 0#8]

/-- LLDP_SEND: once per second the protocol core sends an LLDPDU on a port that advertises KPL (13 R496, R509). -/
def execLldpSend (p : Nat) (s : State) : Host.Outcome State Fault Refusal :=
  if p < 272 ∧ s.on (F.KPL_PORT_CFG_ENABLE p) ∧ kplWaitPeer ≤ s.kplState p ∧ s.slotDue (evLldp p) sec ∧ s.coreReady false then
    .next ((s.slotMade (evLldp p) sec).coreSend p (s.lldpdu p) none)
  else .next s

/-- The TLVs of an LLDPDU from offset `i`, as (type, offset of the value, length); `n` bounds them. -/
def lldpTlvs (l : List Byte) : Nat → Nat → List (Nat × Nat × Nat)
  | 0, _ => []
  | n + 1, i =>
    let h := beAt l i 2
    if h / 512 = 0 ∨ l.length < i + 2 + h % 512 then [] else (h / 512, i + 2, h % 512) :: lldpTlvs l n (i + 2 + h % 512)

/-- 13 R496: the advertisement in an LLDPDU whose value of EtherType stands at `e`, with its TTL. -/
def peerOf (l : List Byte) (e : Nat) : Option KplPeer :=
  let ts := lldpTlvs l 32 (e + 2)
  let ttl := match ts.find? (fun t => t.1 == 3) with
    | some (_, o, _) => beAt l o 2
    | none => 0
  match ts.find? (fun t => t.1 == 127 && t.2.2 == 26 && beAt l t.2.1 3 == 0x5A4B50 && byteAt l (t.2.1 + 3) == 1 &&
      decide (1 ≤ byteAt l (t.2.1 + 4))) with
  | none => none
  | some (_, o, _) =>
    let f := byteAt l (o + 5)
    some { enabled := bit f 0, cal := bit f 1, sync := bit f 2, noUp := bit f 3, clockId := beAt l (o + 6) 8,
           port := beAt l (o + 14) 2 % 512, cls := byteAt l (o + 16), accuracy := byteAt l (o + 17), variance := beAt l (o + 18) 2,
           priority2 := byteAt l (o + 20), steps := beAt l (o + 22) 2, ttl := ttl }

/-- A peer's advertisement taken: it stands until its TTL expires. -/
def State.peerHeard (p : Nat) (k : KplPeer) (s : State) : State :=
  let s := (s.modKpl p (fun x => { x with peer := some k })).start (.lldp p)
  let s := s.set2 (R.KPL_PEER_ID_LO p) (R.KPL_PEER_ID_HI p) 64 k.clockId
  (s.kplEval p).showDir p

/-- LLDPDU_RECEIVE: a received LLDPDU passes to the protocol core, which renews the peer's advertisement (13 R496, R497). `l` are its
bytes with the FCS. -/
def execLldpduReceive (p : Nat) (l : List Byte) (s : State) : Host.Outcome State Fault Refusal :=
  match s.pduAt 3 p l with
  | none => .next (s.pduTaken p l)
  | some _ =>
    let peer := peerOf (l.take (l.length - 4)) (etherAt (s.sTpid p) l)
    let s := (s.pduTaken p l).count 6 p 9 1
    match peer with
    | some k => if s.groomUp then .next (s.peerHeard p k) else .next s
    | none => .next s

/-- A KPL port leaves RUNNING for WAIT_PEER, with KPL_DOWN. -/
def State.kplDown (p : Nat) (s : State) : State := ((s.setKpl p kplWaitPeer).showDir p).raise .time 5 p

/-- LLDP_TTL_EXPIRY: a peer's advertisement expires; while a groom is in service, KPL in RUNNING returns to WAIT_PEER (13 R496, R509). -/
def execLldpTtlExpiry (p : Nat) (s : State) : Host.Outcome State Fault Refusal :=
  match (s.kplPort p).peer with
  | some k =>
    if s.groomUp ∧ s.ran (.lldp p) (k.ttl * sec) then
      let s := (s.stop (.lldp p)).modKpl p (fun x => { x with peer := none })
      .next (if s.kplState p = kplRunning then s.kplDown p else s.showDir p)
    else .next s
  | none => .next s

/-! ### KPL messages (13 R498 to R505) -/

/-- 13 R499, R501: the blocks `bs`, as (KIND, PART, DATA), are one whole message of kind `k` with `n` parts in order. -/
def kplWhole (k n : Nat) (bs : List (Nat × Nat × Nat)) : Bool := bs.map (fun b => (b.1, b.2.1)) == (List.range n).map (fun i => (k, i))

/-- 13 R499: a block of a reserved KIND, which the receiver discards uncounted. -/
def kplReserved (bs : List (Nat × Nat × Nat)) : Bool := bs.any (fun b => !decide (1 ≤ b.1 ∧ b.1 ≤ 3))

/-- DATA of block `i`. -/
def kplData (bs : List (Nat × Nat × Nat)) (i : Nat) : Nat := ((bs[i]?).map (fun b => b.2.2 % 2 ^ 44)).getD 0

/-- The blocks of a message from the DATA of its parts. -/
def kplMsg (k : Nat) (ds : List Nat) : List (Nat × Nat × Nat) := (List.range ds.length).map (fun i => (k, i, ds.getD i 0 % 2 ^ 44))

/-- 13 R501: a message discarded and counted in KPL_BAD. -/
def State.kplBad (p : Nat) (s : State) : State := (s.count 6 p 2 1).raise .time 8 p

/-- 13 R499: STATUS of a REPLY, in its place in DATA. -/
def State.kplStatusBits (s : State) (p : Nat) : Nat :=
  s.quality * 2 ^ 25 + b2n (s.upstream == some (1, p)) * 2 ^ 24 + b2n (s.lanesCal p) * 2 ^ 23

/-- 13 R499: the TIME message for a MARK. FREQ_TRACEABLE is defined nowhere: a free value (log entry 3). -/
def State.kplTimeMsg (seq t1 : Nat) (s : State) : List (Nat × Nat × Nat) × State :=
  let (fr, s) := s.free 475
  let flags := s.get F.TIME_UTC_LEAP61 * 2 ^ 7 + s.get F.TIME_UTC_LEAP59 * 2 ^ 6 + s.get F.TIME_UTC_UTC_VALID * 2 ^ 5 +
    b2n (s.quality == 0) * 2 ^ 4 + fr % 2 * 2 ^ 3 + s.quality
  (kplMsg 3 [seq * 2 ^ 28 + ct t1 / 2 ^ 44 * 2 ^ 8, ct t1, s.get F.TIME_UTC_UTC_OFFSET * 2 ^ 28 + flags * 2 ^ 20], s)

/-- KPL_SLOT: a slot begins on a RUNNING port: it sends a MARK, whose first block's sync header passes the reference plane `n` line bits
after the marker that passes the tap point at `tm`, and after every 16th a TIME message (13 R503). -/
def execKplSlot (p tm n : Nat) (s : State) : Host.Outcome State Fault Refusal :=
  if p < 272 ∧ s.kplState p = kplRunning then
    let t1 := s.txTimeOf p tm n
    let q := (s.kplPort p).seq
    let mark := kplMsg 1 [q * 2 ^ 28]
    let (time, s) := if q % 16 = 0 then s.kplTimeMsg q t1 else ([], s)
    .next ((s.count 6 p 0 1).modKpl p (fun k => { k with
      seq := (q + 1) % 65536, wait := k.wait ++ [(q, t1, s.elapsedAt t1)], out := mark ++ time }))
  else .next s

/-- Whether a KPL port takes messages: in WAIT_PEER or RUNNING. -/
def State.kplHears (s : State) (p : Nat) : Bool := decide (p < 272) && (s.kplState p == kplWaitPeer || s.kplState p == kplRunning)

/-- KPL_MARK_RECEIVE: a MARK arrives, `n` line bits after the marker that passed the tap point at `tm`; the hardware answers with a REPLY
that leaves `dn` line bits after the marker that passes at `dtm` (13 R501, R504). `bad`: a block in an uncorrectable codeword or with a
bad sync header. -/
def execKplMarkReceive (p tm n : Nat) (bs : List (Nat × Nat × Nat)) (bad : Bool) (dtm dn : Nat) (s : State) :
    Host.Outcome State Fault Refusal :=
  if !s.kplHears p ∨ kplReserved bs then .next s
  else if bad ∨ !kplWhole 1 1 bs ∨ kplData bs 0 % 2 ^ 28 ≠ 0 then .next (s.kplBad p)
  else
    let reply := kplMsg 2 [kplData bs 0 / 2 ^ 28 * 2 ^ 28 + s.kplStatusBits p, ct (s.rxTime p tm n), ct (s.txTimeOf p dtm dn)]
    .next (s.modKpl p (fun k => { k with out := reply }))

/-! ### The exchange and the servo (13 R505 to R508) -/

/-- 13 R506: the time nearest to `x` that has the low 44 bits `low`. -/
def near44 (x : Int) (low : Nat) : Int := x + toInt 44 (((low : Int) - x) % (2 ^ 44 : Nat)).toNat

/-- 13 R507: delay and offset of an exchange, in units, halves rounded down (log entry 87). -/
def exchange (t1 t2 t3 t4 asym : Int) : Int × Int := (((t4 - t1) - (t3 - t2)) / 2, ((t4 - t3) - (t2 - t1) + asym) / 2)

/-- A value put into a rising list. -/
def insI (v : Int) : List Int → List Int
  | [] => [v]
  | x :: t => if v ≤ x then v :: x :: t else x :: insI v t

/-- The median of a list, the mean of the middle two where it has an even number (log entry 87). -/
def medianI (l : List Int) : Option Int :=
  let r := l.foldr insI []
  let n := r.length
  match r[n / 2]? with
  | none => none
  | some b => if n % 2 = 1 then some b else some ((r.getD (n / 2 - 1) b + b) / 2)

/-- 13 R508: whether a servo accepts an exchange of a delay. -/
def Servo.accepts (gate : Nat) (delay : Int) (v : Servo) : Bool :=
  match medianI v.delays with
  | some m => decide ((delay - m).natAbs * 100 ≤ max 1 gate * 65536)
  | none => true

/-- 13 R508: an exchange taken by a servo, or rejected by DELAY_GATE (10 ps units, 0 acting as 1). -/
def Servo.take (gate : Nat) (delay offset : Int) (v : Servo) : Servo :=
  if v.accepts gate delay then { v with delays := (delay :: v.delays).take 64, offs := offset :: v.offs, dels := delay :: v.dels } else v

/-- The mean of a list, rounded down (log entry 87). -/
def meanI (l : List Int) : Option Int :=
  if l = [] then none else some (l.foldl (fun a b => a + b) 0 / (l.length : Int))

/-- 13 R508: a millisecond ends: the median is kept; it restarts where it moved by more than 1 ns. -/
def Servo.publish (v : Servo) : Servo × Bool :=
  let m := medianI v.delays
  let step := match m, v.lastMed with
    | some a, some b => decide ((a - b).natAbs > ns)
    | _, _ => false
  ({ delays := if step then [] else v.delays, lastMed := if step then none else m }, step)

/-- 15 R556: the offset, computed with asym 0, of an accepted exchange within an ASYM window of its port. -/
def State.asymKpl (p : Nat) (off : Int) (s : State) : State :=
  { s with asyms := s.asyms.map (fun (a : AsymRun) =>
      if a.port = p ∧ a.t0 ≤ s.nt ∧ s.nt < a.t1 then { a with kN := a.kN + 1, kSum := a.kSum + off } else a) }

/-- KPL_REPLY_RECEIVE: a REPLY arrives; the exchange's stamps are reconstructed, its delay and offset computed and given to the servo
(13 R501, R506 to R508). -/
def execKplReplyReceive (p tm n : Nat) (bs : List (Nat × Nat × Nat)) (bad : Bool) (s : State) : Host.Outcome State Fault Refusal :=
  if !s.kplHears p ∨ kplReserved bs then .next s
  else if bad ∨ !kplWhole 2 3 bs ∨ kplData bs 0 % 2 ^ 23 ≠ 0 then .next (s.kplBad p)
  else
    let q := kplData bs 0 / 2 ^ 28
    let k := s.kplPort p
    match k.wait.find? (fun w => w.1 == q) with
    | none => .next s
    | some (_, t1, _) =>
      let st := kplData bs 0
      let s := (s.setB (F.KPL_STATUS_PEER_FOLLOWING p) (bit st 24)).setB (F.KPL_STATUS_PEER_CAL p) (bit st 23)
      let s := (s.count 6 p 1 1).modKpl p (fun k => { k with wait := k.wait.filter (fun w => w.1 != q), missRow := 0 })
      let far := match k.lastOff with
        | some o => decide (o.natAbs > 100 * ms)
        | none => true
      let base : Option Int :=
        if far then k.time.map (fun t => (t1 : Int) + ctDiff t.dep (ct t1) + s.get (F.KPL_DELAY_DELAY p)) else some (t1 : Int)
      match base with
      | none => .next s
      | some b =>
        let stamps := fun (asym : Int) => exchange t1 (near44 b (kplData bs 1)) (near44 b (kplData bs 2)) (s.rxTime p tm n) asym
        let (delay, off) := stamps (s.getI (F.KPL_ASYM_ASYM p))
        let s := s.when (k.servo.accepts (s.get F.TIME_CTRL_DELAY_GATE) delay) (State.asymKpl p (stamps 0).2)
        .next (s.modKpl p (fun k => { k with
          lastOff := some off, servo := k.servo.take (s.get F.TIME_CTRL_DELAY_GATE) delay off }))

/-- KPL_TIME_RECEIVE: a TIME message arrives; it serves reconstruction, and from the upstream gives UTC (13 R486, R501, R506). -/
def execKplTimeReceive (p : Nat) (bs : List (Nat × Nat × Nat)) (bad : Bool) (s : State) : Host.Outcome State Fault Refusal :=
  if !s.kplHears p ∨ kplReserved bs then .next s
  else if bad ∨ !kplWhole 3 3 bs ∨ kplData bs 0 % 2 ^ 8 ≠ 0 ∨ kplData bs 2 % 2 ^ 20 ≠ 0 then .next (s.kplBad p)
  else
    let fl := bits (kplData bs 2) 20 8
    let t : KplTime := { dep := bits (kplData bs 0) 8 20 * 2 ^ 44 + kplData bs 1, utc := kplData bs 2 / 2 ^ 28, flags := fl }
    let s := s.modKpl p (fun k => { k with time := some t })
    .next (s.when (s.upstream == some (1, p)) (State.takeUtc t.utc (bit fl 7) (bit fl 6) (bit fl 5)))

/-- KPL_REPLY_TIMEOUT: 250 µs have run since a MARK departed without its REPLY: the exchange is missing, and after 64 in a row the port
leaves RUNNING, but not while no groom is in service (13 R505, R509). -/
def execKplReplyTimeout (p : Nat) (s : State) : Host.Outcome State Fault Refusal :=
  match (s.kplPort p).wait with
  | (q, _, e) :: _ =>
    if s.kplState p = kplRunning ∧ e + 250 * us ≤ s.elapsed then
      let s := (s.count 6 p 3 1).bump (F.KPL_STATUS_MISSED p) 1
      let s := s.modKpl p (fun k => { k with wait := k.wait.filter (fun w => w.1 != q), missRow := k.missRow + 1 })
      .next (if 64 ≤ (s.kplPort p).missRow ∧ s.groomUp then s.kplDown p else s)
    else .next s
  | [] => .next s

/-- 13 R508, 11 R415: an estimate published, a groom output that the DPLL has yet to receive. -/
def State.estimate (o : Int) (s : State) : State := { s with dpll := { s.dpll with estimate := some o } }

/-- 13 R508: one KPL port's servo at the end of a millisecond. -/
def State.kplPublish (p : Nat) (s : State) : State :=
  let v := (s.kplPort p).servo
  let (v', step) := v.publish
  let s := s.modKpl p (fun k => { k with servo := v' })
  let s := match meanI v.offs, meanI v.dels with
    | some o, some d =>
      let s := (s.setI (F.KPL_OFFSET_OFFSET p) o).set (F.KPL_DELAY_DELAY p) (satNat 32 d.toNat)
      s.when (s.upstream == some (1, p)) (State.estimate o)
    | _, _ => s
  s.when step (State.raise .time 6 p)

/-- 13 R514: the servo of a PTP port at the end of a millisecond. -/
def State.ptpPublish (p : Nat) (s : State) : State :=
  let v := (s.ptpPort p).servo
  let (v', step) := v.publish
  let s := s.modPtp p (fun q => { q with servo := v' })
  let s := match meanI v.offs with
    | some o => s.when (s.upstream == some (2, p)) (State.estimate o)
    | none => s
  s.when step (State.raise .time 6 p)

/-- KPL_SERVO_PUBLISH: once per millisecond the servo averages each port's accepted offsets and publishes the UPSTREAM port's as the
REF13 estimate (13 R508, R514). -/
def execKplServoPublish (s : State) : Host.Outcome State Fault Refusal :=
  if s.groomUp ∧ s.evalDue evPublish ms then
    let s := s.evalMade evPublish
    .next ((s.forEach s.kpl (fun x => State.kplPublish x.1)).forEach s.ptp (fun x => State.ptpPublish x.1))
  else .next s

end Sys2Proof.Machine
end

