-- ==== Sys2Proof/Machine/Cal.lean ====
section
/-! DEFINITION. Chapter 15, calibration: items and their values (R547, R552), runs and their results (R550 to R555), ASYM (R556), triggers
(R557, R558) and CAL_STORE (R559, R560). -/

namespace Sys2Proof.Machine

open Sys2Proof

/-! ### Items (15 R547) -/

/-- The items: lanes 0 to 271, MI 272 to 279, outputs 280 to 299, the pick clock 300, the GNSS front end 301. -/
def calItems : List Nat := List.range 302

/-- The values in force of an item: a lane's transmit and receive delays, the GNSS delay and noise floor, or a delay and 0. -/
def State.calValue (s : State) (i : Nat) : Int × Int :=
  if i < 272 then ((s.rd (R.LANE_DELAY_TX i)).toNat, (s.rd (R.LANE_DELAY_RX i)).toNat)
  else if i < 280 then ((s.rd (R.MEAS_CH_DELAY (i - 272))).toNat, 0)
  else s.cal.val.getD i (0, 0)

/-- The values in force of an item set. -/
def State.setCalValue (i : Nat) (a b : Int) (s : State) : State :=
  if i < 272 then (s.wr (R.LANE_DELAY_TX i) (BitVec.ofInt 32 a)).wr (R.LANE_DELAY_RX i) (BitVec.ofInt 32 b)
  else if i < 280 then s.wr (R.MEAS_CH_DELAY (i - 272)) (BitVec.ofInt 32 a)
  else { s with cal := { s.cal with val := Tbl.put (0, 0) i (a, b) s.cal.val } }

/-- An item's state: 0 DEFAULT, 1 CALIBRATED, 2 FAILED. -/
def State.calState (s : State) (i : Nat) : Nat := s.get (F.CAL_ITEM_STATE i)

/-- 15 R557: the governing temperature of an item: its engine's OTS for an optical lane, else the nearest of TS0 to TS15. Which is nearest
the spec does not give: a free value (log entry 3). -/
def State.calTemp (s : State) (i : Nat) : Int :=
  if i < 256 then s.getI (F.OE_TEMP_OTS (i / 8)) else s.dieTemp.getD ((Config.freeValue 557 i).toNat % 16) 0

/-- CAL_STATUS.DEFAULTS and FAILED_ANY shown. -/
def State.showCal (s : State) : State :=
  let s := s.setB F.CAL_STATUS_RUNNING (s.calRuns.any (fun r => r.busy != []) || s.asyms != [])
  let s := s.setB F.CAL_STATUS_DEFAULTS (calItems.any (fun i => s.calState i == 0))
  s.setB F.CAL_STATUS_FAILED_ANY (calItems.any (fun i => s.calState i == 2))

/-- 15 R554: whether an item can be measured: its lane is UP, its output enabled. -/
def State.calAble (s : State) (i : Nat) : Bool :=
  if i < 272 then s.lane i == lnUp
  else if i < 280 then true
  else if i < 288 then s.on (F.CLKOUT_CFG_ENABLE (i - 280))
  else if i < 292 then s.on (F.PULSE_CFG_ENABLE (i - 288))
  else if i < 300 then s.on (F.TRD_CFG_ENABLE (i - 292))
  else true

/-! ### Moves of a value (15 R552) -/

/-- A value on its way from `v.1` to `v.2` after `d` of network time, at 1 ps per ms. -/
def moved (v : Int × Int) (d : Nat) : Int :=
  let step : Int := (d * 65536 / 1000 / ms : Nat)
  if v.1 ≤ v.2 then min v.2 (v.1 + step) else max v.2 (v.1 - step)

/-- At a pick cycle: the values that move. -/
def State.calMoveAll (s : State) : State :=
  let s' := s.forEach s.calMoves (fun (x : Nat × CalMove) s =>
    let d := s.elapsed - x.2.begun
    s.setCalValue x.1 (moved x.2.a d) (moved x.2.b d))
  { s' with calMoves := s.calMoves.filter (fun (x : Nat × CalMove) =>
      let d := s.elapsed - x.2.begun
      moved x.2.a d != x.2.a.2 || moved x.2.b d != x.2.b.2) }

/-! ### Runs (15 R550 to R555, R558) -/

/-- Items being measured. -/
def State.calBusy (s : State) : List Nat := s.calRuns.flatMap (fun r => r.busy)

/-- The waiting items of a run that can start beside `busy`: at most 32 lanes at once, none twice. -/
def calStarts : List Nat → List Nat → List Nat
  | _, [] => []
  | busy, i :: t =>
    if busy.contains i ∨ (i < 272 ∧ 32 ≤ (busy.filter (fun j => decide (j < 272))).length) then calStarts busy t
    else i :: calStarts (i :: busy) t

/-- Runs in order, each starting what it can. -/
def calStartRuns : List Nat → List CalRun → List CalRun
  | _, [] => []
  | busy, r :: t =>
    let go := calStarts busy r.wait
    { r with wait := r.wait.filter (fun i => !go.contains i), busy := r.busy ++ go } :: calStartRuns (go ++ busy) t

/-- 15 R555, R557: a run with nothing left is reported: in its command's completion, or as an event for a trigger. -/
def State.calReport (s : State) : State :=
  let isDone := fun (r : CalRun) => r.wait == [] && r.busy == []
  let ended := s.calRuns.filter isDone
  ({ s with calRuns := s.calRuns.filter (fun r => !isDone r) }).forEach ended (fun (r : CalRun) s =>
    match r.cmd with
    | some c => s.finish (fun x => x.op == c.op && x.sub == c.sub) rOk s.nt
        (r.pass + r.fail * 2 ^ 16 + r.notRun * 2 ^ 32 + r.target * 2 ^ 48) 0
    | none => s)

/-- The item of a run that is being measured ends; `f` counts it. -/
def calTake (i : Nat) (f : CalRun → CalRun) : List CalRun → List CalRun
  | [] => []
  | r :: t => if r.busy.contains i then { f r with busy := r.busy.erase i } :: t else r :: calTake i f t

/-- PENDING of every item shown. -/
def State.showPending (s : State) : State :=
  let waits := s.calRuns.flatMap (fun r => r.wait)
  s.forEach (calItems.filter (fun i => s.on (F.CAL_ITEM_PENDING i) || waits.contains i))
    (fun i => State.setB (F.CAL_ITEM_PENDING i) (waits.contains i))

/-- Items that cannot run end NOT_RUN (15 R553, R554). -/
def State.calNotRun (i : Nat) (s : State) : State :=
  let trigger := s.calRuns.any (fun r => r.busy.contains i && r.cmd.isNone)
  let s := { s with calRuns := calTake i (fun r => { r with notRun := r.notRun + 1 }) s.calRuns }
  let s := ((s.set (F.CAL_ITEM_NOT_RUN i) 1).stop (.miGap (i - 272)))
  s.when trigger (fun s => s.event 0x1100 i (s.rd (R.CAL_ITEM i)).toNat)

/-- What can start starts; items that cannot be measured end NOT_RUN. -/
def State.calRound (s : State) : State :=
  let old := s.calBusy
  let s := { s with calRuns := calStartRuns old s.calRuns }
  let fresh := s.calBusy.filter (fun i => !old.contains i)
  let s := s.forEach (fresh.filter (fun i => decide (272 ≤ i ∧ i < 280))) (fun i => State.start (.miGap (i - 272)))
  s.forEach (fresh.filter (fun i => !s.calAble i)) State.calNotRun

/-- The runs go on for at most `k` rounds, and those with nothing left are reported. -/
def State.calGo (k : Nat) (s : State) : State := ((s.forEach (List.range k) (fun _ => State.calRound)).calReport).showPending.showCal

/-- 15 R552: an item's limits, in ps for delays and 0.1 dB for the noise floor. -/
def calLimits (i : Nat) : List (Nat × Nat) :=
  let d := fun ps : Nat => (ps * 65536, 1000)
  if i < 272 then [d 50, d 50] else if i < 300 then [d 50] else if i = 300 then [d 100] else [d 2000, (30, 1)]

/-- 15 R552: a new value passes: within the limit of the value in force, its scatter within a fifth of the limit. -/
def calPasses (lim : Nat × Nat) (old new : Int) (scatter : Nat) : Bool :=
  decide ((new - old).natAbs * lim.2 ≤ lim.1) && decide (scatter * 5 * lim.2 ≤ lim.1)

/-- 15 R552, R555: an item's measurement ends. -/
def State.calEnd (i : Nat) (vals : List (Int × Nat)) (s : State) : State :=
  let old := s.calValue i
  let olds := [old.1, old.2]
  let lims := calLimits i
  let ok := decide (vals.length = lims.length) &&
    ((lims.zip olds).zip vals).all (fun x => calPasses x.1.1 x.1.2 x.2.1 x.2.2)
  let trigger := s.calRuns.any (fun r => r.busy.contains i && r.cmd.isNone)
  let s := { s with calRuns := calTake i (fun r => if ok then { r with pass := r.pass + 1 } else { r with fail := r.fail + 1 }) s.calRuns }
  let s := (((s.set (F.CAL_ITEM_NOT_RUN i) 0).stop (.miGap (i - 272))).start (.calPeriod i))
  let s : State := { s with cal := { s.cal with temp := Tbl.ins i (s.calTemp i) s.cal.temp } }
  let s :=
    if ok then
      let new := ((vals[0]?.map (·.1)).getD old.1, (vals[1]?.map (·.1)).getD old.2)
      let s := (s.set (F.CAL_ITEM_STATE i) 1).setI (F.CAL_ITEM_TEMP i) (s.calTemp i)
      { s with calMoves := Tbl.ins i { begun := s.elapsed, a := (old.1, new.1), b := (old.2, new.2) } s.calMoves }
    else (s.set (F.CAL_ITEM_STATE i) 2).raise .cal 1 i
  s.when trigger (fun s => s.event 0x1100 i (s.rd (R.CAL_ITEM i)).toNat)

/-- 15 R556: an ASYM window ends, or its port has left RUNNING: the completion of R555, and where the window ran the second one with KPL0
and REF. A mean over nothing is a free value (log entry 3), another is rounded down (log entry 87). -/
def State.asymEnd (a : AsymRun) (s : State) : State :=
  let ran := decide (a.t1 ≤ s.nt) && s.kplState a.port == kplRunning
  let s := { s with asyms := s.asyms.erase a }
  let q := (if ran then 1 else 2 ^ 32) + 5 * 2 ^ 48
  let s := s.finish (fun x => x.op == a.cmd.op && x.sub == a.cmd.sub) rOk s.nt q 0
  let (f, s) := s.free 556
  let mean := fun (n : Nat) (v : Int) => if n = 0 then f else ofInt 64 (v / (n : Int))
  (s.when ran (State.completeCmd a.cmd rOk s.nt (mean a.kN a.kSum) (mean a.rN a.rSum))).showCal

/-- CAL_ITEM_DONE: a calibration measurement ends; the item passes, fails or ends NOT_RUN, and results are reported (15 R552 to R556). -/
def execCalItemDone (d : CalDone) (s : State) : Host.Outcome State Fault Refusal :=
  match d with
  | .item i vals =>
    if s.calBusy.contains i then .next (State.calGo 4 (if s.calAble i then s.calEnd i vals else s.calNotRun i)) else .next s
  | .notRun i => if s.calBusy.contains i then .next (State.calGo 4 (s.calNotRun i)) else .next s
  | .asym p =>
    match s.asyms.find? (fun a => a.port == p) with
    | some a => if a.t1 ≤ s.nt ∨ s.kplState p ≠ kplRunning then .next (s.asymEnd a) else .next s
    | none => .next s

/-- 15 R554, R556: at a pick cycle: items being measured whose lane has left UP or whose output is disabled end NOT_RUN, and ASYM windows whose
port has left RUNNING end. -/
def State.calWatch (s : State) : State :=
  let lost := s.calBusy.filter (fun i => !s.calAble i)
  let s := if lost = [] then s else State.calGo 4 (s.forEach lost State.calNotRun)
  s.forEach (s.asyms.filter (fun a => s.kplState a.port != kplRunning)) State.asymEnd

/-- 15 R554: a reset whose scope holds the items of `hit`: what is being measured there ends NOT_RUN, and a value on its way stays where it is. -/
def State.calDiscard (hit : Nat → Bool) (s : State) : State :=
  let s : State := { s with calMoves := s.calMoves.filter (fun x => !hit x.1) }
  let lost := s.calBusy.filter hit
  if lost = [] then s else State.calGo 4 (s.forEach lost State.calNotRun)

/-- MI_CAL_GAP_TIMEOUT: a channel in ARMED_INTERVAL or PAIRED_INTERVAL mode offers no gap for 10 s: its calibration ends NOT_RUN
(15 R553). -/
def execMiCalGapTimeout (k : Nat) (s : State) : Host.Outcome State Fault Refusal :=
  let m := (s.miMode k).1
  if k < 8 ∧ s.calBusy.contains (272 + k) ∧ (m = 2 ∨ m = 3) ∧ s.ran (.miGap k) (10 * sec) then
    .next (State.calGo 4 (s.calNotRun (272 + k)))
  else .next s

/-! ### CAL_RUN (15 R550, R551) -/

/-- The items of a target and subject; 0x1FF names every one. -/
def calSubject (target p : Nat) : List Nat :=
  let all := fun (lo n : Nat) => if p = 0x1FF then (List.range n).map (fun i => lo + i) else [lo + p]
  match target with
  | 0 => all 0 272
  | 1 => [300]
  | 2 => all 272 8
  | 3 => all 280 20
  | 4 => all 280 20
  | _ => [301]

/-- 15 R550: a subject within its range. -/
def calSubjectOk (target p : Nat) : Bool :=
  match target with
  | 0 => decide (p < 272) || p == 0x1FF
  | 2 => decide (p < 8) || p == 0x1FF
  | 3 => decide (p < 20) || p == 0x1FF
  | 4 => decide (p < 20) || p == 0x1FF
  | 5 => decide (p < 272)
  | _ => p == 0

/-- CAL_RUN's checks; a field that the target does not use is reserved. -/
def calCheck (target : Nat) (d : Submission) (_ : State) : Nat :=
  let mi := target == 4 || target == 5
  let ok := d.b 0 == target && d.len == 24 && zeroBytes d.bytes 4 4 && zeroBytes d.bytes 16 8 && calSubjectOk target (d.P0 0 9) &&
    (if mi then decide (d.b 1 < 8) else d.b 1 == 0 && zeroBytes d.bytes 8 8) &&
    (if target = 5 then decide (10 ≤ d.le 2 2 ∧ d.le 2 2 ≤ 3600) else d.le 2 2 == 0)
  if ok then rOk else rBadParam

/-- 15 R558: a trigger of the same pick cycle on an item of the command runs as part of it. -/
def State.calAbsorb (items : List Nat) (s : State) : State :=
  { s with calRuns := s.calRuns.filter (fun r => !(r.cmd.isNone && r.cycle == s.cycles && (r.wait ++ r.busy).any (fun i => items.contains i))) }

/-- CAL_RUN's action. -/
def calAct (target : Nat) (c : Cmd) (s : State) : State × Answer :=
  let d := c.sub
  let p := d.P0 0 9
  if target = 5 then
    if s.kplState p ≠ kplRunning then (s, .done rState 0 0)
    else
      let t0 := (c.boundary + sec - 1) / sec * sec
      let a : AsymRun :=
        { cmd := c, port := p, mi := d.b 1, cable := toInt 64 (d.le 8 8), t0 := t0, t1 := t0 + d.le 2 2 * sec }
      (({ s with asyms := s.asyms ++ [a] }).showCal, .wait)
  else
    let items := calSubject target p
    let r : CalRun :=
      { cmd := some c, target := target, wait := items, cycle := s.cycles, mi := if target = 4 then some (d.b 1) else none }
    let s := s.calAbsorb items
    ({ s with calRuns := s.calRuns ++ [r] }, .wait)

/-- CAL_RUN with one TARGET. -/
def specCalRun (target : Nat) : CmdSpec where
  cls := clsMgmt
  block := true
  p0 := 0x1FF
  first := onPick
  check := calCheck target
  act := calAct target

/-- A CAL_RUN taken; runs that can start do so. -/
def State.calRun (target : Nat) (d : Submission) (s : State) : State :=
  ((specCalRun target).take 0x48 true d s).when (s.fetches clsMgmt d) (State.calGo 4)

/-- CAL_RUN LANES measures the delays of named lanes. -/
def execCalRunLanes (d : Submission) (s : State) : Host.Outcome State Fault Refusal := .next (s.calRun 0 d)

/-- CAL_RUN CORE measures the pick-clock phase of every node. -/
def execCalRunCore (d : Submission) (s : State) : Host.Outcome State Fault Refusal := .next (s.calRun 1 d)

/-- CAL_RUN MI measures the delay of named channels. -/
def execCalRunMi (d : Submission) (s : State) : Host.Outcome State Fault Refusal := .next (s.calRun 2 d)

/-- CAL_RUN OUTPUTS measures the delays of named outputs. -/
def execCalRunOutputs (d : Submission) (s : State) : Host.Outcome State Fault Refusal := .next (s.calRun 3 d)

/-- CAL_RUN OUTPUT_LOOP measures an output's edges on an MI channel. -/
def execCalRunOutputLoop (d : Submission) (s : State) : Host.Outcome State Fault Refusal := .next (s.calRun 4 d)

/-- CAL_RUN ASYM averages pulse and KPL offsets over a window. -/
def execCalRunAsym (d : Submission) (s : State) : Host.Outcome State Fault Refusal := .next (s.calRun 5 d)

/-- CAL_RUN GNSS measures the front end's delay and noise floor. -/
def execCalRunGnss (d : Submission) (s : State) : Host.Outcome State Fault Refusal := .next (s.calRun 6 d)

/-! ### Triggers (15 R557) -/

/-- 15 R557: whether an item triggers now. -/
def State.calTriggers (s : State) (i : Nat) : Bool :=
  let per := s.get F.CAL_CTRL_PERIOD_S
  s.calState i != 0 && !(s.calRuns.any (fun r => (r.wait ++ r.busy).contains i)) &&
    ((decide (i < 300) &&
        decide ((s.calTemp i - s.cal.temp.getD i 0).natAbs > max 1 (s.get F.CAL_CTRL_TEMP_DELTA))) ||
      (per != 0 && s.ran (.calPeriod i) (per * sec)))

/-- 15 R558: a trigger queued, in ascending item order among the triggers that wait. -/
def insTrigger (r : CalRun) : List CalRun → List CalRun
  | [] => [r]
  | x :: t => if x.cmd.isNone && x.busy == [] && decide (r.wait.headD 0 < x.wait.headD 0) then r :: x :: t else x :: insTrigger r t

/-- CAL_AUTO_EVALUATE: once per second, items whose temperature or period has moved too far trigger recalibration (15 R557, R558). -/
def execCalAutoEvaluate (s : State) : Host.Outcome State Fault Refusal :=
  if !s.evalDue evCal sec then .next s
  else
    let s := s.evalMade evCal
    if !s.on F.CAL_CTRL_AUTO_EN then .next s
    else
      let target := fun i : Nat => if i < 272 then 0 else if i < 280 then 2 else if i < 300 then 3 else if i = 300 then 1 else 6
      .next (State.calGo 4 (s.forEach (calItems.filter s.calTriggers) (fun i s =>
        ({ s with calRuns := insTrigger { target := target i, wait := [i], cycle := s.cycles } s.calRuns } : State).raise .cal 0 i)))

/-! ### CAL_STORE (15 R559, R560) -/

/-- 15 R560: the entry of an item. A lane's VALUE holds its peaking codes in the two low bytes and its transmit delay above (log entry 56). -/
def State.calEntry (s : State) (i : Nat) : List Byte :=
  let v := s.calValue i
  let codes := s.get (F.LANE_EQ_CTLE_RX i) + 256 * s.get (F.LANE_EQ_CTLE_TX i)
  leBytes 2 i ++ leBytes 2 (s.get (F.CAL_ITEM_TEMP i)) ++
    leBytes 8 (if i < 272 then codes + 65536 * ofInt 32 v.1 else ofInt 64 v.1) ++ leBytes 4 (ofInt 32 v.2)

/-- 15 R560: the calibration data of every item. -/
def State.calData (s : State) : List Byte :=
  leBytes 2 0x434C ++ leBytes 2 302 ++ leBytes 4 partSerial ++ List.replicate 56 0 ++ calItems.flatMap s.calEntry

/-- 15 R549, R560, R561: the items of stored calibration data, applied: an item with an entry is CALIBRATED. -/
def State.calLoad (l : List Byte) (s : State) : State :=
  if leAt l 0 2 ≠ 0x434C ∨ leAt l 4 4 ≠ partSerial then s
  else s.forEach (List.range (min 302 (leAt l 2 2))) (fun e s =>
    let o := 64 + 16 * e
    let i := leAt l o 2
    if 302 ≤ i then s
    else
      let v := leAt l (o + 4) 8
      let s := (s.set (F.CAL_ITEM_STATE i) 1).set (F.CAL_ITEM_TEMP i) (leAt l (o + 2) 2)
      let s : State := { s.start (.calPeriod i) with cal := { s.cal with temp := Tbl.ins i (s.getI (F.CAL_ITEM_TEMP i)) s.cal.temp } }
      if i < 272 then
        (s.eqChange i (fun s => (s.set (F.LANE_EQ_CTLE_RX i) (v % 32)).set (F.LANE_EQ_CTLE_TX i) (v / 256 % 32))).setCalValue i (v / 65536 % 2 ^ 32 : Nat)
          (leAt l (o + 12) 4)
      else s.setCalValue i (toInt 64 v) (toInt 32 (leAt l (o + 12) 4)))

/-- CAL_STORE. -/
def specCalStore : CmdSpec where
  cls := clsMgmt
  block := false
  takesAt := false
  p0 := 1
  p1 := 0
  p2 := 0
  first := onAccept
  check _ _ := rOk
  act c s :=
    if s.storeRefuses then (s, .done rBusy 0 0)
    else if c.sub.P0 0 1 = 0 ∧ calItems.any (fun i => s.calState i == 0) then (s, .done rState 0 0)
    else (s.storeStart knCal s.calData false c, .wait)

/-- CAL_STORE writes the values in force as the calibration kind. -/
def execCalStore (d : Submission) (s : State) : Host.Outcome State Fault Refusal := .next (specCalStore.take 0x49 true d s)

end Sys2Proof.Machine
end

