-- ==== Sys2Proof/Machine/Egress.lean ====
section
/-! DEFINITION. Chapter 9 with the transmitting side of chapter 6: placing at the egress, stream recovery, the class
scheduler, launches, the end of a transmission, rations, and the egress and FRER commands. -/

namespace Sys2Proof.Machine

open Sys2Proof

/-! ### Sequence recovery (09 R368 to R372) -/

/-- FRER_STATE's history of a handle. -/
def State.frerHist (s : State) (h : Nat) : Nat := s.get2 (R.FRER_STATE h + 8) (R.FRER_STATE h + 12)

/-- FRER_STATE of a recovery handle written. -/
def State.setFrer (h recov hist : Nat) (takeAny : Bool) (s : State) : State :=
  ((s.set (F.FRER_STATE_SEQ h) recov).setB (F.FRER_STATE_TAKE_ANY h) takeAny).set2
    (R.FRER_STATE h + 8) (R.FRER_STATE h + 12) 64 hist

/-- A counter of a handle (09 R373): 0 GEN_FRAMES, 1 PASSED, 2 DISCARDED, 3 ROGUE, 4 OUT_OF_ORDER, 5 LOST, 6 TAGLESS,
7 RESETS. -/
def State.frerCount (h i n : Nat) (s : State) : State := s.count 4 h i n

/-- An accepted copy: counted, the reset timer restarted. -/
def State.frerAccept (h : Nat) (s : State) : State := (s.frerCount h 1 1).start (.frerReset h)

/-- The zero bits of a history among positions `lo` to `hi` − 1. -/
def zeroBits (hist lo hi : Nat) : Nat := ((List.range (hi - lo)).filter (fun i => !bit hist (lo + i))).length

/-- 09 R369: the vector algorithm on a copy numbered `n`: its fate, 0 where accepted. -/
def State.frerVector (h n : Nat) (s : State) : Nat × State :=
  let recov := s.get (F.FRER_STATE_SEQ h)
  let hist := s.frerHist h
  let len := max 1 (min 64 (s.get (F.FRER_STREAM_HISTORY h)))
  let d := toInt 16 (n + 65536 - recov)
  if d ≥ len ∨ d ≤ -(len : Int) then (0x41, s.frerCount h 3 1)
  else if d ≤ 0 then
    let k := (-d).toNat
    if bit hist k then (0x40, s.frerCount h 2 1)
    else (0, ((s.setFrer h recov (hist + 2 ^ k) false).frerCount h 4 1).frerAccept h)
  else
    let k := d.toNat
    let s := s.frerCount h 5 (zeroBits hist (len - k) len)
    let s := s.setFrer h n ((hist * 2 ^ k + 1) % 2 ^ len) false
    let s := if 1 < k then s.frerCount h 4 1 else s
    (0, s.frerAccept h)

/-- 09 R370: the match algorithm, take_any or not. -/
def State.frerMatch (h n : Nat) (s : State) : Nat × State :=
  let recov := s.get (F.FRER_STATE_SEQ h)
  let d := toInt 16 (n + 65536 - recov)
  if d = 0 ∧ !s.on (F.FRER_STATE_TAKE_ANY h) then (0x40, s.frerCount h 2 1)
  else
    let s := s.setFrer h n (s.frerHist h) false
    let s := if d ≠ 1 then s.frerCount h 4 1 else s
    (0, s.frerAccept h)

/-- The sequence number a copy carries: generated here, or from its R-TAG (09 R367). -/
def State.seqOf (s : State) (f : Frame) : Option Nat :=
  if f.made then f.rtag
  else (rtagAt (if f.port ≤ 272 then s.sTpid f.port else 0x88A8) f.data).map (fun o => beAt f.data (o + 4) 2)

/-- 09 R368 to R371: stream recovery of a copy placed for port `p`: its fate, 0 where it goes on. -/
def State.recover (id p : Nat) (f : Frame) (s : State) : Nat × State :=
  match f.stream with
  | none => (0, s)
  | some h =>
    let mode := s.get (F.FRER_STREAM_MODE h)
    if mode ≠ 2 ∧ mode ≠ 3 then (0, s)
    else if s.get (F.FRER_STREAM_PORT h) ≠ p then (0, s.raise .frer 1 h)
    else
      let (code, s) : Nat × State := match s.seqOf f with
        | none =>
          let s := s.frerCount h 6 1
          if s.on (F.FRER_STREAM_TAKE_NO_SEQ h) then (0, s.frerCount h 1 1) else (0x41, s)
        | some n =>
          if mode = 3 then s.frerMatch h n
          else if s.on (F.FRER_STATE_TAKE_ANY h) then (0, (s.setFrer h n 1 false).frerAccept h)
          else s.frerVector h n
      let s := if code = 0x41 then s.raise .frer 2 h else s
      let s := if code = 0 ∧ s.on (F.FRER_STREAM_RTAG_REMOVE h) then s.modFrame id (fun f => { f with rtagRem := true })
        else s
      (code, s)

/-- 09 R372: the recovery reset of a handle. -/
def State.frerReset (h : Nat) (s : State) : State :=
  (((s.setFrer h (s.get (F.FRER_STATE_SEQ h)) 0 true).frerCount h 7 1).stop (.frerReset h)).raise .frer 3 h

/-- FRER_RESET_TIMEOUT: a recovery handle sees no accepted copy for RESET_MS and resets to take_any (09 R372). -/
def execFrerResetTimeout (h : Nat) (s : State) : Host.Outcome State Fault Refusal :=
  let m := s.get (F.FRER_STREAM_MODE h)
  if (m = 2 ∨ m = 3) ∧ s.ran (.frerReset h) (max 1 (s.get (F.FRER_STREAM_RESET_MS h)) * ms) then .next (s.frerReset h)
  else .next s

/-! ### EGRESS_ENQUEUE (08 R320, R334, R335; 09 R351) -/

/-- Whether the egress pool of a node has room for a copy. -/
def State.poolRoom (s : State) (d : Nat) : Bool := decide (s.egressUsed d ≤ (s.stalls d).2.2 * unit64)

/-- A copy for one port is placed: it ends EGRESS_DOWN at a port that is down (05 R208), meets stream recovery, and enters
its class queue, waits for its launch, or, as a port copy, for admission. -/
def State.placeAt (id p : Nat) (f : Frame) (copy : Bool) (s : State) : State :=
  if !s.portUp p then s.endFrame id 0x31
  else
    let (code, s) := s.recover id p f
    if code ≠ 0 then s.endFrame id code
    else if f.launch.isSome then s.place id .launch
    else if copy && (s.classHeld p f.tc || !s.poolRoom f.dest.node) then s.place id .admission
    else ((s.place id .egress).updEgress p).pruneShed p

/-- A node copy makes its port copies (08 R334). -/
def State.splitCopies (id n : Nat) (f : Frame) (ps : List Nat) (s : State) : State :=
  let s := s.dropFrame id
  s.forEach ps (fun p s =>
    let g := { f with dest := .mask n [p] }
    let id := s.nextId
    (s.addFrame g).placeAt id p g true)

/-- A recirculated frame goes on to its next pass (07 R290; 09 R368). -/
def State.nextPass (id : Nat) (f : Frame) (s : State) : State :=
  let (code, s) := s.recover id 273 f
  if code ≠ 0 then s.endFrame id code
  else
    (s.modFrame id (fun f => { f with
      pass := f.pass + 1, hseq := none, dest := .none, after := {}, cut := false, stream := none, wovenTo := none,
      sent := 0, got := 0 })).place id .head

/-- A frame that its output node has joined is placed. -/
def State.placeFrame (id : Nat) (f : Frame) (s : State) : State :=
  match f.dest with
  | .port p => s.placeAt id p f false
  | .mask n ps => s.splitCopies id n f ps
  | .recirc => s.nextPass id f
  | .ring q =>
    if s.cls q ≠ clsFrameRx then (s.ringNotRx q).endFrame id 0x50
    else (((s.place id .ring).modRing q (fun r => { r with rxQueue := r.rxQueue ++ [id] })).startOnce (.rxWait q))
  | _ => s.endFrame id 0x21

/-- The next frame that a node has joined: by pick cycle, then source node, then release order (09 R368). -/
def State.nextJoined (s : State) (d : Nat) : Option (Nat × Frame) :=
  s.frames.foldl (fun best x =>
    if x.2.stage == .joined && x.2.dest.node == d then
      match best with
      | none => some x
      | some b =>
        if x.2.cycle < b.2.cycle ∨ (x.2.cycle = b.2.cycle ∧ (x.2.inNode < b.2.inNode ∨
          (x.2.inNode = b.2.inNode ∧ x.2.order < b.2.order))) then some x else some b
    else best) none

/-- EGRESS_ENQUEUE: output node `d` admits a waiting port copy, or joins its next frame, applies stream recovery and places
it in its class queue (09 R351; 08 R320, R335). -/
def execEgressEnqueue (d : Nat) (s : State) : Host.Outcome State Fault Refusal :=
  let s := s.forEach (List.range 36) (fun n s => s.reedRelease n d s.shuttles.length)
  let waits := s.firstBy (fun f => f.stage == .admission && f.dest.node == d &&
    (match f.dest.egressPort with
     | some p => !s.classHeld p f.tc && s.poolRoom d
     | none => false))
  match waits with
  | some (id, f) => .next (((s.place id .egress).updEgress (f.dest.egressPort.getD 0)).pruneShed (f.dest.egressPort.getD 0))
  | none =>
    match s.nextJoined d with
    | some (id, f) => .next ((s.placeFrame id f).updHeld)
    | none => .next s

/-! ### Choosing and transmitting (06 R239, R240, R252 to R254; 09 R352 to R356) -/

/-- The frame in transmission on a port. -/
def State.sending (s : State) (p : Nat) : Option (Nat × Frame) :=
  s.firstBy (fun f => f.stage == .sending && f.dest.egressPort == some p)

/-- The MAC of a port can start a frame. -/
def State.macFree (s : State) (p : Nat) : Bool :=
  decide (p < 272) && s.portUp p && !s.portRst.contains p && (s.sending p).isNone

/-- A copy begins transmission, its timestamp point crossing the reference plane at `t`. -/
def State.startTx (id p t : Nat) (s : State) : State :=
  (s.modFrame id (fun f => { f with stage := .sending, txAt := t, txDeg := s.degraded })).updEgress p

/-- A host frame's place in descriptor order: its ring, then its acceptance (01 R25). -/
def Frame.txOrder (f : Frame) : Nat := ((f.cmd.map (fun c => c.2.1)).getD 0) * 2 ^ 64 + f.root % 2 ^ 64

/-- The next launch frame of a port: by launch time, then in descriptor order (06 R254). -/
def State.nextLaunch (s : State) (p : Nat) : Option (Nat × Frame) :=
  s.frames.foldl (fun best x =>
    if x.2.stage == .launch && x.2.dest.egressPort == some p then
      match best with
      | none => some x
      | some b =>
        let l := x.2.launch.getD 0
        let m := b.2.launch.getD 0
        if l < m ∨ (l = m ∧ x.2.txOrder < b.2.txOrder) then some x else some b
    else best) none

/-- 06 R252: 64 bits at a port's nominal rate: whether `a` is a word time or more after `b`, in exact terms. -/
def State.wordPast (s : State) (p : Nat) (a b : Int) : Bool := decide ((64 * ns : Nat) ≤ (a - b) * (s.portGbps p : Nat))

/-- 06 R252, R254: the next launch frame of a port starts with its timestamp point at `t`, a word boundary: the first at or after its launch
time, or, where that instant has passed, a later one. A late one is marked, or ends SHED_MISSED. -/
def State.launchNow (p t : Nat) (s : State) : Option State :=
  match s.nextLaunch p with
  | none => none
  | some (id, f) =>
    let at0 := f.launch.getD 0
    if (t : Int) < at0 ∨ s.classHeld p f.tc ∨ (s.wordPast p t at0 ∧ (s.nt : Int) ≤ at0) then none
    else
      let late := f.late || s.wordPast p t (at0 + ((s.get (F.MAC_LAUNCH_LATE_NS p) * ns : Nat) : Int))
      if late then
        if s.on (F.MAC_CFG_LATE_DISCARD p) then some (s.shedMissed id p)
        else
          some ((((s.raise .mac 1 p).traffic p 15 1).modFrame id (fun f => { f with late := true })).startTx id p t)
      else some (s.startTx id p t)

/-- 06 R253: whether a transmission that ends at `stop`, its words on the boundaries that `t` is one of, keeps clear of every pending launch on a
port: its last bit and a gap of 12 bytes come by the launch instant, the first word boundary at or after the launch time less the one word of
preamble and SFD. -/
def State.launchGuard (s : State) (p t stop : Nat) : Bool :=
  let r : Int := (s.portGbps p : Nat)
  let word : Int := (64 * ns : Nat)
  !s.frames.any (fun x => x.2.dest.egressPort == some p && x.2.stage != .sending &&
    (match x.2.launch with
     | none => false
     | some l => (decide ((s.nt : Int) ≤ l) || x.2.stage == .launch) &&
         decide ((t : Int) * r - (t - l) * r / word * word - word < ((stop + s.byteTime p 12 : Nat) : Int) * r)))

/-- The head of a class queue. -/
def State.classHead (s : State) (p c : Nat) : Option (Nat × Frame) :=
  s.firstBy (fun f => f.stage == .egress && f.dest.egressPort == some p && f.tc == c)

/-- 09 R353, 08 R340: whether class `c` is eligible at the choosing instant `t` (first preamble bit). -/
def State.eligible (s : State) (p t c : Nat) : Bool :=
  match s.classHead p c with
  | none => false
  | some (_, f) =>
    let len := s.txTime p f
    !s.classHeld p c && s.gateFits p c t len && s.launchGuard p (t + s.byteTime p 8) (t + len) &&
      (!f.cut || decide (608 ≤ f.got) || (f.whole && decide (f.len ≤ f.got)))

/-- 09 R376: the level and weight of a class. -/
def State.level (s : State) (p c : Nat) : Nat := bits (s.rd (R.EGR_CLASS_LEVEL p)).toNat (3 * c) 3
def State.weight (s : State) (p c : Nat) : Nat :=
  max 1 (bits (s.rd (if c < 4 then R.EGR_CLASS_WEIGHT0 p else R.EGR_CLASS_WEIGHT1 p)).toNat (8 * (c % 4)) 8)

/-- One turn of R355 at class `c`: the new deficits, and whether the class is chosen. -/
def drrTurn (d : Drr) (c quantum : Nat) (empty eligible last : Bool) (cost : Nat) : Drr × Bool :=
  if empty then ({ d with deficit := d.deficit.set c 0, stale := d.stale.set c false }, false)
  else if !eligible then (d, false)
  else
    let stale := d.stale.getD c false
    let v := d.deficit.getD c 0 + (if stale then 0 else quantum)
    if cost ≤ v then
      ({ d with deficit := d.deficit.set c (if last then 0 else v - cost), stale := d.stale.set c (!last) }, true)
    else ({ d with deficit := d.deficit.set c v, stale := d.stale.set c false }, false)

/-- 09 R355: turns over the members of a level from index `i` until one is chosen; `k` bounds them. -/
def State.drrLoop (s : State) (p t : Nat) (ms : List Nat) : Nat → Nat → Drr → Option (Nat × Drr)
  | 0, _, _ => none
  | k + 1, i, d =>
    let c := ms.getD (i % ms.length) 0
    let q := s.classQ p c
    let cost := match q with
      | (_, f) :: _ => s.txLen p f + 20
      | [] => 0
    let (d, hit) := drrTurn d c (s.weight p c * 256) q.isEmpty (s.eligible p t c) (decide (q.length = 1)) cost
    if hit then some (c, d) else State.drrLoop s p t ms k (i + 1) d

/-- 09 R354, R355: the class scheduler's choice at `t` on a port: a class, with the port's deficits after it. -/
def State.schedule (s : State) (p t : Nat) : Option (Nat × Drr) :=
  let el := (List.range 8).filter (s.eligible p t)
  let d := s.drr.getD p {}
  match el with
  | [] => none
  | c0 :: _ =>
    let v := el.foldl (fun m c => max m (s.level p c)) (s.level p c0)
    let ms := (List.range 8).filter (fun c => s.level p c == v)
    match ms with
    | [c] => some (c, d)
    | _ =>
      let i := (ms.findIdx? (fun c => decide (d.pointer.getD v 0 ≤ c))).getD 0
      match s.drrLoop p t ms 1024 i d with
      | some (c, d) => some (c, { d with pointer := d.pointer.set v c })
      | none => none

/-- A control frame of port `p` that waits, and that no pending launch holds back (06 R235, R253). -/
def State.nextCtl (s : State) (p t : Nat) : Option Ctl :=
  if s.launchGuard p t (t - s.byteTime p 8 + s.byteTime p 72) then s.ctlQ.find? (fun c => c.port == p) else none

/-- EGRESS_CHOOSE: the MAC of port `p` can start a frame; egress takes a control frame, a launch or woven frame that is due,
or the class scheduler's choice (09 R352). The timestamp point would cross the reference plane `n` line bits after the
marker that passes the tap point at `tm` (05 R183). -/
def execEgressChoose (p tm n : Nat) (s : State) : Host.Outcome State Fault Refusal :=
  let t := s.txTimeOf p tm n
  if !s.macFree p then .next s
  else match s.nextCtl p t with
  | some c =>
    .next (({ s with ctlQ := s.ctlQ.erase c, ctlSent := s.ctlSent ++ [c], sent := Tbl.ins p (s.ctlBytes c) s.sent }).traffic p
      (if c.opcode = 1 then 6 else 7) 1)
  | none =>
    match s.launchNow p t with
    | some s => .next s
    | none =>
      match s.schedule p (t - s.byteTime p 8) with
      | none => .next s
      | some (c, d) =>
        match s.classHead p c with
        | some (id, _) => .next ((({ s with drr := Tbl.ins p d s.drr }).startTx id p t).pruneShed p)
        | none => .next s

/-- LAUNCH_START: a launch frame starts so that its timestamp point crosses at the word boundary after its launch time
(06 R252, R253). -/
def execLaunchStart (p tm n : Nat) (s : State) : Host.Outcome State Fault Refusal :=
  if !s.macFree p then .next s
  else match s.launchNow p (s.txTimeOf p tm n) with
  | some s => .next s
  | none => .next s

/-- Bytes of rationed classes transmitted, in 1/256 unit of 64 bytes (09 R360). -/
def State.sentUnits (p c bytes : Nat) (s : State) : State :=
  if bit (s.get (F.EGR_RATION_CFG_RATIONED_TC p)) c then
    { s with unitsNow := Tbl.put 0 p (s.unitsNow.getD p 0 + bytes * 4) s.unitsNow }
  else s

/-- At a pick cycle after `d` of network time: what each transmission sent in it is counted (09 R360). -/
def State.tickSending (d : Nat) (s : State) : State :=
  s.forEach (s.framesBy (fun f => f.stage == .sending)) (fun x s =>
    match x.2.dest.egressPort with
    | none => s
    | some p =>
      let total := s.txLen p x.2 + 20
      let b := min (total - x.2.txDone) (d * s.portGbps p / (8 * ns))
      (s.modFrame x.1 (fun f => { f with txDone := f.txDone + b })).sentUnits p x.2.tc b)

/-- A transmission ends: its bytes as sent, its counters, its bobbin entry and its fate. `cause` is the stomp counter's
cause where it ended with a stomped FCS. -/
def State.endTx (id p : Nat) (f : Frame) (cause : Option Nat) (s : State) : State :=
  let l := s.txEdit p f
  let (l, one) := oneStep (s.sTpid p) (s.get (F.MAC_CFG_ONE_STEP p)) p f.port f.tin f.txAt l
  let (l, s) := s.tcStep p f l one
  let fcs := crc32 l
  let out := l ++ leBytes 4 (if cause.isSome then 2 ^ 32 - 1 - fcs else fcs)
  let s := { s with sent := Tbl.ins p out s.sent }
  let s := (s.traffic p 2 1).traffic p 3 out.length
  let s := s.sentUnits p f.tc (out.length + 20 - f.txDone)
  let s := match cause with
    | some c => (s.traffic p (stompCtr c) 1).raise .mac 2 p
    | none => s
  let s := match f.tsId with
    | some t => s.bobbinAdd (if f.port = 274 then 274 else p)
        { tsId := t, time := ct f.txAt, oneStep := one, late := f.late, degraded := f.txDeg }
    | none => s
  (s.modFrame id (fun f => { f with tsId := none })).endFrame id (if cause.isSome then 0x01 else 0x00)

/-- FRAME_TX_END: a frame finishes transmission and ends DELIVERED or DELIVERED_STOMPED (17 R595; 06 R223, R245). -/
def execFrameTxEnd (p : Nat) (s : State) : Host.Outcome State Fault Refusal :=
  match s.sending p with
  | some (id, f) => if f.whole ∧ (f.len ≤ f.got ∨ f.bad.isSome) then .next (s.endTx id p f f.bad) else .next s
  | none => .next s

/-- CUT_UNDERRUN: a cut-through frame's next shuttle is missing when needed; it is ended with a stomped FCS (08 R340). -/
def execCutUnderrun (p : Nat) (s : State) : Host.Outcome State Fault Refusal :=
  match s.sending p with
  | some (id, f) =>
    if f.cut ∧ !(f.whole ∧ f.len ≤ f.got) then
      let s := s.loomEvent 10 (nodeOf p) 0
      .next (s.endTx id p { f with data := f.data.take f.got, rtagIns := false } (some 4))
    else .next s
  | none => .next s

/-! ### Rations (09 R357 to R360) -/

/-- ON and OFF of a port in bytes. -/
def State.rationOn (s : State) (e : Nat) : Nat := max 1 (s.get (F.EGR_RATION_CFG_ON e)) * 16384
def State.rationOff (s : State) (e : Nat) : Nat :=
  let on := max 1 (s.get (F.EGR_RATION_CFG_ON e))
  let off := s.get (F.EGR_RATION_CFG_OFF e)
  (if on ≤ off then on / 2 else off) * 16384

/-- The cap of a balance, in 1/256 unit. -/
def State.rationCap (s : State) (e : Nat) : Nat := max 1 (s.get (F.EGR_RATION_CFG_CAP e)) * 4 * 256

/-- Bytes queued in a port's rationed classes. -/
def State.rationedBytes (s : State) (e : Nat) : Nat :=
  let tcs := s.get (F.EGR_RATION_CFG_RATIONED_TC e)
  s.frames.foldl (fun n x =>
    if x.2.stage = .egress ∧ x.2.dest.egressPort = some e ∧ bit tcs x.2.tc then n + x.2.len else n) 0

/-- Every balance and the pool of a port gone. -/
def State.clearRations (e : Nat) (s : State) : State :=
  { s with balance := s.balance.filter (fun b => b.1 / 512 != e), pool := Tbl.del e s.pool,
           demand := s.demand.filter (fun b => b.1 / 512 != e) }

/-- 09 R359: ingress ports demanding for `e` now: one of their queues has at its head a frame for `e` held for want of
rations. -/
def State.demanding (s : State) (e : Nat) : List Nat :=
  ((s.frames.filter (fun x => x.2.stage == .ingress && s.rationed x.2 == some e && !s.rationOk x.2 && s.atFront x.2)).map
    (fun x => x.2.port)).eraseDups

/-- 09 R360: the pool dealt to the open ports until it or they are used up; `k` bounds the rounds. -/
def State.dealPool (e cap : Nat) : Nat → Nat → List Nat → State → Nat × State
  | 0, pool, _, s => (pool, s)
  | k + 1, pool, open_, s =>
    let w := fun i => max 1 (s.get (F.EGR_RATION_WEIGHT_WEIGHT i))
    let sum := open_.foldl (fun a i => a + w i) 0
    let give := open_.map (fun i => (i, min (pool * w i / sum) ((cap : Int) - s.balance.getD (balKey i e) 0).toNat))
    let total := give.foldl (fun a g => a + g.2) 0
    if pool = 0 ∨ total = 0 then (pool, s)
    else
      let s := s.forEach give (fun g s =>
        { s with balance := Tbl.ins (balKey g.1 e) (s.balance.getD (balKey g.1 e) 0 + (g.2 : Int)) s.balance })
      State.dealPool e cap k (pool - total)
        (open_.filter (fun i => decide (s.balance.getD (balKey i e) 0 < (cap : Int)))) s

/-- 09 R359: the demand on rationed ports as a pick cycle begins, bit 0 of five; `n` cycles have begun since the last note. -/
def State.noteDemand (n : Nat) (s : State) : State :=
  s.forEach ((List.range 272).filter (fun e => s.on (F.EGR_PORT_STATUS_RATIONED e))) (fun e s =>
    let now := s.demanding e
    let keys := (((s.demand.filter (fun (b : Nat × Nat) => b.1 / 512 == e)).map (fun (b : Nat × Nat) => b.1 % 512)) ++ now).eraseDups
    let k := min n 5
    s.forEach keys (fun i s =>
      let v := s.demand.getD (balKey i e) 0 * 2 ^ k + (if now.contains i then 2 ^ k - 1 else 0)
      { s with demand := Tbl.put 0 (balKey i e) (v % 32) s.demand }))

/-- 09 R357, R359, R360: one egress port in a pick cycle: its rationed state, its pool dealt to the ports that were
demanding in the cycle before, and the balances of ports that were not in the last four returned. -/
def State.dealPort (e : Nat) (s : State) : State :=
  let bytes := s.rationedBytes e
  let was := s.on (F.EGR_PORT_STATUS_RATIONED e)
  if !was then
    if s.rationOn e ≤ bytes then
      ((s.clearRations e).set (F.EGR_PORT_STATUS_RATIONED e) 1).raise .egr 0 e
    else s
  else if bytes ≤ s.rationOff e then
    ((s.clearRations e).set (F.EGR_PORT_STATUS_RATIONED e) 0).set (F.EGR_PORT_STATUS_DEMANDING e) 0
  else
    let cap := s.rationCap e
    let last := ((s.demand.filter (fun (b : Nat × Nat) => b.1 / 512 == e && bit b.2 1)).map (fun (b : Nat × Nat) => b.1 % 512))
    let open_ := last.filter (fun i => decide (s.balance.getD (balKey i e) 0 < (cap : Int)))
    let (pool, s) := s.dealPool e cap 300 (s.pool.getD e 0 + s.unitsLast.getD e 0) open_
    let pool := min pool cap
    let idle := s.balance.filter (fun (b : Nat × Int) => b.1 / 512 == e && s.demand.getD b.1 0 / 2 == 0 && decide (0 < b.2))
    let pool := idle.foldl (fun a (b : Nat × Int) => a + b.2.toNat) pool
    let s := s.forEach idle (fun (b : Nat × Int) s => { s with balance := Tbl.ins b.1 0 s.balance })
    ({ s with pool := Tbl.ins e pool s.pool }).set (F.EGR_PORT_STATUS_DEMANDING e) last.length

/-- RATIONS_DEAL: once per pick cycle the output nodes evaluate R357 and deal each rationed port's pool to the demanding
ingress ports (09 R360). -/
def execRationsDeal (s : State) : Host.Outcome State Fault Refusal :=
  .next (s.when (s.cycleDue evRations) (fun s => (s.cycleMade evRations).forEach (List.range 272) State.dealPort))

/-! ### RATIONS_SET, FRER_SET (09 R362, R374) -/

/-- The registers that RATIONS_SET EGRESS writes. -/
def egrRegs (p : Nat) : List Nat :=
  [R.EGR_CLASS_LEVEL p, R.EGR_CLASS_WEIGHT0 p, R.EGR_CLASS_WEIGHT1 p, R.EGR_RATION_CFG p]

/-- RATIONS_SET EGRESS. -/
def specRationsEgress : CmdSpec where
  cls := clsMgmt
  block := true
  p0 := 0x1FF
  first := onPick
  check d s := if !d.form 0 24 || !d.regsOk 8 (egrRegs 0) then rBadParam else s.portUpTo 271 (d.P0 0 9)
  act c s := (s.putRegs c.sub 8 (egrRegs (c.sub.P0 0 9)), .done rOk 0 0)

/-- RATIONS_SET WEIGHT. -/
def specRationsWeight : CmdSpec where
  cls := clsMgmt
  block := true
  p0 := 0x1FF
  first := onPick
  check d s := if !d.form 1 12 || !d.regsOk 8 [R.EGR_RATION_WEIGHT 0] then rBadParam else s.portUpTo 274 (d.P0 0 9)
  act c s := (s.putRegs c.sub 8 [R.EGR_RATION_WEIGHT (c.sub.P0 0 9)], .done rOk 0 0)

/-- RATIONS_SET EGRESS writes an egress port's class levels, weights and ration settings (09 R362). -/
def execRationsSetEgress (d : Submission) (s : State) : Host.Outcome State Fault Refusal :=
  .next (specRationsEgress.take 0x4F true d s)

/-- RATIONS_SET WEIGHT writes an ingress port's ration weight (09 R362). -/
def execRationsSetWeight (d : Submission) (s : State) : Host.Outcome State Fault Refusal :=
  .next (specRationsWeight.take 0x4F true d s)

/-- FRER_SET WRITE's entry within its ranges, its reserved bits 0 (09 R374). -/
def frerEntryOk (d : Submission) : Bool :=
  let mode := d.b 8 % 8
  let port := d.le 12 2
  d.form 0 40 && decide (mode ≤ 3) && d.b 8 / 64 == 0 && (mode != 2 || (decide (1 ≤ d.b 9) && decide (d.b 9 ≤ 64))) &&
    (decide (port ≤ 271) || port == 273) && decide (d.b 14 ≤ 35) && zeroBytes d.bytes 15 25

/-- FRER_STATUS's counts of generators and recoverers moved from one MODE to another. -/
def State.frerModes (old new : Nat) (s : State) : State :=
  let gen := fun m => b2n (m == 1)
  let rec' := fun m => b2n (m == 2 || m == 3)
  (s.set F.FRER_STATUS_GENERATORS (s.get F.FRER_STATUS_GENERATORS + gen new - gen old)).set
    F.FRER_STATUS_RECOVERERS (s.get F.FRER_STATUS_RECOVERERS + rec' new - rec' old)

/-- FRER_SET WRITE. -/
def specFrerWrite : CmdSpec where
  cls := clsMgmt
  block := true
  p0 := 0xFFF
  first := onPick
  check d s :=
    if !frerEntryOk d then rBadParam
    else if (d.b 8 % 8 = 2 ∨ d.b 8 % 8 = 3) ∧ d.le 12 2 ≠ 273 then s.badPort (d.le 12 2)
    else rOk
  act c s :=
    let h := c.sub.P0 0 12
    let s := s.frerModes (s.get (F.FRER_STREAM_MODE h)) (c.sub.b 8 % 8)
    let s := s.wrWords (R.FRER_STREAM h) ((List.range 8).map (fun i => c.sub.le (8 + 4 * i) 4))
    ((s.setFrer h 0 0 true).stop (.frerReset h), .done rOk 0 0)

/-- FRER_SET RESET. -/
def specFrerReset : CmdSpec where
  cls := clsMgmt
  block := true
  p0 := 0xFFF
  first := onPick
  check d _ := if d.form 1 8 then rOk else rBadParam
  act c s :=
    let h := c.sub.P0 0 12
    let m := s.get (F.FRER_STREAM_MODE h)
    if m = 2 ∨ m = 3 then (s.frerReset h, .done rOk 0 0) else (s, .done rState 0 0)

/-- FRER_SET WRITE replaces a stream handle's entry and resets its state (09 R374). -/
def execFrerSetWrite (d : Submission) (s : State) : Host.Outcome State Fault Refusal :=
  .next (specFrerWrite.take 0x50 true d s)

/-- FRER_SET RESET performs the recovery reset of a recovery handle (09 R374). -/
def execFrerSetReset (d : Submission) (s : State) : Host.Outcome State Fault Refusal :=
  .next (specFrerReset.take 0x50 true d s)

end Sys2Proof.Machine
end

