-- ==== Sys2Proof/Machine/CfgRec.lean ====
section
/-! DEFINITION. Chapter 17: the configuration record (R615) and its check (R616). -/

namespace Sys2Proof.Machine

open Sys2Proof

/-- 17 R615: an entry of the configuration record: TYPE (1 REG, 2 GRAPH, 3 TASK), ARG, and its body. -/
structure CfgEntry where
  type : Nat
  len  : Nat
  arg  : Nat
  body : List Byte
  deriving DecidableEq, Repr

/-- The entries of a record from byte `o` on; `none` where a length is wrong or the record does not end with its data. -/
def cfgEntriesAt (l : List Byte) : Nat → Nat → Option (List CfgEntry)
  | 0, o => if o = l.length then some [] else none
  | n + 1, o =>
    let len := leAt l (o + 2) 2
    if len < 8 ∨ len % 8 ≠ 0 ∨ l.length < o + len then none
    else
      let e : CfgEntry := { type := leAt l o 2, len := len, arg := leAt l (o + 4) 4, body := (l.drop (o + 8)).take (len - 8) }
      (cfgEntriesAt l n (o + len)).map (fun t => e :: t)

/-- 17 R615: the entries of configuration data whose header is right. An entry takes at least 8 bytes, which bounds COUNT. -/
def cfgEntries (l : List Byte) : Option (List CfgEntry) :=
  if leAt l 0 2 = 0x4346 ∧ leAt l 2 1 = 1 ∧ zeroBytes l 3 1 ∧ zeroBytes l 12 52 ∧ 64 ≤ l.length ∧ leAt l 8 4 = l.length ∧
      leAt l 4 4 ≤ l.length then cfgEntriesAt l (leAt l 4 4) 64
  else none

/-- 17 R615, R616: a task image: its magic, its sizes and its CRC. -/
def taskOk (l : List Byte) : Bool :=
  let code := leAt l 4 4
  let data := leAt l 8 4
  leAt l 0 2 == 0x5455 && zeroBytes l 2 2 && decide (code ≤ 393216 ∧ data ≤ 393216 ∧ 20 + code + data ≤ l.length) &&
    decide (l.length < 28 + code + data) && crc32 ((l.drop 20).take (code + data)) == leAt l 16 4

/-- 17 R616: the check of one entry. -/
def CfgEntry.ok (e : CfgEntry) : Bool :=
  match e.type with
  | 1 =>
    (match rowOf e.arg with
     | some r => decide (r.rw ||| r.rws ≠ 0#32) && e.len == 16 && zeroBytes e.body 4 4 &&
         (BitVec.ofNat 32 (leAt e.body 0 4) &&& ~~~(r.rws ||| r.rw)) == 0#32
     | none => false)
  | 2 => decide (e.arg < 32) && e.len == 8 + 64 + 64 * leAt e.body 4 2 && graphImageOk e.body
  | 3 => decide (e.arg < 16) && taskOk e.body
  | _ => false

/-- 17 R616: the check of a whole record. -/
def cfgOk (l : List Byte) : Bool :=
  match cfgEntries l with
  | some es => es.all CfgEntry.ok
  | none => false

/-- The entries of the configuration slot in force (03 R111), none where no slot is valid. -/
def State.cfgInForce (s : State) : List CfgEntry :=
  match s.newest knCfg with
  | some (_, r) => (cfgEntries (s.slotData knCfg r.slot).data).getD []
  | none => []

/-- A register of the SYS, RST, NVS or HIF block: its entry belongs to the option record (17 R616). -/
def inOption (a : Nat) : Bool := decide (a < 0x100000)

/-- 17 R615: the value of a REG entry. -/
def CfgEntry.value (e : CfgEntry) : Word := BitVec.ofNat 32 (leAt e.body 0 4)

end Sys2Proof.Machine
end

