-- ==== Sys2Proof/Machine/Grooms.lean ====
section
/-! DEFINITION. Chapter 16, the grooms: outputs and their consumers (R567 to R569), leadership (R570, R573, R574), the state machine of each
complex (R571, R572, R575), identities and handover (R577 to R579), performance counters (R583 to R588) and the sample log (R589 to R591). -/

namespace Sys2Proof.Machine

open Sys2Proof

/-! ### Complexes (16 R571, R593) -/

def gsOff : Nat := 0
def gsBooting : Nat := 1
def gsSyncing : Nat := 2
def gsInStep : Nat := 3
def gsSolo : Nat := 4
def gsShadow : Nat := 5
def gsRetired : Nat := 6

/-- The STATE field of complex A (false) or B (true). -/
def groomState (b : Bool) : Fld := if b then F.GROOM_STATUS_STATE_B else F.GROOM_STATUS_STATE_A

/-- A complex's state. -/
def State.groom (s : State) (b : Bool) : Nat := s.get (groomState b)

/-- A complex put into a state. -/
def State.groomTo (b : Bool) (st : Nat) (s : State) : State := s.set (groomState b) st

/-- The leader, as the lead register names it. -/
def State.leaderB (s : State) : Bool := s.on F.GROOM_STATUS_LEADER_B

/-- A complex's memory. -/
def State.cplx (s : State) (b : Bool) : Complex := s.complexes.getD (b2n b) {}

/-- A complex's memory changed. -/
def State.modCplx (b : Bool) (f : Complex → Complex) (s : State) : State :=
  { s with complexes := Tbl.put {} (b2n b) (f (s.cplx b)) s.complexes }

/-- The domain of a complex in RST_DOMAIN.HELD. -/
def groomDomain (b : Bool) : Nat := 3 + b2n b

/-- The cores of a complex. -/
def coresOf (b : Bool) : List Nat := (List.range 3).map (fun i => 3 * b2n b + i)

/-- Completions held for want of a groom, written (04 R166). -/
def State.flushHeld (s : State) : State :=
  if s.groomUp then ({ s with cqHeld := [] }).forEach s.cqHeld (fun x => State.complete x.1 x.2) else s

/-- 16 R571: a complex enters SOLO without FAILOVER: event 0x1210. -/
def State.solo (b : Bool) (s : State) : State :=
  let s := s.groomTo b gsSolo
  (s.event 0x1210 (b2n b) (s.rd R.GROOM_STATUS).toNat).flushHeld

/-- 16 R577: an identity's registers. -/
def State.showIdent (b : Bool) (s : State) : State :=
  match (s.cplx b).ident with
  | some i => s.wr (if b then R.GROOM_IDENT_B else R.GROOM_IDENT_A) (BitVec.ofNat 32 (i.image % 65536 + i.cfg % 65536 * 65536))
  | none => s

/-- 16 R588: a reset of a complex clears its cores' counters, logs and sticky bits. -/
def State.clearCore (c : Nat) (s : State) : State :=
  let s := s.forEach (List.range 8) (fun k s => (s.wr (R.GROOM_PC_LO c k) 0).wr (R.GROOM_PC_HI c k) 0)
  let s := ((s.wr (R.GROOM_CYC_LO c) 0).wr (R.GROOM_CYC_HI c) 0).wr (R.GROOM_PC_STICKY c) 0
  ({ s with logs := Tbl.del c s.logs }).wr (R.GROOM_LOG_STATUS c) 0

/-! ### Resets of a complex (16 R571, R575, R577, R588) -/

/-- 600 s. -/
def restartWindow : Nat := 600 * sec

/-- What the partner does when complex `b` fails or is reset: in step, it goes on alone and takes the lead at the next boundary where `b` led;
still booting from `b`, it has lost its source and runs what it has loaded (16 R571, R572, R579). -/
def State.partnerFails (b : Bool) (s : State) : State :=
  let p := !b
  let st := s.groom p
  if st = gsInStep then
    if s.leaderB = b then { s with leadNext := some (p, true) } else s.solo p
  else if st = gsSyncing ∨ st = gsShadow then
    ((s.groomTo p gsBooting).set F.GROOM_STATUS_HANDOVER 0).stop .shadow
  else s

/-- A reset of complex `b`; `soft`: a software or debug request, which RETIRED leaves and the limit of R575 does not count. -/
def State.groomReset (b soft : Bool) (s : State) : State :=
  let was := s.groom b
  let s := (s.groomTo b gsOff).set ⟨R.RST_DOMAIN, groomDomain b, 1⟩ 1
  let s := s.bump (if b then F.GROOM_RESTARTS_B else F.GROOM_RESTARTS_A) 1
  let s := s.forEach (coresOf b) State.clearCore
  let s := s.modCplx b (fun c => { c with
    soft := soft
    resets := if soft then (if was = gsRetired then [] else c.resets)
              else s.elapsed :: c.resets.filter (fun t => decide (s.elapsed < t + restartWindow)) })
  let s := { s with
    outWins := []
    leadNext := match s.leadNext with
      | some (p, f) => if p = b then none else some (p, f)
      | none => none }
  let s := ((s.stop .revert).when (was == gsShadow) (fun s => (s.stop .shadow).set F.GROOM_STATUS_HANDOVER 0))
  let s := s.partnerFails b
  if !soft ∧ 4 ≤ (s.cplx b).resets.length then
    ((s.groomTo b gsRetired).set F.GROOM_STATUS_HANDOVER 0).raise .groom 9 (b2n b)
  else s

/-- GROOM_LAST_FAULT. -/
def State.lastFault (kind : Nat) (b : Bool) (core : Nat) (s : State) : State :=
  s.wr R.GROOM_LAST_FAULT (BitVec.ofNat 32 (kind + 8 * b2n b + 16 * core))

/-- A fault against a complex: its event, its reset, and in SHADOW the end of the handover with the image's slot marked suspect (16 R571,
R575, R579). -/
def State.groomFault (kind : Nat) (b : Bool) (core : Nat) (s : State) : State :=
  let st := s.groom b
  if st = gsOff ∨ st = gsRetired then s
  else
    let ev := if kind = 0 then some 1 else if kind = 1 then some 2 else if kind = 2 then some 3 else if kind = 3 then some 4 else none
    let s := s.lastFault (if st = gsShadow then 4 else kind) b core
    let slot := ((s.cplx b).ident.map (·.slot)).getD 0
    let s := s.groomReset b false
    let s := match ev with
      | some e => s.raise .groom e (b2n b)
      | none => s
    s.when (st == gsShadow) (fun s => (s.setSuspect slot true).raise .groom 8 (b2n b))

/-- 03 R103, 16 R577: the newest committed image slot that is not suspect, with its SEQ. -/
def State.newestImage (s : State) : Option (Nat × Nat) :=
  let ok := fun c => match s.commitAt knImage c with
    | some r => if s.suspect r.slot then none else some (r.slot, r.seq)
    | none => none
  match ok 0, ok 1 with
  | some a, some b => if seqNewer 32 b.2 a.2 then some b else some a
  | some a, none => some a
  | none, b => b

/-- The SEQ of the newest committed configuration. -/
def State.newestCfg (s : State) : Nat :=
  match s.newest knCfg with
  | some (_, r) => r.seq
  | none => 0

/-- 16 R577: the identity that a restarting complex loads. -/
def State.identToLoad (s : State) (b : Bool) : Option Identity :=
  let c := s.cplx b
  let p := s.groom (!b)
  let newest := s.newestImage.map (fun x => { image := x.2, cfg := s.newestCfg, slot := x.1 : Identity })
  if c.soft then (match newest with | some i => some i | none => c.ident)
  else if p = gsInStep ∨ p = gsSolo then (s.cplx (!b)).ident
  else match c.ident with
    | some i => some i
    | none => newest

/-- The user tasks of the configuration in force start (16 R580). -/
def State.startTasks (s : State) : State :=
  let ts := (s.cfgInForce.filter (fun e => e.type == 3)).foldl (fun m e => m ||| 2 ^ (e.arg % 16)) 0
  ({ s with tasks := [] }).wr R.GROOM_TASK_STATUS (BitVec.ofNat 32 ts)

/-- GROOM_RESET_END: a complex's reset ends and it loads its image (16 R571, R577). Under debug hold it stays at its reset vector. -/
def execGroomResetEnd (b : Bool) (s : State) : Host.Outcome State Fault Refusal :=
  if s.groom b = gsOff ∧ !s.heldDomain (groomDomain b) ∧ !s.heldDomain 5 ∧ s.supply = .on then
    let s := if s.on F.SYS_STATUS_READY then
        let i := s.identToLoad b
        (s.modCplx b (fun c => { c with ident := i, soft := false })).showIdent b
      else s
    .next (s.groomTo b gsBooting)
  else .next s

/-- Whether a complex may run its image: after the boot, or once GROOM_START has begun (03 R101), not under debug hold. -/
def State.groomMayRun (s : State) : Bool :=
  s.on F.SYS_STATUS_READY || (decide (8 ≤ s.get F.RST_BOOT_STEP) && s.get F.RST_BOOT_STATE == 0)

/-- GROOM_IMAGE_LOADED: a booting complex's image is loaded and checked (16 R571, R578). -/
def execGroomImageLoaded (b : Bool) (s : State) : Host.Outcome State Fault Refusal :=
  if s.groom b ≠ gsBooting ∨ !s.groomMayRun then .next s
  else
    let s := s.showIdent b
    let p := s.groom (!b)
    if p = gsInStep ∨ p = gsSolo then
      if (s.cplx b).ident = (s.cplx (!b)).ident then .next (s.groomTo b gsSyncing)
      else .next (((s.groomTo b gsShadow).set F.GROOM_STATUS_HANDOVER 1).start .shadow)
    else
      let s := s.when (s.on F.SYS_STATUS_READY) State.startTasks
      let s := (if s.leaderB = b then s else { s with leadNext := some (b, false) })
      .next (s.solo b)

/-- RESYNC_FINAL_COPY: the final copy of re-synchronisation ends; both complexes run in step, which ends a handover (16 R571, R572, R578). -/
def execResyncFinalCopy (b : Bool) (s : State) : Host.Outcome State Fault Refusal :=
  if s.groom b ≠ gsSyncing ∨ s.groom (!b) ≠ gsSolo then .next s
  else
    let s := (((s.groomTo b gsInStep).groomTo (!b) gsInStep).start .revert).raise .groom 5 (b2n b)
    .next (s.when (s.on F.GROOM_STATUS_HANDOVER)
      (fun s => (s.set F.GROOM_STATUS_HANDOVER 0).raise .groom 7 (b2n !b)))

/-! ### The lead register (16 R570, R571, R573, R574) -/

/-- At a pick-cycle boundary: the lead moves, with FAILOVER where its holder failed. -/
def State.settleLead (s : State) : State :=
  match s.leadNext with
  | none => s
  | some (b, failover) =>
    let s := ({ s with leadNext := none }).setB F.GROOM_STATUS_LEADER_B b
    if failover ∧ s.groom b = gsInStep then (s.groomTo b gsSolo).raise .groom 0 (b2n b) else s

/-- At a pick-cycle boundary: DUAL clears by the end of the second pick cycle (16 R574). -/
def State.settleDual (n : Nat) (s : State) : State :=
  if s.dualLeft = 0 then s
  else
    let s := { s with dualLeft := s.dualLeft - n }
    s.when (s.dualLeft == 0) (State.set F.GROOM_STATUS_DUAL 0)

/-- REVERT_HOLD_EXPIRY: the preferred complex has been IN_STEP for REVERT_HOLD_S and takes the lead (16 R573, R574). -/
def execRevertHoldExpiry (s : State) : Host.Outcome State Fault Refusal :=
  let p := s.on F.GROOM_CTRL_PREFER_B
  if s.on F.GROOM_CTRL_REVERT_EN ∧ s.leaderB ≠ p ∧ s.groom p = gsInStep ∧ s.groom (!p) = gsInStep ∧
      s.ran .revert (max 1 (s.get F.GROOM_CTRL_REVERT_HOLD_S) * sec) then
    let s := ({ s with dualLeft := 2 }).setB F.GROOM_STATUS_LEADER_B p
    .next ((s.set F.GROOM_STATUS_DUAL 1).raise .groom 6 (b2n p))
  else .next s

/-- SHADOW_TAKEOVER: at the first boundary at or after T + SHADOW_S the booted complex takes the lead, and the other is reset and restarts with
the new identity (16 R578, R580). -/
def execShadowTakeover (b : Bool) (s : State) : Host.Outcome State Fault Refusal :=
  if s.groom b = gsShadow ∧ s.ran .shadow (max 1 (s.get F.GROOM_CTRL_SHADOW_S) * sec) then
    let s := ((s.stop .shadow).setB F.GROOM_STATUS_LEADER_B b).startTasks
    let s := s.solo b
    .next (s.groomReset (!b) false)
  else .next s

/-- SHADOW_FAULT: a fault of the complex in SHADOW; the handover aborts and its image slot is marked suspect (16 R579). -/
def execShadowFault (b : Bool) (s : State) : Host.Outcome State Fault Refusal :=
  if s.groom b = gsShadow then .next (s.groomFault 4 b 0) else .next s

/-! ### Outputs (16 R567 to R569, R576) -/

/-- A consumer's number. -/
def Consumer.id : Consumer → Nat
  | .completion => 0 | .dpll => 1 | .core => 2 | .store _ => 3 | .event => 4 | .applier => 5 | .gnss c => 16 + c

/-- Both complexes run in step: consumers open windows (16 R568). -/
def State.inStep (s : State) : Bool := s.groom false == gsInStep && s.groom true == gsInStep

/-- The consumer acts on an output: a REF13 estimate published (11 R415), an oscillator word of a channel (14 R529), or a store request (R576).
What the other consumers take acts with the row that makes it (log entry 89). -/
def State.consume (c : Consumer) (b : Bool) (s : State) : State :=
  match c with
  | .dpll =>
    (match s.dpll.estimate with
     | some e => ({ s with dpll := { s.dpll with estimate := none } } : State).refEstimate e
     | none => s)
  | .gnss ch => s.when (decide (ch < 96)) (State.channelWord ch)
  | .store n => s.when (decide (n < 2 ^ 32) && s.storeTakes s.leaderB b n) (State.storeBegin n)
  | _ => s

/-- The second copy of a number: the arbiter takes a store request from the leader, in whichever order the copies come (16 R569, R576). -/
def State.second (c : Consumer) (b : Bool) (s : State) : State :=
  match c with
  | .store _ => s.consume c b
  | _ => s

/-- The newest number acted on, shown. -/
def State.showOut (seq : Nat) (s : State) : State :=
  if s.acted = [] ∨ seqNewer 48 seq (s.get2 R.GROOM_OUT_SEQ_LO R.GROOM_OUT_SEQ_HI) then
    s.set2 R.GROOM_OUT_SEQ_LO R.GROOM_OUT_SEQ_HI 48 seq
  else s

/-- GROOM_OUTPUT_RECEIVE: a consumer receives output `seq` of complex `b`: it acts on the first copy of each number, and compares the second,
within the window's four cycles (16 R567 to R569). The outputs of a complex in SHADOW are discarded (R578). -/
def execGroomOutputReceive (c : Consumer) (b : Bool) (seq digest : Nat) (s : State) : Host.Outcome State Fault Refusal :=
  let st := s.groom b
  if (st ≠ gsInStep ∧ st ≠ gsSolo) ∨ 2 ^ 48 ≤ seq then .next s
  else
    let fresh := match Tbl.find c.id s.acted with
      | some n => seqNewer 48 seq n
      | none => true
    match s.outWins.find? (fun w => w.cons == c.id && w.seq == seq && w.b != b && decide (s.cycles ≤ w.cycle + 4)) with
    | some w =>
      let s := ({ s with outWins := s.outWins.erase w } : State).second c b
      if w.digest = digest then .next s else .next (s.groomFault 0 (!s.leaderB) 0)
    | none =>
      if !fresh then .next s
      else
        let s := (s.consume c b).showOut seq
        let s := { s with acted := Tbl.ins c.id seq s.acted }
        .next (if s.inStep then
          { s with outWins := s.outWins ++ [{ cons := c.id, seq := seq, digest := digest, b := b, cycle := s.cycles }] } else s)

/-- LAG_WINDOW_EXPIRY: a window has ended without the second copy: a lag fault against the complex whose copy is missing (16 R568). -/
def execLagWindowExpiry (s : State) : Host.Outcome State Fault Refusal :=
  match s.outWins.find? (fun w => decide (w.cycle + 4 < s.cycles)) with
  | some w => .next (({ s with outWins := s.outWins.erase w }).groomFault 1 (!w.b) 0)
  | none => .next s

/-! ### Performance counters (16 R583 to R588) -/

/-- Whether counter set `n` (0x10 to 0x18) is frozen. -/
def State.frozen (s : State) (n : Nat) : Bool := s.on ⟨R.OBS_STATUS, 8 + (n - 0x10), 1⟩

/-- A counter of `w` bits advanced by `n`; a wrap sets a sticky bit. -/
def State.perfAdd (lo hi w : Nat) (f : Fld) (n : Nat) (s : State) : State :=
  if n = 0 then s
  else
    let v := s.get2 lo hi + n
    (s.set2 lo hi w v).when (decide (2 ^ w ≤ v)) (State.set f 1)

/-- Codes that count nothing act as 0x00. -/
def perfCode (top e : Nat) : Nat := if e ≤ top then e else 0

/-- A core's counters over one evaluation: `evs` gives (code, in user mode, occurrences), `cyc` the core cycles. -/
def State.corePerf (c cyc : Nat) (evs : List (Nat × Bool × Nat)) (s : State) : State :=
  if s.frozen (0x10 + c) then s
  else
    let s := s.when (s.on (F.GROOM_PC_CTRL_CYC_EN c))
      (State.perfAdd (R.GROOM_CYC_LO c) (R.GROOM_CYC_HI c) 64 (F.GROOM_PC_STICKY_CYC_WRAP c) cyc)
    s.forEach ((List.range 8).filter (fun k => bit (s.get (F.GROOM_PC_CTRL_EN c)) k)) (fun k s =>
      let e := perfCode 0x10 (s.get (F.GROOM_PC_SEL_EVENT c k))
      let n := (evs.filter (fun x => x.1 == e && e != 0 &&
        (if x.2.1 then s.on (F.GROOM_PC_SEL_USER c k) else s.on (F.GROOM_PC_SEL_PRIV c k)))).foldl (fun a x => a + x.2.2) 0
      s.perfAdd (R.GROOM_PC_LO c k) (R.GROOM_PC_HI c k) 48 ⟨R.GROOM_PC_STICKY c, k, 1⟩ n)

/-- A heddle's counters over one evaluation: `evs` gives (code, occurrences). -/
def State.hedPerf (h : Nat) (evs : List (Nat × Nat)) (s : State) : State :=
  if s.frozen 0x18 then s
  else s.forEach (List.range 4) (fun k s =>
    let e := perfCode 0x0B (bits (s.rd (R.GROOM_HPC_SEL h)).toNat (8 * k) 8)
    let n := (evs.filter (fun x => x.1 == e && e != 0)).foldl (fun a x => a + x.2) 0
    s.perfAdd (R.GROOM_HPC_LO h k) (R.GROOM_HPC_HI h k) 48 ⟨R.GROOM_HPC_STICKY h, k, 1⟩ n)

/-- The _LO registers of the counters that can be written, with their _HI registers four bytes on. -/
def isPerfLo (a : Nat) : Bool :=
  (decide (0xA01000 ≤ a ∧ a < 0xA01600) && decide (0x40 ≤ a % 0x100 ∧ a % 0x100 < 0x80) && a % 8 == 0) ||
    (decide (0xA02000 ≤ a ∧ a < 0xA02800) && decide (8 ≤ a % 0x40 ∧ a % 0x40 < 0x28) && a % 8 == 0)

/-- 16 R585: a write of a counter's _LO register is held. -/
def State.perfLoWrite (a : Nat) (v : Word) (s : State) : State :=
  if isPerfLo a then { s with perfHold := Tbl.ins a v s.perfHold } else s

/-- 16 R585: a write of its _HI register applies both. -/
def State.perfHiWrite (a : Nat) (v : Word) (s : State) : State :=
  let lo := a - 4
  if isPerfLo lo then
    let s := match Tbl.find lo s.perfHold with
      | some w => ({ s with perfHold := Tbl.del lo s.perfHold }).wr lo w
      | none => s
    s.wr a (v &&& 0xFFFF#32)
  else s

/-- COUNTER_LO_WRITE: a write to a performance counter's _LO register is held (16 R585); locked from RUN (R594). -/
def execCounterLoWrite (a : Nat) (v : BitVec 32) (s : State) : Host.Outcome State Fault Refusal :=
  if s.run then .next s else .next (s.perfLoWrite a v)

/-- COUNTER_HI_WRITE: a write to its _HI register applies the held low bits and the new high bits (16 R585). -/
def execCounterHiWrite (a : Nat) (v : BitVec 32) (s : State) : Host.Outcome State Fault Refusal :=
  if s.run then .next s else .next (s.perfHiWrite a v)

/-! ### The precise sample log (16 R589 to R591) -/

/-- A core's log. -/
def State.log (s : State) (c : Nat) : GroomLog := s.logs.getD c {}

/-- A core's log changed; HELD follows. -/
def State.modLog (c : Nat) (f : GroomLog → GroomLog) (s : State) : State :=
  let l := f (s.log c)
  ({ s with logs := Tbl.put {} c l s.logs }).set (F.GROOM_LOG_STATUS_HELD c) l.held.length

/-- A write of GROOM_LOG_CTRL: the count restarts when the sampler is enabled. -/
def State.logCtrlWrite (c : Nat) (v : Word) (s : State) : State :=
  let was := s.on (F.GROOM_LOG_CTRL_ENABLE c)
  let s := s.wr (R.GROOM_LOG_CTRL c) v
  s.when (s.on (F.GROOM_LOG_CTRL_ENABLE c) && !was) (State.modLog c (fun l => { l with run := 0 }))

/-- A core's watched events over one evaluation. -/
def State.logCount (c : Nat) (evs : List (Nat × Bool × Nat)) (s : State) : State :=
  let e := perfCode 0x10 (s.get (F.GROOM_LOG_CTRL_EVENT c))
  let n := (evs.filter (fun x => x.1 == e)).foldl (fun a x => a + x.2.2) 0
  if s.on (F.GROOM_LOG_CTRL_ENABLE c) ∧ e ≠ 0 ∧ 0 < n then s.modLog c (fun l => { l with run := l.run + n }) else s

/-- 16 R590: a sample entry. -/
def sampleEntry (time addr lat op event flags seq core : Nat) : List Byte :=
  leBytes 8 time ++ leBytes 6 addr ++ leBytes 2 (satNat 16 lat) ++ leBytes 4 op ++ leBytes 1 event ++ leBytes 1 flags ++ leBytes 2 0 ++
    leBytes 4 seq ++ leBytes 1 core ++ leBytes 3 0

end Sys2Proof.Machine
end

