-- ==== Sys2Proof/Machine/HostIf.lean ====
section
/-! DEFINITION. Chapter 4, the host interface: doorbells (R131 to R135, R168), FRAME_RX (R146, R161, R162), the sample log's rings (R150),
EVENT rings that were full (R163), RING_SET, ATTN_ACK, CANCEL and NOP (R143, R155, R159, R164, R165), RUN and RELINK_DONE (R125, R130), the
PCIe link (R93, R120, R130), and the ledger of fates (17 R599). -/

namespace Sys2Proof.Machine

open Sys2Proof

/-! ### FRAME_RX (04 R146, R161, R162) -/

/-- The posted buffers that `n` bytes fill, in order, each with the bytes it takes; `none` where too few are posted. -/
def rxFill : List RxBuf → List Byte → Option (List (RxBuf × List Byte))
  | [], _ => none
  | b :: t, l =>
    if l.length ≤ b.len then some [(b, l)]
    else (rxFill t (l.drop b.len)).map (fun r => (b, l.take b.len) :: r)

/-- 04 R161: the buffers of the frame at the head of a ring's delivery queue, where it has room. -/
def State.rxRoom (s : State) (r : Nat) : Option (Nat × Frame × List (RxBuf × List Byte)) :=
  match (s.ring r).rxQueue with
  | id :: _ =>
    match s.frame id with
    | some f =>
      match rxFill (s.ring r).posted (s.txEdit 272 f) with
      | some bs => if s.run && s.groomUp && !s.relink && decide (bs.length ≤ s.cqRoom r) then some (id, f, bs) else none
      | none => none
    | none => none
  | [] => none

/-- 06 R228: a tag that port 272's TX_TAG removes, as TAG_REMOVED and its control word. -/
def State.rxTag (s : State) (f : Frame) : Nat :=
  if s.get (F.MAC_TAG_TX_TAG 272) = 1 ∧ isTpid (s.sTpid 272) (beAt f.data 12 2) then 2 ^ 30 + beAt f.data 14 2 * 2 ^ 32 else 0

/-- The completions of one frame's buffers, MORE in all but the last. A write that fails sets HIF_ERR.DMA_WRITE and is reported as
DMA_ERROR (R127, R140). -/
def State.rxWrite (r : Nat) (bad : Bool) (f : Frame) (q1 : Nat) : List (RxBuf × List Byte) → State → State
  | [], s => s
  | (b, l) :: t, s =>
    let s := if bad then s.hifErr 3 r b.addr else { s with rxData := Tbl.ins b.addr l s.rxData }
    let s := s.complete r
      { status := 0, sqIndex := b.index, result := if bad then rDmaError else rOk, cflags := cflagsOf false (t != []) false f.tinDeg, tag := b.tag,
        time := BitVec.ofNat 64 (ct f.tin), q1 := BitVec.ofNat 64 (l.length + q1),
        q2 := BitVec.ofNat 64 ((f.mirror.map (·.1)).getD 0) }
    State.rxWrite r bad f q1 t s

/-- The frame at the head of a ring is written whole, and its copy ends DELIVERED (where a write fails, too: log entry 78). -/
def State.rxDeliver (r : Nat) (bad : Bool) (id : Nat) (f : Frame) (bs : List (RxBuf × List Byte)) (s : State) : State :=
  let q1 := f.port * 2 ^ 16 + f.tc * 2 ^ 25 + b2n f.mirror.isSome * 2 ^ 28 + b2n ((f.mirror.map (·.2)).getD false) * 2 ^ 29 +
    s.rxTag f + f.matchId % 65536 * 2 ^ 48
  let n := (bs.foldl (fun n b => n + b.2.length) 0) + 4
  let s := State.rxWrite r bad f q1 bs s
  let s := s.modRing r (fun q => { q with posted := q.posted.drop bs.length })
  (((s.traffic 272 2 1).traffic 272 3 n).rxPop r id).dropFrame id |>.fate f.port 0x00

/-- FRAME_RX_DELIVERY: the frame at the head of a ring's delivery queue finds room and is written (04 R161). While the ring drains, room that no
doorbell gave is none. -/
def execFrameRxDelivery (w : HostWr) (s : State) : Host.Outcome State Fault Refusal :=
  let r := w.ring
  match s.rxRoom r with
  | some (id, f, bs) => if (s.ring r).draining then .next s else .next ((s.rxDeliver r w.bad id f bs).updHeld)
  | none => .next s

/-- RX_WAIT_EXPIRY: the frame at the head of a ring has waited RX_WAIT_US without room, or the ring is draining: it ends HOST_RING_FULL
(04 R161, R162). -/
def execRxWaitExpiry (r : Nat) (s : State) : Host.Outcome State Fault Refusal :=
  match (s.ring r).rxQueue with
  | [] => .next s
  | id :: _ =>
    if (s.ring r).draining ∨ ((s.rxRoom r).isNone ∧ s.ran (.rxWait r) (s.get (F.HIF_RING_CFG_RX_WAIT_US r) * us)) then
      .next ((((s.modRing r (fun q => { q with draining := true })).ringFull r).endFrame id 0x50).updHeld)
    else .next s

/-- 04 R161: a doorbell that posts a buffer or frees a slot ends draining where the queue is empty, or where it gives room to the frame at the
head, which had none (`had`). -/
def State.undrain (r : Nat) (had : Bool) (s : State) : State :=
  let q := s.ring r
  if q.draining && (q.rxQueue == [] || (!had && (s.rxRoom r).isSome)) then s.modRing r (fun q => { q with draining := false }) else s

/-- RX_BUFFER's and LOG_BUFFER's refusal: nothing reads the block, and neither takes AT. -/
def bufRefusal (lo hi unit align : Nat) (d : Submission) : Nat :=
  let n := d.P0 0 16
  if d.badFlags clsFrameRx || d.p0.toNat != n || d.p2 != 0 || d.at? || n < lo || hi < n || n % unit != 0 ||
      d.p1.toNat % align != 0 then rBadParam else rOk

/-- A buffer's submission taken: it is posted, or refused once a completion can be written. -/
def State.takeBuf (cls op code : Nat) (d : Submission) (s : State) : State :=
  if !s.fetches cls d || (d.fence && (s.ring d.ring).posted != []) || (code != rOk && s.cqRoom d.ring == 0) then s
  else
    let s := s.fetched d
    if code ≠ rOk then
      (s.refusalErr (d.badFlags cls || d.p0.toNat != d.P0 0 16 || d.p2 != 0) code d).completeCmd
        (s.newCmd op d s.nt) code s.nt 0 0
    else (s.modRing d.ring (fun q => { q with posted := q.posted ++
      [{ index := d.index, tag := d.tag, len := d.P0 0 16, addr := d.p1.toNat }] }))

/-- RX_BUFFER: FRAME_RX posts a buffer (04 R146). -/
def State.takeRxBuffer (d : Submission) (s : State) : State :=
  let t := s.takeBuf clsFrameRx 2 (bufRefusal 256 16384 64 64 d) d
  t.when ((s.ring d.ring).posted.length < (t.ring d.ring).posted.length) (State.undrain d.ring (s.rxRoom d.ring).isSome)

/-- RX_BUFFER posts a buffer for frames steered to the ring (04 R146). -/
def execRxBuffer (d : Submission) (s : State) : Host.Outcome State Fault Refusal := .next (s.takeRxBuffer d)

/-! ### LOG rings (04 R150; 16 R589) -/

/-- The enabled LOG rings of a core. -/
def State.logRings (s : State) (c : Nat) : List Nat :=
  (List.range 128).filter (fun r => s.cls r == clsLog && s.get (F.HIF_RING_PARAM_CORE r) == c)

/-- The 1 ms of R150 runs while a posted buffer has entries. -/
def State.logTick (c : Nat) (s : State) : State :=
  if (s.log c).held != [] && (s.logRings c).any (fun r => (s.ring r).posted != []) then s.startOnce (.logFirst c) else s.stop (.logFirst c)

/-- LOG_BUFFER's submission taken. -/
def State.takeLogBuffer (d : Submission) (s : State) : State :=
  (s.takeBuf clsLog 3 (bufRefusal 4096 65024 32 1 d) d).when (s.fetches clsLog d) (State.logTick (s.get (F.HIF_RING_PARAM_CORE d.ring)))

/-- LOG_BUFFER posts a buffer for a core's sample log (04 R150). -/
def execLogBuffer (d : Submission) (s : State) : Host.Outcome State Fault Refusal := .next (s.takeLogBuffer d)

/-- LOG_COMPLETION: a LOG buffer is full, or 1 ms has passed since its first entry (04 R150). A write that fails (`bad`) sets HIF_ERR.DMA_WRITE and
is reported as DMA_ERROR, its entries gone (R127, R140; log entry 78). -/
def execLogCompletion (w : HostWr) (s : State) : Host.Outcome State Fault Refusal :=
  let r := w.ring
  let c := s.get (F.HIF_RING_PARAM_CORE r)
  match (s.ring r).posted with
  | [] => .next s
  | b :: t =>
    let l := (s.log c).held
    let k := min l.length (b.len / 32)
    if s.cls r = clsLog ∧ c < 6 ∧ s.run ∧ !s.relink ∧ s.groomUp ∧ s.cqRoom r ≠ 0 ∧ 0 < k ∧ (k = b.len / 32 ∨ s.ran (.logFirst c) ms) then
      let lost := (s.ring r).logLost
      let s := if w.bad then s.hifErr 3 r b.addr else { s with rxData := Tbl.ins b.addr (l.take k).flatten s.rxData }
      let s := s.modRing r (fun q => { q with posted := t, logLost := 0 })
      let s := ((s.modLog c (fun g => { g with held := g.held.drop k })).set (F.GROOM_LOG_STATUS_LOST c) 0).stop (.logFirst c)
      .next ((s.logTick c).complete r
        { status := 0, sqIndex := b.index, result := if w.bad then rDmaError else rOk, cflags := s.cflags false false false, tag := b.tag,
          time := BitVec.ofNat 64 (ct s.nt), q1 := BitVec.ofNat 64 (k + lost * 2 ^ 32), q2 := 0 })
    else .next s

/-- LOG_SAMPLE: core `c` retires at compact time `t` the instruction that caused the Nth watched event; the entry is held, or lost where 4,096
are held (16 R589 to R591). -/
def execLogSample (c t addr lat op : Nat) (user : Bool) (s : State) : Host.Outcome State Fault Refusal :=
  let n := s.get (F.GROOM_LOG_PERIOD_N_MINUS_1 c) + 1
  let l := s.log c
  if 6 ≤ c ∨ !s.on (F.GROOM_LOG_CTRL_ENABLE c) ∨ l.run < n then .next s
  else
    let next := fun l : GroomLog => { l with run := l.run - n, seq := (l.seq + 1) % 2 ^ 32 }
    if 4096 ≤ l.held.length then
      let s := (s.modLog c (fun l => { next l with lost := true })).bump (F.GROOM_LOG_STATUS_LOST c) 1
      .next (s.forEach (s.logRings c) (fun r s => (s.modRing r (fun q => { q with logLost := q.logLost + 1 })).count 5 (16 + r) 3 1))
    else
      let e := sampleEntry t addr lat op (s.get (F.GROOM_LOG_CTRL_EVENT c)) (b2n user + 2 * b2n s.degraded + 4 * b2n l.lost) l.seq c
      .next ((s.modLog c (fun l => { next l with held := l.held ++ [e], lost := false })).logTick c)

/-! ### EVENT rings (04 R163) -/

/-- EVENT_PENDING_FLUSH: room appears on a full EVENT ring, and pending records are written oldest first. -/
def execEventPendingFlush (r : Nat) (s : State) : Host.Outcome State Fault Refusal :=
  if s.relink ∨ !s.groomUp ∨ s.cls r ≠ clsEvent then .next s
  else
    let go := (s.ring r).pending.take (s.cqRoom r)
    let s := s.forEach go (fun e s => (s.attn 1).complete r (s.eventCompletion e))
    .next (s.modRing r (fun q =>
      let l := q.pending.drop go.length
      { q with pending := l, episode := q.episode && l != [] }))

/-! ### Doorbells (04 R131 to R135, R168) -/

/-- A submission tail registered; a value not less than the ring's size is ignored (04 R135). -/
def State.dbSqTail (r v : Nat) (s : State) : State :=
  if 128 ≤ r then s
  else if s.ringSize r ≤ v % 65536 then s.hifErr 1 r (v % 65536)
  else s.modRing r (fun q => { q with sqTail := v % 65536 })

/-- A completion head registered: completions before it are consumed; a value beyond the ring or past DB_CQ_TAIL is ignored (04 R135). One that
frees a slot may end draining (04 R161). -/
def State.dbCqHead (r v : Nat) (s : State) : State :=
  let v := v % 65536
  let n := s.ringSize r
  if 128 ≤ r then s
  else if n ≤ v ∨ s.cqUsed r < (v + n - (s.ring r).cqHead) % n then s.hifErr 1 r v
  else (s.modRing r (fun q => { q with cqHead := v })).when (v != (s.ring r).cqHead) (State.undrain r (s.rxRoom r).isSome)

/-- The wake-up armed at completion `k`, sent at once where `k` was already written on this pass, or is written in this pick cycle (04 R168). -/
def State.dbArm (r k : Nat) (s : State) : State :=
  let k := k % 65536
  if 128 ≤ r then s
  else if k < (s.ring r).cqTail ∨ s.wroteNow.contains (r, k) then
    (s.modRing r (fun q => { q with armed := none })).sendMsix (s.get (F.HIF_RING_CFG_MSIX_VEC r))
  else s.modRing r (fun q => { q with armed := some k })

/-- A ring disarmed (04 R168). -/
def State.dbDisarm (r : Nat) (s : State) : State :=
  if 128 ≤ r then s else s.modRing r (fun q => { q with armed := none })

/-- DB_SQ_TAIL: a new submission tail is registered (04 R134, R135). -/
def execDbSqTail (r v : Nat) (s : State) : Host.Outcome State Fault Refusal := .next (s.dbSqTail r v)

/-- DB_CQ_HEAD: a new completion head is registered (04 R134, R135). -/
def execDbCqHead (r v : Nat) (s : State) : Host.Outcome State Fault Refusal := .next (s.dbCqHead r v)

/-- DB_ARM_ENABLE: a wake-up is registered (04 R134, R168). -/
def execDbArmEnable (r k : Nat) (s : State) : Host.Outcome State Fault Refusal := .next (s.dbArm r k)

/-- DB_ARM_DISABLE: a disarming is registered (04 R134, R168). -/
def execDbArmDisable (r : Nat) (s : State) : Host.Outcome State Fault Refusal := .next (s.dbDisarm r)

/-- 04 R134: a doorbell write arrives; it is registered with the pick cycle, unless a later one to the same register comes first. -/
def State.doorbell (r o : Nat) (v : Word) (s : State) : State :=
  { s with dbNow := s.dbNow.filter (fun x => !(x.1 == r && x.2.1 == o)) ++ [(r, o, v)] }

/-- 04 R134: the doorbell writes of the pick cycle that ends, registered in arrival order. -/
def State.doorbells (s : State) : State :=
  ({ s with dbNow := [] }).forEach s.dbNow (fun x s =>
    match x.2.1 with
    | 0 => s.dbSqTail x.1 x.2.2.toNat
    | 4 => s.dbCqHead x.1 x.2.2.toNat
    | _ => if x.2.2.getLsbD 16 then s.dbArm x.1 x.2.2.toNat else s.dbDisarm x.1)

/-! ### RING_SET (04 R164, R165) -/

/-- A ring starts: both indices 0, PHASE 1. -/
def State.ringStart (r : Nat) (s : State) : State := { s with rings := Tbl.del r s.rings }

/-- The RING_SET DISABLE of ring `r` that has begun. -/
def isDisable (r : Nat) (c : Cmd) : Bool := c.op == 0x60 && c.sub.b 0 == 1 && c.sub.P0 0 7 == r

/-- The posted buffers of a ring that is being disabled complete CANCELLED, as far as its completion ring has room (04 R164; log entry 66). -/
def State.cancelBufs (r : Nat) (s : State) : State :=
  let go := (s.ring r).posted.take (s.cqRoom r)
  let op := if s.cls r = clsLog then 3 else 2
  let s := s.modRing r (fun q => { q with posted := q.posted.drop go.length })
  s.forEach go (fun b s => s.completeCmd
    (s.newCmd op { ring := r, index := b.index, tag := b.tag } s.nt) rCancelled s.nt 0 0)

/-- A ring that is being disabled stops once its begun commands have completed; the RING_SET's own completion comes last (04 R164, R165). -/
def State.ringStops (r : Nat) (s : State) : State :=
  let s := s.when (s.ring r).stopping (State.cancelBufs r)
  if !(s.ring r).stopping ∨ (s.ring r).posted ≠ [] ∨ (s.outstanding r).any (fun c => !isDisable r c) then s
  else
    let s := s.finish (isDisable r) rOk s.nt 0 0
    let s := s.set (F.HIF_RING_CFG_CLASS r) 0
    let ids := (s.ring r).rxQueue
    let s := s.forEach ids (fun id s => (s.ringFull r).endFrame id 0x50)
    let n := (s.ring r).ended
    let was := s.ring r
    ((s.ringStart r).modRing r (fun q => { q with ended := n, notRx := was.notRx })).stop (.rxWait r)

/-- At a pick cycle: rings that are being disabled. -/
def State.allRingStops (s : State) : State :=
  s.forEach ((s.rings.filter (fun x => x.2.stopping)).map (·.1)) State.ringStops

/-- The registers of a ring, in the order of RING_SET's block. -/
def ringRegs (r : Nat) : List Nat :=
  [R.HIF_RING_SQ_LO r, R.HIF_RING_SQ_HI r, R.HIF_RING_CQ_LO r, R.HIF_RING_CQ_HI r, R.HIF_RING_CFG r, R.HIF_RING_PARAM r]

/-- The configuration in a RING_SET block. -/
def blockCfg (d : Submission) : RingCfg :=
  { sq := d.le 8 8, cqb := d.le 16 8, cfg := d.le 24 4, param := d.le 28 4 }

/-- RING_SET CONFIGURE. -/
def specRingConfigure : CmdSpec where
  cls := clsMgmt
  block := true
  p0 := 0x7F
  first := onPick
  check d _ := if d.form 0 32 && d.regsOk 8 (ringRegs 0) && !(blockCfg d).invalid [] then rOk else rBadParam
  act c s :=
    let r := c.sub.P0 0 7
    if (blockCfg c.sub).invalid ((s.enabledRings.filter (fun q => q != r)).map s.ringCfg) then (s, .done rBadParam 0 0)
    else if s.cls r ≠ 0 then (s, .done rState 0 0)
    else ((s.putRegs c.sub 8 (ringRegs r)).ringStart r, .done rOk 0 0)

/-- RING_SET CONFIGURE configures and starts a disabled ring (04 R165). -/
def execRingSetConfigure (d : Submission) (s : State) : Host.Outcome State Fault Refusal := .next (specRingConfigure.take 0x60 true d s)

/-- Whether a ring is the last enabled one of class MGMT or EVENT. -/
def State.lastOf (s : State) (r : Nat) : Bool :=
  (s.cls r == clsMgmt || s.cls r == clsEvent) &&
    !(s.enabledRings.any (fun q => q != r && s.cls q == s.cls r && !(s.ring q).stopping))

/-- RING_SET DISABLE. -/
def specRingDisable : CmdSpec where
  cls := clsMgmt
  block := true
  p0 := 0x7F
  first := onPick
  check d _ := if d.form 1 8 then rOk else rBadParam
  act c s :=
    let r := c.sub.P0 0 7
    if s.cls r = 0 then (s, .done rOk 0 0)
    else if s.lastOf r ∨ (s.ring r).stopping then (s, .done rState 0 0)
    else ((s.cancelWaiting (fun x => x.sub.ring == r && decide (c.boundary < x.boundary)) c.boundary).modRing r (fun q => { q with stopping := true }), .wait)

/-- RING_SET DISABLE stops a ring, cancelling or finishing its accepted commands (04 R164). -/
def execRingSetDisable (d : Submission) (s : State) : Host.Outcome State Fault Refusal :=
  .next ((specRingDisable.take 0x60 true d s).when (s.fetches clsMgmt d) State.allRingStops)

/-! ### ATTN_ACK, CANCEL, NOP (04 R143, R155, R159) -/

/-- ATTN_ACK. -/
def specAttnAck : CmdSpec where
  cls := clsMgmt
  block := false
  p0 := 0x3FFF
  p1 := 0
  p2 := 0
  first := onPick
  check _ _ := rOk
  act c s :=
    let f : Fld := ⟨R.HIF_STATUS, 16, 14⟩
    (s.set f (s.get f - (s.get f &&& c.sub.P0 0 14 &&& (2 ^ 14 - 1 - s.attnNow % 2 ^ 14))), .done rOk 0 0)

/-- ATTN_ACK clears the named attention bits, but for those set in the same pick cycle (04 R143). -/
def execAttnAck (d : Submission) (s : State) : Host.Outcome State Fault Refusal := .next (specAttnAck.take 0x61 true d s)

/-- CANCEL. -/
def specCancel : CmdSpec where
  cls := clsMgmt
  block := false
  takesAt := false
  p0 := 0xFFFF
  p1 := 0
  p2 := 0
  first := onAccept
  check _ _ := rOk
  act c s :=
    let target := fun x : Cmd => x.sub.ring == c.sub.ring && x.sub.index == c.sub.P0 0 16 && x.era == c.era
    match s.accepted.find? target with
    | none => (s, .done rBadParam 0 0)
    | some x => if x.begun ∨ x.boundary ≤ s.nt then (s, .done rState 0 0) else (s.cancelWaiting target c.boundary, .done rOk 0 0)

/-- CANCEL removes an accepted command of its ring whose boundary has not yet come (04 R159). -/
def execCancel (d : Submission) (s : State) : Host.Outcome State Fault Refusal := .next (specCancel.take 0x62 true d s)

/-- NOP. -/
def specNop : CmdSpec where
  cls := clsMgmt
  block := false
  p0 := 0
  p1 := 0
  p2 := 0
  first := onPick
  check _ _ := rOk
  act _ s := (s, .done rOk 0 0)

/-- NOP completes at the next pick cycle and changes nothing (04 R155). -/
def execNop (d : Submission) (s : State) : Host.Outcome State Fault Refusal := .next (specNop.take 0x63 true d s)

/-! ### RUN (04 R125, R126, R632) -/

/-- 04 R125: the cause that refuses a run request, 0 where none does. -/
def State.runRefusal (s : State) : Nat :=
  let has := fun c => s.enabledRings.any (fun r => s.cls r == c)
  if !s.on F.SYS_STATUS_READY then 1 else if !has clsMgmt then 2 else if !has clsEvent then 3 else if s.ringsInvalid then 4 else 0

/-- A run request; RUN is a condition of the keep lands (02 R57). -/
def State.runRequest (s : State) : State :=
  if s.run then s
  else
    let c := s.runRefusal
    if c ≠ 0 then (s.set F.SYS_STATUS_RUN_REFUSED 1).set F.SYS_STATUS_REFUSE_CAUSE c
    else (((s.set F.SYS_CTRL_RUN 1).set F.SYS_STATUS_RUN 1).set F.SYS_STATUS_RUN_REFUSED 0).updKeep

/-- RUN: a write of 1 to SYS_CTRL.RUN locks the set-up registers, or is refused (04 R125). -/
def execRun (s : State) : Host.Outcome State Fault Refusal := .next s.runRequest

/-! ### The link and RELINK (04 R120, R130; 03 R93) -/

/-- 04 R130: the link is lost while RUN is 1: the rings stop, and completions not yet written are lost. -/
def State.linkDown (s : State) : State :=
  let s := (s.set F.HIF_STATUS_WIDTH 0).set F.HIF_STATUS_SPEED 0
  if s.run && !s.relink then
    let s := s.set F.SYS_STATUS_RELINK 1
    ({ s with cqHeld := [], era := s.era + 1 }).forEach s.cqHeld (fun x => State.complete x.1 x.2)
  else s

/-- PCIE_LINK_DOWN: PERST_N asserts, or the link goes down (04 R130). -/
def execPcieLinkDown (perst : Bool) (s : State) : Host.Outcome State Fault Refusal :=
  .next ((if perst then { s with perstN := false } else s).linkDown)

/-- PERST_N_RISE: PERST_N rises; link training begins once order 6 is released (03 R93). -/
def execPerstNRise (s : State) : Host.Outcome State Fault Refusal := .next { s with perstN := true }

/-- PCIE_LINK_TRAINED: the link has trained at a width and speed within those that the strap selects (04 R120; 03 R93, R95). -/
def execPcieLinkTrained (width speed : Nat) (s : State) : Host.Outcome State Fault Refusal :=
  let top := if s.on F.RST_STRAP_WIDTH4 then 4 else 8
  if s.perstN ∧ s.supply = .on ∧ !s.heldDomain 5 ∧ (width = 1 ∨ width = 2 ∨ width = 4 ∨ width = 8) ∧ width ≤ top ∧ 1 ≤ speed ∧ speed ≤ 5 then
    .next ((s.set F.HIF_STATUS_WIDTH width).set F.HIF_STATUS_SPEED speed)
  else .next s

/-- PCIE_CONFIG_REQUEST: a configuration request is answered with Request Retry Status until the image is loaded (03 R93); a boot that waits for
the host serves it (log entry 63). -/
def execPcieConfigRequest (s : State) : Host.Outcome State Fault Refusal :=
  .next { s with cfgRetry := !(decide (8 ≤ s.get F.RST_BOOT_STEP) || s.get F.RST_BOOT_STATE == 2) }

/-- 04 R130: a ring as RELINK ends: its indices at 0, PHASE 1, no buffer posted, disarmed (log entry 74). -/
def RingSt.resumed (q : RingSt) : RingSt :=
  { rxQueue := q.rxQueue, draining := q.draining, pending := q.pending, episode := q.episode, ended := q.ended, notRx := q.notRx,
    logLost := q.logLost, stopping := q.stopping }

/-- 04 R130: RELINK ends; every ring's indices restart at 0 with PHASE 1, the completions of the buffers posted before are lost, and the
EVENT completions of refused RELINK_DONE writes are written. -/
def State.relinkEnd (s : State) : State :=
  let s := s.set F.SYS_STATUS_RELINK 0
  let s := s.forEach s.rings (fun x s => s.when (x.2.posted != []) (State.count 5 (16 + x.1) 0 x.2.posted.length))
  let es := s.relinkLog
  let s : State := { s with rings := s.rings.map (fun x => (x.1, x.2.resumed)), relinkLog := [] }
  s.forEach es State.eventAll

/-- A write of 1 to RELINK_DONE: where the rings are invalid, RING_ERROR, and an EVENT completion for later. -/
def State.relinkDone (s : State) : State :=
  if !s.relink then s
  else if s.ringsInvalid then
    let e : EventRec := { code := 0x0413, src := 0xFFFF, detail := (s.rd R.SYS_STATUS).toNat, time := s.nt, count := 1 }
    (({ s with relinkLog := s.relinkLog ++ [e] } : State).attn (2 ^ 13)).wakeTasks 0x0413
  else s.relinkEnd

/-- RELINK_DONE checks the rings and resumes them at index 0, or raises RING_ERROR (04 R130). -/
def execRelinkDone (s : State) : Host.Outcome State Fault Refusal := .next s.relinkDone

/-! ### The ledger of fates (17 R599) -/

/-- FATE_LEDGER_RECORD: a decided fate reaches its ingress port's ledger. -/
def execFateLedgerRecord (s : State) : Host.Outcome State Fault Refusal :=
  match s.fateQ with
  | [] => .next s
  | (p, code) :: t => .next (({ s with fateQ := t }).count 0 p (3 + fateIndex code) 1)

end Sys2Proof.Machine
end

