-- ==== Sys2Proof/Machine/Ptp.lean ====
section
/-! DEFINITION. Chapter 13, PTP as master, slave and transparent clock (R510 to R515, R522), and chapter 11's ESMC (R442, R443, R445).
Message layouts are those of IEEE 1588-2019 and ITU-T G.8264, which the spec names (log entries 51, 54). -/

namespace Sys2Proof.Machine

open Sys2Proof

/-! ### PTP messages -/

/-- A port's portNumber in its PTP identity, which the spec does not give: a free value (log entry 3). -/
def ptpPortNumber (p : Nat) : Nat := (Config.freeValue 510 p).toNat % 65536

/-- A port's PTP identity. -/
def State.ptpId (s : State) (p : Nat) : List Byte := beBytes 8 s.clockId ++ beBytes 2 (ptpPortNumber p)

/-- A port's PTP state is `st` (13 R494). -/
def State.ptpIs (s : State) (p st : Nat) : Bool := decide (p < 272) && s.ptpActive p && s.get (F.PTP_PORT_STATUS_STATE p) == st

/-- An interval of PTP_PORT_INTERVALS, a signed logarithm held within its range, in units (13 R515). -/
def interval (lo hi : Int) (v : Nat) : Nat :=
  match clampI lo hi (toInt 8 v) with
  | .ofNat n => sec * 2 ^ n
  | .negSucc n => sec / 2 ^ (n + 1)

/-- A message: its type, flags, correction, sender, sequenceId and logMessageInterval, and its body. -/
def ptpMsg (ty dom flags : Nat) (corr : Int) (src : List Byte) (seq log : Nat) (body : List Byte) : List Byte :=
  [BitVec.ofNat 8 ty, 0x12#8] ++ beBytes 2 (34 + body.length) ++ beBytes 1 dom ++ [0#8] ++ beBytes 2 flags ++
    beBytes 8 (satInt 64 corr) ++ [0#8, 0#8, 0#8, 0#8] ++ src ++ beBytes 2 seq ++
    beBytes 1 (match ty with | 0 => 0 | 1 => 1 | 8 => 2 | 9 => 3 | _ => 5) ++ beBytes 1 log ++ body

/-- The ten bytes of a PTP timestamp. -/
def ptpStamp (t : Nat) : List Byte := beBytes 6 (t / sec) ++ beBytes 4 (t % sec / ns)

/-- The instant of a PTP timestamp at offset `i`. -/
def stampAt (l : List Byte) (i : Nat) : Int := beAt l i 6 * sec + beAt l (i + 6) 4 * ns

/-- A message in its port's transport (13 R510, R524). The module's IP addresses the spec does not give: free values (log entry 3). -/
def State.ptpFrame (s : State) (p : Nat) (event : Bool) (m : List Byte) : List Byte :=
  let udp := if event then 319 else 320
  let src := s.coreSrc p
  let n := m.length
  match s.get (F.PTP_PORT_CFG_TRANSPORT p) with
  | 1 =>
    let hd := fun (ck : Nat) => [0x45#8, 0#8] ++ beBytes 2 (28 + n) ++ [0#8, 0#8, 0#8, 0#8, 1#8, 17#8] ++ beBytes 2 ck ++
      beBytes 4 (Config.freeValue 511 p).toNat ++ beBytes 4 0xE0000181
    beBytes 6 0x01005E000181 ++ src ++ beBytes 2 0x0800 ++ hd (65535 - onesSum (hd 0) 0 20) ++
      beBytes 2 udp ++ beBytes 2 udp ++ beBytes 2 (8 + n) ++ [0#8, 0#8] ++ m
  | 2 =>
    let me := beBytes 8 (Config.freeValue 512 p).toNat ++ beBytes 8 (Config.freeValue 513 p).toNat
    let dst := beBytes 8 0xFF0E000000000000 ++ beBytes 8 0x181
    let u := fun (ck : Nat) => beBytes 2 udp ++ beBytes 2 udp ++ beBytes 2 (8 + n) ++ beBytes 2 ck ++ m
    let ps := me ++ dst ++ beBytes 4 (8 + n) ++ beBytes 4 17 ++ u 0
    beBytes 6 0x333300000181 ++ src ++ beBytes 2 0x86DD ++ [0x60#8, 0#8, 0#8, 0#8] ++ beBytes 2 (8 + n) ++ [17#8, 1#8] ++ me ++
      dst ++ u (65535 - onesSum ps 0 ps.length)
  | _ => beBytes 6 (if s.on (F.PTP_PORT_CFG_MCAST_NF p) then 0x0180C200000E else 0x011B19000000) ++ src ++ beBytes 2 0x88F7 ++ m

/-- The protocol core sends a PTP message on a port. -/
def State.ptpSend (p : Nat) (event : Bool) (m : List Byte) (ts : Option Nat) (s : State) : State :=
  (s.coreSend p (s.ptpFrame p event m) ts).count 6 p 5 1

/-- PTP_CLOCK_CFG.DOMAIN. -/
def State.domain (s : State) : Nat := s.get F.PTP_CLOCK_CFG_DOMAIN

/-- TS_ID of a frame of the protocol core: its port, its kind (0 Sync, 1 Delay_Req) and two bits of its sequenceId. -/
def coreTs (p kind seq : Nat) : Nat := p + 512 * kind + 1024 * (seq % 4)

/-- The oldest bobbin entry of a port and kind in the bobbin of port 274. -/
def State.coreEntry (s : State) (p kind : Nat) : Option BobbinEntry :=
  (s.bobbins.getD 274 []).find? (fun e => e.tsId % 1024 == p + 512 * kind)

/-- The protocol core drains an entry of its bobbin (06 R245). -/
def State.coreDrain (e : BobbinEntry) (s : State) : State :=
  { s with bobbins := Tbl.put [] 274 ((s.bobbins.getD 274 []).erase e) s.bobbins }

/-! ### As master (13 R513) -/

/-- 13 R489: the flags of the module's Announce: UTC, ptpTimescale, timeTraceable. FREQ_TRACEABLE is a free value (log entry 3). -/
def State.announceFlags (s : State) (fr : Nat) : Nat :=
  s.get F.TIME_UTC_LEAP61 + 2 * s.get F.TIME_UTC_LEAP59 + 4 * s.get F.TIME_UTC_UTC_VALID + 8 + 16 * b2n (s.quality == 0) + 32 * (fr % 2)

/-- The grandmaster that the module announces: its PTP upstream's, or itself, with priority1 and priority2 (log entry 51). -/
def State.grandmaster (s : State) : Nat × Nat × Nat :=
  let own := (s.clockId, 128, s.get F.PTP_CLOCK_CFG_PRIORITY2)
  if s.passOn then
    match s.upPtp with
    | some f => (f.gm, f.prio1, f.prio2)
    | none => own
  else own

/-- PTP_ANNOUNCE_SEND: as master the protocol core sends an Announce through port 274, once per interval (13 R489, R513, R515). -/
def execPtpAnnounceSend (p : Nat) (s : State) : Host.Outcome State Fault Refusal :=
  let every := interval (-3) 3 (s.get (F.PTP_PORT_INTERVALS_LOG_ANNOUNCE p))
  if s.ptpIs p 6 && s.coreReady false && s.slotDue (evAnnounce p) every then
    let s := s.slotMade (evAnnounce p) every
    let q := (s.ptpPort p).annSeq
    let (c, a, v) := s.clockQual
    let (gm, p1, p2) := s.grandmaster
    let (fr, s) := s.free 475
    let body := ptpStamp 0 ++ beBytes 2 (s.get F.TIME_UTC_UTC_OFFSET) ++ [0#8] ++ beBytes 1 p1 ++ beBytes 1 c ++ beBytes 1 a ++
      beBytes 2 v ++ beBytes 1 p2 ++ beBytes 8 gm ++ beBytes 2 s.stepsRemoved ++ beBytes 1 s.timeSource
    let m := ptpMsg 11 s.domain (s.announceFlags fr) 0 (s.ptpId p) q (s.get (F.PTP_PORT_INTERVALS_LOG_ANNOUNCE p)) body
    .next ((s.modPtp p (fun x => { x with annSeq := (q + 1) % 65536 })).ptpSend p false m none)
  else .next s

/-- PTP_SYNC_SEND: as master the protocol core sends a Sync through port 274, with TS_REQ where the port is two-step, once per
interval (13 R513, R515). -/
def execPtpSyncSend (p : Nat) (s : State) : Host.Outcome State Fault Refusal :=
  let two := s.on (F.PTP_PORT_CFG_TWO_STEP p)
  let every := interval (-7) 1 (s.get (F.PTP_PORT_INTERVALS_LOG_SYNC p))
  if s.ptpIs p 6 && s.coreReady two && s.slotDue (evSync p) every then
    let s := s.slotMade (evSync p) every
    let q := (s.ptpPort p).syncSeq
    let m := ptpMsg 0 s.domain (512 * b2n two) 0 (s.ptpId p) q (s.get (F.PTP_PORT_INTERVALS_LOG_SYNC p)) (ptpStamp s.nt)
    .next ((s.modPtp p (fun x => { x with syncSeq := (q + 1) % 65536 })).ptpSend p true m (if two then some (coreTs p 0 q) else none))
  else .next s

/-- PTP_FOLLOW_UP_SEND: a two-step Sync's transmit timestamp, from the bobbin of port 274, leaves in a Follow_Up (13 R513). -/
def execPtpFollowUpSend (p : Nat) (s : State) : Host.Outcome State Fault Refusal :=
  match s.coreEntry p 0 with
  | none => .next s
  | some e =>
    if !s.coreReady false then .next s
    else
      let s := s.coreDrain e
      if e.notSent.isSome || !s.ptpIs p 6 then .next s
      else
        let last := ((s.ptpPort p).syncSeq + 65535) % 65536
        let q := (last + 65536 - (last + 4 - e.tsId / 1024) % 4) % 65536
        let t := (s.ofCt e.time).toNat
        let m := ptpMsg 8 s.domain 0 (t % ns : Nat) (s.ptpId p) q (s.get (F.PTP_PORT_INTERVALS_LOG_SYNC p)) (ptpStamp t)
        .next (s.ptpSend p false m none)

/-! ### Received messages (13 R511, R512) -/

/-- A PTP message received on a port: its receive time and its bytes from the header on; the MAC has taken its frame, PTP_RX counted. -/
def State.ptpTaken (p : Nat) (l : List Byte) (s : State) : Option (Nat × List Byte) × State :=
  match s.pduAt 2 p l, ptpAt (s.sTpid p) l, ptpOn 320 (s.sTpid p) l with
  | some t, some (i, _), _ => (some (t, (l.take (l.length - 4)).drop i), (s.pduTaken p l).count 6 p 4 1)
  | some t, none, some (i, _) => (some (t, (l.take (l.length - 4)).drop i), (s.pduTaken p l).count 6 p 4 1)
  | _, _, _ => (none, s.pduTaken p l)

/-- A message of type `ty` received on a port: what follows from it while a groom is in service. -/
def State.ptpGet (ty p : Nat) (l : List Byte) (f : Nat → List Byte → State → State) (s : State) : State :=
  match s.ptpTaken p l with
  | (some (t, m), s) => if byteAt m 0 % 16 = ty ∧ s.groomUp then f t m s else s
  | (none, s) => s

/-- correctionField of a message. -/
def ptpCorr (m : List Byte) : Int := toInt 64 (beAt m 8 8)

/-- sourcePortIdentity and sequenceId of a message. -/
def ptpFrom (m : List Byte) : List Byte := (m.drop 20).take 10
def ptpSeq (m : List Byte) : Nat := beAt m 30 2

/-- PTP_DELAY_REQ_RECEIVE: as master the protocol core answers a Delay_Req with its receive timestamp and the port's delayAsymmetry
(13 R513). -/
def execPtpDelayReqReceive (p : Nat) (l : List Byte) (s : State) : Host.Outcome State Fault Refusal :=
  .next (s.ptpGet 1 p l (fun t m s =>
    if s.ptpIs p 6 && s.coreReady false then
      let corr := ptpCorr m - (t % ns : Nat) + s.getI (F.PTP_PORT_ASYM_ASYM p)
      s.ptpSend p false (ptpMsg 9 s.domain 0 corr (s.ptpId p) (ptpSeq m) (s.get (F.PTP_PORT_INTERVALS_LOG_DELAY_REQ p))
        (ptpStamp t ++ ptpFrom m)) none
    else s))

/-! ### As slave (13 R514) -/

/-- 13 R514: how long a Delay_Resp is awaited: the interval, at most 1 s. -/
def State.respWait (s : State) (p : Nat) : Nat := min sec (interval (-7) 5 (s.get (F.PTP_PORT_INTERVALS_LOG_DELAY_REQ p)))

/-- PTP_DELAY_REQ_SEND: as slave the port sends a Delay_Req at its interval (13 R514). -/
def execPtpDelayReqSend (p : Nat) (s : State) : Host.Outcome State Fault Refusal :=
  let every := interval (-7) 5 (s.get (F.PTP_PORT_INTERVALS_LOG_DELAY_REQ p))
  if s.ptpIs p 9 && s.coreReady true && s.slotDue (evDelayReq p) every then
    let s := s.slotMade (evDelayReq p) every
    let q := (s.ptpPort p).reqSeq
    let m := ptpMsg 1 s.domain 0 0 (s.ptpId p) q 0x7F (ptpStamp 0)
    let s := (s.modPtp p (fun x => { x with reqSeq := (q + 1) % 65536, req := some q })).start (.delayResp p)
    .next (s.ptpSend p true m (some (coreTs p 1 q)))
  else .next s

/-- PTP_DELAY_RESP_RECEIVE: the awaited Delay_Resp gives the master's arrival time; with the bobbin's departure it completes a delay
measurement (13 R514). -/
def execPtpDelayRespReceive (p : Nat) (l : List Byte) (s : State) : Host.Outcome State Fault Refusal :=
  .next (s.ptpGet 9 p l (fun _ m s =>
    match (s.ptpPort p).req, s.coreEntry p 1 with
    | some q, some e =>
      if ptpSeq m = q ∧ (m.drop 44).take 10 = s.ptpId p ∧ e.notSent = none ∧ e.tsId / 1024 = q % 4 then
        let s := (s.coreDrain e).stop (.delayResp p)
        s.modPtp p (fun x => { x with req := none, back := some (s.ofCt e.time, stampAt m 34 - ptpCorr m) })
      else s
    | _, _ => s))

/-- PTP_DELAY_RESP_TIMEOUT: the wait for a Delay_Resp ends (13 R514). -/
def execPtpDelayRespTimeout (p : Nat) (s : State) : Host.Outcome State Fault Refusal :=
  if p < 272 ∧ s.ran (.delayResp p) (s.respWait p) then
    let s := match s.coreEntry p 1 with
      | some e => s.coreDrain e
      | none => s
    let s := (s.stop (.delayResp p)).modPtp p (fun x => { x with req := none })
    .next ((s.bump (F.PTP_PORT_STATUS_RESP_MISSED p) 1).raise .time 7 p)
  else .next s

/-- 13 R514: a Sync that left the master at `t3` and arrived at `t4` combined with the last delay measurement, into the servo. -/
def State.ptpCombine (p : Nat) (t3 t4 : Int) (s : State) : State :=
  match (s.ptpPort p).back with
  | some (t1, t2) =>
    let (delay, off) := exchange t1 t2 t3 t4 (s.getI (F.PTP_PORT_ASYM_ASYM p))
    s.modPtp p (fun x => { x with servo := x.servo.take (s.get F.TIME_CTRL_DELAY_GATE) delay off })
  | none => s

/-- A message is of the master that the slave port follows. -/
def State.fromMaster (s : State) (p : Nat) (m : List Byte) : Bool :=
  s.ptpIs p 9 &&
    (match (s.ptpPort p).master with
     | some f => f.sender == ptpFrom m
     | none => false)

/-- PTP_SYNC_RECEIVE: a one-step Sync is combined with the delay measurement; a two-step one waits for its Follow_Up (13 R514). -/
def execPtpSyncReceive (p : Nat) (l : List Byte) (s : State) : Host.Outcome State Fault Refusal :=
  .next (s.ptpGet 0 p l (fun t m s =>
    if !s.fromMaster p m then s
    else if bit (byteAt m 6) 1 then s.modPtp p (fun x => { x with sync := some (ptpSeq m, t, ptpCorr m) })
    else s.ptpCombine p (stampAt m 34 + ptpCorr m) t))

/-- PTP_FOLLOW_UP_RECEIVE: a Follow_Up supplies its Sync's origin timestamp (13 R514). -/
def execPtpFollowUpReceive (p : Nat) (l : List Byte) (s : State) : Host.Outcome State Fault Refusal :=
  .next (s.ptpGet 8 p l (fun _ m s =>
    match (s.ptpPort p).sync with
    | some (q, t, c) =>
      if s.fromMaster p m && ptpSeq m == q then
        (s.modPtp p (fun x => { x with sync := none })).ptpCombine p (stampAt m 34 + ptpCorr m + c) t
      else s
    | none => s))

/-! ### Announce (13 R493; log entry 51) -/

/-- The dataset of an Announce. -/
def foreignOf (m : List Byte) : Foreign :=
  { sender := ptpFrom m, cls := byteAt m 48, acc := byteAt m 49, var := beAt m 50 2, prio1 := byteAt m 47, prio2 := byteAt m 52,
    gm := beAt m 53 8, steps := beAt m 61 2, src := byteAt m 63, utc := beAt m 44 2, flags := beAt m 6 2 }

/-- A foreign master put into a port's list, best first. -/
def State.insForeign (s : State) (p : Nat) (f : Foreign) : List Foreign → List Foreign
  | [] => [f]
  | x :: t => if s.foreignKey p f < s.foreignKey p x then f :: x :: t else x :: s.insForeign p f t

/-- PTP_ANNOUNCE_RECEIVE: a received Announce qualifies a foreign master candidate; the upstream's gives UTC (13 R486, R493). -/
def execPtpAnnounceReceive (p : Nat) (l : List Byte) (s : State) : Host.Outcome State Fault Refusal :=
  .next (s.ptpGet 11 p l (fun _ m s =>
    let f := foreignOf m
    if f.clockId = s.clockId ∨ bit f.flags 8 ∨ 255 ≤ f.steps then s
    else
      let old := (s.ptpPort p).foreign
      let was := (s.ptpPort p).master
      let n := match old.find? (fun x => x.sender == f.sender) with
        | some x => x.count + 1
        | none => 1
      let rest := old.filter (fun x => x.sender != f.sender)
      let s := s.modPtp p (fun x => { x with foreign := (s.insForeign p { f with count := min n 2 } rest).take 5 })
      let mine := match was with
        | some x => x.sender == f.sender
        | none => true
      let s := s.when mine (State.start (.announce p))
      s.when (s.upstream == some (2, p) && mine && was.isSome) (State.takeUtc f.utc (bit f.flags 0) (bit f.flags 1) (bit f.flags 2))))

/-- PTP_ANNOUNCE_TIMEOUT: no Announce of the master for ANNOUNCE_TIMEOUT intervals; it is dropped (13 R493). -/
def execPtpAnnounceTimeout (p : Nat) (s : State) : Host.Outcome State Fault Refusal :=
  let n := max 2 (min 10 (s.get (F.PTP_PORT_INTERVALS_ANNOUNCE_TIMEOUT p)))
  if s.groomUp ∧ s.ran (.announce p) (n * interval (-3) 3 (s.get (F.PTP_PORT_INTERVALS_LOG_ANNOUNCE p))) then
    let keep := fun (x : PtpPort) => match x.master with
      | some f => x.foreign.erase f
      | none => []
    .next ((s.stop (.announce p)).modPtp p (fun x => { x with foreign := keep x, sync := none, back := none }))
  else .next s

/-- PTP_IGNORED_RECEIVE: a message of a kind that the module does not implement is ignored and counted (13 R511). -/
def execPtpIgnoredReceive (p : Nat) (l : List Byte) (s : State) : Host.Outcome State Fault Refusal :=
  match s.ptpTaken p l with
  | (some (_, m), s) => .next (if [2, 3, 10, 12, 13].contains (byteAt m 0 % 16) then s.count 6 p 6 1 else s)
  | (none, s) => .next s

/-- FOLLOW_UP_MATCH_TIMEOUT: as a transparent clock, a Follow_Up with no match within 10 ms has gone on unchanged; it is counted
(13 R513). -/
def execFollowUpMatchTimeout (p : Nat) (s : State) : Host.Outcome State Fault Refusal :=
  match s.tcMiss.find? (fun x => x.1 == p && decide (x.2 + 10 * ms ≤ s.elapsed)) with
  | some x => .next ({ s with tcMiss := s.tcMiss.erase x }.count 6 p 7 1)
  | none => .next s

/-! ### PTP_SET (13 R515, R522) -/

/-- 13 R515: PTP_PORT_INTERVALS within its ranges. -/
def intervalsOk (v : Nat) : Bool :=
  let f := fun i => toInt 8 (bits v i 8)
  decide (-7 ≤ f 0 ∧ f 0 ≤ 1) && decide (-7 ≤ f 8 ∧ f 8 ≤ 5) && decide (-3 ≤ f 16 ∧ f 16 ≤ 3) &&
    decide (2 ≤ bits v 24 8 ∧ bits v 24 8 ≤ 10)

/-- 13 R515: a port's messages in 32 s. -/
def rate32 (v : Nat) : Nat :=
  (32 * sec) / interval (-7) 1 (bits v 0 8) + (32 * sec) / interval (-7) 5 (bits v 8 8)

/-- 13 R515: the messages in 32 s of the enabled ports but `p`. -/
def State.otherRates (s : State) (p : Nat) : Nat :=
  portList.foldl (fun n q => if q ≠ p ∧ s.on (F.PTP_PORT_CFG_ENABLE q) then n + rate32 (s.rd (R.PTP_PORT_INTERVALS q)).toNat else n) 0

/-- The registers of PTP_SET PORT. -/
def ptpRegs (p : Nat) : List Nat := [R.PTP_PORT_CFG p, R.PTP_PORT_INTERVALS p, R.PTP_PORT_ASYM p]

/-- PTP_SET PORT. -/
def specPtpPort : CmdSpec where
  cls := clsMgmt
  block := true
  p0 := 0x1FF
  first := onPick
  check d s :=
    if !d.form 0 20 || !d.regsOk 8 (ptpRegs 0) || !intervalsOk (d.le 12 4) || d.P0 0 9 == 0x1FF then rBadParam
    else s.portUpTo 271 (d.P0 0 9)
  act c s :=
    let d := c.sub
    let p := d.P0 0 9
    if bit (d.le 8 4) 0 ∧ 40000 * 32 < s.otherRates p + rate32 (d.le 12 4) then (s, .done rBusy 0 0)
    else ((s.putRegs d 8 (ptpRegs p)).ptpFollow p, .done rOk 0 0)

/-- The registers of PTP_SET CLOCK. -/
def clockRegs : List Nat := [R.PTP_CLOCK_CFG, R.PTP_CLOCK_ID_LO, R.PTP_CLOCK_ID_HI]

/-- PTP_SET CLOCK. -/
def specPtpClock : CmdSpec where
  cls := clsMgmt
  block := true
  p0 := 0x1FF
  first := onPick
  check d _ := if d.form 1 20 && d.regsOk 8 clockRegs && d.P0 0 9 == 0x1FF then rOk else rBadParam
  act c s := ((s.putRegs c.sub 8 clockRegs).forEach portList State.ptpFollow, .done rOk 0 0)

/-- PTP_SET PORT writes a port's PTP configuration, intervals and asymmetry. -/
def execPtpSetPort (d : Submission) (s : State) : Host.Outcome State Fault Refusal := .next (specPtpPort.take 0x56 true d s)

/-- PTP_SET CLOCK writes the PTP clock profile, domain, priority2 and identity. -/
def execPtpSetClock (d : Submission) (s : State) : Host.Outcome State Fault Refusal := .next (specPtpClock.take 0x56 true d s)

/-! ### ESMC (11 R442, R443, R445; log entry 54) -/

/-- The QL of an SSM code (option 1) with the enhanced code `x`, where an enhanced TLV gives one. -/
def qlOf (ssm : Nat) (x : Option Nat) : Nat :=
  let base := match ssm with | 2 => 4 | 4 => 5 | 8 => 6 | 0xB => 8 | _ => 15
  match x with
  | some 0x20 => 2 | some 0x21 => 1 | some 0x22 => 7 | some 0x23 => 3 | some 0xFF => base
  | some _ => 15
  | none => base

/-- The SSM code and the enhanced code of a QL. -/
def ssmOf (q : Nat) : Nat × Nat :=
  match q with
  | 1 => (2, 0x21) | 2 => (2, 0x20) | 3 => (2, 0x23) | 4 => (2, 0xFF) | 5 => (4, 0xFF) | 6 => (8, 0xFF)
  | 7 => (0xB, 0x22) | 8 => (0xB, 0xFF) | _ => (0xF, 0xFF)

/-- The slots of REF0 to REF7 that take the QL of port `p`'s PDUs. -/
def State.esmcSlots (s : State) (p : Nat) : List Nat :=
  (List.range 8).filter (fun r => s.on (F.DPLL_REF_CFG_QL_ESMC r) && s.on (F.DPLL_REF_CFG_ENABLE r) &&
    decide (s.get (F.DPLL_REF_CFG_LANE r) < 272) && s.leadOf (s.get (F.DPLL_REF_CFG_LANE r)) == p)

/-- ESMC_PDU_RECEIVE: a received ESMC PDU is consumed and counted, and its QL taken for the slots on that port; an information PDU
restarts their time-out (11 R442, R443). -/
def execEsmcPduReceive (p : Nat) (l : List Byte) (s : State) : Host.Outcome State Fault Refusal :=
  let e := etherAt (s.sTpid p) l
  if (s.pduAt 2 p l).isSome ∧ isEsmc l e then
    let info := !bit (byteAt l (e + 8)) 3
    let ext := if byteAt l (e + 16) = 2 ∧ beAt l (e + 17) 2 = 20 then some (byteAt l (e + 19)) else none
    let ql := if byteAt l (e + 12) = 1 then qlOf (byteAt l (e + 15) % 16) ext else 15
    let s := (s.pduTaken p l).count 6 p 8 1
    if !s.groomUp then .next s
    else
      .next ((s.forEach (s.esmcSlots p) (fun r s =>
        let s := s.modSlot r (fun m => { m with ql := some ql })
        let s := s.when info (fun s => (s.start (.esmc r)).set (F.DPLL_REF_STATUS_QL_TIMEOUT r) 0)
        s.showSlot r)).updQl)
  else .next (s.pduTaken p l)

/-- 11 R445: the ESMC PDU of a port: QL-DNU towards FREQ_SEL's port, else QL_OUT. The cascade counts and flags of the enhanced TLV are
free values (log entry 3). -/
def State.esmcPdu (p : Nat) (event : Bool) (s : State) : List Byte × State :=
  let f := s.freqSel
  let back := decide (f < 8) && s.leadOf (s.get (F.DPLL_REF_CFG_LANE f)) == p
  let (ssm, x) := ssmOf (if back then 15 else s.get F.DPLL_STATUS_QL_OUT)
  let (c, s) := s.free 445
  let ext := if s.on F.DPLL_ESMC_CFG_ENHANCED then
      [2#8, 0#8, 20#8] ++ beBytes 1 x ++ beBytes 8 s.clockId ++ beBytes 3 c ++ [0#8, 0#8, 0#8, 0#8, 0#8]
    else []
  (beBytes 6 0x0180C2000002 ++ s.coreSrc p ++ beBytes 2 0x8809 ++ [0x0A#8] ++ beBytes 3 0x0019A7 ++ [0#8, 1#8] ++
    [if event then 0x18#8 else 0x10#8] ++ [0#8, 0#8, 0#8] ++ [1#8, 0#8, 4#8] ++ beBytes 1 ssm ++ ext, s)

/-- An ESMC PDU sent on a port whose ESMC bit is set and whose lowest lane has CLK_SYNC. -/
def State.esmcSend (p : Nat) (event : Bool) (s : State) : State :=
  if p < 272 ∧ s.leadOf p = p ∧ s.on ⟨R.DPLL_ESMC_EN (p / 32), p % 32, 1⟩ ∧ s.on (F.LANE_CFG_CLK_SYNC p) ∧ s.groomUp then
    let (l, s) := s.esmcPdu p event
    s.coreSend p l none
  else s

/-- ESMC_INFO_SEND: once per second the protocol core sends an information PDU on each enabled port (11 R445). -/
def execEsmcInfoSend (s : State) : Host.Outcome State Fault Refusal :=
  if s.slotDue evEsmc sec ∧ s.coreReady false then
    .next ((s.slotMade evEsmc sec).forEach portList (fun p => State.esmcSend p false))
  else .next s

/-- ESMC_EVENT_SEND: within 10 ms of a change of QL_OUT the protocol core sends an event PDU on each enabled port, one per
QL_OUT that it has not yet told (11 R445). -/
def execEsmcEventSend (s : State) : Host.Outcome State Fault Refusal :=
  if s.evals.getD evQl 0 ≠ s.get F.DPLL_STATUS_QL_OUT ∧ s.coreReady false then
    .next (({ s with evals := Tbl.put 0 evQl (s.get F.DPLL_STATUS_QL_OUT) s.evals }).forEach portList (fun p => State.esmcSend p true))
  else .next s

end Sys2Proof.Machine
end

