-- ==== Sys2Proof/Machine/Operands.lean ====
section
/-! DEFINITION. Register accesses: what a read returns and latches (00 R6; 04 R122; 07 R306; 10 R397, R412; 11 R449; 12 R482; 13 R484;
14 R545; 16 R586), and what a write does before RUN, by access code and block (00 R6 to R9; 04 R126, R130). -/

namespace Sys2Proof.Machine

open Sys2Proof

/-! ### Reads -/

/-- 03 R118: the window on the FRAM. -/
def inFram (a : Nat) : Bool := decide (0x30000 ≤ a ∧ a < 0x40000)

/-- 04 R122: whether a register occupies address `a` of BAR0. -/
def occupied (a : Nat) : Bool := a % 4 == 0 && (inFram a || (rowOf a).isSome)

/-- 13 R484, R524: the five time registers at an instant; TIME_SEC_HI carries the 16-bit fraction above the seconds' high half (00 R2). -/
def timeWord (nt i : Nat) : Word :=
  BitVec.ofNat 32 (match i with
    | 0 => ct nt
    | 1 => ct nt / 2 ^ 32
    | 2 => nt / sec
    | 3 => nt / sec / 2 ^ 32 % 2 ^ 16 + nt % ns * 2 ^ 16
    | _ => nt % sec / ns)

/-- The number of a time register, TIME_CT_LO to TIME_NS. -/
def timeReg (a : Nat) : Option Nat := if R.TIME_CT_LO ≤ a ∧ a ≤ R.TIME_NS ∧ a % 4 = 0 then some ((a - R.TIME_CT_LO) / 4) else none

/-- 04 R124, 04 R631: SYS_ID with the part's reach and coolant grade, which the part code fixes: free values (log entry 3). -/
def partId (w : Word) : Word :=
  F.SYS_ID_COOLANT_X.put (F.SYS_ID_REACH_L.put w ((Config.freeValue 631 0).toNat % 2)) ((Config.freeValue 631 1).toNat % 2)

/-- 05 R211: RATE of an optical lane reflects OE_CFG. -/
def State.laneCfgRead (s : State) (n : Nat) : Word :=
  let w := s.rd (R.LANE_CFG n)
  if n < 256 then (F.LANE_CFG_RATE n).put w (if s.get (oeMode (n / 8) (n % 8 / 2)) = 0 then 3 else 4) else w

/-- 17 R619: OBS_HEALTH. -/
def State.healthWord (s : State) : Word :=
  let lane := (List.range 272).any (fun n => s.on (F.LANE_CFG_ENABLE n) && (s.lane n == lnFault || s.lane n == lnRetired))
  let oe := (List.range 32).any (fun k => s.on (F.OE_CFG_ENABLE k) && s.oe k != oeReady)
  let hed := (List.range 32).any (fun h => bit (s.rd R.HED_CTRL).toNat h && s.hed h != hdIn)
  BitVec.ofNat 32 (b2n s.degraded + 2 * b2n lane + 4 * b2n oe + 8 * b2n (!s.inStep) + 16 * s.get F.LOOM_STATUS_HAYLOFT_DEGRADED +
    32 * b2n hed + 64 * b2n (s.on F.CAL_STATUS_DEFAULTS || s.on F.CAL_STATUS_FAILED_ANY) + 128 * b2n (!s.on F.MEAS_STATUS_XO_MAIN_OK) +
    256 * b2n (bits (s.rd R.PWR_STATUS).toNat 0 3 != 0))

/-- The value a register shows now: the one it holds, but for those that show live state. -/
def State.live (s : State) (a : Nat) : Word :=
  match timeReg a with
  | some i => timeWord s.nt i
  | none =>
    if a = R.SYS_ID then partId (s.rd a)
    else if a = R.OBS_HEALTH then s.healthWord
    else if a = R.HIF_STATUS then (⟨a, 16, 16⟩ : Fld).put (s.rd a) s.statusWord
    else if inFram a then s.framWord (a - 0x30000)
    else if R.LANE_CFG 0 ≤ a ∧ a < R.LANE_CFG 256 ∧ a % 0x400 = 0 then s.laneCfgRead ((a - R.LANE_CFG 0) / 0x400)
    else s.rd a

/-- The _LO registers whose read latches the _HI register beside them. -/
def latchLos : List Nat :=
  [R.MEAS_XO_CORR_LO, R.DPLL_FREQ_LO, R.DPLL_HO_FREQ_LO, R.DPLL_STEER_LO, R.TOD_RX_SEC_LO, R.GNSS_POS_X_LO, R.GNSS_POS_Y_LO, R.GNSS_POS_Z_LO,
   R.GROOM_OUT_SEQ_LO] ++
  (List.range 4).map R.HED_MALF_CNT_LO ++ (List.range 8).map R.CLKOUT_DIV_LO ++ (List.range 4).map R.PULSE_OFFSET_LO ++
  (List.range 8).map R.TRD_START_LO ++ (List.range 6).map R.GROOM_CYC_LO

/-- Whether a read of `a` latches `a + 4`. -/
def isLatchLo (a : Nat) : Bool := latchLos.contains a || isPerfLo a

/-- The latch of reader `w` (0 the host, 1 the user tasks, which share one latch) at address `a`. -/
def latchKey (w a : Nat) : Nat := w * 2 ^ 32 + a

/-- A latch set. -/
def State.latch (w a : Nat) (v : Word) (s : State) : State := { s with latches := Tbl.ins (latchKey w a) v s.latches }

/-- A latch released. -/
def State.unlatch (w a : Nat) (s : State) : State := { s with latches := Tbl.del (latchKey w a) s.latches }

/-- The latched value, or the live one. -/
def State.latched (s : State) (w a : Nat) : Word := (Tbl.find (latchKey w a) s.latches).getD (s.live a)

/-- 13 R484: the latch over the time registers captures them. -/
def State.timeCapture (w : Nat) (s : State) : State :=
  s.forEach (List.range 5) (fun i => State.latch w (R.TIME_CT_LO + 4 * i) (timeWord s.nt i))

/-- 13 R484: a read of a time register. -/
def State.timeRead (w i : Nat) (s : State) : Word × State :=
  let held := s.latches.has (latchKey w R.TIME_NS)
  let a := R.TIME_CT_LO + 4 * i
  let s := if i = 0 ∨ (i = 2 ∧ !held) then s.timeCapture w else s
  (s.latched w a, if i = 4 then s.forEach (List.range 5) (fun i => State.unlatch w (R.TIME_CT_LO + 4 * i)) else s)

/-- 10 R397: the tap of a MEAS_TAP_LAST address and its word. -/
def tapOf (a : Nat) : Option (Nat × Nat) :=
  if R.MEAS_TAP_LAST 0 ≤ a ∧ a < R.MEAS_TAP_LAST 286 then some ((a - R.MEAS_TAP_LAST 0) / 0x20, (a - R.MEAS_TAP_LAST 0) % 0x20 / 4) else none

/-- 10 R397: word 0 latches words 1 to 7, until word 7 is read. -/
def State.tapRead (w t i : Nat) (s : State) : Word × State :=
  let a := R.MEAS_TAP_LAST t + 4 * i
  if i = 0 then
    (s.rd a, s.forEach (List.range 7) (fun j s' => s'.latch w (a + 4 * (j + 1)) (s.rd (a + 4 * (j + 1)))))
  else
    (s.latched w a, if i = 7 then s.forEach (List.range 7) (fun j => State.unlatch w (R.MEAS_TAP_LAST t + 4 * (j + 1))) else s)

/-- A read of an occupied register other than OBS_PEEK_DATA by reader `w`. -/
def State.regRead (w a : Nat) (s : State) : Word × State :=
  match timeReg a with
  | some i => s.timeRead w i
  | none =>
    match tapOf a with
    | some (t, i) => s.tapRead w t i
    | none =>
      if isLatchLo a then (s.live a, s.latch w (a + 4) (s.live (a + 4)))
      else if isLatchLo (a - 4) then (s.latched w a, s.unlatch w a)
      else (s.live a, s)

/-! ### Writes (00 R6 to R9) -/

/-- The HIF_RING registers, which RELINK reopens (04 R130). -/
def isRingReg (a : Nat) : Bool := decide (R.HIF_RING_SQ_LO 0 ≤ a ∧ a < R.HIF_RING_SQ_LO 128)

/-- Whether writes of an RWS field of `a` act now. -/
def State.rwsOpen (s : State) (a : Nat) : Bool := !s.run || (isRingReg a && s.relink)

/-- 00 R7: the W1C bits of `a` that the module sets in the register cycle of a write: those of `same` set in this pick cycle; for OBS_WRAP, every
one set in this pick cycle (17 R608). -/
def State.justSet (s : State) (a : Nat) (same : Word) : Word := s.setNow.getD a 0 &&& (if a = R.OBS_WRAP then ~~~0#32 else same)

/-- The word that a write of `v` leaves in a register by its access codes, WO and W1S fields apart. -/
def State.written (s : State) (r : RegRow) (a : Nat) (v same : Word) : Word :=
  let m := r.rw ||| (if s.rwsOpen a then r.rws else 0#32)
  ((s.rd a &&& ~~~m) ||| (v &&& m)) &&& ~~~(v &&& r.w1c &&& ~~~(s.justSet a same))

/-- 04 R168, PCIe 5.0: a vector unmasked with its pending bit set sends its message. -/
def State.unmask (k : Nat) (s : State) : State :=
  let p : Fld := ⟨R.MSIX_PBA (k / 32), k % 32, 1⟩
  if s.on p && !(s.rd (R.MSIX_TABLE k 3)).getLsbD 0 then { (s.set p 0) with msixSent := s.msixSent ++ [k] } else s

/-- The index of an address in an array of registers. -/
def idxOf (base stride n a : Nat) : Option Nat := if base ≤ a ∧ a < base + stride * n then some ((a - base) / stride) else none

/-- 05 R211, R213: LANE_CFG, LANE_EQ and LANE_PRBS follow a write as LANE_SET CONFIGURE. -/
def State.laneWrite (a : Nat) (v : Word) (s : State) : State :=
  let n := (a - R.LANE_CFG 0) / 0x400
  let w := fun x : Nat => if x = a then v.toNat else (s.rd x).toNat
  (s.laneConfigure n (w (R.LANE_CFG n)) (w (R.LANE_EQ n)) (w (R.LANE_PRBS n))).updKeep

/-- A write before RUN of LOOM_MIRROR word 0: a session starts to count when it is enabled (08 R337). -/
def State.mirrorWrite (m a : Nat) (v : Word) (s : State) : State :=
  let was := s.on (F.LOOM_MIRROR_ENABLE m)
  let k := (s.mirrors.getD m (0, 0)).2
  let s := s.wr a v
  if s.on (F.LOOM_MIRROR_ENABLE m) && !was then { s with mirrors := Tbl.ins m (0, k) s.mirrors } else s

/-- A write before RUN of a HED_GRAPH word: ignored while the heddle is enabled (07 R307); its reserved bits stay 0 (07 R266). -/
def State.graphWrite (h a : Nat) (v : Word) (s : State) : State :=
  if bit (s.rd R.HED_CTRL).toNat h then s
  else (s.wr a (v &&& graphMask ((a - R.HED_GRAPH h) / 4))).set (F.HED_HEDDLE_GRAPH_ID h) 0

/-- A write before RUN in the TIME block (13 R494, R509, R520). -/
def State.timeBlockWrite (a : Nat) (v : Word) (s : State) : State :=
  match idxOf (R.KPL_PORT_CFG 0) 0x20 272 a with
  | some p =>
    let w := fun x : Nat => if x = a then v.toNat else (s.rd x).toNat
    s.kplConfigure p (w (R.KPL_PORT_CFG p)) (w (R.KPL_ASYM p))
  | none =>
    match idxOf (R.PTP_PORT_CFG 0) 0x10 272 a with
    | some p => (s.wr a v).ptpFollow p
    | none => if clockRegs.contains a then (s.wr a v).forEach portList State.ptpFollow else s.wr a v

/-- A write before RUN in the DPLL block, as REF_SET does it (11 R448). -/
def State.dpllWrite (a : Nat) (v : Word) (s : State) : State :=
  match idxOf (R.DPLL_REF_CFG 0) 0x20 14 a with
  | some r => s.slotConfigure r (State.wr a v)
  | none =>
    let was := s.dpMode
    let s := (s.wr a v).dpModeChange was
    ((s.forEach slotList State.showSlot).updHistory).updQl

/-- A write before RUN in the SYN block (12 R478, R480). -/
def State.synWrite (a : Nat) (v : Word) (s : State) : State :=
  match idxOf (R.TRD_CFG 0) 0x20 8 a with
  | some t => if a = R.TRD_CFG t then s.trdCfgWrite t v else if s.on (F.TRD_CFG_ENABLE t) then s else s.wr a v
  | none => s.outputWrite a v

/-- A write before RUN in the GNSS block. -/
def State.gnssWrite (a : Nat) (v : Word) (s : State) : State :=
  let was := s.gnssMode
  (s.wr a v).gnssFollow was

/-- A write before RUN in the GROOM block (16 R585, R589). -/
def State.groomWrite (a : Nat) (v : Word) (s : State) : State :=
  if isPerfLo a then s.perfLoWrite a v
  else if isPerfLo (a - 4) then s.perfHiWrite a v
  else match idxOf (R.GROOM_PC_CTRL 0) 0x100 6 a with
    | some c => if a = R.GROOM_LOG_CTRL c then s.logCtrlWrite c v else s.wr a v
    | none => s.wr a v

/-- A register of a configuration written with its new word, and what follows from it. -/
def State.applyReg (a : Nat) (v : Word) (s : State) : State :=
  if a < 0x100000 then
    match idxOf (R.MSIX_TABLE 0 0) 0x10 128 a with
    | some k => (s.wr a v).unmask k
    | none => s.wr a v
  else if a < 0x180000 then s.laneWrite a v
  else if a < 0x200000 then
    let k := (a - R.OE_CFG 0) / 0x1000
    if a = R.OE_CFG k then ((s.oeConfigure k v.toNat).oeBoot k).updKeep else s.wr a v
  else if a < 0x400000 then
    let p := (a - R.MAC_CFG 0) / 0x800
    let change := a == R.MAC_CFG p && decide (p < 272) && bits v.toNat 1 2 != s.get (F.MAC_CFG_FC_MODE p)
    let v := if a = R.MAC_VLAN_MEMBER p 127 then v &&& 0x7FFFFFFF#32 else v
    ((s.when change (fun s => (s.clearHolds p).sendRelease p)).wr a v).when (change && s.held p) (State.sendHold p)
  else if a < 0x600000 then
    if a = R.HED_CTRL then s.hedCtrl v
    else match idxOf (R.HED_GRAPH 0) 0x4000 32 a with
      | some h => s.graphWrite h a v
      | none => s.wr a v
  else if a < 0x700000 then
    match idxOf (R.LOOM_MIRROR 0) 8 16 a with
    | some m => s.mirrorWrite m a v
    | none => s.wr a v
  else if a < 0x780000 then s.wr a v
  else if a < 0x800000 then
    match idxOf (R.FRER_STREAM 0) 0x20 4096 a with
    | some h =>
      let old := s.get (F.FRER_STREAM_MODE h)
      let s := s.wr a v
      ((s.frerModes old (s.get (F.FRER_STREAM_MODE h))).setFrer h 0 0 true).stop (.frerReset h)
    | none => s.wr a v
  else if a < 0x880000 then s.timeBlockWrite a v
  else if a < 0x8C0000 then s.dpllWrite a v
  else if a < 0x900000 then s.synWrite a v
  else if a < 0x940000 then s.wr a v
  else if a < 0x980000 then s.gnssWrite a v
  else if a < 0xA00000 then s.wr a v
  else if a < 0xB00000 then s.groomWrite a v
  else if a < 0xC00000 then s.wr a v
  else (s.wr a v).updKeep

/-- 00 R6, R7: a write of `v` to an occupied register by its access codes; `same` are the W1C bits that the module sets in the same register
cycle. -/
def State.regWrite (a : Nat) (v same : Word) (s : State) : State :=
  match rowOf a with
  | none => s
  | some r =>
    let w := s.written r a v same
    if r.w1c ≠ 0#32 then s.wr a w
    else if r.rw ||| (if s.rwsOpen a then r.rws else 0#32) = 0#32 then s
    else s.applyReg a w

end Sys2Proof.Machine
end

