-- ==== Sys2Proof/Machine/Reset.lean ====
section
/-! DEFINITION. Chapter 3, resets: what each source clears (R83, R84, R117; 18 R622), the requests (R86, R115, R116; 18 R620, R621), clock
failure (R85) and reset extension (R90). -/

namespace Sys2Proof.Machine

open Sys2Proof

/-! ### System scope (03 R83, R87, R117) -/

/-- What a reset of system scope leaves: the module's queue, its supply and pins, the tack room, the test access port, and what it has
already put into host memory and onto its links. -/
def State.cleared (s : State) : State :=
  { pending := s.pending, freeIdx := s.freeIdx, supply := s.supply, vinOk := s.vinOk, enable := s.enable, vio := s.vio, resetN := s.resetN,
    perstN := s.perstN, dieTemp := s.dieTemp, tap := s.tap, ledger := s.ledger, commits := s.commits, nor := s.nor, norHdr := s.norHdr,
    framHdr := s.framHdr, wasBusy := s.wasBusy, cq := s.cq, msixSent := s.msixSent, rxData := s.rxData, sent := s.sent,
    ctlSent := s.ctlSent, todSent := s.todSent, nextId := s.nextId }

/-- The registers that a power-on or brown-out leaves: the causes, and the live supply and thermal readings. -/
def keptWords : List Nat := [R.RST_CAUSE, R.PWR_STATUS, R.PWR_VIN, R.PWR_PIN, R.PWR_TEMP]

/-- The registers of the AON domain, which the other resets of system scope leave: the causes, the STRAP reading and the PWR block (03 R83; log
entry 69). -/
def aonWords : List Nat :=
  keptWords ++ [R.RST_STRAP, R.PWR_EVENT, R.PWR_THERM_CFG, R.PWR_BP_CTRL, R.PWR_BP_STATUS, R.PWR_BP_HOLD] ++
    (List.range 4).map (fun n => R.PWR_BP_MAP0 + 4 * n)

/-- 03 R101: the elements that LANES_UP, ENGINES_UP or PORTS_UP is bringing up: enabled, and not yet up (log entry 67). -/
def State.inProgress (s : State) : List Nat :=
  if s.get F.RST_BOOT_STATE ≠ 0 then []
  else match s.get F.RST_BOOT_STEP with
    | 11 => (List.range 272).filter (fun n => s.on (F.LANE_CFG_ENABLE n) && s.lane n != lnUp && s.lane n != lnRetired)
    | 12 => (List.range 32).filter (fun k => s.on (F.OE_CFG_ENABLE k) && s.oe k == oeStarting)
    | 13 => (List.range 272).filter (fun p => s.leadOf p == p && s.on (F.LANE_CFG_ENABLE p) && !s.portUp p)
    | _ => []

/-- 03 R83, R117: a reset of system scope, by the RST_CAUSE bit of its cause: 0 power-on and 1 brown-out clear AON as well. Every domain is
then held; the boot that follows begins with AON_UP. -/
def State.systemReset (cause : Nat) (s : State) : State :=
  let t := s.cleared.forEach (if cause ≤ 1 then keptWords else aonWords) (fun a => State.wr a (s.rd a))
  let t := (if cause = 0 then t.wr R.RST_CAUSE 1 else t.stick R.RST_CAUSE cause).set F.PWR_BP_STATUS_KEEP_ACTIVE 0
  { ((t.set F.RST_DOMAIN_HELD 0x1FF).set F.RST_BOOT_STEP 1) with
    bootCause := cause, order := if cause ≤ 1 then 0 else 1, wasBusy := s.inProgress }

/-- 03 R117: a reset of any other scope sets its cause bit and no other. -/
def State.noteCause (cause : Nat) (s : State) : State := s.stick R.RST_CAUSE cause

/-- RESET_N_ASSERT: RESET_N is held low for at least 1 µs (03 R83). -/
def execResetNAssert (s : State) : Host.Outcome State Fault Refusal :=
  .next (({ s with resetN := false }).when (s.supply == Supply.on) (State.systemReset 2))

/-- RESET_N_RELEASE: RESET_N rises; the domains are released in order by what follows (03 R92). -/
def execResetNRelease (s : State) : Host.Outcome State Fault Refusal := .next { s with resetN := true }

/-! ### Watchdog and lock-up (03 R84; 16 R575) -/

/-- A fault of a core: before BOOT_DONE it restarts the boot, after it the complex alone is reset. `kind` is that of GROOM_LAST_FAULT. -/
def State.coreFault (kind cause core : Nat) (s : State) : State :=
  let b := decide (3 ≤ core)
  let st := s.groom b
  if 6 ≤ core ∨ st = gsOff ∨ st = gsRetired then s
  else if s.on F.SYS_STATUS_READY then (s.noteCause cause).groomFault kind b (core % 3)
  else s.systemReset cause

/-- WATCHDOG_EXPIRY: core 0 to 5 (A0 to A2, B0 to B2) misses its check-in within WDOG_MS (16 R575; 03 R84). -/
def execWatchdogExpiry (core : Nat) (s : State) : Host.Outcome State Fault Refusal := .next (s.coreFault 2 (3 + core / 3) core)

/-- LOCKUP: a double fault on a core, or an uncorrectable SRAM error (16 R575; 03 R84). -/
def execLockup (core : Nat) (s : State) : Host.Outcome State Fault Refusal := .next (s.coreFault 3 (5 + core / 3) core)

/-! ### Timing scope (11 R435, R437; 12 R473; 13 R483; 14 R542; 18 R622) -/

/-- Registers from `lo` up to `hi`: configuration kept, everything else at its reset value. -/
def State.clearLive (lo hi : Nat) (s : State) : State :=
  s.forEach (s.regs.filter (fun x => decide (lo ≤ x.1 ∧ x.1 < hi))) (fun x s =>
    match rowOf x.1 with
    | some r =>
      let m := r.rw ||| r.rws
      s.wr x.1 ((x.2 &&& m) ||| (resetWord x.1 &&& ~~~m))
    | none => s)

/-- 18 R622: launch frames that wait end SHED_MISSED, woven frames go on as ordinary ones, and commands that wait for a boundary are
cancelled. -/
def State.timingFates (s : State) : State :=
  let s := s.forEach (s.framesBy (fun f => f.isLaunch && (f.stage == .launch || f.stage == .unread))) (fun x s =>
    match x.2.dest.egressPort with
    | some p => s.shedMissed x.1 p
    | none => s.endFrame x.1 0x33)
  s.weaveOff.cancelWaiting (fun _ => true) s.nt

/-- A reset of TIMING scope: the counter is 0 and unset, treadles stop, the DPLL runs free at nominal without history, the references
qualify again, measurements in progress are lost, and the receiver stops. Timers keep what remained (01 R630). -/
def State.timingReset (s : State) : State :=
  let s := (s.timingFates.calDiscard (fun i => decide (272 ≤ i) && i != 300)).forEach s.asyms State.asymEnd
  let meas := s.rd R.MEAS_STATUS
  let sel := (s.freqSel, s.timeSel, s.get F.DPLL_STATUS_QL_OUT)
  let s := ((s.clearLive 0x880000 0x8C0000).clearLive 0x900000 0x940000).wr R.MEAS_STATUS meas
  let s := ((s.set F.DPLL_STATUS_FREQ_SEL sel.1).set F.DPLL_STATUS_TIME_SEL sel.2.1).set F.DPLL_STATUS_QL_OUT sel.2.2
  let s : State := { (s.set F.MEAS_STATUS_OVEN_STABLE 0).set F.RST_DOMAIN_HELD (s.get F.RST_DOMAIN_HELD ||| 2) with
    nt := 0, swaps := s.swaps.map (fun (p : Nat × Nat) => (0, p.2)),
    macWas := s.macWas.map (fun (x : Nat × MacWas) => (x.1, { x.2 with till := 0 })), timeSet := false, treadles := [], dpll := {}, slots := [], chans := [], cal := { s.cal with good := [], out := [] },
    ovenSeen := false,
    corrAcc := 0, spareWin := [], spareBad := 0, ppsEdge := [],
    obs := { s.obs with captures := s.obs.captures.map (fun (x : Nat × Capture) => (x.1, { x.2 with moved := 0 })) } }
  let s := s.forEach slotList (fun r s => (s.slotEnable r).stop (.qual r))
  let s := s.forEach s.sheds (fun x => State.updShed x.1)
  (((s.stop .lock).stop .holdover).resetGnss.select.updQl).evalQuality

/-! ### Core scope (03 R83, R85) -/

/-- A clock failure of CORE: frames end RESET_FLUSHED, the link is lost, and the loom, heddles, egress, FRER and HIF are at reset. -/
def State.coreReset (s : State) : State :=
  let s := ((s.endFrames (fun _ => true) 0x35).linkDown).set F.OBS_STATUS_CAPTURING 0
  let keep := fun a : Nat => !(decide (0x40000 ≤ a ∧ a < 0x100000) || decide (0x400000 ≤ a ∧ a < 0x800000))
  { (s.set F.RST_DOMAIN_HELD (s.get F.RST_DOMAIN_HELD ||| 32)) with
    regs := (s.set F.RST_DOMAIN_HELD (s.get F.RST_DOMAIN_HELD ||| 32)).regs.filter (fun x => keep x.1)
    calMoves := Tbl.del 300 s.calMoves, rings := [], accepted := [], cqHeld := [], attnNow := 0, relinkLog := [], dbNow := []
    frames := [], rules := [], swaps := [], writer := none, writeQ := [], swapWait := [], fdb := [], fdbTouched := [], fdbFlushes := [], fdbFreed := []
    hedPtr := [], headSeq := [], hedJobs := [], shuttles := [], pairs := [], rows := [], warpPtr := [], nodeRst := [], innerHold := []
    obs := { s.obs with captures := [], snapWait := [], peek := [] }, mirrors := [], headShort := [], drr := [], balance := [], pool := [], unitsNow := [], unitsLast := [], demand := [] }

/-! ### The scopes of a request (03 R83, R115; 18 R622) -/

/-- A reset of heddle scope: its heads go to other heddles, its graph stays, its counters clear (07 R303; 16 R588; 18 R622). -/
def State.heddleReset (h : Nat) (s : State) : State :=
  let s := s.resetHeddle h
  let s := s.forEach (List.range 4) (fun k s => (s.wr (R.GROOM_HPC_LO h k) 0).wr (R.GROOM_HPC_HI h k) 0)
  { (s.wr (R.GROOM_HPC_STICKY h) 0) with hedResets := s.hedResets + 1 }

/-- Whether SCOPE and INDEX are within the encoding of RST_SWREQ. -/
def scopeOk (scope i : Nat) : Bool :=
  match scope with
  | 3 => decide (i < 36)
  | 4 => decide (i < 32)
  | 5 => decide (i < 32)
  | 6 => decide (i < 272)
  | 8 => decide (i < 4)
  | n => decide (n ≤ 9)

/-- A request of a scope other than system carried out. -/
def State.scopeReset (scope i : Nat) (s : State) : State :=
  match scope with
  | 1 => s.groomReset false true
  | 2 => s.groomReset true true
  | 3 => s.resetNode i
  | 4 => s.heddleReset i
  | 5 => s.resetEngine i
  | 6 => s.resetLane i
  | 7 => s.timingReset
  | 8 => s.synRelock i
  | 9 => s.resetPort i
  | _ => s

/-! ### Clock failure (03 R85) -/

/-- CLOCK_FAILURE: a domain's monitor has seen neither its clock nor its fallback for 64 boot cycles, which cannot be while the safe clock runs
(03 R85). The domain, or element `i` of it, goes to the boot oscillator and is reset, and is held until its release (03 R83, R87, R91). NVS
and AON have none. -/
def execClockFailure (d : Domain) (i : Nat) (s : State) : Host.Outcome State Fault Refusal :=
  if s.supply ≠ .on ∨ s.on F.SYN_STATUS_SAFE_GEN_OK ∨ d = .aon ∨ d = .nvs ∨ s.heldDomain d.bit ∨ s.elemHeld.contains (d, i) then .next s
  else
    let go := fun (f : State → State) => Host.Outcome.next (f { (s.noteCause 9) with onBootOsc := s.onBootOsc.filter (fun x => x ≠ d) ++ [d] })
    let one := fun (f : State → State) => Host.Outcome.next (f { (s.noteCause 9) with elemHeld := s.elemHeld ++ [(d, i)] })
    match d with
    | .timing => go State.timingReset
    | .groomA => go (State.groomReset false false)
    | .groomB => go (State.groomReset true false)
    | .core => go State.coreReset
    | .syn => if i < 4 then one (State.synRelock i) else .next s
    | .lanes => if i < 272 then one (State.resetLane i) else .next s
    | .engines => if i < 32 then one (State.resetEngine i) else .next s
    | .ports => if s.portIndexOk i then one (State.resetPort i) else .next s
    | _ => .next s

/-! ### RST_SWREQ, RST_DBG_REQ, RST_FORCE (03 R86, R90, R115, R116) -/

/-- A write of `v` to RST_SWREQ whose SCOPE is one of `scopes`: ignored while RUN is 1, without the key, and for an index that names nothing. -/
def State.swReq (scopes : List Nat) (v : Word) (s : State) : State :=
  let scope := bits v.toNat 0 4
  let i := bits v.toNat 4 9
  if s.run ∨ bits v.toNat 16 16 ≠ 0x5A3C ∨ !scopes.contains scope ∨ !scopeOk scope i ∨ (scope = 9 ∧ !s.portIndexOk i) then s
  else if scope = 0 then s.systemReset 7
  else (s.noteCause 7).scopeReset scope i

/-- SWREQ_SYSTEM: a write to RST_SWREQ with SCOPE system (03 R86). -/
def execSwreqSystem (v : BitVec 32) (s : State) : Host.Outcome State Fault Refusal := .next (s.swReq [0] v)

/-- SWREQ_COMPLEX: a write to RST_SWREQ with SCOPE complex A or B (03 R86). -/
def execSwreqComplex (v : BitVec 32) (s : State) : Host.Outcome State Fault Refusal := .next (s.swReq [1, 2] v)

/-- SWREQ_NODE: a write to RST_SWREQ with SCOPE node (03 R86; 08 R322). -/
def execSwreqNode (v : BitVec 32) (s : State) : Host.Outcome State Fault Refusal := .next (s.swReq [3] v)

/-- SWREQ_HEDDLE: a write to RST_SWREQ with SCOPE heddle (03 R83, R86). -/
def execSwreqHeddle (v : BitVec 32) (s : State) : Host.Outcome State Fault Refusal := .next (s.swReq [4] v)

/-- SWREQ_ENGINE: a write to RST_SWREQ with SCOPE engine (03 R83, R86). -/
def execSwreqEngine (v : BitVec 32) (s : State) : Host.Outcome State Fault Refusal := .next (s.swReq [5] v)

/-- SWREQ_LANE: a write to RST_SWREQ with SCOPE lane (03 R83, R86). -/
def execSwreqLane (v : BitVec 32) (s : State) : Host.Outcome State Fault Refusal := .next (s.swReq [6] v)

/-- SWREQ_TIMING: a write to RST_SWREQ with SCOPE timing (03 R83, R86). -/
def execSwreqTiming (v : BitVec 32) (s : State) : Host.Outcome State Fault Refusal := .next (s.swReq [7] v)

/-- SWREQ_SYNTHESISER: a write to RST_SWREQ with SCOPE synthesiser (03 R86; 12 R454). -/
def execSwreqSynthesiser (v : BitVec 32) (s : State) : Host.Outcome State Fault Refusal := .next (s.swReq [8] v)

/-- SWREQ_PORT: a write to RST_SWREQ with SCOPE port (03 R86; 06 R249). -/
def execSwreqPort (v : BitVec 32) (s : State) : Host.Outcome State Fault Refusal := .next (s.swReq [9] v)

/-- Boot source debug hold (03 R95, R101, R116). -/
def State.debugBoot (s : State) : Bool := s.get F.RST_STRAP_BOOT_SRC == 3 || s.debugHold

/-- A write of `v` to RST_DBG_REQ. -/
def State.dbgReq (v : Word) (s : State) : State :=
  if !s.debugBoot then s
  else match bits v.toNat 0 4 with
    | 0 => s.systemReset 8
    | 1 => (s.noteCause 8).groomReset false true
    | 2 => (s.noteCause 8).groomReset true true
    | _ => s

/-- DBG_REQ_SYSTEM: a write to RST_DBG_REQ with SCOPE system, under debug hold (03 R116). -/
def execDbgReqSystem (v : BitVec 32) (s : State) : Host.Outcome State Fault Refusal :=
  if bits v.toNat 0 4 = 0 then .next (s.dbgReq v) else .next s

/-- DBG_REQ_COMPLEX: a write to RST_DBG_REQ with SCOPE complex A or B, under debug hold (03 R116). -/
def execDbgReqComplex (v : BitVec 32) (s : State) : Host.Outcome State Fault Refusal :=
  if bits v.toNat 0 4 = 0 then .next s else .next (s.dbgReq v)

/-- A write of `v` to RST_FORCE: the named domains that are held enter reset extension (03 R90, R116). -/
def State.rstForce (v : Word) (s : State) : State :=
  if !s.debugBoot then s
  else
    let m := v.toNat % 512 &&& s.get F.RST_DOMAIN_HELD
    (s.set F.RST_FORCE_RELEASE (s.get F.RST_FORCE_RELEASE ||| m)).set F.RST_DOMAIN_EXTENDED (s.get F.RST_DOMAIN_EXTENDED ||| m)

/-- RST_FORCE_WRITE: domains released early into reset extension, under debug hold (03 R90). -/
def execRstForceWrite (v : BitVec 32) (s : State) : Host.Outcome State Fault Refusal := .next (s.rstForce v)

/-! ### RESET (18 R620 to R622) -/

/-- 18 R621, R628: a RESET of complex scope is refused while the partner is not IN_STEP, unless the complex is RETIRED (log entry 64), and
while a handover is in progress. -/
def State.complexResetRefused (s : State) (b : Bool) : Bool :=
  s.on F.GROOM_STATUS_HANDOVER || (s.groom (!b) != gsInStep && s.groom b != gsRetired)

/-- RESET. A node's completes when it has drained; that of system scope is written before the reset asserts. -/
def specReset : CmdSpec where
  cls := clsMgmt
  block := false
  p0 := 0x1FFF
  p1 := 0
  p2 := 0
  first := onPick
  check d s :=
    let scope := d.P0 0 4
    let i := d.P0 4 9
    if !scopeOk scope i then rBadParam else if scope = 9 ∧ !s.portIndexOk i then rBadPort else rOk
  act c s :=
    let scope := c.sub.P0 0 4
    let i := c.sub.P0 4 9
    if scope = 0 then ((s.completeCmd c rOk c.boundary 0 0).systemReset 7, .gone)
    else if (scope = 1 ∨ scope = 2) ∧ s.complexResetRefused (decide (scope = 2)) then (s, .done rState 0 0)
    else if scope = 7 then
      (((s.completeCmd c rOk c.boundary 0 0).noteCause 7).timingReset, .gone)
    else ((s.noteCause 7).scopeReset scope i, if scope = 3 then .wait else .done rOk 0 0)

/-- RESET of one of the scopes. -/
def State.takeReset (scopes : List Nat) (d : Submission) (s : State) : State :=
  if scopes.contains (d.P0 0 4) then specReset.take 0x43 true d s else s

/-- RESET_SYSTEM: RESET with SCOPE system (03 R86; 18 R620). -/
def execResetSystem (d : Submission) (s : State) : Host.Outcome State Fault Refusal := .next (s.takeReset [0] d)

/-- RESET_COMPLEX: RESET with SCOPE complex A or B (18 R621). -/
def execResetComplex (d : Submission) (s : State) : Host.Outcome State Fault Refusal := .next (s.takeReset [1, 2] d)

/-- RESET_NODE: RESET with SCOPE node (08 R322; 18 R622). -/
def execResetNode (d : Submission) (s : State) : Host.Outcome State Fault Refusal := .next (s.takeReset [3] d)

/-- RESET_HEDDLE: RESET with SCOPE heddle (18 R622). -/
def execResetHeddle (d : Submission) (s : State) : Host.Outcome State Fault Refusal := .next (s.takeReset [4] d)

/-- RESET_ENGINE: RESET with SCOPE engine (18 R622). -/
def execResetEngine (d : Submission) (s : State) : Host.Outcome State Fault Refusal := .next (s.takeReset [5] d)

/-- RESET_LANE: RESET with SCOPE lane (18 R622). -/
def execResetLane (d : Submission) (s : State) : Host.Outcome State Fault Refusal := .next (s.takeReset [6] d)

/-- RESET_TIMING: RESET with SCOPE timing (18 R622). -/
def execResetTiming (d : Submission) (s : State) : Host.Outcome State Fault Refusal := .next (s.takeReset [7] d)

/-- RESET_SYNTHESISER: RESET with SCOPE synthesiser (12 R454). -/
def execResetSynthesiser (d : Submission) (s : State) : Host.Outcome State Fault Refusal := .next (s.takeReset [8] d)

/-- RESET_PORT: RESET with SCOPE port (06 R249). -/
def execResetPort (d : Submission) (s : State) : Host.Outcome State Fault Refusal := .next (s.takeReset [9] d)

end Sys2Proof.Machine
end

