-- ==== Sys2Proof/Machine/Boot.lean ====
section
/-! DEFINITION. Chapter 3, the boot: the release order (R89, R92), the STRAP bands (R94 to R97), option loading (R98, R99), boot steps with
their fallbacks and the ledger (R101 to R106), download (04 R128), the end of a store write (R110), and CFG_WRITE (17 R616, R617). -/

namespace Sys2Proof.Machine

open Sys2Proof

/-! ### The STRAP bands (03 R94 to R97) -/

/-- 03 R95: a band: nominal resistance in ohms, boot source, ×4, safe boot, role. -/
def strapBands : List (Nat × Nat × Bool × Bool × Nat) :=
  [(0, 3, false, true, 0), (1000, 2, false, true, 0), (1500, 2, true, true, 0), (2210, 1, false, true, 0),
   (3160, 1, false, false, 1), (4530, 1, true, false, 1), (6490, 0, true, true, 0), (9090, 0, true, false, 0)] ++
  [(13000, 0, true, false, 1), (18700, 0, true, false, 2), (26700, 0, false, true, 0), (38300, 0, false, false, 0),
   (56200, 0, false, false, 2), (82500, 3, true, true, 0), (121000, 2, false, false, 0), (170000, 0, false, false, 1)]

/-- 03 R94: the band of a reading: at most 50 Ω is band 0, at least 170 kΩ band 15, else within ±14 % of a nominal resistance. -/
def strapBand (ohms : Nat) : Option Nat :=
  if ohms ≤ 50 then some 0
  else if 170000 ≤ ohms then some 15
  else (List.range 15).find? (fun b =>
    let n := (strapBands.getD b (0, 0, false, false, 0)).1
    b != 0 && decide (100 * n ≤ 100 * ohms + 14 * n) && decide (100 * ohms ≤ 114 * n))

/-- RST_STRAP as measured; a reading in no band boots as band 10 (03 R96). -/
def strapWord (ohms : Option Nat) : Word :=
  let band := match ohms with
    | some r => strapBand r
    | none => some 15
  let b := band.getD 10
  let (_, src, x4, safe, role) := strapBands.getD b (0, 0, false, false, 0)
  let r10 := match ohms with
    | some r => min (r / 10) 0xFFFFF
    | none => 0xFFFFF
  BitVec.ofNat 32 (b + 16 * src + 64 * b2n x4 + 128 * b2n safe + 256 * role + 1024 * b2n band.isNone + 4096 * r10)

/-- Safe boot: by the band, or because default trims are in use (03 R95, R99). -/
def State.safeBoot (s : State) : Bool := s.on F.RST_STRAP_SAFE || bit (s.get F.RST_BOOT_FALLBACK) 2

/-! ### Fallbacks (03 R101 to R104) -/

def fbAlt : Nat := 0
def fbHostDl : Nat := 1
def fbTrims : Nat := 2
def fbCal : Nat := 3
def fbCfg : Nat := 4
def fbPorts : Nat := 5
def fbSafeClk : Nat := 6

/-- A fallback in force. -/
def State.fb (s : State) (k : Nat) : Bool := bit (s.get F.RST_BOOT_FALLBACK) k

/-- A fallback put in force. -/
def State.fallBack (k : Nat) (s : State) : State := s.set ⟨R.RST_BOOT, 10 + k, 1⟩ 1

/-- The ledger's valid records of one boot, in the order in which the ring was written. -/
def State.bootRecs (s : State) (n : Nat) : List LedgerRec :=
  let p := (s.ledgerTop.map (fun x => x.1)).getD 0
  let l := s.ledgerValid
  ((l.filter (fun x => decide (p < x.1)) ++ l.filter (fun x => decide (x.1 ≤ p))).map (fun x => x.2)).filter (fun r => r.boot == n)

/-- 03 R101: the step of a boot that was interrupted: its newest BEGIN record, which no outcome record of that step follows. -/
def interruptedStep (rs : List LedgerRec) : Option Nat :=
  rs.foldl (fun m r => if r.outcome = 0 then some r.step else if m = some r.step then none else m) none

/-- Whether a boot closed the ledger. -/
def closedLedger (rs : List LedgerRec) : Bool := rs.any (fun r => r.step == 0x0F)

/-- 03 R101, R102: the interrupted step of the last boot whose treatment applies now: at once, but at the second time where a power-on
without a SHUTDOWN record interrupted it. -/
def State.interrupted (s : State) : Option Nat :=
  match s.ledgerHead with
  | none => none
  | some h =>
    let rs := s.bootRecs h.boot
    match interruptedStep rs with
    | none => none
    | some x =>
      let prev := s.bootRecs (h.boot - 1)
      let first := !(interruptedStep prev == some x && h.cause == 0 && !closedLedger prev)
      if s.bootCause = 0 ∧ !closedLedger rs ∧ first then none else some x

/-- 03 R104: fallbacks of a boot that did not record BOOT_DONE stay in force: image, download, calibration and configuration. -/
def State.keptFallbacks (s : State) : Nat :=
  match s.ledgerHead with
  | none => 0
  | some h => if (s.bootRecs h.boot).any (fun r => r.step == 0x0E) then 0 else h.fallback &&& 0x1B

/-- The image slot that the last boot's IMAGE_LOAD named (log entry 67). -/
def State.lastSlot (s : State) : Option Nat :=
  match s.ledgerHead with
  | none => none
  | some h => (((s.bootRecs h.boot).filter (fun r => r.step == 7 && r.outcome != 0)).getLast?).map (fun r => r.detail % 4)

/-- What reading the ledger at this boot puts in force (03 R101 to R103). -/
def State.readLedger (s : State) : State :=
  let x := s.interrupted
  let slot := s.lastSlot
  let s := s.set F.RST_BOOT_FALLBACK (s.get F.RST_BOOT_FALLBACK ||| s.keptFallbacks)
  match x with
  | some 7 => s.fallBack (if s.fb fbAlt then fbHostDl else fbAlt)
  | some 8 =>
    let s := s.fallBack (if s.fb fbAlt then fbHostDl else fbAlt)
    (match slot with
     | some n => if n < 2 then s.setSuspect n true else s
     | none => s)
  | some 9 => s.fallBack fbCal
  | some 10 => s.fallBack fbCfg
  | some n => if 11 ≤ n ∧ n ≤ 13 then { s with bootFb := [n] } else s
  | none => s

/-! ### The image (03 R95, R101, R103) -/

/-- The image slot to boot, with its SEQ: the newest committed, or the other for the alternate source or under ALT_IMAGE; a suspect slot is
skipped where no fallback names it. None boots as host download. -/
def State.imageChoice (s : State) : Option (Nat × Nat) :=
  if s.fb fbHostDl then none
  else match s.newest knImage with
    | none => none
    | some (_, r) =>
      let at1 := fun slot => match s.commitAt knImage 0, s.commitAt knImage 1 with
        | some a, some b => if a.slot = slot then some (slot, a.seq) else if b.slot = slot then some (slot, b.seq) else none
        | some a, none => if a.slot = slot then some (slot, a.seq) else none
        | none, some b => if b.slot = slot then some (slot, b.seq) else none
        | none, none => none
      let good := fun slot => if s.suspect slot then none else at1 slot
      let other := (s.get F.RST_STRAP_BOOT_SRC == 1) != s.fb fbAlt
      let want := if other then 1 - r.slot else r.slot
      match good want with
      | some x => some x
      | none => if s.fb fbAlt then none else good (1 - want)

/-- Both complexes are to load an identity: that of an image slot, or a downloaded image's. -/
def State.setIdents (c : Option (Nat × Nat)) (s : State) : State :=
  let i := c.map (fun x => { image := x.2, cfg := s.newestCfg, slot := x.1 : Identity })
  (s.modCplx false (fun m => { m with ident := i })).modCplx true (fun m => { m with ident := i })

/-- DETAIL of an IMAGE_LOAD record: slot and SEQ; slot 2 is a download (log entry 67). -/
def imageDetail : Option (Nat × Nat) → Nat
  | some x => x.1 + x.2 % 65536 * 65536
  | none => 2

/-! ### Steps (03 R101) -/

/-- The boot waits for the host or a debugger: no image was chosen. -/
def State.bootHold (s : State) : State :=
  let debug := s.get F.RST_STRAP_BOOT_SRC == 3
  let s := s.when (!debug && s.get F.RST_STRAP_BOOT_SRC != 2) (State.fallBack fbHostDl)
  { (s.set F.RST_BOOT_STATE 2) with debugHold := debug }

/-- A step begins: its BEGIN record, and whether it runs by its fallback from the start. IMAGE_LOAD may wait for the host. -/
def State.stepBegin (x up : Nat) (s : State) : State :=
  let fell := s.bootFb.contains x || (x == 7 && (s.fb fbAlt || s.fb fbHostDl)) || (x == 9 && s.fb fbCal) || (x == 10 && s.fb fbCfg)
  let s : State := { (s.set F.RST_BOOT_STEP x) with fell := fell }
  if x = 7 then
    let src := s.get F.RST_STRAP_BOOT_SRC
    let c := if src = 2 ∨ src = 3 then none else s.imageChoice
    let s := s.ledgerAdd 7 0 (imageDetail c) up
    if c.isNone then s.bootHold else s
  else s.ledgerAdd x 0 0 up

/-- A step ends with an outcome: its record, event BOOT_FALLBACK for OK_FALLBACK and FAILED, and the next step; FAILED stops the boot. -/
def State.stepEnd (x outcome detail up : Nat) (s : State) : State :=
  let s := s.ledgerAdd x outcome detail up
  let s := s.when (outcome == 2 || outcome == 3) (State.event 0x0201 0 (x + 256 * s.get F.RST_BOOT_FALLBACK))
  if outcome = 3 then s.set F.RST_BOOT_STATE 3
  else if x = 0x0D then s.set F.RST_BOOT_STEP 0x0E
  else s.stepBegin (x + 1) up

/-- An outcome of a step that completes: OK, or OK_FALLBACK where its fallback ran. -/
def State.okOf (s : State) : Nat := if s.fell then 2 else 1

/-- IMAGE_LOAD reports failure: the other slot, then host download, then debug hold. -/
def State.imageFails (s : State) : State :=
  if s.get F.RST_BOOT_STATE = 2 then { s with debugHold := true }
  else
    let s : State := { (s.fallBack (if s.fb fbAlt then fbHostDl else fbAlt)) with fell := true }
    if s.imageChoice.isNone then s.bootHold else s

/-- GROOM_START reports failure: it is done again by its fallback, from IMAGE_LOAD with the other slot. -/
def State.groomStartFails (up : Nat) (s : State) : State :=
  let s := (s.groomReset false true).groomReset true true
  let s := s.fallBack (if s.fb fbAlt then fbHostDl else fbAlt)
  State.stepBegin 7 up { s with bootFb := s.bootFb ++ [8] }

/-- CAL_LOAD: the newest valid calibration slot, or default trims (15 R561). -/
def State.calStep (ok : Bool) (s : State) : State × Nat :=
  match s.newest knCal with
  | some (_, r) => if ok ∧ !s.fell then ((s.calLoad (s.slotData knCal r.slot).data).showCal, 1) else ((s.fallBack fbCal).showCal.raise .cal 2 0, 2)
  | none => ((s.fallBack fbCal).showCal.raise .cal 2 0, 2)

/-- 17 R616: CFG_LOAD applies an entry that is not of the option record. -/
def State.cfgEntry (e : CfgEntry) (s : State) : State :=
  match e.type with
  | 1 => if inOption e.arg then s else s.regWrite e.arg e.value 0
  | 2 => if bit (s.rd R.HED_CTRL).toNat e.arg then s else s.writeGraph e.arg e.body
  | _ => s

/-- CFG_LOAD: the configuration slot in force, or the factory default configuration: all ports down, role HOLD. -/
def State.cfgStep (ok : Bool) (s : State) : State × Nat :=
  if (s.newest knCfg).isSome ∧ ok ∧ !s.fell then (s.forEach s.cfgInForce State.cfgEntry, 1) else ((s.fallBack fbCfg).setRole 0, 2)

/-- LANES_UP's fallback: failing lanes retired. -/
def State.lanesFail (l : List Nat) (s : State) : State :=
  s.forEach (l.filter (fun n => decide (n < 272))) (fun n => State.linkChange (n / 8) (State.laneTo n lnRetired))

/-- ENGINES_UP's fallback: failing engines skipped. -/
def State.enginesFail (l : List Nat) (s : State) : State := s.forEach (l.filter (fun k => decide (k < 32))) (fun k => State.oeTo k oeOff)

/-- PORTS_UP's fallback: failing ports left down. -/
def State.portsFail (l : List Nat) (s : State) : State :=
  s.forEach (l.filter (fun p => decide (p < 272))) (fun p s =>
    s.forEach (s.lanesOf p) (fun n => State.linkChange (n / 8) (State.laneTo n lnDown)))

/-- One of the last three steps: the elements that were in progress where it was interrupted, and the failing ones. -/
def State.unitStep (x up : Nat) (ok : Bool) (failing : List Nat) (f : List Nat → State → State) (s : State) : State :=
  let bad := (if s.fell then s.wasBusy else []) ++ failing
  if ok ∧ bad = [] then s.stepEnd x 1 0 up else ((f bad s).fallBack fbPorts).stepEnd x 2 (bad.headD 0) up

/-- 03 R104: the boot reaches BOOT_DONE: READY, and the user tasks start. -/
def State.bootDone (up : Nat) (s : State) : State :=
  let out := if s.get F.RST_BOOT_FALLBACK = 0 then 1 else 2
  let s := s.ledgerAdd 0x0E out 0 up
  let s := s.when (out == 2) (State.event 0x0201 0 (0x0E + 256 * s.get F.RST_BOOT_FALLBACK))
  let s := (s.set F.RST_BOOT_STATE 1).set F.SYS_STATUS_READY 1
  s.when (!s.fb fbCfg) State.startTasks

/-- The slot choices shown. -/
def State.showKinds (s : State) : State := ((s.showKind knImage).showKind knCal).showKind knCfg

/-- The current step reports success or failure, `up` microseconds after the release of AON. -/
def State.stepDone (ok : Bool) (failing : List Nat) (up : Nat) (s : State) : State :=
  let x := s.get F.RST_BOOT_STEP
  let stop := s.stepEnd x 3 (failing.headD 0) up
  let lacks := fun n => decide (s.order < n)
  match x with
  | 1 => if !ok then (s.ledgerAdd 1 0 0 up).stepEnd 1 3 0 up else if lacks 1 then s else (s.ledgerAdd 1 0 0 up).stepEnd 1 1 0 up
  | 2 =>
    if !ok then { (s.fallBack fbTrims) with fell := true }
    else if lacks 2 then s else s.stepEnd 2 (if s.fb fbTrims then 2 else 1) (s.get F.RST_STRAP_OHMS10) up
  | 3 =>
    if !ok then (if s.fell then s else ({ s with fell := true, ledgerOff := true }).showKinds)
    else if lacks 3 then s
    else s.stepEnd 3 s.okOf 0 up
  | 4 => if !ok then (if s.fell then stop else { s with fell := true }) else if lacks 4 then s else s.stepEnd 4 s.okOf 0 up
  | 5 =>
    if !ok then
      if s.fell then s
      else
        let s : State := { (s.fallBack fbSafeClk) with fell := true }
        s.forEach ((List.range 4).filter (fun n => !s.on (synBit 0 n))) (fun n s => (s.synRelock n).raise .syn n n)
    else if lacks 5 then s else s.stepEnd 5 s.okOf 0 up
  | 6 => if !ok then stop else if lacks 6 then s else s.stepEnd 6 1 0 up
  | 7 =>
    if !ok then s.imageFails
    else if s.get F.RST_BOOT_STATE = 2 then s
    else (s.setIdents s.imageChoice).stepEnd 7 s.okOf (imageDetail s.imageChoice) up
  | 8 => if !ok then s.groomStartFails up else if !s.groomUp then s else s.stepEnd 8 s.okOf 0 up
  | 9 => let r := s.calStep ok; r.1.stepEnd 9 r.2 0 up
  | 10 => let r := s.cfgStep ok; r.1.stepEnd 10 r.2 0 up
  | 11 => if lacks 7 then s else s.unitStep 11 up ok failing State.lanesFail
  | 12 =>
    if s.safeBoot then s.stepEnd 12 4 0 up
    else if lacks 8 then s
    else s.unitStep 12 up ok failing State.enginesFail
  | 13 => if lacks 9 then s else s.unitStep 13 up ok failing State.portsFail
  | 14 => s.bootDone up
  | _ => s

/-- BOOT_STEP_COMPLETE: the current boot step ends, or reports failure with the elements that fail; `up` is UPTIME (03 R101, R105). -/
def execBootStepComplete (ok : Bool) (failing : List Nat) (up : Nat) (s : State) : Host.Outcome State Fault Refusal :=
  let st := s.get F.RST_BOOT_STATE
  if s.supply = .on ∧ s.resetN ∧ (st = 0 ∨ (st = 2 ∧ !ok)) then .next (s.stepDone ok failing up) else .next s

/-! ### Releases (03 R89, R92, R98) -/

/-- A domain runs: its bits clear, and its clock is its own again. -/
def State.unhold (d : Domain) (s : State) : State :=
  let s : State := { s with onBootOsc := s.onBootOsc.filter (fun x => x ≠ d) }
  ((s.set ⟨R.RST_DOMAIN, d.bit, 1⟩ 0).set ⟨R.RST_DOMAIN, 9 + d.bit, 1⟩ 0).set ⟨R.RST_FORCE, d.bit, 1⟩ 0

/-- What a domain does when it is released. -/
def State.wake (d : Domain) (s : State) : State :=
  match d with
  | .lanes => s.forEach (List.range 34) (fun g => State.linkChange g (fun s => s.forEach (groupLanes g) State.laneCheck))
  | .engines => s.forEach (List.range 32) State.oeBoot
  | .core => s.forEach (List.range 32) (fun h s => s.setHed h (s.hed h))
  | _ => s

/-- A domain released. -/
def State.release (d : Domain) (s : State) : State := (s.unhold d).wake d

/-- 03 R98: the option record of the active configuration slot, applied. What the factory default configuration's option record holds the spec
does not give: where no slot is valid nothing is applied, and the registers keep their reset values (DESIGN CHOICE, log entry 76). -/
def State.applyOptions (s : State) : State :=
  s.forEach (s.cfgInForce.filter (fun e => e.type == 1 && inOption e.arg)) (fun e => State.regWrite e.arg e.value 0)

/-- 03 R94, R96, R98, R99: the first option load: the strap, and the trims. -/
def State.firstLoad (ohms : Option Nat) (trimsOk : Bool) (s : State) : State :=
  let s := (s.wr R.RST_STRAP (strapWord ohms)).when (!trimsOk) (State.fallBack fbTrims)
  s.when (s.on F.RST_STRAP_INVALID) (State.event 0x0200 0 (s.rd R.RST_STRAP).toNat)

/-- The tack room opens: the slots chosen, the boot number, the ledger's fallbacks, and the records that waited. -/
def State.openStore (s : State) : State :=
  let s := (s.setB F.NVS_STATUS_NOR_OK (s.norHdr % 4 != 0)).setB F.NVS_STATUS_FRAM_OK (s.framHdr % 4 != 0)
  let s : State := { s with ledgerOff := s.ledgerOff || s.framHdr % 4 == 0 }
  let n := if s.ledgerOff then 1 else (match s.ledgerHead with
    | some h => (h.boot + 1) % 2 ^ 32
    | none => 1)
  let s := ({ s with bootNo := n }).set F.RST_BOOT_BOOT_LOW n
  let s := s.showKinds.when (!s.ledgerOff) State.readLedger
  let late := s.early
  ({ s with early := [] }).when (!s.ledgerOff) (fun s => s.forEach late State.ledgerPut)

/-- TIMING starts on the crystals present, in the strap's role; nothing is selected yet (11 R449). -/
def State.startTiming (main spare : Bool) (s : State) : State :=
  let s := ((s.setB F.MEAS_STATUS_XO_MAIN_OK main).setB F.MEAS_STATUS_XO_SPARE_OK spare).setB F.MEAS_STATUS_MASTER_SPARE (!main)
  let s := ((s.set F.DPLL_STATUS_FREQ_SEL 15).set F.DPLL_STATUS_TIME_SEL 15).set F.DPLL_STATUS_QL_OUT 7
  ((s.setB F.SYN_STATUS_SAFE_GEN_OK spare).setRole (s.get F.RST_STRAP_ROLE)).evalQuality

/-- Whether the gate of a release in order is passed (03 R92): the step that makes it is the current one, the release before is made, and no
domain before it is held again. -/
def State.gate (s : State) (k step : Nat) : Bool :=
  s.order + 1 == k && s.get F.RST_BOOT_STEP == step && s.get F.RST_BOOT_STATE == 0 &&
    [Domain.nvs, .timing, .syn, .groomA, .groomB, .core, .lanes, .engines].all (fun d => decide (k ≤ d.order) || !s.heldDomain d.bit)

/-- An element whose clock had failed runs again on its own clock (03 R87, R91). -/
def State.releaseElem (d : Domain) (i : Nat) (s : State) : State :=
  let s : State := { s with elemHeld := s.elemHeld.filter (fun x => x != (d, i)) }
  match d with
  | .lanes => s.linkChange (i / 8) (State.laneCheck i)
  | .engines => s.oeBoot i
  | _ => s

/-- DOMAIN_RELEASE: a domain's monitor has counted 64 clean cycles and its gate passes (03 R89, R90, R92, R98 to R100). -/
def execDomainRelease (r : Release) (s : State) : Host.Outcome State Fault Refusal :=
  if s.supply ≠ .on ∨ !s.resetN then .next s
  else
    let goes := fun k (s : State) => Host.Outcome.next { s with order := k }
    match r with
    | .aon => if s.gate 1 1 then goes 1 s else .next s
    | .options ohms trimsOk => if s.gate 2 2 then goes 2 (s.firstLoad ohms trimsOk) else .next s
    | .nvs => if s.gate 3 3 ∧ (s.framHdr % 4 ≠ 0 ∨ s.fell) then goes 3 (s.release .nvs).openStore else .next s
    | .timing main spare =>
      if s.gate 4 4 ∧ ((main ∧ spare) ∨ (s.fell ∧ (main ∨ spare))) then goes 4 ((s.release .timing).startTiming main spare) else .next s
    | .syn => if s.gate 5 5 ∧ (s.fell ∨ s.get F.SYN_STATUS_LOCKED = 15) then goes 5 (s.release .syn) else .next s
    | .core => if s.gate 6 6 then goes 6 (((s.applyOptions.release .core).release .groomA).release .groomB) else .next s
    | .lanes => if s.gate 7 11 then goes 7 (s.release .lanes) else .next s
    | .engines => if s.gate 8 12 ∧ !s.safeBoot then goes 8 (s.release .engines) else .next s
    | .ports =>
      if s.gate 9 13 ∨ (s.safeBoot ∧ s.order = 7 ∧ s.get F.RST_BOOT_STEP = 13) then goes 9 (s.release .ports) else .next s
    | .one d =>
      if d ≠ .aon ∧ s.heldDomain d.bit ∧ (s.on ⟨R.RST_DOMAIN, 9 + d.bit, 1⟩ ∨ (d.order ≤ s.order ∧ !(d = .engines ∧ s.safeBoot))) then
        .next (s.release d)
      else .next s
    | .elem d i => if s.elemHeld.contains (d, i) then .next (s.releaseElem d i) else .next s

/-! ### Host download (04 R127, R128) -/

/-- GO under host download: the fetch starts, or is rejected for a LENGTH that is not allowed. -/
def State.dlGo (v : Word) (s : State) : State :=
  let n := s.get F.HIF_DL_LEN_LENGTH
  if !bit v.toNat 0 ∨ s.get F.RST_BOOT_STATE ≠ 2 ∨ s.debugBoot ∨ s.get F.HIF_DL_STATUS_STATE = 1 then s
  else s.set F.HIF_DL_STATUS_STATE (if n % 4096 = 0 ∧ 4096 ≤ n ∧ n ≤ 48 * 2 ^ 20 then 1 else 3)

/-- DL_GO: a write to HIF_DL_CTRL (04 R128). -/
def execDlGo (v : BitVec 32) (s : State) : Host.Outcome State Fault Refusal := .next (s.dlGo v)

/-- DL_FETCH_DONE: the fetch has ended with an image whose check word passes, which GROOM_START then runs, or not (04 R128). -/
def execDlFetchDone (ok : Bool) (up : Nat) (s : State) : Host.Outcome State Fault Refusal :=
  if s.get F.HIF_DL_STATUS_STATE ≠ 1 then .next s
  else if !ok then .next (s.set F.HIF_DL_STATUS_STATE 3)
  else
    let s := ((s.set F.HIF_DL_STATUS_STATE 2).set F.RST_BOOT_STATE 0).setIdents none
    .next (s.stepEnd 7 (if s.fb fbHostDl then 2 else 1) (imageDetail none) up)

/-! ### The end of a store write (03 R110; 04 R155; 17 R617) -/

/-- STORE_WRITE_DONE: the data of a request that the arbiter took (16 R576) is written and read back, well or not; the commit record follows and the command completes, but a CFG_WRITE
with APPLY first takes effect at the next boundary (03 R110, R112; 17 R617). -/
def execStoreWriteDone (ok : Bool) (s : State) : Host.Outcome State Fault Refusal :=
  match s.job with
  | none => .next s
  | some j => match j.ledgerSeq with
    | none => .next s
    | some n =>
    if !ok then .next ((s.storeEnd j false).storeComplete j rStoreFail s.nt 0)
    else
      let s := s.storeCommit j n
      let s := s.when (j.kind == knImage) (State.setSuspect j.slot false)
      let s := s.storeEnd j true
      if j.apply then .next { s with cfgApply := s.cfgApply ++ [j] } else .next (s.storeComplete j rOk s.nt 0)

/-! ### CFG_WRITE (17 R616, R617) -/

/-- CFG_WRITE. -/
def specCfgWrite : CmdSpec where
  cls := clsMgmt
  block := true
  takesAt := false
  p0 := 1
  first := onAccept
  check d _ := if cfgOk d.bytes ∧ d.len = d.bytes.length ∧ d.len ≤ slotSize knCfg then rOk else rBadParam
  act c s := if s.storeRefuses then (s, .done rBusy 0 0) else (s.storeStart knCfg c.sub.bytes (c.sub.P0 0 1 == 1) c, .wait)

/-- CFG_WRITE checks and stores a configuration record (17 R616). -/
def execCfgWrite (d : Submission) (s : State) : Host.Outcome State Fault Refusal := .next (specCfgWrite.take 0x47 true d s)

/-- 17 R617: the registers whose entries APPLY puts in force. -/
def cfgApplies (a : Nat) : Bool :=
  let within := fun lo hi => decide (lo ≤ a ∧ a < hi)
  [R.HED_MALF_CFG, R.HED_FDB_CFG, R.LOOM_SPILL_CFG, R.LOOM_AGE, R.LOOM_MCAST_WAIT, R.MEAS_XO_AGEING, R.TIME_CTRL, R.TIME_UTC,
   R.CAL_CTRL, R.GROOM_CTRL, R.GROOM_TASK_CFG, R.PWR_THERM_CFG, R.OBS_CFG].contains a ||
  within (R.LOOM_STALL_CFG 0) (R.LOOM_STALL_CFG 36) || within (R.HED_LEARN 0) (R.HED_LEARN 9) || (List.range 272).any (fun p => a == R.LOOM_HALT p) ||
  (List.range 8).any (fun k => a == R.MEAS_CH_CFG k || a == R.MEAS_CH_GATE k || a == R.MEAS_CH_ARM k) ||
  (List.range 32).any (fun k => a == R.OE_ALARM k) ||
  (List.range 6).any (fun c => a == R.GROOM_PC_CTRL c || within (R.GROOM_PC_SEL c 0) (R.GROOM_PC_SEL c 8) ||
    within (R.GROOM_PC_LO c 0) (R.GROOM_PC_LO c 8) || a == R.GROOM_LOG_CTRL c || a == R.GROOM_LOG_PERIOD c) ||
  (List.range 32).any (fun h => a == R.GROOM_HPC_SEL h || within (R.GROOM_HPC_LO h 0) (R.GROOM_HPC_LO h 4))

/-- Bytes of a node's intermediate pool: the shuttles that wait there or in the reed. -/
def State.interUsed (s : State) (n : Nat) : Nat :=
  (s.shuttles.filter (fun x => x.place == .inter && x.via == n)).foldl (fun a x => x.segs.foldl (fun b g => b + g.2) a) 0

/-- 17 R617: a LOOM_STALL_CFG word waits until each of its node's pools holds no more than its new size. -/
def State.stallReady (s : State) (n : Nat) (v : Word) : Bool :=
  let i := bits v.toNat 0 8
  let m := bits v.toNat 8 8
  let e := bits v.toNat 16 8
  let res := (nodePorts n).foldl (fun a p => a + s.reserveUsed p) 0
  decide (s.workingUsed n + res ≤ i * unit64 ∧ s.interUsed n ≤ m * unit64 ∧ s.egressUsed n ≤ e * unit64)

/-- LOOM_STALL_CFG words that wait, at a boundary. -/
def State.stallApply (s : State) : State :=
  let go := s.stallWait.filter (fun x => s.stallReady x.1 x.2)
  ({ s with stallWait := s.stallWait.filter (fun x => !s.stallReady x.1 x.2) }).forEach go (fun x => State.wr (R.LOOM_STALL_CFG x.1) x.2)

/-- One entry of a record with APPLY takes effect. -/
def State.applyEntry (e : CfgEntry) (s : State) : State :=
  if R.LOOM_STALL_CFG 0 ≤ e.arg ∧ e.arg < R.LOOM_STALL_CFG 36 then
    { s with stallWait := Tbl.ins ((e.arg - R.LOOM_STALL_CFG 0) / 4) e.value s.stallWait }
  else s.applyReg e.arg e.value

/-- A committed record with APPLY takes effect, and its CFG_WRITE completes. -/
def State.cfgJob (j : StoreJob) (s : State) : State :=
  let es := ((cfgEntries j.data).getD []).filter (fun e => e.type == 1 && cfgApplies e.arg)
  let s := (s.forEach es State.applyEntry).stallApply
  s.storeComplete j rOk s.nt es.length

/-- 17 R617: at a pick-cycle boundary, committed records with APPLY take effect. -/
def State.cfgTake (s : State) : State := (({ s with cfgApply := [] }).forEach s.cfgApply State.cfgJob).stallApply

end Sys2Proof.Machine
end

