-- ==== Sys2Proof/Machine/Obs.lean ====
section
/-! DEFINITION. Chapter 17, observability: the counter sets and their records (R600 to R603), snapshots (R604 to R607), the peek window (R609)
and the health event (R612). -/

namespace Sys2Proof.Machine

open Sys2Proof

/-! ### Counter sets (17 R600, R602) -/

/-- 17 R600: the records of a counter set and the bytes of each; `none` for a number not listed, and for a MEAS set. -/
def setSize (set : Nat) : Option (Nat × Nat) :=
  match set with
  | 0x00 => some (275, 256)
  | 0x01 => some (273, 128)
  | 0x02 => some (272, 64)
  | 0x03 => some (262144, 8)
  | 0x04 => some (4096, 64)
  | 0x05 => some (144, 32)
  | 0x06 => some (272, 80)
  | 0x18 => some (32, 32)
  | n => if 0x10 ≤ n ∧ n ≤ 0x15 then some (9, 8) else none

/-- The instrument channel of a MEAS set. -/
def measSet (set : Nat) : Option Nat := if 0x20 ≤ set ∧ set < 0x28 then some (set - 0x20) else none

/-- 17 R599, R602: the words of record `r` of set 0x00 to 0x06, from counters `c`. -/
def ctrWords (c : Tbl Nat) (set r : Nat) : List Nat :=
  let v := fun i => c.getD (ctrKey set r i) 0
  match set with
  | 0x00 =>
    let fates := (List.range 28).map (fun i => v (3 + i))
    [r, v 0, v 1, v 0 + v 1 - fates.foldl (· + ·) 0] ++ fates
  | 0x05 => if r < 16 then [v 0, v 1, 0, 0] else (List.range 4).map v
  | n => (List.range (((setSize n).map (fun x => x.2 / 8)).getD 0)).map v

/-- The words of record `r` of a set, from counters `c` or from the counters of the cores and the heddles. -/
def State.setWords (s : State) (c : Tbl Nat) (set r : Nat) : List Nat :=
  if set < 0x10 then ctrWords c set r
  else if set = 0x18 then (List.range 4).map (fun k => s.get2 (R.GROOM_HPC_LO r k) (R.GROOM_HPC_HI r k))
  else
    let core := set - 0x10
    [if r = 0 then s.get2 (R.GROOM_CYC_LO core) (R.GROOM_CYC_HI core) else s.get2 (R.GROOM_PC_LO core (r - 1)) (R.GROOM_PC_HI core (r - 1))]

/-- A record's bytes. -/
def recordBytes (ws : List Nat) : List Byte := (ws.map (leBytes 8)).flatten

/-! ### Snapshots (17 R604 to R607; 10 R410) -/

/-- 17 R604: whether the wrap bit of a set is set, OBS_WRAP being `w`. -/
def State.setWrap (s : State) (w set : Nat) : Bool :=
  if set < 0x10 then bit w set
  else if set = 0x18 then (List.range 32).any (fun h => s.rd (R.GROOM_HPC_STICKY h) != 0#32)
  else s.rd (R.GROOM_PC_STICKY (set - 0x10)) != 0#32

/-- 17 R604: INSTANCE. -/
def State.setInstance (s : State) (set : Nat) : Nat :=
  if set < 0x10 then 0
  else if set = 0x18 then s.hedResets
  else s.get (if set < 0x13 then F.GROOM_RESTARTS_A else F.GROOM_RESTARTS_B)

/-- 17 R604: the header of a snapshot at boundary `b`, OBS_WRAP being `w`. -/
def State.snapHeader (s : State) (w set b seq : Nat) : List Byte :=
  let (n, size) := (setSize set).getD (0, 0)
  let frozen := decide (0x10 ≤ set) && s.frozen set
  leBytes 2 0x534E ++ leBytes 1 set ++ leBytes 1 (b2n frozen + 2 * b2n (s.setWrap w set) + 4 * b2n s.degraded) ++ leBytes 2 size ++ leBytes 2 0 ++
    leBytes 4 n ++ leBytes 4 s.bootNo ++ leBytes 8 (ct b) ++ leBytes 4 seq ++ leBytes 4 (s.setInstance set) ++ leBytes 32 0

/-- 17 R605: the bytes of a snapshot of a set at boundary `b`: the counts up to the present moment for the boundary that comes, those that the
present pick cycle found for the boundary at which it began. -/
def State.snapBytes (s : State) (set b seq : Nat) : List Byte :=
  let live := decide (s.nt < b)
  let c := if live then s.ctr else s.obs.ctrStart
  let w := if live then (s.rd R.OBS_WRAP).toNat else s.obs.wrapStart
  s.snapHeader w set b seq ++ ((List.range (((setSize set).map (fun x => x.1)).getD 0)).map (fun r => recordBytes (s.setWords c set r))).flatten

/-- 10 R410: the bytes of a measurement set in a buffer of `len` bytes, and the records they move. -/
def State.measBytes (s : State) (k len : Nat) : List Byte × Nat :=
  let recs := (s.mi k).recs
  let n := min recs.length ((len - 32) / 32)
  (leBytes 4 n ++ leBytes 4 (recs.length - n) ++ leBytes 4 (s.get (F.MEAS_CH_LOST_DEAD k)) ++ leBytes 4 (s.get (F.MEAS_CH_LOST_UNPAIRED k)) ++
    leBytes 4 (s.get (F.MEAS_CH_LOST_FULL k)) ++ leBytes 12 0 ++ (recs.take n).flatten, n)

/-- The capture of a set removed or put. -/
def State.setCapture (set : Nat) (c : Option Capture) (s : State) : State :=
  let s := { s with obs := { s.obs with captures := match c with
    | some c => Tbl.ins set c s.obs.captures
    | none => Tbl.del set s.obs.captures } }
  s.when (decide (set < 7)) (State.setB ⟨R.OBS_STATUS, set, 1⟩ c.isSome)

/-- 17 R605, R606: the capture of a SNAP_TAKE at its boundary; SNAP_SEQ advances, or a channel's three counts restart at 0 (10 R410, R411). -/
def State.capture (c : Cmd) (s : State) : State :=
  let set := c.sub.P0 0 8
  match measSet set with
  | some k =>
    let (l, n) := s.measBytes k (c.sub.P2 0 32)
    (s.wr (R.MEAS_CH_LOST k) 0).setCapture set (some { cmd := c, time := c.boundary, data := l, moved := n })
  | none =>
    let seq := (s.obs.snapSeq.getD set 0 + 1) % 2 ^ 32
    let s := { s with obs := { s.obs with snapSeq := Tbl.ins set seq s.obs.snapSeq } }
    s.setCapture set (some { cmd := c, time := c.boundary, data := s.snapBytes set c.boundary seq })

/-- 17 R600, R410: the smallest buffer that a set takes, `none` for a set that does not exist. -/
def snapRoom (set : Nat) : Option Nat :=
  match measSet set with
  | some _ => some 64
  | none => (setSize set).map (fun x => 64 + x.1 * x.2)

/-- SNAP_TAKE: its capture, or a wait for an earlier capture of the set. -/
def specSnapTake : CmdSpec where
  cls := clsSnap
  block := false
  p0 := 0xFF
  p2 := 0xFFFFFFFF
  first := onPick
  check d _ :=
    match snapRoom (d.P0 0 8) with
    | some n => if d.p1.toNat % 64 = 0 ∧ n ≤ d.P2 0 32 then rOk else rBadParam
    | none => rBadParam
  act c s :=
    let set := c.sub.P0 0 8
    if s.obs.captures.has set ∨ s.obs.snapWait.any (fun x => x.sub.P0 0 8 == set) then
      (({ s with obs := { s.obs with snapWait := s.obs.snapWait ++ [c] } }).raise .obs 1 set, .wait)
    else (s.capture c, .wait)

/-- SNAP_TAKE captures a counter set and starts writing it (17 R605). -/
def execSnapTake (d : Submission) (s : State) : Host.Outcome State Fault Refusal := .next (specSnapTake.take 0x30 true d s)

/-- Whether `x` is the begun command of `c`. -/
def sameCmd (c x : Cmd) : Bool := x.sub.ring == c.sub.ring && x.sub.index == c.sub.index && x.op == c.op && x.era == c.era

/-- A begun command ends with the boundary and the LATE mark of `c`. -/
def State.finishAs (c : Cmd) (code q1 : Nat) (s : State) : State :=
  match s.accepted.find? (fun x => x.begun && sameCmd c x) with
  | none => s
  | some x => ({ s with accepted := s.accepted.erase x }).completeCmd c code c.boundary q1 0

/-- 10 R410: `n` records of a channel freed. -/
def State.freeRecs (k n : Nat) (s : State) : State :=
  let s := s.modMi k (fun c => { c with recs := c.recs.drop n })
  s.set (F.MEAS_CH_STATUS_HELD k) (s.mi k).recs.length

/-- Where a buffer of a submission lies: in host memory, or in the data memory of a user task (16 R581). -/
def bufKey (d : Submission) : Nat := d.p1.toNat + (if 128 ≤ d.ring then (d.ring - 127) * 2 ^ 64 else 0)

/-- SNAP_WRITE_DONE: a capture's last byte is written, or its write fails and it is discarded (17 R606). -/
def execSnapWriteDone (set : Nat) (ok : Bool) (s : State) : Host.Outcome State Fault Refusal :=
  match Tbl.find set s.obs.captures with
  | none => .next s
  | some c =>
    let s := s.setCapture set none
    let a := c.cmd.sub.p1.toNat
    if ok then
      let s := { s with rxData := Tbl.ins (bufKey c.cmd.sub) c.data s.rxData }
      let s := match measSet set with
        | some k => s.freeRecs k c.moved
        | none => s
      .next (s.finishAs c.cmd rOk c.data.length)
    else .next ((s.hifErr 3 c.cmd.sub.ring a).finishAs c.cmd rDmaError 0)

/-- 17 R606: at a pick cycle, the captures that waited for an earlier one of their set, late. -/
def State.waitingSnaps (s : State) : State :=
  let go := s.obs.snapWait.filter (fun c => !s.obs.captures.has (c.sub.P0 0 8))
  s.forEach go (fun c s =>
    let set := c.sub.P0 0 8
    if s.obs.captures.has set then s
    else ({ s with obs := { s.obs with snapWait := s.obs.snapWait.erase c } }).capture { c with boundary := s.nt, late := true })

/-- SNAP_FREEZE and SNAP_THAW. -/
def specFreeze (on : Bool) : CmdSpec where
  cls := clsSnap
  block := false
  p0 := 0xFF
  p1 := 0
  p2 := 0
  first := onPick
  check d _ :=
    let set := d.P0 0 8
    if 0x10 ≤ set ∧ set ≤ 0x18 ∧ (setSize set).isSome then rOk else rBadParam
  act c s := (s.setB ⟨R.OBS_STATUS, 8 + (c.sub.P0 0 8 - 0x10), 1⟩ on, .done rOk 0 0)

/-- SNAP_FREEZE stops the counters of a core or of the heddles (16 R587; 17 R607). -/
def execSnapFreeze (d : Submission) (s : State) : Host.Outcome State Fault Refusal := .next ((specFreeze true).take 0x31 true d s)

/-- SNAP_THAW restarts them (16 R587; 17 R607). -/
def execSnapThaw (d : Submission) (s : State) : Host.Outcome State Fault Refusal := .next ((specFreeze false).take 0x32 true d s)

/-! ### The peek window (17 R609) -/

/-- The record that OBS_PEEK_SEL names, as the present pick cycle found it; 0 where there is none. -/
def State.peekRecord (s : State) : List Byte :=
  let set := s.get F.OBS_PEEK_SEL_SET
  let r := s.get F.OBS_PEEK_SEL_RECORD
  match setSize set with
  | some (n, _) => if r < n then recordBytes (s.setWords s.obs.ctrStart set r) else []
  | none => []

/-- A read of OBS_PEEK_DATA word `w` by reader `who`: word 0 latches the record, and its last word releases it. -/
def State.peekRead (who w : Nat) (s : State) : Word × State :=
  let l := if w = 0 then s.peekRecord else (Tbl.find who s.obs.peek).getD s.peekRecord
  let held := w = 0 ∨ s.obs.peek.has who
  let last := decide (l.length ≤ 4 * w + 4)
  let peek := if held ∧ !last then Tbl.ins who l s.obs.peek else Tbl.del who s.obs.peek
  (BitVec.ofNat 32 (leAt l (4 * w) 4), { s with obs := { s.obs with peek := peek } })

/-- A write of OBS_PEEK_SEL: the latch is dropped. -/
def State.peekSel (v : Word) (s : State) : State := ({ s with obs := { s.obs with peek := [] } }).wr R.OBS_PEEK_SEL v

/-- OBS_PEEK_SEL_WRITE: the host selects a record (17 R609). -/
def execObsPeekSelWrite (v : BitVec 32) (s : State) : Host.Outcome State Fault Refusal := .next (s.peekSel v)

/-- OBS_PEEK_READ: the host reads OBS_PEEK_DATA word `w` (17 R609). -/
def execObsPeekRead (w : Nat) (s : State) : Host.Outcome State Fault Refusal :=
  if w < 64 then
    let (v, s) := s.peekRead 0 w
    .next { s with rdata := v }
  else .next s

/-! ### The health event (17 R612) -/

/-- HEALTH_EVENT: the HEALTH event of a second that is a multiple of HEALTH_S (17 R610, R612). -/
def execHealthEvent (s : State) : Host.Outcome State Fault Refusal :=
  if s.obs.healthDue then .next (({ s with obs := { s.obs with healthDue := false } }).event 0x1310 0 s.healthWord.toNat) else .next s

end Sys2Proof.Machine
end

