-- ==== Sys2Proof/Machine/Access.lean ====
section
/-! DEFINITION. The host's register accesses: reads, writes and refused accesses of BAR0 and BAR2 (00 R6; 04 R122, R126, R133), with the reads
that latch (10 R397; 11 R449; 13 R484). -/

namespace Sys2Proof.Machine

open Sys2Proof

/-- 04 R133: the ring and offset of an occupied address of BAR2. -/
def doorbellOf (a : Nat) : Option (Nat × Nat) :=
  let o := a % 0x1000
  if a < 0x80000 ∧ (o = 0 ∨ o = 4 ∨ o = 8 ∨ o = 0x10 ∨ o = 0x14) then some (a / 0x1000, o) else none

/-- 04 R122: an access that is not a 32-bit access to an occupied address: a read returns 0, a write does nothing, and HIF_ERR.ACCESS sets. -/
def State.badAccess (read : Bool) (a : Nat) (s : State) : State := (if read then { s with rdata := 0 } else s).hifErr 0 0xFFFF a

/-- 04 R133: a read of an occupied address of BAR2; the write-only doorbells read 0 (00 R6). -/
def State.doorbellRead (s : State) (r o : Nat) : Word :=
  BitVec.ofNat 32 (if o = 0x10 then (s.ring r).sqHead else if o = 0x14 then (s.ring r).cqTail else 0)

/-- The word of OBS_PEEK_DATA at an address. -/
def peekWord (a : Nat) : Option Nat := if R.OBS_PEEK_DATA 0 ≤ a ∧ a < R.OBS_PEEK_DATA 64 then some ((a - R.OBS_PEEK_DATA 0) / 4) else none

/-- A 32-bit read of BAR0 or BAR2 by the host. -/
def State.readReg (bar2 : Bool) (a : Nat) (s : State) : State :=
  if bar2 then
    match doorbellOf a with
    | some (r, o) => { s with rdata := s.doorbellRead r o }
    | none => s.badAccess true a
  else if !occupied a then s.badAccess true a
  else
    let (v, s) := match peekWord a with
      | some w => s.peekRead 0 w
      | none => s.regRead 0 a
    { s with rdata := v }

/-- LATCHING_READ: a read of a register; a _LO register latches its _HI register until that is read (00 R6; 11 R449). -/
def execLatchingRead (bar2 : Bool) (a : Nat) (s : State) : Host.Outcome State Fault Refusal := .next (s.readReg bar2 a)

/-- TIME_LATCH_READ: a read of TIME_SEC_LO (`sec`) or of TIME_CT_LO, which captures all five time registers (13 R484). -/
def execTimeLatchRead (sec : Bool) (s : State) : Host.Outcome State Fault Refusal :=
  .next (s.readReg false (if sec then R.TIME_SEC_LO else R.TIME_CT_LO))

/-- TIME_NS_READ: a read of TIME_NS, which releases the time latch (13 R484). -/
def execTimeNsRead (s : State) : Host.Outcome State Fault Refusal := .next (s.readReg false R.TIME_NS)

/-- TAP_LAST_READ: a read of word 0 of MEAS_TAP_LAST of tap `t`, which latches its words 1 to 7 (10 R397). -/
def execTapLastRead (t : Nat) (s : State) : Host.Outcome State Fault Refusal :=
  if t < 286 then .next (s.readReg false (R.MEAS_TAP_LAST t)) else .next s

/-- INVALID_ACCESS: an access of `n` bytes at `a` that is not naturally aligned, not of 32 bits, or of no register (04 R122). -/
def execInvalidAccess (bar2 read : Bool) (a n : Nat) (s : State) : Host.Outcome State Fault Refusal :=
  if n = 4 ∧ (if bar2 then (doorbellOf a).isSome else occupied a) then .next s else .next (s.badAccess read a)

/-- A 32-bit write of `v` to an occupied register of BAR0. -/
def State.hostWrite (a : Nat) (v same : Word) (s : State) : State :=
  if a = R.SYS_CTRL then (s.when (v.getLsbD 0) State.runRequest).when (v.getLsbD 1) State.relinkDone
  else if a = R.RST_SWREQ then s.swReq (List.range 10) v
  else if a = R.RST_DBG_REQ then s.dbgReq v
  else if a = R.RST_FORCE then s.rstForce v
  else if a = R.HIF_DL_CTRL then s.dlGo v
  else if a = R.OBS_PEEK_SEL then s.peekSel v
  else s.regWrite a v same

/-- REGISTER_WRITE: a 32-bit write of BAR0 or BAR2 acts by the register's access codes (00 R6, R7; 04 R126, R133). -/
def execRegisterWrite (bar2 : Bool) (a : Nat) (w : RegWr) (s : State) : Host.Outcome State Fault Refusal :=
  if bar2 then
    match doorbellOf a with
    | some (r, o) => .next (s.when (o < 0x10) (State.doorbell r o w.v))
    | none => .next (s.badAccess false a)
  else if occupied a then .next (s.hostWrite a w.v w.same)
  else .next (s.badAccess false a)

end Sys2Proof.Machine
end

