-- ==== Sys2Proof/Machine/Power.lean ====
section
/-! DEFINITION. Chapter 2: the supply and the shutdown sequence (R41 to R50, R74), VIO (R47, R48), thermal warnings (R54, R73), the states of
the lands (R63), and the test access port (R77). -/

namespace Sys2Proof.Machine

open Sys2Proof

/-! ### Thermal readings (02 R54, R71, R73, R74) -/

/-- TS0 to TS15 read, in 0.125 °C units: PWR_TEMP.DIE_MAX follows. -/
def State.dieRead (ts : List (Nat × Int)) (s : State) : State :=
  let put := fun (t : Tbl Int) (x : Nat × Int) => if x.1 < 16 then Tbl.ins x.1 x.2 t else t
  let s := { s with dieTemp := ts.foldl put s.dieTemp }
  let t := fun i => s.dieTemp.getD i 0
  s.setI F.PWR_TEMP_DIE_MAX ((List.range 16).foldl (fun m i => max m (t i)) (t 0))

/-- Some die sensor reads at least `c` degrees. -/
def State.dieAtLeast (s : State) (c : Nat) : Bool := s.dieTemp.any (fun (x : Nat × Int) => decide (((8 * c : Nat) : Int) ≤ x.2))

/-- Whether the module is supplied: VIN in range with ENABLE's converters on, or shut down for temperature with VIN in range. -/
def State.supplied (s : State) : Bool := s.supply == .on || (s.supply == .thermal && s.vinOk)

/-- DIE_WARN_C and OE_WARN_C, clamped where they are used: PWR_THERM_CFG holds the value as written (DESIGN CHOICE, log entry 75). -/
def State.dieWarnC (s : State) : Nat := max 60 (min 110 (s.get F.PWR_THERM_CFG_DIE_WARN_C))
def State.oeWarnC (s : State) : Nat := max 50 (min 85 (s.get F.PWR_THERM_CFG_OE_WARN_C))

/-- Some die sensor is at or above DIE_WARN_C. -/
def State.dieHot (s : State) : Bool := s.dieAtLeast s.dieWarnC

/-- Some engine sensor is at or above OE_WARN_C. -/
def State.oeHot (s : State) : Bool := (List.range 32).any (fun k => decide (((8 * s.oeWarnC : Nat) : Int) ≤ s.getI (F.OE_TEMP_OTS k)))

/-- DIE_WARN_RISE: a die sensor reaches DIE_WARN_C (02 R54). -/
def execDieWarnRise (s : State) : Host.Outcome State Fault Refusal :=
  if s.supplied ∧ s.dieHot ∧ !s.on F.PWR_STATUS_DIE_WARN then .next ((s.set F.PWR_STATUS_DIE_WARN 1).raise .pwr 1 0) else .next s

/-- DIE_WARN_FALL: every die sensor is below DIE_WARN_C (02 R54, R73). -/
def execDieWarnFall (s : State) : Host.Outcome State Fault Refusal :=
  if s.dieHot then .next s else .next (s.set F.PWR_STATUS_DIE_WARN 0)

/-- OE_WARN_RISE: an engine sensor reaches OE_WARN_C (02 R54). -/
def execOeWarnRise (s : State) : Host.Outcome State Fault Refusal :=
  if s.supplied ∧ s.oeHot ∧ !s.on F.PWR_STATUS_OE_WARN then .next ((s.set F.PWR_STATUS_OE_WARN 1).raise .pwr 2 0) else .next s

/-- OE_WARN_FALL: every engine sensor is below OE_WARN_C (02 R54, R73). -/
def execOeWarnFall (s : State) : Host.Outcome State Fault Refusal :=
  if s.oeHot then .next s else .next (s.set F.PWR_STATUS_OE_WARN 0)

/-! ### The shutdown sequence (02 R46, R50, R74) -/

/-- The ledger is closed by a SHUTDOWN record, `up` microseconds after the release of AON (03 R101). The spec gives its OUTCOME no value: OK, 0x01
(DESIGN CHOICE, log entry 76). -/
def State.closeLedger (up : Nat) (s : State) : State := s.ledgerAdd 0x0F 1 0 up

/-- Everything powered down and held; the causes of resets stay, and in a thermal shutdown the whole always-on logic, which stays supplied. -/
def State.powerDown (goal : Supply) (s : State) : State :=
  let t := s.cleared.forEach (if goal = .thermal then aonWords else [R.RST_CAUSE]) (fun a => State.wr a (s.rd a))
  { ((t.set F.PWR_BP_STATUS_KEEP_ACTIVE 0).set F.RST_DOMAIN_HELD 0x1FF) with supply := goal, order := 0, wasBusy := s.inProgress }

/-- BROWN_OUT_ASSERT: VIN falls through the brown-out threshold (02 R50; 03 R83). In standby and thermal shutdown nothing runs that could be
shut down. -/
def execBrownOutAssert (up : Nat) (s : State) : Host.Outcome State Fault Refusal :=
  let s := { s with vinOk := false }
  match s.supply with
  | .on => .next { ((s.closeLedger up).systemReset 1) with supply := .brownOut }
  | .standby => .next { s with supply := .off }
  | _ => .next s

/-- ENABLE_FALL: the shutdown sequence, then standby (02 R46). In a thermal shutdown nothing is left to shut down, and the module stays in it
until R74 lets it leave (DESIGN CHOICE, log entry 75). -/
def execEnableFall (up : Nat) (s : State) : Host.Outcome State Fault Refusal :=
  let s := { s with enable := false }
  match s.supply with
  | .on => .next ((s.closeLedger up).powerDown .standby)
  | _ => .next s

/-- DIE_SHUTDOWN_TRIP: a die sensor reaches its trip, which lies from 113 °C to 117 °C; the shutdown sequence runs and every domain is held
(02 R71, R74). -/
def execDieShutdownTrip (up : Nat) (s : State) : Host.Outcome State Fault Refusal :=
  if s.supply = .on ∧ s.dieAtLeast 113 then
    .next ((s.closeLedger up).powerDown .thermal)
  else .next s

/-- The test access port at power-up: the instruction is IDCODE, and what the boundary register holds is a free value (02 R77; IEEE 1149.1, log
entry 27). -/
def State.tapPowerUp (s : State) : State :=
  let (v, s) := s.free 77
  { s with tap := { s.tap with instr := .idcode, driven := [], boundary := (List.range 42).map (fun i => Nat.testBit v i) } }

/-- PWR_WARN asserts (02 R42). -/
def State.warnVin (s : State) : State := if s.on F.PWR_STATUS_PWR_WARN then s else (s.set F.PWR_STATUS_PWR_WARN 1).raise .pwr 0 0

/-- The converters start: a power-on reset, with PWR_WARN asserted where VIN has not yet risen through its clear threshold (02 R42, R49). -/
def State.powerUp (warn : Bool) (s : State) : State :=
  let s := (({ s with supply := .on }).systemReset 0).tapPowerUp
  (s.wr R.PWR_STATUS 0).when warn State.warnVin

/-- POWER_ON: VIN rises through brown-out release (02 R42, R49, R74; 03 R83, R92). `lost`: the always-on logic had lost its supply, so that
this is a power-on; else the brown-out reset goes on (log entry 70). `ts`: the die sensors, which a thermal shutdown must find below 95 °C. -/
def execPowerOn (lost : Bool) (ts : List (Nat × Int)) (s : State) : Host.Outcome State Fault Refusal :=
  let cycled := !s.vinOk
  let s := { s with vinOk := true }
  match s.supply with
  | .off => .next (if s.enable then s.powerUp true else { s with supply := .standby })
  | .brownOut =>
    .next (if !s.enable then { s with supply := .standby } else if lost then s.powerUp true
      else (({ s with supply := .on }).set F.PWR_STATUS_PWR_WARN 1).raise .pwr 0 0)
  | .thermal =>
    if !cycled then .next s
    else
      let s := s.dieRead ts
      .next (if s.dieAtLeast 95 then s.warnVin else if s.enable then s.powerUp true else { s with supply := .standby })
  | _ => .next s

/-- ENABLE_RISE: ENABLE rises with VIN above brown-out release, having been low for at least 10 ms where `long` (02 R46, R49, R74). `warn`: VIN
has not risen through the PWR_WARN clear threshold; `ts`: the die sensors. -/
def execEnableRise (long warn : Bool) (ts : List (Nat × Int)) (s : State) : Host.Outcome State Fault Refusal :=
  let s := { s with enable := true }
  match s.supply with
  | .standby => .next (s.powerUp warn)
  | .thermal => let s := s.dieRead ts; if long ∧ s.vinOk ∧ !s.dieAtLeast 95 then .next (s.powerUp warn) else .next s
  | _ => .next s

/-- PWR_WARN_ASSERT: VIN falls through the PWR_WARN assert threshold (02 R41, R42). -/
def execPwrWarnAssert (s : State) : Host.Outcome State Fault Refusal :=
  .next (s.when s.supplied State.warnVin)

/-- PWR_WARN_CLEAR: VIN rises through the PWR_WARN clear threshold (02 R41, R42). -/
def execPwrWarnClear (s : State) : Host.Outcome State Fault Refusal := .next (s.set F.PWR_STATUS_PWR_WARN 0)

/-- OVERVOLTAGE_EVENT: VIN rises through the over-voltage threshold; the module keeps running (02 R43). -/
def execOvervoltageEvent (s : State) : Host.Outcome State Fault Refusal :=
  if s.supply = .on then .next (s.raise .pwr 4 0) else .next s

/-! ### VIO (02 R47, R48) -/

/-- VIO_RISE: VIO rises to a level in mV; its range is detected once, and not again while VIO stays (02 R47). -/
def execVioRise (mv : Nat) (s : State) : Host.Outcome State Fault Refusal :=
  if s.vio ≠ .absent then .next s
  else if 1710 ≤ mv ∧ mv ≤ 1890 then .next { s with vio := .v1p8 }
  else if 3135 ≤ mv ∧ mv ≤ 3465 then .next { s with vio := .v3p3 }
  else .next s

/-- VIO_FALL: VIO falls away; the outputs go high-impedance, and the range is detected afresh at its return (02 R48). -/
def execVioFall (s : State) : Host.Outcome State Fault Refusal := .next { s with vio := .absent }

/-! ### Lands (02 R48, R63, R73) -/

/-- The lands of R63's table. -/
inductive Land where
  | keep (n : Nat)
  | ppsout (n : Nat)
  | frmout (n : Nat)
  | trd (n : Nat)
  | todout
  | pwrWarnN
  | thermN
  | tdo
  | clkout (n : Nat)
  | transmitter
  | resetN
  | tms
  | tdi
  | tck
  | trstN
  deriving DecidableEq, Repr

/-- What a land shows: as R63's table has it, or as the test access port drives it. `unstated` is the table's dash. -/
inductive LandShows where
  | pulledLow | highZ | drivenLow | wave | idle | asProgrammed | input | inputPullUp | inputPullDown | unstated
  | scan (high : Bool)
  deriving DecidableEq, Repr

/-- 02 R77: the lands that the boundary register covers, in the order of R66 and R77 and with one cell for each (log entry 23): RESET_N,
PERST_N, PPSIN0, PPSIN1, TODIN; PPSOUT, FRMOUT, TRD, TODOUT; BYPASS_KEEP, PWR_WARN_N, THERM_N; CLKIN0, CLKIN1; CLKOUT; MI. -/
def boundaryCells : Nat := 42

/-- The cell of an output land; the board lanes, the PCIe lanes and the test access port have none. -/
def Land.cell : Land → Option Nat
  | .ppsout n => some (5 + n)
  | .frmout n => some (7 + n)
  | .trd n => some (9 + n)
  | .todout => some 17
  | .keep n => some (18 + n)
  | .pwrWarnN => some 22
  | .thermN => some 23
  | .clkout n => some (26 + n)
  | _ => none

/-- 02 R73: THERM_N is low: a warning, or a thermal shutdown. -/
def State.thermLow (s : State) : Bool := s.supply == .thermal || s.on F.PWR_STATUS_DIE_WARN || s.on F.PWR_STATUS_OE_WARN

/-- 02 R77: the port works only with VIN in range, ENABLE high and VIO present. -/
def State.tapLive (s : State) : Bool := s.supplied && s.enable && s.vio != .absent

/-- 02 R63: the state of a land that the module itself gives it. While brown-out is asserted the module still drives its lands, as in reset
(R50, R61). -/
def State.landOwn (s : State) (l : Land) : LandShows :=
  let off := !(s.supplied || s.supply == .brownOut) || s.vio == .absent
  let reset := !s.resetN || s.get F.RST_DOMAIN_HELD == 0x1FF
  match l with
  | .keep n => if off then .pulledLow else if s.on (bpBit R.PWR_BP_STATUS 0 n) then .wave else .drivenLow
  | .ppsout _ | .frmout _ | .trd _ | .todout => if off then .highZ else if reset then .drivenLow else .asProgrammed
  | .pwrWarnN => if off || !s.on F.PWR_STATUS_PWR_WARN then .highZ else .drivenLow
  | .thermN => if off || !s.thermLow then .highZ else .drivenLow
  | .tdo => .highZ
  | .clkout _ | .transmitter => if off then .highZ else if reset then .idle else .asProgrammed
  | .resetN => if off then .unstated else if reset then .inputPullUp else .input
  | .tms | .tdi => if off then .unstated else .inputPullUp
  | .tck | .trstN => if off then .unstated else .inputPullDown

/-- The state of a land: the test access port drives the outputs that the boundary register covers under EXTEST and CLAMP, and floats them
under HIGHZ (02 R77; IEEE 1149.1); the pull-downs of BYPASS_KEEP stay (R61). TDO is high-impedance unless shifting, which is within a step of
the port. -/
def State.land (s : State) (l : Land) : LandShows :=
  match l.cell, s.tapLive, s.tap.instr with
  | some i, true, .extest => .scan (s.tap.driven.getD i false)
  | some i, true, .clamp => .scan (s.tap.driven.getD i false)
  | some _, true, .highz => (match l with
    | .keep _ => .pulledLow
    | _ => .highZ)
  | _, _, _ => s.landOwn l

/-! ### The test access port (02 R77) -/

/-- The bits that leave a register that captured `cap` while `tdi` is shifted in. -/
def shiftOut (cap tdi : List Bool) : List Bool := (cap ++ tdi).take tdi.length

/-- What the register then holds. -/
def shiftIn (cap tdi : List Bool) : List Bool := (cap ++ tdi).drop tdi.length

/-- The 42 cells as captured: those not given are 0. -/
def cells (l : List Bool) : List Bool := (List.range boundaryCells).map (fun i => l.getD i false)

/-- The 32 bits of IDCODE, least significant first. -/
def idcodeBits : List Bool := (List.range 32).map (fun i => Nat.testBit 0x15120C75 i)

/-- An instruction that works on the one-bit bypass register, the lands driven by `driven`. -/
def State.tapBypass (i : TapInstr) (driven tdi : List Bool) (s : State) : State :=
  if s.tapLive then { s with tap := { s.tap with instr := i, driven := driven, tdo := shiftOut [false] tdi } } else s

/-- JTAG_BYPASS: TDI reaches TDO through the bypass register (02 R77; IEEE 1149.1). -/
def execJtagBypass (tdi : List Bool) (s : State) : Host.Outcome State Fault Refusal := .next (s.tapBypass .bypass [] tdi)

/-- JTAG_IDCODE: the identification register is captured and shifted out (02 R77). -/
def execJtagIdcode (tdi : List Bool) (s : State) : Host.Outcome State Fault Refusal :=
  if s.tapLive then .next { s with tap := { s.tap with instr := .idcode, driven := [], tdo := shiftOut idcodeBits tdi } } else .next s

/-- JTAG_SAMPLE_PRELOAD: the boundary register captures the lands, `lands`, and is loaded while it is shifted out (02 R77). -/
def execJtagSamplePreload (lands tdi : List Bool) (s : State) : Host.Outcome State Fault Refusal :=
  if s.tapLive then
    .next { s with tap := { instr := .samplePreload, boundary := shiftIn (cells lands) tdi, driven := [], tdo := shiftOut (cells lands) tdi } }
  else .next s

/-- JTAG_EXTEST: the boundary register captures the lands, is loaded, and drives the outputs (02 R77). -/
def execJtagExtest (lands tdi : List Bool) (s : State) : Host.Outcome State Fault Refusal :=
  if s.tapLive then
    let b := shiftIn (cells lands) tdi
    .next { s with tap := { instr := .extest, boundary := b, driven := b, tdo := shiftOut (cells lands) tdi } }
  else .next s

/-- JTAG_CLAMP: the outputs hold what the boundary register was loaded with; the bypass register is selected (02 R77). -/
def execJtagClamp (tdi : List Bool) (s : State) : Host.Outcome State Fault Refusal := .next (s.tapBypass .clamp s.tap.boundary tdi)

/-- JTAG_HIGHZ: every output is high-impedance; the bypass register is selected (02 R77). -/
def execJtagHighz (tdi : List Bool) (s : State) : Host.Outcome State Fault Refusal := .next (s.tapBypass .highz [] tdi)

/-- TAP_RESET: TRST_N asserts; the port executes IDCODE and the lands are the module's own (02 R77). -/
def execTapReset (s : State) : Host.Outcome State Fault Refusal :=
  .next { s with tap := { s.tap with instr := .idcode, driven := [] } }

end Sys2Proof.Machine
end

