-- ==== Sys2Proof/Machine/Accept.lean ====
section
/-! DEFINITION. The two halves of a ring command apart: its acceptance (04 R129, R140, R151 to R157) and its boundary (01 R20 to R25), and the
services of the user tasks (16 R581, R582). -/

namespace Sys2Proof.Machine

open Sys2Proof

/-! ### Opcodes (04 R151 to R155) -/

/-- One of two forms by the ACTION byte of a block. -/
def byAction (d : Submission) (a b : CmdSpec) : CmdSpec := if d.b 0 = 1 then b else a

/-- The command of an opcode, by the ACTION its block gives; an ACTION that no form has fails every form's check. `none` for an opcode unknown
in every class. -/
def opSpec (op : Nat) (d : Submission) : Option CmdSpec :=
  let a := d.b 0
  match op with
  | 0x10 => some specRuleWrite
  | 0x11 => some specRuleSwap
  | 0x12 => some specRuleClear
  | 0x20 => some specFdbAdd
  | 0x21 => some specFdbDel
  | 0x22 => some specFdbFlush
  | 0x30 => some specSnapTake
  | 0x31 => some (specFreeze true)
  | 0x32 => some (specFreeze false)
  | 0x40 => some (byAction d specPortConfigure specPortVlan)
  | 0x41 => some (specLane (min a 4))
  | 0x42 => some (specEngine (min a 7))
  | 0x43 => some specReset
  | 0x44 => some (if d.P0 0 4 = 15 then specBypassHold else specBypassPair)
  | 0x45 => some specImageWrite
  | 0x46 => some specImageClear
  | 0x47 => some specCfgWrite
  | 0x48 => some (specCalRun (min a 6))
  | 0x49 => some specCalStore
  | 0x4A => some specShedSet
  | 0x4B => some specFilterSet
  | 0x4C => some (specHeddle (min a 2))
  | 0x4D => some specPicks
  | 0x4E => some (byAction d specMirrorSession specMirrorGroup)
  | 0x4F => some (byAction d specRationsEgress specRationsWeight)
  | 0x50 => some (byAction d specFrerWrite specFrerReset)
  | 0x51 => some (specRef (min a 3))
  | 0x52 => some specSteer
  | 0x53 => some (specAdjust (min a 2))
  | 0x54 => some specRole
  | 0x55 => some specKpl
  | 0x56 => some (byAction d specPtpPort specPtpClock)
  | 0x57 => some (specClkout (min a 3))
  | 0x58 => some specAlign
  | 0x59 => some (byAction d specTreadleProgram specTreadleStop)
  | 0x5A => some (specGnss (min a 3))
  | 0x60 => some (byAction d specRingConfigure specRingDisable)
  | 0x61 => some specAttnAck
  | 0x62 => some specCancel
  | 0x63 => some specNop
  | _ => none

/-- What follows when a command of opcode `op` may have acted: calibration runs start, disabled rings stop. -/
def State.afterAct (op : Nat) (s : State) : State :=
  if op = 0x48 then State.calGo 4 s else if op = 0x60 then s.allRingStops else s

/-! ### Acceptance (04 R156) -/

/-- 04 R140, R127: an opcode that the ring's class does not have. -/
def State.badOpcode (err : Bool) (op : Nat) (d : Submission) (s : State) : State :=
  (s.when err (State.hifErr 4 d.ring d.index)).completeCmd (s.newCmd op d s.nt) rBadOpcode s.nt 0 0

/-- 04 R140: a submission of a class whose opcodes do not include its own. -/
def State.refuseOpcode (cls op : Nat) (d : Submission) (s : State) : State :=
  if s.fetches cls d && !((cls == clsFrameRx || cls == clsLog) && s.cqRoom d.ring == 0) then (s.fetched d).badOpcode true op d else s

/-- The next submission of a ring taken, by the ring's class and the descriptor's opcode. -/
def State.acceptNext (op : Nat) (d : Submission) (s : State) : State :=
  let cls := s.cls d.ring
  if cls = clsFrameTx ∧ op = 1 then s.txFrame d
  else if cls = clsFrameRx ∧ op = 2 then s.takeRxBuffer d
  else if cls = clsLog ∧ op = 3 then s.takeLogBuffer d
  else if cls = 0 ∨ cls = clsTs ∨ cls = clsEvent ∨ 9 < cls then s
  else match opSpec op d with
    | some k => if k.cls = cls then (k.take op false d s).when (s.fetches cls d) (State.afterAct op) else s.refuseOpcode cls op d
    | none => s.refuseOpcode cls op d

/-- SUBMISSION_ACCEPT: the next submission of a ring is fetched from its entry, a descriptor of 32 bytes, and refused or accepted; an accepted
command waits for its boundary (04 R131, R137, R156). A descriptor that cannot be read (`none`) sets HIF_ERR.DMA_READ and is not taken (R127;
log entry 78). -/
def execSubmissionAccept (e : SqEntry) (x : Fetched) (s : State) : Host.Outcome State Fault Refusal :=
  match x.desc with
  | none =>
    .next (s.when (s.fetches (s.cls e.ring) { ring := e.ring, index := e.index }) (State.hifErr 2 e.ring (s.sqAddr e.ring e.index)))
  | some l => .next (s.acceptNext (byteAt l 0) (.ofDesc e.ring e.index l x.block x.at0))

/-! ### Boundaries (01 R20 to R25) -/

/-- The first command whose boundary has come acts. -/
def State.actDue (s : State) : State :=
  match s.dueCmd with
  | none => s
  | some c =>
    match opSpec c.op c.sub with
    | some k => ((k.actNow c { s with accepted := s.accepted.erase c }).updPending c).afterAct c.op
    | none => s

/-- EFFECTIVE_AT_BOUNDARY: an accepted command's boundary has come, and it acts (01 R20, R25). -/
def execEffectiveAtBoundary (s : State) : Host.Outcome State Fault Refusal := if s.groomUp then .next s.actDue else .next s

/-! ### User tasks (16 R580 to R582) -/

/-- Whether task `t` runs: started, not faulted, not waiting, with a groom in service. -/
def State.taskRuns (s : State) (t : Nat) : Bool :=
  decide (t < 16) && bit (s.rd R.GROOM_TASK_STATUS).toNat t && s.groomUp && ((s.tasks.getD t {}).wait == none)

/-- A service of a running task. -/
def State.service (t : Nat) (f : State → State) (s : State) : Host.Outcome State Fault Refusal := .next (s.when (s.taskRuns t) f)

/-- The value a task's read returned. -/
def State.taskValue (t v : Nat) (s : State) : State := s.modTask t (fun x => { x with value := v })

/-- READ_REG of `a`: the tasks' latches are their own. -/
def State.taskRead (t a : Nat) (s : State) : State :=
  if !occupied a then (s.taskValue t 0).hifErr 0 0xFFFF a
  else
    let (v, s) := match peekWord a with
      | some w => s.peekRead 1 w
      | none => s.regRead 1 a
    s.taskValue t v.toNat

/-- TASK_READ_REG: a user task reads one BAR0 register (16 R581). -/
def execTaskReadReg (t a : Nat) (s : State) : Host.Outcome State Fault Refusal := s.service t (State.taskRead t a)

/-- TASK_READ_TIME: a user task reads the compact time, with TIME_STATUS.QUALITY above it (16 R581). -/
def execTaskReadTime (t : Nat) (s : State) : Host.Outcome State Fault Refusal :=
  s.service t (fun s => s.taskValue t (ct s.nt + s.quality * 2 ^ 64))

/-- 16 R582: a task stopped. -/
def State.taskFault (t : Nat) (s : State) : State :=
  let s := (s.set ⟨R.GROOM_TASK_STATUS, t, 1⟩ 0).set ⟨R.GROOM_TASK_STATUS, 16 + t, 1⟩ 1
  (s.modTask t (fun x => { x with wait := none, due := false })).raise .groom 10 t

/-- TASK_FAULT: a task breaks one of its limits and is stopped (16 R582). -/
def execTaskFault (t : Nat) (s : State) : Host.Outcome State Fault Refusal :=
  if t < 16 ∧ bit (s.rd R.GROOM_TASK_STATUS).toNat t then .next (s.taskFault t) else .next s

/-- The core on which the tasks' outputs are taken: core 2 of the leader. -/
def State.taskCore (s : State) : Nat := if s.leaderB then 5 else 2

/-- READ_PC of counter `k` of the task's core: 0 the cycle counter, 1 to 8 PC0 to PC7. Without USER_READ it is a task fault. -/
def State.taskReadPc (t k : Nat) (s : State) : State :=
  let c := s.taskCore
  if !bit (s.get F.GROOM_TASK_CFG_USER_READ) c then s.taskFault t
  else if 8 < k then s
  else s.taskValue t (if k = 0 then s.get2 (R.GROOM_CYC_LO c) (R.GROOM_CYC_HI c) else s.get2 (R.GROOM_PC_LO c (k - 1)) (R.GROOM_PC_HI c (k - 1)))

/-- TASK_READ_PC: a user task reads a counter of its own core (16 R581, R582). -/
def execTaskReadPc (t k : Nat) (s : State) : Host.Outcome State Fault Refusal := s.service t (State.taskReadPc t k)

/-- TASK_RAISE: a user task writes one EVENT completion with the user code (16 R581; 17 R610). -/
def execTaskRaise (t : Nat) (detail : BitVec 32) (s : State) : Host.Outcome State Fault Refusal :=
  s.service t (State.event 0x1400 t detail.toNat)

/-- 16 R581: the opcodes that SUBMIT refuses. -/
def taskForbidden : List Nat := [0x43, 0x45, 0x46, 0x47, 0x49, 0x60, 0x61]

/-- A CANCEL that names no command of its own task but one of another's. -/
def State.cancelsOther (s : State) (op : Nat) (d : Submission) : Bool :=
  op == 0x62 && !(s.outstanding d.ring).any (fun c => c.sub.index == d.P0 0 16) &&
    s.accepted.any (fun c => decide (128 ≤ c.sub.ring) && c.sub.index == d.P0 0 16)

/-- SUBMIT: the command of a task, whose ring number stands above the host's rings and whose index counts its submissions. -/
def State.taskSubmit (t op : Nat) (d : Submission) (s : State) : State :=
  let n := (s.tasks.getD t {}).subs
  let d := { d with ring := 128 + t, index := n % 65536 }
  let busy := (s.outstanding d.ring).length
  if !s.run ∨ 8 ≤ busy ∨ 1024 ≤ s.accepted.length ∨ (d.fence ∧ busy ≠ 0) then s
  else
    let s := s.modTask t (fun x => { x with subs := x.subs + 1 })
    if taskForbidden.contains op ∨ s.cancelsOther op d then s.badOpcode false op d
    else match opSpec op d with
      | some k => (k.take op false d s).afterAct op
      | none => s.badOpcode true op d

/-- TASK_SUBMIT: a user task submits a MGMT, RULE, FDB or SNAP descriptor (16 R581). -/
def execTaskSubmit (t op : Nat) (d : Submission) (s : State) : Host.Outcome State Fault Refusal := s.service t (State.taskSubmit t op d)

/-- TASK_WAIT: a user task suspends itself (16 R581). -/
def execTaskWait (t : Nat) (w : WaitFor) (s : State) : Host.Outcome State Fault Refusal :=
  s.service t (State.modTask t (fun x => { x with wait := some w, due := false }))

/-- TASK_WAIT_RESUME: what a task waits for has come: its time, its event, or a completion of its own, which it takes (16 R581). -/
def execTaskWaitResume (t : Nat) (s : State) : Host.Outcome State Fault Refusal :=
  let x := s.tasks.getD t {}
  let wake := fun x : TaskSt => Host.Outcome.next (s.modTask t (fun _ => { x with wait := none, due := false }))
  if 16 ≤ t ∨ !s.groomUp then .next s
  else match x.wait with
    | some (.time c) => if s.ofCt c ≤ s.nt then wake x else .next s
    | some (.event _) => if x.due then wake x else .next s
    | some .completion => if x.inbox = [] then .next s else wake { x with inbox := x.inbox.drop 1 }
    | none => .next s

end Sys2Proof.Machine
end

