-- ==== Sys2Proof/Machine/Pick.lean ====
section
/-! DEFINITION. The pick-cycle boundary (01 R13, R16, R18, R630): what the cycle that ends registered, the passage of network time, and what the
module evaluates as a cycle begins. -/

namespace Sys2Proof.Machine

open Sys2Proof

/-! ### The cycle that ends -/

/-- 17 R602, 05 R192, R210: a lane's error counts, and what its receiver has adapted to. -/
def State.laneCounts (m : CycleMeas) (s : State) : State :=
  let s := s.forEach (m.lanes.filter (fun (x : Nat × List Nat) => decide (x.1 < 272))) (fun x s =>
    s.forEach (List.range 4) (fun i => State.count 2 x.1 i (x.2.getD i 0)))
  let s := s.forEach (m.eqs.filter (fun (x : Nat × Nat) => decide (x.1 < 272) && s.laneRuns x.1)) (fun x s => s.eqAdapt x.1 x.2)
  s.forEach (m.prbs.filter (fun (x : Nat × Nat) => decide (x.1 < 272))) (fun x s =>
    if s.get (F.LANE_PRBS_CHECK x.1) = 0 then s else s.bump (F.LANE_PRBS_ERR_ERRORS x.1) x.2)

/-- 02 R54: the supply and the die sensors as read. -/
def State.powerRead (m : CycleMeas) (s : State) : State :=
  let s := match m.power with
    | some (v, p) => (s.set F.PWR_VIN_VIN_MV (satNat 17 v)).set F.PWR_PIN_PIN_DW (satNat 16 p)
    | none => s
  if m.die = [] then s else s.dieRead m.die

/-- 16 R583 to R585, R589: the performance counters of the cores, 60 core cycles to each grid step of 50 ns, and of the heddles. -/
def State.perfCounts (steps : Nat) (m : CycleMeas) (s : State) : State :=
  let s := s.forEach (List.range 6) (fun c s =>
    let st := s.groom (decide (3 ≤ c))
    let evs := (m.cores.filter (fun (x : Nat × List (Nat × Bool × Nat)) => x.1 == c)).flatMap (fun x => x.2)
    if st = gsOff ∨ st = gsRetired then s else (s.corePerf c (60 * steps) evs).logCount c evs)
  s.forEach (List.range 32) (fun h => State.hedPerf h ((m.heds.filter (fun (x : Nat × List (Nat × Nat)) => x.1 == h)).flatMap (fun x => x.2)))

/-- What the cycle that ends registered; `d` is the network time it took and `steps` its grid steps. -/
def State.endCycle (d steps : Nat) (m : CycleMeas) (s : State) : State :=
  ((((((s.endWrites.doorbells.bobbinFlush).forEach m.ecc State.loomEcc).updHeld).flushRingFull.flushWraps.tickSending d).laneCounts m).powerRead m).perfCounts steps m

/-! ### Network time (01 R13, R16, R630) -/

/-- The start of the next pick cycle: the next instant of the grid, or on the safe clock the next that its phase gives (01 R13, R16). -/
def State.nextCycle (s : State) : Nat :=
  if s.on F.SYN_STATUS_SAFE0 then s.nt + (s.cycleLen - (s.nt + s.cycleLen - s.safePhase % s.cycleLen) % s.cycleLen) else nextGrid s.nt

/-- The network time that `n` pick cycles take: to the start of the next, then whole cycles; none while the time counter is held. -/
def State.span (s : State) (n : Nat) : Nat := if s.heldDomain 1 then 0 else s.nextCycle + (n - 1) * s.cycleLen - s.nt

/-- 11 R430, 12 R458: the frequency of network time against the crystal scale: DPLL_FREQ, or XO_SPARE's under the safe STCLK. -/
def State.ntFreq (s : State) : Int := if s.on F.SYN_STATUS_SAFE1 then s.getI F.MEAS_SPARE_OFFSET_OFFSET * 10000 else s.freq

/-- 17 R612: whether the `d` that passes reaches a second that is a multiple of HEALTH_S. -/
def State.healthFalls (s : State) (d : Nat) : Bool :=
  let h := s.get F.OBS_CFG_HEALTH_S
  s.run && h != 0 && decide (s.nt / (h * sec) < (s.nt + d) / (h * sec))

/-- 08 R335: a frame as `d` of network time passes: its age, and its wait while the class of its egress port is held. -/
def State.ageFrame (s : State) (d : Nat) (f : Frame) : Frame :=
  let waits := f.stage == .admission && (match f.dest.egressPort with
    | some p => s.classHeld p f.tc
    | none => false)
  { f with age := f.age + d, waited := if waits then f.waited + d else f.waited }

/-- Network time runs on by `d`. -/
def State.pass (d : Nat) (s : State) : State :=
  let f := s.ntFreq
  let due := s.healthFalls d
  ({ s with
    nt := (s.nt + d) % ntSpan
    elapsed := s.elapsed + d
    scaleAcc := s.scaleAcc + (d : Int) * f * 10000000000000000 / (10000000000000000 + f)
    frames := s.frames.map (fun (x : Nat × Frame) => (x.1, s.ageFrame d x.2))
    obs := { s.obs with healthDue := s.obs.healthDue || due } } : State).runTimers d

/-! ### The cycle that begins -/

/-- What is registered afresh in each cycle: the counts as it finds them (17 R595), and what only the present cycle remembers. `n` cycles have
passed. -/
def State.beginCycle (n : Nat) (s : State) : State :=
  { s with
    cycles := s.cycles + n
    batch := (s.batch + n) % 2 ^ 64
    attnNow := 0
    picksNow := []
    groupWas := []
    fdbTouched := []
    fdbFlushes := []
    fdbFreed := []
    setNow := []
    wroteNow := []
    unitsLast := s.unitsNow
    unitsNow := []
    obs := { s.obs with ctrStart := s.ctr, wrapStart := (s.rd R.OBS_WRAP).toNat } }

/-- The evaluations of a cycle: what the DPLL's last evaluation left to the tap sample that has come (11 R426, R437), configuration applied at the boundary (17 R617; 10 R407), peaking codes that move (05 R191), calibration values that move and items that can no longer be measured
(15 R552, R554), the lead
register (16 R570, R574), port resets that end (06 R249), rings that stop (04 R164), snapshots that waited (17 R606), the rule writer
(07 R292), the keep waves (02 R60) and OBS_HEALTH (17 R619). -/
def State.evaluate (n : Nat) (s : State) : State :=
  let s := (s.settleDpll.cfgTake.miApply.eqMoveAll.calMoveAll.calWatch.settleLead.settleDual n).endPortResets.allRingStops.waitingSnaps
  let s := s.noteDemand n
  let s := ((s.newHeld.writeCycles s.cycleLen (2 * s.writeQ.length + 2) n).updHeld).updKeep
  s.wr R.OBS_HEALTH s.healthWord

/-- The steps of 50 ns of `n` pick cycles: two to each cycle of the safe clock (01 R16). -/
def State.steps (s : State) (n : Nat) : Nat := if s.on F.SYN_STATUS_SAFE0 then 2 * n else n

/-- PICK_CYCLE_BOUNDARY: `n` pick cycles pass, of which `m` tells what they measured and counted; the input distributor numbers a batch for each
(01 R13, R16; 16 R566). -/
def execPickCycleBoundary (n : Nat) (m : CycleMeas) (s : State) : Host.Outcome State Fault Refusal :=
  if s.supply = .on then
    let n := max 1 n
    let d := s.span n
    .next ((((s.endCycle d (s.steps n) m).pass d).beginCycle n).evaluate n)
  else .next s

end Sys2Proof.Machine
end

