-- ==== Sys2Proof/Machine/Dispatch.lean ====
section
/-! DEFINITION. The dispatch: one arm per command, each a direct call of its own meaning. -/

namespace Sys2Proof.Machine

open Sys2Proof

def exec (i : Instr) (s : State) : Host.Outcome State Fault Refusal :=
  match i with
  | .powerOn lost ts => Sys2Proof.Machine.execPowerOn lost ts s
  | .brownOutAssert up => Sys2Proof.Machine.execBrownOutAssert up s
  | .enableFall up => Sys2Proof.Machine.execEnableFall up s
  | .enableRise long warn ts => Sys2Proof.Machine.execEnableRise long warn ts s
  | .vioRise mv => Sys2Proof.Machine.execVioRise mv s
  | .dieShutdownTrip up => Sys2Proof.Machine.execDieShutdownTrip up s
  | .bypassSetPair d => Sys2Proof.Machine.execBypassSetPair d s
  | .bypassSetHold d => Sys2Proof.Machine.execBypassSetHold d s
  | .bypassHoldExpiry n => Sys2Proof.Machine.execBypassHoldExpiry n s
  | .watchdogExpiry core => Sys2Proof.Machine.execWatchdogExpiry core s
  | .lockup core => Sys2Proof.Machine.execLockup core s
  | .clockFailure d k => Sys2Proof.Machine.execClockFailure d k s
  | .domainRelease r => Sys2Proof.Machine.execDomainRelease r s
  | .rstForceWrite v => Sys2Proof.Machine.execRstForceWrite v s
  | .swreqSystem v => Sys2Proof.Machine.execSwreqSystem v s
  | .swreqComplex v => Sys2Proof.Machine.execSwreqComplex v s
  | .swreqNode v => Sys2Proof.Machine.execSwreqNode v s
  | .swreqHeddle v => Sys2Proof.Machine.execSwreqHeddle v s
  | .swreqEngine v => Sys2Proof.Machine.execSwreqEngine v s
  | .swreqLane v => Sys2Proof.Machine.execSwreqLane v s
  | .swreqTiming v => Sys2Proof.Machine.execSwreqTiming v s
  | .swreqSynthesiser v => Sys2Proof.Machine.execSwreqSynthesiser v s
  | .swreqPort v => Sys2Proof.Machine.execSwreqPort v s
  | .dbgReqSystem v => Sys2Proof.Machine.execDbgReqSystem v s
  | .dbgReqComplex v => Sys2Proof.Machine.execDbgReqComplex v s
  | .bootStepComplete ok failing up => Sys2Proof.Machine.execBootStepComplete ok failing up s
  | .pcieLinkTrained width speed => Sys2Proof.Machine.execPcieLinkTrained width speed s
  | .pcieLinkDown perst => Sys2Proof.Machine.execPcieLinkDown perst s
  | .dlGo v => Sys2Proof.Machine.execDlGo v s
  | .dlFetchDone ok up => Sys2Proof.Machine.execDlFetchDone ok up s
  | .storeWriteDone ok => Sys2Proof.Machine.execStoreWriteDone ok s
  | .registerWrite bar2 a w => Sys2Proof.Machine.execRegisterWrite bar2 a w s
  | .invalidAccess bar2 read a n => Sys2Proof.Machine.execInvalidAccess bar2 read a n s
  | .latchingRead bar2 a => Sys2Proof.Machine.execLatchingRead bar2 a s
  | .timeLatchRead sec => Sys2Proof.Machine.execTimeLatchRead sec s
  | .tapLastRead t => Sys2Proof.Machine.execTapLastRead t s
  | .obsPeekRead w => Sys2Proof.Machine.execObsPeekRead w s
  | .obsPeekSelWrite v => Sys2Proof.Machine.execObsPeekSelWrite v s
  | .counterLoWrite a v => Sys2Proof.Machine.execCounterLoWrite a v s
  | .counterHiWrite a v => Sys2Proof.Machine.execCounterHiWrite a v s
  | .hedCtrlWrite v => Sys2Proof.Machine.execHedCtrlWrite v s
  | .trdEnableSet t v => Sys2Proof.Machine.execTrdEnableSet t v s
  | .trdEnableClear t v => Sys2Proof.Machine.execTrdEnableClear t v s
  | .outputCfgWrite a v => Sys2Proof.Machine.execOutputCfgWrite a v s
  | .dbSqTail r v => Sys2Proof.Machine.execDbSqTail r v s
  | .dbCqHead r v => Sys2Proof.Machine.execDbCqHead r v s
  | .dbArmEnable r k => Sys2Proof.Machine.execDbArmEnable r k s
  | .dbArmDisable r => Sys2Proof.Machine.execDbArmDisable r s
  | .submissionAccept e x => Sys2Proof.Machine.execSubmissionAccept e x s
  | .eventPendingFlush r => Sys2Proof.Machine.execEventPendingFlush r s
  | .frameRxDelivery w => Sys2Proof.Machine.execFrameRxDelivery w s
  | .rxWaitExpiry r => Sys2Proof.Machine.execRxWaitExpiry r s
  | .bobbinDrain r p => Sys2Proof.Machine.execBobbinDrain r p s
  | .logCompletion w => Sys2Proof.Machine.execLogCompletion w s
  | .txFrame d => Sys2Proof.Machine.execTxFrame d s
  | .rxBuffer d => Sys2Proof.Machine.execRxBuffer d s
  | .logBuffer d => Sys2Proof.Machine.execLogBuffer d s
  | .ruleWrite d => Sys2Proof.Machine.execRuleWrite d s
  | .ruleSwap d => Sys2Proof.Machine.execRuleSwap d s
  | .ruleClear d => Sys2Proof.Machine.execRuleClear d s
  | .fdbAdd d => Sys2Proof.Machine.execFdbAdd d s
  | .fdbDel d => Sys2Proof.Machine.execFdbDel d s
  | .fdbFlush d => Sys2Proof.Machine.execFdbFlush d s
  | .snapTake d => Sys2Proof.Machine.execSnapTake d s
  | .snapWriteDone set ok => Sys2Proof.Machine.execSnapWriteDone set ok s
  | .snapFreeze d => Sys2Proof.Machine.execSnapFreeze d s
  | .snapThaw d => Sys2Proof.Machine.execSnapThaw d s
  | .portSetConfigure d => Sys2Proof.Machine.execPortSetConfigure d s
  | .portSetVlanMember d => Sys2Proof.Machine.execPortSetVlanMember d s
  | .laneSetConfigure d => Sys2Proof.Machine.execLaneSetConfigure d s
  | .laneSetReset d => Sys2Proof.Machine.execLaneSetReset d s
  | .laneSetReadapt d => Sys2Proof.Machine.execLaneSetReadapt d s
  | .readaptDone n rx tx => Sys2Proof.Machine.execReadaptDone n rx tx s
  | .laneSetRetire d => Sys2Proof.Machine.execLaneSetRetire d s
  | .laneSetReturn d => Sys2Proof.Machine.execLaneSetReturn d s
  | .engineSetConfigure d => Sys2Proof.Machine.execEngineSetConfigure d s
  | .engineSetPowerUp d => Sys2Proof.Machine.execEngineSetPowerUp d s
  | .engineSetPowerDown d => Sys2Proof.Machine.execEngineSetPowerDown d s
  | .engineSetReset d => Sys2Proof.Machine.execEngineSetReset d s
  | .drainLsa d => Sys2Proof.Machine.execDrainLsa d s
  | .drainLsb d => Sys2Proof.Machine.execDrainLsb d s
  | .restoreLsa d => Sys2Proof.Machine.execRestoreLsa d s
  | .restoreLsb d => Sys2Proof.Machine.execRestoreLsb d s
  | .laserRampDone k b => Sys2Proof.Machine.execLaserRampDone k b s
  | .resetSystem d => Sys2Proof.Machine.execResetSystem d s
  | .resetComplex d => Sys2Proof.Machine.execResetComplex d s
  | .resetNode d => Sys2Proof.Machine.execResetNode d s
  | .nodeDrainDone n => Sys2Proof.Machine.execNodeDrainDone n s
  | .resetHeddle d => Sys2Proof.Machine.execResetHeddle d s
  | .resetEngine d => Sys2Proof.Machine.execResetEngine d s
  | .resetLane d => Sys2Proof.Machine.execResetLane d s
  | .resetTiming d => Sys2Proof.Machine.execResetTiming d s
  | .resetSynthesiser d => Sys2Proof.Machine.execResetSynthesiser d s
  | .resetPort d => Sys2Proof.Machine.execResetPort d s
  | .imageWrite d => Sys2Proof.Machine.execImageWrite d s
  | .imageClear d => Sys2Proof.Machine.execImageClear d s
  | .cfgWrite d => Sys2Proof.Machine.execCfgWrite d s
  | .calRunLanes d => Sys2Proof.Machine.execCalRunLanes d s
  | .calRunCore d => Sys2Proof.Machine.execCalRunCore d s
  | .calRunMi d => Sys2Proof.Machine.execCalRunMi d s
  | .calRunOutputs d => Sys2Proof.Machine.execCalRunOutputs d s
  | .calRunOutputLoop d => Sys2Proof.Machine.execCalRunOutputLoop d s
  | .calRunAsym d => Sys2Proof.Machine.execCalRunAsym d s
  | .calRunGnss d => Sys2Proof.Machine.execCalRunGnss d s
  | .calItemDone e => Sys2Proof.Machine.execCalItemDone e s
  | .calStore d => Sys2Proof.Machine.execCalStore d s
  | .miCalGapTimeout k => Sys2Proof.Machine.execMiCalGapTimeout k s
  | .shedSetEnable d => Sys2Proof.Machine.execShedSetEnable d s
  | .shedSetDisable d => Sys2Proof.Machine.execShedSetDisable d s
  | .filterSet d => Sys2Proof.Machine.execFilterSet d s
  | .heddleLoad d => Sys2Proof.Machine.execHeddleLoad d s
  | .heddleDisable d => Sys2Proof.Machine.execHeddleDisable d s
  | .heddleEnable d => Sys2Proof.Machine.execHeddleEnable d s
  | .heddleDrained h => Sys2Proof.Machine.execHeddleDrained h s
  | .heddleReadbackDone h ok => Sys2Proof.Machine.execHeddleReadbackDone h ok s
  | .picksReserve d => Sys2Proof.Machine.execPicksReserve d s
  | .picksRelease d => Sys2Proof.Machine.execPicksRelease d s
  | .mirrorSetSession d => Sys2Proof.Machine.execMirrorSetSession d s
  | .mirrorSetGroup d => Sys2Proof.Machine.execMirrorSetGroup d s
  | .rationsSetEgress d => Sys2Proof.Machine.execRationsSetEgress d s
  | .rationsSetWeight d => Sys2Proof.Machine.execRationsSetWeight d s
  | .frerSetWrite d => Sys2Proof.Machine.execFrerSetWrite d s
  | .frerSetReset d => Sys2Proof.Machine.execFrerSetReset d s
  | .refSetConfigure d => Sys2Proof.Machine.execRefSetConfigure d s
  | .refSetGlobal d => Sys2Proof.Machine.execRefSetGlobal d s
  | .refSetEsmc d => Sys2Proof.Machine.execRefSetEsmc d s
  | .refSetRequalify d => Sys2Proof.Machine.execRefSetRequalify d s
  | .dpllSteer d => Sys2Proof.Machine.execDpllSteer d s
  | .timeAdjustSlew d => Sys2Proof.Machine.execTimeAdjustSlew d s
  | .timeAdjustStep d => Sys2Proof.Machine.execTimeAdjustStep d s
  | .timeAdjustSet d => Sys2Proof.Machine.execTimeAdjustSet d s
  | .timingRole d => Sys2Proof.Machine.execTimingRole d s
  | .kplSet d => Sys2Proof.Machine.execKplSet d s
  | .ptpSetPort d => Sys2Proof.Machine.execPtpSetPort d s
  | .ptpSetClock d => Sys2Proof.Machine.execPtpSetClock d s
  | .clkoutSetClock d => Sys2Proof.Machine.execClkoutSetClock d s
  | .clkoutSetPulse d => Sys2Proof.Machine.execClkoutSetPulse d s
  | .clkoutSetTod d => Sys2Proof.Machine.execClkoutSetTod d s
  | .clkoutSetSynth d => Sys2Proof.Machine.execClkoutSetSynth d s
  | .align d => Sys2Proof.Machine.execAlign d s
  | .treadleSetProgram d => Sys2Proof.Machine.execTreadleSetProgram d s
  | .treadleSetStop d => Sys2Proof.Machine.execTreadleSetStop d s
  | .gnssSetConfigure d => Sys2Proof.Machine.execGnssSetConfigure d s
  | .gnssSetPosition d => Sys2Proof.Machine.execGnssSetPosition d s
  | .gnssSetSurveyRestart d => Sys2Proof.Machine.execGnssSetSurveyRestart d s
  | .gnssSetColdStart d => Sys2Proof.Machine.execGnssSetColdStart d s
  | .ringSetConfigure d => Sys2Proof.Machine.execRingSetConfigure d s
  | .ringSetDisable d => Sys2Proof.Machine.execRingSetDisable d s
  | .attnAck d => Sys2Proof.Machine.execAttnAck d s
  | .cancel d => Sys2Proof.Machine.execCancel d s
  | .nop d => Sys2Proof.Machine.execNop d s
  | .pickCycleBoundary n m => Sys2Proof.Machine.execPickCycleBoundary n m s
  | .laneLockGained n l => Sys2Proof.Machine.execLaneLockGained n l s
  | .linkUpHoldExpiry n => Sys2Proof.Machine.execLinkUpHoldExpiry n s
  | .laneLockLost l => Sys2Proof.Machine.execLaneLockLost l s
  | .laneAcquireTimeout n => Sys2Proof.Machine.execLaneAcquireTimeout n s
  | .serdesFault n => Sys2Proof.Machine.execSerdesFault n s
  | .fecDegradedSet n => Sys2Proof.Machine.execFecDegradedSet n s
  | .fecDegradedClear n => Sys2Proof.Machine.execFecDegradedClear n s
  | .laserInputLost k b => Sys2Proof.Machine.execLaserInputLost k b s
  | .laserInputReturn k b => Sys2Proof.Machine.execLaserInputReturn k b s
  | .engineSelfTestDone k ok => Sys2Proof.Machine.execEngineSelfTestDone k ok s
  | .engineStartTimeout k => Sys2Proof.Machine.execEngineStartTimeout k s
  | .opticalMonitorUpdate k lsa lsb ots pw => Sys2Proof.Machine.execOpticalMonitorUpdate k lsa lsb ots pw s
  | .frameFirstByte p tm n ctl => Sys2Proof.Machine.execFrameFirstByte p tm n ctl s
  | .frameLastByte p l pcs => Sys2Proof.Machine.execFrameLastByte p l pcs s
  | .controlFrameReceive p l => Sys2Proof.Machine.execControlFrameReceive p l s
  | .pauseHoldExpiry p c => Sys2Proof.Machine.execPauseHoldExpiry p c s
  | .headDispatch n id l noRoom => Sys2Proof.Machine.execHeadDispatch n id l noRoom s
  | .headDecision id => Sys2Proof.Machine.execHeadDecision id s
  | .hedEccRepair corrected mem gen unit src frame => Sys2Proof.Machine.execHedEccRepair corrected mem gen unit src frame s
  | .beamRelease q => Sys2Proof.Machine.execBeamRelease q s
  | .warpSend n p choice arrived => Sys2Proof.Machine.execWarpSend n p choice arrived s
  | .weftSend j p => Sys2Proof.Machine.execWeftSend j p s
  | .reedArrival n d seq ecc word => Sys2Proof.Machine.execReedArrival n d seq ecc word s
  | .releaseReport n d => Sys2Proof.Machine.execReleaseReport n d s
  | .egressEnqueue d => Sys2Proof.Machine.execEgressEnqueue d s
  | .hayloftSpill id => Sys2Proof.Machine.execHayloftSpill id s
  | .hayloftFetch id bad stack word => Sys2Proof.Machine.execHayloftFetch id bad stack word s
  | .pauseRepeat p => Sys2Proof.Machine.execPauseRepeat p s
  | .egressChoose p tm n => Sys2Proof.Machine.execEgressChoose p tm n s
  | .frameTxEnd p => Sys2Proof.Machine.execFrameTxEnd p s
  | .cutUnderrun p => Sys2Proof.Machine.execCutUnderrun p s
  | .shedEntryChange p => Sys2Proof.Machine.execShedEntryChange p s
  | .launchFetch id => Sys2Proof.Machine.execLaunchFetch id s
  | .launchStart p tm n => Sys2Proof.Machine.execLaunchStart p tm n s
  | .ageLimitExpiry id => Sys2Proof.Machine.execAgeLimitExpiry id s
  | .mcastCopyTimeout id => Sys2Proof.Machine.execMcastCopyTimeout id s
  | .frerResetTimeout h => Sys2Proof.Machine.execFrerResetTimeout h s
  | .xoCompareWindow ratio => Sys2Proof.Machine.execXoCompareWindow ratio s
  | .tapSample t rx tx => Sys2Proof.Machine.execTapSample t rx tx s
  | .miEdge k rising d => Sys2Proof.Machine.execMiEdge k rising d s
  | .armedIntervalExpiry k => Sys2Proof.Machine.execArmedIntervalExpiry k s
  | .gateEnd k => Sys2Proof.Machine.execGateEnd k s
  | .refActivityLoss r valid => Sys2Proof.Machine.execRefActivityLoss r valid s
  | .qualTimerExpiry r => Sys2Proof.Machine.execQualTimerExpiry r s
  | .dpllStateEvaluate loop slew => Sys2Proof.Machine.execDpllStateEvaluate loop slew s
  | .ageingLearn slope => Sys2Proof.Machine.execAgeingLearn slope s
  | .esmcPduReceive p l => Sys2Proof.Machine.execEsmcPduReceive p l s
  | .esmcTimeout r => Sys2Proof.Machine.execEsmcTimeout r s
  | .synRelockStart n unlock => Sys2Proof.Machine.execSynRelockStart n unlock s
  | .synLockAcquired n => Sys2Proof.Machine.execSynLockAcquired n s
  | .synFreqCheck n pass => Sys2Proof.Machine.execSynFreqCheck n pass s
  | .synRelockReturn n => Sys2Proof.Machine.execSynRelockReturn n s
  | .synRelockRetry n => Sys2Proof.Machine.execSynRelockRetry n s
  | .pulseEdge o => Sys2Proof.Machine.execPulseEdge o s
  | .treadleEdge t => Sys2Proof.Machine.execTreadleEdge t s
  | .todinMessage t l stop => Sys2Proof.Machine.execTodinMessage t l stop s
  | .lldpSend p => Sys2Proof.Machine.execLldpSend p s
  | .lldpduReceive p l => Sys2Proof.Machine.execLldpduReceive p l s
  | .lldpTtlExpiry p => Sys2Proof.Machine.execLldpTtlExpiry p s
  | .kplSlot p tm n => Sys2Proof.Machine.execKplSlot p tm n s
  | .kplMarkReceive p tm n bs bad dtm dn => Sys2Proof.Machine.execKplMarkReceive p tm n bs bad dtm dn s
  | .kplReplyReceive p tm n bs bad => Sys2Proof.Machine.execKplReplyReceive p tm n bs bad s
  | .kplTimeReceive p bs bad => Sys2Proof.Machine.execKplTimeReceive p bs bad s
  | .kplReplyTimeout p => Sys2Proof.Machine.execKplReplyTimeout p s
  | .ptpAnnounceSend p => Sys2Proof.Machine.execPtpAnnounceSend p s
  | .ptpSyncSend p => Sys2Proof.Machine.execPtpSyncSend p s
  | .ptpFollowUpSend p => Sys2Proof.Machine.execPtpFollowUpSend p s
  | .ptpDelayReqReceive p l => Sys2Proof.Machine.execPtpDelayReqReceive p l s
  | .ptpDelayReqSend p => Sys2Proof.Machine.execPtpDelayReqSend p s
  | .ptpDelayRespReceive p l => Sys2Proof.Machine.execPtpDelayRespReceive p l s
  | .ptpDelayRespTimeout p => Sys2Proof.Machine.execPtpDelayRespTimeout p s
  | .ptpSyncReceive p l => Sys2Proof.Machine.execPtpSyncReceive p l s
  | .ptpFollowUpReceive p l => Sys2Proof.Machine.execPtpFollowUpReceive p l s
  | .ptpAnnounceReceive p l => Sys2Proof.Machine.execPtpAnnounceReceive p l s
  | .ptpAnnounceTimeout p => Sys2Proof.Machine.execPtpAnnounceTimeout p s
  | .ptpIgnoredReceive p l => Sys2Proof.Machine.execPtpIgnoredReceive p l s
  | .followUpMatchTimeout p => Sys2Proof.Machine.execFollowUpMatchTimeout p s
  | .gnssSolution g => Sys2Proof.Machine.execGnssSolution g s
  | .groomOutputReceive c b seq digest => Sys2Proof.Machine.execGroomOutputReceive c b seq digest s
  | .groomResetEnd b => Sys2Proof.Machine.execGroomResetEnd b s
  | .groomImageLoaded b => Sys2Proof.Machine.execGroomImageLoaded b s
  | .resyncFinalCopy b => Sys2Proof.Machine.execResyncFinalCopy b s
  | .shadowTakeover b => Sys2Proof.Machine.execShadowTakeover b s
  | .shadowFault b => Sys2Proof.Machine.execShadowFault b s
  | .taskReadReg t a => Sys2Proof.Machine.execTaskReadReg t a s
  | .taskReadTime t => Sys2Proof.Machine.execTaskReadTime t s
  | .taskSubmit t op d => Sys2Proof.Machine.execTaskSubmit t op d s
  | .taskWait t w => Sys2Proof.Machine.execTaskWait t w s
  | .taskWaitResume t => Sys2Proof.Machine.execTaskWaitResume t s
  | .taskReadPc t k => Sys2Proof.Machine.execTaskReadPc t k s
  | .taskRaise t detail => Sys2Proof.Machine.execTaskRaise t detail s
  | .taskFault t => Sys2Proof.Machine.execTaskFault t s
  | .logSample c t addr lat op user => Sys2Proof.Machine.execLogSample c t addr lat op user s
  | .pwrWarnAssert => Sys2Proof.Machine.execPwrWarnAssert s
  | .pwrWarnClear => Sys2Proof.Machine.execPwrWarnClear s
  | .overvoltageEvent => Sys2Proof.Machine.execOvervoltageEvent s
  | .dieWarnRise => Sys2Proof.Machine.execDieWarnRise s
  | .oeWarnRise => Sys2Proof.Machine.execOeWarnRise s
  | .tapReset => Sys2Proof.Machine.execTapReset s
  | .resetNAssert => Sys2Proof.Machine.execResetNAssert s
  | .resetNRelease => Sys2Proof.Machine.execResetNRelease s
  | .perstNRise => Sys2Proof.Machine.execPerstNRise s
  | .run => Sys2Proof.Machine.execRun s
  | .relinkDone => Sys2Proof.Machine.execRelinkDone s
  | .timeNsRead => Sys2Proof.Machine.execTimeNsRead s
  | .effectiveAtBoundary => Sys2Proof.Machine.execEffectiveAtBoundary s
  | .ruleWriteDone => Sys2Proof.Machine.execRuleWriteDone s
  | .ruleSwapDeferred => Sys2Proof.Machine.execRuleSwapDeferred s
  | .calAutoEvaluate => Sys2Proof.Machine.execCalAutoEvaluate s
  | .halterEvaluate => Sys2Proof.Machine.execHalterEvaluate s
  | .rationsDeal => Sys2Proof.Machine.execRationsDeal s
  | .fdbAgeing => Sys2Proof.Machine.execFdbAgeing s
  | .fateLedgerRecord => Sys2Proof.Machine.execFateLedgerRecord s
  | .xoMainLost => Sys2Proof.Machine.execXoMainLost s
  | .xoMainReturn => Sys2Proof.Machine.execXoMainReturn s
  | .xoSpareLost => Sys2Proof.Machine.execXoSpareLost s
  | .xoSpareReturn => Sys2Proof.Machine.execXoSpareReturn s
  | .ovenStableRise => Sys2Proof.Machine.execOvenStableRise s
  | .ageingTick => Sys2Proof.Machine.execAgeingTick s
  | .ref13EstimateTimeout => Sys2Proof.Machine.execRef13EstimateTimeout s
  | .refMonitorEvaluate => Sys2Proof.Machine.execRefMonitorEvaluate s
  | .refSelection => Sys2Proof.Machine.execRefSelection s
  | .holdoverWindowExpiry => Sys2Proof.Machine.execHoldoverWindowExpiry s
  | .stepThreshold => Sys2Proof.Machine.execStepThreshold s
  | .learningHour => Sys2Proof.Machine.execLearningHour s
  | .esmcInfoSend => Sys2Proof.Machine.execEsmcInfoSend s
  | .esmcEventSend => Sys2Proof.Machine.execEsmcEventSend s
  | .todMessageSend => Sys2Proof.Machine.execTodMessageSend s
  | .timeFirstSet => Sys2Proof.Machine.execTimeFirstSet s
  | .qualityEvaluate => Sys2Proof.Machine.execQualityEvaluate s
  | .leapApply => Sys2Proof.Machine.execLeapApply s
  | .bmcaEvaluate => Sys2Proof.Machine.execBmcaEvaluate s
  | .kplServoPublish => Sys2Proof.Machine.execKplServoPublish s
  | .gnssSolutionTimeout => Sys2Proof.Machine.execGnssSolutionTimeout s
  | .lagWindowExpiry => Sys2Proof.Machine.execLagWindowExpiry s
  | .revertHoldExpiry => Sys2Proof.Machine.execRevertHoldExpiry s
  | .healthEvent => Sys2Proof.Machine.execHealthEvent s
  | .vioFall => Sys2Proof.Machine.execVioFall s
  | .dieWarnFall => Sys2Proof.Machine.execDieWarnFall s
  | .oeWarnFall => Sys2Proof.Machine.execOeWarnFall s
  | .ovenStableFall => Sys2Proof.Machine.execOvenStableFall s
  | .pcieConfigRequest => Sys2Proof.Machine.execPcieConfigRequest s
  | .todinRxValidExpiry => Sys2Proof.Machine.execTodinRxValidExpiry s
  | .engineShutdownTrip k ots => Sys2Proof.Machine.execEngineShutdownTrip k ots s
  | .jtagBypass tdi => Sys2Proof.Machine.execJtagBypass tdi s
  | .jtagIdcode tdi => Sys2Proof.Machine.execJtagIdcode tdi s
  | .jtagSamplePreload lands tdi => Sys2Proof.Machine.execJtagSamplePreload lands tdi s
  | .jtagExtest lands tdi => Sys2Proof.Machine.execJtagExtest lands tdi s
  | .jtagClamp tdi => Sys2Proof.Machine.execJtagClamp tdi s
  | .jtagHighz tdi => Sys2Proof.Machine.execJtagHighz tdi s
  | .heddleGraphError h => Sys2Proof.Machine.execHeddleGraphError h s
  | .lpiReceived n => Sys2Proof.Machine.execLpiReceived n s
  | .elasticSlip n ins => Sys2Proof.Machine.execElasticSlip n ins s
  | .hayloftStackFail k => Sys2Proof.Machine.execHayloftStackFail k s
  | .gnssTimePulse m => Sys2Proof.Machine.execGnssTimePulse m s
  | .gnssChannelHold c => Sys2Proof.Machine.execGnssChannelHold c s
  | .gnssChannelIdle c => Sys2Proof.Machine.execGnssChannelIdle c s
  | .antennaMeasure ma limit => Sys2Proof.Machine.execAntennaMeasure ma limit s
  | .antennaShortRetry below => Sys2Proof.Machine.execAntennaShortRetry below s
  | .jamEvaluate l1 l5 notches => Sys2Proof.Machine.execJamEvaluate l1 l5 notches s

end Sys2Proof.Machine
end

