-- ==== Sys2Proof/WellFormed.lean ====
section
/-! DEFINITION. Well-formed commands: the operands that name something the module has. A command whose operand names no lane, port, ring or the
like is not one the module can meet (log entry 72). -/

namespace Sys2Proof

open Machine

/-- 04 R131, R137: a submission of a ring: its ring, and its index within the largest ring. -/
def Machine.Submission.wf (d : Submission) : Bool := decide (d.ring < 128) && decide (d.index < 32768)

/-- 02 R71: die sensors TS0 to TS15. -/
def sensorsOk (ts : List (Nat × Int)) : Bool := ts.all (fun x => decide (x.1 < 16))

/-- 03 R85: a clocked domain, and the element of it where it has elements. -/
def clockElement (d : Domain) (i : Nat) : Bool :=
  match d with
  | .aon | .nvs => false
  | .syn => decide (i < 4)
  | .lanes => decide (i < 272)
  | .engines => decide (i < 32)
  | .ports => decide (i ≤ 272)
  | _ => true

/-- 04 R120: a width and a speed of the link. -/
def linkOk (width speed : Nat) : Bool := (width == 1 || width == 2 || width == 4 || width == 8) && decide (1 ≤ speed) && decide (speed ≤ 5)

/-- 15 R549: the item or the port of a calibration result. -/
def Machine.CalDone.wf : CalDone → Bool
  | .item i _ => decide (i < 302)
  | .notRun i => decide (i < 302)
  | .asym p => decide (p < 272)

/-- Lanes, die sensors, cores and heddles of a pick cycle's measurements. -/
def Machine.CycleMeas.wf (m : CycleMeas) : Bool :=
  m.lanes.all (fun x => decide (x.1 < 272)) && m.prbs.all (fun x => decide (x.1 < 272)) && m.die.all (fun x => decide (x.1 < 16)) &&
    m.cores.all (fun x => decide (x.1 < 6)) && m.heds.all (fun x => decide (x.1 < 32))

/-- Whether a command's operands name what the module has. -/
def Instr.wf : Instr → Bool
  | .powerOn _ ts => sensorsOk ts
  | .brownOutAssert _ => true
  | .enableFall _ => true
  | .enableRise _ _ ts => sensorsOk ts
  | .vioRise _ => true
  | .dieShutdownTrip _ => true
  | .bypassSetPair d => d.wf
  | .bypassSetHold d => d.wf
  | .bypassHoldExpiry n => decide (n < 4)
  | .watchdogExpiry core => decide (core < 6)
  | .lockup core => decide (core < 6)
  | .clockFailure d i => clockElement d i
  | .domainRelease _ => true
  | .rstForceWrite _ => true
  | .swreqSystem _ => true
  | .swreqComplex _ => true
  | .swreqNode _ => true
  | .swreqHeddle _ => true
  | .swreqEngine _ => true
  | .swreqLane _ => true
  | .swreqTiming _ => true
  | .swreqSynthesiser _ => true
  | .swreqPort _ => true
  | .dbgReqSystem _ => true
  | .dbgReqComplex _ => true
  | .bootStepComplete _ _ _ => true
  | .pcieLinkTrained width speed => linkOk width speed
  | .pcieLinkDown _ => true
  | .dlGo _ => true
  | .dlFetchDone _ _ => true
  | .storeWriteDone _ => true
  | .registerWrite _ a _ => a % 4 == 0
  | .invalidAccess _ _ _ _ => true
  | .latchingRead _ a => a % 4 == 0
  | .timeLatchRead _ => true
  | .tapLastRead t => decide (t < 286)
  | .obsPeekRead w => decide (w < 64)
  | .obsPeekSelWrite _ => true
  | .counterLoWrite a _ => a % 8 == 0
  | .counterHiWrite a _ => a % 8 == 4
  | .hedCtrlWrite _ => true
  | .trdEnableSet t _ => decide (t < 8)
  | .trdEnableClear t _ => decide (t < 8)
  | .outputCfgWrite a _ => a % 4 == 0
  | .dbSqTail r v => decide (r < 128) && decide (v < 65536)
  | .dbCqHead r v => decide (r < 128) && decide (v < 65536)
  | .dbArmEnable r k => decide (r < 128) && decide (k < 65536)
  | .dbArmDisable r => decide (r < 128)
  | .submissionAccept e x => decide (e.ring < 128) && decide (e.index < 32768) && x.desc.all (fun l => l.length == 32)
  | .eventPendingFlush r => decide (r < 128)
  | .frameRxDelivery w => decide (w.ring < 128)
  | .rxWaitExpiry r => decide (r < 128)
  | .bobbinDrain r p => decide (r < 128) && decide (p < 273)
  | .logCompletion w => decide (w.ring < 128)
  | .txFrame d => d.wf
  | .rxBuffer d => d.wf
  | .logBuffer d => d.wf
  | .ruleWrite d => d.wf
  | .ruleSwap d => d.wf
  | .ruleClear d => d.wf
  | .fdbAdd d => d.wf
  | .fdbDel d => d.wf
  | .fdbFlush d => d.wf
  | .snapTake d => d.wf
  | .snapWriteDone set _ => decide (set < 40)
  | .snapFreeze d => d.wf
  | .snapThaw d => d.wf
  | .portSetConfigure d => d.wf
  | .portSetVlanMember d => d.wf
  | .laneSetConfigure d => d.wf
  | .laneSetReset d => d.wf
  | .laneSetReadapt d => d.wf
  | .readaptDone n _ _ => decide (n < 272)
  | .laneSetRetire d => d.wf
  | .laneSetReturn d => d.wf
  | .engineSetConfigure d => d.wf
  | .engineSetPowerUp d => d.wf
  | .engineSetPowerDown d => d.wf
  | .engineSetReset d => d.wf
  | .drainLsa d => d.wf
  | .drainLsb d => d.wf
  | .restoreLsa d => d.wf
  | .restoreLsb d => d.wf
  | .laserRampDone k _ => decide (k < 32)
  | .resetSystem d => d.wf
  | .resetComplex d => d.wf
  | .resetNode d => d.wf
  | .nodeDrainDone n => decide (n < 36)
  | .resetHeddle d => d.wf
  | .resetEngine d => d.wf
  | .resetLane d => d.wf
  | .resetTiming d => d.wf
  | .resetSynthesiser d => d.wf
  | .resetPort d => d.wf
  | .imageWrite d => d.wf
  | .imageClear d => d.wf
  | .cfgWrite d => d.wf
  | .calRunLanes d => d.wf
  | .calRunCore d => d.wf
  | .calRunMi d => d.wf
  | .calRunOutputs d => d.wf
  | .calRunOutputLoop d => d.wf
  | .calRunAsym d => d.wf
  | .calRunGnss d => d.wf
  | .calItemDone e => e.wf
  | .calStore d => d.wf
  | .miCalGapTimeout k => decide (k < 8)
  | .shedSetEnable d => d.wf
  | .shedSetDisable d => d.wf
  | .filterSet d => d.wf
  | .heddleLoad d => d.wf
  | .heddleDisable d => d.wf
  | .heddleEnable d => d.wf
  | .heddleDrained h => decide (h < 32)
  | .heddleReadbackDone h _ => decide (h < 32)
  | .picksReserve d => d.wf
  | .picksRelease d => d.wf
  | .mirrorSetSession d => d.wf
  | .mirrorSetGroup d => d.wf
  | .rationsSetEgress d => d.wf
  | .rationsSetWeight d => d.wf
  | .frerSetWrite d => d.wf
  | .frerSetReset d => d.wf
  | .refSetConfigure d => d.wf
  | .refSetGlobal d => d.wf
  | .refSetEsmc d => d.wf
  | .refSetRequalify d => d.wf
  | .dpllSteer d => d.wf
  | .timeAdjustSlew d => d.wf
  | .timeAdjustStep d => d.wf
  | .timeAdjustSet d => d.wf
  | .timingRole d => d.wf
  | .kplSet d => d.wf
  | .ptpSetPort d => d.wf
  | .ptpSetClock d => d.wf
  | .clkoutSetClock d => d.wf
  | .clkoutSetPulse d => d.wf
  | .clkoutSetTod d => d.wf
  | .clkoutSetSynth d => d.wf
  | .align d => d.wf
  | .treadleSetProgram d => d.wf
  | .treadleSetStop d => d.wf
  | .gnssSetConfigure d => d.wf
  | .gnssSetPosition d => d.wf
  | .gnssSetSurveyRestart d => d.wf
  | .gnssSetColdStart d => d.wf
  | .ringSetConfigure d => d.wf
  | .ringSetDisable d => d.wf
  | .attnAck d => d.wf
  | .cancel d => d.wf
  | .nop d => d.wf
  | .pickCycleBoundary n m => decide (1 ≤ n) && m.wf
  | .laneLockGained n _ => decide (n < 272)
  | .linkUpHoldExpiry n => decide (n < 272)
  | .laneLockLost l => decide (l.lane < 272)
  | .laneAcquireTimeout n => decide (n < 272)
  | .serdesFault n => decide (n < 272)
  | .fecDegradedSet n => decide (n < 272)
  | .fecDegradedClear n => decide (n < 272)
  | .laserInputLost k _ => decide (k < 32)
  | .laserInputReturn k _ => decide (k < 32)
  | .engineSelfTestDone k _ => decide (k < 32)
  | .engineStartTimeout k => decide (k < 32)
  | .opticalMonitorUpdate k _ _ _ _ => decide (k < 32)
  | .frameFirstByte p _ _ _ => decide (p < 272)
  | .frameLastByte p _ _ => decide (p < 272)
  | .controlFrameReceive p _ => decide (p < 272)
  | .pauseHoldExpiry p c => decide (p < 272) && decide (c < 8)
  | .headDispatch n _ _ _ => decide (n < 36)
  | .headDecision _ => true
  | .hedEccRepair _ _ _ _ _ _ => true
  | .beamRelease q => decide (q < 275)
  | .warpSend n p _ _ => decide (n < 36) && decide (p < 36)
  | .weftSend j p => decide (j < 36) && decide (p < 36)
  | .reedArrival n d _ _ _ => decide (n < 36) && decide (d < 36)
  | .releaseReport n d => decide (n < 36) && decide (d < 36)
  | .egressEnqueue d => decide (d < 36)
  | .hayloftSpill _ => true
  | .hayloftFetch _ _ _ _ => true
  | .pauseRepeat p => decide (p < 272)
  | .egressChoose p _ _ => decide (p < 273)
  | .frameTxEnd p => decide (p < 273)
  | .cutUnderrun p => decide (p < 273)
  | .shedEntryChange p => decide (p < 272)
  | .launchFetch _ => true
  | .launchStart p _ _ => decide (p < 273)
  | .ageLimitExpiry _ => true
  | .mcastCopyTimeout _ => true
  | .frerResetTimeout h => decide (h < 4096)
  | .xoCompareWindow _ => true
  | .tapSample t _ _ => decide (t < 286)
  | .miEdge k _ _ => decide (k < 8)
  | .armedIntervalExpiry k => decide (k < 8)
  | .gateEnd k => decide (k < 8)
  | .refActivityLoss r _ => decide (r < 14)
  | .qualTimerExpiry r => decide (r < 14)
  | .dpllStateEvaluate _ _ => true
  | .ageingLearn _ => true
  | .esmcPduReceive p _ => decide (p < 272)
  | .esmcTimeout r => decide (r < 14)
  | .synRelockStart n _ => decide (n < 4)
  | .synLockAcquired n => decide (n < 4)
  | .synFreqCheck n _ => decide (n < 4)
  | .synRelockReturn n => decide (n < 4)
  | .synRelockRetry n => decide (n < 4)
  | .pulseEdge o => decide (o < 4)
  | .treadleEdge t => decide (t < 8)
  | .todinMessage _ _ _ => true
  | .lldpSend p => decide (p < 272)
  | .lldpduReceive p _ => decide (p < 272)
  | .lldpTtlExpiry p => decide (p < 272)
  | .kplSlot p _ _ => decide (p < 272)
  | .kplMarkReceive p _ _ _ _ _ _ => decide (p < 272)
  | .kplReplyReceive p _ _ _ _ => decide (p < 272)
  | .kplTimeReceive p _ _ => decide (p < 272)
  | .kplReplyTimeout p => decide (p < 272)
  | .ptpAnnounceSend p => decide (p < 272)
  | .ptpSyncSend p => decide (p < 272)
  | .ptpFollowUpSend p => decide (p < 272)
  | .ptpDelayReqReceive p _ => decide (p < 272)
  | .ptpDelayReqSend p => decide (p < 272)
  | .ptpDelayRespReceive p _ => decide (p < 272)
  | .ptpDelayRespTimeout p => decide (p < 272)
  | .ptpSyncReceive p _ => decide (p < 272)
  | .ptpFollowUpReceive p _ => decide (p < 272)
  | .ptpAnnounceReceive p _ => decide (p < 272)
  | .ptpAnnounceTimeout p => decide (p < 272)
  | .ptpIgnoredReceive p _ => decide (p < 272)
  | .followUpMatchTimeout p => decide (p < 272)
  | .gnssSolution _ => true
  | .groomOutputReceive _ _ _ _ => true
  | .groomResetEnd _ => true
  | .groomImageLoaded _ => true
  | .resyncFinalCopy _ => true
  | .shadowTakeover _ => true
  | .shadowFault _ => true
  | .taskReadReg t _ => decide (t < 16)
  | .taskReadTime t => decide (t < 16)
  | .taskSubmit t _ _ => decide (t < 16)
  | .taskWait t _ => decide (t < 16)
  | .taskWaitResume t => decide (t < 16)
  | .taskReadPc t k => decide (t < 16) && decide (k < 9)
  | .taskRaise t _ => decide (t < 16)
  | .taskFault t => decide (t < 16)
  | .logSample c _ _ _ _ _ => decide (c < 6)
  | .pwrWarnAssert => true
  | .pwrWarnClear => true
  | .overvoltageEvent => true
  | .dieWarnRise => true
  | .oeWarnRise => true
  | .tapReset => true
  | .resetNAssert => true
  | .resetNRelease => true
  | .perstNRise => true
  | .run => true
  | .relinkDone => true
  | .timeNsRead => true
  | .effectiveAtBoundary => true
  | .ruleWriteDone => true
  | .ruleSwapDeferred => true
  | .calAutoEvaluate => true
  | .halterEvaluate => true
  | .rationsDeal => true
  | .fdbAgeing => true
  | .fateLedgerRecord => true
  | .xoMainLost => true
  | .xoMainReturn => true
  | .xoSpareLost => true
  | .xoSpareReturn => true
  | .ovenStableRise => true
  | .ageingTick => true
  | .ref13EstimateTimeout => true
  | .refMonitorEvaluate => true
  | .refSelection => true
  | .holdoverWindowExpiry => true
  | .stepThreshold => true
  | .learningHour => true
  | .esmcInfoSend => true
  | .esmcEventSend => true
  | .todMessageSend => true
  | .timeFirstSet => true
  | .qualityEvaluate => true
  | .leapApply => true
  | .bmcaEvaluate => true
  | .kplServoPublish => true
  | .gnssSolutionTimeout => true
  | .lagWindowExpiry => true
  | .revertHoldExpiry => true
  | .healthEvent => true
  | .vioFall => true
  | .dieWarnFall => true
  | .oeWarnFall => true
  | .ovenStableFall => true
  | .pcieConfigRequest => true
  | .todinRxValidExpiry => true
  | .engineShutdownTrip k _ => decide (k < 32)
  | .jtagBypass _ => true
  | .jtagIdcode _ => true
  | .jtagSamplePreload _ _ => true
  | .jtagExtest _ _ => true
  | .jtagClamp _ => true
  | .jtagHighz _ => true
  | .heddleGraphError h => decide (h < 32)
  | .lpiReceived n => decide (n < 272)
  | .elasticSlip n _ => decide (n < 272)
  | .hayloftStackFail k => decide (k < 2)
  | .gnssTimePulse _ => true
  | .gnssChannelHold c => decide (c < 96)
  | .gnssChannelIdle c => decide (c < 96)
  | .antennaMeasure _ _ => true
  | .antennaShortRetry _ => true
  | .jamEvaluate _ _ _ => true

end Sys2Proof
end

