-- ==== Sys2Proof/Safety.lean ====
section
/-! DEFINITION. What a sound state is, and what it is for a command of a ring to be taken and to end: the terms in which the statements
speak. -/

namespace Sys2Proof.Machine

open Sys2Proof

/-- The register file in canonical form: addresses strictly rising, and no register listed at its reset word, so that equal register files
are equal data. -/
def canonRegs (t : Tbl Word) : Prop := t.rising = true ∧ ∀ x ∈ t, x.2 ≠ resetWord x.1

/-- The forwarding database as its lookups take it (07 R276, R277): indices strictly rising, every entry in a way of the bucket of its
(VID, address) pair, and no pair twice. -/
def fdbSound (t : Tbl FdbEntry) : Prop :=
  t.rising = true ∧ (∀ x ∈ t, x.1 / 8 = fdbBucket x.2.vid x.2.mac) ∧
    ∀ x ∈ t, ∀ y ∈ t, x.2.vid = y.2.vid → x.2.mac = y.2.mac → x.1 = y.1

/-- A sound state: its register file and its forwarding database are. -/
def State.Sound (s : State) : Prop := canonRegs s.regs ∧ fdbSound s.fdb

/-- The turn of a command whose boundaries are those of `f`: the boundary that follows its acceptance has come, and no command that waits for
a boundary that has come acts before it (01 R21, R25). -/
abbrev Turn (f : Nat → Nat) (d : Submission) (s : State) : Prop :=
  f (s.acceptAt true d + 1) ≤ s.nt ∧
    ∀ x ∈ s.accepted, x.begun = false → x.boundary ≤ s.nt →
      f (s.acceptAt true d + 1) < x.boundary ∨ f (s.acceptAt true d + 1) = x.boundary ∧ d.ring < x.sub.ring

/-- A command that the module takes and carries out in this step: the next entry of a ring of its class that meets every check of acceptance
(04 R140, R156), carries no effective-at time, and acts on acceptance or has its turn. -/
abbrev Ready (k : CmdSpec) (d : Submission) (s : State) : Prop :=
  s.fetches k.cls d = true ∧ k.refusal d (k.acceptAt true d (s.fetched d)) (s.fetched d) = rOk ∧ d.at? = false ∧
    ∀ f, k.first d (s.fetched d) = some f → Turn f d s

/-- A command of opcode `op` taken now: it acts at the pick-cycle boundary after its acceptance, in the cycle that this boundary ends (01 R21,
R24). -/
def cmdOf (op : Nat) (d : Submission) (s : State) : Cmd := (s.fetched d).newCmd op d (ceilGrid (s.acceptAt true d + 1))

/-- A command of opcode `op` taken now that acts on acceptance (04 R155). -/
def cmdNow (op : Nat) (d : Submission) (s : State) : Cmd := (s.fetched d).newCmd op d (s.acceptAt false d)

/-- The state with the command's completion written: its result, the instant at which it acted, Q1 and Q2 (04 R138, R158). -/
def Cmd.ended (c : Cmd) (code q1 q2 : Nat) (s : State) : State := s.completeCmd c code c.boundary q1 q2

/-- The state with the command in progress: it completes under the event that ends it (04 R158). -/
def Cmd.goesOn (c : Cmd) (s : State) : State := { s with accepted := s.accepted ++ [{ c with begun := true }] }

/-- Two states differ in nothing but the registers at `l`. -/
def SameBut (l : List Nat) (s t : State) : Prop := (∀ a, a ∉ l → t.rd a = s.rd a) ∧ { t with regs := s.regs } = s

end Sys2Proof.Machine
end

