-- ==== Sys2Proof/Certificates/Slice0/Obligations.lean ====
section
/-! DEFINITION. The statements about the module: one definition per statement, from the numbered rules of the spec. -/

open Sys2Proof Sys2Proof.Machine

/-- A step carries out the command at the front of the queue with the queue's rest. -/
def Obligations.StepCarriesOutTheFrontCommand : Prop :=
  ∀ (s : State) (c : Instr) (q : List Instr), s.pending = c :: q → step s = exec c { s with pending := q }

/-- With no command waiting the module idles: the model's choice (log entry 1). -/
def Obligations.EmptyQueueIdles : Prop := ∀ s : State, s.pending = [] → step s = .next s

/-- No command stops the module. -/
def Obligations.NoCommandStopsTheModule : Prop := ∀ (c : Instr) (s : State), ∃ t, exec c s = .next t

/-- The state after reset is sound: every register reads as its reset word. -/
def Obligations.ResetStateIsSound : Prop :=
  State.reset.Sound ∧ (∀ a, State.reset.rd a = resetWord a) ∧ State.reset.pending = [] ∧ State.reset.supply = .off

/-- Every step of every command keeps the register file canonical and the forwarding database sound. -/
def Obligations.EveryStepKeepsTheStateSound : Prop := ∀ s t : State, s.Sound → step s = .next t → t.Sound

/-- No command, not even a reset, drops, adds or reorders commands that wait. -/
def Obligations.NoCommandTouchesTheQueue : Prop :=
  ∀ (c : Instr) (s t : State), s.Sound → exec c s = .next t → t.pending = s.pending

/-- 02 R41 to R43, R54: the warnings of the supply and of temperature. -/
def Obligations.SupplyAndThermalWarnings : Prop :=
  ∀ s : State,
    (s.supplied = true → s.on F.PWR_STATUS_PWR_WARN = false →
      exec .pwrWarnAssert s = .next ((s.set F.PWR_STATUS_PWR_WARN 1).raise .pwr 0 0)) ∧
    (s.supplied = false ∨ s.on F.PWR_STATUS_PWR_WARN = true → exec .pwrWarnAssert s = .next s) ∧
    exec .pwrWarnClear s = .next (s.set F.PWR_STATUS_PWR_WARN 0) ∧
    (s.supply = .on → exec .overvoltageEvent s = .next (s.raise .pwr 4 0)) ∧
    (s.supplied = true → (∃ x ∈ s.dieTemp, 8 * (s.dieWarnC : Int) ≤ x.2) → s.on F.PWR_STATUS_DIE_WARN = false →
      exec .dieWarnRise s = .next ((s.set F.PWR_STATUS_DIE_WARN 1).raise .pwr 1 0)) ∧
    ((∃ x ∈ s.dieTemp, 8 * (s.dieWarnC : Int) ≤ x.2) → exec .dieWarnFall s = .next s) ∧
    ((∀ x ∈ s.dieTemp, x.2 < 8 * (s.dieWarnC : Int)) → exec .dieWarnFall s = .next (s.set F.PWR_STATUS_DIE_WARN 0)) ∧
    (s.supplied = true → (∃ k < 32, 8 * (s.oeWarnC : Int) ≤ s.getI (F.OE_TEMP_OTS k)) → s.on F.PWR_STATUS_OE_WARN = false →
      exec .oeWarnRise s = .next ((s.set F.PWR_STATUS_OE_WARN 1).raise .pwr 2 0)) ∧
    ((∃ k < 32, 8 * (s.oeWarnC : Int) ≤ s.getI (F.OE_TEMP_OTS k)) → exec .oeWarnFall s = .next s) ∧
    ((∀ k < 32, s.getI (F.OE_TEMP_OTS k) < 8 * (s.oeWarnC : Int)) → exec .oeWarnFall s = .next (s.set F.PWR_STATUS_OE_WARN 0))

/-- 02 R42, R46, R49, R50, R74; 03 R83, R117: what starts and stops the supply leaves. -/
def Obligations.SupplyStartsAndShutsDown : Prop :=
  let Up : State → Prop := fun t => t.supply = .on ∧ t.get F.RST_DOMAIN_HELD = 0x1FF ∧ t.get F.RST_BOOT_STEP = 1 ∧
    (t.rd R.RST_CAUSE).toNat = 1 ∧ t.run = false ∧ t.on F.SYS_STATUS_READY = false
  let Kept : State → State → Prop := fun s t => t.nor = s.nor ∧ t.commits = s.commits ∧ t.pending = s.pending
  let Cold : State → List (Nat × Int) → Prop := fun s ts => (s.dieRead ts).dieAtLeast 95 = false
  let Hot : State → List (Nat × Int) → Prop := fun s ts => (s.dieRead ts).dieAtLeast 95 = true
  ∀ (s : State) (up : Nat) (lost long warn : Bool) (ts : List (Nat × Int)),
    (s.enable = true →
      s.supply = .off ∨ (s.supply = .brownOut ∧ lost = true) ∨ (s.supply = .thermal ∧ s.vinOk = false ∧ Cold s ts) →
      ∃ t, exec (.powerOn lost ts) s = .next t ∧ Up t ∧ t.on F.PWR_STATUS_PWR_WARN = true ∧ t.vinOk = true ∧ Kept s t ∧ t.ledger = s.ledger) ∧
    (s.enable = true → s.supply = .brownOut → lost = false → exec (.powerOn lost ts) s =
      .next (({ s with supply := .on, vinOk := true }.set F.PWR_STATUS_PWR_WARN 1).raise .pwr 0 0)) ∧
    (s.supply = .thermal → s.vinOk = false → Hot s ts → exec (.powerOn lost ts) s = .next ({ s with vinOk := true }.dieRead ts).warnVin) ∧
    (s.supply = .thermal → s.vinOk = true → exec (.powerOn lost ts) s = .next s) ∧
    (s.enable = false → s.supply ∈ [.off, .brownOut] ∨ (s.supply = .thermal ∧ s.vinOk = false ∧ Cold s ts) →
      ∃ t, exec (.powerOn lost ts) s = .next t ∧ t.supply = .standby ∧ t.vinOk = true ∧ Kept s t) ∧
    (s.supply = .standby ∨ (s.supply = .thermal ∧ long = true ∧ s.vinOk = true ∧ Cold s ts) →
      ∃ t, exec (.enableRise long warn ts) s = .next t ∧ Up t ∧ t.enable = true ∧ t.on F.PWR_STATUS_PWR_WARN = warn ∧ Kept s t ∧ t.ledger = s.ledger) ∧
    (s.supply = .thermal → long = false ∨ s.vinOk = false ∨ Hot s ts →
      exec (.enableRise long warn ts) s = .next { s.dieRead ts with enable := true }) ∧
    (s.supply = .on →
      ∃ t, exec (.brownOutAssert up) s = .next t ∧ t.supply = .brownOut ∧ t.vinOk = false ∧ t.get F.RST_DOMAIN_HELD = 0x1FF ∧
        t.get ⟨R.RST_CAUSE, 1, 1⟩ = 1 ∧ t.run = false ∧ Kept s t) ∧
    (s.supply = .standby → exec (.brownOutAssert up) s = .next { s with supply := .off, vinOk := false }) ∧
    (s.supply = .thermal → exec (.brownOutAssert up) s = .next { s with vinOk := false }) ∧
    (s.supply = .on →
      ∃ t, exec (.enableFall up) s = .next t ∧ t.supply = .standby ∧ t.enable = false ∧ t.get F.RST_DOMAIN_HELD = 0x1FF ∧ t.run = false ∧ Kept s t) ∧
    (s.supply = .on → (∃ x ∈ s.dieTemp, 8 * 113 ≤ x.2) →
      ∃ t, exec (.dieShutdownTrip up) s = .next t ∧ t.supply = .thermal ∧ t.get F.RST_DOMAIN_HELD = 0x1FF ∧ t.thermLow = true ∧ t.run = false ∧ Kept s t) ∧
    ((∀ x ∈ s.dieTemp, x.2 < 8 * 113) → exec (.dieShutdownTrip up) s = .next s)

/-- 02 R47, R48, R77: VIO and the test access port. -/
def Obligations.VioAndTestAccessPort : Prop :=
  ∀ (s : State) (mv : Nat) (lands tdi : List Bool),
    (s.vio = .absent → 1710 ≤ mv → mv ≤ 1890 → exec (.vioRise mv) s = .next { s with vio := .v1p8 }) ∧
    (s.vio = .absent → 3135 ≤ mv → mv ≤ 3465 → exec (.vioRise mv) s = .next { s with vio := .v3p3 }) ∧
    (s.vio ≠ .absent → exec (.vioRise mv) s = .next s) ∧
    exec .vioFall s = .next { s with vio := .absent } ∧
    (s.tapLive = true →
      exec (.jtagBypass tdi) s =
        .next { s with tap := { s.tap with instr := .bypass, driven := [], tdo := (false :: tdi).take tdi.length } } ∧
      (tdi.length = 32 → ∃ t, exec (.jtagIdcode tdi) s = .next t ∧ t.tap.instr = .idcode ∧ t.tap.boundary = s.tap.boundary ∧
        t.tap.tdo = (List.range 32).map (Nat.testBit 0x15120C75) ∧ { t with tap := s.tap } = s) ∧
      (tdi.length = 42 → lands.length = 42 → exec (.jtagSamplePreload lands tdi) s =
        .next { s with tap := { instr := .samplePreload, boundary := tdi, driven := [], tdo := lands } }) ∧
      (tdi.length = 42 → lands.length = 42 → ∃ t, t = { s with tap := { instr := .extest, boundary := tdi, driven := tdi, tdo := lands } } ∧
        exec (.jtagExtest lands tdi) s = .next t ∧ ∀ n < 4, t.land (.keep n) = .scan (tdi.getD (18 + n) false)) ∧
      exec (.jtagClamp tdi) s =
        .next { s with tap := { s.tap with instr := .clamp, driven := s.tap.boundary, tdo := (false :: tdi).take tdi.length } } ∧
      exec (.jtagHighz tdi) s =
        .next { s with tap := { s.tap with instr := .highz, driven := [], tdo := (false :: tdi).take tdi.length } }) ∧
    (s.tapLive = false → ∀ c ∈ [Instr.jtagBypass tdi, .jtagIdcode tdi, .jtagSamplePreload lands tdi, .jtagExtest lands tdi, .jtagClamp tdi,
      .jtagHighz tdi], exec c s = .next s) ∧
    exec .tapReset s = .next { s with tap := { s.tap with instr := .idcode, driven := [] } }

/-- 03 R83, R86, R115, R117: software requests of the registers. -/
def Obligations.SoftwareRequestsResetWhatTheyName : Prop :=
  ∀ (s : State) (v : BitVec 32),
    let scope := bits v.toNat 0 4
    let i := bits v.toNat 4 9
    let caused := s.noteCause 7
    (s.run = false → bits v.toNat 16 16 = 0x5A3C →
      (scope = 0 → ∃ t, exec (.swreqSystem v) s = .next t ∧ t.get ⟨R.RST_CAUSE, 7, 1⟩ = 1 ∧ t.get F.RST_DOMAIN_HELD = 0x1FF ∧
        t.get F.RST_BOOT_STEP = 1 ∧ t.supply = s.supply ∧ t.ledger = s.ledger ∧ t.commits = s.commits ∧ t.nor = s.nor) ∧
      (scope = 1 → exec (.swreqComplex v) s = .next (caused.groomReset false true)) ∧
      (scope = 2 → exec (.swreqComplex v) s = .next (caused.groomReset true true)) ∧
      (scope = 3 → i < 36 → exec (.swreqNode v) s = .next (caused.resetNode i)) ∧
      (scope = 4 → i < 32 → exec (.swreqHeddle v) s = .next (caused.heddleReset i)) ∧
      (scope = 5 → i < 32 → exec (.swreqEngine v) s = .next (caused.resetEngine i)) ∧
      (scope = 6 → i < 272 → exec (.swreqLane v) s = .next (caused.resetLane i)) ∧
      (scope = 7 → exec (.swreqTiming v) s = .next caused.timingReset) ∧
      (scope = 8 → i < 4 → exec (.swreqSynthesiser v) s = .next (caused.synRelock i)) ∧
      (scope = 9 → s.portIndexOk i = true → exec (.swreqPort v) s = .next (caused.resetPort i))) ∧
    (s.run = true ∨ bits v.toNat 16 16 ≠ 0x5A3C ∨ 9 < scope ∨ (scope = 3 ∧ 36 ≤ i) ∨ (scope ∈ [4, 5] ∧ 32 ≤ i) ∨ (scope = 6 ∧ 272 ≤ i) ∨
        (scope = 8 ∧ 4 ≤ i) ∨ (scope = 9 ∧ s.portIndexOk i = false) →
      ∀ c ∈ [Instr.swreqSystem v, .swreqComplex v, .swreqNode v, .swreqHeddle v, .swreqEngine v, .swreqLane v, .swreqTiming v,
        .swreqSynthesiser v, .swreqPort v], exec c s = .next s)

/-- 03 R86; 18 R620 to R622: RESET of the MGMT rings. -/
def Obligations.ResetCommandsResetWhatTheyName : Prop :=
  ∀ (s : State) (d : Submission), Ready specReset d s →
    let i := d.P0 4 9
    let c := cmdOf 0x43 d s
    let caused := (s.fetched d).noteCause 7
    (d.P0 0 4 = 0 → exec (.resetSystem d) s = .next ((c.ended rOk 0 0 (s.fetched d)).systemReset 7)) ∧
    (d.P0 0 4 = 1 → s.on F.GROOM_STATUS_HANDOVER = false → s.groom true = gsInStep ∨ s.groom false = gsRetired →
      exec (.resetComplex d) s = .next (c.ended rOk 0 0 (caused.groomReset false true))) ∧
    (d.P0 0 4 = 2 → s.on F.GROOM_STATUS_HANDOVER = false → s.groom false = gsInStep ∨ s.groom true = gsRetired →
      exec (.resetComplex d) s = .next (c.ended rOk 0 0 (caused.groomReset true true))) ∧
    (d.P0 0 4 = 1 → s.on F.GROOM_STATUS_HANDOVER = true ∨ (s.groom true ≠ gsInStep ∧ s.groom false ≠ gsRetired) →
      exec (.resetComplex d) s = .next (c.ended rState 0 0 (s.fetched d))) ∧
    (d.P0 0 4 = 3 → exec (.resetNode d) s = .next (c.goesOn (caused.resetNode i))) ∧
    (d.P0 0 4 = 4 → exec (.resetHeddle d) s = .next (c.ended rOk 0 0 (caused.heddleReset i))) ∧
    (d.P0 0 4 = 5 → exec (.resetEngine d) s = .next (c.ended rOk 0 0 (caused.resetEngine i))) ∧
    (d.P0 0 4 = 6 → exec (.resetLane d) s = .next (c.ended rOk 0 0 (caused.resetLane i))) ∧
    (d.P0 0 4 = 7 → exec (.resetTiming d) s = .next ((c.ended rOk 0 0 (s.fetched d)).noteCause 7).timingReset) ∧
    (d.P0 0 4 = 8 → exec (.resetSynthesiser d) s = .next (c.ended rOk 0 0 (caused.synRelock i))) ∧
    (d.P0 0 4 = 9 → exec (.resetPort d) s = .next (c.ended rOk 0 0 (caused.resetPort i)))

/-- 03 R83 to R85, R90, R116, R117; 16 R575: resets by pins, cores, the debugger and clocks. -/
def Obligations.PinsCoresDebuggerAndClocksReset : Prop :=
  ∀ (s : State) (v : BitVec 32) (core i : Nat),
    (s.supply = .on → exec .resetNAssert s = .next ({ s with resetN := false }.systemReset 2)) ∧
    (s.supply ≠ .on → exec .resetNAssert s = .next { s with resetN := false }) ∧
    exec .resetNRelease s = .next { s with resetN := true } ∧
    (core < 6 → s.groom (decide (3 ≤ core)) ≠ gsOff → s.groom (decide (3 ≤ core)) ≠ gsRetired →
      (s.on F.SYS_STATUS_READY = true →
        exec (.watchdogExpiry core) s =
          .next ((s.noteCause (if core < 3 then 3 else 4)).groomFault 2 (decide (3 ≤ core)) (core % 3)) ∧
        exec (.lockup core) s =
          .next ((s.noteCause (if core < 3 then 5 else 6)).groomFault 3 (decide (3 ≤ core)) (core % 3))) ∧
      (s.on F.SYS_STATUS_READY = false →
        exec (.watchdogExpiry core) s = .next (s.systemReset (if core < 3 then 3 else 4)) ∧
        exec (.lockup core) s = .next (s.systemReset (if core < 3 then 5 else 6)))) ∧
    (s.debugBoot = true →
      (bits v.toNat 0 4 = 0 → exec (.dbgReqSystem v) s = .next (s.systemReset 8)) ∧
      (bits v.toNat 0 4 = 1 → exec (.dbgReqComplex v) s = .next ((s.noteCause 8).groomReset false true)) ∧
      (bits v.toNat 0 4 = 2 → exec (.dbgReqComplex v) s = .next ((s.noteCause 8).groomReset true true)) ∧
      ∃ t, exec (.rstForceWrite v) s = .next t ∧ SameBut [R.RST_FORCE, R.RST_DOMAIN] s t ∧
        t.get F.RST_DOMAIN_HELD = s.get F.RST_DOMAIN_HELD ∧
        t.get F.RST_DOMAIN_EXTENDED = s.get F.RST_DOMAIN_EXTENDED ||| (v.toNat % 512 &&& s.get F.RST_DOMAIN_HELD)) ∧
    (s.debugBoot = false → ∀ c ∈ [Instr.dbgReqSystem v, .dbgReqComplex v, .rstForceWrite v], exec c s = .next s) ∧
    (s.supply = .on →
      (∀ d : Domain, d ∈ [.aon, .nvs] ∨ s.on F.SYN_STATUS_SAFE_GEN_OK = true ∨ s.heldDomain d.bit = true ∨ s.elemHeld.contains (d, i) = true →
        exec (.clockFailure d i) s = .next s) ∧
      (∀ d : Domain, s.on F.SYN_STATUS_SAFE_GEN_OK = false → s.heldDomain d.bit = false → s.elemHeld.contains (d, i) = false →
        let boot := { s.noteCause 9 with onBootOsc := s.onBootOsc.filter (fun x => x ≠ d) ++ [d] }
        let held := { s.noteCause 9 with elemHeld := s.elemHeld ++ [(d, i)] }
        (d = .timing → exec (.clockFailure d i) s = .next boot.timingReset) ∧
        (d = .groomA → exec (.clockFailure d i) s = .next (boot.groomReset false false)) ∧
        (d = .groomB → exec (.clockFailure d i) s = .next (boot.groomReset true false)) ∧
        (d = .core → exec (.clockFailure d i) s = .next boot.coreReset) ∧
        (d = .syn → i < 4 → exec (.clockFailure d i) s = .next (held.synRelock i)) ∧
        (d = .lanes → i < 272 → exec (.clockFailure d i) s = .next (held.resetLane i)) ∧
        (d = .engines → i < 32 → exec (.clockFailure d i) s = .next (held.resetEngine i)) ∧
        (d = .ports → s.portIndexOk i = true → exec (.clockFailure d i) s = .next (held.resetPort i))))

/-- 03 R83, R117: what a reset of system scope leaves. -/
def Obligations.SystemResetClearsEveryRegister : Prop :=
  ∀ s : State, s.supply = .on → ∃ t, exec .resetNAssert s = .next t ∧
    (∀ a, a ∉ [R.RST_DOMAIN, R.RST_BOOT] ++ aonWords → t.rd a = resetWord a) ∧
    (∀ a ∈ aonWords, a ≠ R.RST_CAUSE → a ≠ R.PWR_BP_STATUS → t.rd a = s.rd a) ∧ t.get F.PWR_BP_STATUS_KEEP_ACTIVE = 0 ∧
    t.get F.RST_DOMAIN_HELD = 0x1FF ∧ t.get F.RST_BOOT_STEP = 1 ∧
    (∀ k < 32, (t.rd R.RST_CAUSE).getLsbD k = ((s.rd R.RST_CAUSE).getLsbD k || k == 2)) ∧
    t.rings = [] ∧ t.accepted = [] ∧ t.frames = [] ∧ t.rules = [] ∧ t.fdb = [] ∧ t.shuttles = [] ∧ t.timers = [] ∧ t.nt = 0 ∧
    t.ledger = s.ledger ∧ t.commits = s.commits ∧ t.nor = s.nor ∧ t.cq = s.cq ∧ t.rxData = s.rxData ∧ t.pending = s.pending

/-- 03 R89 to R105: releases and boot steps. -/
def Obligations.BootStepsAndReleasesInOrder : Prop :=
  ∀ (s : State) (up ohms : Nat) (ok : Bool) (fs : List Nat), s.supply = .on → s.resetN = true →
    (s.get F.RST_BOOT_STATE = 0 →
      (s.order = 0 → s.get F.RST_BOOT_STEP = 1 → exec (.domainRelease .aon) s = .next { s with order := 1 }) ∧
      (s.order = 1 → s.get F.RST_BOOT_STEP = 2 → ohms ≤ 50 → ∃ t, exec (.domainRelease (.options (some ohms) true)) s = .next t ∧ t.order = 2 ∧
        t.get F.RST_STRAP_BOOT_SRC = 3 ∧ t.on F.RST_STRAP_SAFE = true ∧ t.get F.RST_STRAP_OHMS10 = ohms / 10 ∧
        ∀ a, a ≠ R.RST_STRAP → t.rd a = s.rd a) ∧
      (s.order = 6 → s.get F.RST_BOOT_STEP = 11 → (∀ d ∈ [Domain.nvs, .timing, .syn, .groomA, .groomB, .core], s.heldDomain d.bit = false) →
        exec (.domainRelease .lanes) s = .next { s.release .lanes with order := 7 }) ∧
      (s.get F.RST_BOOT_STEP = 4 → s.fell = false → 4 ≤ s.order → exec (.bootStepComplete true fs up) s =
        .next ({ (s.ledgerAdd 4 1 0 up).set F.RST_BOOT_STEP 5 with fell := s.bootFb.contains 5 }.ledgerAdd 5 0 0 up)) ∧
      (s.get F.RST_BOOT_STEP = 4 → s.fell = true → exec (.bootStepComplete false fs up) s =
        .next (((s.ledgerAdd 4 3 (fs.headD 0) up).event 0x0201 0 (4 + 256 * (s.ledgerAdd 4 3 (fs.headD 0) up).get F.RST_BOOT_FALLBACK)).set F.RST_BOOT_STATE 3)) ∧
      (s.get F.RST_BOOT_STEP = 14 → s.get F.RST_BOOT_FALLBACK = 0 →
        exec (.bootStepComplete ok fs up) s = .next (((s.ledgerAdd 14 1 0 up).set F.RST_BOOT_STATE 1).set F.SYS_STATUS_READY 1).startTasks)) ∧
    ((s.get F.RST_BOOT_STATE = 1 ∨ s.get F.RST_BOOT_STATE = 3) → exec (.bootStepComplete ok fs up) s = .next s) ∧
    (s.order ≠ 0 → exec (.domainRelease .aon) s = .next s) ∧
    (s.order ≠ 6 ∨ (∃ d ∈ [Domain.nvs, .timing, .syn, .groomA, .groomB, .core], s.heldDomain d.bit = true) →
      exec (.domainRelease .lanes) s = .next s)

/-- 03 R110, R112; 04 R155; 17 R616, R617: the commands and the end of a store write. -/
def Obligations.StoreWritesStartAndEnd : Prop :=
  ∀ (s : State) (d : Submission) (j : StoreJob) (n : Nat) (ok : Bool),
    (Ready specImageWrite d s → s.job = none → s.on F.GROOM_STATUS_HANDOVER = false → exec (.imageWrite d) s =
      .next ((cmdNow 0x45 d s).goesOn ((s.fetched d).storeStart knImage d.bytes false (cmdNow 0x45 d s)))) ∧
    (Ready specImageWrite d s → s.job ≠ none ∨ s.on F.GROOM_STATUS_HANDOVER = true → exec (.imageWrite d) s =
      .next ((cmdNow 0x45 d s).ended rBusy 0 0 (s.fetched d))) ∧
    (Ready specImageClear d s → exec (.imageClear d) s =
      .next ((cmdNow 0x46 d s).ended rOk 0 0 ((s.fetched d).setSuspect (d.P0 0 1) false))) ∧
    (Ready specCfgWrite d s → s.job = none → exec (.cfgWrite d) s =
      .next ((cmdNow 0x47 d s).goesOn ((s.fetched d).storeStart knCfg d.bytes (d.P0 0 1 == 1) (cmdNow 0x47 d s)))) ∧
    (Ready specCfgWrite d s → s.job ≠ none → exec (.cfgWrite d) s = .next ((cmdNow 0x47 d s).ended rBusy 0 0 (s.fetched d))) ∧
    (s.job = none ∨ (s.job = some j ∧ j.ledgerSeq = none) → exec (.storeWriteDone ok) s = .next s) ∧
    (s.job = some j → j.ledgerSeq = some n → exec (.storeWriteDone false) s =
      .next (((({ s with job := none }.set F.NVS_STATUS_BUSY 0).set F.NVS_STATUS_LAST_FAIL 1).event 0x0301 j.kind rStoreFail).storeComplete j
        rStoreFail s.nt 0)) ∧
    (s.job = some j → j.ledgerSeq = some n → j.kind = knImage → j.apply = false → exec (.storeWriteDone true) s =
      .next ((((s.storeCommit j n).setSuspect j.slot false).storeEnd j true).storeComplete j rOk s.nt 0)) ∧
    (s.job = some j → j.ledgerSeq = some n → j.kind ≠ knImage → j.apply = false → exec (.storeWriteDone true) s =
      .next (((s.storeCommit j n).storeEnd j true).storeComplete j rOk s.nt 0)) ∧
    (s.job = some j → j.ledgerSeq = some n → j.kind ≠ knImage → j.apply = true → ∃ t, t = (s.storeCommit j n).storeEnd j true ∧
      exec (.storeWriteDone true) s = .next { t with cfgApply := t.cfgApply ++ [j] })

/-- 03 R110 to R112: two-slot storage. -/
def Obligations.TwoSlotStoreKeepsTheSlotInForce : Prop :=
  ∀ (s : State) (kind k n : Nat) (r : CommitRec) (l : List Byte) (apply : Bool) (c : Cmd), s.ledgerOff = false → s.newest kind = some (k, r) →
    r.slot < 2 →
    (∃ t : State, t = (s.storeStart kind l apply c).storeBegin n ∧
      t.newest kind = some (k, r) ∧ t.slotData kind r.slot = s.slotData kind r.slot ∧
      ∃ j, t.job = some j ∧ j.kind = kind ∧ j.slot = 1 - r.slot ∧ j.data = l ∧ j.ledgerSeq = some n) ∧
    (∀ j : StoreJob, j.kind = kind → j.slot = 1 - r.slot → dataOurs kind j.data = true → ∃ r' : CommitRec,
      (s.storeCommit j n).newest kind = some (1 - k, r') ∧ r'.slot = j.slot ∧ r'.seq = (r.seq + 1) % 2 ^ 32 ∧ r'.length = j.data.length ∧
      r'.crc = crc32 j.data ∧ r'.ledgerSeq = n ∧ (s.storeCommit j n).slotData kind j.slot = { data := j.data, good := true })

/-- 03 R93; 04 R120, R125, R128, R130: the link to the host. -/
def Obligations.HostLinkAndRun : Prop :=
  ∀ (s : State) (w sp r up : Nat) (perst : Bool) (v : BitVec 32),
    exec .perstNRise s = .next { s with perstN := true } ∧
    (s.perstN = true → s.supply = .on → s.heldDomain 5 = false → s.on F.RST_STRAP_WIDTH4 = false → w ∈ [1, 2, 4, 8] → 1 ≤ sp → sp ≤ 5 →
      exec (.pcieLinkTrained w sp) s = .next ((s.set F.HIF_STATUS_WIDTH w).set F.HIF_STATUS_SPEED sp)) ∧
    (s.on F.RST_STRAP_WIDTH4 = true → exec (.pcieLinkTrained 8 sp) s = .next s) ∧
    exec .pcieConfigRequest s =
      .next { s with cfgRetry := !(decide (8 ≤ s.get F.RST_BOOT_STEP) || s.get F.RST_BOOT_STATE == 2) } ∧
    (s.run = false → exec (.pcieLinkDown false) s = .next ((s.set F.HIF_STATUS_WIDTH 0).set F.HIF_STATUS_SPEED 0)) ∧
    (s.run = true → s.relink = false → ∃ t, exec (.pcieLinkDown perst) s = .next t ∧ t.relink = true ∧ t.cqHeld = [] ∧ t.era = s.era + 1 ∧
      t.accepted = s.accepted ∧ t.get F.HIF_STATUS_WIDTH = 0 ∧ t.perstN = (s.perstN && !perst)) ∧
    (s.run = false → s.runRefusal ≠ 0 → exec .run s =
      .next ((s.set F.SYS_STATUS_RUN_REFUSED 1).set F.SYS_STATUS_REFUSE_CAUSE s.runRefusal)) ∧
    (s.run = false → s.on F.SYS_STATUS_READY = true → (∃ q < 128, s.cls q = clsMgmt) → (∃ q < 128, s.cls q = clsEvent) → s.ringsInvalid = false →
      exec .run s = .next (((s.set F.SYS_CTRL_RUN 1).set F.SYS_STATUS_RUN 1).set F.SYS_STATUS_RUN_REFUSED 0).updKeep) ∧
    (s.run = true → exec .run s = .next s) ∧
    (s.relink = false → exec .relinkDone s = .next s) ∧
    (s.relink = true → s.ringsInvalid = true → ∃ e : EventRec, e.code = 0x0413 ∧ e.src = 0xFFFF ∧ e.detail = (s.rd R.SYS_STATUS).toNat ∧
      e.time = s.nt ∧ exec .relinkDone s = .next (({ s with relinkLog := s.relinkLog ++ [e] }.attn (2 ^ 13)).wakeTasks 0x0413)) ∧
    (s.relink = true → s.ringsInvalid = false → s.relinkLog = [] → ∃ t, exec .relinkDone s = .next t ∧ t.relink = false ∧ t.cq = s.cq ∧
      t.accepted = s.accepted ∧ t.frames = s.frames ∧
      (t.ring r).sqHead = 0 ∧ (t.ring r).sqTail = 0 ∧ (t.ring r).cqHead = 0 ∧ (t.ring r).cqTail = 0 ∧ (t.ring r).phase = true ∧
      (t.ring r).armed = none ∧ (t.ring r).rxQueue = (s.ring r).rxQueue) ∧
    (v.getLsbD 0 = true → s.get F.RST_BOOT_STATE = 2 → s.debugBoot = false → s.get F.HIF_DL_STATUS_STATE ≠ 1 →
      (s.get F.HIF_DL_LEN_LENGTH = 4096 → exec (.dlGo v) s = .next (s.set F.HIF_DL_STATUS_STATE 1)) ∧
      (s.get F.HIF_DL_LEN_LENGTH % 4096 ≠ 0 → exec (.dlGo v) s = .next (s.set F.HIF_DL_STATUS_STATE 3))) ∧
    (s.get F.HIF_DL_STATUS_STATE = 1 → exec (.dlFetchDone false up) s = .next (s.set F.HIF_DL_STATUS_STATE 3)) ∧
    (s.get F.HIF_DL_STATUS_STATE = 1 → ∃ t : State, t = ((s.set F.HIF_DL_STATUS_STATE 2).set F.RST_BOOT_STATE 0).setIdents none ∧
      exec (.dlFetchDone true up) s = .next (t.stepEnd 7 (if t.fb fbHostDl then 2 else 1) 2 up)) ∧
    (s.get F.HIF_DL_STATUS_STATE ≠ 1 → exec (.dlFetchDone true up) s = .next s)

/-- 00 R6, R7; 04 R122, R126: register writes by access codes. -/
def Obligations.RegisterWritesFollowTheirAccessCodes : Prop :=
  ∀ (s : State) (a n : Nat) (v same : BitVec 32) (r : RegRow) (bar2 rd : Bool),
    let after : Nat → Bool := fun k =>
      (if r.rw.getLsbD k || (r.rws.getLsbD k && !s.run) then v.getLsbD k else (s.rd a).getLsbD k) &&
        !(v.getLsbD k && r.w1c.getLsbD k && !(s.justSet a same).getLsbD k)
    let special := [R.SYS_CTRL, R.RST_SWREQ, R.RST_DBG_REQ, R.RST_FORCE, R.HIF_DL_CTRL, R.OBS_PEEK_SEL]
    (a % 4 = 0 → rowOf a = some r →
      (0x700000 ≤ a → a < 0x780000 → ∃ t, exec (.registerWrite false a ⟨v, same⟩) s = .next t ∧ SameBut [a] s t ∧
        ∀ k < 32, (t.rd a).getLsbD k = after k) ∧
      (r.w1c ≠ 0#32 → a ∉ special → isRingReg a = false → ∃ t, exec (.registerWrite false a ⟨v, same⟩) s = .next t ∧ SameBut [a] s t ∧
        ∀ k < 32, (t.rd a).getLsbD k = after k) ∧
      (s.run = true → r.rw = 0#32 → r.w1c = 0#32 → isRingReg a = false → a ∉ special → exec (.registerWrite false a ⟨v, same⟩) s = .next s)) ∧
    (∀ b k, k < 32 → b < 32 → a ≠ R.OBS_WRAP → s.justSet a same = s.setNow.getD a 0 &&& same ∧
      ((s.stick a b).setNow.getD a 0).getLsbD k = ((s.setNow.getD a 0).getLsbD k || k == b)) ∧
    (occupied a = false → exec (.registerWrite false a ⟨v, same⟩) s = .next (s.hifErr 0 0xFFFF a)) ∧
    (n ≠ 4 ∨ (if bar2 then (doorbellOf a).isNone else !occupied a) → exec (.invalidAccess bar2 rd a n) s =
      .next ((if rd then { s with rdata := 0 } else s).hifErr 0 0xFFFF a))

/-- 00 R6; 10 R397; 11 R449; 13 R484; 17 R609; 16 R585; 12 R478, R480; 07 R307: reads that latch, writes with rows of their own. -/
def Obligations.LatchingReadsAndHeldWrites : Prop :=
  ∀ (s : State) (lo a t w : Nat) (v : BitVec 32),
    (lo ∈ latchLos → ∃ u, exec (.latchingRead false lo) s = .next u ∧ u.rdata = s.rd lo ∧
      Tbl.find (lo + 4) u.latches = some (s.rd (lo + 4)) ∧ { u with rdata := s.rdata, latches := s.latches } = s) ∧
    (lo ∈ latchLos → ∀ x, Tbl.find (lo + 4) s.latches = some x → ∃ u, exec (.latchingRead false (lo + 4)) s = .next u ∧ u.rdata = x ∧
      Tbl.find (lo + 4) u.latches = none ∧ { u with rdata := s.rdata, latches := s.latches } = s) ∧
    (∃ u, exec (.timeLatchRead false) s = .next u ∧ u.rdata = timeWord s.nt 0 ∧
      (∀ i < 5, Tbl.find (R.TIME_CT_LO + 4 * i) u.latches = some (timeWord s.nt i)) ∧ { u with rdata := s.rdata, latches := s.latches } = s) ∧
    (∀ x, Tbl.find R.TIME_NS s.latches = some x → ∃ u, exec .timeNsRead s = .next u ∧ u.rdata = x ∧
      (∀ i < 5, Tbl.find (R.TIME_CT_LO + 4 * i) u.latches = none) ∧ { u with rdata := s.rdata, latches := s.latches } = s) ∧
    (t < 286 → ∃ u, exec (.tapLastRead t) s = .next u ∧ u.rdata = s.rd (R.MEAS_TAP_LAST t) ∧
      (∀ i < 7, Tbl.find (R.MEAS_TAP_LAST t + 4 * (i + 1)) u.latches = some (s.rd (R.MEAS_TAP_LAST t + 4 * (i + 1)))) ∧
      { u with rdata := s.rdata, latches := s.latches } = s) ∧
    exec (.obsPeekSelWrite v) s = .next ({ s with obs := { s.obs with peek := [] } }.wr R.OBS_PEEK_SEL v) ∧
    (∃ u, exec (.obsPeekRead 0) s = .next u ∧ u.rdata = BitVec.ofNat 32 (leAt s.peekRecord 0 4) ∧ u.regs = s.regs ∧ u.ctr = s.ctr) ∧
    (64 ≤ w → exec (.obsPeekRead w) s = .next s) ∧
    (s.run = false → isPerfLo a = true →
      exec (.counterLoWrite a v) s = .next { s with perfHold := Tbl.ins a v s.perfHold } ∧
      (∀ x, Tbl.find a s.perfHold = some x → exec (.counterHiWrite (a + 4) v) s =
        .next (({ s with perfHold := Tbl.del a s.perfHold }.wr a x).wr (a + 4) (v &&& 0xFFFF#32)))) ∧
    (s.run = false → exec (.hedCtrlWrite v) s = .next (s.hedCtrl v)) ∧
    (s.run = false → t < 8 → v.getLsbD 0 = true → exec (.trdEnableSet t v) s = .next (s.trdCfgWrite t v)) ∧
    (s.run = false → t < 8 → v.getLsbD 0 = false → exec (.trdEnableClear t v) s = .next (s.trdCfgWrite t v)) ∧
    (s.run = false → isOutputCfg a = true → exec (.outputCfgWrite a v) s = .next (s.outputWrite a v)) ∧
    (s.run = true → ∀ c ∈ [Instr.counterLoWrite a v, .counterHiWrite a v, .hedCtrlWrite v, .trdEnableSet t v, .trdEnableClear t v,
      .outputCfgWrite a v], exec c s = .next s)

/-- 04 R131 to R135, R168: the doorbells of BAR2. -/
def Obligations.DoorbellsMoveTheRings : Prop :=
  ∀ (s : State) (r v a o : Nat) (w : RegWr),
    (doorbellOf a = some (r, o) → o < 0x10 → exec (.registerWrite true a w) s =
      .next { s with dbNow := s.dbNow.filter (fun x => !(x.1 == r && x.2.1 == o)) ++ [(r, o, w.v)] }) ∧
    (doorbellOf a = some (r, o) → 0x10 ≤ o → exec (.registerWrite true a w) s = .next s) ∧
    (s.dbNow = [] → s.doorbells = s) ∧
    (∀ x l, s.dbNow = x :: l → s.doorbells = ({ s with dbNow := [] }.forEach (x :: l) (fun y z =>
      if y.2.1 = 0 then z.dbSqTail y.1 y.2.2.toNat else if y.2.1 = 4 then z.dbCqHead y.1 y.2.2.toNat
      else if y.2.2.getLsbD 16 then z.dbArm y.1 y.2.2.toNat else z.dbDisarm y.1))) ∧
    (128 ≤ r → ∀ c ∈ [Instr.dbSqTail r v, .dbCqHead r v, .dbArmEnable r v, .dbArmDisable r], exec c s = .next s) ∧
    (r < 128 →
      (v % 65536 < s.ringSize r → exec (.dbSqTail r v) s = .next (s.modRing r (fun q => { q with sqTail := v % 65536 }))) ∧
      (s.ringSize r ≤ v % 65536 →
        exec (.dbSqTail r v) s = .next (s.hifErr 1 r (v % 65536)) ∧ exec (.dbCqHead r v) s = .next (s.hifErr 1 r (v % 65536))) ∧
      (v % 65536 < s.ringSize r → (v % 65536 + s.ringSize r - (s.ring r).cqHead) % s.ringSize r ≤ s.cqUsed r →
        (s.ring r).draining = false → exec (.dbCqHead r v) s = .next (s.modRing r (fun q => { q with cqHead := v % 65536 }))) ∧
      ((s.ring r).cqTail ≤ v % 65536 → (r, v % 65536) ∉ s.wroteNow →
        exec (.dbArmEnable r v) s = .next (s.modRing r (fun q => { q with armed := some (v % 65536) }))) ∧
      (v % 65536 < (s.ring r).cqTail ∨ (r, v % 65536) ∈ s.wroteNow → exec (.dbArmEnable r v) s =
        .next ((s.modRing r (fun q => { q with armed := none })).sendMsix (s.get (F.HIF_RING_CFG_MSIX_VEC r)))) ∧
      exec (.dbArmDisable r) s = .next (s.modRing r (fun q => { q with armed := none })))

/-- 01 R23: an effective-at time too far ahead is refused, and the refusal is all that happens. -/
def Obligations.TooFarAheadIsRefusedAndChangesNothing : Prop :=
  ∀ (k : CmdSpec) (op : Nat) (row : Bool) (d : Submission) (s : State),
    let acc := k.acceptAt row d (s.fetched d)
    s.fetches k.cls d = true → (k.block = true → d.block.isSome = true) → k.reservedSet d = false → k.takesAt = true →
    (k.first d (s.fetched d)).isSome = true → k.check d (s.fetched d) = rOk → d.at? = true → ctDiff d.time.toNat (ct acc) > 2 ^ 62 →
    k.actBad d acc (s.fetched d) = 0 → k.take op row d s = ((s.fetched d).newCmd op d acc).ended rTooFar 0 0 (s.fetched d)

/-- 01 R22: a command whose time has passed. -/
def Obligations.PastTimesActAtTheNextBoundaryLate : Prop :=
  ∀ (k : CmdSpec) (op : Nat) (d : Submission) (s : State) (f : Nat → Nat),
    let acc := k.acceptAt true d (s.fetched d)
    let c : Cmd := { (s.fetched d).newCmd op d (f (acc + 1)) with late := true }
    s.fetches k.cls d = true → k.refusal d acc (s.fetched d) = rOk → k.first d (s.fetched d) = some f → d.at? = true →
    ctDiff d.time.toNat (ct acc) < 0 →
    (Turn f d s → k.take op true d s = k.actNow c (s.fetched d)) ∧
    (s.nt < f (acc + 1) → op ∉ [0x11, 0x4A] → k.take op true d s = { s.fetched d with accepted := s.accepted ++ [c] }) ∧
    ∀ (t u : State) (code q1 q2 : Nat), t.completeCmd c code (f (acc + 1)) q1 q2 = u →
      d.ring < 128 → t.relink = false → t.groomUp = true → t.era = s.era →
      ∃ x : Completion, u.cq = Tbl.ins (t.cqAddr d.ring (t.ring d.ring).cqTail) x.bytes t.cq ∧ x.time = BitVec.ofNat 64 (f (acc + 1)) ∧
        x.result = code ∧ x.tag = d.tag ∧ x.sqIndex = d.index ∧ x.cflags.getLsbD 1 = true

/-- 01 R25: the order of the commands of one boundary. -/
def Obligations.CommandsOfABoundaryActInOrder : Prop :=
  ∀ (s : State) (c : Cmd), s.dueCmd = some c → ∃ l1 l2, s.accepted = l1 ++ c :: l2 ∧ c.begun = false ∧ c.boundary ≤ s.nt ∧
    (∀ x ∈ l1, x.begun = false → x.boundary ≤ s.nt → c.boundary < x.boundary ∨ (c.boundary = x.boundary ∧ c.sub.ring < x.sub.ring)) ∧
    (∀ x ∈ l2, x.begun = false → x.boundary ≤ s.nt → c.boundary < x.boundary ∨ (c.boundary = x.boundary ∧ c.sub.ring ≤ x.sub.ring))

/-- 04 R130, R156, R157: what may not be fetched has no effect. -/
def Obligations.UnfetchedSubmissionsChangeNothing : Prop :=
  ∀ (s : State) (d : Submission), d.ring < 128 →
    (s.relink = true ∨ s.groomUp = false ∨ (s.ring d.ring).stopping = true ∨ d.index ≠ (s.ring d.ring).sqHead ∨
      (s.ring d.ring).sqHead = (s.ring d.ring).sqTail ∨ s.cls d.ring ∈ [0, clsTs, clsEvent]) →
    ∀ c ∈ [Instr.bypassSetPair d, .bypassSetHold d, .txFrame d, .rxBuffer d, .logBuffer d, .ruleWrite d, .ruleSwap d, .ruleClear d, .fdbAdd d,
        .fdbDel d, .fdbFlush d, .snapTake d, .snapFreeze d, .snapThaw d, .portSetConfigure d, .portSetVlanMember d, .laneSetConfigure d,
        .laneSetReset d, .laneSetReadapt d, .laneSetRetire d, .laneSetReturn d, .engineSetConfigure d, .engineSetPowerUp d] ++
      [Instr.engineSetPowerDown d, .engineSetReset d, .drainLsa d, .drainLsb d, .restoreLsa d, .restoreLsb d, .resetSystem d, .resetComplex d,
        .resetNode d, .resetHeddle d, .resetEngine d, .resetLane d, .resetTiming d, .resetSynthesiser d, .resetPort d, .imageWrite d,
        .imageClear d, .cfgWrite d, .calRunLanes d, .calRunCore d, .calRunMi d, .calRunOutputs d, .calRunOutputLoop d, .calRunAsym d] ++
      [Instr.calRunGnss d, .calStore d, .shedSetEnable d, .shedSetDisable d, .filterSet d, .heddleLoad d, .heddleDisable d, .heddleEnable d,
        .picksReserve d, .picksRelease d, .mirrorSetSession d, .mirrorSetGroup d, .rationsSetEgress d, .rationsSetWeight d, .frerSetWrite d,
        .frerSetReset d, .refSetConfigure d, .refSetGlobal d, .refSetEsmc d, .refSetRequalify d, .dpllSteer d, .timeAdjustSlew d] ++
      [Instr.timeAdjustStep d, .timeAdjustSet d, .timingRole d, .kplSet d, .ptpSetPort d, .ptpSetClock d, .clkoutSetClock d, .clkoutSetPulse d,
        .clkoutSetTod d, .clkoutSetSynth d, .align d, .treadleSetProgram d, .treadleSetStop d, .gnssSetConfigure d, .gnssSetPosition d,
        .gnssSetSurveyRestart d, .gnssSetColdStart d, .ringSetConfigure d, .ringSetDisable d, .attnAck d, .cancel d, .nop d],
      exec c s = .next s

/-- 01 R20; 04 R140, R143, R155, R158, R159, R164, R165: acceptance, and the commands about rings and attention: a ring without commands,
buffers or frames that RING_SET disables stops at once, and the command completes. -/
def Obligations.AcceptanceAndTheRingsOwnCommands : Prop :=
  ∀ (s : State) (d : Submission) (l : List Byte) (e : SqEntry) (f : Fetched) (b : Nat) (late : Bool) (x c : Cmd),
    let t := s.fetched d
    let acc := s.acceptAt false d
    (f.desc = some l → d = .ofDesc e.ring e.index l f.block f.at0 → byteAt l 0 = 0x63 → d.ring < 128 → s.cls d.ring = clsMgmt →
      s.fetches clsMgmt d = true →
      (specNop.refusal d acc t = rOk → boundaryOf ceilGrid acc d = (b, late) → exec (.submissionAccept e f) s =
        .next { t with accepted := t.accepted ++ [{ t.newCmd 0x63 d b with late := late }] }) ∧
      (specNop.refusal d acc t ≠ rOk → exec (.submissionAccept e f) s =
        .next ((t.newCmd 0x63 d acc).ended (specNop.refusal d acc t) 0 0 (t.refusalErr (specNop.reservedSet d) (specNop.refusal d acc t) d)))) ∧
    (f.desc = none → s.fetches (s.cls e.ring) { ring := e.ring, index := e.index } = true →
      exec (.submissionAccept e f) s = .next (s.hifErr 2 e.ring (s.sqAddr e.ring e.index))) ∧
    (s.groomUp = true → s.dueCmd = some c → c.op = 0x63 → exec .effectiveAtBoundary s =
      .next (c.ended rOk 0 0 { s with accepted := s.accepted.erase c })) ∧
    (s.groomUp = false ∨ s.dueCmd = none → exec .effectiveAtBoundary s = .next s) ∧
    (Ready specNop d s → exec (.nop d) s = .next ((cmdOf 0x63 d s).ended rOk 0 0 t)) ∧
    (Ready specAttnAck d s → s.attnNow = 0 → ∃ u, exec (.attnAck d) s = .next ((cmdOf 0x61 d s).ended rOk 0 0 u) ∧ SameBut [R.HIF_STATUS] t u ∧
      ∀ k < 32, (u.rd R.HIF_STATUS).getLsbD k = ((s.rd R.HIF_STATUS).getLsbD k && !(decide (16 ≤ k ∧ k < 30) && (d.P0 0 14).testBit (k - 16)))) ∧
    (Ready specCancel d s → s.accepted.find? (fun y => y.sub.ring == d.ring && y.sub.index == d.P0 0 16 && y.era == s.era) = none →
      exec (.cancel d) s = .next ((cmdNow 0x62 d s).ended rBadParam 0 0 t)) ∧
    (Ready specCancel d s → s.accepted.find? (fun y => y.sub.ring == d.ring && y.sub.index == d.P0 0 16 && y.era == s.era) = some x →
      x.begun = true ∨ x.boundary ≤ s.nt → exec (.cancel d) s = .next ((cmdNow 0x62 d s).ended rState 0 0 t)) ∧
    (Ready specCancel d s → s.accepted = [x] → x.sub.ring = d.ring → x.sub.index = d.P0 0 16 → x.era = s.era → x.begun = false →
      s.nt < x.boundary → x.op ≠ 0x11 → x.op ≠ 0x4A → exec (.cancel d) s =
      .next ((cmdNow 0x62 d s).ended rOk 0 0 ({ t with accepted := [] }.completeCmd x rCancelled acc 0 0))) ∧
    (Ready specRingConfigure d s → (blockCfg d).invalid ((s.enabledRings.filter (fun q => q != d.P0 0 7)).map s.ringCfg) = false →
      (s.cls (d.P0 0 7) = 0 → exec (.ringSetConfigure d) s =
        .next ((cmdOf 0x60 d s).ended rOk 0 0 ((t.putRegs d 8 (ringRegs (d.P0 0 7))).ringStart (d.P0 0 7)))) ∧
      (s.cls (d.P0 0 7) ≠ 0 → exec (.ringSetConfigure d) s = .next ((cmdOf 0x60 d s).ended rState 0 0 t))) ∧
    (Ready specRingDisable d s → (∀ y ∈ s.rings, y.2.stopping = false) →
      (s.cls (d.P0 0 7) = 0 → exec (.ringSetDisable d) s = .next ((cmdOf 0x60 d s).ended rOk 0 0 t)) ∧
      (s.lastOf (d.P0 0 7) = true → exec (.ringSetDisable d) s = .next ((cmdOf 0x60 d s).ended rState 0 0 t)) ∧
      (d.ring < 128 → ∀ r, d.P0 0 7 = r → s.cls r ≠ 0 → s.lastOf r = false → (∀ y ∈ s.accepted, y.sub.ring ≠ r ∧ isDisable r y = false) →
        (s.ring r).posted = [] → (s.ring r).rxQueue = [] →
        ∃ (u : State) (z : Completion), exec (.ringSetDisable d) s = .next u ∧ u.cls r = 0 ∧
          u.ring r = { ended := (s.ring r).ended, notRx := (s.ring r).notRx } ∧ (∀ q, q ≠ r → u.cls q = s.cls q) ∧
          u.accepted = s.accepted ∧ u.frames = s.frames ∧ u.cq = Tbl.ins (s.cqAddr d.ring (s.ring d.ring).cqTail) z.bytes s.cq ∧
          z.result = rOk ∧ z.sqIndex = d.index ∧ z.tag = d.tag ∧ z.time = BitVec.ofNat 64 s.nt))

/-- 04 R130, R138, R149, R158, R166; 17 R610: completions and events. -/
def Obligations.CompletionsAreWrittenHeldOrLost : Prop :=
  ∀ (s : State) (r era code src detail : Nat) (c : Completion), r < 128 →
    (s.relink = true → s.complete r c = s.count 5 (16 + r) 0 1) ∧
    (s.relink = false → s.groomUp = false → s.complete r c = { s with cqHeld := s.cqHeld ++ [(r, c)] }) ∧
    (s.relink = false → s.groomUp = true → ∃ c' : Completion, (s.complete r c).cq = Tbl.ins (s.cqAddr r (s.ring r).cqTail) c'.bytes s.cq ∧
      c'.tag = c.tag ∧ c'.result = c.result ∧ c'.sqIndex = c.sqIndex ∧ c'.time = c.time ∧ c'.q1 = c.q1 ∧ c'.q2 = c.q2 ∧
      c'.status = BitVec.ofNat 16 s.statusWord ∧ c'.cflags = c.cflags ||| BitVec.ofNat 8 (b2n (s.ring r).phase) ∧
      ((s.complete r c).ring r).cqTail = ((s.ring r).cqTail + 1) % s.ringSize r ∧
      ((s.complete r c).ring r).phase = ((s.ring r).phase != decide (((s.ring r).cqTail + 1) % s.ringSize r = 0)) ∧
      ((s.ring r).armed = some (s.ring r).cqTail → (s.rd (R.MSIX_TABLE (s.get (F.HIF_RING_CFG_MSIX_VEC r)) 3)).getLsbD 0 = false →
        (s.complete r c).msixSent = s.msixSent ++ [s.get (F.HIF_RING_CFG_MSIX_VEC r)]) ∧
      (s.complete r c).frames = s.frames ∧ (s.complete r c).accepted = s.accepted ∧ (s.complete r c).rxData = s.rxData) ∧
    (era ≠ s.era → s.completeEra era r c = s.count 5 (16 + r) 0 1) ∧
    (s.run = false → s.event code src detail = (s.attn (attnOf code)).wakeTasks code) ∧
    (s.run = true → s.eventRings = [r] → s.relink = false → s.cqRoom r ≠ 0 → (s.ring r).pending = [] → attnOf code = 0 →
      s.event code src detail = ((s.wakeTasks code).attn 1).complete r ((s.wakeTasks code).eventCompletion
        { code := code, src := src, detail := detail, time := s.nt, count := 1 }))

/-- 04 R145 to R150, R161 to R163: what the host's rings carry. -/
def Obligations.HostRingsCarryFramesAndRecords : Prop :=
  ∀ (s : State) (d : Submission) (r p id k : Nat) (bad : Bool) (f : Frame) (bs : List (RxBuf × List Byte)) (e : BobbinEntry) (q : List BobbinEntry)
    (b : RxBuf) (tl : List RxBuf),
    (s.fetches clsFrameTx d = true → s.innerHold.contains 272 = false →
      ((s.fetched d).txRefusal d (s.acceptAt false d) = rOk → exec (.txFrame d) s = .next ((s.fetched d).acceptTx d (s.acceptAt false d)).updHeld) ∧
      (∀ code, (s.fetched d).txRefusal d (s.acceptAt false d) = code → code ≠ rOk → exec (.txFrame d) s =
        .next ((cmdNow 1 d s).ended code 0 0 ((s.fetched d).refusalErr (specTxFrame.reservedSet d) code d)))) ∧
    (s.fetches clsFrameRx d = true → d.fence = false → d.badFlags clsFrameRx = false → d.at? = false → d.p2 = 0 →
      d.p0.toNat = d.P0 0 16 → 256 ≤ d.P0 0 16 → d.P0 0 16 ≤ 16384 → d.P0 0 16 % 64 = 0 → d.p1.toNat % 64 = 0 → (s.ring d.ring).draining = false →
      exec (.rxBuffer d) s = .next ((s.fetched d).modRing d.ring (fun x => { x with posted := x.posted ++
        [{ index := d.index, tag := d.tag, len := d.P0 0 16, addr := d.p1.toNat }] }))) ∧
    (s.fetches clsLog d = true → d.fence = false → d.badFlags clsFrameRx = false → d.at? = false → d.p2 = 0 →
      d.p0.toNat = d.P0 0 16 → 4096 ≤ d.P0 0 16 → d.P0 0 16 ≤ 65024 → d.P0 0 16 % 32 = 0 →
      exec (.logBuffer d) s = .next (((s.fetched d).modRing d.ring (fun x => { x with posted := x.posted ++
        [{ index := d.index, tag := d.tag, len := d.P0 0 16, addr := d.p1.toNat }] })).logTick (s.get (F.HIF_RING_PARAM_CORE d.ring)))) ∧
    (s.rxRoom r = some (id, f, bs) → (s.ring r).draining = false →
      exec (.frameRxDelivery ⟨r, bad⟩) s = .next (s.rxDeliver r bad id f bs).updHeld) ∧
    (s.rxRoom r = none ∨ (s.ring r).draining = true → exec (.frameRxDelivery ⟨r, bad⟩) s = .next s) ∧
    ((s.ring r).rxQueue.head? = some id →
      (s.ring r).draining = true ∨ (s.rxRoom r = none ∧ s.ran (.rxWait r) (s.get (F.HIF_RING_CFG_RX_WAIT_US r) * us) = true) →
      exec (.rxWaitExpiry r) s =
        .next ((((s.modRing r (fun x => { x with draining := true })).ringFull r).endFrame id 0x50).updHeld)) ∧
    (s.bobbins.getD p [] = e :: q → s.cls r = clsTs → s.get (F.HIF_RING_PARAM_FIRST_PORT r) ≤ p → p ≤ s.get (F.HIF_RING_PARAM_LAST_PORT r) →
      s.run = true → s.relink = false → s.groomUp = true → s.cqRoom r ≠ 0 → ∃ (t : State) (c : Completion),
      t = ({ s with bobbins := Tbl.put [] p q s.bobbins }).bobbinShow p ∧ exec (.bobbinDrain r p) s = .next (t.complete r c) ∧
      c.time = BitVec.ofNat 64 e.time ∧ c.sqIndex = 0xFFFF ∧
      c.q1 = BitVec.ofNat 64 (p + e.tsId * 2 ^ 9 + b2n e.oneStep * 2 ^ 21 + b2n e.late * 2 ^ 22 + b2n e.notSent.isSome * 2 ^ 23 +
        e.notSent.getD 0 * 2 ^ 24)) ∧
    (s.bobbins.getD p [] = [] ∨ s.run = false ∨ s.relink = true ∨ s.groomUp = false → exec (.bobbinDrain r p) s = .next s) ∧
    (s.cls r = clsLog → s.get (F.HIF_RING_PARAM_CORE r) = k → k < 6 → s.run = true → s.relink = false → s.groomUp = true → s.cqRoom r ≠ 0 →
      (s.ring r).posted = b :: tl → 0 < b.len / 32 → b.len / 32 ≤ (s.log k).held.length → ∃ (t : State) (c : Completion),
      exec (.logCompletion ⟨r, bad⟩) s = .next (t.complete r c) ∧ c.sqIndex = b.index ∧ c.tag = b.tag ∧
      c.q1 = BitVec.ofNat 64 (b.len / 32 + (s.ring r).logLost * 2 ^ 32) ∧ c.result = (if bad then rDmaError else rOk) ∧
      (bad = false → Tbl.find b.addr t.rxData = some ((s.log k).held.take (b.len / 32)).flatten) ∧ (bad = true → t.rxData = s.rxData) ∧ (t.log k).held = (s.log k).held.drop (b.len / 32)) ∧
    (s.relink = true ∨ s.groomUp = false ∨ s.cls r ≠ clsEvent → exec (.eventPendingFlush r) s = .next s) ∧
    (s.relink = false → s.groomUp = true → s.cls r = clsEvent → (∃ x y, (s.ring r).pending = x :: y ∧ s.cqRoom r = 1) →
      ∃ x y t, (s.ring r).pending = x :: y ∧ t = (s.attn 1).complete r (s.eventCompletion x) ∧
        exec (.eventPendingFlush r) s = .next (t.modRing r (fun z =>
          { z with pending := z.pending.drop 1, episode := z.episode && z.pending.drop 1 != [] })))

/-- 04 R151; 07 R291 to R297: the rule writer and swaps. -/
def Obligations.RuleWriterAndSwaps : Prop :=
  ∀ (s : State) (d : Submission) (j : RuleJob) (g : Nat) (c : Cmd) (rest : List Cmd) (e : Nat × List Byte),
    let t := s.fetched d
    let job : RuleJob :=
      { cmd := cmdOf 0x10 d s, gen := d.P0 0 1, mem := d.P0 1 3, entries := (ruleWriteEntries d).getD [] }
    let clear : RuleJob := { cmd := cmdOf 0x12 d s, gen := d.P0 0 1, mem := 0, entries := [], clear := true }
    (Ready specRuleWrite d s →
      (s.writer = none → s.genHeld (d.P0 0 1) = false → 1 < job.entries.length → exec (.ruleWrite d) s =
        .next ((cmdOf 0x10 d s).goesOn (t.writeNext 1 s.cycles job))) ∧
      (s.writer = none → s.genHeld (d.P0 0 1) = false → job.entries.length = 1 → exec (.ruleWrite d) s =
        .next ((cmdOf 0x10 d s).goesOn { t with writer := some job })) ∧
      (s.writer = none → s.genHeld (d.P0 0 1) = true → exec (.ruleWrite d) s = .next ((cmdOf 0x10 d s).ended rBusy 0 0 t)) ∧
      (s.writer ≠ none → exec (.ruleWrite d) s =
        .next ((cmdOf 0x10 d s).goesOn { t with writeQ := t.writeQ ++ [job] }))) ∧
    (Ready specRuleClear d s →
      (d.P0 0 1 = s.get F.HED_GEN_STATUS_IN_FORCE → exec (.ruleClear d) s = .next ((cmdOf 0x12 d s).ended rState 0 0 t)) ∧
      (d.P0 0 1 ≠ s.get F.HED_GEN_STATUS_IN_FORCE → s.writer ≠ none → exec (.ruleClear d) s =
        .next ((cmdOf 0x12 d s).goesOn { t with writeQ := t.writeQ ++ [clear] })) ∧
      (d.P0 0 1 ≠ s.get F.HED_GEN_STATUS_IN_FORCE → s.writer = none → s.genHeld (d.P0 0 1) = false → exec (.ruleClear d) s =
        .next ((cmdOf 0x12 d s).goesOn (t.writeNext 1 s.cycles clear)))) ∧
    (Ready specRuleSwap d s → d.P0 0 1 = g → t.swapBlocked (cmdOf 0x11 d s) g = false → ∃ u : State,
      exec (.ruleSwap d) s = .next u ∧
      (headerValid s.rules g = true → g ≠ s.get F.HED_GEN_STATUS_IN_FORCE →
        u.swaps = ((cmdOf 0x11 d s).boundary, g) :: s.swaps ∧ u.swapSeq = (s.swapSeq + 1) % 2 ^ 32 ∧
        u.get F.HED_GEN_STATUS_IN_FORCE = g ∧ u.rules = s.rules) ∧
      (headerValid s.rules g = false → u.swaps = s.swaps ∧ u.swapSeq = s.swapSeq ∧
        u.get F.HED_GEN_STATUS_IN_FORCE = s.get F.HED_GEN_STATUS_IN_FORCE ∧ u.rules = s.rules)) ∧
    (Ready specRuleSwap d s → t.swapBlocked (cmdOf 0x11 d s) (d.P0 0 1) = true → exec (.ruleSwap d) s =
      .next (((cmdOf 0x11 d s).goesOn { t with swapWait := t.swapWait ++ [cmdOf 0x11 d s] }).updPending (cmdOf 0x11 d s))) ∧
    (s.writer = none → exec .ruleWriteDone s = .next s) ∧
    (s.writer = some j → j.left ≠ 1 ∨ j.wrote = some s.cycles → exec .ruleWriteDone s = .next s) ∧
    (s.writer = some j → j.clear = false → j.entries = [e] → j.wrote ≠ some s.cycles → exec .ruleWriteDone s =
      .next (State.finish (fun x => x == { j.cmd with begun := true }) rOk s.nt 0 0
        { s.writeEntry j.gen j.mem e with writer := some { j with entries := [], wrote := some s.cycles } })) ∧
    (s.swapWait = [] → exec .ruleSwapDeferred s = .next s) ∧
    (s.swapWait = c :: rest → s.swapBlocked c (c.sub.P0 0 1) = true → exec .ruleSwapDeferred s = .next s) ∧
    (s.swapWait = c :: rest → s.swapBlocked c (c.sub.P0 0 1) = false → c.sub.P0 0 1 = g → headerValid s.rules g = true →
      g ≠ s.get F.HED_GEN_STATUS_IN_FORCE → ∃ u, exec .ruleSwapDeferred s = .next u ∧ u.swapWait = rest ∧
      u.swaps = (s.nt, g) :: s.swaps ∧ u.get F.HED_GEN_STATUS_IN_FORCE = g)

/-- 04 R152; 07 R276 to R280: the forwarding database. -/
def Obligations.ForwardingDatabaseCommands : Prop :=
  ∀ (s : State) (d : Submission) (vid mac : Nat), fdbSound s.fdb →
    let v := d.P0 9 12
    let m := d.P1 0 48
    let e : FdbEntry := { vid := v, mac := m, port := d.P0 0 9, static := d.P0 21 1 == 1 }
    let entry : State → Nat → Nat → Option FdbEntry := fun s v m => (fdbFind s.fdb v m).map (·.2)
    (Ready specFdbAdd d s →
      (fdbFind s.fdb v m ≠ none ∨ fdbFree s.fdb v m (fun _ => false) ≠ none → ∃ (u : State) (i : Nat),
        exec (.fdbAdd d) s = .next ((cmdOf 0x20 d s).ended rOk i 0 u) ∧ Tbl.find i u.fdb = some e ∧ entry u v m = some e ∧
        ((vid, mac) ≠ (v, m) → entry u vid mac = entry s vid mac)) ∧
      (fdbFind s.fdb v m = none → fdbFree s.fdb v m (fun _ => false) = none →
        exec (.fdbAdd d) s = .next ((cmdOf 0x20 d s).ended rTableFull 0 0 (s.fetched d)))) ∧
    (Ready specFdbDel d s →
      (∀ i x, fdbFind s.fdb v m = some (i, x) → ∃ u, exec (.fdbDel d) s = .next ((cmdOf 0x21 d s).ended rOk i 0 u) ∧
        entry u v m = none ∧ ((vid, mac) ≠ (v, m) → entry u vid mac = entry s vid mac)) ∧
      (fdbFind s.fdb v m = none → exec (.fdbDel d) s = .next ((cmdOf 0x21 d s).ended rBadParam 0 0 ((s.fetched d).touch v m)))) ∧
    (Ready specFdbFlush d s → ∃ u, exec (.fdbFlush d) s =
        .next ((cmdOf 0x22 d s).ended rOk (s.fdb.filter (fun x => flushes d x.2)).length 0 u) ∧
      u.fdb = s.fdb.filter (fun x => !flushes d x.2)) ∧
    (s.evalDue evFdb sec = false → exec .fdbAgeing s = .next s) ∧
    (s.evalDue evFdb sec = true → s.get F.HED_FDB_CFG_AGE_S = 0 → exec .fdbAgeing s = .next (s.evalMade evFdb)) ∧
    (s.evalDue evFdb sec = true → s.get F.HED_FDB_CFG_AGE_S ≠ 0 → ∃ u, exec .fdbAgeing s = .next u ∧
      u.fdb = (s.fdb.map (fun (x : Nat × FdbEntry) => (x.1, { x.2 with idle := x.2.idle + 1 }))).filter
        (fun x => x.2.static || decide (x.2.idle ≤ max 10 (min (s.get F.HED_FDB_CFG_AGE_S) 1000000))) ∧
      ∀ a, a ≠ R.HED_FDB_STATUS → u.rd a = s.rd a)

/-- 07 R298 to R304: heddles in and out of service. -/
def Obligations.HeddleGraphsInService : Prop :=
  ∀ (s : State) (d : Submission) (h : Nat) (j : HedJob),
    let t := s.fetched d
    let c := cmdOf 0x4C d s
    let job : Nat → HedJob := fun k => { kind := k, image := d.bytes.drop 8, cmd := c }
    let put : Nat → State := fun k => { t with hedJobs := Tbl.ins h (job k) t.hedJobs }
    (d.P0 0 5 = h → s.hedJobs.has h = false →
      (Ready (specHeddle 0) d s → s.bankBusy h = false → s.hed h = hdIn →
        exec (.heddleLoad d) s = .next (c.goesOn ((put 0).setHed h hdDraining))) ∧
      (Ready (specHeddle 0) d s → s.bankBusy h = false → s.hed h = hdOut ∨ s.hed h = hdFault →
        exec (.heddleLoad d) s = .next (c.goesOn (((put 0).writeGraph h (d.bytes.drop 8)).setHed h hdLoading))) ∧
      (Ready (specHeddle 1) d s → s.bankBusy h = false → s.hed h = hdIn →
        exec (.heddleDisable d) s = .next (c.goesOn ((put 1).setHed h hdDraining))) ∧
      (Ready (specHeddle 2) d s → s.hed h = hdOut ∨ s.hed h = hdFault → exec (.heddleEnable d) s = .next (c.goesOn (put 2))) ∧
      (Ready (specHeddle 2) d s → s.hed h = hdIn → exec (.heddleEnable d) s = .next (c.ended rState (s.hedQ1 h) 0 t)) ∧
      (Ready (specHeddle 0) d s → s.bankBusy h = true → exec (.heddleLoad d) s = .next (c.ended rBusy (s.hedQ1 h) 0 t)) ∧
      (Ready (specHeddle 1) d s → s.bankBusy h = true → exec (.heddleDisable d) s = .next (c.ended rBusy (s.hedQ1 h) 0 t))) ∧
    (s.hed h = hdDraining → (∀ x ∈ s.frames, x.2.stage ≠ .heddle h) → Tbl.find h s.hedJobs = some j →
      (j.kind = 0 → exec (.heddleDrained h) s = .next ((s.writeGraph h j.image).setHed h hdLoading)) ∧
      (j.kind = 1 → exec (.heddleDrained h) s = .next ((s.hedService h false).endHedJob h rOk))) ∧
    ((∃ x ∈ s.frames, x.2.stage = .heddle h) ∨ s.hed h ≠ hdDraining → exec (.heddleDrained h) s = .next s) ∧
    (Tbl.find h s.hedJobs = some j → j.kind = 0 → s.hed h = hdLoading →
      exec (.heddleReadbackDone h true) s = .next ((s.hedService h true).endHedJob h rOk) ∧
      exec (.heddleReadbackDone h false) s = .next ((s.hedFault h).endHedJob h rState)) ∧
    (Tbl.find h s.hedJobs = some j → j.kind = 2 →
      exec (.heddleReadbackDone h true) s = .next ((s.hedService h true).endHedJob h rOk) ∧
      exec (.heddleReadbackDone h false) s = .next ((s.setHed h hdFault).endHedJob h rState)) ∧
    (Tbl.find h s.hedJobs = none → exec (.heddleReadbackDone h true) s = .next s ∧ exec (.heddleGraphError h) s =
      .next (((((s.set F.HED_ECC_ADDR_MEMORY 4).set F.HED_ECC_ADDR_GEN 0).set F.HED_ECC_ADDR_UNIT h).hedEvent 2 h).hedFault h))

/-- 06 R221; 07 R261, R268 to R289, R304: heads at the heddles. -/
def Obligations.HeadsAreDispatchedAndDecided : Prop :=
  ∀ (s : State) (n id noRoom h mem gen unit src : Nat) (l : List Byte) (f : Frame),
    (s.frame id = some f → f.inNode = n → f.stage = .head → s.headBefore f = false → s.pickHeddle n noRoom = some h →
      (f.hseq = none → ∃ u, exec (.headDispatch n id l noRoom) s = .next u ∧
        s.on ⟨R.HED_STATUS, h, 1⟩ = true ∧ bit noRoom h = false ∧ h / 8 = bankOf n ∧ u.hedPtr = Tbl.ins n ((h + 1) % 8) s.hedPtr ∧
        u.headSeq = Tbl.ins f.qport ((s.headSeq.getD f.qport 0 + 1) % 65536) s.headSeq ∧
        u.frame id = some { f with stage := .heddle h, hseq := some (s.headSeq.getD f.qport 0) } ∧
        { u with frames := s.frames, hedPtr := s.hedPtr, headSeq := s.headSeq } = s)) ∧
    (s.pickHeddle n noRoom = none ∨ (s.frame id = some f ∧ (s.headBefore f = true ∨ f.inNode ≠ n)) ∨ s.frame id = none →
      exec (.headDispatch n id l noRoom) s = .next s) ∧
    (s.frame id = some f → f.stage = .heddle h → s.beamFull f = true → exec (.headDecision id) s = .next s) ∧
    (s.frame id = some f → f.stage = .heddle h → s.beamFull f = false →
      (f.direct = false → exec (.headDecision id) s = .next (((s.decideHead id h f).afterDecision id).updHeld)) ∧
      (f.direct = true → f.whole = false → exec (.headDecision id) s = .next ((s.modFrame id (fun f => { f with stage := .beam })).updHeld))) ∧
    (s.frame id = some f → (∀ k, f.stage ≠ .heddle k) → exec (.headDecision id) s = .next s) ∧
    exec (.hedEccRepair true mem gen unit src id) s = .next (s.raise .hed 1 src) ∧
    (∃ t : State, t = (((s.set F.HED_ECC_ADDR_MEMORY mem).set F.HED_ECC_ADDR_GEN (if mem ≤ 2 then gen else 0)).set F.HED_ECC_ADDR_UNIT unit).raise .hed 2 src ∧
      (t.frame id = none → exec (.hedEccRepair false mem gen unit src id) s = .next t) ∧
      (t.frame id = some f → f.stage = .heddle src → f.whole = true →
        exec (.hedEccRepair false mem gen unit src id) s = .next (t.endFrame id 0x60)))

/-- 07 R289, R290: an action's outcome on the frame. -/
def Obligations.ActionsMarkTheFrameTheyDecide : Prop :=
  ∀ (s : State) (id h : Nat) (f : Frame) (a : Action), s.frame id = some f →
    ∃ g, (s.applyAction id h f a).frame id = some g ∧
      (a.valid = false → g.after.fate = some 0x21) ∧
      (a.valid = true →
        g.tc = a.tc.getD (f.prio % 8) ∧
        (a.drop = true → g.after.fate = some 0x21 ∧ g.dest = .none) ∧
        (a.drop = false → a.recirc = true → 4 ≤ f.pass → g.after.fate = some 0x21 ∧ g.dest = .none) ∧
        (a.drop = false → a.recirc = true → f.pass < 4 → g.after.fate = none ∧ g.dest = .recirc ∧ g.meta4 = a.meta4) ∧
        (a.drop = false → a.recirc = false → a.dest = 1 → g.after.fate = none ∧ g.dest = .port a.destId) ∧
        (a.drop = false → a.recirc = false → a.dest = 2 → g.after.fate = none ∧ g.dest = .group a.destId) ∧
        (a.drop = false → a.recirc = false → a.dest = 3 → g.after.fate = none ∧ g.dest = .ring a.destId) ∧
        (a.drop = false → a.recirc = false → a.dest = 0 → fdbFind s.fdb f.vid (beAt f.data 0 6) = none → headerValid s.rules f.gen = false →
          g.after.fate = some 0x21)) ∧
      (s.applyAction id h f a).fateQ = s.fateQ

/-- 06 R215 to R235, R251: reception and flow control. -/
def Obligations.FramesAreReceivedAndJudged : Prop :=
  ∀ (s : State) (p tm n id c q t e : Nat) (ctl pcs : Bool) (l : List Byte) (f : Frame) (key : Nat × Nat × Nat) (x : Cmd) (w : MacWas),
    let passed := (s.traffic p 0 1).traffic p 1 l.length
    let first : List (Nat × Nat × Nat) → Nat → State := fun fs m => (s.when (!ctl) (State.enter p)).addFrame
      { port := p, tin := s.rxTime p tm n, tinDeg := s.degraded, stage := .receiving, inLedger := !ctl, stored := s.admits p, flushed := false,
        reserve := s.held p && s.fcMode p != 0, filters := fs, maxFrame := m, gen := s.genAt (s.rxTime p tm n), root := s.nextId }
    (p < 272 → s.portUp p = true → s.heldDomain 8 = false → nodeOf p ∉ s.nodeRst → p ∉ s.portRst → (∀ y ∈ s.frames, y.2.underway p = false) →
      (Tbl.find p s.macWas = none → exec (.frameFirstByte p tm n ctl) s = .next (first (s.filtersOf p) (s.maxFrame p))) ∧
      (Tbl.find p s.macWas = some w → exec (.frameFirstByte p tm n ctl) s =
        .next (if s.rxTime p tm n < w.till then first w.filters w.maxFrame else first (s.filtersOf p) (s.maxFrame p)))) ∧
    (272 ≤ p ∨ s.portUp p = false ∨ (∃ y ∈ s.frames, y.2.underway p = true) → exec (.frameFirstByte p tm n ctl) s = .next s) ∧
    (s.get (F.LANE_CFG_LOOPBACK p) = 1 → exec (.frameLastByte p l pcs) s = exec (.frameLastByte p (s.sent.getD p l) pcs) s) ∧
    (s.firstBy (fun f => f.underway p) = none → s.get (F.LANE_CFG_LOOPBACK p) ≠ 2 → exec (.frameLastByte p l pcs) s = .next s.updHeld ∧
      exec (.controlFrameReceive p l) s = .next s.updHeld) ∧
    (s.firstBy (fun f => f.underway p) = none → s.get (F.LANE_CFG_LOOPBACK p) = 2 → exec (.frameLastByte p l pcs) s =
      .next { s with sent := Tbl.ins p l s.sent }.updHeld) ∧
    (s.firstBy (fun f => f.underway p) = some (id, f) → s.get (F.LANE_CFG_LOOPBACK p) = 0 → f.flushed = false → f.stage = .receiving → f.cut = false → f.inLedger = true →
      (exec (.frameLastByte p l true) s = .next (s.endFrame id 0x13).updHeld) ∧
      (l.length < 64 → exec (.frameLastByte p l false) s = .next (s.endFrame id 0x11).updHeld) ∧
      (64 ≤ l.length → f.maxFrame < l.length → exec (.frameLastByte p l false) s = .next (s.endFrame id 0x12).updHeld) ∧
      (64 ≤ l.length → l.length ≤ f.maxFrame → leAt l (l.length - 4) 4 ≠ crc32 (l.take (l.length - 4)) → stomped l = false →
        exec (.frameLastByte p l false) s = .next (s.endFrame id 0x10).updHeld) ∧
      (64 ≤ l.length → l.length ≤ f.maxFrame → leAt l (l.length - 4) 4 = crc32 (l.take (l.length - 4)) →
        (s.consumed p l = 0 →
          (∀ code, (s.verdict p f.filters l).fate = some code → exec (.frameLastByte p l false) s = .next (passed.endFrame id code).updHeld) ∧
          ((s.verdict p f.filters l).fate = none →
            (f.stored = false → exec (.frameLastByte p l false) s = .next (passed.endFrame id 0x30).updHeld) ∧
            (f.stored = true → exec (.frameLastByte p l false) s = .next (passed.rxGood id f l (s.verdict p f.filters l)).updHeld))) ∧
        (s.consumed p l = 1 → exec (.controlFrameReceive p l) s = .next ((s.control p (etherAt (s.sTpid p) l) l).dropFrame id).updHeld))) ∧
    (s.on (F.MAC_CFG_INGRESS_FILTER p) = true → s.member p (s.vidPrio p l).1 = false → (s.verdict p f.filters l).fate = some 0x23) ∧
    (s.fcMode p = 1 → beAt l (e + 2) 2 = 1 → s.control p e l = ((s.traffic p 4 1).holdClass p 8 (beAt l (e + 4) 2)).raise .mac 4 p) ∧
    (s.fcMode p = 0 ∨ (s.fcMode p = 1 ∧ beAt l (e + 2) 2 ≠ 1) ∨ (s.fcMode p = 2 ∧ beAt l (e + 2) 2 ≠ 0x0101) →
      s.control p e l = s.traffic p 8 1) ∧
    (q ≠ 0 → (s.holdClass p 8 q).get (F.MAC_STATUS_RX_PAUSED p) = 1 ∧ (s.holdClass p 8 q).timer (.pauseHold p 8) = some 0) ∧
    (s.ran (.pauseHold p c) (s.quantaTime p (s.pauseFor.getD (p * 16 + c) 0)) = true → exec (.pauseHoldExpiry p c) s = .next (s.holdClass p c 0) ∧
      (s.holdClass p 8 0).get (F.MAC_STATUS_RX_PAUSED p) = 0 ∧ (s.holdClass p c 0).timer (.pauseHold p c) = none) ∧
    (s.ran (.pauseHold p c) (s.quantaTime p (s.pauseFor.getD (p * 16 + c) 0)) = false → exec (.pauseHoldExpiry p c) s = .next s) ∧
    (s.get (F.MAC_STATUS_XOFF_SENT p) ≠ 0 → s.ran (.pauseRepeat p) (s.quantaTime p (s.quanta p) / 2) = true → s.fcMode p = 2 → p ∉ s.portRst →
      ∃ u, exec (.pauseRepeat p) s = .next u ∧ u.ctlQ = s.ctlQ ++ [{ port := p, opcode := 0x0101, vec := 0xFF, time := s.quanta p }] ∧
      u.get (F.MAC_STATUS_XOFF_SENT p) = 0xFF ∧ u.timer (.pauseRepeat p) = some 0 ∧ u.frames = s.frames) ∧
    (s.get (F.MAC_STATUS_XOFF_SENT p) = 0 → exec (.pauseRepeat p) s = .next s) ∧
    (s.frame id = some f → f.stage = .unread → f.launch = some t → f.cmd = some key → f.dest = .port p →
      s.accepted.find? (fun c => c.begun && c.key == key) = some x →
      (t ≤ s.nt + s.fetchUs p * us → x.sub.block ≠ none → exec (.launchFetch id) s = .next (s.hostRead id x.sub)) ∧
      (t ≤ s.nt + s.fetchUs p * us → x.sub.block = none → exec (.launchFetch id) s = .next (s.launchUnread id x)) ∧
      (s.nt + s.fetchUs p * us < t → exec (.launchFetch id) s = .next s)) ∧
    (s.frame id = none → exec (.launchFetch id) s = .next s)

/-- 06 R237 to R242, R255 to R257: a port's settings and its shed. -/
def Obligations.PortSettingsAndSheds : Prop :=
  ∀ (s : State) (d : Submission) (p : Nat) (sh : Shed),
    let t := s.fetched d
    let b := (cmdOf 0x40 d s).boundary
    let c : Cmd := t.newCmd 0x4A d (t.shedStart (d.P0 0 9) (s.acceptAt true d + 1))
    let new : Shed := { base := d.le 0 8, cycleNs := d.le 8 4, entries := (List.range (d.le 12 2)).map (fun e => (d.b (16 + 8 * e), d.le (20 + 8 * e) 4)) }
    (Ready specPortConfigure d s → d.P0 0 9 = p →
      (272 ≤ p ∨ bits (d.le 8 4) 1 2 = s.get (F.MAC_CFG_FC_MODE p) → exec (.portSetConfigure d) s =
        .next ((cmdOf 0x40 d s).ended rOk 0 0 ((t.macKeep p b).putRegs d 8 (portRegs p)))) ∧
      (p < 272 → bits (d.le 8 4) 1 2 ≠ s.get (F.MAC_CFG_FC_MODE p) → ∃ u : State,
        u = (((t.clearHolds p).sendRelease p).macKeep p b).putRegs d 8 (portRegs p) ∧ exec (.portSetConfigure d) s =
          .next ((cmdOf 0x40 d s).ended rOk 0 0 (if s.held p then u.sendHold p else u)))) ∧
    (Ready specPortVlan d s → d.P0 0 9 = p → ∃ u, exec (.portSetVlanMember d) s = .next ((cmdOf 0x40 d s).ended rOk 0 0 u) ∧
      SameBut ((List.range 128).map (R.MAC_VLAN_MEMBER p)) t u ∧
      ∀ w < 128, u.rd (R.MAC_VLAN_MEMBER p w) = BitVec.ofNat 32 (if w = 127 then d.le (8 + 4 * w) 4 % 2 ^ 31 else d.le (8 + 4 * w) 4)) ∧
    (Ready specFilterSet d s → d.P0 0 9 = p → ∃ u, exec (.filterSet d) s = .next ((cmdOf 0x4B d s).ended rOk 0 0 u) ∧
      SameBut ((List.range (d.b 1)).flatMap (fun i => (List.range 3).map (fun w => R.MAC_FILTER p (d.b 0 + i) + 4 * w))) (t.macKeep p b) u ∧
      ∀ i < d.b 1, ∀ w < 3, u.rd (R.MAC_FILTER p (d.b 0 + i) + 4 * w) = BitVec.ofNat 32 (d.le (8 + 16 * i + 4 * w) 4)) ∧
    (Ready specShedSet d s → d.P0 0 9 = p →
      (d.b 14 = 1 → exec (.shedSetEnable d) s = .next ((c.ended rOk 0 0 ((({ t with sheds := Tbl.ins p new s.sheds } : State).updShed p).pruneShed p)).updPending c)) ∧
      (d.b 14 ≠ 1 → exec (.shedSetDisable d) s =
        .next ((c.ended rOk 0 0 ((({ t with sheds := Tbl.del p s.sheds } : State).updShed p).pruneShed p)).updPending c))) ∧
    (s.shed p = none → t.shedStart p (s.nt + 1) = ceilGrid (s.nt + 1) ∧ (∃ u, exec (.shedEntryChange p) s = .next u ∧
      SameBut [R.MAC_SHED_STATUS p, R.MAC_STATUS p] s u ∧ u.get (F.MAC_SHED_STATUS_ENTRY p) = 0 ∧ u.get (F.MAC_STATUS_SHED_ON p) = 0)) ∧
    (s.shed p = some sh → ∃ u, exec (.shedEntryChange p) s = .next u ∧ SameBut [R.MAC_SHED_STATUS p, R.MAC_STATUS p] s u ∧
      u.get (F.MAC_SHED_STATUS_ENTRY p) = (sh.entry s.nt).1 % 2 ^ (F.MAC_SHED_STATUS_ENTRY p).w ∧ u.get (F.MAC_STATUS_SHED_ON p) = 1)

/-- 07 R264; 08 R309 to R319: shuttles. -/
def Obligations.ShuttlesCrossTheLoom : Prop :=
  ∀ (s : State) (q n p j d choice arrived seq id b w root : Nat) (f : Frame) (x : Shuttle),
    let t := (s.expandGroups n).usePick true n p
    let pr := s.pair n d
    (s.firstBy (s.beamReady q) = none → exec (.beamRelease q) s = .next s) ∧
    (s.firstBy (s.beamReady q) = some (id, f) → f.stream = none → f.wovenTo = none → s.frame id = some f →
      exec (.beamRelease q) s = .next (s.enqueue id) ∧ (s.queueSpilled f.qport f.dest.node f.tc = false →
        (s.enqueue id).frame id = some { f with stage := .ingress, order := s.nextId, spilled := false })) ∧
    (s.firstBy (s.beamReady q) = some (id, f) → f.stream = none → f.wovenTo = some w →
      s.get (F.LOOM_WOVEN_STATE w) = 0 ∨ s.on F.LOOM_STATUS_SAFE_CLOCK = true → exec (.beamRelease q) s = .next (s.enqueue id)) ∧
    (36 ≤ n ∨ 36 ≤ p ∨ n ∈ s.nodeRst ∨ (n + p) % 36 ∈ s.nodeRst ∨ s.pickOpen true n p = false →
      exec (.warpSend n p choice arrived) s = .next s) ∧
    (n < 36 → p < 36 → n ∉ s.nodeRst → (n + p) % 36 ∉ s.nodeRst → s.pickOpen true n p = true →
      (s.frames = [] → exec (.warpSend n p choice arrived) s = .next (s.usePick true n p)) ∧
      ((∀ y ∈ t.frames, y.2.wovenTo = none ∧ y.2.stage ≠ .loom) → t.nextStart n ((n + p) % 36) choice none = some (id, f) → f.cut = false →
        exec (.warpSend n p choice arrived) s = .next (t.sendShuttle n ((n + p) % 36) f.dest.node p choice none)) ∧
      (s.frames = [(id, f)] → f.inNode = n → f.stage = .loom → f.whole = true → f.cut = false → f.wovenTo = none → f.launch = none → f.sent < f.len →
        s.interCredit n ((n + p) % 36) f.dest.node = true → f.dest.node ∉ s.nodeRst →
        exec (.warpSend n p choice arrived) s =
          .next ((s.usePick true n p).sendShuttle n ((n + p) % 36) f.dest.node p choice (some (id, f))))) ∧
    (36 ≤ j ∨ 36 ≤ p ∨ s.pickOpen false j p = false ∨ s.egressCredit j ((j + p) % 36) = false → exec (.weftSend j p) s = .next s) ∧
    (j < 36 → p < 36 → s.pickOpen false j p = true → s.egressCredit j ((j + p) % 36) = true → s.shuttles = [x] → x.place = .inter → x.via = j → x.dst = (j + p) % 36 →
      (x.cycle < s.cycles ∨ x.pick + 2 ≤ p → exec (.weftSend j p) s =
        .next { s.usePick false j p with shuttles := [{ x with place := .weft }] }) ∧
      (s.cycles ≤ x.cycle → p < x.pick + 2 → exec (.weftSend j p) s = .next s)) ∧
    (s.shuttles = [] → exec (.reedArrival n d seq 0 0) s = .next s) ∧
    (s.shuttles = [x] → x.place = .weft → x.src = n → x.dst = d → x.seq = seq → x.segs = [(id, b)] →
      (seq = pr.next → seq < 2 ^ 24 → s.egressUsed d + b ≤ (s.stalls d).2.2 * unit64 → exec (.reedArrival n d seq 0 0) s =
        .next (State.joinSeg id b { s with shuttles := [], pairs := Tbl.ins (pairKey n d) { pr with next := (seq + 1) % 2 ^ 24 } s.pairs })) ∧
      (256 ≤ (seq + 2 ^ 24 - pr.next) % 2 ^ 24 → exec (.reedArrival n d seq 0 0) s =
        .next ((State.loomEvent 4 d 0 { s with shuttles := [] }).poisonFrame id)) ∧
      ((seq + 2 ^ 24 - pr.next) % 2 ^ 24 < 256 → seq ≠ pr.next → exec (.reedArrival n d seq 0 0) s =
        .next { s with shuttles := [{ x with place := .reed, poison := false }] })) ∧
    (s.rows = [{ node := n, root := root, wait := [d] }] → pr.next ≠ pr.told →
      ((∀ y ∈ s.frames, ¬ (y.2.root = root ∧ y.2.stage = .loom ∧ y.2.dest.node = d)) →
        ((∀ y ∈ s.frames, ¬ (y.2.root = root ∧ y.2.stage = .ingress ∧ y.2.inNode = n)) → exec (.releaseReport n d) s =
          .next { s with pairs := Tbl.ins (pairKey n d) { pr with told := pr.next } s.pairs, rows := [] }) ∧
        ((∃ y ∈ s.frames, y.2.root = root ∧ y.2.stage = .ingress ∧ y.2.inNode = n) → exec (.releaseReport n d) s =
          .next { s with pairs := Tbl.ins (pairKey n d) { pr with told := pr.next } s.pairs, rows := [{ node := n, root := root, wait := [] }] })) ∧
      ((∃ y ∈ s.frames, y.2.root = root ∧ y.2.stage = .loom ∧ y.2.dest.node = d) → exec (.releaseReport n d) s =
        .next { s with pairs := Tbl.ins (pairKey n d) { pr with told := pr.next } s.pairs }))

/-- 08 R317: the credits of intermediates and outputs are never exceeded. -/
def Obligations.NoShuttleIsSentWithoutSpace : Prop :=
  ∀ (s t : State),
    let waits := fun (s : State) n j d => (s.shuttles.filter (fun x => x.place == .inter && x.src == n && x.via == j && x.dst == d)).length
    let past := fun (s : State) j d => (s.shuttles.filter (fun x => x.place != .inter && x.via == j && x.dst == d)).length
    (∀ n p choice arrived, exec (.warpSend n p choice arrived) s = .next t →
      (t.shuttles = s.shuttles ∨ ∃ x, t.shuttles = s.shuttles ++ [x] ∧ x.place = .inter ∧ x.src = n ∧ x.via = (n + p) % 36 ∧
        s.interCredit n x.via x.dst = true ∧ x.seq = (s.pair n x.dst).seq ∧ (t.pair n x.dst).seq = (x.seq + 1) % 2 ^ 24) ∧
      ((∀ n j d, waits s n j d ≤ 2) → ∀ n j d, waits t n j d ≤ 2) ∧ ∀ j d, past t j d = past s j d) ∧
    (∀ j p, exec (.weftSend j p) s = .next t →
      t.shuttles.length = s.shuttles.length ∧ (∀ n j d, waits t n j d ≤ waits s n j d) ∧
      (s.shuttles.Nodup → (∀ j d, past s j d ≤ 2) → ∀ j d, past t j d ≤ 2))

/-- 08 R322, R325 to R329, R335; 18 R622: what the stalls hold and let go. -/
def Obligations.StallsSpillHoldAndAge : Prop :=
  ∀ (s : State) (id n k word stack : Nat) (f : Frame),
    (s.frame id = some f → f.stage = .ingress → f.whole = true → f.spilled = false →
      (s.hayloftSize < s.spilledBytes + f.len → exec (.hayloftSpill id) s = .next s)) ∧
    (s.frame id = some f → f.stage = .ingress → f.whole = true → f.spilled = false → s.spilledBytes + f.len ≤ s.hayloftSize →
      (∀ y ∈ s.ingressQ f.qport f.dest.node f.tc, f.order < y.2.order → y.2.spilled = true) →
      (s.spillPct * s.workingSize f.inNode ≤ 100 * s.workingUsed f.inNode → exec (.hayloftSpill id) s =
        .next ((s.modFrame id (fun f => { f with spilled := true, cut := false })).updHayloft f.qport)) ∧
      (100 * s.workingUsed f.inNode < s.spillPct * s.workingSize f.inNode → exec (.hayloftSpill id) s = .next s)) ∧
    (s.frame id = some f → f.stage = .ingress → f.spilled = true →
      (∀ y ∈ s.ingressQ f.qport f.dest.node f.tc, f.order ≤ y.2.order) → 100 * s.workingUsed f.inNode ≤ s.fetchPct * s.workingSize f.inNode →
      (∃ t : State, t = (s.modFrame id (fun f => { f with spilled := false })).updHayloft f.qport ∧
        (f.bad = none → exec (.hayloftFetch id false stack word) s = .next t) ∧
        (f.bad ≠ none → exec (.hayloftFetch id false stack word) s = .next (t.endFrame id 0x60)))) ∧
    (s.frame id = none → exec (.hayloftSpill id) s = .next s ∧ exec (.hayloftFetch id false stack word) s = .next s ∧
      exec (.ageLimitExpiry id) s = .next s ∧ exec (.mcastCopyTimeout id) s = .next s) ∧
    (k < 2 → ∃ t : State, exec (.hayloftStackFail k) s = .next (t.loomEvent 3 0xFFFF 0) ∧
      SameBut [R.LOOM_HAYLOFT, R.LOOM_STATUS] { s with frames := t.frames } t ∧
      t.frames = s.frames.map (fun (x : Nat × Frame) => if x.2.spilled then (x.1, { x.2 with bad := some 3 }) else x) ∧
      t.get F.LOOM_HAYLOFT_STACK0_OK = (if k = 0 then 0 else s.get F.LOOM_HAYLOFT_STACK0_OK) ∧
      t.get F.LOOM_HAYLOFT_STACK1_OK = (if k = 1 then 0 else s.get F.LOOM_HAYLOFT_STACK1_OK) ∧ t.get F.LOOM_STATUS_HAYLOFT_DEGRADED = 1) ∧
    (s.frame id = some f → s.atFront f = true → s.ageLimit * us ≤ f.age → s.ageLimit ≠ 0 → exec (.ageLimitExpiry id) s = .next (s.endFrame id 0x34)) ∧
    (s.frame id = some f → s.ageLimit = 0 ∨ s.atFront f = false ∨ f.age < s.ageLimit * us → exec (.ageLimitExpiry id) s = .next s) ∧
    (s.frame id = some f → f.stage = .admission → s.get F.LOOM_MCAST_WAIT_WAIT_US ≠ 0 →
      s.get F.LOOM_MCAST_WAIT_WAIT_US * us ≤ f.waited → exec (.mcastCopyTimeout id) s = .next (s.endFrame id 0x32)) ∧
    (s.frame id = some f → s.get F.LOOM_MCAST_WAIT_WAIT_US = 0 ∨ f.stage ≠ .admission → exec (.mcastCopyTimeout id) s = .next s) ∧
    (s.cycleDue evHalter = false → exec .halterEvaluate s = .next s) ∧
    (s.cycleDue evHalter = true → ∃ u, exec .halterEvaluate s = .next u ∧ u.frames = s.frames ∧ ∀ p < 272,
      let on := (s.haltLimit p - s.get (F.LOOM_HALT_HEADROOM p)) * unit64
      let off := (s.haltLimit p - s.get (F.LOOM_HALT_HEADROOM p) - s.xonGap p) * unit64
      (on ≤ s.occupancy p → u.get (F.LOOM_HALT_STATUS_PORT_HOLD p) = 1) ∧
      (s.occupancy p < on → s.occupancy p ≤ off → 100 * s.workingUsed (nodeOf p) ≤ 90 * s.workingSize (nodeOf p) →
        u.get (F.LOOM_HALT_STATUS_PORT_HOLD p) = 0) ∧
      (off < s.occupancy p → s.occupancy p < on → u.get (F.LOOM_HALT_STATUS_PORT_HOLD p) = s.get (F.LOOM_HALT_STATUS_PORT_HOLD p)) ∧
      (s.workingSize (nodeOf p) ≤ s.workingUsed (nodeOf p) → u.get (F.LOOM_HALT_STATUS_NODE_HOLD p) = 1)) ∧
    (n ∉ s.nodeRst ∨ (∃ x ∈ s.shuttles, x.place = .inter ∧ x.via = n) → exec (.nodeDrainDone n) s = .next s) ∧
    (n ∈ s.nodeRst → (∀ x ∈ s.shuttles, ¬ (x.place = .inter ∧ x.via = n)) → ∃ u, exec (.nodeDrainDone n) s = .next u ∧ n ∉ u.nodeRst ∧
      u.shuttles = s.shuttles.filter (fun x => x.src != n && x.dst != n) ∧ (∀ d < 36, n < 36 → u.pair n d = {} ∧ u.pair d n = {}) ∧
      ∀ r ∈ u.rows, r.node ≠ n ∧ n ∉ r.wait)

/-- 08 R342 to R348: reservations, mirrors and groups. -/
def Obligations.PicksMirrorsAndGroups : Prop :=
  ∀ (s : State) (d : Submission) (w m : Nat),
    let t := s.fetched d
    let c := cmdOf 0x4D d s
    let held := (s.wovenHandles.filter (fun v => v != w)).map (fun v => picksOf (s.wovenBytes v))
    let mine := picksOf d.bytes
    let here := (s.wovenHandles.flatMap (fun v => (picksOf (s.wovenBytes v)).1)).filter (fun p => p.1 == nodeOf (d.le 2 2))
    (Ready specPicks d s → d.P0 0 12 = w → d.b 0 = 0 →
      ((∃ o ∈ held, (∃ p ∈ mine.1, p ∈ o.1) ∨ (∃ p ∈ mine.2, p ∈ o.2)) → exec (.picksReserve d) s = .next (c.ended rBusy 0 0 t)) ∧
      ((∀ o ∈ held, (∀ p ∈ mine.1, p ∉ o.1) ∧ (∀ p ∈ mine.2, p ∉ o.2)) →
        (32 < here.length + d.b 1 → exec (.picksReserve d) s = .next (c.ended rTableFull 0 0 t)) ∧
        (here.length + d.b 1 ≤ 32 → s.get (F.LOOM_WOVEN_STATE w) ≠ 0 → exec (.picksReserve d) s = .next (c.ended rState 0 0 t)) ∧
        (here.length + d.b 1 ≤ 32 → s.get (F.LOOM_WOVEN_STATE w) = 0 → ∃ u, exec (.picksReserve d) s = .next (c.ended rOk 0 0 u) ∧
          SameBut (R.LOOM_STATUS :: (List.range 8).map (fun i => R.LOOM_WOVEN w + 4 * i)) t u ∧ u.get (F.LOOM_WOVEN_STATE w) = 1 ∧
          u.get (F.LOOM_WOVEN_PHI w) = 0 ∧ ∀ i < 6, u.rd (R.LOOM_WOVEN w + 4 * i) = BitVec.ofNat 32 (d.le (4 * i) 4)))) ∧
    (Ready specPicks d s → d.P0 0 12 = w → d.b 0 = 1 →
      (s.get (F.LOOM_WOVEN_STATE w) = 0 → exec (.picksRelease d) s = .next (c.ended rState 0 0 t)) ∧
      (s.get (F.LOOM_WOVEN_STATE w) ≠ 0 → s.wovenWaiting w = [] → ∃ u, exec (.picksRelease d) s = .next (c.ended rOk 0 0 u) ∧
        SameBut (R.LOOM_STATUS :: (List.range 8).map (fun i => R.LOOM_WOVEN w + 4 * i)) t u ∧ ∀ i < 8, u.rd (R.LOOM_WOVEN w + 4 * i) = 0)) ∧
    (Ready specMirrorSession d s → d.P0 0 13 = m → ∃ u, exec (.mirrorSetSession d) s = .next ((cmdOf 0x4E d s).ended rOk 0 0 u) ∧
      SameBut [R.LOOM_MIRROR m, R.LOOM_MIRROR m + 4] { t with mirrors := u.mirrors } u ∧
      u.rd (R.LOOM_MIRROR m) = BitVec.ofNat 32 (d.le 8 4) ∧ u.rd (R.LOOM_MIRROR m + 4) = BitVec.ofNat 32 (d.le 12 4) ∧
      (s.on (F.LOOM_MIRROR_ENABLE m) = false → u.on (F.LOOM_MIRROR_ENABLE m) = true → (u.mirrors.getD m (0, 0)).1 = 0) ∧
      (s.on (F.LOOM_MIRROR_ENABLE m) = true ∨ u.on (F.LOOM_MIRROR_ENABLE m) = false → u.mirrors = s.mirrors)) ∧
    (Ready specMirrorGroup d s → d.P0 0 13 = m → ∃ u, exec (.mirrorSetGroup d) s = .next ((cmdOf 0x4E d s).ended rOk 0 0 u) ∧
      SameBut ((List.range 16).map (fun i => R.LOOM_GROUP m + 4 * i)) { t with groupWas := u.groupWas } u ∧
      Tbl.find m u.groupWas = some ((List.range 16).map (s.groupWord m)) ∧
      ∀ i < 16, u.rd (R.LOOM_GROUP m + 4 * i) = BitVec.ofNat 32 (d.le (8 + 4 * i) 4))

/-- 06 R223, R252, R254; 08 R335, R340; 09 R351 to R354: egress. -/
def Obligations.EgressPlacesChoosesAndSends : Prop :=
  ∀ (s : State) (d p tm n id q c : Nat) (f : Frame) (x : Ctl) (dr : Drr),
    let t := s.txTimeOf p tm n
    (s.shuttles = [] → (∀ y ∈ s.frames, y.2.stage ≠ .admission) →
      (s.nextJoined d = none → exec (.egressEnqueue d) s = .next s) ∧
      (s.nextJoined d = some (id, f) → f.dest = .port p →
        (s.portUp p = false → exec (.egressEnqueue d) s = .next (s.endFrame id 0x31).updHeld) ∧
        (s.portUp p = true → f.stream = none → f.launch = none → exec (.egressEnqueue d) s =
          .next (((s.place id .egress).updEgress p).pruneShed p).updHeld) ∧
        (s.portUp p = true → f.stream = none → f.launch ≠ none → exec (.egressEnqueue d) s = .next (s.place id .launch).updHeld)) ∧
      (s.nextJoined d = some (id, f) → f.dest = .ring q →
        (s.cls q ≠ clsFrameRx → exec (.egressEnqueue d) s = .next ((s.ringNotRx q).endFrame id 0x50).updHeld) ∧
        (s.cls q = clsFrameRx → exec (.egressEnqueue d) s = .next
          (((s.place id .ring).modRing q (fun r => { r with rxQueue := r.rxQueue ++ [id] })).startOnce (.rxWait q)).updHeld)) ∧
      (s.nextJoined d = some (id, f) → f.dest = .recirc → f.stream = none → s.frame id = some f →
        ∃ u, exec (.egressEnqueue d) s = .next (State.updHeld u) ∧ ∃ g, u.frame id = some g ∧
        g.pass = f.pass + 1 ∧ g.stage = .head ∧ g.dest = .none ∧ g.data = f.data ∧ g.after = {} ∧ g.sent = 0)) ∧
    (s.shuttles = [] → s.frames = [(id, f)] → f.stage = .admission → f.dest = .mask d [p] → s.classHeld p f.tc = false → s.poolRoom d = true →
      exec (.egressEnqueue d) s = .next (((s.place id .egress).updEgress p).pruneShed p)) ∧
    (s.macFree p = false → exec (.egressChoose p tm n) s = .next s ∧ exec (.launchStart p tm n) s = .next s) ∧
    (s.macFree p = true → s.nextCtl p t = some x → exec (.egressChoose p tm n) s =
      .next (({ s with ctlQ := s.ctlQ.erase x, ctlSent := s.ctlSent ++ [x], sent := Tbl.ins p (s.ctlBytes x) s.sent } : State).traffic p
        (if x.opcode = 1 then 6 else 7) 1)) ∧
    (s.macFree p = true → (∀ y ∈ s.ctlQ, y.port ≠ p) → (∀ y ∈ s.frames, y.2.stage ≠ .launch) →
      (s.schedule p (t - s.byteTime p 8) = none → exec (.egressChoose p tm n) s = .next s) ∧
      (s.schedule p (t - s.byteTime p 8) = some (c, dr) → s.classHead p c = some (id, f) →
        exec (.egressChoose p tm n) s = .next ((State.startTx id p t { s with drr := Tbl.ins p dr s.drr }).pruneShed p))) ∧
    (s.schedule p tm = some (c, dr) → c < 8 ∧ s.eligible p tm c = true ∧ ∀ k < 8, s.eligible p tm k = true → s.level p k ≤ s.level p c) ∧
    (s.macFree p = true → s.nextLaunch p = none → exec (.launchStart p tm n) s = .next s) ∧
    (s.macFree p = true → s.nextLaunch p = some (id, f) →
      let at0 := f.launch.getD 0
      let late := f.late || s.wordPast p t (at0 + ((s.get (F.MAC_LAUNCH_LATE_NS p) * ns : Nat) : Int))
      ((t : Int) < at0 ∨ s.classHeld p f.tc = true ∨ (s.wordPast p t at0 = true ∧ (s.nt : Int) ≤ at0) →
        exec (.launchStart p tm n) s = .next s) ∧
      (at0 ≤ (t : Int) → s.classHeld p f.tc = false → s.wordPast p t at0 = false ∨ at0 < (s.nt : Int) →
        (late = false → exec (.launchStart p tm n) s = .next (s.startTx id p t)) ∧
        (late = true → s.on (F.MAC_CFG_LATE_DISCARD p) = true → exec (.launchStart p tm n) s = .next (s.shedMissed id p)) ∧
        (late = true → s.on (F.MAC_CFG_LATE_DISCARD p) = false → exec (.launchStart p tm n) s =
          .next ((((s.raise .mac 1 p).traffic p 15 1).modFrame id (fun f => { f with late := true })).startTx id p t)))) ∧
    (s.sending p = none → exec (.frameTxEnd p) s = .next s ∧ exec (.cutUnderrun p) s = .next s) ∧
    (s.sending p = some (id, f) → s.frame id = some f → f.dest = .port p → f.whole = true → f.len ≤ f.got ∨ f.bad ≠ none → ∃ u,
      exec (.frameTxEnd p) s = .next u ∧ u.frame id = none ∧ u.fateQ = s.fateQ ++ [(f.port, if f.bad = none then 0x00 else 0x01)] ∧
      (f.port = 272 → s.get (F.MAC_CFG_ONE_STEP p) = 0 → Tbl.find p u.sent = some (s.txEdit p f ++
        leBytes 4 (if f.bad = none then crc32 (s.txEdit p f) else 2 ^ 32 - 1 - crc32 (s.txEdit p f))))) ∧
    (s.sending p = some (id, f) → f.cut = true → f.whole = false ∨ f.got < f.len → exec (.cutUnderrun p) s =
      .next ((s.loomEvent 10 (nodeOf p) 0).endTx id p { f with data := f.data.take f.got, rtagIns := false } (some 4))) ∧
    (s.sending p = some (id, f) → f.cut = false → exec (.cutUnderrun p) s = .next s)

/-- 09 R357, R362, R372, R374: rations and stream handles. -/
def Obligations.RationsAndStreamHandles : Prop :=
  ∀ (s : State) (d : Submission) (p h : Nat),
    let t := s.fetched d
    (s.cycleDue evRations = false → exec .rationsDeal s = .next s) ∧
    (s.cycleDue evRations = true → ∃ u, exec .rationsDeal s = .next u ∧ u.frames = s.frames ∧ ∀ e < 272,
      (s.on (F.EGR_PORT_STATUS_RATIONED e) = false → s.rationOn e ≤ s.rationedBytes e → u.on (F.EGR_PORT_STATUS_RATIONED e) = true) ∧
      (s.on (F.EGR_PORT_STATUS_RATIONED e) = false → s.rationedBytes e < s.rationOn e → u.on (F.EGR_PORT_STATUS_RATIONED e) = false) ∧
      (s.on (F.EGR_PORT_STATUS_RATIONED e) = true → s.rationedBytes e ≤ s.rationOff e →
        u.on (F.EGR_PORT_STATUS_RATIONED e) = false ∧ u.get (F.EGR_PORT_STATUS_DEMANDING e) = 0 ∧ ∀ b ∈ u.balance, b.1 / 512 ≠ e) ∧
      (s.on (F.EGR_PORT_STATUS_RATIONED e) = true → s.rationOff e < s.rationedBytes e → u.on (F.EGR_PORT_STATUS_RATIONED e) = true)) ∧
    (Ready specRationsEgress d s → d.P0 0 9 = p → ∃ u, exec (.rationsSetEgress d) s = .next ((cmdOf 0x4F d s).ended rOk 0 0 u) ∧
      SameBut [R.EGR_CLASS_LEVEL p, R.EGR_CLASS_WEIGHT0 p, R.EGR_CLASS_WEIGHT1 p, R.EGR_RATION_CFG p] t u ∧
      u.rd (R.EGR_CLASS_LEVEL p) = BitVec.ofNat 32 (d.le 8 4) ∧ u.rd (R.EGR_CLASS_WEIGHT0 p) = BitVec.ofNat 32 (d.le 12 4) ∧
      u.rd (R.EGR_CLASS_WEIGHT1 p) = BitVec.ofNat 32 (d.le 16 4) ∧ u.rd (R.EGR_RATION_CFG p) = BitVec.ofNat 32 (d.le 20 4)) ∧
    (Ready specRationsWeight d s → d.P0 0 9 = p → ∃ u, exec (.rationsSetWeight d) s = .next ((cmdOf 0x4F d s).ended rOk 0 0 u) ∧
      SameBut [R.EGR_RATION_WEIGHT p] t u ∧ u.rd (R.EGR_RATION_WEIGHT p) = BitVec.ofNat 32 (d.le 8 4)) ∧
    (Ready specFrerWrite d s → d.P0 0 12 = h → ∃ u, exec (.frerSetWrite d) s = .next ((cmdOf 0x50 d s).ended rOk 0 0 u) ∧
      SameBut (R.FRER_STATUS :: R.FRER_STATE h :: (R.FRER_STATE h + 8) :: (R.FRER_STATE h + 12) :: (List.range 8).map (fun i => R.FRER_STREAM h + 4 * i))
        { t with timers := u.timers } u ∧
      (∀ i < 8, u.rd (R.FRER_STREAM h + 4 * i) = BitVec.ofNat 32 (d.le (8 + 4 * i) 4)) ∧ u.get (F.FRER_STATE_SEQ h) = 0 ∧
      u.get (F.FRER_STATE_TAKE_ANY h) = 1 ∧ u.frerHist h = 0 ∧ u.timer (.frerReset h) = none) ∧
    (Ready specFrerReset d s → d.P0 0 12 = h →
      (s.get (F.FRER_STREAM_MODE h) = 2 ∨ s.get (F.FRER_STREAM_MODE h) = 3 → exec (.frerSetReset d) s = .next ((cmdOf 0x50 d s).ended rOk 0 0 (t.frerReset h))) ∧
      (s.get (F.FRER_STREAM_MODE h) ≠ 2 → s.get (F.FRER_STREAM_MODE h) ≠ 3 → exec (.frerSetReset d) s = .next ((cmdOf 0x50 d s).ended rState 0 0 t))) ∧
    (s.get (F.FRER_STREAM_MODE h) = 2 ∨ s.get (F.FRER_STREAM_MODE h) = 3 →
      (s.ran (.frerReset h) (max 1 (s.get (F.FRER_STREAM_RESET_MS h)) * ms) = true → exec (.frerResetTimeout h) s = .next (s.frerReset h)) ∧
      (s.ran (.frerReset h) (max 1 (s.get (F.FRER_STREAM_RESET_MS h)) * ms) = false → exec (.frerResetTimeout h) s = .next s)) ∧
    (h < 4096 → (s.frerReset h).on (F.FRER_STATE_TAKE_ANY h) = true ∧ (s.frerReset h).frerHist h = 0 ∧
      (s.frerReset h).get (F.FRER_STATE_SEQ h) = s.get (F.FRER_STATE_SEQ h) ∧ (s.frerReset h).timer (.frerReset h) = none)

/-- 09 R365 to R370: a member copy of each number goes on once. -/
def Obligations.StreamRecoveryTakesEachNumberOnce : Prop :=
  ∀ (s t : State) (h n code id p : Nat) (f : Frame), h < 4096 → n < 65536 →
    (1 ≤ s.get (F.FRER_STREAM_HISTORY h) → s.get (F.FRER_STREAM_HISTORY h) ≤ 64 → s.frerVector h n = (code, t) →
      (code = 0 → (t.frerVector h n).1 = 0x40 ∧ t.on (F.FRER_STATE_TAKE_ANY h) = false ∧ t.timer (.frerReset h) = some 0) ∧
      (code ≠ 0 → (code = 0x40 ∨ code = 0x41) ∧ t.frerHist h = s.frerHist h ∧ t.get (F.FRER_STATE_SEQ h) = s.get (F.FRER_STATE_SEQ h)) ∧
      (s.get (F.FRER_STREAM_HISTORY h) ≤ (toInt 16 (n + 65536 - s.get (F.FRER_STATE_SEQ h))).natAbs → code = 0x41)) ∧
    (s.frerMatch h n = (code, t) → (n = s.get (F.FRER_STATE_SEQ h) ∧ s.on (F.FRER_STATE_TAKE_ANY h) = false ↔ code = 0x40) ∧
      (code ≠ 0x40 → code = 0 ∧ t.get (F.FRER_STATE_SEQ h) = n ∧ (t.frerMatch h n).1 = 0x40)) ∧
    (f.stream = some h → s.get (F.FRER_STREAM_MODE h) = 2 ∨ s.get (F.FRER_STREAM_MODE h) = 3 → s.get (F.FRER_STREAM_PORT h) = p →
      s.seqOf f = some n → s.on (F.FRER_STATE_TAKE_ANY h) = true → (s.recover id p f).1 = 0 ∧ (s.recover id p f).2.get (F.FRER_STATE_SEQ h) = n ∧
      (s.recover id p f).2.on (F.FRER_STATE_TAKE_ANY h) = false) ∧
    (f.stream = some h → s.get (F.FRER_STREAM_MODE h) = 1 → s.frame id = some f →
      (s.get (F.FRER_STREAM_HOME_NODE h) = f.inNode → (s.frerGenerate id f).get (F.FRER_STATE_SEQ h) = (s.get (F.FRER_STATE_SEQ h) + 1) % 65536 ∧
        ∃ g, (s.frerGenerate id f).frame id = some g ∧ g.rtag = some (s.get (F.FRER_STATE_SEQ h)) ∧ g.made = true) ∧
      (s.get (F.FRER_STREAM_HOME_NODE h) ≠ f.inNode → (s.frerGenerate id f).get (F.FRER_STATE_SEQ h) = s.get (F.FRER_STATE_SEQ h) ∧
        ∃ g, (s.frerGenerate id f).frame id = some g ∧ g.rtag = none))

/-- 17 R599, R605 to R607, R612: what observability records. -/
def Obligations.SnapshotsLedgerAndHealth : Prop :=
  ∀ (s : State) (d : Submission) (set p code : Nat) (q : List (Nat × Nat)) (cap : Capture) (x : Cmd),
    let t := s.fetched d
    let c := cmdOf 0x30 d s
    (Ready specSnapTake d s → d.P0 0 8 = set →
      (s.obs.captures.has set = false → (∀ y ∈ s.obs.snapWait, y.sub.P0 0 8 ≠ set) → ∃ u cap', exec (.snapTake d) s = .next (c.goesOn u) ∧
        Tbl.find set u.obs.captures = some cap' ∧ cap'.cmd = c ∧ cap'.time = c.boundary ∧ u.ctr = s.ctr ∧
        (measSet set = none → u.obs.snapSeq.getD set 0 = (s.obs.snapSeq.getD set 0 + 1) % 2 ^ 32 ∧
          cap'.data.take 4 = leBytes 2 0x534E ++ leBytes 1 set ++ (cap'.data.drop 3).take 1) ∧
        (∀ k, measSet set = some k → cap'.data = (s.measBytes k (d.P2 0 32)).1 ∧ cap'.moved = (s.measBytes k (d.P2 0 32)).2 ∧
          u.rd (R.MEAS_CH_LOST k) = 0)) ∧
      (s.obs.captures.has set = true → exec (.snapTake d) s =
        .next (c.goesOn (State.raise .obs 1 set { t with obs := { s.obs with snapWait := s.obs.snapWait ++ [c] } })))) ∧
    (s.obs.captures.has set = false → exec (.snapWriteDone set true) s = .next s ∧ exec (.snapWriteDone set false) s = .next s) ∧
    (Tbl.find set s.obs.captures = some cap → s.accepted.find? (fun y => y.begun && sameCmd cap.cmd y) = some x → ∃ u : State,
      u.obs.captures.has set = false ∧ u.ctr = s.ctr ∧ u.chans = s.chans ∧
      (measSet set = none → exec (.snapWriteDone set true) s = .next (State.completeCmd cap.cmd rOk cap.cmd.boundary cap.data.length 0
        { u with rxData := Tbl.ins (bufKey cap.cmd.sub) cap.data s.rxData, accepted := s.accepted.erase x })) ∧
      (∀ k, measSet set = some k → ∃ v : State, exec (.snapWriteDone set true) s = .next (v.completeCmd cap.cmd rOk cap.cmd.boundary cap.data.length 0) ∧
        (v.mi k).recs = (s.mi k).recs.drop cap.moved) ∧
      exec (.snapWriteDone set false) s = .next ((u.hifErr 3 cap.cmd.sub.ring cap.cmd.sub.p1.toNat).finishAs cap.cmd rDmaError 0)) ∧
    (Ready (specFreeze true) d s → ∃ u, exec (.snapFreeze d) s = .next ((cmdOf 0x31 d s).ended rOk 0 0 u) ∧ SameBut [R.OBS_STATUS] t u ∧
      ∀ k < 32, (u.rd R.OBS_STATUS).getLsbD k = ((s.rd R.OBS_STATUS).getLsbD k || decide (k = d.P0 0 8 - 8))) ∧
    (Ready (specFreeze false) d s → ∃ u, exec (.snapThaw d) s = .next ((cmdOf 0x32 d s).ended rOk 0 0 u) ∧ SameBut [R.OBS_STATUS] t u ∧
      ∀ k < 32, (u.rd R.OBS_STATUS).getLsbD k = ((s.rd R.OBS_STATUS).getLsbD k && !decide (k = d.P0 0 8 - 8))) ∧
    (s.fateQ = [] → exec .fateLedgerRecord s = .next s) ∧
    (s.fateQ = (p, code) :: q → ∃ u, exec .fateLedgerRecord s = .next u ∧ u.fateQ = q ∧
      u.ctrOf 0 p (3 + fateIndex code) = (s.ctrOf 0 p (3 + fateIndex code) + 1) % 2 ^ 64 ∧
      ∀ k, k ≠ ctrKey 0 p (3 + fateIndex code) → u.ctr.getD k 0 = s.ctr.getD k 0) ∧
    (s.obs.healthDue = false → exec .healthEvent s = .next s) ∧
    (s.obs.healthDue = true → exec .healthEvent s =
      .next (State.event 0x1310 0 s.healthWord.toNat { s with obs := { s.obs with healthDue := false } }))

/-- 01 R13, R16, R630: time passes by pick cycles. -/
def Obligations.PickCyclesCarryTimeAndTimers : Prop :=
  ∀ (s : State) (n dt : Nat) (m : CycleMeas) (tm : Timer),
    (s.supply ≠ .on → exec (.pickCycleBoundary n m) s = .next s) ∧
    (s.supply = .on → ∃ v : State, exec (.pickCycleBoundary n m) s = .next (v.evaluate (max 1 n)) ∧
      v.nt = (s.nt + s.span (max 1 n)) % ntSpan ∧ v.cycles = s.cycles + max 1 n ∧ v.batch = (s.batch + max 1 n) % 2 ^ 64 ∧
      v.attnNow = 0 ∧ v.fdbTouched = [] ∧ v.fdbFlushes = [] ∧ v.setNow = [] ∧ v.dbNow = [] ∧ v.picksNow = [] ∧ v.wroteNow = [] ∧ v.unitsNow = [] ∧
      v.obs.ctrStart = v.ctr ∧ (s.heldDomain 1 = false → s.on F.SYN_STATUS_SAFE0 = false → v.nt % grid = 0) ∧
      (s.heldDomain 1 = true → s.nt < ntSpan → v.nt = s.nt)) ∧
    ((s.pass dt).timer tm = (s.timer tm).map (fun e => e + dt)) ∧
    (s.heldDomain 1 = false → s.on F.SYN_STATUS_SAFE0 = false → s.nt % grid = 0 → s.span 1 = grid) ∧
    (s.heldDomain 1 = false → s.on F.SYN_STATUS_SAFE0 = true → (s.nt + s.span 1) % (2 * grid) = s.safePhase % (2 * grid) ∧
      0 < s.span 1 ∧ s.span 1 ≤ 2 * grid) ∧
    s.span (n + 1) = if s.heldDomain 1 then 0 else s.span 1 + n * s.cycleLen

/-- 05 R175 to R194, R204 to R207: lanes. -/
def Obligations.LanesFollowTheirStates : Prop :=
  ∀ (s : State) (d : Submission) (n rx tx : Nat) (ins : Bool) (g : LockGain) (w : LockLoss), n < 272 →
    let t := s.fetched d
    let c := cmdOf 0x41 d s
    let cut0 := s.cutShort (s.leadOf n) w.rx
    let block := g.block || s.on (F.LANE_STATUS_BLOCK_LOCK n)
    (s.laneRuns n = true → ∃ f, exec (.laneLockGained n g) s = .next (s.linkChange (n / 8) f) ∧
      (f s).on (F.LANE_STATUS_BLOCK_LOCK n) = block ∧
      (f s).on (F.LANE_STATUS_AM_LOCK n) = (block && (g.marker || s.on (F.LANE_STATUS_AM_LOCK n)) && s.hasMarkers n) ∧
      (s.lane n = lnAcquire → (f s).locked n = true → (f s).lane n = lnHold ∧ (f s).timer (.laneHold n) = some 0 ∧
        (f s).timer (.laneAcquire n) = none) ∧
      (s.lane n ≠ lnAcquire ∨ (f s).locked n = false → (f s).lane n = s.lane n ∧ (f s).timers = s.timers)) ∧
    (s.laneRuns n = false → exec (.laneLockGained n g) s = .next s) ∧
    (s.lane n ≠ lnAcquire → exec (.laneAcquireTimeout n) s = .next s) ∧
    (s.lane n = lnHold → s.ran (.laneHold n) (max 1 (s.get (F.LANE_CFG_LINK_UP_HOLD_MS n)) * ms) = true → ∃ f,
      exec (.linkUpHoldExpiry n) s = .next (s.linkChange (n / 8) f) ∧ (f s).lane n = lnUp ∧ (f s).timer (.laneHold n) = none) ∧
    (s.lane n ≠ lnHold ∨ s.ran (.laneHold n) (max 1 (s.get (F.LANE_CFG_LINK_UP_HOLD_MS n)) * ms) = false →
      exec (.linkUpHoldExpiry n) s = .next s) ∧
    (w.lane = n → s.laneRuns n = true → w.block = true ∨ s.hasMarkers n = true → ∃ f,
      exec (.laneLockLost w) s = .next (cut0.linkChange (n / 8) f) ∧ (f cut0).lane n = lnAcquire ∧
      (f cut0).on (F.LANE_STATUS_BLOCK_LOCK n) = (s.on (F.LANE_STATUS_BLOCK_LOCK n) && !w.block) ∧ (f cut0).on (F.LANE_STATUS_AM_LOCK n) = false ∧
      (f cut0).timer (.laneAcquire n) = (if s.lane n = lnAcquire then s.timer (.laneAcquire n) else some 0) ∧
      (s.lane n = lnUp → (f cut0).ctrOf 2 n 7 = (s.ctrOf 2 n 7 + 1) % 2 ^ 64) ∧ (s.lane n ≠ lnUp → (f cut0).ctrOf 2 n 7 = s.ctrOf 2 n 7)) ∧
    (w.lane = n → s.laneRuns n = false ∨ (w.block = false ∧ s.hasMarkers n = false) → exec (.laneLockLost w) s = .next s) ∧
    (s.lane n = lnAcquire → s.ran (.laneAcquire n) (500 * ms) = true →
      exec (.laneAcquireTimeout n) s = .next ((s.start (.laneAcquire n)).count 2 n 6 1)) ∧
    (s.lane n ≠ lnRetired → s.lane n ≠ lnFault → ∃ f, exec (.serdesFault n) s = .next (s.linkChange (n / 8) f) ∧ (f s).lane n = lnFault) ∧
    (s.lane n = lnRetired ∨ s.lane n = lnFault → exec (.serdesFault n) s = .next s) ∧
    (s.on (F.LANE_STATUS_BLOCK_LOCK n) = true →
      exec (.lpiReceived n) s = .next (s.raise .lane 6 n) ∧ (s.rsFec n = true → s.on (F.LANE_STATUS_FEC_DEGRADED n) = false →
        exec (.fecDegradedSet n) s = .next ((s.set (F.LANE_STATUS_FEC_DEGRADED n) 1).raise .lane 3 n))) ∧
    (s.on (F.LANE_STATUS_BLOCK_LOCK n) = false → exec (.lpiReceived n) s = .next s ∧ exec (.fecDegradedSet n) s = .next s) ∧
    (∃ u, exec (.fecDegradedClear n) s = .next u ∧ SameBut [R.LANE_STATUS n] s u ∧ u.get (F.LANE_STATUS_FEC_DEGRADED n) = 0 ∧ u.lane n = s.lane n) ∧
    (s.bothSync n = false → exec (.elasticSlip n ins) s = .next (s.count 2 n (if ins then 4 else 5) 1)) ∧
    (s.bothSync n = true → exec (.elasticSlip n ins) s = .next ((s.count 2 n (if ins then 4 else 5) 1).raise .lane 4 n)) ∧
    (d.P0 0 9 = n →
      (Ready (specLane 0) d s → (s.on (F.LANE_CFG_CLK_SYNC n) && !bit (d.le 4 4) 5 && s.laneTimed n) = true →
        exec (.laneSetConfigure d) s = .next (c.ended rState (s.lane n) 0 t)) ∧
      (Ready (specLane 0) d s → (s.on (F.LANE_CFG_CLK_SYNC n) && !bit (d.le 4 4) 5 && s.laneTimed n) = false → ∃ u,
        exec (.laneSetConfigure d) s = .next (c.ended rOk (u.lane n) 0 u) ∧ u = t.laneConfigure n (d.le 4 4) (d.le 8 4) (d.le 12 4)) ∧
      (s.lane n = lnRetired →
        (Ready (specLane 1) d s → exec (.laneSetReset d) s = .next (c.ended rState lnRetired 0 t)) ∧
        (Ready (specLane 2) d s → exec (.laneSetReadapt d) s = .next (c.ended rState lnRetired 0 t)) ∧
        (Ready (specLane 3) d s → exec (.laneSetRetire d) s = .next (c.ended rState lnRetired 0 t)) ∧
        (Ready (specLane 4) d s → ∃ u, exec (.laneSetReturn d) s = .next (c.ended rOk (u.lane n) 0 u) ∧
          u = t.linkChange (n / 8) (fun x => (x.laneTo n lnDown).laneCheck n))) ∧
      (s.lane n ≠ lnRetired →
        (Ready (specLane 1) d s → ∃ u, exec (.laneSetReset d) s = .next (c.ended rOk (u.lane n) 0 u) ∧ u = t.resetLane n) ∧
        (Ready (specLane 2) d s → ∃ f, exec (.laneSetReadapt d) s = .next (c.goesOn (t.linkChange (n / 8) f)) ∧
          (s.lane n = lnHold ∨ s.lane n = lnUp ∨ s.lane n = lnAcquire → (f t).lane n = lnAcquire)) ∧
        (Ready (specLane 3) d s → ∃ u v, exec (.laneSetRetire d) s = .next (c.ended rOk (u.lane n) 0 u) ∧
          v = t.linkChange (n / 8) (State.laneTo n lnRetired) ∧ u = (v.attn (2 ^ 10)).event 0x0502 n (v.rd (R.LANE_STATUS n)).toNat ∧
          u.lane n = lnRetired) ∧
        (Ready (specLane 4) d s → exec (.laneSetReturn d) s = .next (c.ended rState (s.lane n) 0 t)))) ∧
    ((∀ x ∈ s.accepted, ¬ (x.begun = true ∧ isReadapt n x = true)) → exec (.readaptDone n rx tx) s = .next s) ∧
    ((∃ x ∈ s.accepted, x.begun = true ∧ isReadapt n x = true) → ∃ u, SameBut [R.LANE_EQ n] { s with eqMoves := u.eqMoves } u ∧
      exec (.readaptDone n rx tx) s = .next (u.finish (isReadapt n) rOk s.nt (s.lane n) 0) ∧
      (n < 256 → u.get (F.LANE_EQ_CTLE_RX n) = min rx 24 ∧ u.get (F.LANE_EQ_CTLE_TX n) = min tx 24))

/-- 02 R75; 05 R199 to R209: engines. -/
def Obligations.EnginesFollowTheirStates : Prop :=
  ∀ (s : State) (d : Submission) (k st : Nat) (b : Bool) (lsa lsb ots : Int) (pw : List (Int × Int)) (x : Cmd), k < 32 →
    let t := s.fetched d
    let c := cmdOf 0x42 d s
    (st < 6 → (s.oeTo k st).oe k = st ∧ (s.oeTo k st).timer (.engineStart k) = (if st = oeStarting then some 0 else none) ∧
      (st ≠ oeReady → ∀ n, n / 8 = k → (s.oeTo k st).lane n ≠ lnAcquire ∧ (s.oeTo k st).lane n ≠ lnHold ∧ (s.oeTo k st).lane n ≠ lnUp)) ∧
    (s.oe k = oeStarting → s.elemHeld.contains (.engines, k) = false →
      exec (.engineSelfTestDone k true) s = .next (s.oeTo k (if s.inUse k false || s.inUse k true then oeReady else oeNoLight)) ∧
      exec (.engineSelfTestDone k false) s = .next ((s.oeTo k oeFault).raise .oe 4 k) ∧
      (s.ran (.engineStart k) (500 * ms) = true → exec (.engineStartTimeout k) s = .next ((s.oeTo k oeFault).raise .oe 4 k)) ∧
      (s.ran (.engineStart k) (500 * ms) = false → exec (.engineStartTimeout k) s = .next s)) ∧
    (s.oe k ≠ oeStarting ∨ s.elemHeld.contains (.engines, k) = true → exec (.engineSelfTestDone k b) s = .next s ∧ exec (.engineStartTimeout k) s = .next s) ∧
    (ots < 704 → exec (.engineShutdownTrip k ots) s = .next s) ∧
    (704 ≤ ots → s.oe k = oeReady ∨ s.oe k = oeNoLight ∨ s.oe k = oeStarting → exec (.engineShutdownTrip k ots) s =
      .next ((((s.setI (F.OE_TEMP_OTS k) ots).updOeMax.oeTo k oeShutdown).raise .pwr 3 k).raise .oe 5 k)) ∧
    (s.on (laserPresent k b) = false → exec (.laserInputLost k b) s = .next s ∧
      (s.ramp? k b = none → s.on (laserDrained k b) = true → exec (.laserInputReturn k b) s = .next (s.set (laserPresent k b) 1)) ∧
      (s.ramp? k b = none → s.on (laserDrained k b) = false → exec (.laserInputReturn k b) s =
        .next ((((s.set (laserPresent k b) 1).startOnce (.ramp k b)).raise .oe (2 + b2n b) k).oeLight k))) ∧
    (s.on (laserPresent k b) = true → exec (.laserInputReturn k b) s = .next s ∧
      (s.ramp? k b = none → let lost := (s.set (laserPresent k b) 0).stop (.ramp k b)
        (s.on (laserDrained k b) = true → exec (.laserInputLost k b) s = .next lost) ∧
        (s.on (laserDrained k b) = false → s.ramp? k (!b) = none ∨ s.timer (.ramp k (!b)) = none → exec (.laserInputLost k b) s =
          .next ((lost.raise .oe (b2n b) k).oeLight k)) ∧
        (s.on (laserDrained k b) = false → s.ramp? k (!b) = some x → s.timer (.ramp k (!b)) ≠ none → exec (.laserInputLost k b) s =
          .next ((((lost.raise .oe (b2n b) k).set (laserDrained k (!b)) 0).rampEnd k (!b) rState).oeLight k)))) ∧
    (s.ran (.ramp k b) (10 * ms) = false → exec (.laserRampDone k b) s = .next s) ∧
    (s.ran (.ramp k b) (10 * ms) = true → s.ramp? k b = none → exec (.laserRampDone k b) s = .next (s.stop (.ramp k b))) ∧
    (s.ramp? k b = some x → s.ran (.ramp k b) (10 * ms) = true →
      (isDrain x = true → exec (.laserRampDone k b) s = .next (((s.set (laserDrained k b) 1).oeLight k).rampEnd k b rOk)) ∧
      (isDrain x = false → s.on (laserDrained k b) = true → exec (.laserRampDone k b) s =
        .next ((((s.set (laserDrained k b) 0).raise .oe (2 + b2n b) k).oeLight k).rampEnd k b rOk))) ∧
    (∃ u, exec (.opticalMonitorUpdate k lsa lsb ots pw) s = .next u ∧ u.get (F.OE_LASER_LSA_CDBM k) = satInt 16 lsa ∧
      u.get (F.OE_LASER_LSB_CDBM k) = satInt 16 lsb ∧ u.get (F.OE_TEMP_OTS k) = satInt 16 ots ∧
      (∀ l < 8, u.get (F.OE_LANE_PWR_TX_CDBM k l) = satInt 16 (pw.getD l (0, 0)).1 ∧
        u.get (F.OE_LANE_PWR_RX_CDBM k l) = satInt 16 (pw.getD l (0, 0)).2) ∧ u.oe k = s.oe k) ∧
    (d.P0 0 5 = k →
      (Ready (specEngine 0) d s → ∃ u, exec (.engineSetConfigure d) s = .next (c.ended rOk (u.oe k) 0 u) ∧ u = t.oeConfigure k (d.le 4 4)) ∧
      (Ready (specEngine 1) d s →
        (s.oeCool k = false → exec (.engineSetPowerUp d) s = .next (c.ended rState (s.oe k) 0 t)) ∧
        (s.oeCool k = true → s.oe k = oeOff ∨ s.oe k = oeFault ∨ s.oe k = oeShutdown →
          exec (.engineSetPowerUp d) s = .next (c.ended rOk oeStarting 0 (t.oeTo k oeStarting)))) ∧
      (Ready (specEngine 2) d s → s.oe k ≠ oeOff → exec (.engineSetPowerDown d) s = .next (c.ended rOk oeOff 0 (t.oeTo k oeOff))) ∧
      (Ready (specEngine 3) d s →
        (s.oe k = oeShutdown → exec (.engineSetReset d) s = .next (c.ended rState oeShutdown 0 t)) ∧
        (s.oe k = oeReady ∨ s.oe k = oeNoLight ∨ s.oe k = oeFault →
          exec (.engineSetReset d) s = .next (c.ended rOk oeStarting 0 (t.oeTo k oeStarting)))) ∧
      (Ready (specEngine 4) d s →
        (s.drawn k true = false → exec (.drainLsa d) s = .next (c.ended rState (s.oe k) 0 t)) ∧
        (s.drawn k true = true → s.ramp? k false = none → exec (.drainLsa d) s = .next (c.goesOn (t.start (.ramp k false))))) ∧
      (Ready (specEngine 5) d s →
        (s.drawn k false = false → exec (.drainLsb d) s = .next (c.ended rState (s.oe k) 0 t)) ∧
        (s.drawn k false = true → s.ramp? k true = none → exec (.drainLsb d) s = .next (c.goesOn (t.start (.ramp k true))))) ∧
      (Ready (specEngine 6) d s → s.ramp? k false = none →
        (s.on (laserPresent k false) = true → exec (.restoreLsa d) s = .next (c.goesOn (t.start (.ramp k false)))) ∧
        (s.on (laserPresent k false) = false → exec (.restoreLsa d) s = .next (c.goesOn t))) ∧
      (Ready (specEngine 7) d s → s.ramp? k true = none →
        (s.on (laserPresent k true) = true → exec (.restoreLsb d) s = .next (c.goesOn (t.start (.ramp k true)))) ∧
        (s.on (laserPresent k true) = false → exec (.restoreLsb d) s = .next (c.goesOn t))))

/-- 02 R55 to R60: by-pass pairs. -/
def Obligations.BypassPairsHoldAndDrop : Prop :=
  ∀ (s : State) (d : Submission) (n : Nat),
    let t := s.fetched d
    (Ready specBypassPair d s → d.P0 0 2 = n → ∃ u, exec (.bypassSetPair d) s = .next ((cmdOf 0x44 d s).ended rOk 0 0 (State.updKeep u)) ∧
      SameBut [R.PWR_BP_MAP0 + 4 * n, R.PWR_BP_CTRL, R.PWR_BP_STATUS] { t with timers := u.timers } u ∧
      u.rd (R.PWR_BP_MAP0 + 4 * n) = BitVec.ofNat 32 (d.le 8 4) ∧ u.on (bpBit R.PWR_BP_CTRL 0 n) = bit (d.b 12) 0 ∧
      u.on (bpBit R.PWR_BP_CTRL 4 n) = bit (d.b 12) 1 ∧ u.on (bpBit R.PWR_BP_STATUS 8 n) = false ∧
      (∀ m < 4, m ≠ n → u.on (bpBit R.PWR_BP_CTRL 0 m) = s.on (bpBit R.PWR_BP_CTRL 0 m) ∧ u.on (bpBit R.PWR_BP_CTRL 4 m) = s.on (bpBit R.PWR_BP_CTRL 4 m)) ∧
      (bit (d.b 12) 0 = true → u.on (bpBit R.PWR_BP_STATUS 4 n) = false ∧ u.timer (.bpHold n) = none)) ∧
    (Ready specBypassHold d s → ∃ u, exec (.bypassSetHold d) s = .next ((cmdOf 0x44 d s).ended rOk 0 0 u) ∧ SameBut [R.PWR_BP_HOLD] t u ∧
      u.rd R.PWR_BP_HOLD = BitVec.ofNat 32 (d.le 8 4)) ∧
    (n < 4 → ∀ m < 4, (s.updPair n).on (bpBit R.PWR_BP_STATUS 0 m) = (if m = n then s.bpDriven n else s.on (bpBit R.PWR_BP_STATUS 0 m))) ∧
    (n < 4 → s.bpNoLink n = true → s.ran (.bpHold n) (max 1 (s.get F.PWR_BP_HOLD_LINK_HOLD_MS) * ms) = true → ∃ u,
      exec (.bypassHoldExpiry n) s = .next (State.event 0x0111 n (u.rd R.PWR_BP_STATUS).toNat u) ∧
      u.on (bpBit R.PWR_BP_STATUS 4 n) = true ∧ u.on (bpBit R.PWR_BP_STATUS 0 n) = false) ∧
    (4 ≤ n ∨ s.bpNoLink n = false ∨ s.ran (.bpHold n) (max 1 (s.get F.PWR_BP_HOLD_LINK_HOLD_MS) * ms) = false →
      exec (.bypassHoldExpiry n) s = .next s)

/-- 10 R383 to R389; 11 R436: the crystals. -/
def Obligations.CrystalsAreWatchedAndCorrected : Prop :=
  ∀ (s : State) (ratio slope : Int),
    let e := s.evalMade evCompare
    let a := s.evalMade evAgeing
    let acc := s.corrAcc + s.getI F.MEAS_XO_AGEING_RATE
    (s.on F.MEAS_STATUS_XO_MAIN_OK = true → ∃ t : State, exec .xoMainLost s = .next (t.raise .meas 0 0xFFFF) ∧
      SameBut [R.MEAS_STATUS, R.DPLL_LEARN, R.DPLL_STATUS] { s with dpll := t.dpll, spareBad := 0, timers := t.timers } t ∧
      t.get F.MEAS_STATUS_XO_MAIN_OK = 0 ∧ t.get F.MEAS_STATUS_MASTER_SPARE = s.get F.MEAS_STATUS_XO_SPARE_OK ∧
      t.get F.DPLL_STATUS_HISTORY_VALID = 0 ∧ t.get F.DPLL_LEARN_HOURS = 0 ∧ t.dpll.learnMs = 0 ∧
      (s.on F.MEAS_STATUS_OVEN_STABLE = true → t.timer .xoBack = some 0) ∧ exec .xoMainReturn s = .next s) ∧
    (s.on F.MEAS_STATUS_XO_MAIN_OK = false → exec .xoMainLost s = .next s ∧
      (s.on F.MEAS_STATUS_OVEN_STABLE = false ∨ s.ran .xoBack (1800 * sec) = false → exec .xoMainReturn s = .next s) ∧
      (s.on F.MEAS_STATUS_OVEN_STABLE = true → s.ran .xoBack (1800 * sec) = true → ∃ t : State,
        exec .xoMainReturn s = .next (t.raise .meas 1 0xFFFF) ∧
        SameBut [R.MEAS_STATUS] { s with spareWin := [], spareBad := 0, timers := t.timers } t ∧ t.get F.MEAS_STATUS_XO_MAIN_OK = 1 ∧
        t.get F.MEAS_STATUS_MASTER_SPARE = 0 ∧ t.timer .xoBack = none)) ∧
    (s.on F.MEAS_STATUS_XO_SPARE_OK = true → ∃ t : State, exec .xoSpareLost s = .next (t.raise .meas 2 0xFFFF) ∧
      SameBut [R.MEAS_STATUS, R.SYN_STATUS] { s with spareWin := [], spareBad := 0 } t ∧ t.get F.MEAS_STATUS_XO_SPARE_OK = 0 ∧
      t.get F.SYN_STATUS_SAFE_GEN_OK = 0) ∧
    (s.on F.MEAS_STATUS_XO_SPARE_OK = false → exec .xoSpareLost s = .next s) ∧
    (∃ t, exec .xoSpareReturn s = .next t ∧ SameBut [R.MEAS_STATUS, R.SYN_STATUS] s t ∧ t.get F.MEAS_STATUS_XO_SPARE_OK = 1 ∧ t.get F.SYN_STATUS_SAFE_GEN_OK = 1) ∧
    (s.on F.MEAS_STATUS_OVEN_STABLE = true → exec .ovenStableRise s = .next s) ∧
    (s.on F.MEAS_STATUS_OVEN_STABLE = false → ∃ t : State,
      SameBut [R.MEAS_STATUS, R.DPLL_STATUS] { s with ovenSeen := true, timers := t.timers } t ∧
      t.get F.MEAS_STATUS_OVEN_STABLE = 1 ∧ t.get F.DPLL_STATUS_WARMING = 0 ∧ (s.on F.MEAS_STATUS_XO_MAIN_OK = true → t.timers = s.timers) ∧
      (s.on F.MEAS_STATUS_XO_MAIN_OK = false → t.timer .xoBack = some 0) ∧
      (s.ovenSeen = true → exec .ovenStableRise s = .next t) ∧ (s.ovenSeen = false → exec .ovenStableRise s = .next (t.raise .meas 3 0xFFFF))) ∧
    (∃ t, exec .ovenStableFall s = .next t ∧ SameBut [R.MEAS_STATUS, R.DPLL_STATUS] { s with timers := t.timers } t ∧
      t.get F.MEAS_STATUS_OVEN_STABLE = 0 ∧ t.get F.DPLL_STATUS_WARMING = 1 ∧ t.timer .xoBack = none) ∧
    (s.evalDue evCompare ms = false → exec (.xoCompareWindow ratio) s = .next s) ∧
    (s.evalDue evCompare ms = true →
      (s.on F.MEAS_STATUS_XO_SPARE_OK = false ∨ s.on F.MEAS_STATUS_XO_MAIN_OK = false → exec (.xoCompareWindow ratio) s = .next e) ∧
      (s.on F.MEAS_STATUS_XO_MAIN_OK = true → s.on F.MEAS_STATUS_XO_SPARE_OK = true →
        (s.spareWin = [] → ∃ t, exec (.xoCompareWindow ratio) s = .next t ∧
          SameBut [R.MEAS_SPARE_OFFSET] { e with spareWin := [ratio], spareBad := 0 } t ∧ t.get F.MEAS_SPARE_OFFSET_OFFSET = satInt 32 ratio) ∧
        (s.spareWin ≠ [] → 2000000 < (ratio - s.getI F.MEAS_SPARE_OFFSET_OFFSET).natAbs →
          (s.spareBad < 2 → exec (.xoCompareWindow ratio) s = .next { e with spareBad := s.spareBad + 1 }) ∧
          (2 ≤ s.spareBad → exec (.xoCompareWindow ratio) s = exec .xoMainLost e)))) ∧
    (s.evalDue evAgeing ms = false → exec .ageingTick s = .next s) ∧
    (s.evalDue evAgeing ms = true →
      (s.on F.MEAS_STATUS_MASTER_SPARE = true → exec .ageingTick s = .next a) ∧
      (s.on F.MEAS_STATUS_MASTER_SPARE = false → acc.natAbs < corrMax.natAbs → exec .ageingTick s =
        .next (State.set48 R.MEAS_XO_CORR_LO R.MEAS_XO_CORR_HI (roundDiv acc corrUnit) { a with corrAcc := acc })) ∧
      (s.on F.MEAS_STATUS_MASTER_SPARE = false → corrMax ≤ acc → s.corrAcc < corrMax → exec .ageingTick s =
        .next ((State.set48 R.MEAS_XO_CORR_LO R.MEAS_XO_CORR_HI (roundDiv corrMax corrUnit) { a with corrAcc := corrMax }).raise .meas 6 0xFFFF))) ∧
    (s.on F.DPLL_CTRL_AGE_LEARN = true → s.on F.DPLL_STATUS_HISTORY_VALID = true → s.groomUp = true → 86400000 ≤ s.dpll.lockedMs →
      ∃ t, exec (.ageingLearn slope) s = .next t ∧ t.get F.MEAS_XO_AGEING_RATE = satInt 32 (s.getI F.MEAS_XO_AGEING_RATE + slope) ∧
      SameBut [R.MEAS_XO_AGEING] { s with dpll := { s.dpll with lockedMs := s.dpll.lockedMs % 86400000 } } t) ∧
    (s.on F.DPLL_CTRL_AGE_LEARN = false ∨ s.on F.DPLL_STATUS_HISTORY_VALID = false ∨ s.groomUp = false ∨ s.dpll.lockedMs < 86400000 →
      exec (.ageingLearn slope) s = .next s)

/-- 10 R391 to R409: taps and instrument inputs. -/
def Obligations.TapsAndInstrumentInputsRecord : Prop :=
  ∀ (s : State) (t k p n x : Nat) (y : Int) (rising : Bool) (rx tx : Option TapHalf) (h : TapHalf) (d : TdcEdge) (e : MiEdge),
    let at0 := s.nt / us * us
    let c := s.mi k
    (286 ≤ t ∨ s.heldDomain 1 = true ∨ s.sampleDue t at0 = false → exec (.tapSample t rx tx) s = .next s) ∧
    (t < 272 → s.heldDomain 1 = false → s.sampleDue t at0 = true → s.tapRx t = false → s.tapTx t = false →
      exec (.tapSample t rx tx) s = .next ((s.sampleMade t at0).tapWords t at0 none none false)) ∧
    (t < 272 → s.heldDomain 1 = false → s.sampleDue t at0 = true → s.tapRx t = true → tdcGood h.edge.c1 h.edge.c2 = true →
      ((h.edge.e : Int) - tdcUnits h.edge.c h.edge.c1 h.edge.c2).toNat = at0 + p → p < us → ∃ u, exec (.tapSample t (some h) none) s = .next u ∧
      u.rd (R.MEAS_TAP_LAST t) = BitVec.ofNat 32 (ct at0 % 2 ^ 32) ∧ u.rd (R.MEAS_TAP_LAST t + 4) = BitVec.ofNat 32 (ct at0 / 2 ^ 32) ∧
      u.rd (R.MEAS_TAP_LAST t + 8) = BitVec.ofNat 32 p ∧ u.rd (R.MEAS_TAP_LAST t + 12) = 0 ∧
      u.rd (R.MEAS_TAP_LAST t + 16) = BitVec.ofNat 32 h.bitpos ∧ (u.rd (R.MEAS_TAP_LAST t + 28)).getLsbD 0 = true ∧
      (u.rd (R.MEAS_TAP_LAST t + 28)).getLsbD 1 = false) ∧
    (8 ≤ k ∨ s.heldDomain 1 = true → exec (.miEdge k rising d) s = .next s) ∧
    (k < 8 → s.heldDomain 1 = false → s.asyms = [] → s.calRuns = [] →
      ((s.miMode k).1 = 0 ∨ c.passes rising = false → exec (.miEdge k rising d) s = .next s) ∧
      ((s.miMode k).1 ≠ 0 → c.passes rising = true → c.pre + 1 < c.ratio →
        exec (.miEdge k rising d) s = .next (s.modMi k (fun c => { c with pre := c.pre + 1 }))) ∧
      (s.miMode k = (1, k) → c.passes rising = true → c.ratio ≤ c.pre + 1 → c.div = 1 → c.conv = none → c.recs.length < 16384 →
        tdcGood d.c1 d.c2 = true → ((d.e : Int) - tdcUnits d.c d.c1 d.c2).toNat = x → ∃ u b, exec (.miEdge k rising d) s = .next u ∧
        (u.mi k).recs = c.recs ++ [b] ∧ b.take 8 = leBytes 8 (ct (x - (s.rd (R.MEAS_CH_DELAY k)).toNat)) ∧ (b.drop 20).take 2 = leBytes 1 k ++ leBytes 1 1 ∧
        (u.mi k).idx = c.idx + 1 ∧ (u.mi k).seq = c.seq + 1 ∧ u.get (F.MEAS_CH_STATUS_HELD k) = c.recs.length + 1 ∧
        ∀ j, j ≠ k → u.mi j = s.mi j)) ∧
    (s.expiry k = none → exec (.armedIntervalExpiry k) s = .next s) ∧
    (s.expiry k = some y → k < 8 →
      (((s.nt + grid : Nat) : Int) < y → exec (.armedIntervalExpiry k) s = .next s) ∧
      (y ≤ ((s.nt + grid : Nat) : Int) → c.armed = some e → c.recs.length < 16384 → ∃ u b, exec (.armedIntervalExpiry k) s = .next u ∧
        (u.mi k).armed = none ∧ (u.mi k).recs = c.recs ++ [b] ∧ (b.drop 20).take 2 = leBytes 1 k ++ leBytes 1 3)) ∧
    (c.gate0 = none → exec (.gateEnd k) s = .next s) ∧
    (c.gate0 = some n → k < 8 →
      (s.nt + grid < n + c.gateLen → exec (.gateEnd k) s = .next s) ∧
      (n + c.gateLen ≤ s.nt + grid → c.recs.length < 16384 → ∃ u b, exec (.gateEnd k) s = .next u ∧ (u.mi k).gate0 = some (n + c.gateLen) ∧
        (u.mi k).recs = c.recs ++ [b] ∧ b.take 8 = leBytes 8 (ct (n + c.gateLen))))

/-- 11 R413 to R426, R446: references. -/
def Obligations.ReferencesQualifyAndAreSelected : Prop :=
  ∀ (s : State) (d : Submission) (r x f m : Nat) (valid : Bool),
    let t := s.fetched d
    let c := cmdOf 0x51 d s
    (Ready (specRef 0) d s → d.P0 0 4 = r →
      (r < 8 → bit (d.le 8 4) 0 = true → s.syncMode (bits (d.le 8 4) 5 9) = false →
        exec (.refSetConfigure d) s = .next (c.ended rState 0 0 t)) ∧
      (8 ≤ r ∨ bit (d.le 8 4) 0 = false ∨ s.syncMode (bits (d.le 8 4) 5 9) = true →
        exec (.refSetConfigure d) s = .next (c.ended rOk 0 0 (t.slotConfigure r (State.putRegs d 8 (slotRegs r)))))) ∧
    (Ready (specRef 1) d s → bits (d.le 8 4) 0 3 = s.get F.DPLL_CTRL_MODE → exec (.refSetGlobal d) s =
      .next (c.ended rOk 0 0 ((((t.putRegs d 8 globalRegs).forEach slotList State.showSlot).updHistory).updQl))) ∧
    (Ready (specRef 2) d s → ∃ u, exec (.refSetEsmc d) s = .next (c.ended rOk 0 0 u) ∧ SameBut esmcRegs t u ∧
      u.rd R.DPLL_ESMC_CFG = BitVec.ofNat 32 (d.le 8 4) ∧ ∀ w < 9, u.rd (R.DPLL_ESMC_EN w) = BitVec.ofNat 32 (d.le (12 + 4 * w) 4)) ∧
    (Ready (specRef 3) d s → d.P0 0 4 = r → ∃ u, exec (.refSetRequalify d) s = .next (c.ended rOk 0 0 (State.updQl u)) ∧
      (s.slot r = slDisabled → u = t) ∧ (s.slot r ≠ slDisabled → u.slot r = slFailed ∧ u.timer (.qual r) = none ∧ u.get ⟨R.DPLL_QUAL, r, 1⟩ = 0 ∧
        (u.slotMem r).points = [])) ∧
    (s.freqSel ≠ r → s.timeSel ≠ r → exec (.refActivityLoss r valid) s = .next s) ∧
    (r < 14 → s.freqSel = r ∨ s.timeSel = r → s.slotActive r valid = false → s.slot r = slQualified → ∃ u,
      exec (.refActivityLoss r valid) s = .next u ∧ u.slot r = slFailed ∧ u.get (F.DPLL_REF_STATUS_FAIL_CAUSE r) = 1 ∧
      u.get (F.DPLL_REF_STATUS_ACTIVE r) = 0 ∧ u.get ⟨R.DPLL_QUAL, r, 1⟩ = 0) ∧
    (s.ran .ref13 (10 * ms) = false → exec .ref13EstimateTimeout s = .next s) ∧
    (s.ran .ref13 (10 * ms) = true → s.slot 13 = slQualified → ∃ u, exec .ref13EstimateTimeout s = .next u ∧ u.slot 13 = slFailed ∧
      u.get (F.DPLL_REF_STATUS_FAIL_CAUSE 13) = 1) ∧
    (s.slot r ≠ slQualifying ∨ s.evalDue evMonitor ms = true ∨ s.ran (.qual r) (s.get (F.DPLL_REF_TIMING_QUAL_S r) * sec) = false →
      exec (.qualTimerExpiry r) s = .next s) ∧
    (r < 14 → s.evalDue evMonitor ms = false → s.slot r = slQualifying → s.ran (.qual r) (s.get (F.DPLL_REF_TIMING_QUAL_S r) * sec) = true →
      s.on (F.DPLL_REF_STATUS_ACTIVE r) = true → s.slotSource r = true → ∃ u, exec (.qualTimerExpiry r) s = .next u ∧ u.timer (.qual r) = none ∧
      (s.inAccept r = true → u.slot r = slQualified ∧ u.get ⟨R.DPLL_QUAL, r, 1⟩ = 1) ∧
      (s.inAccept r = false → u.slot r = slFailed ∧ u.get (F.DPLL_REF_STATUS_FAIL_CAUSE r) = 2)) ∧
    (s.evalDue evMonitor ms = false → exec .refMonitorEvaluate s = .next s) ∧
    (s.evalDue evMonitor ms = true → ∃ u, exec .refMonitorEvaluate s = .next u ∧ ∀ q < 14,
      (s.slot q = slDisabled → u.slot q = slDisabled ∧ u.slotMem q = s.slotMem q) ∧
      (s.slot q = slQualifying ∨ s.slot q = slQualified → s.on (F.DPLL_REF_STATUS_ACTIVE q) = false →
        u.slot q = slFailed ∧ u.get (F.DPLL_REF_STATUS_FAIL_CAUSE q) = 1)) ∧
    (s.evalDue evSelect ms = false → exec .refSelection s = .next s) ∧
    (s.evalDue evSelect ms = true → let v := (s.evalMade evSelect).settleSel
      ∃ u, exec .refSelection s = .next u ∧ u.dpll.selNext = some (v.nextSample, v.selection.1.getD 15, v.selection.2.1.getD 15) ∧
      u.freqSel = v.freqSel ∧ u.timeSel = v.timeSel) ∧
    (s.selection.2.1 = some r → carriesTime r = true) ∧
    (s.dpMode = mdAuto → s.selection.1 = some r → s.selectable r = true ∧
      (s.on F.DPLL_CTRL_HYBRID = false → s.on F.DPLL_CTRL_REVERTIVE = true → ∀ q < 14, s.selectable q = true → s.slotRank r ≤ s.slotRank q)) ∧
    (s.dpll.selNext = some (x, f, m) → f < 16 → m < 16 → s.settleSel.freqSel = f ∧ s.settleSel.timeSel = m ∧ s.settleSel.dpll.selNext = none ∧
      (s.dpll.actNext = none → s.settleDpll = if x ≤ s.elapsed then s.settleSel else s))

/-- 11 R430 to R445: the DPLL and ESMC. -/
def Obligations.DpllFollowsItsStates : Prop :=
  ∀ (s : State) (d : Submission) (r p x : Nat) (a : DpAct) (loop slew : Int) (l : List Byte),
    let told := s.evals.getD evQl 0 = s.get F.DPLL_STATUS_QL_OUT
    (s.evalDue evDpll ms = false → exec (.dpllStateEvaluate loop slew) s = .next s) ∧
    (s.evalDue evDpll ms = true → let v := (((s.evalMade evDpll).settleAct).showError).lockError
      ∃ u act, exec (.dpllStateEvaluate loop slew) s = .next u ∧ u.dpll.actNext = some (v.nextSample, act, loop, slew) ∧ u.dp = v.dp ∧ u.freq = v.freq ∧
      (v.dp = dpLocked ∨ v.dp = dpAcquiring → 14 ≤ v.freqNext → act = .lose) ∧
      (v.dp = dpLocked → v.freqNext < 14 → act = if v.lockMet then .stay else .unlock) ∧
      (v.dp = dpHoldover → v.dpMode ≠ mdSteered → act = if v.freqNext < 14 then .acquire else .stay) ∧
      (v.dp = dpHoldover → v.dpMode = mdSteered → act = if v.groomUp then .steer else .stay) ∧
      (v.dp = dpSteered → act = if v.groomUp then .stay else .unsteer) ∧ (v.dp = dpFreeRun → 14 ≤ v.freqNext → act = .stay)) ∧
    (s.dpll.actNext = some (x, a, loop, slew) → (s.settleAct.freq - s.freq).natAbs ≤ 1000000000000 ∧ s.settleAct.dpll.actNext = none ∧
      (a = .stay → s.settleAct.dp = s.dp) ∧ (a = .acquire ∨ a = .unlock → s.settleAct.dp = dpAcquiring) ∧ (a = .lock → s.settleAct.dp = dpLocked) ∧
      (a = .steer → s.settleAct.dp = dpSteered) ∧ (a = .unsteer → s.settleAct.dp = dpHoldover ∧ s.settleAct.timer .holdover = some 0) ∧
      (a = .lose → s.on F.DPLL_STATUS_HISTORY_VALID = true → s.settleAct.dp = dpHoldover ∧ s.settleAct.timer .holdover = some 0) ∧
      (a = .lose → s.on F.DPLL_STATUS_HISTORY_VALID = false → s.settleAct.dp = dpFreeRun)) ∧
    (s.dp = dpHoldover → 14 ≤ s.freqNext → s.evalDue evSelect ms = false → s.get F.DPLL_HO_WINDOW_HO_WINDOW_S ≠ 0xFFFFFFFF →
      s.ran .holdover (s.get F.DPLL_HO_WINDOW_HO_WINDOW_S * sec) = true → ∃ u, exec .holdoverWindowExpiry s = .next u ∧ u.dp = dpFreeRun ∧
      u.timer .holdover = none ∧ u.get F.DPLL_HO_ELAPSED_SECONDS = 0) ∧
    (s.dp ≠ dpHoldover ∨ s.freqNext < 14 ∨ s.evalDue evSelect ms = true ∨ s.get F.DPLL_HO_WINDOW_HO_WINDOW_S = 0xFFFFFFFF ∨
      s.ran .holdover (s.get F.DPLL_HO_WINDOW_HO_WINDOW_S * sec) = false → exec .holdoverWindowExpiry s = .next s) ∧
    (s.timeSel < 14 → s.on F.DPLL_STATUS_STEP_PENDING = false → max 1 (s.get F.DPLL_STEP_STEP_NS) * ns ≤ s.timeError.natAbs →
      ∃ u, exec .stepThreshold s = .next u ∧
      (s.get F.DPLL_CTRL_STEP_POLICY = 0 → u.on F.DPLL_STATUS_STEP_PENDING = true ∧ u.nt = s.nt ∧ u.dpll = s.dpll) ∧
      (s.get F.DPLL_CTRL_STEP_POLICY = 2 → u.on F.DPLL_STATUS_STEP_PENDING = true ∧ u.nt = s.nt ∧ u.dpll.asking = true) ∧
      (s.get F.DPLL_CTRL_STEP_POLICY = 1 → (0 < s.timeError → (u.nt : Int) = ((s.nt : Int) + s.timeError) % (ntSpan : Int)) ∧
        (s.timeError ≤ 0 → u.nt = s.nt))) ∧
    (14 ≤ s.timeSel ∨ s.timeError.natAbs < max 1 (s.get F.DPLL_STEP_STEP_NS) * ns → exec .stepThreshold s = .next s.showError) ∧
    (s.dpll.learnMs < 3600000 → exec .learningHour s = .next s) ∧
    (3600000 ≤ s.dpll.learnMs → ∃ u, exec .learningHour s = .next u ∧ u.get F.DPLL_LEARN_HOURS = min (s.get F.DPLL_LEARN_HOURS + 1) 65535 ∧
      u.dpll.learnMs = s.dpll.learnMs - 3600000 ∧ SameBut [R.DPLL_LEARN, R.DPLL_STATUS] { s with dpll := u.dpll } u) ∧
    (Ready specSteer d s →
      ((toInt 48 (d.le 0 6)).natAbs ≤ 1000000000000 → exec (.dpllSteer d) s = .next ((cmdOf 0x52 d s).ended rOk (ofInt 64 (toInt 48 (d.le 0 6))) 0
        ((s.fetched d).set48 R.DPLL_STEER_LO R.DPLL_STEER_HI (toInt 48 (d.le 0 6))))) ∧
      (1000000000000 < toInt 48 (d.le 0 6) → exec (.dpllSteer d) s = .next ((cmdOf 0x52 d s).ended rOk (ofInt 64 1000000000000) 0
        (((s.fetched d).set48 R.DPLL_STEER_LO R.DPLL_STEER_HI 1000000000000).raise .dpll 9 0xFFFF))) ∧
      (toInt 48 (d.le 0 6) < -1000000000000 → exec (.dpllSteer d) s = .next ((cmdOf 0x52 d s).ended rOk (ofInt 64 (-1000000000000)) 0
        (((s.fetched d).set48 R.DPLL_STEER_LO R.DPLL_STEER_HI (-1000000000000)).raise .dpll 9 0xFFFF)))) ∧
    (s.pduAt 2 p l = none ∨ isEsmc l (etherAt (s.sTpid p) l) = false → exec (.esmcPduReceive p l) s = .next (s.pduTaken p l)) ∧
    ((s.pduAt 2 p l).isSome = true → isEsmc l (etherAt (s.sTpid p) l) = true → s.groomUp = true → ∃ u v, exec (.esmcPduReceive p l) s = .next (State.updQl u) ∧
      v = (s.pduTaken p l).count 6 p 8 1 ∧
      (∀ q ∈ v.esmcSlots p, byteAt l (etherAt (s.sTpid p) l + 12) = 1 → byteAt l (etherAt (s.sTpid p) l + 16) ≠ 2 →
        (u.slotMem q).ql = some (qlOf (byteAt l (etherAt (s.sTpid p) l + 15) % 16) none)) ∧
      (∀ q, q ∉ v.esmcSlots p → u.slotMem q = v.slotMem q)) ∧
    (r < 8 → s.on (F.DPLL_REF_CFG_QL_ESMC r) = true → s.ran (.esmc r) s.esmcTimeout = true → ∃ u, exec (.esmcTimeout r) s = .next u ∧
      (u.slotMem r).ql = some 15 ∧ u.get (F.DPLL_REF_STATUS_QL_TIMEOUT r) = 1 ∧ u.timer (.esmc r) = none) ∧
    (8 ≤ r ∨ s.on (F.DPLL_REF_CFG_QL_ESMC r) = false ∨ s.ran (.esmc r) s.esmcTimeout = false → exec (.esmcTimeout r) s = .next s) ∧
    (s.coreReady false = false ∨ s.slotDue evEsmc sec = false → exec .esmcInfoSend s = .next s) ∧
    (s.coreReady false = false ∨ told → exec .esmcEventSend s = .next s) ∧
    (p < 272 → s.leadOf p = p → s.on ⟨R.DPLL_ESMC_EN (p / 32), p % 32, 1⟩ = true → s.on (F.LANE_CFG_CLK_SYNC p) = true → s.groomUp = true →
      274 ∉ s.innerHold → ∀ b, ∃ f, (s.esmcSend p b).frame s.nextId = some f ∧ f.port = 274 ∧ f.dest = .port p ∧ f.stage = .head ∧
      beAt f.data 12 2 = 0x8809 ∧ byteAt f.data 14 = 0x0A ∧ byteAt f.data 20 = (if b then 0x18 else 0x10) ∧
      byteAt f.data 27 = (ssmOf (if s.freqSel < 8 ∧ s.leadOf (s.get (F.DPLL_REF_CFG_LANE s.freqSel)) = p then 15 else s.get F.DPLL_STATUS_QL_OUT)).1) ∧
    (p < 272 → s.coreReady false = true → (∀ q < 272, q ≠ p → s.on ⟨R.DPLL_ESMC_EN (q / 32), q % 32, 1⟩ = false) →
      (s.slotDue evEsmc sec = true → exec .esmcInfoSend s = .next ((s.slotMade evEsmc sec).esmcSend p false)) ∧
      (¬ told → ∃ u : State, { u with evals := s.evals } = s ∧ u.evals.getD evQl 0 = s.get F.DPLL_STATUS_QL_OUT ∧
        exec .esmcEventSend s = .next (u.esmcSend p true)))

/-- 12 R453 to R460, R478: synthesisers. -/
def Obligations.SynthesisersRelockUnderGuard : Prop :=
  ∀ (s : State) (d : Submission) (n at0 : Nat) (unlock pass r b : Bool), n < 4 →
    let t := s.fetched d
    let c := cmdOf 0x57 d s
    let i := d.p0.toNat
    (s.heldDomain 2 = true ∨ (unlock = true ∧ s.on (synBit 0 n) = false) → exec (.synRelockStart n unlock) s = .next s) ∧
    (s.heldDomain 2 = false → (unlock = true → s.on (synBit 0 n) = true) → ∃ u : State,
      let v0 := if n < 2 ∧ s.on F.SYN_STATUS_SAFE_GEN_OK = true then State.setSafe n true u else u
      let v := if n = 1 then v0.laneSources else v0
      exec (.synRelockStart n unlock) s = .next (if unlock then v.raise .syn n n else v) ∧
      SameBut [R.SYN_STATUS, R.SYN_RELOCKS] { s with synStage := u.synStage, timers := u.timers } u ∧
      u.on (synBit 0 n) = false ∧ u.on (synBit 4 n) = true ∧ u.synAt n = .locking false ∧ u.timer (.relock n) = some 0 ∧
      u.get (F.SYN_RELOCKS_COUNT n) = (if s.on (synBit 4 n) then s.get (F.SYN_RELOCKS_COUNT n) else min (s.get (F.SYN_RELOCKS_COUNT n) + 1) 255)) ∧
    ((State.setSafe 0 b s).get F.SYN_STATUS_SAFE0 = b2n b ∧ (State.setSafe 0 b s).get F.LOOM_STATUS_SAFE_CLOCK = b2n b ∧
      (State.setSafe 1 b s).get F.SYN_STATUS_SAFE1 = b2n b ∧ (State.setSafe 1 b s).get F.MEAS_STATUS_STCLK_SAFE = b2n b) ∧
    (s.heldDomain 1 = true ∨ s.elemHeld.contains (.syn, n) = true → exec (.synLockAcquired n) s = .next s) ∧
    (s.heldDomain 1 = false → s.elemHeld.contains (.syn, n) = false →
      (s.synAt n = .locking r → ∃ u, exec (.synLockAcquired n) s = .next u ∧ SameBut [R.SYN_STATUS] { s with synStage := u.synStage } u ∧
        u.on (synBit 0 n) = true ∧ u.synAt n = .checking r) ∧
      (s.synAt n = .idle → ∃ u, exec (.synLockAcquired n) s = .next u ∧ SameBut [R.SYN_STATUS] s u ∧ u.on (synBit 0 n) = true) ∧
      (s.synAt n = .checking r ∨ s.synAt n = .passed at0 → exec (.synLockAcquired n) s = .next s)) ∧
    (s.synAt n = .checking r →
      (∃ u, exec (.synFreqCheck n true) s = .next u ∧ SameBut [] { s with synStage := u.synStage, timers := u.timers } u ∧
        u.synAt n = .passed s.nt ∧ u.timer (.relock n) = none) ∧
      (∃ u, exec (.synFreqCheck n false) s = .next u ∧ SameBut [R.SYN_STATUS] { s with synStage := u.synStage } u ∧
        u.on (synBit 0 n) = false ∧ u.synAt n = .locking r)) ∧
    (s.synAt n = .idle ∨ s.synAt n = .locking r ∨ s.synAt n = .passed at0 → exec (.synFreqCheck n pass) s = .next s) ∧
    (s.synAt n = .passed at0 →
      (s.nt % us ≠ 0 → s.nt / us = at0 / us → exec (.synRelockReturn n) s = .next s) ∧
      (s.nt % us = 0 ∨ s.nt / us ≠ at0 / us → ∃ u v : State,
        exec (.synRelockReturn n) s = .next (State.finish (isSynth n) rOk s.nt 1 0 (State.raise .syn (4 + n) n v)) ∧
        SameBut [R.SYN_STATUS] { s with synStage := u.synStage } u ∧ u.synAt n = .idle ∧ u.on (synBit 4 n) = false ∧
        v = (if n < 2 then State.setSafe n false u else u))) ∧
    (s.synAt n = .idle ∨ s.synAt n = .locking r ∨ s.synAt n = .checking r → exec (.synRelockReturn n) s = .next s) ∧
    (s.synAt n = .idle ∨ s.synAt n = .passed at0 → exec (.synRelockRetry n) s = .next s) ∧
    (s.synAt n = .locking r ∨ s.synAt n = .checking r →
      (s.ran (.relock n) (if r then ms else ms + 10 * us) = false → exec (.synRelockRetry n) s = .next s) ∧
      (s.ran (.relock n) (if r then ms else ms + 10 * us) = true → ∃ u : State, exec (.synRelockRetry n) s = .next (u.raise .syn 8 n) ∧
        SameBut [R.SYN_STATUS, R.SYN_RELOCKS] { s with synStage := u.synStage, timers := u.timers } u ∧ u.on (synBit 0 n) = false ∧
        u.synAt n = .locking true ∧ u.timer (.relock n) = some 0 ∧
        u.get (F.SYN_RELOCKS_COUNT n) = min (s.get (F.SYN_RELOCKS_COUNT n) + 1) 255)) ∧
    (Ready (specClkout 3) d s →
      (t.synMult i = d.le 8 4 → exec (.clkoutSetSynth d) s = .next (c.ended rOk (t.get (synBit 0 i)) 0 t)) ∧
      (t.synMult i ≠ d.le 8 4 → ∃ u : State, exec (.clkoutSetSynth d) s = .next (c.goesOn u) ∧
        SameBut [R.SYN_CFG, R.SYN_STATUS, R.SYN_RELOCKS] { t with synStage := u.synStage, timers := u.timers, clkouts := u.clkouts } u ∧
        u.synMult i = d.le 8 4 ∧ u.synMult (5 - i) = t.synMult (5 - i) ∧ u.on (synBit 4 i) = true ∧ u.synAt i = .locking false))

/-- 12 R461 to R469, R478, R479: outputs. -/
def Obligations.OutputsFollowTheirSchedules : Prop :=
  ∀ (s : State) (d : Submission) (o x : Nat) (p0 : PulseOut) (k : ClkOut),
    let t := s.fetched d
    let c := cmdOf 0x57 d s
    let i := d.p0.toNat
    let b := (s.acceptAt true d + 1 + sec - 1) / sec * sec
    let a : Cmd := t.newCmd 0x58 d b
    let p := p0.now
    (Ready (specClkout 0) d s → ∃ u : State, exec (.clkoutSetClock d) s = .next (c.ended rOk 0 0 u) ∧
      SameBut (clkoutRegs 0 i) { t with clkouts := u.clkouts } u ∧
      (∀ j < 4, u.rd ((clkoutRegs 0 i).getD j 0) = BitVec.ofNat 32 (d.le (8 + 4 * j) 4)) ∧
      (u.on (F.CLKOUT_CFG_ENABLE i) = false → Tbl.find i u.clkouts = none) ∧
      (u.on (F.CLKOUT_CFG_ENABLE i) = true → t.clkouts.has i = false → Tbl.find i u.clkouts = some {
        anchor := t.elapsedAt c.boundary, div := d.le 12 4 + 2 ^ 32 * (d.le 16 4 % 2), delay := u.get (F.CLKOUT_DELAY_DELAY i),
        mult := t.synMult (clkoutSyn i) }) ∧
      ∀ j, j ≠ i → Tbl.find j u.clkouts = Tbl.find j t.clkouts) ∧
    (Ready (specClkout 1) d s → ∃ u : State, exec (.clkoutSetPulse d) s = .next (c.ended rOk 0 0 u) ∧
      SameBut (R.PULSE_STATUS i :: clkoutRegs 1 i) { t with pulses := u.pulses } u ∧
      (∀ j < 4, (2 ≤ i ∨ j ≠ 1 → u.rd ((clkoutRegs 1 i).getD j 0) = BitVec.ofNat 32 (d.le (8 + 4 * j) 4))) ∧
      (i < 2 → u.rd (R.PULSE_PERIOD i) = s.rd (R.PULSE_PERIOD i)) ∧
      (u.on (F.PULSE_CFG_ENABLE i) = false → Tbl.find i u.pulses = none ∧ u.rd (R.PULSE_STATUS i) = 0) ∧
      (u.on (F.PULSE_CFG_ENABLE i) = true → Tbl.find i t.pulses = some p0 → Tbl.find i u.pulses = some { p0 with
        newPeriod := u.pulsePeriod i * ns, newDelay := u.pulseDelay i, width := u.pulseWidth i * ns }) ∧
      (∀ j, j ≠ i → Tbl.find j u.pulses = Tbl.find j t.pulses) ∧
      (u.on (F.PULSE_CFG_ENABLE i) = true → t.pulses.has i = false → ∃ v, u = State.pulseAnchor i c.boundary v ∧ v.pulses = t.pulses)) ∧
    (∃ q, Tbl.find o (State.pulseAnchor o x s).pulses = some q ∧ q.period = s.pulsePeriod o * ns ∧ q.delay = s.pulseDelay o ∧
      q.width = s.pulseWidth o * ns ∧ q.newPeriod = q.period ∧ q.newDelay = q.delay ∧ q.offset = (s.nt : Int) - s.elapsed ∧
      q.next % q.period = 0 ∧ (x : Int) ≤ q.next + q.delay ∧ (q.next ≠ 0 → (q.next : Int) - q.period + q.delay < x)) ∧
    (Ready (specClkout 2) d s → ∃ u : State, exec (.clkoutSetTod d) s = .next (c.ended rOk 0 0 u) ∧ SameBut [R.TOD_CFG] t u ∧
      u.rd R.TOD_CFG = BitVec.ofNat 32 (d.le 8 4)) ∧
    (Ready specAlign d s → exec (.align d) s = .next (a.ended rOk 0 0
      (t.forEach ((List.range 12).filter (fun j => bit (d.P0 0 12) j)) (State.alignBit b)))) ∧
    (o < 8 → Tbl.find o s.clkouts = none → State.alignBit b o s = s) ∧
    (o < 8 → Tbl.find o s.clkouts = some k → ∃ u : State, State.alignBit b o s = u.raise .syn 9 o ∧ { u with clkouts := s.clkouts } = s ∧
      Tbl.find o u.clkouts = some { k with anchor := s.elapsedAt b }) ∧
    (Tbl.find o s.pulses = none → State.alignBit b (8 + o) s = s ∧ exec (.pulseEdge o) s = .next s) ∧
    (Tbl.find o s.pulses = some p0 →
      (p0.highEnd ≤ s.elapsedAt b → State.alignBit b (8 + o) s = (State.pulseAnchor o b s).raise .syn 9 (8 + o)) ∧
      (s.elapsedAt b < p0.highEnd → State.alignBit b (8 + o) s =
        (State.pulseAnchor o (b + (p0.highEnd - s.elapsedAt b) + 100 * ns) s).raise .syn 9 (8 + o)) ∧
      ((s.elapsed : Int) + p.offset < p.next + p.delay → exec (.pulseEdge o) s = .next s) ∧
      ((p.next : Int) + p.delay ≤ s.elapsed + p.offset →
        (s.on (F.PULSE_CFG_SQUELCH o) = true → s.degraded = true → ∃ u : State, exec (.pulseEdge o) s = .next (u.raise .syn 12 o) ∧
          SameBut [R.PULSE_STATUS o] { s with pulses := u.pulses } u ∧ u.get (F.PULSE_STATUS_SQUELCHED o) = 1 ∧
          u.get (F.PULSE_STATUS_SKIPPED o) = min (s.get (F.PULSE_STATUS_SKIPPED o) + 1) 65535 ∧
          Tbl.find o u.pulses = some { p with next := p.next + p.period, last := some p.next }) ∧
        (s.on (F.PULSE_CFG_SQUELCH o) = false ∨ s.degraded = false → ∃ u : State, exec (.pulseEdge o) s = .next u ∧
          SameBut [R.PULSE_STATUS o, R.PULSE_OFFSET_LO o, R.PULSE_OFFSET_HI o] { s with pulses := u.pulses } u ∧
          u.get2 (R.PULSE_OFFSET_LO o) (R.PULSE_OFFSET_HI o) = ofInt 64 ((s.nt : Int) - s.elapsed - p.offset) ∧
          u.on (F.PULSE_STATUS_ALIGNED o) = decide (((s.nt : Int) - s.elapsed - p.offset).natAbs ≤ 80) ∧
          u.get (F.PULSE_STATUS_SQUELCHED o) = 0 ∧ Tbl.find o u.pulses = some { p with
            next := p.next + p.period, last := some p.next, highEnd := ((p.next : Int) + p.delay - p.offset).toNat + p.width }))) ∧
    (p0.next % p0.newPeriod = 0 → p.period = p0.newPeriod ∧ p.delay = p0.newDelay) ∧ (p0.next % p0.newPeriod ≠ 0 → p = p0)

/-- 12 R470 to R482: treadles and time-of-day serial. -/
def Obligations.TreadlesAndTimeOfDaySerial : Prop :=
  ∀ (s : State) (d : Submission) (tr at0 e i : Nat) (l : List Byte) (stop : Bool) (g p : Trd) (po : PulseOut),
    let t := s.fetched d
    let T := d.P0 0 3
    let b := t.treadleStart T (s.acceptAt true d + 1)
    let c : Cmd := t.newCmd 0x59 d b
    let new := newTreadle ((b : Int) + ctDiff (d.le 8 8) (ct b)) (d.le 16 4) (d.le 24 4) b
    let o := s.get F.TOD_CFG_TX_PPS
    let r := 10 + s.get F.TOD_CFG_RX_PPS
    let head : Prop := stop = true ∧ byteAt l 0 = 0x5A ∧ byteAt l 1 = 0xC3
    let body : Prop := byteAt l 2 = 1 ∧ byteAt l 3 = 24 ∧ l.length = 24
    let good : Prop := head ∧ body ∧ ((l.drop 2).take 20).foldl crc16Byte 0xFFFF = beAt l 22 2
    (Ready specTreadleProgram d s →
      (new = none → exec (.treadleSetProgram d) s = .next (c.ended rState 0 0 t)) ∧
      (new = some p → ∃ u : State, exec (.treadleSetProgram d) s = .next (c.ended rOk (ct (p.edge p.k).toNat) 0 u) ∧
        SameBut [R.TRD_CFG T, R.TRD_START_LO T, R.TRD_START_HI T, R.TRD_PERIOD T, R.TRD_WIDTH T, R.TRD_COUNT T, R.TRD_DONE T, R.TRD_MISSED T]
          { t with treadles := u.treadles } u ∧
        u.rd (R.TRD_CFG T) = BitVec.ofNat 32 (d.le 28 4) ∧ u.get2 (R.TRD_START_LO T) (R.TRD_START_HI T) = d.le 8 8 ∧
        u.rd (R.TRD_PERIOD T) = BitVec.ofNat 32 (d.le 16 4) ∧ u.rd (R.TRD_WIDTH T) = BitVec.ofNat 32 (d.le 20 4) ∧
        u.rd (R.TRD_COUNT T) = BitVec.ofNat 32 (d.le 24 4) ∧ u.rd (R.TRD_DONE T) = 0 ∧ u.rd (R.TRD_MISSED T) = 0 ∧
        Tbl.find T u.treadles = some p ∧ (b : Int) ≤ p.edge p.k ∧ (∀ j < p.k, p.edge j < b) ∧
        ∀ j, j ≠ T → Tbl.find j u.treadles = Tbl.find j t.treadles)) ∧
    (Ready specTreadleStop d s → ∃ u : State, exec (.treadleSetStop d) s = .next (c.ended rOk 0 0 u) ∧ SameBut [R.TRD_CFG T] { t with treadles := u.treadles } u ∧
      Tbl.find T u.treadles = none ∧ u.on (F.TRD_CFG_ENABLE T) = false ∧ ∀ j, j ≠ T → Tbl.find j u.treadles = Tbl.find j t.treadles) ∧
    (Tbl.find tr s.treadles = none → exec (.treadleEdge tr) s = .next s) ∧
    (tr < 8 → Tbl.find tr s.treadles = some g →
      ((s.nt : Int) < g.edge g.k → exec (.treadleEdge tr) s = .next s) ∧
      (g.edge g.k ≤ (s.nt : Int) → ∃ u : State, exec (.treadleEdge tr) s = .next u ∧
        (s.on (F.TRD_CFG_GUARD tr) = true → s.degraded = true → ∃ w : State, SameBut [R.TRD_MISSED tr] s w ∧
          w.get (F.TRD_MISSED_MISSED tr) = min (s.get (F.TRD_MISSED_MISSED tr) + 1) (2 ^ 32 - 1) ∧ u = State.treadleAt tr (g.k + 1) g (w.raise .syn 10 tr)) ∧
        (s.on (F.TRD_CFG_GUARD tr) = false ∨ s.degraded = false → SameBut [R.TRD_DONE tr] { s with treadles := u.treadles } u ∧
          u.get (F.TRD_DONE_DONE tr) = min (s.get (F.TRD_DONE_DONE tr) + 1) (2 ^ 32 - 1)) ∧
        (g.period ≠ 0 → (∀ n, g.stop = some n → g.k + 1 < n) → Tbl.find tr u.treadles = some { g with k := g.k + 1 }) ∧
        (g.period = 0 ∨ (∃ n, g.stop = some n ∧ n ≤ g.k + 1) → Tbl.find tr u.treadles = none))) ∧
    (s.on F.TOD_CFG_TX_EN = false ∨ Tbl.find o s.pulses = none → exec .todMessageSend s = .next s) ∧
    (s.on F.TOD_CFG_TX_EN = true → Tbl.find o s.pulses = some po → po.last = some i →
      ((s.elapsed : Int) + po.offset < i + po.delay + 1000 * 1000 * ns → exec .todMessageSend s = .next s) ∧
      ((i : Int) + po.delay + 1000 * 1000 * ns ≤ s.elapsed + po.offset → ∃ u : State, exec .todMessageSend s = .next u ∧ u.regs = s.regs ∧
        u.todSeq = s.todSeq + 1 ∧ u.todSent.length = 24 ∧ u.todSent.take 4 = [0x5A#8, 0xC3#8, 1#8, 24#8] ∧ beAt u.todSent 4 6 = i / sec % 2 ^ 48 ∧
        beAt u.todSent 10 2 = s.get F.TIME_UTC_UTC_OFFSET ∧ byteAt u.todSent 13 = s.clockQual.1 % 256 ∧ beAt u.todSent 20 2 = s.todSeq % 65536 ∧
        Tbl.find o u.pulses = some { po with last := none })) ∧
    (s.on F.TOD_CFG_RX_EN = false → exec (.todinMessage at0 l stop) s = .next s) ∧
    (s.on F.TOD_CFG_RX_EN = true →
      (¬ head → exec (.todinMessage at0 l stop) s = .next ((s.bump F.TOD_RX_ERR_FRAMING 1).raise .syn 11 0)) ∧
      (head → ¬ body → exec (.todinMessage at0 l stop) s = .next s) ∧
      (head → body → ((l.drop 2).take 20).foldl crc16Byte 0xFFFF ≠ beAt l 22 2 →
        exec (.todinMessage at0 l stop) s = .next ((s.bump F.TOD_RX_ERR_CRC 1).raise .syn 11 0)) ∧
      (good → (∀ q, Tbl.find r s.ppsEdge = some q ∨ Tbl.find (r + 10) s.ppsEdge = some q → at0 ≤ q ∨ q + sec < at0) →
        exec (.todinMessage at0 l stop) s = .next ((s.bump F.TOD_RX_ERR_ORPHAN 1).raise .syn 11 0)) ∧
      (good → Tbl.find r s.ppsEdge = some e → e < at0 → at0 ≤ e + sec → ∃ u : State, exec (.todinMessage at0 l stop) s = .next u ∧
        SameBut [R.TOD_STATUS, R.TOD_RX_SEC_LO, R.TOD_RX_SEC_HI, R.TIME_UTC] { s with timers := u.timers, slots := u.slots } u ∧
        u.on F.TOD_STATUS_RX_VALID = true ∧ u.get F.TOD_STATUS_RX_SEQ = beAt l 20 2 ∧ u.get F.TOD_RX_SEC_LO_SEC_LOW = beAt l 6 4 ∧
        u.get F.TOD_RX_SEC_HI_SEC_HIGH = beAt l 4 2 ∧ u.get F.TOD_RX_SEC_HI_UTC_OFFSET = beAt l 10 2 ∧ u.timer .todRx = some 0 ∧
        (u.slotMem r).mark = some (beAt l 4 6))) ∧
    (s.ran .todRx (2 * sec) = false → exec .todinRxValidExpiry s = .next s) ∧
    (s.ran .todRx (2 * sec) = true → ∃ u, exec .todinRxValidExpiry s = .next u ∧ SameBut [R.TOD_STATUS] { s with timers := u.timers } u ∧
      u.on F.TOD_STATUS_RX_VALID = false ∧ u.timer .todRx = none)

/-- 13 R483 to R493, R519, R520: network time. -/
def Obligations.NetworkTimeIsSetAdjustedAndGraded : Prop :=
  ∀ (s : State) (d : Submission) (p : Nat) (e : Int),
    let t := s.fetched d
    let c := cmdOf 0x53 d s
    let off := adjOffset d
    let v : Int := adjValue d
    let q := s.qualityNow
    let m : Int := ((s.nt / sec : Nat) : Int) - s.getI F.TIME_UTC_UTC_OFFSET
    let cq := fun (u : State) => (u.get F.PTP_CLOCK_QUAL_CLOCK_CLASS, u.get F.PTP_CLOCK_QUAL_CLOCK_ACCURACY, u.get F.PTP_CLOCK_QUAL_VARIANCE)
    let refused := s.timeSel < 14 ∧ (s.on F.DPLL_STATUS_STEP_PENDING = false ∨ s.get F.DPLL_CTRL_STEP_POLICY ≠ 2)
    (Ready (specAdjust 0) d s → refused → exec (.timeAdjustSlew d) s = .next (c.ended rState 0 0 t)) ∧
    (Ready (specAdjust 1) d s → refused → exec (.timeAdjustStep d) s = .next (c.ended rState 0 0 t)) ∧
    (Ready (specAdjust 2) d s → refused ∨ (s.timeSet = true ∧ s.timeSel < 14) → exec (.timeAdjustSet d) s = .next (c.ended rState 0 0 t)) ∧
    (Ready (specAdjust 0) d s → ¬ refused → ∃ u : State, exec (.timeAdjustSlew d) s = .next (State.completeCmd c rOk (ofInt 64 c.boundary) 0 0 u) ∧
      SameBut [R.DPLL_PHASE_ERR, R.DPLL_STATUS] { t with dpll := u.dpll } u ∧ u.dpll.slew = s.dpll.slew + off ∧ u.dpll.asking = false) ∧
    (Ready (specAdjust 1) d s → ¬ refused → exec (.timeAdjustStep d) s =
      .next (State.completeCmd c rOk (ofInt 64 ((if s.on F.SYN_STATUS_SAFE0 then (s.nt : Int) else c.boundary) + off)) 0 0 ((t.moveTime off).raise .time 1 0xFFFF).adjusted)) ∧
    (Ready (specAdjust 2) d s → ¬ refused → ¬ (s.timeSet = true ∧ s.timeSel < 14) → exec (.timeAdjustSet d) s =
      .next (State.completeCmd c rOk (ofInt 64 (if s.on F.SYN_STATUS_SAFE0 then (s.nt : Int) + (v - c.boundary) else v)) 0 0
        (if s.timeSet then (t.moveTime (v - c.boundary)).raise .time 1 0xFFFF else t.firstSet ((s.nt : Int) + (v - c.boundary))).adjusted)) ∧
    ((s.moveTime e).nt = (((s.nt : Int) + e) % (ntSpan : Int)).toNat ∧ (s.moveTime e).timeSet = s.timeSet ∧
      ∀ x ∈ (s.moveTime e).accepted, x.begun = false → x.sub.at? = true → ∃ x0 ∈ s.accepted, x.sub = x0.sub ∧ x.op = x0.op ∧
        (¬ (0 < e ∧ s.nt < x0.boundary ∧ x0.boundary < (s.moveTime e).nt) → x = x0) ∧
        (0 < e → s.nt < x0.boundary → x0.boundary < (s.moveTime e).nt → x.late = true ∧ (s.moveTime e).nt ≤ x.boundary)) ∧
    (∃ u : State, s.firstSet e = u.raise .time 2 0xFFFF ∧ u.timeSet = true ∧ u.nt = (e % (ntSpan : Int)).toNat) ∧
    (s.timeSet = true ∨ s.timeSel ∉ [10, 11, 12, 13] ∨ (s.timeSel < 12 ∧ s.todLabels s.timeSel = false) ∨ (s.slotMem s.timeSel).phase = none ∨
        (s.slotMem s.timeSel).edge = none ∨ (s.slotMem s.timeSel).edge = some s.elapsed → exec .timeFirstSet s = .next s) ∧
    (s.timeSet = false → s.timeSel = 12 ∨ s.timeSel = 13 ∨ ((s.timeSel = 10 ∨ s.timeSel = 11) ∧ s.todLabels s.timeSel = true) →
      (s.slotMem s.timeSel).phase = some e → (∃ x, (s.slotMem s.timeSel).edge = some x ∧ x < s.elapsed) →
      exec .timeFirstSet s = .next (s.firstSet ((s.nt : Int) - e))) ∧
    ((s.timeSet = false → q = 7) ∧
      (s.timeSet = true → (s.on F.MEAS_STATUS_MASTER_SPARE = true ∨ s.on F.SYN_STATUS_SAFE1 = true → q = 6) ∧
        (s.on F.MEAS_STATUS_MASTER_SPARE = false → s.on F.SYN_STATUS_SAFE1 = false →
          (s.dp = dpFreeRun → q = 5) ∧ (s.dp = dpAcquiring → q = 4) ∧
          (s.dp = dpHoldover → (q = 3 ↔ s.get F.TIME_CTRL_HO_SPEC_S < s.get F.DPLL_HO_ELAPSED_SECONDS ∨ s.dpll.hoNoHist = true) ∧ (q = 3 ∨ q = 2)) ∧
          (s.dp = dpLocked → q = if s.traceable then 0 else 1) ∧ (s.dp = dpSteered → q = 1)))) ∧
    (s.evalDue evQuality ms = false → exec .qualityEvaluate s = .next s) ∧
    (s.evalDue evQuality ms = true → ∃ u : State, SameBut [R.TIME_STATUS, R.PTP_CLOCK_QUAL] (s.evalMade evQuality) u ∧ u.quality = q ∧
      (q = s.quality → exec .qualityEvaluate s = .next u) ∧ (q ≠ s.quality → exec .qualityEvaluate s = .next (u.raise .time 0 0xFFFF)) ∧
      (4 ≤ q ∨ s.role = 0 → cq u = (248, 0xFE, 0xFFFF)) ∧ (s.role = 2 → q = 0 → cq u = (6, 0x21, 0x4E5D)) ∧
      (s.role = 2 → q = 2 → cq u = (7, 0xFE, 0xFFFF)) ∧ (s.role = 2 → q = 1 ∨ q = 3 → cq u = (140, 0xFE, 0xFFFF)) ∧
      (s.role = 1 → q = 2 → cq u = (135, 0xFE, 0xFFFF)) ∧ (s.role = 1 → q = 3 → cq u = (165, 0xFE, 0xFFFF)) ∧
      (s.role = 1 → s.timeSel ≠ 13 → q = 0 → cq u = (6, 0x21, 0x4E5D)) ∧ (s.role = 1 → s.timeSel ≠ 13 → q = 1 → cq u = (140, 0xFE, 0xFFFF))) ∧
    (s.on F.TIME_UTC_LEAP61 = true → m % 86400 = 1 → s.getI F.TIME_UTC_UTC_OFFSET < 32767 → ∃ u : State, exec .leapApply s = .next (u.raise .time 4 0xFFFF) ∧
      SameBut [R.TIME_UTC] s u ∧ u.getI F.TIME_UTC_UTC_OFFSET = s.getI F.TIME_UTC_UTC_OFFSET + 1 ∧ u.on F.TIME_UTC_LEAP61 = false) ∧
    (s.on F.TIME_UTC_LEAP59 = true → m % 86400 = 86399 → -32768 < s.getI F.TIME_UTC_UTC_OFFSET → ∃ u : State, exec .leapApply s = .next (u.raise .time 4 0xFFFF) ∧
      SameBut [R.TIME_UTC] s u ∧ u.getI F.TIME_UTC_UTC_OFFSET = s.getI F.TIME_UTC_UTC_OFFSET - 1 ∧ u.on F.TIME_UTC_LEAP59 = false) ∧
    ((s.on F.TIME_UTC_LEAP61 = false ∨ m % 86400 ≠ 1) → (s.on F.TIME_UTC_LEAP59 = false ∨ m % 86400 ≠ 86399) → exec .leapApply s = .next s) ∧
    (Ready specRole d s → ∃ u : State, exec (.timingRole d) s = .next ((cmdOf 0x54 d s).ended rOk 0 0 u) ∧ u.role = d.b 0 ∧
      u.dpMode = (if d.b 0 = 0 then mdFreeRun else mdAuto) ∧ (d.b 0 ≠ 1 → u.upstream = none) ∧ (d.b 0 = 0 → p < 272 → u.kplState p = kplOff) ∧
      (u.get (F.DPLL_REF_CFG_PRIORITY 10), u.get (F.DPLL_REF_CFG_PRIORITY 12), u.get (F.DPLL_REF_CFG_PRIORITY 13)) =
        (if d.b 0 = 0 then (0, 0, 0) else if d.b 0 = 1 then (3, 2, 1) else (2, 1, 0))) ∧
    (s.role ≠ roFollow ∨ s.groomUp = false → exec .bmcaEvaluate s = .next s) ∧
    (s.role = roFollow → s.groomUp = true → ∃ u, exec .bmcaEvaluate s = .next u ∧
      ((u.upstream = none ∧ ∀ a ∈ s.candidates, s.ownQual ≤ a.qual) ∨
        ∃ b ∈ s.candidates, u.upstream = some (b.kind, b.port) ∧ b.qual < s.ownQual ∧ ∀ a ∈ s.candidates, a.qual < s.ownQual → b.key ≤ a.key))

/-- 13 R495 to R509, R521: KPL. -/
def Obligations.KplLinksExchangeTime : Prop :=
  ∀ (s : State) (d : Submission) (p tm n dtm dn q t1 e : Nat) (o dl : Int) (l : List Byte) (bs : List (Nat × Nat × Nat)) (bad : Bool) (k : KplPeer) (pt : KplPort)
      (rest : List (Nat × Nat × Nat)), p < 272 →
    let t := s.fetched d
    let c := cmdOf 0x55 d s
    let P := d.P0 0 9
    let able := t.kplAble P && (t.lanesOf P).all (fun n => t.on (F.LANE_STATUS_AM_LOCK n))
    let h := s.kplPort p
    let D := kplData bs
    let x := exchange t1 (near44 t1 (D 1)) (near44 t1 (D 2)) (s.rxTime p tm n) (s.getI (F.KPL_ASYM_ASYM p))
    let v := (s.pduTaken p l).count 6 p 9 1
    (Ready specKpl d s →
      (d.le 8 4 % 2 = 1 → t.on (F.KPL_PORT_CFG_ENABLE P) = false → able = false → exec (.kplSet d) s = .next (c.ended rState 0 0 t)) ∧
      (d.le 8 4 % 2 = 0 ∨ t.on (F.KPL_PORT_CFG_ENABLE P) = true ∨ able = true → ∃ u : State, exec (.kplSet d) s = .next (c.ended rOk 0 0 u) ∧
        u.rd (R.KPL_PORT_CFG P) = BitVec.ofNat 32 (d.le 8 4) ∧ u.rd (R.KPL_ASYM P) = BitVec.ofNat 32 (d.le 12 4) ∧
        (d.le 8 4 % 2 = 0 → u.kplState P = kplOff) ∧ ∀ r < 272, r ≠ P → u.kplState r = t.kplState r)) ∧
    (s.on (F.KPL_PORT_CFG_ENABLE p) = false ∨ s.kplState p < kplWaitPeer ∨ s.slotDue (evLldp p) sec = false ∨ s.coreReady false = false →
      exec (.lldpSend p) s = .next s) ∧
    (s.on (F.KPL_PORT_CFG_ENABLE p) = true → kplWaitPeer ≤ s.kplState p → s.slotDue (evLldp p) sec = true → s.coreReady false = true → ∃ u f, exec (.lldpSend p) s = .next u ∧
      u.frame s.nextId = some f ∧ f.port = 274 ∧ f.dest = .port p ∧ f.stage = .head ∧ beAt f.data 0 6 = 0x0180C200000E ∧ beAt f.data 12 2 = 0x88CC ∧
      (peerOf f.data 12).map (fun y => (y.enabled, y.clockId, y.port, y.ttl)) = some (true, s.clockId, p, 4)) ∧
    (s.pduAt 3 p l = none → exec (.lldpduReceive p l) s = .next (s.pduTaken p l)) ∧
    ((s.pduAt 3 p l).isSome = true →
      (v.groomUp = false ∨ peerOf (l.take (l.length - 4)) (etherAt (s.sTpid p) l) = none → exec (.lldpduReceive p l) s = .next v) ∧
      (v.groomUp = true → peerOf (l.take (l.length - 4)) (etherAt (s.sTpid p) l) = some k → ∃ u, exec (.lldpduReceive p l) s = .next u ∧
        (u.kplPort p).peer = some k ∧ u.timer (.lldp p) = some 0 ∧ u.get2 (R.KPL_PEER_ID_LO p) (R.KPL_PEER_ID_HI p) = k.clockId ∧
        u.frames = v.frames)) ∧
    (h.peer = none → exec (.lldpTtlExpiry p) s = .next s) ∧
    (h.peer = some k →
      (s.groomUp = false ∨ s.ran (.lldp p) (k.ttl * sec) = false → exec (.lldpTtlExpiry p) s = .next s) ∧
      (s.groomUp = true → s.ran (.lldp p) (k.ttl * sec) = true → ∃ u : State, (u.kplPort p).peer = none ∧ u.timer (.lldp p) = none ∧
        (s.kplState p = kplRunning → exec (.lldpTtlExpiry p) s = .next (u.raise .time 5 p) ∧ u.kplState p = kplWaitPeer) ∧
        (s.kplState p ≠ kplRunning → exec (.lldpTtlExpiry p) s = .next u ∧ u.kplState p = s.kplState p))) ∧
    (s.kplState p ≠ kplRunning → exec (.kplSlot p tm n) s = .next s) ∧
    (s.kplState p = kplRunning → ∃ u, exec (.kplSlot p tm n) s = .next u ∧ (u.kplPort p).seq = (h.seq + 1) % 65536 ∧
      (u.kplPort p).wait = h.wait ++ [(h.seq, s.txTimeOf p tm n, s.elapsedAt (s.txTimeOf p tm n))] ∧
      (u.kplPort p).out.head? = some (1, 0, h.seq * 2 ^ 28 % 2 ^ 44) ∧
      ((u.kplPort p).out.drop 1).map (fun b => (b.1, b.2.1)) = (if h.seq % 16 = 0 then [(3, 0), (3, 1), (3, 2)] else []) ∧
      ∀ r, r ≠ p → u.kplPort r = s.kplPort r) ∧
    ((s.kplState p ≠ kplWaitPeer ∧ s.kplState p ≠ kplRunning) ∨ kplReserved bs = true → exec (.kplMarkReceive p tm n bs bad dtm dn) s = .next s ∧
      exec (.kplReplyReceive p tm n bs bad) s = .next s ∧ exec (.kplTimeReceive p bs bad) s = .next s) ∧
    (s.kplState p = kplWaitPeer ∨ s.kplState p = kplRunning → kplReserved bs = false →
      (bad = true ∨ bs.map (fun b => (b.1, b.2.1)) ≠ [(1, 0)] → exec (.kplMarkReceive p tm n bs bad dtm dn) s = .next ((s.count 6 p 2 1).raise .time 8 p)) ∧
      (bad = true ∨ bs.map (fun b => (b.1, b.2.1)) ≠ [(2, 0), (2, 1), (2, 2)] →
        exec (.kplReplyReceive p tm n bs bad) s = .next ((s.count 6 p 2 1).raise .time 8 p)) ∧
      (bad = true ∨ bs.map (fun b => (b.1, b.2.1)) ≠ [(3, 0), (3, 1), (3, 2)] →
        exec (.kplTimeReceive p bs bad) s = .next ((s.count 6 p 2 1).raise .time 8 p)) ∧
      (bs.map (fun b => (b.1, b.2.1)) = [(1, 0)] → D 0 % 2 ^ 28 = 0 → exec (.kplMarkReceive p tm n bs false dtm dn) s = .next (s.modKpl p (fun y => { y with
        out := [(2, 0, (D 0 / 2 ^ 28 * 2 ^ 28 + s.kplStatusBits p) % 2 ^ 44), (2, 1, ct (s.rxTime p tm n) % 2 ^ 44), (2, 2, ct (s.txTimeOf p dtm dn) % 2 ^ 44)] }))) ∧
      (bs.map (fun b => (b.1, b.2.1)) = [(2, 0), (2, 1), (2, 2)] → D 0 % 2 ^ 23 = 0 →
        (h.wait.find? (fun w => w.1 == D 0 / 2 ^ 28) = none → exec (.kplReplyReceive p tm n bs false) s = .next s) ∧
        (h.wait.find? (fun w => w.1 == D 0 / 2 ^ 28) = some (q, t1, e) →
          (h.lastOff = none → h.time = none → ∃ u, exec (.kplReplyReceive p tm n bs false) s = .next u ∧
            u.kplPort p = { h with wait := h.wait.filter (fun w => w.1 != q), missRow := 0 }) ∧
          (h.lastOff = some o → o.natAbs ≤ 100 * ms → ∃ u, exec (.kplReplyReceive p tm n bs false) s = .next u ∧
            u.kplPort p = { h with wait := h.wait.filter (fun w => w.1 != q), missRow := 0, lastOff := some x.2,
                                   servo := h.servo.take (s.get F.TIME_CTRL_DELAY_GATE) x.1 x.2 } ∧
            u.on (F.KPL_STATUS_PEER_FOLLOWING p) = bit (D 0) 24 ∧ u.on (F.KPL_STATUS_PEER_CAL p) = bit (D 0) 23))) ∧
      (bs.map (fun b => (b.1, b.2.1)) = [(3, 0), (3, 1), (3, 2)] → D 0 % 2 ^ 8 = 0 → D 2 % 2 ^ 20 = 0 → ∃ u, exec (.kplTimeReceive p bs false) s = .next u ∧
        SameBut [R.TIME_UTC] { s with kpl := u.kpl } u ∧
        (u.kplPort p).time = some { dep := bits (D 0) 8 20 * 2 ^ 44 + D 1, utc := D 2 / 2 ^ 28, flags := bits (D 2) 20 8 } ∧
        (s.upstream ≠ some (1, p) ∨ s.on F.TIME_UTC_MANUAL = true → u.regs = s.regs) ∧
        (s.upstream = some (1, p) → s.on F.TIME_UTC_MANUAL = false → u.get F.TIME_UTC_UTC_OFFSET = D 2 / 2 ^ 28 ∧
          u.on F.TIME_UTC_LEAP61 = bit (D 2) 27 ∧ u.on F.TIME_UTC_LEAP59 = bit (D 2) 26 ∧ u.on F.TIME_UTC_UTC_VALID = bit (D 2) 25))) ∧
    ((near44 t1 n - n) % 2 ^ 44 = 0 ∧ (near44 t1 n - t1).natAbs ≤ 2 ^ 43) ∧
    (h.wait = [] ∨ s.kplState p ≠ kplRunning → exec (.kplReplyTimeout p) s = .next s) ∧
    (s.kplState p = kplRunning → h.wait = (q, t1, e) :: rest →
      (s.elapsed < e + 250 * us → exec (.kplReplyTimeout p) s = .next s) ∧
      (e + 250 * us ≤ s.elapsed → ∃ u : State, u.get (F.KPL_STATUS_MISSED p) = min (s.get (F.KPL_STATUS_MISSED p) + 1) (2 ^ (F.KPL_STATUS_MISSED p).w - 1) ∧
        u.kplPort p = { h with wait := h.wait.filter (fun w => w.1 != q), missRow := h.missRow + 1 } ∧
        (h.missRow < 63 ∨ s.groomUp = false → exec (.kplReplyTimeout p) s = .next u) ∧
        (63 ≤ h.missRow → s.groomUp = true → exec (.kplReplyTimeout p) s = .next (u.kplDown p)))) ∧
    (s.groomUp = false ∨ s.evalDue evPublish ms = false → exec .kplServoPublish s = .next s) ∧
    (s.groomUp = true → s.evalDue evPublish ms = true → (∀ y ∈ s.kpl, y.1 < 272) → Tbl.find p s.kpl = some pt → meanI pt.servo.offs = some o → meanI pt.servo.dels = some dl →
      ∃ u, exec .kplServoPublish s = .next u ∧ u.get (F.KPL_OFFSET_OFFSET p) = satInt 32 o ∧ u.get (F.KPL_DELAY_DELAY p) = min dl.toNat (2 ^ 32 - 1) ∧
      (u.kplPort p).servo.offs = [] ∧
      (s.upstream = some (1, p) → u.dpll.estimate = some o))

/-- 13 R510 to R515, R522: PTP over Ethernet, with the message layouts of IEEE 1588-2019 (log entry 51). -/
def Obligations.PtpMastersSendAndSlavesMeasure : Prop :=
  ∀ (s v : State) (d : Submission) (p t q n : Nat) (l m : List Byte) (e : BobbinEntry) (t1 t2 cc : Int), p < 272 →
    let w := s.fetched d
    let c := cmdOf 0x56 d s
    let P := d.P0 0 9
    let h := s.ptpPort p
    let x := v.ptpPort p
    let eth := s.get (F.PTP_PORT_CFG_TRANSPORT p) = 0
    let gate := v.get F.TIME_CTRL_DELAY_GATE
    let meas := fun (a b : Int) => exchange t1 t2 a b (v.getI (F.PTP_PORT_ASYM_ASYM p))
    let sv := fun (a b : Int) (y : Servo) => Servo.take gate (meas a b).1 (meas a b).2 y
    let f := foreignOf m
    let ann := interval (-3) 3 (s.get (F.PTP_PORT_INTERVALS_LOG_ANNOUNCE p))
    let syn := interval (-7) 1 (s.get (F.PTP_PORT_INTERVALS_LOG_SYNC p))
    let req := interval (-7) 5 (s.get (F.PTP_PORT_INTERVALS_LOG_DELAY_REQ p))
    (Ready specPtpPort d s →
      (d.le 8 4 % 2 = 1 → 40000 * 32 < w.otherRates P + rate32 (d.le 12 4) → exec (.ptpSetPort d) s = .next (c.ended rBusy 0 0 w)) ∧
      (d.le 8 4 % 2 = 0 ∨ w.otherRates P + rate32 (d.le 12 4) ≤ 40000 * 32 → ∃ u : State, exec (.ptpSetPort d) s = .next (c.ended rOk 0 0 u) ∧
        SameBut ([R.KPL_STATUS P, R.PTP_PORT_STATUS P] ++ ptpRegs P) { w with ptp := u.ptp, timers := u.timers } u ∧
        u.rd (R.PTP_PORT_CFG P) = BitVec.ofNat 32 (d.le 8 4) ∧ u.rd (R.PTP_PORT_INTERVALS P) = BitVec.ofNat 32 (d.le 12 4) ∧
        u.rd (R.PTP_PORT_ASYM P) = BitVec.ofNat 32 (d.le 16 4) ∧ (d.le 8 4 % 2 = 0 → u.ptpPort P = {} ∧ u.get (F.PTP_PORT_STATUS_STATE P) = 3))) ∧
    (Ready specPtpClock d s → ∃ u : State, exec (.ptpSetClock d) s = .next (c.ended rOk 0 0 u) ∧ u.rd R.PTP_CLOCK_CFG = BitVec.ofNat 32 (d.le 8 4) ∧
      u.rd R.PTP_CLOCK_ID_LO = BitVec.ofNat 32 (d.le 12 4) ∧ u.rd R.PTP_CLOCK_ID_HI = BitVec.ofNat 32 (d.le 16 4)) ∧
    (s.ptpIs p 6 = false ∨ s.coreReady false = false ∨ s.slotDue (evAnnounce p) ann = false → exec (.ptpAnnounceSend p) s = .next s) ∧
    (s.ptpIs p 6 = true → s.coreReady false = true → s.slotDue (evAnnounce p) ann = true → ∃ u g, exec (.ptpAnnounceSend p) s = .next u ∧ u.frame s.nextId = some g ∧ g.port = 274 ∧
      g.dest = .port p ∧ g.tsId = none ∧ u.ptpPort p = { h with annSeq := (h.annSeq + 1) % 65536 } ∧
      (eth → beAt g.data 12 2 = 0x88F7 ∧ byteAt g.data 14 = 11 ∧ beAt g.data 44 2 = h.annSeq % 65536 ∧ byteAt g.data 62 = s.clockQual.1 % 256)) ∧
    (s.ptpIs p 6 = false ∨ s.coreReady (s.on (F.PTP_PORT_CFG_TWO_STEP p)) = false ∨ s.slotDue (evSync p) syn = false →
      exec (.ptpSyncSend p) s = .next s) ∧
    (s.ptpIs p 6 = true → s.coreReady (s.on (F.PTP_PORT_CFG_TWO_STEP p)) = true → s.slotDue (evSync p) syn = true → ∃ u g, exec (.ptpSyncSend p) s = .next u ∧ u.frame s.nextId = some g ∧
      g.port = 274 ∧ g.dest = .port p ∧ g.tsId = (if s.on (F.PTP_PORT_CFG_TWO_STEP p) then some (coreTs p 0 h.syncSeq) else none) ∧
      u.ptpPort p = { h with syncSeq := (h.syncSeq + 1) % 65536 } ∧
      (eth → byteAt g.data 14 = 0 ∧ byteAt g.data 20 = (if s.on (F.PTP_PORT_CFG_TWO_STEP p) then 2 else 0) ∧ beAt g.data 44 2 = h.syncSeq % 65536)) ∧
    (s.coreEntry p 0 = none ∨ s.coreReady false = false → exec (.ptpFollowUpSend p) s = .next s) ∧
    (s.coreEntry p 0 = some e → s.coreReady false = true →
      (e.notSent.isSome = true ∨ s.ptpIs p 6 = false → exec (.ptpFollowUpSend p) s = .next (s.coreDrain e)) ∧
      (e.notSent = none → s.ptpIs p 6 = true → ∃ u g, exec (.ptpFollowUpSend p) s = .next u ∧ u.frame s.nextId = some g ∧ g.dest = .port p ∧
        u.bobbins = (s.coreDrain e).bobbins ∧
        (eth → byteAt g.data 14 = 8 ∧ beAt g.data 48 6 = (s.ofCt e.time).toNat / sec % 2 ^ 48 ∧ beAt g.data 54 4 = (s.ofCt e.time).toNat % sec / ns))) ∧
    (∀ y ∈ [(1, Instr.ptpDelayReqReceive p l), (9, .ptpDelayRespReceive p l), (0, .ptpSyncReceive p l), (8, .ptpFollowUpReceive p l), (11, .ptpAnnounceReceive p l)],
      (s.ptpTaken p l = (none, v) → exec y.2 s = .next v) ∧
      (s.ptpTaken p l = (some (t, m), v) → byteAt m 0 % 16 ≠ y.1 ∨ v.groomUp = false → exec y.2 s = .next v)) ∧
    (s.ptpTaken p l = (some (t, m), v) → v.groomUp = true →
      (byteAt m 0 % 16 = 1 →
        (v.ptpIs p 6 = false ∨ v.coreReady false = false → exec (.ptpDelayReqReceive p l) s = .next v) ∧
        (v.ptpIs p 6 = true → v.coreReady false = true → ∃ u g, exec (.ptpDelayReqReceive p l) s = .next u ∧ u.frame v.nextId = some g ∧ g.dest = .port p ∧
          (v.get (F.PTP_PORT_CFG_TRANSPORT p) = 0 → byteAt g.data 14 = 9 ∧ beAt g.data 44 2 = ptpSeq m ∧ (g.data.drop 58).take (ptpFrom m).length = ptpFrom m ∧
            beAt g.data 22 8 = satInt 64 (ptpCorr m - (t % ns : Nat) + v.getI (F.PTP_PORT_ASYM_ASYM p)) ∧ beAt g.data 48 6 = t / sec % 2 ^ 48))) ∧
      (byteAt m 0 % 16 = 9 →
        (x.req = none ∨ v.coreEntry p 1 = none ∨ x.req ≠ some (ptpSeq m) → exec (.ptpDelayRespReceive p l) s = .next v) ∧
        (x.req = some (ptpSeq m) → v.coreEntry p 1 = some e → (m.drop 44).take 10 = v.ptpId p → e.notSent = none → e.tsId / 1024 = ptpSeq m % 4 →
          ∃ u, exec (.ptpDelayRespReceive p l) s = .next u ∧ SameBut [] { v with ptp := u.ptp, timers := u.timers, bobbins := (v.coreDrain e).bobbins } u ∧
          u.ptpPort p = { x with req := none, back := some (v.ofCt e.time, stampAt m 34 - ptpCorr m) } ∧ u.timer (.delayResp p) = none)) ∧
      (byteAt m 0 % 16 = 0 →
        (v.fromMaster p m = false → exec (.ptpSyncReceive p l) s = .next v) ∧
        (v.fromMaster p m = true →
          (bit (byteAt m 6) 1 = true → exec (.ptpSyncReceive p l) s = .next (v.modPtp p (fun y => { y with sync := some (ptpSeq m, t, ptpCorr m) }))) ∧
          (bit (byteAt m 6) 1 = false → x.back = none → exec (.ptpSyncReceive p l) s = .next v) ∧
          (bit (byteAt m 6) 1 = false → x.back = some (t1, t2) → exec (.ptpSyncReceive p l) s =
            .next (v.modPtp p (fun y => { y with servo := sv (stampAt m 34 + ptpCorr m) t y.servo }))))) ∧
      (byteAt m 0 % 16 = 8 →
        (x.sync = none ∨ v.fromMaster p m = false → exec (.ptpFollowUpReceive p l) s = .next v) ∧
        (x.sync = some (q, n, cc) → ptpSeq m ≠ q → exec (.ptpFollowUpReceive p l) s = .next v) ∧
        (x.sync = some (ptpSeq m, n, cc) → v.fromMaster p m = true → x.back = some (t1, t2) → ∃ u, exec (.ptpFollowUpReceive p l) s = .next u ∧
          SameBut [] { v with ptp := u.ptp } u ∧
          u.ptpPort p = { x with sync := none, servo := sv (stampAt m 34 + ptpCorr m + cc) n x.servo })) ∧
      (byteAt m 0 % 16 = 11 →
        (f.clockId = v.clockId ∨ bit f.flags 8 = true ∨ 255 ≤ f.steps → exec (.ptpAnnounceReceive p l) s = .next v) ∧
        (f.clockId ≠ v.clockId → bit f.flags 8 = false → f.steps < 255 → ∃ u, exec (.ptpAnnounceReceive p l) s = .next u ∧
          SameBut [R.TIME_UTC] { v with ptp := u.ptp, timers := u.timers } u ∧ (u.ptpPort p).foreign.length ≤ 5 ∧
          ((x.foreign.all (fun y => y.sender != f.sender)) = true → x.foreign.length < 5 → { f with count := 1 } ∈ (u.ptpPort p).foreign) ∧
          (∀ y ∈ (u.ptpPort p).foreign, y.sender = f.sender → { y with count := 1 } = { f with count := 1 } ∧ y.count ≤ 2) ∧
          (∀ y ∈ (u.ptpPort p).foreign, y.sender ≠ f.sender → y ∈ x.foreign) ∧ (x.master = none → u.timer (.announce p) = some 0)))) ∧
    (s.ptpIs p 9 = false ∨ s.coreReady true = false ∨ s.slotDue (evDelayReq p) req = false → exec (.ptpDelayReqSend p) s = .next s) ∧
    (s.ptpIs p 9 = true → s.coreReady true = true → s.slotDue (evDelayReq p) req = true → ∃ u g, exec (.ptpDelayReqSend p) s = .next u ∧ u.frame s.nextId = some g ∧ g.dest = .port p ∧
      g.tsId = some (coreTs p 1 h.reqSeq) ∧ u.ptpPort p = { h with reqSeq := (h.reqSeq + 1) % 65536, req := some h.reqSeq } ∧ u.timer (.delayResp p) = some 0 ∧
      (eth → byteAt g.data 14 = 1 ∧ beAt g.data 44 2 = h.reqSeq % 65536)) ∧
    (s.ran (.delayResp p) (s.respWait p) = false → exec (.ptpDelayRespTimeout p) s = .next s) ∧
    (s.ran (.delayResp p) (s.respWait p) = true → ∃ u : State, exec (.ptpDelayRespTimeout p) s = .next (u.raise .time 7 p) ∧ (u.ptpPort p).req = none ∧
      u.timer (.delayResp p) = none ∧ SameBut [R.PTP_PORT_STATUS p] { s with ptp := u.ptp, timers := u.timers, bobbins := u.bobbins } u ∧
      u.get (F.PTP_PORT_STATUS_RESP_MISSED p) = min (s.get (F.PTP_PORT_STATUS_RESP_MISSED p) + 1) (2 ^ (F.PTP_PORT_STATUS_RESP_MISSED p).w - 1)) ∧
    (s.groomUp = false ∨ s.timer (.announce p) = none → exec (.ptpAnnounceTimeout p) s = .next s) ∧
    (s.groomUp = true → s.get (F.PTP_PORT_INTERVALS_ANNOUNCE_TIMEOUT p) = 3 → s.get (F.PTP_PORT_INTERVALS_LOG_ANNOUNCE p) = 1 →
      (s.ran (.announce p) (3 * (sec * 2)) = false → exec (.ptpAnnounceTimeout p) s = .next s) ∧
      (s.ran (.announce p) (3 * (sec * 2)) = true → ∃ u, exec (.ptpAnnounceTimeout p) s = .next u ∧ SameBut [] { s with ptp := u.ptp, timers := u.timers } u ∧
        u.timer (.announce p) = none ∧
        u.ptpPort p = { h with foreign := (match h.master with | some g => h.foreign.erase g | none => []), sync := none, back := none })) ∧
    (s.ptpTaken p l = (none, v) → exec (.ptpIgnoredReceive p l) s = .next v) ∧
    (s.ptpTaken p l = (some (t, m), v) →
      (byteAt m 0 % 16 ∈ [2, 3, 10, 12, 13] → exec (.ptpIgnoredReceive p l) s = .next (v.count 6 p 6 1)) ∧
      (byteAt m 0 % 16 ∉ [2, 3, 10, 12, 13] → exec (.ptpIgnoredReceive p l) s = .next v)) ∧
    (s.tcMiss.find? (fun y => y.1 == p && decide (y.2 + 10 * ms ≤ s.elapsed)) = none → exec (.followUpMatchTimeout p) s = .next s) ∧
    (s.tcMiss.find? (fun y => y.1 == p && decide (y.2 + 10 * ms ≤ s.elapsed)) = some (q, n) → exec (.followUpMatchTimeout p) s =
      .next (State.count 6 p 7 1 { s with tcMiss := s.tcMiss.erase (q, n) }))

/-- 14 R526 to R538, R543: the GNSS receiver. -/
def Obligations.GnssReceiverGivesTime : Prop :=
  ∀ (s : State) (d : Submission) (g : GnssSol) (m ch ma l1 l5 n : Nat) (b : Bool) (nt : List (Int × Nat × Bool)) (x : Int × Nat × Bool),
    let t := s.fetched d
    let c := cmdOf 0x5A d s
    let used := (s.usedSats g.obs).length
    (Ready (specGnss 0) d s → ∃ u : State, exec (.gnssSetConfigure d) s = .next (c.ended rOk 0 0 u) ∧
      (∀ j < 4, u.rd (gnssRegs.getD j 0) = BitVec.ofNat 32 (d.le (8 + 4 * j) 4)) ∧
      (u.gnssMode = s.gnssMode → u.posState = s.posState) ∧ (u.gnssMode = 1 → s.gnssMode ≠ 1 → u.posState = 1 ∧ u.gnss.count = 0) ∧
      (u.gnssMode = 2 → s.gnssMode ≠ 2 → u.posState = 3) ∧ (u.gnssMode = 0 → s.gnssMode ≠ 0 → u.posState = 0 ∧ ∀ k < 96, u.rd (R.GNSS_CH k) = 0) ∧
      (u.on F.GNSS_CFG_BIAS_EN = false → u.ant = 0 ∧ u.timer .antShort = none)) ∧
    (Ready (specGnss 1) d s → ∃ u : State, exec (.gnssSetPosition d) s = .next (c.ended rOk 0 0 u) ∧ u.gnssPos = posOf d ∧
      SameBut [R.GNSS_POS_X_LO, R.GNSS_POS_X_HI, R.GNSS_POS_Y_LO, R.GNSS_POS_Y_HI, R.GNSS_POS_Z_LO, R.GNSS_POS_Z_HI]
        { t with gnss := { s.gnss with far := 0 } } u) ∧
    (Ready (specGnss 2) d s → ∃ u : State, exec (.gnssSetSurveyRestart d) s = .next (c.ended rOk 0 0 u) ∧ u.posState = 1 ∧
      SameBut [R.GNSS_STATUS] { t with gnss := { s.gnss with count := 0, sum := (0, 0, 0), sq := 0, far := 0 } } u) ∧
    (Ready (specGnss 3) d s → exec (.gnssSetColdStart d) s = .next (c.ended rOk 0 0 { t with gnss := { s.gnss with almanac := false } })) ∧
    (s.gnssMode = 0 ∨ s.groomUp = false ∨ s.heldDomain 1 = true ∨ s.slotDue evSolution sec = false → exec (.gnssSolution g) s = .next s) ∧
    (s.gnssMode ≠ 0 → s.groomUp = true → s.heldDomain 1 = false → s.slotDue evSolution sec = true → ∃ u, exec (.gnssSolution g) s = .next u ∧ u.timer .gnssSolution = some 0 ∧
      u.gnss.almanac = true ∧ u.get F.GNSS_STATUS_SATS_USED = min used 255 ∧ u.on F.GNSS_STATUS_TIME_VALID = u.validNow used g.unc ∧
      (used < s.minSats ∨ max 1 (s.get F.GNSS_LIMITS_UNC_LIMIT_NS) < g.unc ∨ u.on F.GNSS_STATUS_SPOOF = true → u.on F.GNSS_STATUS_TIME_VALID = false) ∧
      (used < s.minSats → used < (satsOf (g.obs.filter s.obsUsable)).length → u.on F.GNSS_STATUS_SPOOF = true) ∧
      (∀ o ∈ g.obs, o.ch < 96 → (∀ y ∈ g.obs, y.ch = o.ch → y = o) → u.timer (.gnssWord o.ch) = some ((s.timer (.gnssWord o.ch)).getD 0) ∧
        (u.rd (R.GNSS_CH o.ch)).toNat % 16 = (if s.satFails g.obs o.sat ≠ 0 then 4 else if s.obsUsable o then 3 else 2))) ∧
    (∀ v, (State.setValid v s).on F.GNSS_STATUS_TIME_VALID = v) ∧
    (s.ran .gnssSolution (2 * sec) = false → exec .gnssSolutionTimeout s = .next s) ∧
    (s.ran .gnssSolution (2 * sec) = true → ∃ u, SameBut [] { s with timers := u.timers } u ∧ u.timer .gnssSolution = none ∧
      exec .gnssSolutionTimeout s = .next (State.setValid false u)) ∧
    (s.posState = 0 ∨ s.groomUp = false → exec (.gnssTimePulse m) s = .next s) ∧
    (s.posState ≠ 0 → s.groomUp = true → exec (.gnssTimePulse m) s = .next { s with gnss := { s.gnss with mark := some m } }) ∧
    (96 ≤ ch ∨ s.ran (.gnssWord ch) (5 * ms) = false ∨ s.gnss.holding.contains ch = true → exec (.gnssChannelHold ch) s = .next s) ∧
    (ch < 96 → s.ran (.gnssWord ch) (5 * ms) = true → s.gnss.holding.contains ch = false → exec (.gnssChannelHold ch) s =
      .next { s with gnss := { s.gnss with holding := s.gnss.holding ++ [ch] } }) ∧
    (96 ≤ ch ∨ s.ran (.gnssWord ch) (100 * ms) = false → exec (.gnssChannelIdle ch) s = .next s) ∧
    (ch < 96 → s.ran (.gnssWord ch) (100 * ms) = true → ∃ u, exec (.gnssChannelIdle ch) s = .next u ∧ u.rd (R.GNSS_CH ch) = 0 ∧
      u.rd (R.GNSS_CH ch + 4) = 0 ∧ u.timer (.gnssWord ch) = none ∧ ch ∉ u.gnss.holding ∧
      SameBut [R.GNSS_CH ch, R.GNSS_CH ch + 4] { s with gnss := u.gnss, timers := u.timers } u) ∧
    (s.evalDue evAntenna ms = false → exec (.antennaMeasure ma b) s = .next s) ∧
    (s.evalDue evAntenna ms = true → let e := s.evalMade evAntenna
      (s.on F.GNSS_CFG_BIAS_EN = false → ∃ u, exec (.antennaMeasure ma b) s = .next u ∧ u.ant = 0 ∧ u.get F.GNSS_JAM_ANT_MA = 0 ∧
        SameBut [R.GNSS_JAM, R.GNSS_STATUS] { e with gnss := { s.gnss with antLow := 0 } } u) ∧
      (s.on F.GNSS_CFG_BIAS_EN = true →
        (s.ant = 3 → exec (.antennaMeasure ma b) s = .next (e.set F.GNSS_JAM_ANT_MA (min ma 4095))) ∧
        (s.ant ≠ 3 → ∃ u, exec (.antennaMeasure ma true) s = .next u ∧ u.ant = 3 ∧ u.on F.GNSS_STATUS_TIME_VALID = false ∧
          u.on F.GNSS_EVENT_ANT_FAULT = true ∧ u.timer .antShort = some 0) ∧
        (s.ant ≠ 3 → ma < 20 → s.gnss.antLow < 9 → exec (.antennaMeasure ma false) s =
          .next (State.modGnss (fun y => { y with antLow := y.antLow + 1 }) (e.set F.GNSS_JAM_ANT_MA ma))) ∧
        (s.ant ≠ 3 → s.ant ≠ 2 → ma < 20 → 9 ≤ s.gnss.antLow → ∃ u, exec (.antennaMeasure ma false) s = .next u ∧ u.ant = 2 ∧
          u.on F.GNSS_STATUS_TIME_VALID = false ∧ u.on F.GNSS_EVENT_ANT_FAULT = true) ∧
        (s.ant ≠ 3 → 20 ≤ ma → ∃ u, exec (.antennaMeasure ma false) s = .next u ∧ u.ant = 1 ∧
          SameBut [R.GNSS_JAM, R.GNSS_STATUS] { e with gnss := { s.gnss with antLow := 0 } } u))) ∧
    (s.bias = if s.on F.GNSS_CFG_BIAS_EN = true ∧ (s.ant ≠ 3 ∨ sec ≤ (s.timer .antShort).getD 0 + 10 * ms) then
      (if s.on F.GNSS_CFG_BIAS_5V then 50 else 33) else 0) ∧
    (s.ant ≠ 3 ∨ s.on F.GNSS_CFG_BIAS_EN = false ∨ s.ran .antShort sec = false → exec (.antennaShortRetry b) s = .next s) ∧
    (s.ant = 3 → s.on F.GNSS_CFG_BIAS_EN = true → s.ran .antShort sec = true → exec (.antennaShortRetry false) s = .next (s.start .antShort) ∧
      ∃ u, exec (.antennaShortRetry true) s = .next u ∧ u.ant = 1 ∧ u.timer .antShort = none ∧
      SameBut [R.GNSS_STATUS] { s with gnss := { s.gnss with antLow := 0 }, timers := u.timers } u) ∧
    (s.evalDue evJam (100 * ms) = false → exec (.jamEvaluate l1 l5 nt) s = .next s) ∧
    (s.evalDue evJam (100 * ms) = true → ∃ u, exec (.jamEvaluate l1 l5 nt) s = .next u ∧ u.get F.GNSS_JAM_JI_L1 = min l1 255 ∧ u.get F.GNSS_JAM_JI_L5 = min l5 255 ∧
      u.on F.GNSS_STATUS_JAMMED_L1 = decide (s.get F.GNSS_LIMITS_JAM_LIMIT ≤ min l1 255) ∧
      u.on F.GNSS_STATUS_JAMMED_L5 = decide (s.get F.GNSS_LIMITS_JAM_LIMIT ≤ min l5 255) ∧
      (u.jamInvalid = true → u.on F.GNSS_STATUS_TIME_VALID = false) ∧
      (u.jamInvalid = false → u.on F.GNSS_STATUS_TIME_VALID = s.on F.GNSS_STATUS_TIME_VALID) ∧
      (n < 8 → nt[n]? = some x → u.getI (F.GNSS_NOTCH_OFFSET_KHZ n) = max (-32768) (min 32767 x.1) ∧ u.get (F.GNSS_NOTCH_DEPTH_DB n) = min x.2.1 255 ∧
        u.on (F.GNSS_NOTCH_ACTIVE n) = x.2.2))

/-- 15 R547 to R559: calibration. -/
def Obligations.CalibrationRunsMeasureAndStore : Prop :=
  ∀ (s : State) (d : Submission) (i k p : Nat) (vals : List (Int × Nat)) (a : AsymRun) (v : Int × Int),
    let t := s.fetched d
    let c := cmdOf 0x48 d s
    let P := d.P0 0 9
    let run := fun (target : Nat) => ({ cmd := some c, target := target, wait := calSubject target P, cycle := s.cycles,
                                        mi := if target = 4 then some (d.b 1) else none } : CalRun)
    let t0 := (c.boundary + sec - 1) / sec * sec
    let w : AsymRun := { cmd := c, port := P, mi := d.b 1, cable := toInt 64 (d.le 8 8), t0 := t0, t1 := t0 + d.le 2 2 * sec }
    let lanes := fun (u : State) => (u.calBusy.filter (fun j => decide (j < 272))).length
    let to2 := if i < 272 ∨ i = 301 then (vals.getD 1 (0, 0)).1 else (s.calValue i).2
    let mv : CalMove := { begun := s.elapsed, a := ((s.calValue i).1, (vals.getD 0 (0, 0)).1), b := ((s.calValue i).2, to2) }
    let passes := vals.length = (calLimits i).length ∧
      ∀ y ∈ ((calLimits i).zip [(s.calValue i).1, (s.calValue i).2]).zip vals, calPasses y.1.1 y.1.2 y.2.1 y.2.2 = true
    (∀ y ∈ [(0, Instr.calRunLanes d), (1, .calRunCore d), (2, .calRunMi d), (3, .calRunOutputs d), (4, .calRunOutputLoop d), (6, .calRunGnss d)],
      Ready (specCalRun y.1) d s → exec y.2 s = .next (State.calGo 4 (c.goesOn
        { t.calAbsorb (calSubject y.1 P) with calRuns := (t.calAbsorb (calSubject y.1 P)).calRuns ++ [run y.1] }))) ∧
    (Ready (specCalRun 5) d s →
      (s.kplState P ≠ kplRunning → exec (.calRunAsym d) s = .next (State.calGo 4 (c.ended rState 0 0 t))) ∧
      (s.kplState P = kplRunning → exec (.calRunAsym d) s = .next (State.calGo 4 (c.goesOn (State.showCal { t with asyms := s.asyms ++ [w] }))))) ∧
    ((lanes s ≤ 32 → lanes (State.calGo k s) ≤ 32) ∧ ∀ r ∈ (State.calGo k s).calRuns, r.wait ≠ [] ∨ r.busy ≠ []) ∧
    (s.calBusy.contains i = false → exec (.calItemDone (.item i vals)) s = .next s ∧ exec (.calItemDone (.notRun i)) s = .next s) ∧
    (s.calBusy.contains i = true →
      exec (.calItemDone (.item i vals)) s = .next (State.calGo 4 (if s.calAble i then s.calEnd i vals else s.calNotRun i)) ∧
      exec (.calItemDone (.notRun i)) s = .next (State.calGo 4 (s.calNotRun i))) ∧
    (i < 302 → (s.calNotRun i).on (F.CAL_ITEM_NOT_RUN i) = true ∧ (s.calNotRun i).calState i = s.calState i ∧ (s.calNotRun i).calValue i = s.calValue i) ∧
    (i < 302 → passes → (s.calEnd i vals).calState i = 1 ∧ (s.calEnd i vals).on (F.CAL_ITEM_NOT_RUN i) = false ∧ (s.calEnd i vals).calValue i = s.calValue i ∧
      (s.calEnd i vals).timer (.calPeriod i) = some 0 ∧
      Tbl.find i (s.calEnd i vals).calMoves = some mv) ∧
    (i < 302 → ¬ passes → (s.calEnd i vals).calState i = 2 ∧ (s.calEnd i vals).calMoves = s.calMoves ∧ (s.calEnd i vals).calValue i = s.calValue i) ∧
    ((v.1 ≤ v.2 → v.1 ≤ moved v k ∧ moved v k ≤ v.2) ∧ (v.2 ≤ v.1 → v.2 ≤ moved v k ∧ moved v k ≤ v.1) ∧
      (moved v k - v.1).natAbs ≤ k * 65536 / 1000 / ms) ∧
    (s.asyms.find? (fun y => y.port == p) = none → exec (.calItemDone (.asym p)) s = .next s) ∧
    (s.asyms.find? (fun y => y.port == p) = some a →
      (s.nt < a.t1 → s.kplState p = kplRunning → exec (.calItemDone (.asym p)) s = .next s) ∧
      (a.t1 ≤ s.nt ∨ s.kplState p ≠ kplRunning → ∃ u, exec (.calItemDone (.asym p)) s = .next u ∧ u.asyms = s.asyms.erase a)) ∧
    (8 ≤ k ∨ s.calBusy.contains (272 + k) = false ∨ ((s.miMode k).1 ≠ 2 ∧ (s.miMode k).1 ≠ 3) ∨ s.ran (.miGap k) (10 * sec) = false →
      exec (.miCalGapTimeout k) s = .next s) ∧
    (k < 8 → s.calBusy.contains (272 + k) = true → (s.miMode k).1 = 2 ∨ (s.miMode k).1 = 3 → s.ran (.miGap k) (10 * sec) = true →
      exec (.miCalGapTimeout k) s = .next (State.calGo 4 (s.calNotRun (272 + k)))) ∧
    (s.evalDue evCal sec = false → exec .calAutoEvaluate s = .next s) ∧
    (s.evalDue evCal sec = true → let e := s.evalMade evCal
      (s.on F.CAL_CTRL_AUTO_EN = false → exec .calAutoEvaluate s = .next e) ∧
      (s.on F.CAL_CTRL_AUTO_EN = true → (∀ j < 302, s.calTriggers j = false) → exec .calAutoEvaluate s = .next (State.calGo 4 e)) ∧
      (s.on F.CAL_CTRL_AUTO_EN = true → i < 302 → s.calTriggers i = true → (∀ j < 302, j ≠ i → s.calTriggers j = false) →
        ∃ target, exec .calAutoEvaluate s = .next (State.calGo 4 (State.raise .cal 0 i
          { e with calRuns := insTrigger { target := target, wait := [i], cycle := s.cycles } s.calRuns })))) ∧
    (s.calState i = 0 ∨ (∃ r ∈ s.calRuns, i ∈ r.wait ∨ i ∈ r.busy) → s.calTriggers i = false) ∧
    (i < 300 → s.calState i ≠ 0 → (∀ r ∈ s.calRuns, i ∉ r.wait ∧ i ∉ r.busy) →
      max 1 (s.get F.CAL_CTRL_TEMP_DELTA) < (s.calTemp i - s.cal.temp.getD i 0).natAbs → s.calTriggers i = true) ∧
    (Ready specCalStore d s →
      (t.storeRefuses = true → exec (.calStore d) s = .next ((cmdNow 0x49 d s).ended rBusy 0 0 t)) ∧
      (t.storeRefuses = false → d.P0 0 1 = 0 → (∃ j < 302, s.calState j = 0) → exec (.calStore d) s = .next ((cmdNow 0x49 d s).ended rState 0 0 t)) ∧
      (t.storeRefuses = false → d.P0 0 1 = 1 ∨ (∀ j < 302, s.calState j ≠ 0) →
        exec (.calStore d) s = .next ((cmdNow 0x49 d s).goesOn (t.storeStart knCal t.calData false (cmdNow 0x49 d s)))))

/-- 16 R567 to R579: the grooms. -/
def Obligations.GroomsActOnceAndFollowTheirStates : Prop :=
  ∀ (s : State) (b : Bool) (k : Consumer) (seq digest n : Nat) (w : OutWin) (e : Int),
    let p := s.groom (!b)
    let same := (s.cplx b).ident = (s.cplx (!b)).ident
    let pref := s.on F.GROOM_CTRL_PREFER_B
    let serves := s.groom b = gsInStep ∨ s.groom b = gsSolo
    let win := s.outWins.find? (fun x => x.cons == k.id && x.seq == seq && x.b != b && decide (s.cycles ≤ x.cycle + 4))
    let two := ({ s with outWins := s.outWins.erase w } : State).second k b
    (s.groom b ≠ gsOff ∨ s.heldDomain (groomDomain b) = true ∨ s.heldDomain 5 = true ∨ s.supply ≠ .on → exec (.groomResetEnd b) s = .next s) ∧
    (s.groom b = gsOff → s.heldDomain (groomDomain b) = false → s.heldDomain 5 = false → s.supply = .on → ∃ u, exec (.groomResetEnd b) s = .next u ∧
      u.groom b = gsBooting ∧ u.groom (!b) = p ∧ (s.on F.SYS_STATUS_READY = false → u.complexes = s.complexes) ∧
      (s.on F.SYS_STATUS_READY = true → (u.cplx b).ident = s.identToLoad b ∧ (u.cplx b).soft = false) ∧
      SameBut [R.GROOM_STATUS, R.GROOM_IDENT_A, R.GROOM_IDENT_B] { s with complexes := u.complexes } u) ∧
    (((s.cplx b).soft = false → p = gsInStep ∨ p = gsSolo → s.identToLoad b = (s.cplx (!b)).ident) ∧
      ((s.cplx b).soft = false → p ≠ gsInStep → p ≠ gsSolo → (s.cplx b).ident.isSome = true → s.identToLoad b = (s.cplx b).ident)) ∧
    (s.groom b ≠ gsBooting ∨ s.groomMayRun = false → exec (.groomImageLoaded b) s = .next s) ∧
    (s.groom b = gsBooting → s.groomMayRun = true →
      (p = gsInStep ∨ p = gsSolo → ∃ u, exec (.groomImageLoaded b) s = .next u ∧ u.groom (!b) = p ∧
        SameBut [R.GROOM_STATUS, R.GROOM_IDENT_A, R.GROOM_IDENT_B] { s with timers := u.timers } u ∧
        (same → u.groom b = gsSyncing ∧ u.timers = s.timers) ∧
        (¬ same → u.groom b = gsShadow ∧ u.on F.GROOM_STATUS_HANDOVER = true ∧ u.timer .shadow = some 0)) ∧
      (p ≠ gsInStep → p ≠ gsSolo → ∃ u, exec (.groomImageLoaded b) s = .next u ∧ u.groom b = gsSolo ∧ u.groom (!b) = p ∧ u.groomUp = true ∧
        u.leadNext = (if s.leaderB = b then s.leadNext else some (b, false)))) ∧
    (s.groom b ≠ gsSyncing ∨ p ≠ gsSolo → exec (.resyncFinalCopy b) s = .next s) ∧
    (s.groom b = gsSyncing → p = gsSolo → ∃ u, exec (.resyncFinalCopy b) s = .next u ∧ u.groom b = gsInStep ∧ u.groom (!b) = gsInStep ∧
      u.timer .revert = some 0 ∧ u.on F.GROOM_EVENT_RESYNC_DONE = true ∧ u.on F.GROOM_STATUS_HANDOVER = false ∧
      (s.on F.GROOM_STATUS_HANDOVER = true → u.on F.GROOM_EVENT_HANDOVER_DONE = true)) ∧
    (s.on F.GROOM_CTRL_REVERT_EN = false ∨ s.leaderB = pref ∨ s.groom pref ≠ gsInStep ∨ s.groom (!pref) ≠ gsInStep ∨
        s.ran .revert (max 1 (s.get F.GROOM_CTRL_REVERT_HOLD_S) * sec) = false → exec .revertHoldExpiry s = .next s) ∧
    (s.on F.GROOM_CTRL_REVERT_EN = true → s.leaderB ≠ pref → s.groom pref = gsInStep → s.groom (!pref) = gsInStep →
      s.ran .revert (max 1 (s.get F.GROOM_CTRL_REVERT_HOLD_S) * sec) = true → ∃ u : State, exec .revertHoldExpiry s = .next (u.raise .groom 6 (b2n pref)) ∧
      u.leaderB = pref ∧ u.on F.GROOM_STATUS_DUAL = true ∧ SameBut [R.GROOM_STATUS] { s with dualLeft := 2 } u) ∧
    (s.dualLeft ≠ 0 → s.dualLeft ≤ n → (State.settleDual n s).on F.GROOM_STATUS_DUAL = false ∧ (State.settleDual n s).dualLeft = 0) ∧
    (s.leadNext = some (b, true) → s.groom b = gsInStep → (State.settleLead s).leaderB = b ∧ (State.settleLead s).groom b = gsSolo ∧
      (State.settleLead s).on F.GROOM_EVENT_FAILOVER = true ∧ (State.settleLead s).leadNext = none) ∧
    (s.groom b ≠ gsShadow ∨ s.ran .shadow (max 1 (s.get F.GROOM_CTRL_SHADOW_S) * sec) = false → exec (.shadowTakeover b) s = .next s) ∧
    (s.groom b = gsShadow → s.ran .shadow (max 1 (s.get F.GROOM_CTRL_SHADOW_S) * sec) = true → ∃ u : State,
      exec (.shadowTakeover b) s = .next (u.groomReset (!b) false) ∧ u.leaderB = b ∧ u.groom b = gsSolo ∧ u.timer .shadow = none ∧ u.groomUp = true) ∧
    (s.groom b ≠ gsShadow → exec (.shadowFault b) s = .next s) ∧
    (s.groom b = gsShadow → ∃ u, exec (.shadowFault b) s = .next u ∧ (u.groom b = gsOff ∨ u.groom b = gsRetired) ∧ u.on F.GROOM_STATUS_HANDOVER = false ∧
      u.on F.GROOM_EVENT_HANDOVER_ABORT = true ∧ u.get F.GROOM_LAST_FAULT_KIND = 4 ∧ u.on F.GROOM_LAST_FAULT_COMPLEX_B = b ∧
      (∀ i, (s.cplx b).ident = some i → u.suspect i.slot = true ∨ ∀ x ∈ s.commits, ¬ (x.1 / 2 = knImage ∧ x.2.slot = i.slot))) ∧
    (((s.cplx b).resets.filter (fun r => decide (s.elapsed < r + restartWindow))).length = 3 → (s.groomReset b false).groom b = gsRetired ∧
      (s.groomReset b false).on F.GROOM_EVENT_RETIRED = true) ∧
    (((s.cplx b).resets.filter (fun r => decide (s.elapsed < r + restartWindow))).length < 3 → (s.groomReset b false).groom b = gsOff) ∧
    ((s.groomReset b true).groom b = gsOff ∧ (s.groomReset b true).heldDomain (groomDomain b) = true) ∧
    (¬ serves ∨ 2 ^ 48 ≤ seq → exec (.groomOutputReceive k b seq digest) s = .next s) ∧
    (serves → seq < 2 ^ 48 →
      (win = some w → w.digest = digest → exec (.groomOutputReceive k b seq digest) s = .next two) ∧
      (win = some w → w.digest ≠ digest → exec (.groomOutputReceive k b seq digest) s =
        .next (two.groomFault 0 (!s.leaderB) 0)) ∧
      (win = none → Tbl.find k.id s.acted = some n → seqNewer 48 seq n = false → exec (.groomOutputReceive k b seq digest) s = .next s) ∧
      (win = none → (∀ m, Tbl.find k.id s.acted = some m → seqNewer 48 seq m = true) → ∃ u, exec (.groomOutputReceive k b seq digest) s = .next u ∧
        Tbl.find k.id u.acted = some seq ∧ u.cq = s.cq ∧ (k = .dpll → s.dpll.estimate = some e → u.dpll.estimate = none ∧ u.timer .ref13 = some 0 ∧
          (u.slotMem 13).phase = some (e - s.getI (F.DPLL_REF_DELAY_DELAY 13))) ∧
        u.outWins = (if s.inStep then s.outWins ++ [{ cons := k.id, seq := seq, digest := digest, b := b, cycle := s.cycles }] else s.outWins))) ∧
    (s.outWins.find? (fun x => decide (x.cycle + 4 < s.cycles)) = none → exec .lagWindowExpiry s = .next s) ∧
    (s.outWins.find? (fun x => decide (x.cycle + 4 < s.cycles)) = some w →
      exec .lagWindowExpiry s = .next (({ s with outWins := s.outWins.erase w } : State).groomFault 1 (!w.b) 0))

/-- 16 R580 to R591: user tasks and the sample log. -/
def Obligations.TasksAndSampleLogsKeepToTheirOwn : Prop :=
  ∀ (s : State) (t k op addr lat a tm : Nat) (d : Submission) (w : WaitFor) (x : BitVec 32) (user : Bool) (cp : Completion) (rest : List Completion),
    let h := s.tasks.getD t {}
    let core := s.taskCore
    let mine : Submission := { d with ring := 128 + t, index := h.subs % 65536 }
    let busy := (s.outstanding (128 + t)).length
    let l := s.log k
    let due := k < 6 ∧ s.on (F.GROOM_LOG_CTRL_ENABLE k) = true ∧ s.get (F.GROOM_LOG_PERIOD_N_MINUS_1 k) + 1 ≤ l.run
    let value := fun (v : Nat) => s.modTask t (fun y => { y with value := v })
    (s.taskRuns t = false → ∀ c ∈ [Instr.taskReadReg t a, .taskReadTime t, .taskReadPc t k, .taskRaise t x, .taskSubmit t op d, .taskWait t w],
      exec c s = .next s) ∧
    (s.taskRuns t = true →
      exec (.taskReadTime t) s = .next (value (ct s.nt + s.quality * 2 ^ 64)) ∧
      (occupied a = false → ∃ u : State, exec (.taskReadReg t a) s = .next (u.hifErr 0 0xFFFF a) ∧ u = value 0) ∧
      (occupied a = true → peekWord a = none → ∃ u, exec (.taskReadReg t a) s = .next u ∧ (u.tasks.getD t {}).value = (s.regRead 1 a).1.toNat ∧
        u.regs = (s.regRead 1 a).2.regs) ∧
      (bit (s.get F.GROOM_TASK_CFG_USER_READ) core = false → exec (.taskReadPc t k) s = .next (s.taskFault t)) ∧
      (bit (s.get F.GROOM_TASK_CFG_USER_READ) core = true →
        exec (.taskReadPc t 0) s = .next (value (s.get2 (R.GROOM_CYC_LO core) (R.GROOM_CYC_HI core))) ∧
        (k < 8 → exec (.taskReadPc t (k + 1)) s = .next (value (s.get2 (R.GROOM_PC_LO core k) (R.GROOM_PC_HI core k)))) ∧
        (8 < k → exec (.taskReadPc t k) s = .next s)) ∧
      exec (.taskRaise t x) s = .next (s.event 0x1400 t x.toNat) ∧
      exec (.taskWait t w) s = .next (s.modTask t (fun y => { y with wait := some w, due := false })) ∧
      (s.run = false ∨ 8 ≤ busy ∨ 1024 ≤ s.accepted.length → exec (.taskSubmit t op d) s = .next s) ∧
      (s.run = true → busy < 8 → s.accepted.length < 1024 → d.fence = false →
        (op ∈ [0x43, 0x45, 0x46, 0x47, 0x49, 0x60, 0x61] → ∃ u cq, exec (.taskSubmit t op d) s = .next u ∧ u.regs = s.regs ∧ u.cq = s.cq ∧
          u.accepted = s.accepted ∧ (u.tasks.getD t {}).subs = h.subs + 1 ∧ (u.tasks.getD t {}).inbox = h.inbox ++ [cq] ∧ cq.result = rBadOpcode ∧
          cq.sqIndex = h.subs % 65536) ∧
        (op = 0x63 → specNop.refusal mine (s.acceptAt false mine) s = rOk → d.at? = false → s.fetches clsMgmt mine = true → ∃ u, exec (.taskSubmit t op d) s = .next u ∧
          (u.tasks.getD t {}).subs = h.subs + 1 ∧ u.cq = s.cq ∧ u.regs = s.regs ∧
          u.accepted = s.accepted ++ [s.newCmd 0x63 mine (ceilGrid (s.acceptAt false mine + 1))]))) ∧
    (t < 16 → s.groomUp = true →
      (h.wait = none → exec (.taskWaitResume t) s = .next s) ∧
      (h.wait = some (.time a) → (s.nt : Int) < s.ofCt a → exec (.taskWaitResume t) s = .next s) ∧
      (h.wait = some (.time a) → s.ofCt a ≤ (s.nt : Int) → exec (.taskWaitResume t) s = .next (s.modTask t (fun y => { y with wait := none, due := false }))) ∧
      (h.wait = some (.event a) → h.due = false → exec (.taskWaitResume t) s = .next s) ∧
      (h.wait = some (.event a) → h.due = true → exec (.taskWaitResume t) s = .next (s.modTask t (fun y => { y with wait := none, due := false }))) ∧
      (h.wait = some .completion → h.inbox = [] → exec (.taskWaitResume t) s = .next s) ∧
      (h.wait = some .completion → h.inbox = cp :: rest → exec (.taskWaitResume t) s =
        .next (s.modTask t (fun y => { y with wait := none, due := false, inbox := rest })))) ∧
    (t < 16 → bit (s.rd R.GROOM_TASK_STATUS).toNat t = false → exec (.taskFault t) s = .next s) ∧
    (t < 16 → bit (s.rd R.GROOM_TASK_STATUS).toNat t = true → ∃ u : State, exec (.taskFault t) s = .next (u.raise .groom 10 t) ∧
      SameBut [R.GROOM_TASK_STATUS] { s with tasks := u.tasks } u ∧ bit (u.rd R.GROOM_TASK_STATUS).toNat t = false ∧
      bit (u.rd R.GROOM_TASK_STATUS).toNat (16 + t) = true ∧ (∀ j < 16, j ≠ t → bit (u.rd R.GROOM_TASK_STATUS).toNat j = bit (s.rd R.GROOM_TASK_STATUS).toNat j) ∧
      (u.tasks.getD t {}).wait = none) ∧
    (¬ due → exec (.logSample k tm addr lat op user) s = .next s) ∧
    (due → l.held.length < 4096 → ∃ u e, exec (.logSample k tm addr lat op user) s = .next u ∧ (u.log k).seq = (l.seq + 1) % 2 ^ 32 ∧
      (u.log k).run = l.run - (s.get (F.GROOM_LOG_PERIOD_N_MINUS_1 k) + 1) ∧ (u.log k).lost = false ∧ (u.log k).held = l.held ++ [e] ∧ e.length = 32 ∧
      leAt e 0 8 = tm % 2 ^ 64 ∧ leAt e 14 2 = min lat 65535 ∧ leAt e 24 4 = l.seq % 2 ^ 32 ∧ byteAt e 28 = k ∧ bit (byteAt e 21) 2 = l.lost ∧
      bit (byteAt e 21) 0 = user) ∧
    (due → 4096 ≤ l.held.length → ∃ u, exec (.logSample k tm addr lat op user) s = .next u ∧ (u.log k).seq = (l.seq + 1) % 2 ^ 32 ∧
      (u.log k).held = l.held ∧ (u.log k).lost = true ∧ u.get (F.GROOM_LOG_STATUS_LOST k) = min (s.get (F.GROOM_LOG_STATUS_LOST k) + 1) 65535)
end

