-- ==== Sys2Proof/Laws/Bytes.lean ====
section
/-! SUPPORT. Numbers written as bytes and read back, and the fate of a frame that carries its own FCS. -/

namespace Sys2Proof.Machine

open Sys2Proof

theorem length_leBytes (n v : Nat) : (leBytes n v).length = n := by
  induction n generalizing v with
  | zero => rfl
  | succ n ih => simp [leBytes, ih]

theorem leAt_append_leBytes (n v : Nat) (pre : List Byte) : leAt (pre ++ leBytes n v) pre.length n = v % 256 ^ n := by
  induction n generalizing v pre with
  | zero => simp [leAt, Nat.mod_one]
  | succ n ih =>
    have h := ih (v / 256) (pre ++ [BitVec.ofNat 8 v])
    simp only [List.append_assoc, List.cons_append, List.nil_append, List.length_append, List.length_cons, List.length_nil] at h
    have e : byteAt (pre ++ leBytes (n + 1) v) pre.length = v % 256 := by simp [byteAt, leBytes]
    rw [leAt, e, show leBytes (n + 1) v = BitVec.ofNat 8 v :: leBytes n (v / 256) from rfl, h, Nat.pow_succ, Nat.mul_comm (256 ^ n),
      Nat.mod_mul]

theorem crc32_lt (l : List Byte) : crc32 l < 256 ^ 4 := by
  unfold crc32; exact BitVec.isLt _

theorem rxFate_good {n : Nat} {b : List Byte} (h : 60 ≤ b.length) (hn : b.length + 4 ≤ n) :
    rxFate n (b ++ leBytes 4 (crc32 b)) false = 0 := by
  have hl : (b ++ leBytes 4 (crc32 b)).length = b.length + 4 := by simp [length_leBytes]
  have hc : leAt (b ++ leBytes 4 (crc32 b)) b.length 4 = crc32 b := by
    rw [leAt_append_leBytes, Nat.mod_eq_of_lt (crc32_lt b)]
  have ht : (b ++ leBytes 4 (crc32 b)).take b.length = b := by simp
  unfold rxFate
  rw [hl, Nat.add_sub_cancel, hc, ht]
  rw [if_neg (by simp), if_neg (by omega), if_neg (by omega), if_neg (by simp)]

end Sys2Proof.Machine
end

