-- ==== Sys2Proof/Laws/State.lean ====
section
/-! SUPPORT. The fields that each plain update of the state leaves as they are, one lemma per field and update. -/

namespace Sys2Proof.Machine

open Sys2Proof

variable (s : State)

/-! ### `State.wr` -/

@[simp] theorem State.wr_pending (a : Nat) (v : Word) : (State.wr a v s).pending = s.pending := rfl
@[simp] theorem State.wr_freeIdx (a : Nat) (v : Word) : (State.wr a v s).freeIdx = s.freeIdx := rfl
@[simp] theorem State.wr_rdata (a : Nat) (v : Word) : (State.wr a v s).rdata = s.rdata := rfl
@[simp] theorem State.wr_latches (a : Nat) (v : Word) : (State.wr a v s).latches = s.latches := rfl
@[simp] theorem State.wr_nt (a : Nat) (v : Word) : (State.wr a v s).nt = s.nt := rfl
@[simp] theorem State.wr_timers (a : Nat) (v : Word) : (State.wr a v s).timers = s.timers := rfl
@[simp] theorem State.wr_evals (a : Nat) (v : Word) : (State.wr a v s).evals = s.evals := rfl
@[simp] theorem State.wr_safePhase (a : Nat) (v : Word) : (State.wr a v s).safePhase = s.safePhase := rfl
@[simp] theorem State.wr_setNow (a : Nat) (v : Word) : (State.wr a v s).setNow = s.setNow := rfl
@[simp] theorem State.wr_cycles (a : Nat) (v : Word) : (State.wr a v s).cycles = s.cycles := rfl
@[simp] theorem State.wr_supply (a : Nat) (v : Word) : (State.wr a v s).supply = s.supply := rfl
@[simp] theorem State.wr_vinOk (a : Nat) (v : Word) : (State.wr a v s).vinOk = s.vinOk := rfl
@[simp] theorem State.wr_enable (a : Nat) (v : Word) : (State.wr a v s).enable = s.enable := rfl
@[simp] theorem State.wr_vio (a : Nat) (v : Word) : (State.wr a v s).vio = s.vio := rfl
@[simp] theorem State.wr_resetN (a : Nat) (v : Word) : (State.wr a v s).resetN = s.resetN := rfl
@[simp] theorem State.wr_perstN (a : Nat) (v : Word) : (State.wr a v s).perstN = s.perstN := rfl
@[simp] theorem State.wr_dieTemp (a : Nat) (v : Word) : (State.wr a v s).dieTemp = s.dieTemp := rfl
@[simp] theorem State.wr_tap (a : Nat) (v : Word) : (State.wr a v s).tap = s.tap := rfl
@[simp] theorem State.wr_order (a : Nat) (v : Word) : (State.wr a v s).order = s.order := rfl
@[simp] theorem State.wr_bootNo (a : Nat) (v : Word) : (State.wr a v s).bootNo = s.bootNo := rfl
@[simp] theorem State.wr_bootCause (a : Nat) (v : Word) : (State.wr a v s).bootCause = s.bootCause := rfl
@[simp] theorem State.wr_ledgerOff (a : Nat) (v : Word) : (State.wr a v s).ledgerOff = s.ledgerOff := rfl
@[simp] theorem State.wr_early (a : Nat) (v : Word) : (State.wr a v s).early = s.early := rfl
@[simp] theorem State.wr_bootFb (a : Nat) (v : Word) : (State.wr a v s).bootFb = s.bootFb := rfl
@[simp] theorem State.wr_fell (a : Nat) (v : Word) : (State.wr a v s).fell = s.fell := rfl
@[simp] theorem State.wr_debugHold (a : Nat) (v : Word) : (State.wr a v s).debugHold = s.debugHold := rfl
@[simp] theorem State.wr_wasBusy (a : Nat) (v : Word) : (State.wr a v s).wasBusy = s.wasBusy := rfl
@[simp] theorem State.wr_ledger (a : Nat) (v : Word) : (State.wr a v s).ledger = s.ledger := rfl
@[simp] theorem State.wr_norHdr (a : Nat) (v : Word) : (State.wr a v s).norHdr = s.norHdr := rfl
@[simp] theorem State.wr_framHdr (a : Nat) (v : Word) : (State.wr a v s).framHdr = s.framHdr := rfl
@[simp] theorem State.wr_commits (a : Nat) (v : Word) : (State.wr a v s).commits = s.commits := rfl
@[simp] theorem State.wr_nor (a : Nat) (v : Word) : (State.wr a v s).nor = s.nor := rfl
@[simp] theorem State.wr_job (a : Nat) (v : Word) : (State.wr a v s).job = s.job := rfl
@[simp] theorem State.wr_cfgApply (a : Nat) (v : Word) : (State.wr a v s).cfgApply = s.cfgApply := rfl
@[simp] theorem State.wr_stallWait (a : Nat) (v : Word) : (State.wr a v s).stallWait = s.stallWait := rfl
@[simp] theorem State.wr_onBootOsc (a : Nat) (v : Word) : (State.wr a v s).onBootOsc = s.onBootOsc := rfl
@[simp] theorem State.wr_elemHeld (a : Nat) (v : Word) : (State.wr a v s).elemHeld = s.elemHeld := rfl
@[simp] theorem State.wr_rings (a : Nat) (v : Word) : (State.wr a v s).rings = s.rings := rfl
@[simp] theorem State.wr_accepted (a : Nat) (v : Word) : (State.wr a v s).accepted = s.accepted := rfl
@[simp] theorem State.wr_cq (a : Nat) (v : Word) : (State.wr a v s).cq = s.cq := rfl
@[simp] theorem State.wr_cqHeld (a : Nat) (v : Word) : (State.wr a v s).cqHeld = s.cqHeld := rfl
@[simp] theorem State.wr_attnNow (a : Nat) (v : Word) : (State.wr a v s).attnNow = s.attnNow := rfl
@[simp] theorem State.wr_msixSent (a : Nat) (v : Word) : (State.wr a v s).msixSent = s.msixSent := rfl
@[simp] theorem State.wr_relinkLog (a : Nat) (v : Word) : (State.wr a v s).relinkLog = s.relinkLog := rfl
@[simp] theorem State.wr_dbNow (a : Nat) (v : Word) : (State.wr a v s).dbNow = s.dbNow := rfl
@[simp] theorem State.wr_wroteNow (a : Nat) (v : Word) : (State.wr a v s).wroteNow = s.wroteNow := rfl
@[simp] theorem State.wr_cfgRetry (a : Nat) (v : Word) : (State.wr a v s).cfgRetry = s.cfgRetry := rfl
@[simp] theorem State.wr_ctr (a : Nat) (v : Word) : (State.wr a v s).ctr = s.ctr := rfl
@[simp] theorem State.wr_fateQ (a : Nat) (v : Word) : (State.wr a v s).fateQ = s.fateQ := rfl
@[simp] theorem State.wr_wrapped (a : Nat) (v : Word) : (State.wr a v s).wrapped = s.wrapped := rfl
@[simp] theorem State.wr_frames (a : Nat) (v : Word) : (State.wr a v s).frames = s.frames := rfl
@[simp] theorem State.wr_nextId (a : Nat) (v : Word) : (State.wr a v s).nextId = s.nextId := rfl
@[simp] theorem State.wr_era (a : Nat) (v : Word) : (State.wr a v s).era = s.era := rfl
@[simp] theorem State.wr_sent (a : Nat) (v : Word) : (State.wr a v s).sent = s.sent := rfl
@[simp] theorem State.wr_rxData (a : Nat) (v : Word) : (State.wr a v s).rxData = s.rxData := rfl
@[simp] theorem State.wr_sheds (a : Nat) (v : Word) : (State.wr a v s).sheds = s.sheds := rfl
@[simp] theorem State.wr_bobbins (a : Nat) (v : Word) : (State.wr a v s).bobbins = s.bobbins := rfl
@[simp] theorem State.wr_bobbinNow (a : Nat) (v : Word) : (State.wr a v s).bobbinNow = s.bobbinNow := rfl
@[simp] theorem State.wr_macWas (a : Nat) (v : Word) : (State.wr a v s).macWas = s.macWas := rfl
@[simp] theorem State.wr_bobbinEp (a : Nat) (v : Word) : (State.wr a v s).bobbinEp = s.bobbinEp := rfl
@[simp] theorem State.wr_pauseFor (a : Nat) (v : Word) : (State.wr a v s).pauseFor = s.pauseFor := rfl
@[simp] theorem State.wr_ctlQ (a : Nat) (v : Word) : (State.wr a v s).ctlQ = s.ctlQ := rfl
@[simp] theorem State.wr_ctlSent (a : Nat) (v : Word) : (State.wr a v s).ctlSent = s.ctlSent := rfl
@[simp] theorem State.wr_portRst (a : Nat) (v : Word) : (State.wr a v s).portRst = s.portRst := rfl
@[simp] theorem State.wr_rules (a : Nat) (v : Word) : (State.wr a v s).rules = s.rules := rfl
@[simp] theorem State.wr_swaps (a : Nat) (v : Word) : (State.wr a v s).swaps = s.swaps := rfl
@[simp] theorem State.wr_swapSeq (a : Nat) (v : Word) : (State.wr a v s).swapSeq = s.swapSeq := rfl
@[simp] theorem State.wr_writer (a : Nat) (v : Word) : (State.wr a v s).writer = s.writer := rfl
@[simp] theorem State.wr_writeQ (a : Nat) (v : Word) : (State.wr a v s).writeQ = s.writeQ := rfl
@[simp] theorem State.wr_swapWait (a : Nat) (v : Word) : (State.wr a v s).swapWait = s.swapWait := rfl
@[simp] theorem State.wr_fdb (a : Nat) (v : Word) : (State.wr a v s).fdb = s.fdb := rfl
@[simp] theorem State.wr_fdbTouched (a : Nat) (v : Word) : (State.wr a v s).fdbTouched = s.fdbTouched := rfl
@[simp] theorem State.wr_fdbFlushes (a : Nat) (v : Word) : (State.wr a v s).fdbFlushes = s.fdbFlushes := rfl
@[simp] theorem State.wr_fdbFreed (a : Nat) (v : Word) : (State.wr a v s).fdbFreed = s.fdbFreed := rfl
@[simp] theorem State.wr_hedPtr (a : Nat) (v : Word) : (State.wr a v s).hedPtr = s.hedPtr := rfl
@[simp] theorem State.wr_headSeq (a : Nat) (v : Word) : (State.wr a v s).headSeq = s.headSeq := rfl
@[simp] theorem State.wr_hedJobs (a : Nat) (v : Word) : (State.wr a v s).hedJobs = s.hedJobs := rfl
@[simp] theorem State.wr_shuttles (a : Nat) (v : Word) : (State.wr a v s).shuttles = s.shuttles := rfl
@[simp] theorem State.wr_pairs (a : Nat) (v : Word) : (State.wr a v s).pairs = s.pairs := rfl
@[simp] theorem State.wr_picksNow (a : Nat) (v : Word) : (State.wr a v s).picksNow = s.picksNow := rfl
@[simp] theorem State.wr_groupWas (a : Nat) (v : Word) : (State.wr a v s).groupWas = s.groupWas := rfl
@[simp] theorem State.wr_rows (a : Nat) (v : Word) : (State.wr a v s).rows = s.rows := rfl
@[simp] theorem State.wr_warpPtr (a : Nat) (v : Word) : (State.wr a v s).warpPtr = s.warpPtr := rfl
@[simp] theorem State.wr_nodeRst (a : Nat) (v : Word) : (State.wr a v s).nodeRst = s.nodeRst := rfl
@[simp] theorem State.wr_innerHold (a : Nat) (v : Word) : (State.wr a v s).innerHold = s.innerHold := rfl
@[simp] theorem State.wr_mirrors (a : Nat) (v : Word) : (State.wr a v s).mirrors = s.mirrors := rfl
@[simp] theorem State.wr_headShort (a : Nat) (v : Word) : (State.wr a v s).headShort = s.headShort := rfl
@[simp] theorem State.wr_drr (a : Nat) (v : Word) : (State.wr a v s).drr = s.drr := rfl
@[simp] theorem State.wr_balance (a : Nat) (v : Word) : (State.wr a v s).balance = s.balance := rfl
@[simp] theorem State.wr_pool (a : Nat) (v : Word) : (State.wr a v s).pool = s.pool := rfl
@[simp] theorem State.wr_unitsNow (a : Nat) (v : Word) : (State.wr a v s).unitsNow = s.unitsNow := rfl
@[simp] theorem State.wr_unitsLast (a : Nat) (v : Word) : (State.wr a v s).unitsLast = s.unitsLast := rfl
@[simp] theorem State.wr_demand (a : Nat) (v : Word) : (State.wr a v s).demand = s.demand := rfl
@[simp] theorem State.wr_oeLow (a : Nat) (v : Word) : (State.wr a v s).oeLow = s.oeLow := rfl
@[simp] theorem State.wr_deskewed (a : Nat) (v : Word) : (State.wr a v s).deskewed = s.deskewed := rfl
@[simp] theorem State.wr_eqMoves (a : Nat) (v : Word) : (State.wr a v s).eqMoves = s.eqMoves := rfl
@[simp] theorem State.wr_elapsed (a : Nat) (v : Word) : (State.wr a v s).elapsed = s.elapsed := rfl
@[simp] theorem State.wr_scaleAcc (a : Nat) (v : Word) : (State.wr a v s).scaleAcc = s.scaleAcc := rfl
@[simp] theorem State.wr_corrAcc (a : Nat) (v : Word) : (State.wr a v s).corrAcc = s.corrAcc := rfl
@[simp] theorem State.wr_spareWin (a : Nat) (v : Word) : (State.wr a v s).spareWin = s.spareWin := rfl
@[simp] theorem State.wr_spareBad (a : Nat) (v : Word) : (State.wr a v s).spareBad = s.spareBad := rfl
@[simp] theorem State.wr_ovenSeen (a : Nat) (v : Word) : (State.wr a v s).ovenSeen = s.ovenSeen := rfl
@[simp] theorem State.wr_chans (a : Nat) (v : Word) : (State.wr a v s).chans = s.chans := rfl
@[simp] theorem State.wr_slots (a : Nat) (v : Word) : (State.wr a v s).slots = s.slots := rfl
@[simp] theorem State.wr_dpll (a : Nat) (v : Word) : (State.wr a v s).dpll = s.dpll := rfl
@[simp] theorem State.wr_synStage (a : Nat) (v : Word) : (State.wr a v s).synStage = s.synStage := rfl
@[simp] theorem State.wr_clkouts (a : Nat) (v : Word) : (State.wr a v s).clkouts = s.clkouts := rfl
@[simp] theorem State.wr_pulses (a : Nat) (v : Word) : (State.wr a v s).pulses = s.pulses := rfl
@[simp] theorem State.wr_treadles (a : Nat) (v : Word) : (State.wr a v s).treadles = s.treadles := rfl
@[simp] theorem State.wr_ppsEdge (a : Nat) (v : Word) : (State.wr a v s).ppsEdge = s.ppsEdge := rfl
@[simp] theorem State.wr_todSeq (a : Nat) (v : Word) : (State.wr a v s).todSeq = s.todSeq := rfl
@[simp] theorem State.wr_todSent (a : Nat) (v : Word) : (State.wr a v s).todSent = s.todSent := rfl
@[simp] theorem State.wr_timeSet (a : Nat) (v : Word) : (State.wr a v s).timeSet = s.timeSet := rfl
@[simp] theorem State.wr_upstream (a : Nat) (v : Word) : (State.wr a v s).upstream = s.upstream := rfl
@[simp] theorem State.wr_kpl (a : Nat) (v : Word) : (State.wr a v s).kpl = s.kpl := rfl
@[simp] theorem State.wr_ptp (a : Nat) (v : Word) : (State.wr a v s).ptp = s.ptp := rfl
@[simp] theorem State.wr_tcSyncs (a : Nat) (v : Word) : (State.wr a v s).tcSyncs = s.tcSyncs := rfl
@[simp] theorem State.wr_tcMiss (a : Nat) (v : Word) : (State.wr a v s).tcMiss = s.tcMiss := rfl
@[simp] theorem State.wr_gnss (a : Nat) (v : Word) : (State.wr a v s).gnss = s.gnss := rfl
@[simp] theorem State.wr_cal (a : Nat) (v : Word) : (State.wr a v s).cal = s.cal := rfl
@[simp] theorem State.wr_calMoves (a : Nat) (v : Word) : (State.wr a v s).calMoves = s.calMoves := rfl
@[simp] theorem State.wr_calRuns (a : Nat) (v : Word) : (State.wr a v s).calRuns = s.calRuns := rfl
@[simp] theorem State.wr_asyms (a : Nat) (v : Word) : (State.wr a v s).asyms = s.asyms := rfl
@[simp] theorem State.wr_complexes (a : Nat) (v : Word) : (State.wr a v s).complexes = s.complexes := rfl
@[simp] theorem State.wr_leadNext (a : Nat) (v : Word) : (State.wr a v s).leadNext = s.leadNext := rfl
@[simp] theorem State.wr_dualLeft (a : Nat) (v : Word) : (State.wr a v s).dualLeft = s.dualLeft := rfl
@[simp] theorem State.wr_acted (a : Nat) (v : Word) : (State.wr a v s).acted = s.acted := rfl
@[simp] theorem State.wr_outWins (a : Nat) (v : Word) : (State.wr a v s).outWins = s.outWins := rfl
@[simp] theorem State.wr_perfHold (a : Nat) (v : Word) : (State.wr a v s).perfHold = s.perfHold := rfl
@[simp] theorem State.wr_logs (a : Nat) (v : Word) : (State.wr a v s).logs = s.logs := rfl
@[simp] theorem State.wr_hedResets (a : Nat) (v : Word) : (State.wr a v s).hedResets = s.hedResets := rfl
@[simp] theorem State.wr_tasks (a : Nat) (v : Word) : (State.wr a v s).tasks = s.tasks := rfl
@[simp] theorem State.wr_batch (a : Nat) (v : Word) : (State.wr a v s).batch = s.batch := rfl
@[simp] theorem State.wr_obs (a : Nat) (v : Word) : (State.wr a v s).obs = s.obs := rfl

/-! ### `State.set` -/

@[simp] theorem State.set_pending (f : Fld) (v : Nat) : (State.set f v s).pending = s.pending := rfl
@[simp] theorem State.set_freeIdx (f : Fld) (v : Nat) : (State.set f v s).freeIdx = s.freeIdx := rfl
@[simp] theorem State.set_rdata (f : Fld) (v : Nat) : (State.set f v s).rdata = s.rdata := rfl
@[simp] theorem State.set_latches (f : Fld) (v : Nat) : (State.set f v s).latches = s.latches := rfl
@[simp] theorem State.set_nt (f : Fld) (v : Nat) : (State.set f v s).nt = s.nt := rfl
@[simp] theorem State.set_timers (f : Fld) (v : Nat) : (State.set f v s).timers = s.timers := rfl
@[simp] theorem State.set_evals (f : Fld) (v : Nat) : (State.set f v s).evals = s.evals := rfl
@[simp] theorem State.set_safePhase (f : Fld) (v : Nat) : (State.set f v s).safePhase = s.safePhase := rfl
@[simp] theorem State.set_setNow (f : Fld) (v : Nat) : (State.set f v s).setNow = s.setNow := rfl
@[simp] theorem State.set_cycles (f : Fld) (v : Nat) : (State.set f v s).cycles = s.cycles := rfl
@[simp] theorem State.set_supply (f : Fld) (v : Nat) : (State.set f v s).supply = s.supply := rfl
@[simp] theorem State.set_vinOk (f : Fld) (v : Nat) : (State.set f v s).vinOk = s.vinOk := rfl
@[simp] theorem State.set_enable (f : Fld) (v : Nat) : (State.set f v s).enable = s.enable := rfl
@[simp] theorem State.set_vio (f : Fld) (v : Nat) : (State.set f v s).vio = s.vio := rfl
@[simp] theorem State.set_resetN (f : Fld) (v : Nat) : (State.set f v s).resetN = s.resetN := rfl
@[simp] theorem State.set_perstN (f : Fld) (v : Nat) : (State.set f v s).perstN = s.perstN := rfl
@[simp] theorem State.set_dieTemp (f : Fld) (v : Nat) : (State.set f v s).dieTemp = s.dieTemp := rfl
@[simp] theorem State.set_tap (f : Fld) (v : Nat) : (State.set f v s).tap = s.tap := rfl
@[simp] theorem State.set_order (f : Fld) (v : Nat) : (State.set f v s).order = s.order := rfl
@[simp] theorem State.set_bootNo (f : Fld) (v : Nat) : (State.set f v s).bootNo = s.bootNo := rfl
@[simp] theorem State.set_bootCause (f : Fld) (v : Nat) : (State.set f v s).bootCause = s.bootCause := rfl
@[simp] theorem State.set_ledgerOff (f : Fld) (v : Nat) : (State.set f v s).ledgerOff = s.ledgerOff := rfl
@[simp] theorem State.set_early (f : Fld) (v : Nat) : (State.set f v s).early = s.early := rfl
@[simp] theorem State.set_bootFb (f : Fld) (v : Nat) : (State.set f v s).bootFb = s.bootFb := rfl
@[simp] theorem State.set_fell (f : Fld) (v : Nat) : (State.set f v s).fell = s.fell := rfl
@[simp] theorem State.set_debugHold (f : Fld) (v : Nat) : (State.set f v s).debugHold = s.debugHold := rfl
@[simp] theorem State.set_wasBusy (f : Fld) (v : Nat) : (State.set f v s).wasBusy = s.wasBusy := rfl
@[simp] theorem State.set_ledger (f : Fld) (v : Nat) : (State.set f v s).ledger = s.ledger := rfl
@[simp] theorem State.set_norHdr (f : Fld) (v : Nat) : (State.set f v s).norHdr = s.norHdr := rfl
@[simp] theorem State.set_framHdr (f : Fld) (v : Nat) : (State.set f v s).framHdr = s.framHdr := rfl
@[simp] theorem State.set_commits (f : Fld) (v : Nat) : (State.set f v s).commits = s.commits := rfl
@[simp] theorem State.set_nor (f : Fld) (v : Nat) : (State.set f v s).nor = s.nor := rfl
@[simp] theorem State.set_job (f : Fld) (v : Nat) : (State.set f v s).job = s.job := rfl
@[simp] theorem State.set_cfgApply (f : Fld) (v : Nat) : (State.set f v s).cfgApply = s.cfgApply := rfl
@[simp] theorem State.set_stallWait (f : Fld) (v : Nat) : (State.set f v s).stallWait = s.stallWait := rfl
@[simp] theorem State.set_onBootOsc (f : Fld) (v : Nat) : (State.set f v s).onBootOsc = s.onBootOsc := rfl
@[simp] theorem State.set_elemHeld (f : Fld) (v : Nat) : (State.set f v s).elemHeld = s.elemHeld := rfl
@[simp] theorem State.set_rings (f : Fld) (v : Nat) : (State.set f v s).rings = s.rings := rfl
@[simp] theorem State.set_accepted (f : Fld) (v : Nat) : (State.set f v s).accepted = s.accepted := rfl
@[simp] theorem State.set_cq (f : Fld) (v : Nat) : (State.set f v s).cq = s.cq := rfl
@[simp] theorem State.set_cqHeld (f : Fld) (v : Nat) : (State.set f v s).cqHeld = s.cqHeld := rfl
@[simp] theorem State.set_attnNow (f : Fld) (v : Nat) : (State.set f v s).attnNow = s.attnNow := rfl
@[simp] theorem State.set_msixSent (f : Fld) (v : Nat) : (State.set f v s).msixSent = s.msixSent := rfl
@[simp] theorem State.set_relinkLog (f : Fld) (v : Nat) : (State.set f v s).relinkLog = s.relinkLog := rfl
@[simp] theorem State.set_dbNow (f : Fld) (v : Nat) : (State.set f v s).dbNow = s.dbNow := rfl
@[simp] theorem State.set_wroteNow (f : Fld) (v : Nat) : (State.set f v s).wroteNow = s.wroteNow := rfl
@[simp] theorem State.set_cfgRetry (f : Fld) (v : Nat) : (State.set f v s).cfgRetry = s.cfgRetry := rfl
@[simp] theorem State.set_ctr (f : Fld) (v : Nat) : (State.set f v s).ctr = s.ctr := rfl
@[simp] theorem State.set_fateQ (f : Fld) (v : Nat) : (State.set f v s).fateQ = s.fateQ := rfl
@[simp] theorem State.set_wrapped (f : Fld) (v : Nat) : (State.set f v s).wrapped = s.wrapped := rfl
@[simp] theorem State.set_frames (f : Fld) (v : Nat) : (State.set f v s).frames = s.frames := rfl
@[simp] theorem State.set_nextId (f : Fld) (v : Nat) : (State.set f v s).nextId = s.nextId := rfl
@[simp] theorem State.set_era (f : Fld) (v : Nat) : (State.set f v s).era = s.era := rfl
@[simp] theorem State.set_sent (f : Fld) (v : Nat) : (State.set f v s).sent = s.sent := rfl
@[simp] theorem State.set_rxData (f : Fld) (v : Nat) : (State.set f v s).rxData = s.rxData := rfl
@[simp] theorem State.set_sheds (f : Fld) (v : Nat) : (State.set f v s).sheds = s.sheds := rfl
@[simp] theorem State.set_bobbins (f : Fld) (v : Nat) : (State.set f v s).bobbins = s.bobbins := rfl
@[simp] theorem State.set_bobbinNow (f : Fld) (v : Nat) : (State.set f v s).bobbinNow = s.bobbinNow := rfl
@[simp] theorem State.set_macWas (f : Fld) (v : Nat) : (State.set f v s).macWas = s.macWas := rfl
@[simp] theorem State.set_bobbinEp (f : Fld) (v : Nat) : (State.set f v s).bobbinEp = s.bobbinEp := rfl
@[simp] theorem State.set_pauseFor (f : Fld) (v : Nat) : (State.set f v s).pauseFor = s.pauseFor := rfl
@[simp] theorem State.set_ctlQ (f : Fld) (v : Nat) : (State.set f v s).ctlQ = s.ctlQ := rfl
@[simp] theorem State.set_ctlSent (f : Fld) (v : Nat) : (State.set f v s).ctlSent = s.ctlSent := rfl
@[simp] theorem State.set_portRst (f : Fld) (v : Nat) : (State.set f v s).portRst = s.portRst := rfl
@[simp] theorem State.set_rules (f : Fld) (v : Nat) : (State.set f v s).rules = s.rules := rfl
@[simp] theorem State.set_swaps (f : Fld) (v : Nat) : (State.set f v s).swaps = s.swaps := rfl
@[simp] theorem State.set_swapSeq (f : Fld) (v : Nat) : (State.set f v s).swapSeq = s.swapSeq := rfl
@[simp] theorem State.set_writer (f : Fld) (v : Nat) : (State.set f v s).writer = s.writer := rfl
@[simp] theorem State.set_writeQ (f : Fld) (v : Nat) : (State.set f v s).writeQ = s.writeQ := rfl
@[simp] theorem State.set_swapWait (f : Fld) (v : Nat) : (State.set f v s).swapWait = s.swapWait := rfl
@[simp] theorem State.set_fdb (f : Fld) (v : Nat) : (State.set f v s).fdb = s.fdb := rfl
@[simp] theorem State.set_fdbTouched (f : Fld) (v : Nat) : (State.set f v s).fdbTouched = s.fdbTouched := rfl
@[simp] theorem State.set_fdbFlushes (f : Fld) (v : Nat) : (State.set f v s).fdbFlushes = s.fdbFlushes := rfl
@[simp] theorem State.set_fdbFreed (f : Fld) (v : Nat) : (State.set f v s).fdbFreed = s.fdbFreed := rfl
@[simp] theorem State.set_hedPtr (f : Fld) (v : Nat) : (State.set f v s).hedPtr = s.hedPtr := rfl
@[simp] theorem State.set_headSeq (f : Fld) (v : Nat) : (State.set f v s).headSeq = s.headSeq := rfl
@[simp] theorem State.set_hedJobs (f : Fld) (v : Nat) : (State.set f v s).hedJobs = s.hedJobs := rfl
@[simp] theorem State.set_shuttles (f : Fld) (v : Nat) : (State.set f v s).shuttles = s.shuttles := rfl
@[simp] theorem State.set_pairs (f : Fld) (v : Nat) : (State.set f v s).pairs = s.pairs := rfl
@[simp] theorem State.set_picksNow (f : Fld) (v : Nat) : (State.set f v s).picksNow = s.picksNow := rfl
@[simp] theorem State.set_groupWas (f : Fld) (v : Nat) : (State.set f v s).groupWas = s.groupWas := rfl
@[simp] theorem State.set_rows (f : Fld) (v : Nat) : (State.set f v s).rows = s.rows := rfl
@[simp] theorem State.set_warpPtr (f : Fld) (v : Nat) : (State.set f v s).warpPtr = s.warpPtr := rfl
@[simp] theorem State.set_nodeRst (f : Fld) (v : Nat) : (State.set f v s).nodeRst = s.nodeRst := rfl
@[simp] theorem State.set_innerHold (f : Fld) (v : Nat) : (State.set f v s).innerHold = s.innerHold := rfl
@[simp] theorem State.set_mirrors (f : Fld) (v : Nat) : (State.set f v s).mirrors = s.mirrors := rfl
@[simp] theorem State.set_headShort (f : Fld) (v : Nat) : (State.set f v s).headShort = s.headShort := rfl
@[simp] theorem State.set_drr (f : Fld) (v : Nat) : (State.set f v s).drr = s.drr := rfl
@[simp] theorem State.set_balance (f : Fld) (v : Nat) : (State.set f v s).balance = s.balance := rfl
@[simp] theorem State.set_pool (f : Fld) (v : Nat) : (State.set f v s).pool = s.pool := rfl
@[simp] theorem State.set_unitsNow (f : Fld) (v : Nat) : (State.set f v s).unitsNow = s.unitsNow := rfl
@[simp] theorem State.set_unitsLast (f : Fld) (v : Nat) : (State.set f v s).unitsLast = s.unitsLast := rfl
@[simp] theorem State.set_demand (f : Fld) (v : Nat) : (State.set f v s).demand = s.demand := rfl
@[simp] theorem State.set_oeLow (f : Fld) (v : Nat) : (State.set f v s).oeLow = s.oeLow := rfl
@[simp] theorem State.set_deskewed (f : Fld) (v : Nat) : (State.set f v s).deskewed = s.deskewed := rfl
@[simp] theorem State.set_eqMoves (f : Fld) (v : Nat) : (State.set f v s).eqMoves = s.eqMoves := rfl
@[simp] theorem State.set_elapsed (f : Fld) (v : Nat) : (State.set f v s).elapsed = s.elapsed := rfl
@[simp] theorem State.set_scaleAcc (f : Fld) (v : Nat) : (State.set f v s).scaleAcc = s.scaleAcc := rfl
@[simp] theorem State.set_corrAcc (f : Fld) (v : Nat) : (State.set f v s).corrAcc = s.corrAcc := rfl
@[simp] theorem State.set_spareWin (f : Fld) (v : Nat) : (State.set f v s).spareWin = s.spareWin := rfl
@[simp] theorem State.set_spareBad (f : Fld) (v : Nat) : (State.set f v s).spareBad = s.spareBad := rfl
@[simp] theorem State.set_ovenSeen (f : Fld) (v : Nat) : (State.set f v s).ovenSeen = s.ovenSeen := rfl
@[simp] theorem State.set_chans (f : Fld) (v : Nat) : (State.set f v s).chans = s.chans := rfl
@[simp] theorem State.set_slots (f : Fld) (v : Nat) : (State.set f v s).slots = s.slots := rfl
@[simp] theorem State.set_dpll (f : Fld) (v : Nat) : (State.set f v s).dpll = s.dpll := rfl
@[simp] theorem State.set_synStage (f : Fld) (v : Nat) : (State.set f v s).synStage = s.synStage := rfl
@[simp] theorem State.set_clkouts (f : Fld) (v : Nat) : (State.set f v s).clkouts = s.clkouts := rfl
@[simp] theorem State.set_pulses (f : Fld) (v : Nat) : (State.set f v s).pulses = s.pulses := rfl
@[simp] theorem State.set_treadles (f : Fld) (v : Nat) : (State.set f v s).treadles = s.treadles := rfl
@[simp] theorem State.set_ppsEdge (f : Fld) (v : Nat) : (State.set f v s).ppsEdge = s.ppsEdge := rfl
@[simp] theorem State.set_todSeq (f : Fld) (v : Nat) : (State.set f v s).todSeq = s.todSeq := rfl
@[simp] theorem State.set_todSent (f : Fld) (v : Nat) : (State.set f v s).todSent = s.todSent := rfl
@[simp] theorem State.set_timeSet (f : Fld) (v : Nat) : (State.set f v s).timeSet = s.timeSet := rfl
@[simp] theorem State.set_upstream (f : Fld) (v : Nat) : (State.set f v s).upstream = s.upstream := rfl
@[simp] theorem State.set_kpl (f : Fld) (v : Nat) : (State.set f v s).kpl = s.kpl := rfl
@[simp] theorem State.set_ptp (f : Fld) (v : Nat) : (State.set f v s).ptp = s.ptp := rfl
@[simp] theorem State.set_tcSyncs (f : Fld) (v : Nat) : (State.set f v s).tcSyncs = s.tcSyncs := rfl
@[simp] theorem State.set_tcMiss (f : Fld) (v : Nat) : (State.set f v s).tcMiss = s.tcMiss := rfl
@[simp] theorem State.set_gnss (f : Fld) (v : Nat) : (State.set f v s).gnss = s.gnss := rfl
@[simp] theorem State.set_cal (f : Fld) (v : Nat) : (State.set f v s).cal = s.cal := rfl
@[simp] theorem State.set_calMoves (f : Fld) (v : Nat) : (State.set f v s).calMoves = s.calMoves := rfl
@[simp] theorem State.set_calRuns (f : Fld) (v : Nat) : (State.set f v s).calRuns = s.calRuns := rfl
@[simp] theorem State.set_asyms (f : Fld) (v : Nat) : (State.set f v s).asyms = s.asyms := rfl
@[simp] theorem State.set_complexes (f : Fld) (v : Nat) : (State.set f v s).complexes = s.complexes := rfl
@[simp] theorem State.set_leadNext (f : Fld) (v : Nat) : (State.set f v s).leadNext = s.leadNext := rfl
@[simp] theorem State.set_dualLeft (f : Fld) (v : Nat) : (State.set f v s).dualLeft = s.dualLeft := rfl
@[simp] theorem State.set_acted (f : Fld) (v : Nat) : (State.set f v s).acted = s.acted := rfl
@[simp] theorem State.set_outWins (f : Fld) (v : Nat) : (State.set f v s).outWins = s.outWins := rfl
@[simp] theorem State.set_perfHold (f : Fld) (v : Nat) : (State.set f v s).perfHold = s.perfHold := rfl
@[simp] theorem State.set_logs (f : Fld) (v : Nat) : (State.set f v s).logs = s.logs := rfl
@[simp] theorem State.set_hedResets (f : Fld) (v : Nat) : (State.set f v s).hedResets = s.hedResets := rfl
@[simp] theorem State.set_tasks (f : Fld) (v : Nat) : (State.set f v s).tasks = s.tasks := rfl
@[simp] theorem State.set_batch (f : Fld) (v : Nat) : (State.set f v s).batch = s.batch := rfl
@[simp] theorem State.set_obs (f : Fld) (v : Nat) : (State.set f v s).obs = s.obs := rfl

/-! ### `State.setB` -/

@[simp] theorem State.setB_pending (f : Fld) (b : Bool) : (State.setB f b s).pending = s.pending := rfl
@[simp] theorem State.setB_freeIdx (f : Fld) (b : Bool) : (State.setB f b s).freeIdx = s.freeIdx := rfl
@[simp] theorem State.setB_rdata (f : Fld) (b : Bool) : (State.setB f b s).rdata = s.rdata := rfl
@[simp] theorem State.setB_latches (f : Fld) (b : Bool) : (State.setB f b s).latches = s.latches := rfl
@[simp] theorem State.setB_nt (f : Fld) (b : Bool) : (State.setB f b s).nt = s.nt := rfl
@[simp] theorem State.setB_timers (f : Fld) (b : Bool) : (State.setB f b s).timers = s.timers := rfl
@[simp] theorem State.setB_evals (f : Fld) (b : Bool) : (State.setB f b s).evals = s.evals := rfl
@[simp] theorem State.setB_safePhase (f : Fld) (b : Bool) : (State.setB f b s).safePhase = s.safePhase := rfl
@[simp] theorem State.setB_setNow (f : Fld) (b : Bool) : (State.setB f b s).setNow = s.setNow := rfl
@[simp] theorem State.setB_cycles (f : Fld) (b : Bool) : (State.setB f b s).cycles = s.cycles := rfl
@[simp] theorem State.setB_supply (f : Fld) (b : Bool) : (State.setB f b s).supply = s.supply := rfl
@[simp] theorem State.setB_vinOk (f : Fld) (b : Bool) : (State.setB f b s).vinOk = s.vinOk := rfl
@[simp] theorem State.setB_enable (f : Fld) (b : Bool) : (State.setB f b s).enable = s.enable := rfl
@[simp] theorem State.setB_vio (f : Fld) (b : Bool) : (State.setB f b s).vio = s.vio := rfl
@[simp] theorem State.setB_resetN (f : Fld) (b : Bool) : (State.setB f b s).resetN = s.resetN := rfl
@[simp] theorem State.setB_perstN (f : Fld) (b : Bool) : (State.setB f b s).perstN = s.perstN := rfl
@[simp] theorem State.setB_dieTemp (f : Fld) (b : Bool) : (State.setB f b s).dieTemp = s.dieTemp := rfl
@[simp] theorem State.setB_tap (f : Fld) (b : Bool) : (State.setB f b s).tap = s.tap := rfl
@[simp] theorem State.setB_order (f : Fld) (b : Bool) : (State.setB f b s).order = s.order := rfl
@[simp] theorem State.setB_bootNo (f : Fld) (b : Bool) : (State.setB f b s).bootNo = s.bootNo := rfl
@[simp] theorem State.setB_bootCause (f : Fld) (b : Bool) : (State.setB f b s).bootCause = s.bootCause := rfl
@[simp] theorem State.setB_ledgerOff (f : Fld) (b : Bool) : (State.setB f b s).ledgerOff = s.ledgerOff := rfl
@[simp] theorem State.setB_early (f : Fld) (b : Bool) : (State.setB f b s).early = s.early := rfl
@[simp] theorem State.setB_bootFb (f : Fld) (b : Bool) : (State.setB f b s).bootFb = s.bootFb := rfl
@[simp] theorem State.setB_fell (f : Fld) (b : Bool) : (State.setB f b s).fell = s.fell := rfl
@[simp] theorem State.setB_debugHold (f : Fld) (b : Bool) : (State.setB f b s).debugHold = s.debugHold := rfl
@[simp] theorem State.setB_wasBusy (f : Fld) (b : Bool) : (State.setB f b s).wasBusy = s.wasBusy := rfl
@[simp] theorem State.setB_ledger (f : Fld) (b : Bool) : (State.setB f b s).ledger = s.ledger := rfl
@[simp] theorem State.setB_norHdr (f : Fld) (b : Bool) : (State.setB f b s).norHdr = s.norHdr := rfl
@[simp] theorem State.setB_framHdr (f : Fld) (b : Bool) : (State.setB f b s).framHdr = s.framHdr := rfl
@[simp] theorem State.setB_commits (f : Fld) (b : Bool) : (State.setB f b s).commits = s.commits := rfl
@[simp] theorem State.setB_nor (f : Fld) (b : Bool) : (State.setB f b s).nor = s.nor := rfl
@[simp] theorem State.setB_job (f : Fld) (b : Bool) : (State.setB f b s).job = s.job := rfl
@[simp] theorem State.setB_cfgApply (f : Fld) (b : Bool) : (State.setB f b s).cfgApply = s.cfgApply := rfl
@[simp] theorem State.setB_stallWait (f : Fld) (b : Bool) : (State.setB f b s).stallWait = s.stallWait := rfl
@[simp] theorem State.setB_onBootOsc (f : Fld) (b : Bool) : (State.setB f b s).onBootOsc = s.onBootOsc := rfl
@[simp] theorem State.setB_elemHeld (f : Fld) (b : Bool) : (State.setB f b s).elemHeld = s.elemHeld := rfl
@[simp] theorem State.setB_rings (f : Fld) (b : Bool) : (State.setB f b s).rings = s.rings := rfl
@[simp] theorem State.setB_accepted (f : Fld) (b : Bool) : (State.setB f b s).accepted = s.accepted := rfl
@[simp] theorem State.setB_cq (f : Fld) (b : Bool) : (State.setB f b s).cq = s.cq := rfl
@[simp] theorem State.setB_cqHeld (f : Fld) (b : Bool) : (State.setB f b s).cqHeld = s.cqHeld := rfl
@[simp] theorem State.setB_attnNow (f : Fld) (b : Bool) : (State.setB f b s).attnNow = s.attnNow := rfl
@[simp] theorem State.setB_msixSent (f : Fld) (b : Bool) : (State.setB f b s).msixSent = s.msixSent := rfl
@[simp] theorem State.setB_relinkLog (f : Fld) (b : Bool) : (State.setB f b s).relinkLog = s.relinkLog := rfl
@[simp] theorem State.setB_dbNow (f : Fld) (b : Bool) : (State.setB f b s).dbNow = s.dbNow := rfl
@[simp] theorem State.setB_wroteNow (f : Fld) (b : Bool) : (State.setB f b s).wroteNow = s.wroteNow := rfl
@[simp] theorem State.setB_cfgRetry (f : Fld) (b : Bool) : (State.setB f b s).cfgRetry = s.cfgRetry := rfl
@[simp] theorem State.setB_ctr (f : Fld) (b : Bool) : (State.setB f b s).ctr = s.ctr := rfl
@[simp] theorem State.setB_fateQ (f : Fld) (b : Bool) : (State.setB f b s).fateQ = s.fateQ := rfl
@[simp] theorem State.setB_wrapped (f : Fld) (b : Bool) : (State.setB f b s).wrapped = s.wrapped := rfl
@[simp] theorem State.setB_frames (f : Fld) (b : Bool) : (State.setB f b s).frames = s.frames := rfl
@[simp] theorem State.setB_nextId (f : Fld) (b : Bool) : (State.setB f b s).nextId = s.nextId := rfl
@[simp] theorem State.setB_era (f : Fld) (b : Bool) : (State.setB f b s).era = s.era := rfl
@[simp] theorem State.setB_sent (f : Fld) (b : Bool) : (State.setB f b s).sent = s.sent := rfl
@[simp] theorem State.setB_rxData (f : Fld) (b : Bool) : (State.setB f b s).rxData = s.rxData := rfl
@[simp] theorem State.setB_sheds (f : Fld) (b : Bool) : (State.setB f b s).sheds = s.sheds := rfl
@[simp] theorem State.setB_bobbins (f : Fld) (b : Bool) : (State.setB f b s).bobbins = s.bobbins := rfl
@[simp] theorem State.setB_bobbinNow (f : Fld) (b : Bool) : (State.setB f b s).bobbinNow = s.bobbinNow := rfl
@[simp] theorem State.setB_macWas (f : Fld) (b : Bool) : (State.setB f b s).macWas = s.macWas := rfl
@[simp] theorem State.setB_bobbinEp (f : Fld) (b : Bool) : (State.setB f b s).bobbinEp = s.bobbinEp := rfl
@[simp] theorem State.setB_pauseFor (f : Fld) (b : Bool) : (State.setB f b s).pauseFor = s.pauseFor := rfl
@[simp] theorem State.setB_ctlQ (f : Fld) (b : Bool) : (State.setB f b s).ctlQ = s.ctlQ := rfl
@[simp] theorem State.setB_ctlSent (f : Fld) (b : Bool) : (State.setB f b s).ctlSent = s.ctlSent := rfl
@[simp] theorem State.setB_portRst (f : Fld) (b : Bool) : (State.setB f b s).portRst = s.portRst := rfl
@[simp] theorem State.setB_rules (f : Fld) (b : Bool) : (State.setB f b s).rules = s.rules := rfl
@[simp] theorem State.setB_swaps (f : Fld) (b : Bool) : (State.setB f b s).swaps = s.swaps := rfl
@[simp] theorem State.setB_swapSeq (f : Fld) (b : Bool) : (State.setB f b s).swapSeq = s.swapSeq := rfl
@[simp] theorem State.setB_writer (f : Fld) (b : Bool) : (State.setB f b s).writer = s.writer := rfl
@[simp] theorem State.setB_writeQ (f : Fld) (b : Bool) : (State.setB f b s).writeQ = s.writeQ := rfl
@[simp] theorem State.setB_swapWait (f : Fld) (b : Bool) : (State.setB f b s).swapWait = s.swapWait := rfl
@[simp] theorem State.setB_fdb (f : Fld) (b : Bool) : (State.setB f b s).fdb = s.fdb := rfl
@[simp] theorem State.setB_fdbTouched (f : Fld) (b : Bool) : (State.setB f b s).fdbTouched = s.fdbTouched := rfl
@[simp] theorem State.setB_fdbFlushes (f : Fld) (b : Bool) : (State.setB f b s).fdbFlushes = s.fdbFlushes := rfl
@[simp] theorem State.setB_fdbFreed (f : Fld) (b : Bool) : (State.setB f b s).fdbFreed = s.fdbFreed := rfl
@[simp] theorem State.setB_hedPtr (f : Fld) (b : Bool) : (State.setB f b s).hedPtr = s.hedPtr := rfl
@[simp] theorem State.setB_headSeq (f : Fld) (b : Bool) : (State.setB f b s).headSeq = s.headSeq := rfl
@[simp] theorem State.setB_hedJobs (f : Fld) (b : Bool) : (State.setB f b s).hedJobs = s.hedJobs := rfl
@[simp] theorem State.setB_shuttles (f : Fld) (b : Bool) : (State.setB f b s).shuttles = s.shuttles := rfl
@[simp] theorem State.setB_pairs (f : Fld) (b : Bool) : (State.setB f b s).pairs = s.pairs := rfl
@[simp] theorem State.setB_picksNow (f : Fld) (b : Bool) : (State.setB f b s).picksNow = s.picksNow := rfl
@[simp] theorem State.setB_groupWas (f : Fld) (b : Bool) : (State.setB f b s).groupWas = s.groupWas := rfl
@[simp] theorem State.setB_rows (f : Fld) (b : Bool) : (State.setB f b s).rows = s.rows := rfl
@[simp] theorem State.setB_warpPtr (f : Fld) (b : Bool) : (State.setB f b s).warpPtr = s.warpPtr := rfl
@[simp] theorem State.setB_nodeRst (f : Fld) (b : Bool) : (State.setB f b s).nodeRst = s.nodeRst := rfl
@[simp] theorem State.setB_innerHold (f : Fld) (b : Bool) : (State.setB f b s).innerHold = s.innerHold := rfl
@[simp] theorem State.setB_mirrors (f : Fld) (b : Bool) : (State.setB f b s).mirrors = s.mirrors := rfl
@[simp] theorem State.setB_headShort (f : Fld) (b : Bool) : (State.setB f b s).headShort = s.headShort := rfl
@[simp] theorem State.setB_drr (f : Fld) (b : Bool) : (State.setB f b s).drr = s.drr := rfl
@[simp] theorem State.setB_balance (f : Fld) (b : Bool) : (State.setB f b s).balance = s.balance := rfl
@[simp] theorem State.setB_pool (f : Fld) (b : Bool) : (State.setB f b s).pool = s.pool := rfl
@[simp] theorem State.setB_unitsNow (f : Fld) (b : Bool) : (State.setB f b s).unitsNow = s.unitsNow := rfl
@[simp] theorem State.setB_unitsLast (f : Fld) (b : Bool) : (State.setB f b s).unitsLast = s.unitsLast := rfl
@[simp] theorem State.setB_demand (f : Fld) (b : Bool) : (State.setB f b s).demand = s.demand := rfl
@[simp] theorem State.setB_oeLow (f : Fld) (b : Bool) : (State.setB f b s).oeLow = s.oeLow := rfl
@[simp] theorem State.setB_deskewed (f : Fld) (b : Bool) : (State.setB f b s).deskewed = s.deskewed := rfl
@[simp] theorem State.setB_eqMoves (f : Fld) (b : Bool) : (State.setB f b s).eqMoves = s.eqMoves := rfl
@[simp] theorem State.setB_elapsed (f : Fld) (b : Bool) : (State.setB f b s).elapsed = s.elapsed := rfl
@[simp] theorem State.setB_scaleAcc (f : Fld) (b : Bool) : (State.setB f b s).scaleAcc = s.scaleAcc := rfl
@[simp] theorem State.setB_corrAcc (f : Fld) (b : Bool) : (State.setB f b s).corrAcc = s.corrAcc := rfl
@[simp] theorem State.setB_spareWin (f : Fld) (b : Bool) : (State.setB f b s).spareWin = s.spareWin := rfl
@[simp] theorem State.setB_spareBad (f : Fld) (b : Bool) : (State.setB f b s).spareBad = s.spareBad := rfl
@[simp] theorem State.setB_ovenSeen (f : Fld) (b : Bool) : (State.setB f b s).ovenSeen = s.ovenSeen := rfl
@[simp] theorem State.setB_chans (f : Fld) (b : Bool) : (State.setB f b s).chans = s.chans := rfl
@[simp] theorem State.setB_slots (f : Fld) (b : Bool) : (State.setB f b s).slots = s.slots := rfl
@[simp] theorem State.setB_dpll (f : Fld) (b : Bool) : (State.setB f b s).dpll = s.dpll := rfl
@[simp] theorem State.setB_synStage (f : Fld) (b : Bool) : (State.setB f b s).synStage = s.synStage := rfl
@[simp] theorem State.setB_clkouts (f : Fld) (b : Bool) : (State.setB f b s).clkouts = s.clkouts := rfl
@[simp] theorem State.setB_pulses (f : Fld) (b : Bool) : (State.setB f b s).pulses = s.pulses := rfl
@[simp] theorem State.setB_treadles (f : Fld) (b : Bool) : (State.setB f b s).treadles = s.treadles := rfl
@[simp] theorem State.setB_ppsEdge (f : Fld) (b : Bool) : (State.setB f b s).ppsEdge = s.ppsEdge := rfl
@[simp] theorem State.setB_todSeq (f : Fld) (b : Bool) : (State.setB f b s).todSeq = s.todSeq := rfl
@[simp] theorem State.setB_todSent (f : Fld) (b : Bool) : (State.setB f b s).todSent = s.todSent := rfl
@[simp] theorem State.setB_timeSet (f : Fld) (b : Bool) : (State.setB f b s).timeSet = s.timeSet := rfl
@[simp] theorem State.setB_upstream (f : Fld) (b : Bool) : (State.setB f b s).upstream = s.upstream := rfl
@[simp] theorem State.setB_kpl (f : Fld) (b : Bool) : (State.setB f b s).kpl = s.kpl := rfl
@[simp] theorem State.setB_ptp (f : Fld) (b : Bool) : (State.setB f b s).ptp = s.ptp := rfl
@[simp] theorem State.setB_tcSyncs (f : Fld) (b : Bool) : (State.setB f b s).tcSyncs = s.tcSyncs := rfl
@[simp] theorem State.setB_tcMiss (f : Fld) (b : Bool) : (State.setB f b s).tcMiss = s.tcMiss := rfl
@[simp] theorem State.setB_gnss (f : Fld) (b : Bool) : (State.setB f b s).gnss = s.gnss := rfl
@[simp] theorem State.setB_cal (f : Fld) (b : Bool) : (State.setB f b s).cal = s.cal := rfl
@[simp] theorem State.setB_calMoves (f : Fld) (b : Bool) : (State.setB f b s).calMoves = s.calMoves := rfl
@[simp] theorem State.setB_calRuns (f : Fld) (b : Bool) : (State.setB f b s).calRuns = s.calRuns := rfl
@[simp] theorem State.setB_asyms (f : Fld) (b : Bool) : (State.setB f b s).asyms = s.asyms := rfl
@[simp] theorem State.setB_complexes (f : Fld) (b : Bool) : (State.setB f b s).complexes = s.complexes := rfl
@[simp] theorem State.setB_leadNext (f : Fld) (b : Bool) : (State.setB f b s).leadNext = s.leadNext := rfl
@[simp] theorem State.setB_dualLeft (f : Fld) (b : Bool) : (State.setB f b s).dualLeft = s.dualLeft := rfl
@[simp] theorem State.setB_acted (f : Fld) (b : Bool) : (State.setB f b s).acted = s.acted := rfl
@[simp] theorem State.setB_outWins (f : Fld) (b : Bool) : (State.setB f b s).outWins = s.outWins := rfl
@[simp] theorem State.setB_perfHold (f : Fld) (b : Bool) : (State.setB f b s).perfHold = s.perfHold := rfl
@[simp] theorem State.setB_logs (f : Fld) (b : Bool) : (State.setB f b s).logs = s.logs := rfl
@[simp] theorem State.setB_hedResets (f : Fld) (b : Bool) : (State.setB f b s).hedResets = s.hedResets := rfl
@[simp] theorem State.setB_tasks (f : Fld) (b : Bool) : (State.setB f b s).tasks = s.tasks := rfl
@[simp] theorem State.setB_batch (f : Fld) (b : Bool) : (State.setB f b s).batch = s.batch := rfl
@[simp] theorem State.setB_obs (f : Fld) (b : Bool) : (State.setB f b s).obs = s.obs := rfl

/-! ### `State.setI` -/

@[simp] theorem State.setI_pending (f : Fld) (i : Int) : (State.setI f i s).pending = s.pending := rfl
@[simp] theorem State.setI_freeIdx (f : Fld) (i : Int) : (State.setI f i s).freeIdx = s.freeIdx := rfl
@[simp] theorem State.setI_rdata (f : Fld) (i : Int) : (State.setI f i s).rdata = s.rdata := rfl
@[simp] theorem State.setI_latches (f : Fld) (i : Int) : (State.setI f i s).latches = s.latches := rfl
@[simp] theorem State.setI_nt (f : Fld) (i : Int) : (State.setI f i s).nt = s.nt := rfl
@[simp] theorem State.setI_timers (f : Fld) (i : Int) : (State.setI f i s).timers = s.timers := rfl
@[simp] theorem State.setI_evals (f : Fld) (i : Int) : (State.setI f i s).evals = s.evals := rfl
@[simp] theorem State.setI_safePhase (f : Fld) (i : Int) : (State.setI f i s).safePhase = s.safePhase := rfl
@[simp] theorem State.setI_setNow (f : Fld) (i : Int) : (State.setI f i s).setNow = s.setNow := rfl
@[simp] theorem State.setI_cycles (f : Fld) (i : Int) : (State.setI f i s).cycles = s.cycles := rfl
@[simp] theorem State.setI_supply (f : Fld) (i : Int) : (State.setI f i s).supply = s.supply := rfl
@[simp] theorem State.setI_vinOk (f : Fld) (i : Int) : (State.setI f i s).vinOk = s.vinOk := rfl
@[simp] theorem State.setI_enable (f : Fld) (i : Int) : (State.setI f i s).enable = s.enable := rfl
@[simp] theorem State.setI_vio (f : Fld) (i : Int) : (State.setI f i s).vio = s.vio := rfl
@[simp] theorem State.setI_resetN (f : Fld) (i : Int) : (State.setI f i s).resetN = s.resetN := rfl
@[simp] theorem State.setI_perstN (f : Fld) (i : Int) : (State.setI f i s).perstN = s.perstN := rfl
@[simp] theorem State.setI_dieTemp (f : Fld) (i : Int) : (State.setI f i s).dieTemp = s.dieTemp := rfl
@[simp] theorem State.setI_tap (f : Fld) (i : Int) : (State.setI f i s).tap = s.tap := rfl
@[simp] theorem State.setI_order (f : Fld) (i : Int) : (State.setI f i s).order = s.order := rfl
@[simp] theorem State.setI_bootNo (f : Fld) (i : Int) : (State.setI f i s).bootNo = s.bootNo := rfl
@[simp] theorem State.setI_bootCause (f : Fld) (i : Int) : (State.setI f i s).bootCause = s.bootCause := rfl
@[simp] theorem State.setI_ledgerOff (f : Fld) (i : Int) : (State.setI f i s).ledgerOff = s.ledgerOff := rfl
@[simp] theorem State.setI_early (f : Fld) (i : Int) : (State.setI f i s).early = s.early := rfl
@[simp] theorem State.setI_bootFb (f : Fld) (i : Int) : (State.setI f i s).bootFb = s.bootFb := rfl
@[simp] theorem State.setI_fell (f : Fld) (i : Int) : (State.setI f i s).fell = s.fell := rfl
@[simp] theorem State.setI_debugHold (f : Fld) (i : Int) : (State.setI f i s).debugHold = s.debugHold := rfl
@[simp] theorem State.setI_wasBusy (f : Fld) (i : Int) : (State.setI f i s).wasBusy = s.wasBusy := rfl
@[simp] theorem State.setI_ledger (f : Fld) (i : Int) : (State.setI f i s).ledger = s.ledger := rfl
@[simp] theorem State.setI_norHdr (f : Fld) (i : Int) : (State.setI f i s).norHdr = s.norHdr := rfl
@[simp] theorem State.setI_framHdr (f : Fld) (i : Int) : (State.setI f i s).framHdr = s.framHdr := rfl
@[simp] theorem State.setI_commits (f : Fld) (i : Int) : (State.setI f i s).commits = s.commits := rfl
@[simp] theorem State.setI_nor (f : Fld) (i : Int) : (State.setI f i s).nor = s.nor := rfl
@[simp] theorem State.setI_job (f : Fld) (i : Int) : (State.setI f i s).job = s.job := rfl
@[simp] theorem State.setI_cfgApply (f : Fld) (i : Int) : (State.setI f i s).cfgApply = s.cfgApply := rfl
@[simp] theorem State.setI_stallWait (f : Fld) (i : Int) : (State.setI f i s).stallWait = s.stallWait := rfl
@[simp] theorem State.setI_onBootOsc (f : Fld) (i : Int) : (State.setI f i s).onBootOsc = s.onBootOsc := rfl
@[simp] theorem State.setI_elemHeld (f : Fld) (i : Int) : (State.setI f i s).elemHeld = s.elemHeld := rfl
@[simp] theorem State.setI_rings (f : Fld) (i : Int) : (State.setI f i s).rings = s.rings := rfl
@[simp] theorem State.setI_accepted (f : Fld) (i : Int) : (State.setI f i s).accepted = s.accepted := rfl
@[simp] theorem State.setI_cq (f : Fld) (i : Int) : (State.setI f i s).cq = s.cq := rfl
@[simp] theorem State.setI_cqHeld (f : Fld) (i : Int) : (State.setI f i s).cqHeld = s.cqHeld := rfl
@[simp] theorem State.setI_attnNow (f : Fld) (i : Int) : (State.setI f i s).attnNow = s.attnNow := rfl
@[simp] theorem State.setI_msixSent (f : Fld) (i : Int) : (State.setI f i s).msixSent = s.msixSent := rfl
@[simp] theorem State.setI_relinkLog (f : Fld) (i : Int) : (State.setI f i s).relinkLog = s.relinkLog := rfl
@[simp] theorem State.setI_dbNow (f : Fld) (i : Int) : (State.setI f i s).dbNow = s.dbNow := rfl
@[simp] theorem State.setI_wroteNow (f : Fld) (i : Int) : (State.setI f i s).wroteNow = s.wroteNow := rfl
@[simp] theorem State.setI_cfgRetry (f : Fld) (i : Int) : (State.setI f i s).cfgRetry = s.cfgRetry := rfl
@[simp] theorem State.setI_ctr (f : Fld) (i : Int) : (State.setI f i s).ctr = s.ctr := rfl
@[simp] theorem State.setI_fateQ (f : Fld) (i : Int) : (State.setI f i s).fateQ = s.fateQ := rfl
@[simp] theorem State.setI_wrapped (f : Fld) (i : Int) : (State.setI f i s).wrapped = s.wrapped := rfl
@[simp] theorem State.setI_frames (f : Fld) (i : Int) : (State.setI f i s).frames = s.frames := rfl
@[simp] theorem State.setI_nextId (f : Fld) (i : Int) : (State.setI f i s).nextId = s.nextId := rfl
@[simp] theorem State.setI_era (f : Fld) (i : Int) : (State.setI f i s).era = s.era := rfl
@[simp] theorem State.setI_sent (f : Fld) (i : Int) : (State.setI f i s).sent = s.sent := rfl
@[simp] theorem State.setI_rxData (f : Fld) (i : Int) : (State.setI f i s).rxData = s.rxData := rfl
@[simp] theorem State.setI_sheds (f : Fld) (i : Int) : (State.setI f i s).sheds = s.sheds := rfl
@[simp] theorem State.setI_bobbins (f : Fld) (i : Int) : (State.setI f i s).bobbins = s.bobbins := rfl
@[simp] theorem State.setI_bobbinNow (f : Fld) (i : Int) : (State.setI f i s).bobbinNow = s.bobbinNow := rfl
@[simp] theorem State.setI_macWas (f : Fld) (i : Int) : (State.setI f i s).macWas = s.macWas := rfl
@[simp] theorem State.setI_bobbinEp (f : Fld) (i : Int) : (State.setI f i s).bobbinEp = s.bobbinEp := rfl
@[simp] theorem State.setI_pauseFor (f : Fld) (i : Int) : (State.setI f i s).pauseFor = s.pauseFor := rfl
@[simp] theorem State.setI_ctlQ (f : Fld) (i : Int) : (State.setI f i s).ctlQ = s.ctlQ := rfl
@[simp] theorem State.setI_ctlSent (f : Fld) (i : Int) : (State.setI f i s).ctlSent = s.ctlSent := rfl
@[simp] theorem State.setI_portRst (f : Fld) (i : Int) : (State.setI f i s).portRst = s.portRst := rfl
@[simp] theorem State.setI_rules (f : Fld) (i : Int) : (State.setI f i s).rules = s.rules := rfl
@[simp] theorem State.setI_swaps (f : Fld) (i : Int) : (State.setI f i s).swaps = s.swaps := rfl
@[simp] theorem State.setI_swapSeq (f : Fld) (i : Int) : (State.setI f i s).swapSeq = s.swapSeq := rfl
@[simp] theorem State.setI_writer (f : Fld) (i : Int) : (State.setI f i s).writer = s.writer := rfl
@[simp] theorem State.setI_writeQ (f : Fld) (i : Int) : (State.setI f i s).writeQ = s.writeQ := rfl
@[simp] theorem State.setI_swapWait (f : Fld) (i : Int) : (State.setI f i s).swapWait = s.swapWait := rfl
@[simp] theorem State.setI_fdb (f : Fld) (i : Int) : (State.setI f i s).fdb = s.fdb := rfl
@[simp] theorem State.setI_fdbTouched (f : Fld) (i : Int) : (State.setI f i s).fdbTouched = s.fdbTouched := rfl
@[simp] theorem State.setI_fdbFlushes (f : Fld) (i : Int) : (State.setI f i s).fdbFlushes = s.fdbFlushes := rfl
@[simp] theorem State.setI_fdbFreed (f : Fld) (i : Int) : (State.setI f i s).fdbFreed = s.fdbFreed := rfl
@[simp] theorem State.setI_hedPtr (f : Fld) (i : Int) : (State.setI f i s).hedPtr = s.hedPtr := rfl
@[simp] theorem State.setI_headSeq (f : Fld) (i : Int) : (State.setI f i s).headSeq = s.headSeq := rfl
@[simp] theorem State.setI_hedJobs (f : Fld) (i : Int) : (State.setI f i s).hedJobs = s.hedJobs := rfl
@[simp] theorem State.setI_shuttles (f : Fld) (i : Int) : (State.setI f i s).shuttles = s.shuttles := rfl
@[simp] theorem State.setI_pairs (f : Fld) (i : Int) : (State.setI f i s).pairs = s.pairs := rfl
@[simp] theorem State.setI_picksNow (f : Fld) (i : Int) : (State.setI f i s).picksNow = s.picksNow := rfl
@[simp] theorem State.setI_groupWas (f : Fld) (i : Int) : (State.setI f i s).groupWas = s.groupWas := rfl
@[simp] theorem State.setI_rows (f : Fld) (i : Int) : (State.setI f i s).rows = s.rows := rfl
@[simp] theorem State.setI_warpPtr (f : Fld) (i : Int) : (State.setI f i s).warpPtr = s.warpPtr := rfl
@[simp] theorem State.setI_nodeRst (f : Fld) (i : Int) : (State.setI f i s).nodeRst = s.nodeRst := rfl
@[simp] theorem State.setI_innerHold (f : Fld) (i : Int) : (State.setI f i s).innerHold = s.innerHold := rfl
@[simp] theorem State.setI_mirrors (f : Fld) (i : Int) : (State.setI f i s).mirrors = s.mirrors := rfl
@[simp] theorem State.setI_headShort (f : Fld) (i : Int) : (State.setI f i s).headShort = s.headShort := rfl
@[simp] theorem State.setI_drr (f : Fld) (i : Int) : (State.setI f i s).drr = s.drr := rfl
@[simp] theorem State.setI_balance (f : Fld) (i : Int) : (State.setI f i s).balance = s.balance := rfl
@[simp] theorem State.setI_pool (f : Fld) (i : Int) : (State.setI f i s).pool = s.pool := rfl
@[simp] theorem State.setI_unitsNow (f : Fld) (i : Int) : (State.setI f i s).unitsNow = s.unitsNow := rfl
@[simp] theorem State.setI_unitsLast (f : Fld) (i : Int) : (State.setI f i s).unitsLast = s.unitsLast := rfl
@[simp] theorem State.setI_demand (f : Fld) (i : Int) : (State.setI f i s).demand = s.demand := rfl
@[simp] theorem State.setI_oeLow (f : Fld) (i : Int) : (State.setI f i s).oeLow = s.oeLow := rfl
@[simp] theorem State.setI_deskewed (f : Fld) (i : Int) : (State.setI f i s).deskewed = s.deskewed := rfl
@[simp] theorem State.setI_eqMoves (f : Fld) (i : Int) : (State.setI f i s).eqMoves = s.eqMoves := rfl
@[simp] theorem State.setI_elapsed (f : Fld) (i : Int) : (State.setI f i s).elapsed = s.elapsed := rfl
@[simp] theorem State.setI_scaleAcc (f : Fld) (i : Int) : (State.setI f i s).scaleAcc = s.scaleAcc := rfl
@[simp] theorem State.setI_corrAcc (f : Fld) (i : Int) : (State.setI f i s).corrAcc = s.corrAcc := rfl
@[simp] theorem State.setI_spareWin (f : Fld) (i : Int) : (State.setI f i s).spareWin = s.spareWin := rfl
@[simp] theorem State.setI_spareBad (f : Fld) (i : Int) : (State.setI f i s).spareBad = s.spareBad := rfl
@[simp] theorem State.setI_ovenSeen (f : Fld) (i : Int) : (State.setI f i s).ovenSeen = s.ovenSeen := rfl
@[simp] theorem State.setI_chans (f : Fld) (i : Int) : (State.setI f i s).chans = s.chans := rfl
@[simp] theorem State.setI_slots (f : Fld) (i : Int) : (State.setI f i s).slots = s.slots := rfl
@[simp] theorem State.setI_dpll (f : Fld) (i : Int) : (State.setI f i s).dpll = s.dpll := rfl
@[simp] theorem State.setI_synStage (f : Fld) (i : Int) : (State.setI f i s).synStage = s.synStage := rfl
@[simp] theorem State.setI_clkouts (f : Fld) (i : Int) : (State.setI f i s).clkouts = s.clkouts := rfl
@[simp] theorem State.setI_pulses (f : Fld) (i : Int) : (State.setI f i s).pulses = s.pulses := rfl
@[simp] theorem State.setI_treadles (f : Fld) (i : Int) : (State.setI f i s).treadles = s.treadles := rfl
@[simp] theorem State.setI_ppsEdge (f : Fld) (i : Int) : (State.setI f i s).ppsEdge = s.ppsEdge := rfl
@[simp] theorem State.setI_todSeq (f : Fld) (i : Int) : (State.setI f i s).todSeq = s.todSeq := rfl
@[simp] theorem State.setI_todSent (f : Fld) (i : Int) : (State.setI f i s).todSent = s.todSent := rfl
@[simp] theorem State.setI_timeSet (f : Fld) (i : Int) : (State.setI f i s).timeSet = s.timeSet := rfl
@[simp] theorem State.setI_upstream (f : Fld) (i : Int) : (State.setI f i s).upstream = s.upstream := rfl
@[simp] theorem State.setI_kpl (f : Fld) (i : Int) : (State.setI f i s).kpl = s.kpl := rfl
@[simp] theorem State.setI_ptp (f : Fld) (i : Int) : (State.setI f i s).ptp = s.ptp := rfl
@[simp] theorem State.setI_tcSyncs (f : Fld) (i : Int) : (State.setI f i s).tcSyncs = s.tcSyncs := rfl
@[simp] theorem State.setI_tcMiss (f : Fld) (i : Int) : (State.setI f i s).tcMiss = s.tcMiss := rfl
@[simp] theorem State.setI_gnss (f : Fld) (i : Int) : (State.setI f i s).gnss = s.gnss := rfl
@[simp] theorem State.setI_cal (f : Fld) (i : Int) : (State.setI f i s).cal = s.cal := rfl
@[simp] theorem State.setI_calMoves (f : Fld) (i : Int) : (State.setI f i s).calMoves = s.calMoves := rfl
@[simp] theorem State.setI_calRuns (f : Fld) (i : Int) : (State.setI f i s).calRuns = s.calRuns := rfl
@[simp] theorem State.setI_asyms (f : Fld) (i : Int) : (State.setI f i s).asyms = s.asyms := rfl
@[simp] theorem State.setI_complexes (f : Fld) (i : Int) : (State.setI f i s).complexes = s.complexes := rfl
@[simp] theorem State.setI_leadNext (f : Fld) (i : Int) : (State.setI f i s).leadNext = s.leadNext := rfl
@[simp] theorem State.setI_dualLeft (f : Fld) (i : Int) : (State.setI f i s).dualLeft = s.dualLeft := rfl
@[simp] theorem State.setI_acted (f : Fld) (i : Int) : (State.setI f i s).acted = s.acted := rfl
@[simp] theorem State.setI_outWins (f : Fld) (i : Int) : (State.setI f i s).outWins = s.outWins := rfl
@[simp] theorem State.setI_perfHold (f : Fld) (i : Int) : (State.setI f i s).perfHold = s.perfHold := rfl
@[simp] theorem State.setI_logs (f : Fld) (i : Int) : (State.setI f i s).logs = s.logs := rfl
@[simp] theorem State.setI_hedResets (f : Fld) (i : Int) : (State.setI f i s).hedResets = s.hedResets := rfl
@[simp] theorem State.setI_tasks (f : Fld) (i : Int) : (State.setI f i s).tasks = s.tasks := rfl
@[simp] theorem State.setI_batch (f : Fld) (i : Int) : (State.setI f i s).batch = s.batch := rfl
@[simp] theorem State.setI_obs (f : Fld) (i : Int) : (State.setI f i s).obs = s.obs := rfl

/-! ### `State.bump` -/

@[simp] theorem State.bump_pending (f : Fld) (n : Nat) : (State.bump f n s).pending = s.pending := rfl
@[simp] theorem State.bump_freeIdx (f : Fld) (n : Nat) : (State.bump f n s).freeIdx = s.freeIdx := rfl
@[simp] theorem State.bump_rdata (f : Fld) (n : Nat) : (State.bump f n s).rdata = s.rdata := rfl
@[simp] theorem State.bump_latches (f : Fld) (n : Nat) : (State.bump f n s).latches = s.latches := rfl
@[simp] theorem State.bump_nt (f : Fld) (n : Nat) : (State.bump f n s).nt = s.nt := rfl
@[simp] theorem State.bump_timers (f : Fld) (n : Nat) : (State.bump f n s).timers = s.timers := rfl
@[simp] theorem State.bump_evals (f : Fld) (n : Nat) : (State.bump f n s).evals = s.evals := rfl
@[simp] theorem State.bump_safePhase (f : Fld) (n : Nat) : (State.bump f n s).safePhase = s.safePhase := rfl
@[simp] theorem State.bump_setNow (f : Fld) (n : Nat) : (State.bump f n s).setNow = s.setNow := rfl
@[simp] theorem State.bump_cycles (f : Fld) (n : Nat) : (State.bump f n s).cycles = s.cycles := rfl
@[simp] theorem State.bump_supply (f : Fld) (n : Nat) : (State.bump f n s).supply = s.supply := rfl
@[simp] theorem State.bump_vinOk (f : Fld) (n : Nat) : (State.bump f n s).vinOk = s.vinOk := rfl
@[simp] theorem State.bump_enable (f : Fld) (n : Nat) : (State.bump f n s).enable = s.enable := rfl
@[simp] theorem State.bump_vio (f : Fld) (n : Nat) : (State.bump f n s).vio = s.vio := rfl
@[simp] theorem State.bump_resetN (f : Fld) (n : Nat) : (State.bump f n s).resetN = s.resetN := rfl
@[simp] theorem State.bump_perstN (f : Fld) (n : Nat) : (State.bump f n s).perstN = s.perstN := rfl
@[simp] theorem State.bump_dieTemp (f : Fld) (n : Nat) : (State.bump f n s).dieTemp = s.dieTemp := rfl
@[simp] theorem State.bump_tap (f : Fld) (n : Nat) : (State.bump f n s).tap = s.tap := rfl
@[simp] theorem State.bump_order (f : Fld) (n : Nat) : (State.bump f n s).order = s.order := rfl
@[simp] theorem State.bump_bootNo (f : Fld) (n : Nat) : (State.bump f n s).bootNo = s.bootNo := rfl
@[simp] theorem State.bump_bootCause (f : Fld) (n : Nat) : (State.bump f n s).bootCause = s.bootCause := rfl
@[simp] theorem State.bump_ledgerOff (f : Fld) (n : Nat) : (State.bump f n s).ledgerOff = s.ledgerOff := rfl
@[simp] theorem State.bump_early (f : Fld) (n : Nat) : (State.bump f n s).early = s.early := rfl
@[simp] theorem State.bump_bootFb (f : Fld) (n : Nat) : (State.bump f n s).bootFb = s.bootFb := rfl
@[simp] theorem State.bump_fell (f : Fld) (n : Nat) : (State.bump f n s).fell = s.fell := rfl
@[simp] theorem State.bump_debugHold (f : Fld) (n : Nat) : (State.bump f n s).debugHold = s.debugHold := rfl
@[simp] theorem State.bump_wasBusy (f : Fld) (n : Nat) : (State.bump f n s).wasBusy = s.wasBusy := rfl
@[simp] theorem State.bump_ledger (f : Fld) (n : Nat) : (State.bump f n s).ledger = s.ledger := rfl
@[simp] theorem State.bump_norHdr (f : Fld) (n : Nat) : (State.bump f n s).norHdr = s.norHdr := rfl
@[simp] theorem State.bump_framHdr (f : Fld) (n : Nat) : (State.bump f n s).framHdr = s.framHdr := rfl
@[simp] theorem State.bump_commits (f : Fld) (n : Nat) : (State.bump f n s).commits = s.commits := rfl
@[simp] theorem State.bump_nor (f : Fld) (n : Nat) : (State.bump f n s).nor = s.nor := rfl
@[simp] theorem State.bump_job (f : Fld) (n : Nat) : (State.bump f n s).job = s.job := rfl
@[simp] theorem State.bump_cfgApply (f : Fld) (n : Nat) : (State.bump f n s).cfgApply = s.cfgApply := rfl
@[simp] theorem State.bump_stallWait (f : Fld) (n : Nat) : (State.bump f n s).stallWait = s.stallWait := rfl
@[simp] theorem State.bump_onBootOsc (f : Fld) (n : Nat) : (State.bump f n s).onBootOsc = s.onBootOsc := rfl
@[simp] theorem State.bump_elemHeld (f : Fld) (n : Nat) : (State.bump f n s).elemHeld = s.elemHeld := rfl
@[simp] theorem State.bump_rings (f : Fld) (n : Nat) : (State.bump f n s).rings = s.rings := rfl
@[simp] theorem State.bump_accepted (f : Fld) (n : Nat) : (State.bump f n s).accepted = s.accepted := rfl
@[simp] theorem State.bump_cq (f : Fld) (n : Nat) : (State.bump f n s).cq = s.cq := rfl
@[simp] theorem State.bump_cqHeld (f : Fld) (n : Nat) : (State.bump f n s).cqHeld = s.cqHeld := rfl
@[simp] theorem State.bump_attnNow (f : Fld) (n : Nat) : (State.bump f n s).attnNow = s.attnNow := rfl
@[simp] theorem State.bump_msixSent (f : Fld) (n : Nat) : (State.bump f n s).msixSent = s.msixSent := rfl
@[simp] theorem State.bump_relinkLog (f : Fld) (n : Nat) : (State.bump f n s).relinkLog = s.relinkLog := rfl
@[simp] theorem State.bump_dbNow (f : Fld) (n : Nat) : (State.bump f n s).dbNow = s.dbNow := rfl
@[simp] theorem State.bump_wroteNow (f : Fld) (n : Nat) : (State.bump f n s).wroteNow = s.wroteNow := rfl
@[simp] theorem State.bump_cfgRetry (f : Fld) (n : Nat) : (State.bump f n s).cfgRetry = s.cfgRetry := rfl
@[simp] theorem State.bump_ctr (f : Fld) (n : Nat) : (State.bump f n s).ctr = s.ctr := rfl
@[simp] theorem State.bump_fateQ (f : Fld) (n : Nat) : (State.bump f n s).fateQ = s.fateQ := rfl
@[simp] theorem State.bump_wrapped (f : Fld) (n : Nat) : (State.bump f n s).wrapped = s.wrapped := rfl
@[simp] theorem State.bump_frames (f : Fld) (n : Nat) : (State.bump f n s).frames = s.frames := rfl
@[simp] theorem State.bump_nextId (f : Fld) (n : Nat) : (State.bump f n s).nextId = s.nextId := rfl
@[simp] theorem State.bump_era (f : Fld) (n : Nat) : (State.bump f n s).era = s.era := rfl
@[simp] theorem State.bump_sent (f : Fld) (n : Nat) : (State.bump f n s).sent = s.sent := rfl
@[simp] theorem State.bump_rxData (f : Fld) (n : Nat) : (State.bump f n s).rxData = s.rxData := rfl
@[simp] theorem State.bump_sheds (f : Fld) (n : Nat) : (State.bump f n s).sheds = s.sheds := rfl
@[simp] theorem State.bump_bobbins (f : Fld) (n : Nat) : (State.bump f n s).bobbins = s.bobbins := rfl
@[simp] theorem State.bump_bobbinNow (f : Fld) (n : Nat) : (State.bump f n s).bobbinNow = s.bobbinNow := rfl
@[simp] theorem State.bump_macWas (f : Fld) (n : Nat) : (State.bump f n s).macWas = s.macWas := rfl
@[simp] theorem State.bump_bobbinEp (f : Fld) (n : Nat) : (State.bump f n s).bobbinEp = s.bobbinEp := rfl
@[simp] theorem State.bump_pauseFor (f : Fld) (n : Nat) : (State.bump f n s).pauseFor = s.pauseFor := rfl
@[simp] theorem State.bump_ctlQ (f : Fld) (n : Nat) : (State.bump f n s).ctlQ = s.ctlQ := rfl
@[simp] theorem State.bump_ctlSent (f : Fld) (n : Nat) : (State.bump f n s).ctlSent = s.ctlSent := rfl
@[simp] theorem State.bump_portRst (f : Fld) (n : Nat) : (State.bump f n s).portRst = s.portRst := rfl
@[simp] theorem State.bump_rules (f : Fld) (n : Nat) : (State.bump f n s).rules = s.rules := rfl
@[simp] theorem State.bump_swaps (f : Fld) (n : Nat) : (State.bump f n s).swaps = s.swaps := rfl
@[simp] theorem State.bump_swapSeq (f : Fld) (n : Nat) : (State.bump f n s).swapSeq = s.swapSeq := rfl
@[simp] theorem State.bump_writer (f : Fld) (n : Nat) : (State.bump f n s).writer = s.writer := rfl
@[simp] theorem State.bump_writeQ (f : Fld) (n : Nat) : (State.bump f n s).writeQ = s.writeQ := rfl
@[simp] theorem State.bump_swapWait (f : Fld) (n : Nat) : (State.bump f n s).swapWait = s.swapWait := rfl
@[simp] theorem State.bump_fdb (f : Fld) (n : Nat) : (State.bump f n s).fdb = s.fdb := rfl
@[simp] theorem State.bump_fdbTouched (f : Fld) (n : Nat) : (State.bump f n s).fdbTouched = s.fdbTouched := rfl
@[simp] theorem State.bump_fdbFlushes (f : Fld) (n : Nat) : (State.bump f n s).fdbFlushes = s.fdbFlushes := rfl
@[simp] theorem State.bump_fdbFreed (f : Fld) (n : Nat) : (State.bump f n s).fdbFreed = s.fdbFreed := rfl
@[simp] theorem State.bump_hedPtr (f : Fld) (n : Nat) : (State.bump f n s).hedPtr = s.hedPtr := rfl
@[simp] theorem State.bump_headSeq (f : Fld) (n : Nat) : (State.bump f n s).headSeq = s.headSeq := rfl
@[simp] theorem State.bump_hedJobs (f : Fld) (n : Nat) : (State.bump f n s).hedJobs = s.hedJobs := rfl
@[simp] theorem State.bump_shuttles (f : Fld) (n : Nat) : (State.bump f n s).shuttles = s.shuttles := rfl
@[simp] theorem State.bump_pairs (f : Fld) (n : Nat) : (State.bump f n s).pairs = s.pairs := rfl
@[simp] theorem State.bump_picksNow (f : Fld) (n : Nat) : (State.bump f n s).picksNow = s.picksNow := rfl
@[simp] theorem State.bump_groupWas (f : Fld) (n : Nat) : (State.bump f n s).groupWas = s.groupWas := rfl
@[simp] theorem State.bump_rows (f : Fld) (n : Nat) : (State.bump f n s).rows = s.rows := rfl
@[simp] theorem State.bump_warpPtr (f : Fld) (n : Nat) : (State.bump f n s).warpPtr = s.warpPtr := rfl
@[simp] theorem State.bump_nodeRst (f : Fld) (n : Nat) : (State.bump f n s).nodeRst = s.nodeRst := rfl
@[simp] theorem State.bump_innerHold (f : Fld) (n : Nat) : (State.bump f n s).innerHold = s.innerHold := rfl
@[simp] theorem State.bump_mirrors (f : Fld) (n : Nat) : (State.bump f n s).mirrors = s.mirrors := rfl
@[simp] theorem State.bump_headShort (f : Fld) (n : Nat) : (State.bump f n s).headShort = s.headShort := rfl
@[simp] theorem State.bump_drr (f : Fld) (n : Nat) : (State.bump f n s).drr = s.drr := rfl
@[simp] theorem State.bump_balance (f : Fld) (n : Nat) : (State.bump f n s).balance = s.balance := rfl
@[simp] theorem State.bump_pool (f : Fld) (n : Nat) : (State.bump f n s).pool = s.pool := rfl
@[simp] theorem State.bump_unitsNow (f : Fld) (n : Nat) : (State.bump f n s).unitsNow = s.unitsNow := rfl
@[simp] theorem State.bump_unitsLast (f : Fld) (n : Nat) : (State.bump f n s).unitsLast = s.unitsLast := rfl
@[simp] theorem State.bump_demand (f : Fld) (n : Nat) : (State.bump f n s).demand = s.demand := rfl
@[simp] theorem State.bump_oeLow (f : Fld) (n : Nat) : (State.bump f n s).oeLow = s.oeLow := rfl
@[simp] theorem State.bump_deskewed (f : Fld) (n : Nat) : (State.bump f n s).deskewed = s.deskewed := rfl
@[simp] theorem State.bump_eqMoves (f : Fld) (n : Nat) : (State.bump f n s).eqMoves = s.eqMoves := rfl
@[simp] theorem State.bump_elapsed (f : Fld) (n : Nat) : (State.bump f n s).elapsed = s.elapsed := rfl
@[simp] theorem State.bump_scaleAcc (f : Fld) (n : Nat) : (State.bump f n s).scaleAcc = s.scaleAcc := rfl
@[simp] theorem State.bump_corrAcc (f : Fld) (n : Nat) : (State.bump f n s).corrAcc = s.corrAcc := rfl
@[simp] theorem State.bump_spareWin (f : Fld) (n : Nat) : (State.bump f n s).spareWin = s.spareWin := rfl
@[simp] theorem State.bump_spareBad (f : Fld) (n : Nat) : (State.bump f n s).spareBad = s.spareBad := rfl
@[simp] theorem State.bump_ovenSeen (f : Fld) (n : Nat) : (State.bump f n s).ovenSeen = s.ovenSeen := rfl
@[simp] theorem State.bump_chans (f : Fld) (n : Nat) : (State.bump f n s).chans = s.chans := rfl
@[simp] theorem State.bump_slots (f : Fld) (n : Nat) : (State.bump f n s).slots = s.slots := rfl
@[simp] theorem State.bump_dpll (f : Fld) (n : Nat) : (State.bump f n s).dpll = s.dpll := rfl
@[simp] theorem State.bump_synStage (f : Fld) (n : Nat) : (State.bump f n s).synStage = s.synStage := rfl
@[simp] theorem State.bump_clkouts (f : Fld) (n : Nat) : (State.bump f n s).clkouts = s.clkouts := rfl
@[simp] theorem State.bump_pulses (f : Fld) (n : Nat) : (State.bump f n s).pulses = s.pulses := rfl
@[simp] theorem State.bump_treadles (f : Fld) (n : Nat) : (State.bump f n s).treadles = s.treadles := rfl
@[simp] theorem State.bump_ppsEdge (f : Fld) (n : Nat) : (State.bump f n s).ppsEdge = s.ppsEdge := rfl
@[simp] theorem State.bump_todSeq (f : Fld) (n : Nat) : (State.bump f n s).todSeq = s.todSeq := rfl
@[simp] theorem State.bump_todSent (f : Fld) (n : Nat) : (State.bump f n s).todSent = s.todSent := rfl
@[simp] theorem State.bump_timeSet (f : Fld) (n : Nat) : (State.bump f n s).timeSet = s.timeSet := rfl
@[simp] theorem State.bump_upstream (f : Fld) (n : Nat) : (State.bump f n s).upstream = s.upstream := rfl
@[simp] theorem State.bump_kpl (f : Fld) (n : Nat) : (State.bump f n s).kpl = s.kpl := rfl
@[simp] theorem State.bump_ptp (f : Fld) (n : Nat) : (State.bump f n s).ptp = s.ptp := rfl
@[simp] theorem State.bump_tcSyncs (f : Fld) (n : Nat) : (State.bump f n s).tcSyncs = s.tcSyncs := rfl
@[simp] theorem State.bump_tcMiss (f : Fld) (n : Nat) : (State.bump f n s).tcMiss = s.tcMiss := rfl
@[simp] theorem State.bump_gnss (f : Fld) (n : Nat) : (State.bump f n s).gnss = s.gnss := rfl
@[simp] theorem State.bump_cal (f : Fld) (n : Nat) : (State.bump f n s).cal = s.cal := rfl
@[simp] theorem State.bump_calMoves (f : Fld) (n : Nat) : (State.bump f n s).calMoves = s.calMoves := rfl
@[simp] theorem State.bump_calRuns (f : Fld) (n : Nat) : (State.bump f n s).calRuns = s.calRuns := rfl
@[simp] theorem State.bump_asyms (f : Fld) (n : Nat) : (State.bump f n s).asyms = s.asyms := rfl
@[simp] theorem State.bump_complexes (f : Fld) (n : Nat) : (State.bump f n s).complexes = s.complexes := rfl
@[simp] theorem State.bump_leadNext (f : Fld) (n : Nat) : (State.bump f n s).leadNext = s.leadNext := rfl
@[simp] theorem State.bump_dualLeft (f : Fld) (n : Nat) : (State.bump f n s).dualLeft = s.dualLeft := rfl
@[simp] theorem State.bump_acted (f : Fld) (n : Nat) : (State.bump f n s).acted = s.acted := rfl
@[simp] theorem State.bump_outWins (f : Fld) (n : Nat) : (State.bump f n s).outWins = s.outWins := rfl
@[simp] theorem State.bump_perfHold (f : Fld) (n : Nat) : (State.bump f n s).perfHold = s.perfHold := rfl
@[simp] theorem State.bump_logs (f : Fld) (n : Nat) : (State.bump f n s).logs = s.logs := rfl
@[simp] theorem State.bump_hedResets (f : Fld) (n : Nat) : (State.bump f n s).hedResets = s.hedResets := rfl
@[simp] theorem State.bump_tasks (f : Fld) (n : Nat) : (State.bump f n s).tasks = s.tasks := rfl
@[simp] theorem State.bump_batch (f : Fld) (n : Nat) : (State.bump f n s).batch = s.batch := rfl
@[simp] theorem State.bump_obs (f : Fld) (n : Nat) : (State.bump f n s).obs = s.obs := rfl

/-! ### `State.set2` -/

@[simp] theorem State.set2_pending (a b w v : Nat) : (State.set2 a b w v s).pending = s.pending := rfl
@[simp] theorem State.set2_freeIdx (a b w v : Nat) : (State.set2 a b w v s).freeIdx = s.freeIdx := rfl
@[simp] theorem State.set2_rdata (a b w v : Nat) : (State.set2 a b w v s).rdata = s.rdata := rfl
@[simp] theorem State.set2_latches (a b w v : Nat) : (State.set2 a b w v s).latches = s.latches := rfl
@[simp] theorem State.set2_nt (a b w v : Nat) : (State.set2 a b w v s).nt = s.nt := rfl
@[simp] theorem State.set2_timers (a b w v : Nat) : (State.set2 a b w v s).timers = s.timers := rfl
@[simp] theorem State.set2_evals (a b w v : Nat) : (State.set2 a b w v s).evals = s.evals := rfl
@[simp] theorem State.set2_safePhase (a b w v : Nat) : (State.set2 a b w v s).safePhase = s.safePhase := rfl
@[simp] theorem State.set2_setNow (a b w v : Nat) : (State.set2 a b w v s).setNow = s.setNow := rfl
@[simp] theorem State.set2_cycles (a b w v : Nat) : (State.set2 a b w v s).cycles = s.cycles := rfl
@[simp] theorem State.set2_supply (a b w v : Nat) : (State.set2 a b w v s).supply = s.supply := rfl
@[simp] theorem State.set2_vinOk (a b w v : Nat) : (State.set2 a b w v s).vinOk = s.vinOk := rfl
@[simp] theorem State.set2_enable (a b w v : Nat) : (State.set2 a b w v s).enable = s.enable := rfl
@[simp] theorem State.set2_vio (a b w v : Nat) : (State.set2 a b w v s).vio = s.vio := rfl
@[simp] theorem State.set2_resetN (a b w v : Nat) : (State.set2 a b w v s).resetN = s.resetN := rfl
@[simp] theorem State.set2_perstN (a b w v : Nat) : (State.set2 a b w v s).perstN = s.perstN := rfl
@[simp] theorem State.set2_dieTemp (a b w v : Nat) : (State.set2 a b w v s).dieTemp = s.dieTemp := rfl
@[simp] theorem State.set2_tap (a b w v : Nat) : (State.set2 a b w v s).tap = s.tap := rfl
@[simp] theorem State.set2_order (a b w v : Nat) : (State.set2 a b w v s).order = s.order := rfl
@[simp] theorem State.set2_bootNo (a b w v : Nat) : (State.set2 a b w v s).bootNo = s.bootNo := rfl
@[simp] theorem State.set2_bootCause (a b w v : Nat) : (State.set2 a b w v s).bootCause = s.bootCause := rfl
@[simp] theorem State.set2_ledgerOff (a b w v : Nat) : (State.set2 a b w v s).ledgerOff = s.ledgerOff := rfl
@[simp] theorem State.set2_early (a b w v : Nat) : (State.set2 a b w v s).early = s.early := rfl
@[simp] theorem State.set2_bootFb (a b w v : Nat) : (State.set2 a b w v s).bootFb = s.bootFb := rfl
@[simp] theorem State.set2_fell (a b w v : Nat) : (State.set2 a b w v s).fell = s.fell := rfl
@[simp] theorem State.set2_debugHold (a b w v : Nat) : (State.set2 a b w v s).debugHold = s.debugHold := rfl
@[simp] theorem State.set2_wasBusy (a b w v : Nat) : (State.set2 a b w v s).wasBusy = s.wasBusy := rfl
@[simp] theorem State.set2_ledger (a b w v : Nat) : (State.set2 a b w v s).ledger = s.ledger := rfl
@[simp] theorem State.set2_norHdr (a b w v : Nat) : (State.set2 a b w v s).norHdr = s.norHdr := rfl
@[simp] theorem State.set2_framHdr (a b w v : Nat) : (State.set2 a b w v s).framHdr = s.framHdr := rfl
@[simp] theorem State.set2_commits (a b w v : Nat) : (State.set2 a b w v s).commits = s.commits := rfl
@[simp] theorem State.set2_nor (a b w v : Nat) : (State.set2 a b w v s).nor = s.nor := rfl
@[simp] theorem State.set2_job (a b w v : Nat) : (State.set2 a b w v s).job = s.job := rfl
@[simp] theorem State.set2_cfgApply (a b w v : Nat) : (State.set2 a b w v s).cfgApply = s.cfgApply := rfl
@[simp] theorem State.set2_stallWait (a b w v : Nat) : (State.set2 a b w v s).stallWait = s.stallWait := rfl
@[simp] theorem State.set2_onBootOsc (a b w v : Nat) : (State.set2 a b w v s).onBootOsc = s.onBootOsc := rfl
@[simp] theorem State.set2_elemHeld (a b w v : Nat) : (State.set2 a b w v s).elemHeld = s.elemHeld := rfl
@[simp] theorem State.set2_rings (a b w v : Nat) : (State.set2 a b w v s).rings = s.rings := rfl
@[simp] theorem State.set2_accepted (a b w v : Nat) : (State.set2 a b w v s).accepted = s.accepted := rfl
@[simp] theorem State.set2_cq (a b w v : Nat) : (State.set2 a b w v s).cq = s.cq := rfl
@[simp] theorem State.set2_cqHeld (a b w v : Nat) : (State.set2 a b w v s).cqHeld = s.cqHeld := rfl
@[simp] theorem State.set2_attnNow (a b w v : Nat) : (State.set2 a b w v s).attnNow = s.attnNow := rfl
@[simp] theorem State.set2_msixSent (a b w v : Nat) : (State.set2 a b w v s).msixSent = s.msixSent := rfl
@[simp] theorem State.set2_relinkLog (a b w v : Nat) : (State.set2 a b w v s).relinkLog = s.relinkLog := rfl
@[simp] theorem State.set2_dbNow (a b w v : Nat) : (State.set2 a b w v s).dbNow = s.dbNow := rfl
@[simp] theorem State.set2_wroteNow (a b w v : Nat) : (State.set2 a b w v s).wroteNow = s.wroteNow := rfl
@[simp] theorem State.set2_cfgRetry (a b w v : Nat) : (State.set2 a b w v s).cfgRetry = s.cfgRetry := rfl
@[simp] theorem State.set2_ctr (a b w v : Nat) : (State.set2 a b w v s).ctr = s.ctr := rfl
@[simp] theorem State.set2_fateQ (a b w v : Nat) : (State.set2 a b w v s).fateQ = s.fateQ := rfl
@[simp] theorem State.set2_wrapped (a b w v : Nat) : (State.set2 a b w v s).wrapped = s.wrapped := rfl
@[simp] theorem State.set2_frames (a b w v : Nat) : (State.set2 a b w v s).frames = s.frames := rfl
@[simp] theorem State.set2_nextId (a b w v : Nat) : (State.set2 a b w v s).nextId = s.nextId := rfl
@[simp] theorem State.set2_era (a b w v : Nat) : (State.set2 a b w v s).era = s.era := rfl
@[simp] theorem State.set2_sent (a b w v : Nat) : (State.set2 a b w v s).sent = s.sent := rfl
@[simp] theorem State.set2_rxData (a b w v : Nat) : (State.set2 a b w v s).rxData = s.rxData := rfl
@[simp] theorem State.set2_sheds (a b w v : Nat) : (State.set2 a b w v s).sheds = s.sheds := rfl
@[simp] theorem State.set2_bobbins (a b w v : Nat) : (State.set2 a b w v s).bobbins = s.bobbins := rfl
@[simp] theorem State.set2_bobbinNow (a b w v : Nat) : (State.set2 a b w v s).bobbinNow = s.bobbinNow := rfl
@[simp] theorem State.set2_macWas (a b w v : Nat) : (State.set2 a b w v s).macWas = s.macWas := rfl
@[simp] theorem State.set2_bobbinEp (a b w v : Nat) : (State.set2 a b w v s).bobbinEp = s.bobbinEp := rfl
@[simp] theorem State.set2_pauseFor (a b w v : Nat) : (State.set2 a b w v s).pauseFor = s.pauseFor := rfl
@[simp] theorem State.set2_ctlQ (a b w v : Nat) : (State.set2 a b w v s).ctlQ = s.ctlQ := rfl
@[simp] theorem State.set2_ctlSent (a b w v : Nat) : (State.set2 a b w v s).ctlSent = s.ctlSent := rfl
@[simp] theorem State.set2_portRst (a b w v : Nat) : (State.set2 a b w v s).portRst = s.portRst := rfl
@[simp] theorem State.set2_rules (a b w v : Nat) : (State.set2 a b w v s).rules = s.rules := rfl
@[simp] theorem State.set2_swaps (a b w v : Nat) : (State.set2 a b w v s).swaps = s.swaps := rfl
@[simp] theorem State.set2_swapSeq (a b w v : Nat) : (State.set2 a b w v s).swapSeq = s.swapSeq := rfl
@[simp] theorem State.set2_writer (a b w v : Nat) : (State.set2 a b w v s).writer = s.writer := rfl
@[simp] theorem State.set2_writeQ (a b w v : Nat) : (State.set2 a b w v s).writeQ = s.writeQ := rfl
@[simp] theorem State.set2_swapWait (a b w v : Nat) : (State.set2 a b w v s).swapWait = s.swapWait := rfl
@[simp] theorem State.set2_fdb (a b w v : Nat) : (State.set2 a b w v s).fdb = s.fdb := rfl
@[simp] theorem State.set2_fdbTouched (a b w v : Nat) : (State.set2 a b w v s).fdbTouched = s.fdbTouched := rfl
@[simp] theorem State.set2_fdbFlushes (a b w v : Nat) : (State.set2 a b w v s).fdbFlushes = s.fdbFlushes := rfl
@[simp] theorem State.set2_fdbFreed (a b w v : Nat) : (State.set2 a b w v s).fdbFreed = s.fdbFreed := rfl
@[simp] theorem State.set2_hedPtr (a b w v : Nat) : (State.set2 a b w v s).hedPtr = s.hedPtr := rfl
@[simp] theorem State.set2_headSeq (a b w v : Nat) : (State.set2 a b w v s).headSeq = s.headSeq := rfl
@[simp] theorem State.set2_hedJobs (a b w v : Nat) : (State.set2 a b w v s).hedJobs = s.hedJobs := rfl
@[simp] theorem State.set2_shuttles (a b w v : Nat) : (State.set2 a b w v s).shuttles = s.shuttles := rfl
@[simp] theorem State.set2_pairs (a b w v : Nat) : (State.set2 a b w v s).pairs = s.pairs := rfl
@[simp] theorem State.set2_picksNow (a b w v : Nat) : (State.set2 a b w v s).picksNow = s.picksNow := rfl
@[simp] theorem State.set2_groupWas (a b w v : Nat) : (State.set2 a b w v s).groupWas = s.groupWas := rfl
@[simp] theorem State.set2_rows (a b w v : Nat) : (State.set2 a b w v s).rows = s.rows := rfl
@[simp] theorem State.set2_warpPtr (a b w v : Nat) : (State.set2 a b w v s).warpPtr = s.warpPtr := rfl
@[simp] theorem State.set2_nodeRst (a b w v : Nat) : (State.set2 a b w v s).nodeRst = s.nodeRst := rfl
@[simp] theorem State.set2_innerHold (a b w v : Nat) : (State.set2 a b w v s).innerHold = s.innerHold := rfl
@[simp] theorem State.set2_mirrors (a b w v : Nat) : (State.set2 a b w v s).mirrors = s.mirrors := rfl
@[simp] theorem State.set2_headShort (a b w v : Nat) : (State.set2 a b w v s).headShort = s.headShort := rfl
@[simp] theorem State.set2_drr (a b w v : Nat) : (State.set2 a b w v s).drr = s.drr := rfl
@[simp] theorem State.set2_balance (a b w v : Nat) : (State.set2 a b w v s).balance = s.balance := rfl
@[simp] theorem State.set2_pool (a b w v : Nat) : (State.set2 a b w v s).pool = s.pool := rfl
@[simp] theorem State.set2_unitsNow (a b w v : Nat) : (State.set2 a b w v s).unitsNow = s.unitsNow := rfl
@[simp] theorem State.set2_unitsLast (a b w v : Nat) : (State.set2 a b w v s).unitsLast = s.unitsLast := rfl
@[simp] theorem State.set2_demand (a b w v : Nat) : (State.set2 a b w v s).demand = s.demand := rfl
@[simp] theorem State.set2_oeLow (a b w v : Nat) : (State.set2 a b w v s).oeLow = s.oeLow := rfl
@[simp] theorem State.set2_deskewed (a b w v : Nat) : (State.set2 a b w v s).deskewed = s.deskewed := rfl
@[simp] theorem State.set2_eqMoves (a b w v : Nat) : (State.set2 a b w v s).eqMoves = s.eqMoves := rfl
@[simp] theorem State.set2_elapsed (a b w v : Nat) : (State.set2 a b w v s).elapsed = s.elapsed := rfl
@[simp] theorem State.set2_scaleAcc (a b w v : Nat) : (State.set2 a b w v s).scaleAcc = s.scaleAcc := rfl
@[simp] theorem State.set2_corrAcc (a b w v : Nat) : (State.set2 a b w v s).corrAcc = s.corrAcc := rfl
@[simp] theorem State.set2_spareWin (a b w v : Nat) : (State.set2 a b w v s).spareWin = s.spareWin := rfl
@[simp] theorem State.set2_spareBad (a b w v : Nat) : (State.set2 a b w v s).spareBad = s.spareBad := rfl
@[simp] theorem State.set2_ovenSeen (a b w v : Nat) : (State.set2 a b w v s).ovenSeen = s.ovenSeen := rfl
@[simp] theorem State.set2_chans (a b w v : Nat) : (State.set2 a b w v s).chans = s.chans := rfl
@[simp] theorem State.set2_slots (a b w v : Nat) : (State.set2 a b w v s).slots = s.slots := rfl
@[simp] theorem State.set2_dpll (a b w v : Nat) : (State.set2 a b w v s).dpll = s.dpll := rfl
@[simp] theorem State.set2_synStage (a b w v : Nat) : (State.set2 a b w v s).synStage = s.synStage := rfl
@[simp] theorem State.set2_clkouts (a b w v : Nat) : (State.set2 a b w v s).clkouts = s.clkouts := rfl
@[simp] theorem State.set2_pulses (a b w v : Nat) : (State.set2 a b w v s).pulses = s.pulses := rfl
@[simp] theorem State.set2_treadles (a b w v : Nat) : (State.set2 a b w v s).treadles = s.treadles := rfl
@[simp] theorem State.set2_ppsEdge (a b w v : Nat) : (State.set2 a b w v s).ppsEdge = s.ppsEdge := rfl
@[simp] theorem State.set2_todSeq (a b w v : Nat) : (State.set2 a b w v s).todSeq = s.todSeq := rfl
@[simp] theorem State.set2_todSent (a b w v : Nat) : (State.set2 a b w v s).todSent = s.todSent := rfl
@[simp] theorem State.set2_timeSet (a b w v : Nat) : (State.set2 a b w v s).timeSet = s.timeSet := rfl
@[simp] theorem State.set2_upstream (a b w v : Nat) : (State.set2 a b w v s).upstream = s.upstream := rfl
@[simp] theorem State.set2_kpl (a b w v : Nat) : (State.set2 a b w v s).kpl = s.kpl := rfl
@[simp] theorem State.set2_ptp (a b w v : Nat) : (State.set2 a b w v s).ptp = s.ptp := rfl
@[simp] theorem State.set2_tcSyncs (a b w v : Nat) : (State.set2 a b w v s).tcSyncs = s.tcSyncs := rfl
@[simp] theorem State.set2_tcMiss (a b w v : Nat) : (State.set2 a b w v s).tcMiss = s.tcMiss := rfl
@[simp] theorem State.set2_gnss (a b w v : Nat) : (State.set2 a b w v s).gnss = s.gnss := rfl
@[simp] theorem State.set2_cal (a b w v : Nat) : (State.set2 a b w v s).cal = s.cal := rfl
@[simp] theorem State.set2_calMoves (a b w v : Nat) : (State.set2 a b w v s).calMoves = s.calMoves := rfl
@[simp] theorem State.set2_calRuns (a b w v : Nat) : (State.set2 a b w v s).calRuns = s.calRuns := rfl
@[simp] theorem State.set2_asyms (a b w v : Nat) : (State.set2 a b w v s).asyms = s.asyms := rfl
@[simp] theorem State.set2_complexes (a b w v : Nat) : (State.set2 a b w v s).complexes = s.complexes := rfl
@[simp] theorem State.set2_leadNext (a b w v : Nat) : (State.set2 a b w v s).leadNext = s.leadNext := rfl
@[simp] theorem State.set2_dualLeft (a b w v : Nat) : (State.set2 a b w v s).dualLeft = s.dualLeft := rfl
@[simp] theorem State.set2_acted (a b w v : Nat) : (State.set2 a b w v s).acted = s.acted := rfl
@[simp] theorem State.set2_outWins (a b w v : Nat) : (State.set2 a b w v s).outWins = s.outWins := rfl
@[simp] theorem State.set2_perfHold (a b w v : Nat) : (State.set2 a b w v s).perfHold = s.perfHold := rfl
@[simp] theorem State.set2_logs (a b w v : Nat) : (State.set2 a b w v s).logs = s.logs := rfl
@[simp] theorem State.set2_hedResets (a b w v : Nat) : (State.set2 a b w v s).hedResets = s.hedResets := rfl
@[simp] theorem State.set2_tasks (a b w v : Nat) : (State.set2 a b w v s).tasks = s.tasks := rfl
@[simp] theorem State.set2_batch (a b w v : Nat) : (State.set2 a b w v s).batch = s.batch := rfl
@[simp] theorem State.set2_obs (a b w v : Nat) : (State.set2 a b w v s).obs = s.obs := rfl

/-! ### `State.start` -/

@[simp] theorem State.start_pending (t : Timer) : (State.start t s).pending = s.pending := rfl
@[simp] theorem State.start_freeIdx (t : Timer) : (State.start t s).freeIdx = s.freeIdx := rfl
@[simp] theorem State.start_regs (t : Timer) : (State.start t s).regs = s.regs := rfl
@[simp] theorem State.start_rdata (t : Timer) : (State.start t s).rdata = s.rdata := rfl
@[simp] theorem State.start_latches (t : Timer) : (State.start t s).latches = s.latches := rfl
@[simp] theorem State.start_nt (t : Timer) : (State.start t s).nt = s.nt := rfl
@[simp] theorem State.start_evals (t : Timer) : (State.start t s).evals = s.evals := rfl
@[simp] theorem State.start_safePhase (t : Timer) : (State.start t s).safePhase = s.safePhase := rfl
@[simp] theorem State.start_setNow (t : Timer) : (State.start t s).setNow = s.setNow := rfl
@[simp] theorem State.start_cycles (t : Timer) : (State.start t s).cycles = s.cycles := rfl
@[simp] theorem State.start_supply (t : Timer) : (State.start t s).supply = s.supply := rfl
@[simp] theorem State.start_vinOk (t : Timer) : (State.start t s).vinOk = s.vinOk := rfl
@[simp] theorem State.start_enable (t : Timer) : (State.start t s).enable = s.enable := rfl
@[simp] theorem State.start_vio (t : Timer) : (State.start t s).vio = s.vio := rfl
@[simp] theorem State.start_resetN (t : Timer) : (State.start t s).resetN = s.resetN := rfl
@[simp] theorem State.start_perstN (t : Timer) : (State.start t s).perstN = s.perstN := rfl
@[simp] theorem State.start_dieTemp (t : Timer) : (State.start t s).dieTemp = s.dieTemp := rfl
@[simp] theorem State.start_tap (t : Timer) : (State.start t s).tap = s.tap := rfl
@[simp] theorem State.start_order (t : Timer) : (State.start t s).order = s.order := rfl
@[simp] theorem State.start_bootNo (t : Timer) : (State.start t s).bootNo = s.bootNo := rfl
@[simp] theorem State.start_bootCause (t : Timer) : (State.start t s).bootCause = s.bootCause := rfl
@[simp] theorem State.start_ledgerOff (t : Timer) : (State.start t s).ledgerOff = s.ledgerOff := rfl
@[simp] theorem State.start_early (t : Timer) : (State.start t s).early = s.early := rfl
@[simp] theorem State.start_bootFb (t : Timer) : (State.start t s).bootFb = s.bootFb := rfl
@[simp] theorem State.start_fell (t : Timer) : (State.start t s).fell = s.fell := rfl
@[simp] theorem State.start_debugHold (t : Timer) : (State.start t s).debugHold = s.debugHold := rfl
@[simp] theorem State.start_wasBusy (t : Timer) : (State.start t s).wasBusy = s.wasBusy := rfl
@[simp] theorem State.start_ledger (t : Timer) : (State.start t s).ledger = s.ledger := rfl
@[simp] theorem State.start_norHdr (t : Timer) : (State.start t s).norHdr = s.norHdr := rfl
@[simp] theorem State.start_framHdr (t : Timer) : (State.start t s).framHdr = s.framHdr := rfl
@[simp] theorem State.start_commits (t : Timer) : (State.start t s).commits = s.commits := rfl
@[simp] theorem State.start_nor (t : Timer) : (State.start t s).nor = s.nor := rfl
@[simp] theorem State.start_job (t : Timer) : (State.start t s).job = s.job := rfl
@[simp] theorem State.start_cfgApply (t : Timer) : (State.start t s).cfgApply = s.cfgApply := rfl
@[simp] theorem State.start_stallWait (t : Timer) : (State.start t s).stallWait = s.stallWait := rfl
@[simp] theorem State.start_onBootOsc (t : Timer) : (State.start t s).onBootOsc = s.onBootOsc := rfl
@[simp] theorem State.start_elemHeld (t : Timer) : (State.start t s).elemHeld = s.elemHeld := rfl
@[simp] theorem State.start_rings (t : Timer) : (State.start t s).rings = s.rings := rfl
@[simp] theorem State.start_accepted (t : Timer) : (State.start t s).accepted = s.accepted := rfl
@[simp] theorem State.start_cq (t : Timer) : (State.start t s).cq = s.cq := rfl
@[simp] theorem State.start_cqHeld (t : Timer) : (State.start t s).cqHeld = s.cqHeld := rfl
@[simp] theorem State.start_attnNow (t : Timer) : (State.start t s).attnNow = s.attnNow := rfl
@[simp] theorem State.start_msixSent (t : Timer) : (State.start t s).msixSent = s.msixSent := rfl
@[simp] theorem State.start_relinkLog (t : Timer) : (State.start t s).relinkLog = s.relinkLog := rfl
@[simp] theorem State.start_dbNow (t : Timer) : (State.start t s).dbNow = s.dbNow := rfl
@[simp] theorem State.start_wroteNow (t : Timer) : (State.start t s).wroteNow = s.wroteNow := rfl
@[simp] theorem State.start_cfgRetry (t : Timer) : (State.start t s).cfgRetry = s.cfgRetry := rfl
@[simp] theorem State.start_ctr (t : Timer) : (State.start t s).ctr = s.ctr := rfl
@[simp] theorem State.start_fateQ (t : Timer) : (State.start t s).fateQ = s.fateQ := rfl
@[simp] theorem State.start_wrapped (t : Timer) : (State.start t s).wrapped = s.wrapped := rfl
@[simp] theorem State.start_frames (t : Timer) : (State.start t s).frames = s.frames := rfl
@[simp] theorem State.start_nextId (t : Timer) : (State.start t s).nextId = s.nextId := rfl
@[simp] theorem State.start_era (t : Timer) : (State.start t s).era = s.era := rfl
@[simp] theorem State.start_sent (t : Timer) : (State.start t s).sent = s.sent := rfl
@[simp] theorem State.start_rxData (t : Timer) : (State.start t s).rxData = s.rxData := rfl
@[simp] theorem State.start_sheds (t : Timer) : (State.start t s).sheds = s.sheds := rfl
@[simp] theorem State.start_bobbins (t : Timer) : (State.start t s).bobbins = s.bobbins := rfl
@[simp] theorem State.start_bobbinNow (t : Timer) : (State.start t s).bobbinNow = s.bobbinNow := rfl
@[simp] theorem State.start_macWas (t : Timer) : (State.start t s).macWas = s.macWas := rfl
@[simp] theorem State.start_bobbinEp (t : Timer) : (State.start t s).bobbinEp = s.bobbinEp := rfl
@[simp] theorem State.start_pauseFor (t : Timer) : (State.start t s).pauseFor = s.pauseFor := rfl
@[simp] theorem State.start_ctlQ (t : Timer) : (State.start t s).ctlQ = s.ctlQ := rfl
@[simp] theorem State.start_ctlSent (t : Timer) : (State.start t s).ctlSent = s.ctlSent := rfl
@[simp] theorem State.start_portRst (t : Timer) : (State.start t s).portRst = s.portRst := rfl
@[simp] theorem State.start_rules (t : Timer) : (State.start t s).rules = s.rules := rfl
@[simp] theorem State.start_swaps (t : Timer) : (State.start t s).swaps = s.swaps := rfl
@[simp] theorem State.start_swapSeq (t : Timer) : (State.start t s).swapSeq = s.swapSeq := rfl
@[simp] theorem State.start_writer (t : Timer) : (State.start t s).writer = s.writer := rfl
@[simp] theorem State.start_writeQ (t : Timer) : (State.start t s).writeQ = s.writeQ := rfl
@[simp] theorem State.start_swapWait (t : Timer) : (State.start t s).swapWait = s.swapWait := rfl
@[simp] theorem State.start_fdb (t : Timer) : (State.start t s).fdb = s.fdb := rfl
@[simp] theorem State.start_fdbTouched (t : Timer) : (State.start t s).fdbTouched = s.fdbTouched := rfl
@[simp] theorem State.start_fdbFlushes (t : Timer) : (State.start t s).fdbFlushes = s.fdbFlushes := rfl
@[simp] theorem State.start_fdbFreed (t : Timer) : (State.start t s).fdbFreed = s.fdbFreed := rfl
@[simp] theorem State.start_hedPtr (t : Timer) : (State.start t s).hedPtr = s.hedPtr := rfl
@[simp] theorem State.start_headSeq (t : Timer) : (State.start t s).headSeq = s.headSeq := rfl
@[simp] theorem State.start_hedJobs (t : Timer) : (State.start t s).hedJobs = s.hedJobs := rfl
@[simp] theorem State.start_shuttles (t : Timer) : (State.start t s).shuttles = s.shuttles := rfl
@[simp] theorem State.start_pairs (t : Timer) : (State.start t s).pairs = s.pairs := rfl
@[simp] theorem State.start_picksNow (t : Timer) : (State.start t s).picksNow = s.picksNow := rfl
@[simp] theorem State.start_groupWas (t : Timer) : (State.start t s).groupWas = s.groupWas := rfl
@[simp] theorem State.start_rows (t : Timer) : (State.start t s).rows = s.rows := rfl
@[simp] theorem State.start_warpPtr (t : Timer) : (State.start t s).warpPtr = s.warpPtr := rfl
@[simp] theorem State.start_nodeRst (t : Timer) : (State.start t s).nodeRst = s.nodeRst := rfl
@[simp] theorem State.start_innerHold (t : Timer) : (State.start t s).innerHold = s.innerHold := rfl
@[simp] theorem State.start_mirrors (t : Timer) : (State.start t s).mirrors = s.mirrors := rfl
@[simp] theorem State.start_headShort (t : Timer) : (State.start t s).headShort = s.headShort := rfl
@[simp] theorem State.start_drr (t : Timer) : (State.start t s).drr = s.drr := rfl
@[simp] theorem State.start_balance (t : Timer) : (State.start t s).balance = s.balance := rfl
@[simp] theorem State.start_pool (t : Timer) : (State.start t s).pool = s.pool := rfl
@[simp] theorem State.start_unitsNow (t : Timer) : (State.start t s).unitsNow = s.unitsNow := rfl
@[simp] theorem State.start_unitsLast (t : Timer) : (State.start t s).unitsLast = s.unitsLast := rfl
@[simp] theorem State.start_demand (t : Timer) : (State.start t s).demand = s.demand := rfl
@[simp] theorem State.start_oeLow (t : Timer) : (State.start t s).oeLow = s.oeLow := rfl
@[simp] theorem State.start_deskewed (t : Timer) : (State.start t s).deskewed = s.deskewed := rfl
@[simp] theorem State.start_eqMoves (t : Timer) : (State.start t s).eqMoves = s.eqMoves := rfl
@[simp] theorem State.start_elapsed (t : Timer) : (State.start t s).elapsed = s.elapsed := rfl
@[simp] theorem State.start_scaleAcc (t : Timer) : (State.start t s).scaleAcc = s.scaleAcc := rfl
@[simp] theorem State.start_corrAcc (t : Timer) : (State.start t s).corrAcc = s.corrAcc := rfl
@[simp] theorem State.start_spareWin (t : Timer) : (State.start t s).spareWin = s.spareWin := rfl
@[simp] theorem State.start_spareBad (t : Timer) : (State.start t s).spareBad = s.spareBad := rfl
@[simp] theorem State.start_ovenSeen (t : Timer) : (State.start t s).ovenSeen = s.ovenSeen := rfl
@[simp] theorem State.start_chans (t : Timer) : (State.start t s).chans = s.chans := rfl
@[simp] theorem State.start_slots (t : Timer) : (State.start t s).slots = s.slots := rfl
@[simp] theorem State.start_dpll (t : Timer) : (State.start t s).dpll = s.dpll := rfl
@[simp] theorem State.start_synStage (t : Timer) : (State.start t s).synStage = s.synStage := rfl
@[simp] theorem State.start_clkouts (t : Timer) : (State.start t s).clkouts = s.clkouts := rfl
@[simp] theorem State.start_pulses (t : Timer) : (State.start t s).pulses = s.pulses := rfl
@[simp] theorem State.start_treadles (t : Timer) : (State.start t s).treadles = s.treadles := rfl
@[simp] theorem State.start_ppsEdge (t : Timer) : (State.start t s).ppsEdge = s.ppsEdge := rfl
@[simp] theorem State.start_todSeq (t : Timer) : (State.start t s).todSeq = s.todSeq := rfl
@[simp] theorem State.start_todSent (t : Timer) : (State.start t s).todSent = s.todSent := rfl
@[simp] theorem State.start_timeSet (t : Timer) : (State.start t s).timeSet = s.timeSet := rfl
@[simp] theorem State.start_upstream (t : Timer) : (State.start t s).upstream = s.upstream := rfl
@[simp] theorem State.start_kpl (t : Timer) : (State.start t s).kpl = s.kpl := rfl
@[simp] theorem State.start_ptp (t : Timer) : (State.start t s).ptp = s.ptp := rfl
@[simp] theorem State.start_tcSyncs (t : Timer) : (State.start t s).tcSyncs = s.tcSyncs := rfl
@[simp] theorem State.start_tcMiss (t : Timer) : (State.start t s).tcMiss = s.tcMiss := rfl
@[simp] theorem State.start_gnss (t : Timer) : (State.start t s).gnss = s.gnss := rfl
@[simp] theorem State.start_cal (t : Timer) : (State.start t s).cal = s.cal := rfl
@[simp] theorem State.start_calMoves (t : Timer) : (State.start t s).calMoves = s.calMoves := rfl
@[simp] theorem State.start_calRuns (t : Timer) : (State.start t s).calRuns = s.calRuns := rfl
@[simp] theorem State.start_asyms (t : Timer) : (State.start t s).asyms = s.asyms := rfl
@[simp] theorem State.start_complexes (t : Timer) : (State.start t s).complexes = s.complexes := rfl
@[simp] theorem State.start_leadNext (t : Timer) : (State.start t s).leadNext = s.leadNext := rfl
@[simp] theorem State.start_dualLeft (t : Timer) : (State.start t s).dualLeft = s.dualLeft := rfl
@[simp] theorem State.start_acted (t : Timer) : (State.start t s).acted = s.acted := rfl
@[simp] theorem State.start_outWins (t : Timer) : (State.start t s).outWins = s.outWins := rfl
@[simp] theorem State.start_perfHold (t : Timer) : (State.start t s).perfHold = s.perfHold := rfl
@[simp] theorem State.start_logs (t : Timer) : (State.start t s).logs = s.logs := rfl
@[simp] theorem State.start_hedResets (t : Timer) : (State.start t s).hedResets = s.hedResets := rfl
@[simp] theorem State.start_tasks (t : Timer) : (State.start t s).tasks = s.tasks := rfl
@[simp] theorem State.start_batch (t : Timer) : (State.start t s).batch = s.batch := rfl
@[simp] theorem State.start_obs (t : Timer) : (State.start t s).obs = s.obs := rfl

/-! ### `State.stop` -/

@[simp] theorem State.stop_pending (t : Timer) : (State.stop t s).pending = s.pending := rfl
@[simp] theorem State.stop_freeIdx (t : Timer) : (State.stop t s).freeIdx = s.freeIdx := rfl
@[simp] theorem State.stop_regs (t : Timer) : (State.stop t s).regs = s.regs := rfl
@[simp] theorem State.stop_rdata (t : Timer) : (State.stop t s).rdata = s.rdata := rfl
@[simp] theorem State.stop_latches (t : Timer) : (State.stop t s).latches = s.latches := rfl
@[simp] theorem State.stop_nt (t : Timer) : (State.stop t s).nt = s.nt := rfl
@[simp] theorem State.stop_evals (t : Timer) : (State.stop t s).evals = s.evals := rfl
@[simp] theorem State.stop_safePhase (t : Timer) : (State.stop t s).safePhase = s.safePhase := rfl
@[simp] theorem State.stop_setNow (t : Timer) : (State.stop t s).setNow = s.setNow := rfl
@[simp] theorem State.stop_cycles (t : Timer) : (State.stop t s).cycles = s.cycles := rfl
@[simp] theorem State.stop_supply (t : Timer) : (State.stop t s).supply = s.supply := rfl
@[simp] theorem State.stop_vinOk (t : Timer) : (State.stop t s).vinOk = s.vinOk := rfl
@[simp] theorem State.stop_enable (t : Timer) : (State.stop t s).enable = s.enable := rfl
@[simp] theorem State.stop_vio (t : Timer) : (State.stop t s).vio = s.vio := rfl
@[simp] theorem State.stop_resetN (t : Timer) : (State.stop t s).resetN = s.resetN := rfl
@[simp] theorem State.stop_perstN (t : Timer) : (State.stop t s).perstN = s.perstN := rfl
@[simp] theorem State.stop_dieTemp (t : Timer) : (State.stop t s).dieTemp = s.dieTemp := rfl
@[simp] theorem State.stop_tap (t : Timer) : (State.stop t s).tap = s.tap := rfl
@[simp] theorem State.stop_order (t : Timer) : (State.stop t s).order = s.order := rfl
@[simp] theorem State.stop_bootNo (t : Timer) : (State.stop t s).bootNo = s.bootNo := rfl
@[simp] theorem State.stop_bootCause (t : Timer) : (State.stop t s).bootCause = s.bootCause := rfl
@[simp] theorem State.stop_ledgerOff (t : Timer) : (State.stop t s).ledgerOff = s.ledgerOff := rfl
@[simp] theorem State.stop_early (t : Timer) : (State.stop t s).early = s.early := rfl
@[simp] theorem State.stop_bootFb (t : Timer) : (State.stop t s).bootFb = s.bootFb := rfl
@[simp] theorem State.stop_fell (t : Timer) : (State.stop t s).fell = s.fell := rfl
@[simp] theorem State.stop_debugHold (t : Timer) : (State.stop t s).debugHold = s.debugHold := rfl
@[simp] theorem State.stop_wasBusy (t : Timer) : (State.stop t s).wasBusy = s.wasBusy := rfl
@[simp] theorem State.stop_ledger (t : Timer) : (State.stop t s).ledger = s.ledger := rfl
@[simp] theorem State.stop_norHdr (t : Timer) : (State.stop t s).norHdr = s.norHdr := rfl
@[simp] theorem State.stop_framHdr (t : Timer) : (State.stop t s).framHdr = s.framHdr := rfl
@[simp] theorem State.stop_commits (t : Timer) : (State.stop t s).commits = s.commits := rfl
@[simp] theorem State.stop_nor (t : Timer) : (State.stop t s).nor = s.nor := rfl
@[simp] theorem State.stop_job (t : Timer) : (State.stop t s).job = s.job := rfl
@[simp] theorem State.stop_cfgApply (t : Timer) : (State.stop t s).cfgApply = s.cfgApply := rfl
@[simp] theorem State.stop_stallWait (t : Timer) : (State.stop t s).stallWait = s.stallWait := rfl
@[simp] theorem State.stop_onBootOsc (t : Timer) : (State.stop t s).onBootOsc = s.onBootOsc := rfl
@[simp] theorem State.stop_elemHeld (t : Timer) : (State.stop t s).elemHeld = s.elemHeld := rfl
@[simp] theorem State.stop_rings (t : Timer) : (State.stop t s).rings = s.rings := rfl
@[simp] theorem State.stop_accepted (t : Timer) : (State.stop t s).accepted = s.accepted := rfl
@[simp] theorem State.stop_cq (t : Timer) : (State.stop t s).cq = s.cq := rfl
@[simp] theorem State.stop_cqHeld (t : Timer) : (State.stop t s).cqHeld = s.cqHeld := rfl
@[simp] theorem State.stop_attnNow (t : Timer) : (State.stop t s).attnNow = s.attnNow := rfl
@[simp] theorem State.stop_msixSent (t : Timer) : (State.stop t s).msixSent = s.msixSent := rfl
@[simp] theorem State.stop_relinkLog (t : Timer) : (State.stop t s).relinkLog = s.relinkLog := rfl
@[simp] theorem State.stop_dbNow (t : Timer) : (State.stop t s).dbNow = s.dbNow := rfl
@[simp] theorem State.stop_wroteNow (t : Timer) : (State.stop t s).wroteNow = s.wroteNow := rfl
@[simp] theorem State.stop_cfgRetry (t : Timer) : (State.stop t s).cfgRetry = s.cfgRetry := rfl
@[simp] theorem State.stop_ctr (t : Timer) : (State.stop t s).ctr = s.ctr := rfl
@[simp] theorem State.stop_fateQ (t : Timer) : (State.stop t s).fateQ = s.fateQ := rfl
@[simp] theorem State.stop_wrapped (t : Timer) : (State.stop t s).wrapped = s.wrapped := rfl
@[simp] theorem State.stop_frames (t : Timer) : (State.stop t s).frames = s.frames := rfl
@[simp] theorem State.stop_nextId (t : Timer) : (State.stop t s).nextId = s.nextId := rfl
@[simp] theorem State.stop_era (t : Timer) : (State.stop t s).era = s.era := rfl
@[simp] theorem State.stop_sent (t : Timer) : (State.stop t s).sent = s.sent := rfl
@[simp] theorem State.stop_rxData (t : Timer) : (State.stop t s).rxData = s.rxData := rfl
@[simp] theorem State.stop_sheds (t : Timer) : (State.stop t s).sheds = s.sheds := rfl
@[simp] theorem State.stop_bobbins (t : Timer) : (State.stop t s).bobbins = s.bobbins := rfl
@[simp] theorem State.stop_bobbinNow (t : Timer) : (State.stop t s).bobbinNow = s.bobbinNow := rfl
@[simp] theorem State.stop_macWas (t : Timer) : (State.stop t s).macWas = s.macWas := rfl
@[simp] theorem State.stop_bobbinEp (t : Timer) : (State.stop t s).bobbinEp = s.bobbinEp := rfl
@[simp] theorem State.stop_pauseFor (t : Timer) : (State.stop t s).pauseFor = s.pauseFor := rfl
@[simp] theorem State.stop_ctlQ (t : Timer) : (State.stop t s).ctlQ = s.ctlQ := rfl
@[simp] theorem State.stop_ctlSent (t : Timer) : (State.stop t s).ctlSent = s.ctlSent := rfl
@[simp] theorem State.stop_portRst (t : Timer) : (State.stop t s).portRst = s.portRst := rfl
@[simp] theorem State.stop_rules (t : Timer) : (State.stop t s).rules = s.rules := rfl
@[simp] theorem State.stop_swaps (t : Timer) : (State.stop t s).swaps = s.swaps := rfl
@[simp] theorem State.stop_swapSeq (t : Timer) : (State.stop t s).swapSeq = s.swapSeq := rfl
@[simp] theorem State.stop_writer (t : Timer) : (State.stop t s).writer = s.writer := rfl
@[simp] theorem State.stop_writeQ (t : Timer) : (State.stop t s).writeQ = s.writeQ := rfl
@[simp] theorem State.stop_swapWait (t : Timer) : (State.stop t s).swapWait = s.swapWait := rfl
@[simp] theorem State.stop_fdb (t : Timer) : (State.stop t s).fdb = s.fdb := rfl
@[simp] theorem State.stop_fdbTouched (t : Timer) : (State.stop t s).fdbTouched = s.fdbTouched := rfl
@[simp] theorem State.stop_fdbFlushes (t : Timer) : (State.stop t s).fdbFlushes = s.fdbFlushes := rfl
@[simp] theorem State.stop_fdbFreed (t : Timer) : (State.stop t s).fdbFreed = s.fdbFreed := rfl
@[simp] theorem State.stop_hedPtr (t : Timer) : (State.stop t s).hedPtr = s.hedPtr := rfl
@[simp] theorem State.stop_headSeq (t : Timer) : (State.stop t s).headSeq = s.headSeq := rfl
@[simp] theorem State.stop_hedJobs (t : Timer) : (State.stop t s).hedJobs = s.hedJobs := rfl
@[simp] theorem State.stop_shuttles (t : Timer) : (State.stop t s).shuttles = s.shuttles := rfl
@[simp] theorem State.stop_pairs (t : Timer) : (State.stop t s).pairs = s.pairs := rfl
@[simp] theorem State.stop_picksNow (t : Timer) : (State.stop t s).picksNow = s.picksNow := rfl
@[simp] theorem State.stop_groupWas (t : Timer) : (State.stop t s).groupWas = s.groupWas := rfl
@[simp] theorem State.stop_rows (t : Timer) : (State.stop t s).rows = s.rows := rfl
@[simp] theorem State.stop_warpPtr (t : Timer) : (State.stop t s).warpPtr = s.warpPtr := rfl
@[simp] theorem State.stop_nodeRst (t : Timer) : (State.stop t s).nodeRst = s.nodeRst := rfl
@[simp] theorem State.stop_innerHold (t : Timer) : (State.stop t s).innerHold = s.innerHold := rfl
@[simp] theorem State.stop_mirrors (t : Timer) : (State.stop t s).mirrors = s.mirrors := rfl
@[simp] theorem State.stop_headShort (t : Timer) : (State.stop t s).headShort = s.headShort := rfl
@[simp] theorem State.stop_drr (t : Timer) : (State.stop t s).drr = s.drr := rfl
@[simp] theorem State.stop_balance (t : Timer) : (State.stop t s).balance = s.balance := rfl
@[simp] theorem State.stop_pool (t : Timer) : (State.stop t s).pool = s.pool := rfl
@[simp] theorem State.stop_unitsNow (t : Timer) : (State.stop t s).unitsNow = s.unitsNow := rfl
@[simp] theorem State.stop_unitsLast (t : Timer) : (State.stop t s).unitsLast = s.unitsLast := rfl
@[simp] theorem State.stop_demand (t : Timer) : (State.stop t s).demand = s.demand := rfl
@[simp] theorem State.stop_oeLow (t : Timer) : (State.stop t s).oeLow = s.oeLow := rfl
@[simp] theorem State.stop_deskewed (t : Timer) : (State.stop t s).deskewed = s.deskewed := rfl
@[simp] theorem State.stop_eqMoves (t : Timer) : (State.stop t s).eqMoves = s.eqMoves := rfl
@[simp] theorem State.stop_elapsed (t : Timer) : (State.stop t s).elapsed = s.elapsed := rfl
@[simp] theorem State.stop_scaleAcc (t : Timer) : (State.stop t s).scaleAcc = s.scaleAcc := rfl
@[simp] theorem State.stop_corrAcc (t : Timer) : (State.stop t s).corrAcc = s.corrAcc := rfl
@[simp] theorem State.stop_spareWin (t : Timer) : (State.stop t s).spareWin = s.spareWin := rfl
@[simp] theorem State.stop_spareBad (t : Timer) : (State.stop t s).spareBad = s.spareBad := rfl
@[simp] theorem State.stop_ovenSeen (t : Timer) : (State.stop t s).ovenSeen = s.ovenSeen := rfl
@[simp] theorem State.stop_chans (t : Timer) : (State.stop t s).chans = s.chans := rfl
@[simp] theorem State.stop_slots (t : Timer) : (State.stop t s).slots = s.slots := rfl
@[simp] theorem State.stop_dpll (t : Timer) : (State.stop t s).dpll = s.dpll := rfl
@[simp] theorem State.stop_synStage (t : Timer) : (State.stop t s).synStage = s.synStage := rfl
@[simp] theorem State.stop_clkouts (t : Timer) : (State.stop t s).clkouts = s.clkouts := rfl
@[simp] theorem State.stop_pulses (t : Timer) : (State.stop t s).pulses = s.pulses := rfl
@[simp] theorem State.stop_treadles (t : Timer) : (State.stop t s).treadles = s.treadles := rfl
@[simp] theorem State.stop_ppsEdge (t : Timer) : (State.stop t s).ppsEdge = s.ppsEdge := rfl
@[simp] theorem State.stop_todSeq (t : Timer) : (State.stop t s).todSeq = s.todSeq := rfl
@[simp] theorem State.stop_todSent (t : Timer) : (State.stop t s).todSent = s.todSent := rfl
@[simp] theorem State.stop_timeSet (t : Timer) : (State.stop t s).timeSet = s.timeSet := rfl
@[simp] theorem State.stop_upstream (t : Timer) : (State.stop t s).upstream = s.upstream := rfl
@[simp] theorem State.stop_kpl (t : Timer) : (State.stop t s).kpl = s.kpl := rfl
@[simp] theorem State.stop_ptp (t : Timer) : (State.stop t s).ptp = s.ptp := rfl
@[simp] theorem State.stop_tcSyncs (t : Timer) : (State.stop t s).tcSyncs = s.tcSyncs := rfl
@[simp] theorem State.stop_tcMiss (t : Timer) : (State.stop t s).tcMiss = s.tcMiss := rfl
@[simp] theorem State.stop_gnss (t : Timer) : (State.stop t s).gnss = s.gnss := rfl
@[simp] theorem State.stop_cal (t : Timer) : (State.stop t s).cal = s.cal := rfl
@[simp] theorem State.stop_calMoves (t : Timer) : (State.stop t s).calMoves = s.calMoves := rfl
@[simp] theorem State.stop_calRuns (t : Timer) : (State.stop t s).calRuns = s.calRuns := rfl
@[simp] theorem State.stop_asyms (t : Timer) : (State.stop t s).asyms = s.asyms := rfl
@[simp] theorem State.stop_complexes (t : Timer) : (State.stop t s).complexes = s.complexes := rfl
@[simp] theorem State.stop_leadNext (t : Timer) : (State.stop t s).leadNext = s.leadNext := rfl
@[simp] theorem State.stop_dualLeft (t : Timer) : (State.stop t s).dualLeft = s.dualLeft := rfl
@[simp] theorem State.stop_acted (t : Timer) : (State.stop t s).acted = s.acted := rfl
@[simp] theorem State.stop_outWins (t : Timer) : (State.stop t s).outWins = s.outWins := rfl
@[simp] theorem State.stop_perfHold (t : Timer) : (State.stop t s).perfHold = s.perfHold := rfl
@[simp] theorem State.stop_logs (t : Timer) : (State.stop t s).logs = s.logs := rfl
@[simp] theorem State.stop_hedResets (t : Timer) : (State.stop t s).hedResets = s.hedResets := rfl
@[simp] theorem State.stop_tasks (t : Timer) : (State.stop t s).tasks = s.tasks := rfl
@[simp] theorem State.stop_batch (t : Timer) : (State.stop t s).batch = s.batch := rfl
@[simp] theorem State.stop_obs (t : Timer) : (State.stop t s).obs = s.obs := rfl

/-! ### `State.fate` -/

@[simp] theorem State.fate_pending (p c : Nat) : (State.fate p c s).pending = s.pending := rfl
@[simp] theorem State.fate_freeIdx (p c : Nat) : (State.fate p c s).freeIdx = s.freeIdx := rfl
@[simp] theorem State.fate_regs (p c : Nat) : (State.fate p c s).regs = s.regs := rfl
@[simp] theorem State.fate_rdata (p c : Nat) : (State.fate p c s).rdata = s.rdata := rfl
@[simp] theorem State.fate_latches (p c : Nat) : (State.fate p c s).latches = s.latches := rfl
@[simp] theorem State.fate_nt (p c : Nat) : (State.fate p c s).nt = s.nt := rfl
@[simp] theorem State.fate_timers (p c : Nat) : (State.fate p c s).timers = s.timers := rfl
@[simp] theorem State.fate_evals (p c : Nat) : (State.fate p c s).evals = s.evals := rfl
@[simp] theorem State.fate_safePhase (p c : Nat) : (State.fate p c s).safePhase = s.safePhase := rfl
@[simp] theorem State.fate_setNow (p c : Nat) : (State.fate p c s).setNow = s.setNow := rfl
@[simp] theorem State.fate_cycles (p c : Nat) : (State.fate p c s).cycles = s.cycles := rfl
@[simp] theorem State.fate_supply (p c : Nat) : (State.fate p c s).supply = s.supply := rfl
@[simp] theorem State.fate_vinOk (p c : Nat) : (State.fate p c s).vinOk = s.vinOk := rfl
@[simp] theorem State.fate_enable (p c : Nat) : (State.fate p c s).enable = s.enable := rfl
@[simp] theorem State.fate_vio (p c : Nat) : (State.fate p c s).vio = s.vio := rfl
@[simp] theorem State.fate_resetN (p c : Nat) : (State.fate p c s).resetN = s.resetN := rfl
@[simp] theorem State.fate_perstN (p c : Nat) : (State.fate p c s).perstN = s.perstN := rfl
@[simp] theorem State.fate_dieTemp (p c : Nat) : (State.fate p c s).dieTemp = s.dieTemp := rfl
@[simp] theorem State.fate_tap (p c : Nat) : (State.fate p c s).tap = s.tap := rfl
@[simp] theorem State.fate_order (p c : Nat) : (State.fate p c s).order = s.order := rfl
@[simp] theorem State.fate_bootNo (p c : Nat) : (State.fate p c s).bootNo = s.bootNo := rfl
@[simp] theorem State.fate_bootCause (p c : Nat) : (State.fate p c s).bootCause = s.bootCause := rfl
@[simp] theorem State.fate_ledgerOff (p c : Nat) : (State.fate p c s).ledgerOff = s.ledgerOff := rfl
@[simp] theorem State.fate_early (p c : Nat) : (State.fate p c s).early = s.early := rfl
@[simp] theorem State.fate_bootFb (p c : Nat) : (State.fate p c s).bootFb = s.bootFb := rfl
@[simp] theorem State.fate_fell (p c : Nat) : (State.fate p c s).fell = s.fell := rfl
@[simp] theorem State.fate_debugHold (p c : Nat) : (State.fate p c s).debugHold = s.debugHold := rfl
@[simp] theorem State.fate_wasBusy (p c : Nat) : (State.fate p c s).wasBusy = s.wasBusy := rfl
@[simp] theorem State.fate_ledger (p c : Nat) : (State.fate p c s).ledger = s.ledger := rfl
@[simp] theorem State.fate_norHdr (p c : Nat) : (State.fate p c s).norHdr = s.norHdr := rfl
@[simp] theorem State.fate_framHdr (p c : Nat) : (State.fate p c s).framHdr = s.framHdr := rfl
@[simp] theorem State.fate_commits (p c : Nat) : (State.fate p c s).commits = s.commits := rfl
@[simp] theorem State.fate_nor (p c : Nat) : (State.fate p c s).nor = s.nor := rfl
@[simp] theorem State.fate_job (p c : Nat) : (State.fate p c s).job = s.job := rfl
@[simp] theorem State.fate_cfgApply (p c : Nat) : (State.fate p c s).cfgApply = s.cfgApply := rfl
@[simp] theorem State.fate_stallWait (p c : Nat) : (State.fate p c s).stallWait = s.stallWait := rfl
@[simp] theorem State.fate_onBootOsc (p c : Nat) : (State.fate p c s).onBootOsc = s.onBootOsc := rfl
@[simp] theorem State.fate_elemHeld (p c : Nat) : (State.fate p c s).elemHeld = s.elemHeld := rfl
@[simp] theorem State.fate_rings (p c : Nat) : (State.fate p c s).rings = s.rings := rfl
@[simp] theorem State.fate_accepted (p c : Nat) : (State.fate p c s).accepted = s.accepted := rfl
@[simp] theorem State.fate_cq (p c : Nat) : (State.fate p c s).cq = s.cq := rfl
@[simp] theorem State.fate_cqHeld (p c : Nat) : (State.fate p c s).cqHeld = s.cqHeld := rfl
@[simp] theorem State.fate_attnNow (p c : Nat) : (State.fate p c s).attnNow = s.attnNow := rfl
@[simp] theorem State.fate_msixSent (p c : Nat) : (State.fate p c s).msixSent = s.msixSent := rfl
@[simp] theorem State.fate_relinkLog (p c : Nat) : (State.fate p c s).relinkLog = s.relinkLog := rfl
@[simp] theorem State.fate_dbNow (p c : Nat) : (State.fate p c s).dbNow = s.dbNow := rfl
@[simp] theorem State.fate_wroteNow (p c : Nat) : (State.fate p c s).wroteNow = s.wroteNow := rfl
@[simp] theorem State.fate_cfgRetry (p c : Nat) : (State.fate p c s).cfgRetry = s.cfgRetry := rfl
@[simp] theorem State.fate_ctr (p c : Nat) : (State.fate p c s).ctr = s.ctr := rfl
@[simp] theorem State.fate_wrapped (p c : Nat) : (State.fate p c s).wrapped = s.wrapped := rfl
@[simp] theorem State.fate_frames (p c : Nat) : (State.fate p c s).frames = s.frames := rfl
@[simp] theorem State.fate_nextId (p c : Nat) : (State.fate p c s).nextId = s.nextId := rfl
@[simp] theorem State.fate_era (p c : Nat) : (State.fate p c s).era = s.era := rfl
@[simp] theorem State.fate_sent (p c : Nat) : (State.fate p c s).sent = s.sent := rfl
@[simp] theorem State.fate_rxData (p c : Nat) : (State.fate p c s).rxData = s.rxData := rfl
@[simp] theorem State.fate_sheds (p c : Nat) : (State.fate p c s).sheds = s.sheds := rfl
@[simp] theorem State.fate_bobbins (p c : Nat) : (State.fate p c s).bobbins = s.bobbins := rfl
@[simp] theorem State.fate_bobbinNow (p c : Nat) : (State.fate p c s).bobbinNow = s.bobbinNow := rfl
@[simp] theorem State.fate_macWas (p c : Nat) : (State.fate p c s).macWas = s.macWas := rfl
@[simp] theorem State.fate_bobbinEp (p c : Nat) : (State.fate p c s).bobbinEp = s.bobbinEp := rfl
@[simp] theorem State.fate_pauseFor (p c : Nat) : (State.fate p c s).pauseFor = s.pauseFor := rfl
@[simp] theorem State.fate_ctlQ (p c : Nat) : (State.fate p c s).ctlQ = s.ctlQ := rfl
@[simp] theorem State.fate_ctlSent (p c : Nat) : (State.fate p c s).ctlSent = s.ctlSent := rfl
@[simp] theorem State.fate_portRst (p c : Nat) : (State.fate p c s).portRst = s.portRst := rfl
@[simp] theorem State.fate_rules (p c : Nat) : (State.fate p c s).rules = s.rules := rfl
@[simp] theorem State.fate_swaps (p c : Nat) : (State.fate p c s).swaps = s.swaps := rfl
@[simp] theorem State.fate_swapSeq (p c : Nat) : (State.fate p c s).swapSeq = s.swapSeq := rfl
@[simp] theorem State.fate_writer (p c : Nat) : (State.fate p c s).writer = s.writer := rfl
@[simp] theorem State.fate_writeQ (p c : Nat) : (State.fate p c s).writeQ = s.writeQ := rfl
@[simp] theorem State.fate_swapWait (p c : Nat) : (State.fate p c s).swapWait = s.swapWait := rfl
@[simp] theorem State.fate_fdb (p c : Nat) : (State.fate p c s).fdb = s.fdb := rfl
@[simp] theorem State.fate_fdbTouched (p c : Nat) : (State.fate p c s).fdbTouched = s.fdbTouched := rfl
@[simp] theorem State.fate_fdbFlushes (p c : Nat) : (State.fate p c s).fdbFlushes = s.fdbFlushes := rfl
@[simp] theorem State.fate_fdbFreed (p c : Nat) : (State.fate p c s).fdbFreed = s.fdbFreed := rfl
@[simp] theorem State.fate_hedPtr (p c : Nat) : (State.fate p c s).hedPtr = s.hedPtr := rfl
@[simp] theorem State.fate_headSeq (p c : Nat) : (State.fate p c s).headSeq = s.headSeq := rfl
@[simp] theorem State.fate_hedJobs (p c : Nat) : (State.fate p c s).hedJobs = s.hedJobs := rfl
@[simp] theorem State.fate_shuttles (p c : Nat) : (State.fate p c s).shuttles = s.shuttles := rfl
@[simp] theorem State.fate_pairs (p c : Nat) : (State.fate p c s).pairs = s.pairs := rfl
@[simp] theorem State.fate_picksNow (p c : Nat) : (State.fate p c s).picksNow = s.picksNow := rfl
@[simp] theorem State.fate_groupWas (p c : Nat) : (State.fate p c s).groupWas = s.groupWas := rfl
@[simp] theorem State.fate_rows (p c : Nat) : (State.fate p c s).rows = s.rows := rfl
@[simp] theorem State.fate_warpPtr (p c : Nat) : (State.fate p c s).warpPtr = s.warpPtr := rfl
@[simp] theorem State.fate_nodeRst (p c : Nat) : (State.fate p c s).nodeRst = s.nodeRst := rfl
@[simp] theorem State.fate_innerHold (p c : Nat) : (State.fate p c s).innerHold = s.innerHold := rfl
@[simp] theorem State.fate_mirrors (p c : Nat) : (State.fate p c s).mirrors = s.mirrors := rfl
@[simp] theorem State.fate_headShort (p c : Nat) : (State.fate p c s).headShort = s.headShort := rfl
@[simp] theorem State.fate_drr (p c : Nat) : (State.fate p c s).drr = s.drr := rfl
@[simp] theorem State.fate_balance (p c : Nat) : (State.fate p c s).balance = s.balance := rfl
@[simp] theorem State.fate_pool (p c : Nat) : (State.fate p c s).pool = s.pool := rfl
@[simp] theorem State.fate_unitsNow (p c : Nat) : (State.fate p c s).unitsNow = s.unitsNow := rfl
@[simp] theorem State.fate_unitsLast (p c : Nat) : (State.fate p c s).unitsLast = s.unitsLast := rfl
@[simp] theorem State.fate_demand (p c : Nat) : (State.fate p c s).demand = s.demand := rfl
@[simp] theorem State.fate_oeLow (p c : Nat) : (State.fate p c s).oeLow = s.oeLow := rfl
@[simp] theorem State.fate_deskewed (p c : Nat) : (State.fate p c s).deskewed = s.deskewed := rfl
@[simp] theorem State.fate_eqMoves (p c : Nat) : (State.fate p c s).eqMoves = s.eqMoves := rfl
@[simp] theorem State.fate_elapsed (p c : Nat) : (State.fate p c s).elapsed = s.elapsed := rfl
@[simp] theorem State.fate_scaleAcc (p c : Nat) : (State.fate p c s).scaleAcc = s.scaleAcc := rfl
@[simp] theorem State.fate_corrAcc (p c : Nat) : (State.fate p c s).corrAcc = s.corrAcc := rfl
@[simp] theorem State.fate_spareWin (p c : Nat) : (State.fate p c s).spareWin = s.spareWin := rfl
@[simp] theorem State.fate_spareBad (p c : Nat) : (State.fate p c s).spareBad = s.spareBad := rfl
@[simp] theorem State.fate_ovenSeen (p c : Nat) : (State.fate p c s).ovenSeen = s.ovenSeen := rfl
@[simp] theorem State.fate_chans (p c : Nat) : (State.fate p c s).chans = s.chans := rfl
@[simp] theorem State.fate_slots (p c : Nat) : (State.fate p c s).slots = s.slots := rfl
@[simp] theorem State.fate_dpll (p c : Nat) : (State.fate p c s).dpll = s.dpll := rfl
@[simp] theorem State.fate_synStage (p c : Nat) : (State.fate p c s).synStage = s.synStage := rfl
@[simp] theorem State.fate_clkouts (p c : Nat) : (State.fate p c s).clkouts = s.clkouts := rfl
@[simp] theorem State.fate_pulses (p c : Nat) : (State.fate p c s).pulses = s.pulses := rfl
@[simp] theorem State.fate_treadles (p c : Nat) : (State.fate p c s).treadles = s.treadles := rfl
@[simp] theorem State.fate_ppsEdge (p c : Nat) : (State.fate p c s).ppsEdge = s.ppsEdge := rfl
@[simp] theorem State.fate_todSeq (p c : Nat) : (State.fate p c s).todSeq = s.todSeq := rfl
@[simp] theorem State.fate_todSent (p c : Nat) : (State.fate p c s).todSent = s.todSent := rfl
@[simp] theorem State.fate_timeSet (p c : Nat) : (State.fate p c s).timeSet = s.timeSet := rfl
@[simp] theorem State.fate_upstream (p c : Nat) : (State.fate p c s).upstream = s.upstream := rfl
@[simp] theorem State.fate_kpl (p c : Nat) : (State.fate p c s).kpl = s.kpl := rfl
@[simp] theorem State.fate_ptp (p c : Nat) : (State.fate p c s).ptp = s.ptp := rfl
@[simp] theorem State.fate_tcSyncs (p c : Nat) : (State.fate p c s).tcSyncs = s.tcSyncs := rfl
@[simp] theorem State.fate_tcMiss (p c : Nat) : (State.fate p c s).tcMiss = s.tcMiss := rfl
@[simp] theorem State.fate_gnss (p c : Nat) : (State.fate p c s).gnss = s.gnss := rfl
@[simp] theorem State.fate_cal (p c : Nat) : (State.fate p c s).cal = s.cal := rfl
@[simp] theorem State.fate_calMoves (p c : Nat) : (State.fate p c s).calMoves = s.calMoves := rfl
@[simp] theorem State.fate_calRuns (p c : Nat) : (State.fate p c s).calRuns = s.calRuns := rfl
@[simp] theorem State.fate_asyms (p c : Nat) : (State.fate p c s).asyms = s.asyms := rfl
@[simp] theorem State.fate_complexes (p c : Nat) : (State.fate p c s).complexes = s.complexes := rfl
@[simp] theorem State.fate_leadNext (p c : Nat) : (State.fate p c s).leadNext = s.leadNext := rfl
@[simp] theorem State.fate_dualLeft (p c : Nat) : (State.fate p c s).dualLeft = s.dualLeft := rfl
@[simp] theorem State.fate_acted (p c : Nat) : (State.fate p c s).acted = s.acted := rfl
@[simp] theorem State.fate_outWins (p c : Nat) : (State.fate p c s).outWins = s.outWins := rfl
@[simp] theorem State.fate_perfHold (p c : Nat) : (State.fate p c s).perfHold = s.perfHold := rfl
@[simp] theorem State.fate_logs (p c : Nat) : (State.fate p c s).logs = s.logs := rfl
@[simp] theorem State.fate_hedResets (p c : Nat) : (State.fate p c s).hedResets = s.hedResets := rfl
@[simp] theorem State.fate_tasks (p c : Nat) : (State.fate p c s).tasks = s.tasks := rfl
@[simp] theorem State.fate_batch (p c : Nat) : (State.fate p c s).batch = s.batch := rfl
@[simp] theorem State.fate_obs (p c : Nat) : (State.fate p c s).obs = s.obs := rfl

/-! ### `State.modRing` -/

@[simp] theorem State.modRing_pending (r : Nat) (g : RingSt → RingSt) : (State.modRing r g s).pending = s.pending := rfl
@[simp] theorem State.modRing_freeIdx (r : Nat) (g : RingSt → RingSt) : (State.modRing r g s).freeIdx = s.freeIdx := rfl
@[simp] theorem State.modRing_regs (r : Nat) (g : RingSt → RingSt) : (State.modRing r g s).regs = s.regs := rfl
@[simp] theorem State.modRing_rdata (r : Nat) (g : RingSt → RingSt) : (State.modRing r g s).rdata = s.rdata := rfl
@[simp] theorem State.modRing_latches (r : Nat) (g : RingSt → RingSt) : (State.modRing r g s).latches = s.latches := rfl
@[simp] theorem State.modRing_nt (r : Nat) (g : RingSt → RingSt) : (State.modRing r g s).nt = s.nt := rfl
@[simp] theorem State.modRing_timers (r : Nat) (g : RingSt → RingSt) : (State.modRing r g s).timers = s.timers := rfl
@[simp] theorem State.modRing_evals (r : Nat) (g : RingSt → RingSt) : (State.modRing r g s).evals = s.evals := rfl
@[simp] theorem State.modRing_safePhase (r : Nat) (g : RingSt → RingSt) : (State.modRing r g s).safePhase = s.safePhase := rfl
@[simp] theorem State.modRing_setNow (r : Nat) (g : RingSt → RingSt) : (State.modRing r g s).setNow = s.setNow := rfl
@[simp] theorem State.modRing_cycles (r : Nat) (g : RingSt → RingSt) : (State.modRing r g s).cycles = s.cycles := rfl
@[simp] theorem State.modRing_supply (r : Nat) (g : RingSt → RingSt) : (State.modRing r g s).supply = s.supply := rfl
@[simp] theorem State.modRing_vinOk (r : Nat) (g : RingSt → RingSt) : (State.modRing r g s).vinOk = s.vinOk := rfl
@[simp] theorem State.modRing_enable (r : Nat) (g : RingSt → RingSt) : (State.modRing r g s).enable = s.enable := rfl
@[simp] theorem State.modRing_vio (r : Nat) (g : RingSt → RingSt) : (State.modRing r g s).vio = s.vio := rfl
@[simp] theorem State.modRing_resetN (r : Nat) (g : RingSt → RingSt) : (State.modRing r g s).resetN = s.resetN := rfl
@[simp] theorem State.modRing_perstN (r : Nat) (g : RingSt → RingSt) : (State.modRing r g s).perstN = s.perstN := rfl
@[simp] theorem State.modRing_dieTemp (r : Nat) (g : RingSt → RingSt) : (State.modRing r g s).dieTemp = s.dieTemp := rfl
@[simp] theorem State.modRing_tap (r : Nat) (g : RingSt → RingSt) : (State.modRing r g s).tap = s.tap := rfl
@[simp] theorem State.modRing_order (r : Nat) (g : RingSt → RingSt) : (State.modRing r g s).order = s.order := rfl
@[simp] theorem State.modRing_bootNo (r : Nat) (g : RingSt → RingSt) : (State.modRing r g s).bootNo = s.bootNo := rfl
@[simp] theorem State.modRing_bootCause (r : Nat) (g : RingSt → RingSt) : (State.modRing r g s).bootCause = s.bootCause := rfl
@[simp] theorem State.modRing_ledgerOff (r : Nat) (g : RingSt → RingSt) : (State.modRing r g s).ledgerOff = s.ledgerOff := rfl
@[simp] theorem State.modRing_early (r : Nat) (g : RingSt → RingSt) : (State.modRing r g s).early = s.early := rfl
@[simp] theorem State.modRing_bootFb (r : Nat) (g : RingSt → RingSt) : (State.modRing r g s).bootFb = s.bootFb := rfl
@[simp] theorem State.modRing_fell (r : Nat) (g : RingSt → RingSt) : (State.modRing r g s).fell = s.fell := rfl
@[simp] theorem State.modRing_debugHold (r : Nat) (g : RingSt → RingSt) : (State.modRing r g s).debugHold = s.debugHold := rfl
@[simp] theorem State.modRing_wasBusy (r : Nat) (g : RingSt → RingSt) : (State.modRing r g s).wasBusy = s.wasBusy := rfl
@[simp] theorem State.modRing_ledger (r : Nat) (g : RingSt → RingSt) : (State.modRing r g s).ledger = s.ledger := rfl
@[simp] theorem State.modRing_norHdr (r : Nat) (g : RingSt → RingSt) : (State.modRing r g s).norHdr = s.norHdr := rfl
@[simp] theorem State.modRing_framHdr (r : Nat) (g : RingSt → RingSt) : (State.modRing r g s).framHdr = s.framHdr := rfl
@[simp] theorem State.modRing_commits (r : Nat) (g : RingSt → RingSt) : (State.modRing r g s).commits = s.commits := rfl
@[simp] theorem State.modRing_nor (r : Nat) (g : RingSt → RingSt) : (State.modRing r g s).nor = s.nor := rfl
@[simp] theorem State.modRing_job (r : Nat) (g : RingSt → RingSt) : (State.modRing r g s).job = s.job := rfl
@[simp] theorem State.modRing_cfgApply (r : Nat) (g : RingSt → RingSt) : (State.modRing r g s).cfgApply = s.cfgApply := rfl
@[simp] theorem State.modRing_stallWait (r : Nat) (g : RingSt → RingSt) : (State.modRing r g s).stallWait = s.stallWait := rfl
@[simp] theorem State.modRing_onBootOsc (r : Nat) (g : RingSt → RingSt) : (State.modRing r g s).onBootOsc = s.onBootOsc := rfl
@[simp] theorem State.modRing_elemHeld (r : Nat) (g : RingSt → RingSt) : (State.modRing r g s).elemHeld = s.elemHeld := rfl
@[simp] theorem State.modRing_accepted (r : Nat) (g : RingSt → RingSt) : (State.modRing r g s).accepted = s.accepted := rfl
@[simp] theorem State.modRing_cq (r : Nat) (g : RingSt → RingSt) : (State.modRing r g s).cq = s.cq := rfl
@[simp] theorem State.modRing_cqHeld (r : Nat) (g : RingSt → RingSt) : (State.modRing r g s).cqHeld = s.cqHeld := rfl
@[simp] theorem State.modRing_attnNow (r : Nat) (g : RingSt → RingSt) : (State.modRing r g s).attnNow = s.attnNow := rfl
@[simp] theorem State.modRing_msixSent (r : Nat) (g : RingSt → RingSt) : (State.modRing r g s).msixSent = s.msixSent := rfl
@[simp] theorem State.modRing_relinkLog (r : Nat) (g : RingSt → RingSt) : (State.modRing r g s).relinkLog = s.relinkLog := rfl
@[simp] theorem State.modRing_dbNow (r : Nat) (g : RingSt → RingSt) : (State.modRing r g s).dbNow = s.dbNow := rfl
@[simp] theorem State.modRing_wroteNow (r : Nat) (g : RingSt → RingSt) : (State.modRing r g s).wroteNow = s.wroteNow := rfl
@[simp] theorem State.modRing_cfgRetry (r : Nat) (g : RingSt → RingSt) : (State.modRing r g s).cfgRetry = s.cfgRetry := rfl
@[simp] theorem State.modRing_ctr (r : Nat) (g : RingSt → RingSt) : (State.modRing r g s).ctr = s.ctr := rfl
@[simp] theorem State.modRing_fateQ (r : Nat) (g : RingSt → RingSt) : (State.modRing r g s).fateQ = s.fateQ := rfl
@[simp] theorem State.modRing_wrapped (r : Nat) (g : RingSt → RingSt) : (State.modRing r g s).wrapped = s.wrapped := rfl
@[simp] theorem State.modRing_frames (r : Nat) (g : RingSt → RingSt) : (State.modRing r g s).frames = s.frames := rfl
@[simp] theorem State.modRing_nextId (r : Nat) (g : RingSt → RingSt) : (State.modRing r g s).nextId = s.nextId := rfl
@[simp] theorem State.modRing_era (r : Nat) (g : RingSt → RingSt) : (State.modRing r g s).era = s.era := rfl
@[simp] theorem State.modRing_sent (r : Nat) (g : RingSt → RingSt) : (State.modRing r g s).sent = s.sent := rfl
@[simp] theorem State.modRing_rxData (r : Nat) (g : RingSt → RingSt) : (State.modRing r g s).rxData = s.rxData := rfl
@[simp] theorem State.modRing_sheds (r : Nat) (g : RingSt → RingSt) : (State.modRing r g s).sheds = s.sheds := rfl
@[simp] theorem State.modRing_bobbins (r : Nat) (g : RingSt → RingSt) : (State.modRing r g s).bobbins = s.bobbins := rfl
@[simp] theorem State.modRing_bobbinNow (r : Nat) (g : RingSt → RingSt) : (State.modRing r g s).bobbinNow = s.bobbinNow := rfl
@[simp] theorem State.modRing_macWas (r : Nat) (g : RingSt → RingSt) : (State.modRing r g s).macWas = s.macWas := rfl
@[simp] theorem State.modRing_bobbinEp (r : Nat) (g : RingSt → RingSt) : (State.modRing r g s).bobbinEp = s.bobbinEp := rfl
@[simp] theorem State.modRing_pauseFor (r : Nat) (g : RingSt → RingSt) : (State.modRing r g s).pauseFor = s.pauseFor := rfl
@[simp] theorem State.modRing_ctlQ (r : Nat) (g : RingSt → RingSt) : (State.modRing r g s).ctlQ = s.ctlQ := rfl
@[simp] theorem State.modRing_ctlSent (r : Nat) (g : RingSt → RingSt) : (State.modRing r g s).ctlSent = s.ctlSent := rfl
@[simp] theorem State.modRing_portRst (r : Nat) (g : RingSt → RingSt) : (State.modRing r g s).portRst = s.portRst := rfl
@[simp] theorem State.modRing_rules (r : Nat) (g : RingSt → RingSt) : (State.modRing r g s).rules = s.rules := rfl
@[simp] theorem State.modRing_swaps (r : Nat) (g : RingSt → RingSt) : (State.modRing r g s).swaps = s.swaps := rfl
@[simp] theorem State.modRing_swapSeq (r : Nat) (g : RingSt → RingSt) : (State.modRing r g s).swapSeq = s.swapSeq := rfl
@[simp] theorem State.modRing_writer (r : Nat) (g : RingSt → RingSt) : (State.modRing r g s).writer = s.writer := rfl
@[simp] theorem State.modRing_writeQ (r : Nat) (g : RingSt → RingSt) : (State.modRing r g s).writeQ = s.writeQ := rfl
@[simp] theorem State.modRing_swapWait (r : Nat) (g : RingSt → RingSt) : (State.modRing r g s).swapWait = s.swapWait := rfl
@[simp] theorem State.modRing_fdb (r : Nat) (g : RingSt → RingSt) : (State.modRing r g s).fdb = s.fdb := rfl
@[simp] theorem State.modRing_fdbTouched (r : Nat) (g : RingSt → RingSt) : (State.modRing r g s).fdbTouched = s.fdbTouched := rfl
@[simp] theorem State.modRing_fdbFlushes (r : Nat) (g : RingSt → RingSt) : (State.modRing r g s).fdbFlushes = s.fdbFlushes := rfl
@[simp] theorem State.modRing_fdbFreed (r : Nat) (g : RingSt → RingSt) : (State.modRing r g s).fdbFreed = s.fdbFreed := rfl
@[simp] theorem State.modRing_hedPtr (r : Nat) (g : RingSt → RingSt) : (State.modRing r g s).hedPtr = s.hedPtr := rfl
@[simp] theorem State.modRing_headSeq (r : Nat) (g : RingSt → RingSt) : (State.modRing r g s).headSeq = s.headSeq := rfl
@[simp] theorem State.modRing_hedJobs (r : Nat) (g : RingSt → RingSt) : (State.modRing r g s).hedJobs = s.hedJobs := rfl
@[simp] theorem State.modRing_shuttles (r : Nat) (g : RingSt → RingSt) : (State.modRing r g s).shuttles = s.shuttles := rfl
@[simp] theorem State.modRing_pairs (r : Nat) (g : RingSt → RingSt) : (State.modRing r g s).pairs = s.pairs := rfl
@[simp] theorem State.modRing_picksNow (r : Nat) (g : RingSt → RingSt) : (State.modRing r g s).picksNow = s.picksNow := rfl
@[simp] theorem State.modRing_groupWas (r : Nat) (g : RingSt → RingSt) : (State.modRing r g s).groupWas = s.groupWas := rfl
@[simp] theorem State.modRing_rows (r : Nat) (g : RingSt → RingSt) : (State.modRing r g s).rows = s.rows := rfl
@[simp] theorem State.modRing_warpPtr (r : Nat) (g : RingSt → RingSt) : (State.modRing r g s).warpPtr = s.warpPtr := rfl
@[simp] theorem State.modRing_nodeRst (r : Nat) (g : RingSt → RingSt) : (State.modRing r g s).nodeRst = s.nodeRst := rfl
@[simp] theorem State.modRing_innerHold (r : Nat) (g : RingSt → RingSt) : (State.modRing r g s).innerHold = s.innerHold := rfl
@[simp] theorem State.modRing_mirrors (r : Nat) (g : RingSt → RingSt) : (State.modRing r g s).mirrors = s.mirrors := rfl
@[simp] theorem State.modRing_headShort (r : Nat) (g : RingSt → RingSt) : (State.modRing r g s).headShort = s.headShort := rfl
@[simp] theorem State.modRing_drr (r : Nat) (g : RingSt → RingSt) : (State.modRing r g s).drr = s.drr := rfl
@[simp] theorem State.modRing_balance (r : Nat) (g : RingSt → RingSt) : (State.modRing r g s).balance = s.balance := rfl
@[simp] theorem State.modRing_pool (r : Nat) (g : RingSt → RingSt) : (State.modRing r g s).pool = s.pool := rfl
@[simp] theorem State.modRing_unitsNow (r : Nat) (g : RingSt → RingSt) : (State.modRing r g s).unitsNow = s.unitsNow := rfl
@[simp] theorem State.modRing_unitsLast (r : Nat) (g : RingSt → RingSt) : (State.modRing r g s).unitsLast = s.unitsLast := rfl
@[simp] theorem State.modRing_demand (r : Nat) (g : RingSt → RingSt) : (State.modRing r g s).demand = s.demand := rfl
@[simp] theorem State.modRing_oeLow (r : Nat) (g : RingSt → RingSt) : (State.modRing r g s).oeLow = s.oeLow := rfl
@[simp] theorem State.modRing_deskewed (r : Nat) (g : RingSt → RingSt) : (State.modRing r g s).deskewed = s.deskewed := rfl
@[simp] theorem State.modRing_eqMoves (r : Nat) (g : RingSt → RingSt) : (State.modRing r g s).eqMoves = s.eqMoves := rfl
@[simp] theorem State.modRing_elapsed (r : Nat) (g : RingSt → RingSt) : (State.modRing r g s).elapsed = s.elapsed := rfl
@[simp] theorem State.modRing_scaleAcc (r : Nat) (g : RingSt → RingSt) : (State.modRing r g s).scaleAcc = s.scaleAcc := rfl
@[simp] theorem State.modRing_corrAcc (r : Nat) (g : RingSt → RingSt) : (State.modRing r g s).corrAcc = s.corrAcc := rfl
@[simp] theorem State.modRing_spareWin (r : Nat) (g : RingSt → RingSt) : (State.modRing r g s).spareWin = s.spareWin := rfl
@[simp] theorem State.modRing_spareBad (r : Nat) (g : RingSt → RingSt) : (State.modRing r g s).spareBad = s.spareBad := rfl
@[simp] theorem State.modRing_ovenSeen (r : Nat) (g : RingSt → RingSt) : (State.modRing r g s).ovenSeen = s.ovenSeen := rfl
@[simp] theorem State.modRing_chans (r : Nat) (g : RingSt → RingSt) : (State.modRing r g s).chans = s.chans := rfl
@[simp] theorem State.modRing_slots (r : Nat) (g : RingSt → RingSt) : (State.modRing r g s).slots = s.slots := rfl
@[simp] theorem State.modRing_dpll (r : Nat) (g : RingSt → RingSt) : (State.modRing r g s).dpll = s.dpll := rfl
@[simp] theorem State.modRing_synStage (r : Nat) (g : RingSt → RingSt) : (State.modRing r g s).synStage = s.synStage := rfl
@[simp] theorem State.modRing_clkouts (r : Nat) (g : RingSt → RingSt) : (State.modRing r g s).clkouts = s.clkouts := rfl
@[simp] theorem State.modRing_pulses (r : Nat) (g : RingSt → RingSt) : (State.modRing r g s).pulses = s.pulses := rfl
@[simp] theorem State.modRing_treadles (r : Nat) (g : RingSt → RingSt) : (State.modRing r g s).treadles = s.treadles := rfl
@[simp] theorem State.modRing_ppsEdge (r : Nat) (g : RingSt → RingSt) : (State.modRing r g s).ppsEdge = s.ppsEdge := rfl
@[simp] theorem State.modRing_todSeq (r : Nat) (g : RingSt → RingSt) : (State.modRing r g s).todSeq = s.todSeq := rfl
@[simp] theorem State.modRing_todSent (r : Nat) (g : RingSt → RingSt) : (State.modRing r g s).todSent = s.todSent := rfl
@[simp] theorem State.modRing_timeSet (r : Nat) (g : RingSt → RingSt) : (State.modRing r g s).timeSet = s.timeSet := rfl
@[simp] theorem State.modRing_upstream (r : Nat) (g : RingSt → RingSt) : (State.modRing r g s).upstream = s.upstream := rfl
@[simp] theorem State.modRing_kpl (r : Nat) (g : RingSt → RingSt) : (State.modRing r g s).kpl = s.kpl := rfl
@[simp] theorem State.modRing_ptp (r : Nat) (g : RingSt → RingSt) : (State.modRing r g s).ptp = s.ptp := rfl
@[simp] theorem State.modRing_tcSyncs (r : Nat) (g : RingSt → RingSt) : (State.modRing r g s).tcSyncs = s.tcSyncs := rfl
@[simp] theorem State.modRing_tcMiss (r : Nat) (g : RingSt → RingSt) : (State.modRing r g s).tcMiss = s.tcMiss := rfl
@[simp] theorem State.modRing_gnss (r : Nat) (g : RingSt → RingSt) : (State.modRing r g s).gnss = s.gnss := rfl
@[simp] theorem State.modRing_cal (r : Nat) (g : RingSt → RingSt) : (State.modRing r g s).cal = s.cal := rfl
@[simp] theorem State.modRing_calMoves (r : Nat) (g : RingSt → RingSt) : (State.modRing r g s).calMoves = s.calMoves := rfl
@[simp] theorem State.modRing_calRuns (r : Nat) (g : RingSt → RingSt) : (State.modRing r g s).calRuns = s.calRuns := rfl
@[simp] theorem State.modRing_asyms (r : Nat) (g : RingSt → RingSt) : (State.modRing r g s).asyms = s.asyms := rfl
@[simp] theorem State.modRing_complexes (r : Nat) (g : RingSt → RingSt) : (State.modRing r g s).complexes = s.complexes := rfl
@[simp] theorem State.modRing_leadNext (r : Nat) (g : RingSt → RingSt) : (State.modRing r g s).leadNext = s.leadNext := rfl
@[simp] theorem State.modRing_dualLeft (r : Nat) (g : RingSt → RingSt) : (State.modRing r g s).dualLeft = s.dualLeft := rfl
@[simp] theorem State.modRing_acted (r : Nat) (g : RingSt → RingSt) : (State.modRing r g s).acted = s.acted := rfl
@[simp] theorem State.modRing_outWins (r : Nat) (g : RingSt → RingSt) : (State.modRing r g s).outWins = s.outWins := rfl
@[simp] theorem State.modRing_perfHold (r : Nat) (g : RingSt → RingSt) : (State.modRing r g s).perfHold = s.perfHold := rfl
@[simp] theorem State.modRing_logs (r : Nat) (g : RingSt → RingSt) : (State.modRing r g s).logs = s.logs := rfl
@[simp] theorem State.modRing_hedResets (r : Nat) (g : RingSt → RingSt) : (State.modRing r g s).hedResets = s.hedResets := rfl
@[simp] theorem State.modRing_tasks (r : Nat) (g : RingSt → RingSt) : (State.modRing r g s).tasks = s.tasks := rfl
@[simp] theorem State.modRing_batch (r : Nat) (g : RingSt → RingSt) : (State.modRing r g s).batch = s.batch := rfl
@[simp] theorem State.modRing_obs (r : Nat) (g : RingSt → RingSt) : (State.modRing r g s).obs = s.obs := rfl

/-! ### `State.modTask` -/

@[simp] theorem State.modTask_pending (k : Nat) (g : TaskSt → TaskSt) : (State.modTask k g s).pending = s.pending := rfl
@[simp] theorem State.modTask_freeIdx (k : Nat) (g : TaskSt → TaskSt) : (State.modTask k g s).freeIdx = s.freeIdx := rfl
@[simp] theorem State.modTask_regs (k : Nat) (g : TaskSt → TaskSt) : (State.modTask k g s).regs = s.regs := rfl
@[simp] theorem State.modTask_rdata (k : Nat) (g : TaskSt → TaskSt) : (State.modTask k g s).rdata = s.rdata := rfl
@[simp] theorem State.modTask_latches (k : Nat) (g : TaskSt → TaskSt) : (State.modTask k g s).latches = s.latches := rfl
@[simp] theorem State.modTask_nt (k : Nat) (g : TaskSt → TaskSt) : (State.modTask k g s).nt = s.nt := rfl
@[simp] theorem State.modTask_timers (k : Nat) (g : TaskSt → TaskSt) : (State.modTask k g s).timers = s.timers := rfl
@[simp] theorem State.modTask_evals (k : Nat) (g : TaskSt → TaskSt) : (State.modTask k g s).evals = s.evals := rfl
@[simp] theorem State.modTask_safePhase (k : Nat) (g : TaskSt → TaskSt) : (State.modTask k g s).safePhase = s.safePhase := rfl
@[simp] theorem State.modTask_setNow (k : Nat) (g : TaskSt → TaskSt) : (State.modTask k g s).setNow = s.setNow := rfl
@[simp] theorem State.modTask_cycles (k : Nat) (g : TaskSt → TaskSt) : (State.modTask k g s).cycles = s.cycles := rfl
@[simp] theorem State.modTask_supply (k : Nat) (g : TaskSt → TaskSt) : (State.modTask k g s).supply = s.supply := rfl
@[simp] theorem State.modTask_vinOk (k : Nat) (g : TaskSt → TaskSt) : (State.modTask k g s).vinOk = s.vinOk := rfl
@[simp] theorem State.modTask_enable (k : Nat) (g : TaskSt → TaskSt) : (State.modTask k g s).enable = s.enable := rfl
@[simp] theorem State.modTask_vio (k : Nat) (g : TaskSt → TaskSt) : (State.modTask k g s).vio = s.vio := rfl
@[simp] theorem State.modTask_resetN (k : Nat) (g : TaskSt → TaskSt) : (State.modTask k g s).resetN = s.resetN := rfl
@[simp] theorem State.modTask_perstN (k : Nat) (g : TaskSt → TaskSt) : (State.modTask k g s).perstN = s.perstN := rfl
@[simp] theorem State.modTask_dieTemp (k : Nat) (g : TaskSt → TaskSt) : (State.modTask k g s).dieTemp = s.dieTemp := rfl
@[simp] theorem State.modTask_tap (k : Nat) (g : TaskSt → TaskSt) : (State.modTask k g s).tap = s.tap := rfl
@[simp] theorem State.modTask_order (k : Nat) (g : TaskSt → TaskSt) : (State.modTask k g s).order = s.order := rfl
@[simp] theorem State.modTask_bootNo (k : Nat) (g : TaskSt → TaskSt) : (State.modTask k g s).bootNo = s.bootNo := rfl
@[simp] theorem State.modTask_bootCause (k : Nat) (g : TaskSt → TaskSt) : (State.modTask k g s).bootCause = s.bootCause := rfl
@[simp] theorem State.modTask_ledgerOff (k : Nat) (g : TaskSt → TaskSt) : (State.modTask k g s).ledgerOff = s.ledgerOff := rfl
@[simp] theorem State.modTask_early (k : Nat) (g : TaskSt → TaskSt) : (State.modTask k g s).early = s.early := rfl
@[simp] theorem State.modTask_bootFb (k : Nat) (g : TaskSt → TaskSt) : (State.modTask k g s).bootFb = s.bootFb := rfl
@[simp] theorem State.modTask_fell (k : Nat) (g : TaskSt → TaskSt) : (State.modTask k g s).fell = s.fell := rfl
@[simp] theorem State.modTask_debugHold (k : Nat) (g : TaskSt → TaskSt) : (State.modTask k g s).debugHold = s.debugHold := rfl
@[simp] theorem State.modTask_wasBusy (k : Nat) (g : TaskSt → TaskSt) : (State.modTask k g s).wasBusy = s.wasBusy := rfl
@[simp] theorem State.modTask_ledger (k : Nat) (g : TaskSt → TaskSt) : (State.modTask k g s).ledger = s.ledger := rfl
@[simp] theorem State.modTask_norHdr (k : Nat) (g : TaskSt → TaskSt) : (State.modTask k g s).norHdr = s.norHdr := rfl
@[simp] theorem State.modTask_framHdr (k : Nat) (g : TaskSt → TaskSt) : (State.modTask k g s).framHdr = s.framHdr := rfl
@[simp] theorem State.modTask_commits (k : Nat) (g : TaskSt → TaskSt) : (State.modTask k g s).commits = s.commits := rfl
@[simp] theorem State.modTask_nor (k : Nat) (g : TaskSt → TaskSt) : (State.modTask k g s).nor = s.nor := rfl
@[simp] theorem State.modTask_job (k : Nat) (g : TaskSt → TaskSt) : (State.modTask k g s).job = s.job := rfl
@[simp] theorem State.modTask_cfgApply (k : Nat) (g : TaskSt → TaskSt) : (State.modTask k g s).cfgApply = s.cfgApply := rfl
@[simp] theorem State.modTask_stallWait (k : Nat) (g : TaskSt → TaskSt) : (State.modTask k g s).stallWait = s.stallWait := rfl
@[simp] theorem State.modTask_onBootOsc (k : Nat) (g : TaskSt → TaskSt) : (State.modTask k g s).onBootOsc = s.onBootOsc := rfl
@[simp] theorem State.modTask_elemHeld (k : Nat) (g : TaskSt → TaskSt) : (State.modTask k g s).elemHeld = s.elemHeld := rfl
@[simp] theorem State.modTask_rings (k : Nat) (g : TaskSt → TaskSt) : (State.modTask k g s).rings = s.rings := rfl
@[simp] theorem State.modTask_accepted (k : Nat) (g : TaskSt → TaskSt) : (State.modTask k g s).accepted = s.accepted := rfl
@[simp] theorem State.modTask_cq (k : Nat) (g : TaskSt → TaskSt) : (State.modTask k g s).cq = s.cq := rfl
@[simp] theorem State.modTask_cqHeld (k : Nat) (g : TaskSt → TaskSt) : (State.modTask k g s).cqHeld = s.cqHeld := rfl
@[simp] theorem State.modTask_attnNow (k : Nat) (g : TaskSt → TaskSt) : (State.modTask k g s).attnNow = s.attnNow := rfl
@[simp] theorem State.modTask_msixSent (k : Nat) (g : TaskSt → TaskSt) : (State.modTask k g s).msixSent = s.msixSent := rfl
@[simp] theorem State.modTask_relinkLog (k : Nat) (g : TaskSt → TaskSt) : (State.modTask k g s).relinkLog = s.relinkLog := rfl
@[simp] theorem State.modTask_dbNow (k : Nat) (g : TaskSt → TaskSt) : (State.modTask k g s).dbNow = s.dbNow := rfl
@[simp] theorem State.modTask_wroteNow (k : Nat) (g : TaskSt → TaskSt) : (State.modTask k g s).wroteNow = s.wroteNow := rfl
@[simp] theorem State.modTask_cfgRetry (k : Nat) (g : TaskSt → TaskSt) : (State.modTask k g s).cfgRetry = s.cfgRetry := rfl
@[simp] theorem State.modTask_ctr (k : Nat) (g : TaskSt → TaskSt) : (State.modTask k g s).ctr = s.ctr := rfl
@[simp] theorem State.modTask_fateQ (k : Nat) (g : TaskSt → TaskSt) : (State.modTask k g s).fateQ = s.fateQ := rfl
@[simp] theorem State.modTask_wrapped (k : Nat) (g : TaskSt → TaskSt) : (State.modTask k g s).wrapped = s.wrapped := rfl
@[simp] theorem State.modTask_frames (k : Nat) (g : TaskSt → TaskSt) : (State.modTask k g s).frames = s.frames := rfl
@[simp] theorem State.modTask_nextId (k : Nat) (g : TaskSt → TaskSt) : (State.modTask k g s).nextId = s.nextId := rfl
@[simp] theorem State.modTask_era (k : Nat) (g : TaskSt → TaskSt) : (State.modTask k g s).era = s.era := rfl
@[simp] theorem State.modTask_sent (k : Nat) (g : TaskSt → TaskSt) : (State.modTask k g s).sent = s.sent := rfl
@[simp] theorem State.modTask_rxData (k : Nat) (g : TaskSt → TaskSt) : (State.modTask k g s).rxData = s.rxData := rfl
@[simp] theorem State.modTask_sheds (k : Nat) (g : TaskSt → TaskSt) : (State.modTask k g s).sheds = s.sheds := rfl
@[simp] theorem State.modTask_bobbins (k : Nat) (g : TaskSt → TaskSt) : (State.modTask k g s).bobbins = s.bobbins := rfl
@[simp] theorem State.modTask_bobbinNow (k : Nat) (g : TaskSt → TaskSt) : (State.modTask k g s).bobbinNow = s.bobbinNow := rfl
@[simp] theorem State.modTask_macWas (k : Nat) (g : TaskSt → TaskSt) : (State.modTask k g s).macWas = s.macWas := rfl
@[simp] theorem State.modTask_bobbinEp (k : Nat) (g : TaskSt → TaskSt) : (State.modTask k g s).bobbinEp = s.bobbinEp := rfl
@[simp] theorem State.modTask_pauseFor (k : Nat) (g : TaskSt → TaskSt) : (State.modTask k g s).pauseFor = s.pauseFor := rfl
@[simp] theorem State.modTask_ctlQ (k : Nat) (g : TaskSt → TaskSt) : (State.modTask k g s).ctlQ = s.ctlQ := rfl
@[simp] theorem State.modTask_ctlSent (k : Nat) (g : TaskSt → TaskSt) : (State.modTask k g s).ctlSent = s.ctlSent := rfl
@[simp] theorem State.modTask_portRst (k : Nat) (g : TaskSt → TaskSt) : (State.modTask k g s).portRst = s.portRst := rfl
@[simp] theorem State.modTask_rules (k : Nat) (g : TaskSt → TaskSt) : (State.modTask k g s).rules = s.rules := rfl
@[simp] theorem State.modTask_swaps (k : Nat) (g : TaskSt → TaskSt) : (State.modTask k g s).swaps = s.swaps := rfl
@[simp] theorem State.modTask_swapSeq (k : Nat) (g : TaskSt → TaskSt) : (State.modTask k g s).swapSeq = s.swapSeq := rfl
@[simp] theorem State.modTask_writer (k : Nat) (g : TaskSt → TaskSt) : (State.modTask k g s).writer = s.writer := rfl
@[simp] theorem State.modTask_writeQ (k : Nat) (g : TaskSt → TaskSt) : (State.modTask k g s).writeQ = s.writeQ := rfl
@[simp] theorem State.modTask_swapWait (k : Nat) (g : TaskSt → TaskSt) : (State.modTask k g s).swapWait = s.swapWait := rfl
@[simp] theorem State.modTask_fdb (k : Nat) (g : TaskSt → TaskSt) : (State.modTask k g s).fdb = s.fdb := rfl
@[simp] theorem State.modTask_fdbTouched (k : Nat) (g : TaskSt → TaskSt) : (State.modTask k g s).fdbTouched = s.fdbTouched := rfl
@[simp] theorem State.modTask_fdbFlushes (k : Nat) (g : TaskSt → TaskSt) : (State.modTask k g s).fdbFlushes = s.fdbFlushes := rfl
@[simp] theorem State.modTask_fdbFreed (k : Nat) (g : TaskSt → TaskSt) : (State.modTask k g s).fdbFreed = s.fdbFreed := rfl
@[simp] theorem State.modTask_hedPtr (k : Nat) (g : TaskSt → TaskSt) : (State.modTask k g s).hedPtr = s.hedPtr := rfl
@[simp] theorem State.modTask_headSeq (k : Nat) (g : TaskSt → TaskSt) : (State.modTask k g s).headSeq = s.headSeq := rfl
@[simp] theorem State.modTask_hedJobs (k : Nat) (g : TaskSt → TaskSt) : (State.modTask k g s).hedJobs = s.hedJobs := rfl
@[simp] theorem State.modTask_shuttles (k : Nat) (g : TaskSt → TaskSt) : (State.modTask k g s).shuttles = s.shuttles := rfl
@[simp] theorem State.modTask_pairs (k : Nat) (g : TaskSt → TaskSt) : (State.modTask k g s).pairs = s.pairs := rfl
@[simp] theorem State.modTask_picksNow (k : Nat) (g : TaskSt → TaskSt) : (State.modTask k g s).picksNow = s.picksNow := rfl
@[simp] theorem State.modTask_groupWas (k : Nat) (g : TaskSt → TaskSt) : (State.modTask k g s).groupWas = s.groupWas := rfl
@[simp] theorem State.modTask_rows (k : Nat) (g : TaskSt → TaskSt) : (State.modTask k g s).rows = s.rows := rfl
@[simp] theorem State.modTask_warpPtr (k : Nat) (g : TaskSt → TaskSt) : (State.modTask k g s).warpPtr = s.warpPtr := rfl
@[simp] theorem State.modTask_nodeRst (k : Nat) (g : TaskSt → TaskSt) : (State.modTask k g s).nodeRst = s.nodeRst := rfl
@[simp] theorem State.modTask_innerHold (k : Nat) (g : TaskSt → TaskSt) : (State.modTask k g s).innerHold = s.innerHold := rfl
@[simp] theorem State.modTask_mirrors (k : Nat) (g : TaskSt → TaskSt) : (State.modTask k g s).mirrors = s.mirrors := rfl
@[simp] theorem State.modTask_headShort (k : Nat) (g : TaskSt → TaskSt) : (State.modTask k g s).headShort = s.headShort := rfl
@[simp] theorem State.modTask_drr (k : Nat) (g : TaskSt → TaskSt) : (State.modTask k g s).drr = s.drr := rfl
@[simp] theorem State.modTask_balance (k : Nat) (g : TaskSt → TaskSt) : (State.modTask k g s).balance = s.balance := rfl
@[simp] theorem State.modTask_pool (k : Nat) (g : TaskSt → TaskSt) : (State.modTask k g s).pool = s.pool := rfl
@[simp] theorem State.modTask_unitsNow (k : Nat) (g : TaskSt → TaskSt) : (State.modTask k g s).unitsNow = s.unitsNow := rfl
@[simp] theorem State.modTask_unitsLast (k : Nat) (g : TaskSt → TaskSt) : (State.modTask k g s).unitsLast = s.unitsLast := rfl
@[simp] theorem State.modTask_demand (k : Nat) (g : TaskSt → TaskSt) : (State.modTask k g s).demand = s.demand := rfl
@[simp] theorem State.modTask_oeLow (k : Nat) (g : TaskSt → TaskSt) : (State.modTask k g s).oeLow = s.oeLow := rfl
@[simp] theorem State.modTask_deskewed (k : Nat) (g : TaskSt → TaskSt) : (State.modTask k g s).deskewed = s.deskewed := rfl
@[simp] theorem State.modTask_eqMoves (k : Nat) (g : TaskSt → TaskSt) : (State.modTask k g s).eqMoves = s.eqMoves := rfl
@[simp] theorem State.modTask_elapsed (k : Nat) (g : TaskSt → TaskSt) : (State.modTask k g s).elapsed = s.elapsed := rfl
@[simp] theorem State.modTask_scaleAcc (k : Nat) (g : TaskSt → TaskSt) : (State.modTask k g s).scaleAcc = s.scaleAcc := rfl
@[simp] theorem State.modTask_corrAcc (k : Nat) (g : TaskSt → TaskSt) : (State.modTask k g s).corrAcc = s.corrAcc := rfl
@[simp] theorem State.modTask_spareWin (k : Nat) (g : TaskSt → TaskSt) : (State.modTask k g s).spareWin = s.spareWin := rfl
@[simp] theorem State.modTask_spareBad (k : Nat) (g : TaskSt → TaskSt) : (State.modTask k g s).spareBad = s.spareBad := rfl
@[simp] theorem State.modTask_ovenSeen (k : Nat) (g : TaskSt → TaskSt) : (State.modTask k g s).ovenSeen = s.ovenSeen := rfl
@[simp] theorem State.modTask_chans (k : Nat) (g : TaskSt → TaskSt) : (State.modTask k g s).chans = s.chans := rfl
@[simp] theorem State.modTask_slots (k : Nat) (g : TaskSt → TaskSt) : (State.modTask k g s).slots = s.slots := rfl
@[simp] theorem State.modTask_dpll (k : Nat) (g : TaskSt → TaskSt) : (State.modTask k g s).dpll = s.dpll := rfl
@[simp] theorem State.modTask_synStage (k : Nat) (g : TaskSt → TaskSt) : (State.modTask k g s).synStage = s.synStage := rfl
@[simp] theorem State.modTask_clkouts (k : Nat) (g : TaskSt → TaskSt) : (State.modTask k g s).clkouts = s.clkouts := rfl
@[simp] theorem State.modTask_pulses (k : Nat) (g : TaskSt → TaskSt) : (State.modTask k g s).pulses = s.pulses := rfl
@[simp] theorem State.modTask_treadles (k : Nat) (g : TaskSt → TaskSt) : (State.modTask k g s).treadles = s.treadles := rfl
@[simp] theorem State.modTask_ppsEdge (k : Nat) (g : TaskSt → TaskSt) : (State.modTask k g s).ppsEdge = s.ppsEdge := rfl
@[simp] theorem State.modTask_todSeq (k : Nat) (g : TaskSt → TaskSt) : (State.modTask k g s).todSeq = s.todSeq := rfl
@[simp] theorem State.modTask_todSent (k : Nat) (g : TaskSt → TaskSt) : (State.modTask k g s).todSent = s.todSent := rfl
@[simp] theorem State.modTask_timeSet (k : Nat) (g : TaskSt → TaskSt) : (State.modTask k g s).timeSet = s.timeSet := rfl
@[simp] theorem State.modTask_upstream (k : Nat) (g : TaskSt → TaskSt) : (State.modTask k g s).upstream = s.upstream := rfl
@[simp] theorem State.modTask_kpl (k : Nat) (g : TaskSt → TaskSt) : (State.modTask k g s).kpl = s.kpl := rfl
@[simp] theorem State.modTask_ptp (k : Nat) (g : TaskSt → TaskSt) : (State.modTask k g s).ptp = s.ptp := rfl
@[simp] theorem State.modTask_tcSyncs (k : Nat) (g : TaskSt → TaskSt) : (State.modTask k g s).tcSyncs = s.tcSyncs := rfl
@[simp] theorem State.modTask_tcMiss (k : Nat) (g : TaskSt → TaskSt) : (State.modTask k g s).tcMiss = s.tcMiss := rfl
@[simp] theorem State.modTask_gnss (k : Nat) (g : TaskSt → TaskSt) : (State.modTask k g s).gnss = s.gnss := rfl
@[simp] theorem State.modTask_cal (k : Nat) (g : TaskSt → TaskSt) : (State.modTask k g s).cal = s.cal := rfl
@[simp] theorem State.modTask_calMoves (k : Nat) (g : TaskSt → TaskSt) : (State.modTask k g s).calMoves = s.calMoves := rfl
@[simp] theorem State.modTask_calRuns (k : Nat) (g : TaskSt → TaskSt) : (State.modTask k g s).calRuns = s.calRuns := rfl
@[simp] theorem State.modTask_asyms (k : Nat) (g : TaskSt → TaskSt) : (State.modTask k g s).asyms = s.asyms := rfl
@[simp] theorem State.modTask_complexes (k : Nat) (g : TaskSt → TaskSt) : (State.modTask k g s).complexes = s.complexes := rfl
@[simp] theorem State.modTask_leadNext (k : Nat) (g : TaskSt → TaskSt) : (State.modTask k g s).leadNext = s.leadNext := rfl
@[simp] theorem State.modTask_dualLeft (k : Nat) (g : TaskSt → TaskSt) : (State.modTask k g s).dualLeft = s.dualLeft := rfl
@[simp] theorem State.modTask_acted (k : Nat) (g : TaskSt → TaskSt) : (State.modTask k g s).acted = s.acted := rfl
@[simp] theorem State.modTask_outWins (k : Nat) (g : TaskSt → TaskSt) : (State.modTask k g s).outWins = s.outWins := rfl
@[simp] theorem State.modTask_perfHold (k : Nat) (g : TaskSt → TaskSt) : (State.modTask k g s).perfHold = s.perfHold := rfl
@[simp] theorem State.modTask_logs (k : Nat) (g : TaskSt → TaskSt) : (State.modTask k g s).logs = s.logs := rfl
@[simp] theorem State.modTask_hedResets (k : Nat) (g : TaskSt → TaskSt) : (State.modTask k g s).hedResets = s.hedResets := rfl
@[simp] theorem State.modTask_batch (k : Nat) (g : TaskSt → TaskSt) : (State.modTask k g s).batch = s.batch := rfl
@[simp] theorem State.modTask_obs (k : Nat) (g : TaskSt → TaskSt) : (State.modTask k g s).obs = s.obs := rfl

end Sys2Proof.Machine
end

