-- ==== Sys2Proof/Laws/Tbl.lean ====
section
/-! SUPPORT. Laws of the sparse tables: reading after an update, and the rising form that every update keeps. -/

namespace Sys2Proof.Machine

open Sys2Proof

variable {α : Type}

@[simp] theorem Tbl.find_nil (k : Nat) : Tbl.find k ([] : Tbl α) = none := rfl

@[simp] theorem Tbl.find_ins_self (k : Nat) (v : α) (t : Tbl α) : Tbl.find k (Tbl.ins k v t) = some v := by
  induction t with
  | nil => simp [Tbl.ins, Tbl.find]
  | cons x t ih =>
    obtain ⟨j, w⟩ := x
    by_cases h1 : k < j
    · simp [Tbl.ins, h1, Tbl.find]
    · by_cases h2 : k = j
      · simp [Tbl.ins, h2, Tbl.find]
      · simp [Tbl.ins, h1, h2, Tbl.find, ih, Ne.symm h2]

theorem Tbl.find_ins_ne {k j : Nat} (h : j ≠ k) (v : α) (t : Tbl α) : Tbl.find j (Tbl.ins k v t) = Tbl.find j t := by
  induction t with
  | nil => simp [Tbl.ins, Tbl.find, Ne.symm h]
  | cons x t ih =>
    obtain ⟨i, w⟩ := x
    by_cases h1 : k < i
    · simp [Tbl.ins, h1, Tbl.find, Ne.symm h]
    · by_cases h2 : k = i
      · subst h2; simp [Tbl.ins, Tbl.find, Ne.symm h]
      · simp [Tbl.ins, h1, h2, Tbl.find, ih]

@[simp] theorem Tbl.find_del_self (k : Nat) (t : Tbl α) : Tbl.find k (Tbl.del k t) = none := by
  induction t with
  | nil => rfl
  | cons x t ih =>
    obtain ⟨j, w⟩ := x
    by_cases h : j = k
    · simp [Tbl.del, h, ih]
    · simp [Tbl.del, h, Tbl.find, ih]

theorem Tbl.find_del_ne {k j : Nat} (h : j ≠ k) (t : Tbl α) : Tbl.find j (Tbl.del k t) = Tbl.find j t := by
  induction t with
  | nil => rfl
  | cons x t ih =>
    obtain ⟨i, w⟩ := x
    by_cases h1 : i = k
    · subst h1; simp [Tbl.del, Tbl.find, ih, Ne.symm h]
    · simp [Tbl.del, h1, Tbl.find, ih]

/-- Reading the entry just put, with the value that an unlisted key reads as. -/
theorem Tbl.getD_put_self [DecidableEq α] (d : α) (k : Nat) (v : α) (t : Tbl α) : (Tbl.find k (Tbl.put d k v t)).getD d = v := by
  by_cases h : v = d
  · simp [Tbl.put, h]
  · simp [Tbl.put, h]

theorem Tbl.find_put_ne [DecidableEq α] {k j : Nat} (h : j ≠ k) (d v : α) (t : Tbl α) :
    Tbl.find j (Tbl.put d k v t) = Tbl.find j t := by
  by_cases h1 : v = d
  · simp [Tbl.put, h1, Tbl.find_del_ne h]
  · simp [Tbl.put, h1, Tbl.find_ins_ne h]

/-! ### The rising form -/

theorem Tbl.rising_iff (t : Tbl α) : t.rising = true ↔ t.Pairwise (fun x y => x.1 < y.1) := by
  induction t with
  | nil => simp [Tbl.rising]
  | cons x t ih =>
    cases t with
    | nil => simp [Tbl.rising]
    | cons y t =>
      obtain ⟨j, v⟩ := x
      obtain ⟨k, w⟩ := y
      simp only [Tbl.rising, Bool.and_eq_true, decide_eq_true_eq, ih, List.pairwise_cons]
      constructor
      · rintro ⟨h, h1, h2⟩
        refine ⟨?_, h1, h2⟩
        intro z hz
        rcases List.mem_cons.1 hz with rfl | hz
        · exact h
        · exact Nat.lt_trans h (h1 z hz)
      · rintro ⟨h, h1, h2⟩
        exact ⟨h _ (List.mem_cons_self ..), h1, h2⟩

theorem Tbl.mem_ins {k : Nat} {v : α} {t : Tbl α} {x : Nat × α} (h : x ∈ Tbl.ins k v t) : x = (k, v) ∨ x ∈ t := by
  induction t with
  | nil => simpa [Tbl.ins] using h
  | cons y t ih =>
    obtain ⟨j, w⟩ := y
    simp only [Tbl.ins] at h
    split at h
    · simpa using h
    · split at h
      · simp only [List.mem_cons] at h ⊢
        rcases h with h | h
        · exact .inl h
        · exact .inr (.inr h)
      · simp only [List.mem_cons] at h ⊢
        rcases h with h | h
        · exact .inr (.inl h)
        · rcases ih h with h | h
          · exact .inl h
          · exact .inr (.inr h)

/-- In a rising table the entry put is the only one of its key. -/
theorem Tbl.mem_ins_ne {k : Nat} {v : α} {t : Tbl α} (hr : t.rising = true) {x : Nat × α} (h : x ∈ Tbl.ins k v t) :
    x = (k, v) ∨ (x ∈ t ∧ x.1 ≠ k) := by
  rw [Tbl.rising_iff] at hr
  induction t with
  | nil => left; simpa [Tbl.ins] using h
  | cons y t ih =>
    obtain ⟨j, w⟩ := y
    rw [List.pairwise_cons] at hr
    simp only [Tbl.ins] at h
    split at h
    · rename_i hk
      rcases List.mem_cons.1 h with h | h
      · exact .inl h
      · refine .inr ⟨h, ?_⟩
        rcases List.mem_cons.1 h with rfl | h
        · exact Nat.ne_of_gt hk
        · exact Nat.ne_of_gt (Nat.lt_trans hk (hr.1 x h))
    · split at h
      · rename_i hk
        rcases List.mem_cons.1 h with h | h
        · exact .inl h
        · exact .inr ⟨List.mem_cons_of_mem _ h, by subst hk; exact Nat.ne_of_gt (hr.1 x h)⟩
      · rename_i hk
        rcases List.mem_cons.1 h with rfl | h
        · exact .inr ⟨List.mem_cons_self .., Ne.symm hk⟩
        · rcases ih hr.2 h with h | h
          · exact .inl h
          · exact .inr ⟨List.mem_cons_of_mem _ h.1, h.2⟩

theorem Tbl.rising_ins (k : Nat) (v : α) {t : Tbl α} (h : t.rising = true) : (Tbl.ins k v t).rising = true := by
  rw [Tbl.rising_iff] at h ⊢
  induction t with
  | nil => simp [Tbl.ins]
  | cons y t ih =>
    obtain ⟨j, w⟩ := y
    rw [List.pairwise_cons] at h
    simp only [Tbl.ins]
    split
    · rename_i hk
      refine List.pairwise_cons.2 ⟨?_, List.pairwise_cons.2 h⟩
      intro z hz
      rcases List.mem_cons.1 hz with rfl | hz
      · exact hk
      · exact Nat.lt_trans hk (h.1 z hz)
    · split
      · rename_i hk
        subst hk
        exact List.pairwise_cons.2 ⟨h.1, h.2⟩
      · refine List.pairwise_cons.2 ⟨?_, ih h.2⟩
        intro z hz
        rcases Tbl.mem_ins hz with rfl | hz
        · show j < k
          omega
        · exact h.1 z hz

theorem Tbl.mem_del {k : Nat} {t : Tbl α} {x : Nat × α} (h : x ∈ Tbl.del k t) : x ∈ t := by
  induction t with
  | nil => simp [Tbl.del] at h
  | cons y t ih =>
    obtain ⟨j, w⟩ := y
    simp only [Tbl.del] at h
    split at h
    · exact List.mem_cons_of_mem _ (ih h)
    · rcases List.mem_cons.1 h with rfl | h
      · exact List.mem_cons_self ..
      · exact List.mem_cons_of_mem _ (ih h)

theorem Tbl.rising_del (k : Nat) {t : Tbl α} (h : t.rising = true) : (Tbl.del k t).rising = true := by
  rw [Tbl.rising_iff] at h ⊢
  induction t with
  | nil => simp [Tbl.del]
  | cons y t ih =>
    obtain ⟨j, w⟩ := y
    rw [List.pairwise_cons] at h
    simp only [Tbl.del]
    split
    · exact ih h.2
    · exact List.pairwise_cons.2 ⟨fun z hz => h.1 z (Tbl.mem_del hz), ih h.2⟩

theorem Tbl.rising_put [DecidableEq α] (d : α) (k : Nat) (v : α) {t : Tbl α} (h : t.rising = true) :
    (Tbl.put d k v t).rising = true := by
  unfold Tbl.put
  split
  · exact Tbl.rising_del k h
  · exact Tbl.rising_ins k v h

theorem Tbl.rising_filter (p : Nat × α → Bool) {t : Tbl α} (h : t.rising = true) : Tbl.rising (t.filter p) = true := by
  rw [Tbl.rising_iff] at h ⊢
  exact h.filter _

/-- A map that leaves the keys leaves the table rising. -/
theorem Tbl.rising_map {β : Type} (f : Nat × α → Nat × β) (hf : ∀ x, (f x).1 = x.1) {t : Tbl α} (h : t.rising = true) :
    Tbl.rising (t.map f) = true := by
  rw [Tbl.rising_iff] at h ⊢
  rw [List.pairwise_map]
  exact h.imp (fun {a b} hab => by rw [hf, hf]; exact hab)

/-- In a rising table a key has one entry. -/
theorem Tbl.rising_inj {t : Tbl α} (h : t.rising = true) {x y : Nat × α} (hx : x ∈ t) (hy : y ∈ t) (hk : x.1 = y.1) : x = y := by
  rw [Tbl.rising_iff] at h
  induction t with
  | nil => cases hx
  | cons z t ih =>
    rw [List.pairwise_cons] at h
    rcases List.mem_cons.1 hx with hx1 | hx1
    · rcases List.mem_cons.1 hy with hy1 | hy1
      · rw [hx1, hy1]
      · subst hx1
        exact absurd hk (Nat.ne_of_lt (h.1 y hy1))
    · rcases List.mem_cons.1 hy with hy1 | hy1
      · subst hy1
        exact absurd hk (Nat.ne_of_gt (h.1 x hx1))
      · exact ih h.2 hx1 hy1

end Sys2Proof.Machine
end

