-- ==== Sys2Proof/Laws/Registers.lean ====
section
/-! SUPPORT. Laws of the register file: reading a register or a field after a write, at every address. -/

namespace Sys2Proof.Machine

open Sys2Proof

/-- The register just written reads as written. -/
@[simp] theorem State.rd_wr_self (a : Nat) (v : Word) (s : State) : (s.wr a v).rd a = v := by
  simp [State.rd, State.wr, Tbl.getD_put_self]

/-- A write leaves every other register. -/
theorem State.rd_wr_ne {a b : Nat} (h : b ≠ a) (v : Word) (s : State) : (s.wr a v).rd b = s.rd b := by
  simp [State.rd, State.wr, Tbl.find_put_ne h]

/-- A register after a write, at every address. -/
theorem State.rd_wr (a b : Nat) (v : Word) (s : State) : (s.wr a v).rd b = if b = a then v else s.rd b := by
  by_cases h : b = a
  · subst h; simp
  · simp [h, State.rd_wr_ne h]

@[simp] theorem State.rd_set_self (f : Fld) (v : Nat) (s : State) : (s.set f v).rd f.addr = f.put (s.rd f.addr) v := by
  simp [State.set]

theorem State.rd_set_ne {f : Fld} {b : Nat} (h : b ≠ f.addr) (v : Nat) (s : State) : (s.set f v).rd b = s.rd b :=
  State.rd_wr_ne h _ _

/-- A field of another register stays. -/
theorem State.get_set_addr {f g : Fld} (h : g.addr ≠ f.addr) (v : Nat) (s : State) : (s.set f v).get g = s.get g := by
  unfold State.get; rw [State.rd_set_ne h]

theorem State.on_set_addr {f g : Fld} (h : g.addr ≠ f.addr) (v : Nat) (s : State) : (s.set f v).on g = s.on g := by
  unfold State.on; rw [State.get_set_addr h]

/-- The bits of a word after a field of it is replaced. -/
theorem Fld.put_bit (f : Fld) (w : Word) (v i : Nat) (hi : i < 32) :
    (f.put w v).getLsbD i = if f.lsb ≤ i ∧ i < f.lsb + f.w then v.testBit (i - f.lsb) else w.getLsbD i := by
  unfold Fld.put
  simp only [BitVec.getLsbD_or, BitVec.getLsbD_and, BitVec.getLsbD_not, BitVec.getLsbD_shiftLeft, BitVec.getLsbD_ofNat,
    Nat.testBit_two_pow_sub_one]
  by_cases h1 : f.lsb ≤ i
  · have h2 : ¬ i < f.lsb := by omega
    have h3 : i - f.lsb < 32 := by omega
    by_cases h4 : i < f.lsb + f.w
    · have h5 : i - f.lsb < f.w := by omega
      simp [h1, h2, h3, h4, h5, hi]
    · have h5 : ¬ i - f.lsb < f.w := by omega
      simp [h1, h2, h4, h5, hi]
  · have h2 : i < f.lsb := by omega
    simp [h1, h2, hi]

theorem bits_testBit (x lsb w i : Nat) : (bits x lsb w).testBit i = (decide (i < w) && x.testBit (lsb + i)) := by
  simp [bits, Nat.testBit_mod_two_pow, Nat.testBit_div_two_pow, Nat.add_comm]

/-- The field just set reads as its value, cut to its width. -/
theorem State.get_set_self {f : Fld} (h : f.lsb + f.w ≤ 32) (v : Nat) (s : State) : (s.set f v).get f = v % 2 ^ f.w := by
  unfold State.get
  rw [State.rd_set_self]
  apply Nat.eq_of_testBit_eq
  intro i
  rw [bits_testBit, Nat.testBit_mod_two_pow]
  by_cases hi : i < f.w
  · have h1 : f.lsb + i < 32 := by omega
    have := Fld.put_bit f (s.rd f.addr) v (f.lsb + i) h1
    rw [BitVec.getLsbD] at this
    simp [hi, this]
  · simp [hi]

/-- Another field of the same register stays. -/
theorem State.get_set_ne {f g : Fld} (ha : g.addr = f.addr) (h : g.lsb + g.w ≤ f.lsb ∨ f.lsb + f.w ≤ g.lsb) (hg : g.lsb + g.w ≤ 32)
    (v : Nat) (s : State) : (s.set f v).get g = s.get g := by
  unfold State.get
  rw [ha, State.rd_set_self]
  apply Nat.eq_of_testBit_eq
  intro i
  rw [bits_testBit, bits_testBit]
  by_cases hi : i < g.w
  · have h1 : g.lsb + i < 32 := by omega
    have := Fld.put_bit f (s.rd f.addr) v (g.lsb + i) h1
    rw [BitVec.getLsbD, BitVec.getLsbD] at this
    have h2 : ¬ (f.lsb ≤ g.lsb + i ∧ g.lsb + i < f.lsb + f.w) := by omega
    simp [hi, this, h2]
  · simp [hi]

@[simp] theorem State.get_setB_self {f : Fld} (h : f.lsb + f.w ≤ 32) (hw : 0 < f.w) (b : Bool) (s : State) :
    (s.setB f b).get f = b2n b := by
  unfold State.setB
  rw [State.get_set_self h]
  apply Nat.mod_eq_of_lt
  have : 2 ^ 1 ≤ 2 ^ f.w := Nat.pow_le_pow_right (by omega) hw
  cases b <;> simp [b2n] <;> omega

/-- The state where `State.when` applies its function, and where it does not. -/
@[simp] theorem State.when_true (f : State → State) (s : State) : s.when true f = f s := rfl
@[simp] theorem State.when_false (f : State → State) (s : State) : s.when false f = s := rfl
@[simp] theorem State.forEach_nil {α : Type} (f : α → State → State) (s : State) : s.forEach [] f = s := rfl
@[simp] theorem State.forEach_cons {α : Type} (x : α) (l : List α) (f : α → State → State) (s : State) :
    s.forEach (x :: l) f = (f x s).forEach l f := rfl

end Sys2Proof.Machine
end

