-- ==== Sys2Proof/Laws/Events.lean ====
section
/-! SUPPORT. What attention, events before RUN and a reset of system scope leave in the registers. -/

namespace Sys2Proof.Machine

open Sys2Proof

/-- Attention bits stand in HIF_STATUS alone. -/
theorem State.rd_attn {a : Nat} (h : a ≠ R.HIF_STATUS) (m : Nat) (s : State) : (s.attn m).rd a = s.rd a := by
  unfold State.attn; split
  · rfl
  · exact State.rd_set_ne h _ _

@[simp] theorem State.rd_wakeTasks (c a : Nat) (s : State) : (s.wakeTasks c).rd a = s.rd a := rfl

theorem State.get_addr {s t : State} {f : Fld} (h : t.rd f.addr = s.rd f.addr) : t.get f = s.get f := by unfold State.get; rw [h]

theorem State.on_addr {s t : State} {f : Fld} (h : t.rd f.addr = s.rd f.addr) : t.on f = s.on f := by
  unfold State.on; rw [State.get_addr h]

theorem State.on_eq_get (s : State) (f : Fld) : s.on f = (s.get f != 0) := rfl

theorem State.run_attn (m : Nat) (s : State) : (s.attn m).run = s.run := State.on_addr (State.rd_attn (by decide) _ _)

/-- Before RUN an event is its attention bit and the waking of tasks, and no completion (04 R632). -/
theorem State.event_off {s : State} (h : s.run = false) (c x y : Nat) : s.event c x y = (s.attn (attnOf c)).wakeTasks c := by
  have h' : ((s.attn (attnOf c)).wakeTasks c).run = false := by
    show (s.attn (attnOf c)).run = false
    rw [State.run_attn]; exact h
  unfold State.event
  simp [h']

@[simp] theorem State.rd_stick (a b c : Nat) (s : State) : (s.stick a b).rd c = (s.set ⟨a, b, 1⟩ 1).rd c := rfl

/-- Registers put back as `s` has them. -/
theorem State.rd_restore (l : List Nat) (s t : State) (a : Nat) :
    (t.forEach l (fun b => State.wr b (s.rd b))).rd a = if a ∈ l then s.rd a else t.rd a := by
  induction l generalizing t with
  | nil => rfl
  | cons b l ih =>
    rw [State.forEach_cons, ih]
    by_cases h : a ∈ l
    · simp [h]
    · by_cases e : a = b
      · subst e; simp [State.rd_wr]
      · rw [if_neg h, State.rd_wr_ne e, if_neg (by simp [h, e])]

/-- The words that a reset of system scope keeps, by its cause (03 R83). -/
def resetKeeps (c : Nat) : List Nat := if c ≤ 1 then keptWords else aonWords

/-- What a reset of system scope leaves in every register but RST_CAUSE and PWR_BP_STATUS (03 R83, R117). -/
theorem State.systemReset_rd (c : Nat) (s : State) {a : Nat} (h : a ≠ R.RST_CAUSE) (h' : a ≠ R.PWR_BP_STATUS) :
    (s.systemReset c).rd a =
      if a = R.RST_DOMAIN then F.RST_DOMAIN_HELD.put (resetWord a) 0x1FF
      else if a = R.RST_BOOT then F.RST_BOOT_STEP.put (resetWord a) 1
      else if a ∈ resetKeeps c then s.rd a else resetWord a := by
  have base : ∀ b, b ≠ R.RST_CAUSE → b ≠ R.PWR_BP_STATUS →
      ((if c = 0 then (s.cleared.forEach (resetKeeps c) (fun a => State.wr a (s.rd a))).wr R.RST_CAUSE 1
        else (s.cleared.forEach (resetKeeps c) (fun a => State.wr a (s.rd a))).stick R.RST_CAUSE c).set F.PWR_BP_STATUS_KEEP_ACTIVE 0).rd b =
        if b ∈ resetKeeps c then s.rd b else resetWord b := by
    intro b hb hb'
    rw [State.rd_set_ne (f := F.PWR_BP_STATUS_KEEP_ACTIVE) hb']
    split
    · rw [State.rd_wr_ne hb, State.rd_restore]; rfl
    · rw [State.rd_stick, State.rd_set_ne (f := ⟨R.RST_CAUSE, c, 1⟩) hb, State.rd_restore]; rfl
  have hd : R.RST_DOMAIN ∉ resetKeeps c := by unfold resetKeeps; split <;> decide
  have hb : R.RST_BOOT ∉ resetKeeps c := by unfold resetKeeps; split <;> decide
  have ed := base R.RST_DOMAIN (by decide) (by decide)
  have eb := base R.RST_BOOT (by decide) (by decide)
  rw [if_neg hd] at ed
  rw [if_neg hb] at eb
  show ((((if c = 0 then _ else _ : State).set F.PWR_BP_STATUS_KEEP_ACTIVE 0).set F.RST_DOMAIN_HELD 0x1FF).set F.RST_BOOT_STEP 1).rd a = _
  by_cases h1 : a = R.RST_DOMAIN
  · subst h1
    rw [if_pos rfl, State.rd_set_ne (by decide)]
    refine (State.rd_set_self F.RST_DOMAIN_HELD _ _).trans ?_
    exact congrArg (F.RST_DOMAIN_HELD.put · 0x1FF) ed
  · by_cases h2 : a = R.RST_BOOT
    · subst h2
      rw [if_neg h1, if_pos rfl]
      refine (State.rd_set_self F.RST_BOOT_STEP _ _).trans ?_
      refine congrArg (F.RST_BOOT_STEP.put · 1) ?_
      rw [State.rd_set_ne (by decide)]
      exact eb
    · rw [State.rd_set_ne h2, State.rd_set_ne h1, if_neg h1, if_neg h2]
      exact base a h h'

end Sys2Proof.Machine
end

