-- ==== Sys2Proof/Laws/Kept.lean ====
section
/-! SUPPORT. What every operation keeps: the queue as it stands, the canonical register file and the sound forwarding database. The lemma
`<operation>_kept` of each operation says that it keeps them; the lemmas of this file take the states that operations build apart. -/

namespace Sys2Proof.Machine

open Sys2Proof

/-- The parts of a state that are kept: its queue is `Q`, its register file canonical, its forwarding database sound. -/
def KeptF (Q p : List Instr) (r : Tbl Word) (f : Tbl FdbEntry) : Prop := p = Q ∧ canonRegs r ∧ fdbSound f

/-- The queue of a state is `Q`, and the state is sound. -/
def Kept (Q : List Instr) (s : State) : Prop := KeptF Q s.pending s.regs s.fdb

/-- A step's next state is kept. -/
@[irreducible] def KeptO (Q : List Instr) (o : Host.Outcome State Fault Refusal) : Prop := ∀ t, o = .next t → Kept Q t

/-- A state, where there is one, is kept. -/
@[irreducible] def KeptM (Q : List Instr) (o : Option State) : Prop := ∀ t, o = some t → Kept Q t

theorem KeptO.next {Q t} (h : KeptO Q (.next t)) : Kept Q t := by unfold KeptO at h; exact h t rfl
theorem keptO_elim {Q o} (h : KeptO Q o) : ∀ t, o = .next t → Kept Q t := by unfold KeptO at h; exact h
theorem keptO_next {Q t} (h : Kept Q t) : KeptO Q (.next t) := by unfold KeptO; intro u hu; cases hu; exact h
theorem keptO_fault {Q r} : KeptO Q (.fault r) := by unfold KeptO; intro t ht; cases ht
theorem keptM_none {Q} : KeptM Q none := by unfold KeptM; intro t ht; cases ht
theorem keptM_some {Q t} (h : Kept Q t) : KeptM Q (some t) := by unfold KeptM; intro u hu; cases hu; exact h

theorem keptO_ite {Q} {c : Prop} [Decidable c] {a b : Host.Outcome State Fault Refusal} (ha : KeptO Q a) (hb : KeptO Q b) :
    KeptO Q (if c then a else b) := by split <;> assumption
theorem keptM_ite {Q} {c : Prop} [Decidable c] {a b : Option State} (ha : KeptM Q a) (hb : KeptM Q b) :
    KeptM Q (if c then a else b) := by split <;> assumption
theorem kept_ite {Q} {c : Prop} [Decidable c] {a b : State} (ha : Kept Q a) (hb : Kept Q b) : Kept Q (if c then a else b) := by
  split <;> assumption
theorem kept_ite1 {Q} {α : Type} {c : Prop} [Decidable c] {a b : State × α} (ha : Kept Q a.1) (hb : Kept Q b.1) :
    Kept Q (if c then a else b).1 := by split <;> assumption
theorem kept_ite2 {Q} {α : Type} {c : Prop} [Decidable c] {a b : α × State} (ha : Kept Q a.2) (hb : Kept Q b.2) :
    Kept Q (if c then a else b).2 := by split <;> assumption

theorem kept_snd {Q} {α : Type} {e : α × State} {a : α} {s : State} (he : e = (a, s)) (h : Kept Q e.2) : Kept Q s := by
  subst he; exact h
theorem kept_fst {Q} {α : Type} {e : State × α} {a : α} {s : State} (he : e = (s, a)) (h : Kept Q e.1) : Kept Q s := by
  subst he; exact h
theorem kept_trd {Q} {α β : Type} {e : α × β × State} {a : α} {b : β} {s : State} (he : e = (a, b, s)) (h : Kept Q e.2.2) : Kept Q s := by
  subst he; exact h
theorem kept_opt {Q} {e : Option State} {s : State} (he : e = some s) (h : KeptM Q e) : Kept Q s := by
  unfold KeptM at h; exact h s he

/-- A field that is not kept may change. -/
theorem kept_mk {Q p r f x1 x3 x4 x5 x6 x7 x8 x9 x10 x11 x12 x13 x14 x15 x16 x17 x18 x19 x20 x21 x22 x23 x24 x25 x26
    x27 x28 x29 x30 x31 x32 x33 x34 x35 x36 x37 x38 x39 x40 x41 x42 x43 x44 x45 x46 x47 x48 x49 x50 x51 x52 x53 x54
    x55 x56 x57 x58 x59 x60 x61 x62 x63 x64 x65 x66 x67 x68 x69 x70 x72 x73 x74 x75 x76 x77 x78 x79 x80 x81 x82 x83
    x84 x85 x86 x87 x88 x89 x90 x91 x92 x93 x94 x95 x96 x97 x98 x99 x100 x101 x102 x103 x104 x105 x106 x107 x108
    x109 x110 x111 x112 x113 x114 x115 x116 x117 x118 x119 x120 x121 x122 x123 x124 x125 x126 x127 x128 x129 x130
    x131 x132 x133 x134} (h : KeptF Q p r f) :
    Kept Q (State.mk p x1 r x3 x4 x5 x6 x7 x8 x9 x10 x11 x12 x13 x14 x15 x16 x17 x18 x19 x20 x21 x22 x23 x24 x25 x26
    x27 x28 x29 x30 x31 x32 x33 x34 x35 x36 x37 x38 x39 x40 x41 x42 x43 x44 x45 x46 x47 x48 x49 x50 x51 x52 x53 x54
    x55 x56 x57 x58 x59 x60 x61 x62 x63 x64 x65 x66 x67 x68 x69 x70 f x72 x73 x74 x75 x76 x77 x78 x79 x80 x81 x82
    x83 x84 x85 x86 x87 x88 x89 x90 x91 x92 x93 x94 x95 x96 x97 x98 x99 x100 x101 x102 x103 x104 x105 x106 x107 x108
    x109 x110 x111 x112 x113 x114 x115 x116 x117 x118 x119 x120 x121 x122 x123 x124 x125 x126 x127 x128 x129 x130
    x131 x132 x133 x134) := h

theorem kept_fold {Q s} (h : Kept Q s) : KeptF Q s.pending s.regs s.fdb := h

/-! ### The register file -/

theorem canonRegs_put (a : Nat) (v : Word) {t : Tbl Word} (h : canonRegs t) : canonRegs (Tbl.put (resetWord a) a v t) := by
  refine ⟨Tbl.rising_put _ _ _ h.1, ?_⟩
  intro x hx
  unfold Tbl.put at hx
  split at hx
  · exact h.2 x (Tbl.mem_del hx)
  · rename_i hv
    rcases Tbl.mem_ins hx with rfl | hx
    · exact hv
    · exact h.2 x hx

theorem canonRegs_filter (p : Nat × Word → Bool) {t : Tbl Word} (h : canonRegs t) : canonRegs (t.filter p) :=
  ⟨Tbl.rising_filter p h.1, fun x hx => h.2 x (List.mem_filter.1 hx).1⟩

theorem canonRegs_nil : canonRegs [] := ⟨rfl, by simp⟩

theorem State.wr_kept {Q} (a v) (s : State) (h : Kept Q s) : Kept Q (s.wr a v) := ⟨h.1, canonRegs_put a v h.2.1, h.2.2⟩

theorem State.set_kept {Q} (f : Fld) (v) (s : State) (h : Kept Q s) : Kept Q (s.set f v) := State.wr_kept _ _ s h

/-! ### The forwarding database -/

theorem fdbSound_nil : fdbSound [] := ⟨rfl, by simp, by simp⟩

theorem fdbSound_del (i : Nat) {t : Tbl FdbEntry} (h : fdbSound t) : fdbSound (Tbl.del i t) :=
  ⟨Tbl.rising_del i h.1, fun x hx => h.2.1 x (Tbl.mem_del hx), fun x hx y hy => h.2.2 x (Tbl.mem_del hx) y (Tbl.mem_del hy)⟩

theorem fdbSound_filter (p : Nat × FdbEntry → Bool) {t : Tbl FdbEntry} (h : fdbSound t) : fdbSound (t.filter p) :=
  ⟨Tbl.rising_filter p h.1, fun x hx => h.2.1 x (List.mem_filter.1 hx).1,
    fun x hx y hy => h.2.2 x (List.mem_filter.1 hx).1 y (List.mem_filter.1 hy).1⟩

theorem fdbSound_map (f : Nat × FdbEntry → Nat × FdbEntry) (h1 : ∀ x, (f x).1 = x.1)
    (h2 : ∀ x, (f x).2.vid = x.2.vid) (h3 : ∀ x, (f x).2.mac = x.2.mac) {t : Tbl FdbEntry} (h : fdbSound t) :
    fdbSound (t.map f) := by
  refine ⟨Tbl.rising_map f h1 h.1, ?_, ?_⟩
  · intro x hx
    obtain ⟨y, hy, rfl⟩ := List.mem_map.1 hx
    rw [h1, h2, h3]
    exact h.2.1 y hy
  · intro x hx y hy
    obtain ⟨u, hu, rfl⟩ := List.mem_map.1 hx
    obtain ⟨v, hv, rfl⟩ := List.mem_map.1 hy
    rw [h1, h1, h2, h2, h3, h3]
    exact h.2.2 u hu v hv

theorem fdbFind_some {t : Tbl FdbEntry} {vid mac i : Nat} {e : FdbEntry} (h : fdbFind t vid mac = some (i, e)) :
    (i, e) ∈ t ∧ e.vid = vid ∧ e.mac = mac := by
  unfold fdbFind at h
  have h1 := List.mem_of_find?_eq_some h
  have h2 := List.find?_some h
  simp at h2
  exact ⟨(List.mem_filter.1 h1).1, h2.1, h2.2⟩

/-- A pair that the lookup does not find is not in the database. -/
theorem fdbFind_none {t : Tbl FdbEntry} {vid mac : Nat} (hs : fdbSound t) (h : fdbFind t vid mac = none) :
    ∀ x ∈ t, ¬ (x.2.vid = vid ∧ x.2.mac = mac) := by
  rintro x hx ⟨hv, hm⟩
  unfold fdbFind at h
  have hb := hs.2.1 x hx
  rw [hv, hm] at hb
  have := List.find?_eq_none.1 h x (List.mem_filter.2 ⟨hx, by simp; omega⟩)
  simp [hv, hm] at this

theorem fdbFree_bucket {t : Tbl FdbEntry} {vid mac i : Nat} {keep : Nat → Bool} (h : fdbFree t vid mac keep = some i) : i / 8 = fdbBucket vid mac := by
  unfold fdbFree at h
  obtain ⟨w, hw, rfl⟩ := List.mem_map.1 (List.mem_of_find?_eq_some h)
  have := List.mem_range.1 hw
  omega

/-- An entry put where the lookup finds its pair. -/
theorem fdbSound_found {t : Tbl FdbEntry} {vid mac i : Nat} {e e' : FdbEntry} (hs : fdbSound t) (h : fdbFind t vid mac = some (i, e))
    (hv : e'.vid = e.vid) (hm : e'.mac = e.mac) : fdbSound (Tbl.ins i e' t) := by
  obtain ⟨hi, -, -⟩ := fdbFind_some h
  refine ⟨Tbl.rising_ins _ _ hs.1, ?_, ?_⟩
  · intro x hx
    rcases Tbl.mem_ins hx with rfl | hx
    · simpa [hv, hm] using hs.2.1 _ hi
    · exact hs.2.1 x hx
  · intro x hx y hy h1 h2
    rcases Tbl.mem_ins hx with rfl | hx <;> rcases Tbl.mem_ins hy with rfl | hy
    · rfl
    · exact hs.2.2 (i, e) hi y hy (hv ▸ h1) (hm ▸ h2)
    · exact hs.2.2 x hx (i, e) hi (hv ▸ h1) (hm ▸ h2)
    · exact hs.2.2 x hx y hy h1 h2

/-- An entry put into a free way for a pair that the lookup does not find. -/
theorem fdbSound_new {t : Tbl FdbEntry} {i : Nat} {e : FdbEntry} {keep : Nat → Bool} (hs : fdbSound t) (h : fdbFind t e.vid e.mac = none)
    (hf : fdbFree t e.vid e.mac keep = some i) : fdbSound (Tbl.ins i e t) := by
  refine ⟨Tbl.rising_ins _ _ hs.1, ?_, ?_⟩
  · intro x hx
    rcases Tbl.mem_ins hx with rfl | hx
    · exact fdbFree_bucket hf
    · exact hs.2.1 x hx
  · intro x hx y hy h1 h2
    rcases Tbl.mem_ins hx with rfl | hx <;> rcases Tbl.mem_ins hy with rfl | hy
    · rfl
    · exact absurd ⟨h1.symm, h2.symm⟩ (fdbFind_none hs h y hy)
    · exact absurd ⟨h1, h2⟩ (fdbFind_none hs h x hx)
    · exact hs.2.2 x hx y hy h1 h2

theorem State.setFdb_kept {Q} (t) (s : State) (h : Kept Q s) (ht : fdbSound t) : Kept Q (s.setFdb t) :=
  State.set_kept _ _ _ ⟨h.1, h.2.1, ht⟩

theorem Kept.fdb {Q} {s : State} (h : Kept Q s) : fdbSound s.fdb := h.2.2
theorem Kept.regs {Q} {s : State} (h : Kept Q s) : canonRegs s.regs := h.2.1

/-! ### The ways in which operations are put together -/

theorem State.when_kept {Q} (c f) (s : State) (h : Kept Q s) (hf : ∀ s, Kept Q s → Kept Q (f s)) : Kept Q (State.when c f s) := by
  unfold State.when
  split
  · exact hf s h
  · exact h

theorem State.forEach_kept {Q} {α : Type} (l : List α) (f) (s : State) (h : Kept Q s)
    (hf : ∀ x s, Kept Q s → Kept Q (f x s)) : Kept Q (State.forEach l f s) := by
  unfold State.forEach
  induction l generalizing s with
  | nil => exact h
  | cons x l ih => exact ih _ (hf x s h)

end Sys2Proof.Machine
end

