-- ==== Sys2Proof/Laws/KeptOps.lean ====
section
/-! SUPPORT. The operations of Machine/Ops.lean keep the queue, the register file and the forwarding database. -/

namespace Sys2Proof.Machine

open Sys2Proof

set_option linter.unusedTactic false

theorem State.stick_kept {Q : List Instr} (a b : Nat) (s : State) (hG : Kept Q s) :
    Kept Q (State.stick a b s) := by
  unfold State.stick
  try beta_reduce
  apply kept_mk; apply kept_fold; apply State.set_kept; assumption

theorem State.count_kept {Q : List Instr} (set r i n : Nat) (s : State) (hG : Kept Q s) :
    Kept Q (State.count set r i n s) := by
  unfold State.count
  try beta_reduce
  apply kept_ite; apply kept_mk; apply kept_fold; assumption; apply kept_mk; apply kept_fold; apply State.stick_kept
  apply State.stick_kept; apply kept_mk; apply kept_fold; assumption

theorem State.modTask_kept {Q : List Instr} (t : Nat) (f : TaskSt → TaskSt) (s : State) (hG : Kept Q s) :
    Kept Q (State.modTask t f s) := by
  unfold State.modTask
  try beta_reduce
  apply kept_mk; apply kept_fold; assumption

theorem State.modRing_kept {Q : List Instr} (r : Nat) (f : RingSt → RingSt) (s : State) (hG : Kept Q s) :
    Kept Q (State.modRing r f s) := by
  unfold State.modRing
  try beta_reduce
  apply kept_mk; apply kept_fold; assumption

theorem State.sendMsix_kept {Q : List Instr} (v : Nat) (s : State) (hG : Kept Q s) :
    Kept Q (State.sendMsix v s) := by
  unfold State.sendMsix
  try beta_reduce
  apply kept_ite; apply State.wr_kept; assumption; apply kept_mk; apply kept_fold; assumption

theorem State.putCq_kept {Q : List Instr} (r : Nat) (c : Completion) (s : State) (hG : Kept Q s) :
    Kept Q (State.putCq r c s) := by
  unfold State.putCq
  try beta_reduce
  apply kept_ite; apply State.sendMsix_kept; apply State.modRing_kept; apply kept_mk; apply kept_fold; assumption
  apply State.modRing_kept; apply kept_mk; apply kept_fold; assumption

theorem State.complete_kept {Q : List Instr} (r : Nat) (c : Completion) (s : State) (hG : Kept Q s) :
    Kept Q (State.complete r c s) := by
  unfold State.complete
  try beta_reduce
  apply kept_ite; apply State.modTask_kept; assumption; apply kept_ite; apply State.count_kept; assumption
  apply kept_ite; apply State.putCq_kept; assumption; apply kept_mk; apply kept_fold; assumption

theorem State.completeEra_kept {Q : List Instr} (era r : Nat) (c : Completion) (s : State) (hG : Kept Q s) :
    Kept Q (State.completeEra era r c s) := by
  unfold State.completeEra
  try beta_reduce
  apply kept_ite; apply State.count_kept; assumption; apply State.complete_kept; assumption

theorem State.completeCmd_kept {Q : List Instr} (c : Cmd) (result time q1 q2 : Nat) (s : State) (hG : Kept Q s) :
    Kept Q (State.completeCmd c result time q1 q2 s) := by
  unfold State.completeCmd
  try beta_reduce
  apply State.completeEra_kept; assumption

theorem State.setB_kept {Q : List Instr} (f : Fld) (b : Bool) (s : State) (hG : Kept Q s) :
    Kept Q (State.setB f b s) := by
  unfold State.setB
  try beta_reduce
  apply State.set_kept; assumption

theorem State.attn_kept {Q : List Instr} (mask : Nat) (s : State) (hG : Kept Q s) :
    Kept Q (State.attn mask s) := by
  unfold State.attn
  try beta_reduce
  apply kept_ite; assumption; apply kept_mk; apply kept_fold; apply State.set_kept; assumption

theorem State.merge_kept {Q : List Instr} (r : Nat) (e : EventRec) (s : State) (hG : Kept Q s) :
    Kept Q (State.merge r e s) := by
  unfold State.merge
  try beta_reduce
  apply kept_ite; apply State.modRing_kept; apply State.count_kept; assumption; apply kept_ite
  apply State.modRing_kept; apply State.count_kept; assumption; apply State.count_kept; apply State.count_kept
  assumption

theorem State.eventOn_kept {Q : List Instr} (rs : List Nat) (x1 x2 : Nat) (x3 : EventRec) (x4 : State) (hG : Kept Q x4) :
    Kept Q (State.eventOn rs x1 x2 x3 x4) := by
  induction x1 generalizing rs x2 x3 x4 hG
  on_goal 2 => rename_i k ih
  all_goals unfold State.eventOn
  apply kept_ite; apply State.count_kept; assumption; apply kept_ite; apply kept_ite; apply State.attn_kept
  apply State.modRing_kept; apply State.merge_kept; assumption; apply State.merge_kept; assumption
  apply State.complete_kept; apply State.attn_kept; assumption; apply kept_ite; apply State.count_kept; assumption
  apply kept_ite; apply kept_ite; apply State.forEach_kept; apply State.attn_kept; apply State.modRing_kept
  apply State.merge_kept; assumption; intro _ _ _; try beta_reduce; apply ih; assumption; apply State.merge_kept
  assumption; apply State.complete_kept; apply State.attn_kept; assumption

theorem State.eventAll_kept {Q : List Instr} (e : EventRec) (s : State) (hG : Kept Q s) :
    Kept Q (State.eventAll e s) := by
  unfold State.eventAll
  try beta_reduce
  apply State.forEach_kept; assumption; intro _ _ _; try beta_reduce; apply State.eventOn_kept; assumption

theorem State.wakeTasks_kept {Q : List Instr} (code : Nat) (s : State) (hG : Kept Q s) :
    Kept Q (State.wakeTasks code s) := by
  unfold State.wakeTasks
  try beta_reduce
  apply kept_mk; apply kept_fold; assumption

theorem State.event_kept {Q : List Instr} (code src detail : Nat) (s : State) (hG : Kept Q s) :
    Kept Q (State.event code src detail s) := by
  unfold State.event
  try beta_reduce
  apply kept_ite; apply State.eventAll_kept; apply State.wakeTasks_kept; apply State.attn_kept; assumption
  apply State.wakeTasks_kept; apply State.attn_kept; assumption

theorem State.raiseD_kept {Q : List Instr} (blk : Blk) (b src detail : Nat) (s : State) (hG : Kept Q s) :
    Kept Q (State.raiseD blk b src detail s) := by
  unfold State.raiseD
  try beta_reduce
  apply State.event_kept; apply State.stick_kept; assumption

theorem State.hifErr_kept {Q : List Instr} (b src value : Nat) (s : State) (hG : Kept Q s) :
    Kept Q (State.hifErr b src value s) := by
  unfold State.hifErr
  try beta_reduce
  apply State.raiseD_kept; assumption

theorem State.fate_kept {Q : List Instr} (port code : Nat) (s : State) (hG : Kept Q s) :
    Kept Q (State.fate port code s) := by
  unfold State.fate
  try beta_reduce
  apply kept_mk; apply kept_fold; assumption

theorem State.start_kept {Q : List Instr} (t : Timer) (s : State) (hG : Kept Q s) :
    Kept Q (State.start t s) := by
  unfold State.start
  try beta_reduce
  apply kept_mk; apply kept_fold; assumption

theorem State.stop_kept {Q : List Instr} (t : Timer) (s : State) (hG : Kept Q s) :
    Kept Q (State.stop t s) := by
  unfold State.stop
  try beta_reduce
  apply kept_mk; apply kept_fold; assumption

theorem State.rxPop_kept {Q : List Instr} (r id : Nat) (s : State) (hG : Kept Q s) :
    Kept Q (State.rxPop r id s) := by
  unfold State.rxPop
  try beta_reduce
  apply kept_ite; apply kept_ite; apply State.stop_kept; apply State.modRing_kept; assumption
  apply State.start_kept; apply State.modRing_kept; assumption; apply State.modRing_kept; assumption

theorem State.ringFull_kept {Q : List Instr} (r : Nat) (s : State) (hG : Kept Q s) :
    Kept Q (State.ringFull r s) := by
  unfold State.ringFull
  try beta_reduce
  apply State.modRing_kept; apply State.attn_kept; assumption

theorem State.startOnce_kept {Q : List Instr} (t : Timer) (s : State) (hG : Kept Q s) :
    Kept Q (State.startOnce t s) := by
  unfold State.startOnce
  try beta_reduce
  apply kept_ite; assumption; apply State.start_kept; assumption

theorem State.enter_kept {Q : List Instr} (port : Nat) (s : State) (hG : Kept Q s) :
    Kept Q (State.enter port s) := by
  unfold State.enter
  try beta_reduce
  apply State.count_kept; assumption

theorem State.setI_kept {Q : List Instr} (f : Fld) (i : Int) (s : State) (hG : Kept Q s) :
    Kept Q (State.setI f i s) := by
  unfold State.setI
  try beta_reduce
  apply State.set_kept; assumption

theorem State.bump_kept {Q : List Instr} (f : Fld) (n : Nat) (s : State) (hG : Kept Q s) :
    Kept Q (State.bump f n s) := by
  unfold State.bump
  try beta_reduce
  apply State.set_kept; assumption

theorem State.raise_kept {Q : List Instr} (blk : Blk) (b src : Nat) (s : State) (hG : Kept Q s) :
    Kept Q (State.raise blk b src s) := by
  unfold State.raise
  try beta_reduce
  apply State.event_kept; apply State.stick_kept; assumption

theorem State.free_kept {Q : List Instr} (u : Nat) (s : State) (hG : Kept Q s) :
    Kept Q (State.free u s).2 := by
  unfold State.free
  try beta_reduce
  apply kept_mk; apply kept_fold; assumption

theorem State.wrWords_kept {Q : List Instr} (a : Nat) (x1 : List Nat) (x2 : State) (hG : Kept Q x2) :
    Kept Q (State.wrWords a x1 x2) := by
  induction x1 generalizing a x2 hG
  on_goal 2 => rename_i y l ih
  all_goals unfold State.wrWords
  assumption; apply ih; apply State.wr_kept; assumption

theorem State.set2_kept {Q : List Instr} (lo hi w v : Nat) (s : State) (hG : Kept Q s) :
    Kept Q (State.set2 lo hi w v s) := by
  unfold State.set2
  try beta_reduce
  apply State.wr_kept; apply State.wr_kept; assumption

theorem State.madeCopy_kept {Q : List Instr} (port : Nat) (s : State) (hG : Kept Q s) :
    Kept Q (State.madeCopy port s) := by
  unfold State.madeCopy
  try beta_reduce
  apply State.count_kept; assumption

theorem State.cycleMade_kept {Q : List Instr} (k : Nat) (s : State) (hG : Kept Q s) :
    Kept Q (State.cycleMade k s) := by
  unfold State.cycleMade
  try beta_reduce
  apply kept_mk; apply kept_fold; assumption

theorem State.flushRingFull_kept {Q : List Instr} (s : State) (hG : Kept Q s) :
    Kept Q (State.flushRingFull s) := by
  unfold State.flushRingFull
  try beta_reduce
  apply State.forEach_kept; assumption; intro _ _ _; try beta_reduce; apply State.modRing_kept
  apply State.when_kept; apply State.when_kept; assumption; apply State.event_kept; apply State.event_kept

theorem State.flushWraps_kept {Q : List Instr} (s : State) (hG : Kept Q s) :
    Kept Q (State.flushWraps s) := by
  unfold State.flushWraps
  try beta_reduce
  apply kept_mk; apply kept_fold; apply State.forEach_kept; assumption; intro _ _ _; try beta_reduce
  apply State.event_kept; assumption

theorem State.evalMade_kept {Q : List Instr} (k : Nat) (s : State) (hG : Kept Q s) :
    Kept Q (State.evalMade k s) := by
  unfold State.evalMade
  try beta_reduce
  apply kept_mk; apply kept_fold; assumption

theorem State.runTimers_kept {Q : List Instr} (d : Nat) (s : State) (hG : Kept Q s) :
    Kept Q (State.runTimers d s) := by
  unfold State.runTimers
  try beta_reduce
  apply kept_mk; apply kept_fold; assumption

theorem State.ringNotRx_kept {Q : List Instr} (r : Nat) (s : State) (hG : Kept Q s) :
    Kept Q (State.ringNotRx r s) := by
  unfold State.ringNotRx
  try beta_reduce
  apply State.modRing_kept; apply State.attn_kept; apply State.ringFull_kept; assumption

theorem State.sampleMade_kept {Q : List Instr} (t at0 : Nat) (s : State) (hG : Kept Q s) :
    Kept Q (State.sampleMade t at0 s) := by
  unfold State.sampleMade
  try beta_reduce
  apply kept_mk; apply kept_fold; assumption

theorem State.slotMade_kept {Q : List Instr} (k p : Nat) (s : State) (hG : Kept Q s) :
    Kept Q (State.slotMade k p s) := by
  unfold State.slotMade
  try beta_reduce
  apply kept_mk; apply kept_fold; assumption

end Sys2Proof.Machine
end

