-- ==== Sys2Proof/Laws/KeptRings.lean ====
section
/-! SUPPORT. The operations of Machine/Rings.lean keep the queue, the register file and the forwarding database. -/

namespace Sys2Proof.Machine

open Sys2Proof

set_option linter.unusedTactic false

theorem State.updPending_kept {Q : List Instr} (c : Cmd) (s : State) (hG : Kept Q s) :
    Kept Q (State.updPending c s) := by
  unfold State.updPending
  try beta_reduce
  apply kept_ite; apply State.setB_kept; assumption; apply kept_ite; apply State.setB_kept; assumption; assumption

theorem CmdSpec.actNow_kept {Q : List Instr} (k : CmdSpec) (c : Cmd) (s : State) (hG : Kept Q s)
    (hK : ∀ c s, Kept Q s → Kept Q (k.act c s).1) : Kept Q (k.actNow c s) := by
  have h := hK c s hG
  unfold CmdSpec.actNow
  split <;> rename_i he <;> rw [he] at h
  · exact State.updPending_kept _ _ (State.completeCmd_kept _ _ _ _ _ _ h)
  · exact State.updPending_kept _ _ (State.completeCmd_kept _ _ _ _ _ _ h)
  · exact h
  · exact State.updPending_kept _ _ (kept_mk (kept_fold h))

theorem CmdSpec.enter_kept {Q : List Instr} (k : CmdSpec) (c : Cmd) (row : Bool) (s : State) (hG : Kept Q s)
    (hK : ∀ c s, Kept Q s → Kept Q (k.act c s).1) : Kept Q (k.enter c row s) := by
  unfold CmdSpec.enter
  dsimp only
  split
  · exact CmdSpec.actNow_kept _ _ _ hG hK
  · exact State.updPending_kept _ _ (kept_mk (kept_fold hG))

theorem State.fetched_kept {Q : List Instr} (d : Submission) (s : State) (hG : Kept Q s) :
    Kept Q (State.fetched d s) := by
  unfold State.fetched
  try beta_reduce
  apply kept_ite; assumption; apply State.modRing_kept; assumption

theorem State.refusalErr_kept {Q : List Instr} (format : Bool) (code : Nat) (d : Submission) (s : State) (hG : Kept Q s) :
    Kept Q (State.refusalErr format code d s) := by
  unfold State.refusalErr
  try beta_reduce
  apply State.when_kept; apply State.when_kept; assumption; apply State.hifErr_kept; apply State.hifErr_kept

theorem CmdSpec.take_kept {Q : List Instr} (k : CmdSpec) (op : Nat) (row : Bool) (d : Submission) (s : State) (hG : Kept Q s)
    (hK : ∀ c s, Kept Q s → Kept Q (k.act c s).1) : Kept Q (k.take op row d s) := by
  have hf := State.fetched_kept d s hG
  unfold CmdSpec.take
  split
  · dsimp only
    split
    · exact State.completeCmd_kept _ _ _ _ _ _ (State.refusalErr_kept _ _ _ _ hf)
    · split
      · exact CmdSpec.actNow_kept _ _ _ hf hK
      · exact CmdSpec.enter_kept _ _ _ _ hf hK
  · exact hG

theorem State.finish_kept {Q : List Instr} (p : Cmd → Bool) (code time q1 q2 : Nat) (s : State) (hG : Kept Q s) :
    Kept Q (State.finish p code time q1 q2 s) := by
  unfold State.finish
  try beta_reduce
  split; assumption; apply State.completeCmd_kept; apply kept_mk; apply kept_fold; assumption

theorem State.cancelWaiting_kept {Q : List Instr} (p : Cmd → Bool) (time : Nat) (s : State) (hG : Kept Q s) :
    Kept Q (State.cancelWaiting p time s) := by
  unfold State.cancelWaiting
  try beta_reduce
  apply State.forEach_kept; apply kept_mk; apply kept_fold; assumption; intro _ _ _; try beta_reduce
  apply State.updPending_kept; apply State.completeCmd_kept; assumption

theorem State.putRegs_kept {Q : List Instr} (d : Submission) (i : Nat) (as : List Nat) (s : State) (hG : Kept Q s) :
    Kept Q (State.putRegs d i as s) := by
  unfold State.putRegs
  try beta_reduce
  apply State.forEach_kept; assumption; intro _ _ _; try beta_reduce; apply State.wr_kept; assumption

theorem State.endBegun_kept {Q : List Instr} (p : Cmd → Bool) (code : Nat) (s : State) (hG : Kept Q s) :
    Kept Q (State.endBegun p code s) := by
  unfold State.endBegun
  try beta_reduce
  apply State.forEach_kept; apply kept_mk; apply kept_fold; assumption; intro _ _ _; try beta_reduce
  apply State.completeCmd_kept; assumption

end Sys2Proof.Machine
end

