-- ==== Sys2Proof/Laws/KeptFrames.lean ====
section
/-! SUPPORT. The operations of Machine/Frames.lean keep the queue, the register file and the forwarding database. -/

namespace Sys2Proof.Machine

open Sys2Proof

set_option linter.unusedTactic false

theorem State.bobbinAdd_kept {Q : List Instr} (p : Nat) (e : BobbinEntry) (s : State) (hG : Kept Q s) :
    Kept Q (State.bobbinAdd p e s) := by
  unfold State.bobbinAdd
  try beta_reduce
  apply kept_mk; apply kept_fold; assumption

theorem State.bobbinUnsent_kept {Q : List Instr} (f : Frame) (code : Nat) (s : State) (hG : Kept Q s) :
    Kept Q (State.bobbinUnsent f code s) := by
  unfold State.bobbinUnsent
  try beta_reduce
  split; assumption; apply State.forEach_kept; assumption; intro _ _ _; try beta_reduce; apply State.bobbinAdd_kept
  assumption

theorem State.completeTx_kept {Q : List Instr} (cmd : Nat × Nat × Nat) (fate : Option Nat) (time : Nat) (s : State) (hG : Kept Q s) :
    Kept Q (State.completeTx cmd fate time s) := by
  unfold State.completeTx
  try beta_reduce
  split; assumption; apply State.completeEra_kept; apply kept_mk; apply kept_fold; assumption

theorem State.dropFrame_kept {Q : List Instr} (id : Nat) (s : State) (hG : Kept Q s) :
    Kept Q (State.dropFrame id s) := by
  unfold State.dropFrame
  try beta_reduce
  apply kept_mk; apply kept_fold; assumption

theorem State.updEgress_kept {Q : List Instr} (p : Nat) (s : State) (hG : Kept Q s) :
    Kept Q (State.updEgress p s) := by
  unfold State.updEgress
  try beta_reduce
  apply kept_ite; assumption; apply State.set_kept; apply State.set_kept; assumption

theorem State.endFrame_kept {Q : List Instr} (id code : Nat) (s : State) (hG : Kept Q s) :
    Kept Q (State.endFrame id code s) := by
  unfold State.endFrame
  try beta_reduce
  split; assumption; lift_lets -underBinder
  intro x; refine (fun (hx : Kept Q x) => ?_) ?_ <;> [clear_value x; subst x]
  intro x; refine (fun (hx : Kept Q x) => ?_) ?_ <;> [clear_value x; subst x]
  intro x; refine (fun (hx : Kept Q x) => ?_) ?_ <;> [clear_value x; subst x]
  intro x; refine (fun (hx : Kept Q x) => ?_) ?_ <;> [clear_value x; subst x]
  intro x; refine (fun (hx : Kept Q x) => ?_) ?_ <;> [clear_value x; subst x]; split; apply State.updEgress_kept
  assumption; assumption; split; assumption; apply State.completeTx_kept; assumption; apply State.bobbinUnsent_kept
  assumption; apply State.forEach_kept; assumption; intro _ _ _; try beta_reduce; apply State.fate_kept; assumption
  split; apply State.rxPop_kept; assumption; assumption; apply State.dropFrame_kept; assumption

theorem State.addFrame_kept {Q : List Instr} (f : Frame) (s : State) (hG : Kept Q s) :
    Kept Q (State.addFrame f s) := by
  unfold State.addFrame
  try beta_reduce
  apply kept_mk; apply kept_fold; assumption

theorem State.modFrame_kept {Q : List Instr} (id : Nat) (f : Frame → Frame) (s : State) (hG : Kept Q s) :
    Kept Q (State.modFrame id f s) := by
  unfold State.modFrame
  try beta_reduce
  split; assumption; apply kept_mk; apply kept_fold; assumption

theorem State.place_kept {Q : List Instr} (id : Nat) (st : Stage) (s : State) (hG : Kept Q s) :
    Kept Q (State.place id st s) := by
  unfold State.place
  try beta_reduce
  apply kept_mk; apply kept_fold; apply State.modFrame_kept; assumption

theorem State.traffic_kept {Q : List Instr} (p i n : Nat) (s : State) (hG : Kept Q s) :
    Kept Q (State.traffic p i n s) := by
  unfold State.traffic
  try beta_reduce
  apply State.count_kept; assumption

theorem State.endFrames_kept {Q : List Instr} (p : Frame → Bool) (code : Nat) (s : State) (hG : Kept Q s) :
    Kept Q (State.endFrames p code s) := by
  unfold State.endFrames
  try beta_reduce
  apply State.forEach_kept; assumption; intro _ _ _; try beta_reduce; apply State.endFrame_kept; assumption

theorem State.portDownFrames_kept {Q : List Instr} (p : Nat) (s : State) (hG : Kept Q s) :
    Kept Q (State.portDownFrames p s) := by
  unfold State.portDownFrames
  try beta_reduce
  apply State.updEgress_kept; apply State.endFrames_kept; apply State.forEach_kept; apply kept_mk; apply kept_fold
  assumption; intro _ _ _; try beta_reduce; apply State.endFrame_kept; apply kept_ite; assumption
  apply State.enter_kept; assumption

theorem State.bobbinShow_kept {Q : List Instr} (p : Nat) (s : State) (hG : Kept Q s) :
    Kept Q (State.bobbinShow p s) := by
  unfold State.bobbinShow
  try beta_reduce
  apply kept_ite; apply State.set_kept; apply kept_ite; apply kept_mk; apply kept_fold; assumption; assumption
  apply kept_ite; apply kept_mk; apply kept_fold; assumption; assumption

theorem State.bobbinPut_kept {Q : List Instr} (p : Nat) (e : BobbinEntry) (s : State) (hG : Kept Q s) :
    Kept Q (State.bobbinPut p e s) := by
  unfold State.bobbinPut
  try beta_reduce
  apply kept_ite; apply State.bobbinShow_kept; apply kept_mk; apply kept_fold; assumption; apply kept_ite
  apply State.bump_kept; assumption; apply State.raise_kept; apply kept_mk; apply kept_fold; apply State.bump_kept
  assumption

theorem State.bobbinFlush_kept {Q : List Instr} (s : State) (hG : Kept Q s) :
    Kept Q (State.bobbinFlush s) := by
  unfold State.bobbinFlush
  try beta_reduce
  apply State.forEach_kept; apply kept_mk; apply kept_fold; assumption; intro _ _ _; try beta_reduce
  apply State.bobbinPut_kept; assumption

theorem State.tcStep_kept {Q : List Instr} (p : Nat) (f : Frame) (l : List Byte) (one : Bool) (s : State) (hG : Kept Q s) :
    Kept Q (State.tcStep p f l one s).2 := by
  unfold State.tcStep
  try beta_reduce
  apply kept_ite2; assumption; lift_lets -underBinder; split; assumption; apply kept_ite2
  apply kept_mk; apply kept_fold; assumption; apply kept_ite2; lift_lets -underBinder; split
  apply kept_mk; apply kept_fold; assumption; apply kept_mk; apply kept_fold; assumption; assumption

end Sys2Proof.Machine
end

