-- ==== Sys2Proof/Laws/KeptLinks.lean ====
section
/-! SUPPORT. The operations of Machine/Links.lean keep the queue, the register file and the forwarding database. -/

namespace Sys2Proof.Machine

open Sys2Proof

set_option linter.unusedTactic false

theorem State.updPair_kept {Q : List Instr} (n : Nat) (s : State) (hG : Kept Q s) :
    Kept Q (State.updPair n s) := by
  unfold State.updPair
  try beta_reduce
  apply kept_ite; apply State.startOnce_kept; apply State.setB_kept; apply State.when_kept; apply State.setB_kept
  assumption; intro _ _; try beta_reduce; apply State.event_kept; assumption; apply State.stop_kept
  apply State.setB_kept; apply State.when_kept; apply State.setB_kept; assumption; intro _ _; try beta_reduce
  apply State.event_kept; assumption

theorem State.updKeep_kept {Q : List Instr} (s : State) (hG : Kept Q s) :
    Kept Q (State.updKeep s) := by
  unfold State.updKeep
  try beta_reduce
  apply State.forEach_kept; assumption; apply State.updPair_kept

theorem State.modKpl_kept {Q : List Instr} (p : Nat) (f : KplPort → KplPort) (s : State) (hG : Kept Q s) :
    Kept Q (State.modKpl p f s) := by
  unfold State.modKpl
  try beta_reduce
  apply kept_mk; apply kept_fold; assumption

theorem State.setKpl_kept {Q : List Instr} (p st : Nat) (s : State) (hG : Kept Q s) :
    Kept Q (State.setKpl p st s) := by
  unfold State.setKpl
  try beta_reduce
  apply kept_ite; apply State.modKpl_kept; apply State.set_kept; apply State.set_kept; assumption
  apply State.modKpl_kept; apply State.set_kept; assumption

theorem State.kplEval_kept {Q : List Instr} (p : Nat) (s : State) (hG : Kept Q s) :
    Kept Q (State.kplEval p s) := by
  unfold State.kplEval
  try beta_reduce
  apply kept_ite; apply State.when_kept; assumption; apply State.setKpl_kept; apply State.when_kept
  apply State.when_kept; apply State.when_kept; apply State.when_kept; apply State.when_kept; apply State.when_kept
  assumption; apply State.setKpl_kept; apply State.setKpl_kept; apply State.setKpl_kept; apply State.setKpl_kept
  apply State.setKpl_kept; apply State.setKpl_kept

theorem State.updFallback_kept {Q : List Instr} (n : Nat) (s : State) (hG : Kept Q s) :
    Kept Q (State.updFallback n s) := by
  unfold State.updFallback
  try beta_reduce
  apply State.when_kept; apply State.setB_kept; assumption; apply State.raise_kept

theorem State.laneSources_kept {Q : List Instr} (s : State) (hG : Kept Q s) :
    Kept Q (State.laneSources s) := by
  unfold State.laneSources
  try beta_reduce
  apply State.forEach_kept; apply State.forEach_kept; assumption; apply State.updFallback_kept
  apply State.kplEval_kept

theorem State.linkChange_kept {Q : List Instr} (g : Nat) (f : State → State) (s : State) (hF : ∀ s, Kept Q s → Kept Q (f s)) (hG1 : Kept Q s) :
    Kept Q (State.linkChange g f s) := by
  unfold State.linkChange
  try beta_reduce
  apply State.updKeep_kept; apply State.forEach_kept; apply State.forEach_kept; apply hF; assumption
  apply State.portDownFrames_kept; apply State.kplEval_kept

end Sys2Proof.Machine
end

