-- ==== Sys2Proof/Laws/KeptStore.lean ====
section
/-! SUPPORT. The operations of Machine/Store.lean keep the queue, the register file and the forwarding database. -/

namespace Sys2Proof.Machine

open Sys2Proof

set_option linter.unusedTactic false

theorem State.storeStart_kept {Q : List Instr} (kind : Nat) (data : List Byte) (apply : Bool) (c : Cmd) (s : State) (hG : Kept Q s) :
    Kept Q (State.storeStart kind data apply c s) := by
  unfold State.storeStart
  try beta_reduce
  apply kept_mk; apply kept_fold; apply State.set_kept; assumption

theorem State.showKind_kept {Q : List Instr} (kind : Nat) (s : State) (hG : Kept Q s) :
    Kept Q (State.showKind kind s) := by
  unfold State.showKind
  try beta_reduce
  apply State.wr_kept; assumption

theorem State.setSuspect_kept {Q : List Instr} (slot : Nat) (on : Bool) (s : State) (hG : Kept Q s) :
    Kept Q (State.setSuspect slot on s) := by
  unfold State.setSuspect
  try beta_reduce
  apply State.showKind_kept; apply kept_mk; apply kept_fold; assumption

theorem specImageClear_kept {Q : List Instr} (c : Cmd) (s : State) (hG : Kept Q s) :
    Kept Q (specImageClear.act c s).1 := by
  unfold specImageClear
  try beta_reduce
  apply State.setSuspect_kept; assumption

theorem specImageWrite_kept {Q : List Instr} (c : Cmd) (s : State) (hG : Kept Q s) :
    Kept Q (specImageWrite.act c s).1 := by
  unfold specImageWrite
  try beta_reduce
  apply kept_ite1; assumption; apply State.storeStart_kept; assumption

theorem State.ledgerPut_kept {Q : List Instr} (r : LedgerRec) (s : State) (hG : Kept Q s) :
    Kept Q (State.ledgerPut r s) := by
  unfold State.ledgerPut
  try beta_reduce
  apply State.wr_kept; apply kept_mk; apply kept_fold; assumption

theorem State.ledgerAdd_kept {Q : List Instr} (step outcome detail up : Nat) (s : State) (hG : Kept Q s) :
    Kept Q (State.ledgerAdd step outcome detail up s) := by
  unfold State.ledgerAdd
  try beta_reduce
  apply kept_ite; assumption; apply kept_ite; apply kept_mk; apply kept_fold; assumption; apply State.ledgerPut_kept
  assumption

theorem State.storeComplete_kept {Q : List Instr} (j : StoreJob) (code time q1 : Nat) (s : State) (hG : Kept Q s) :
    Kept Q (State.storeComplete j code time q1 s) := by
  unfold State.storeComplete
  try beta_reduce
  split; apply State.finish_kept; assumption; assumption

theorem State.storeBegin_kept {Q : List Instr} (n : Nat) (s : State) (hG : Kept Q s) :
    Kept Q (State.storeBegin n s) := by
  unfold State.storeBegin
  try beta_reduce
  split; apply kept_mk; apply kept_fold; assumption; assumption

theorem State.storeCommit_kept {Q : List Instr} (j : StoreJob) (n : Nat) (s : State) (hG : Kept Q s) :
    Kept Q (State.storeCommit j n s) := by
  unfold State.storeCommit
  try beta_reduce
  with_reducible apply State.showKind_kept
  (fail_if_no_progress (with_reducible apply kept_mk; with_reducible apply kept_fold)); with_reducible assumption

theorem State.storeEnd_kept {Q : List Instr} (j : StoreJob) (ok : Bool) (s : State) (hG : Kept Q s) :
    Kept Q (State.storeEnd j ok s) := by
  unfold State.storeEnd
  try beta_reduce
  apply kept_ite; apply State.event_kept; apply State.setB_kept; apply State.set_kept
  apply kept_mk; apply kept_fold; assumption; apply State.event_kept; apply State.setB_kept; apply State.set_kept
  apply kept_mk; apply kept_fold; assumption

theorem execImageClear_kept {Q : List Instr} (d : Submission) (s : State) (hG : Kept Q s) :
    KeptO Q (execImageClear d s) := by
  unfold execImageClear
  try beta_reduce
  apply keptO_next; apply CmdSpec.take_kept; assumption; apply specImageClear_kept

theorem execImageWrite_kept {Q : List Instr} (d : Submission) (s : State) (hG : Kept Q s) :
    KeptO Q (execImageWrite d s) := by
  unfold execImageWrite
  try beta_reduce
  apply keptO_next; apply CmdSpec.take_kept; assumption; apply specImageWrite_kept

end Sys2Proof.Machine
end

