-- ==== Sys2Proof/Laws/KeptLanes.lean ====
section
/-! SUPPORT. The operations of Machine/Lanes.lean keep the queue, the register file and the forwarding database. -/

namespace Sys2Proof.Machine

open Sys2Proof

set_option linter.unusedTactic false

theorem specBypassHold_kept {Q : List Instr} (c : Cmd) (s : State) (hG : Kept Q s) :
    Kept Q (specBypassHold.act c s).1 := by
  unfold specBypassHold
  try beta_reduce
  apply State.wr_kept; assumption

theorem specBypassPair_kept {Q : List Instr} (c : Cmd) (s : State) (hG : Kept Q s) :
    Kept Q (specBypassPair.act c s).1 := by
  unfold specBypassPair
  try beta_reduce
  apply State.updKeep_kept; apply State.when_kept; apply State.set_kept; apply State.setB_kept
  apply State.setB_kept; apply State.wr_kept; assumption; intro _ _; try beta_reduce; apply State.stop_kept
  apply State.set_kept; assumption

theorem State.eqShow_kept {Q : List Instr} (n : Nat) (s : State) (hG : Kept Q s) :
    Kept Q (State.eqShow n s) := by
  unfold State.eqShow
  try beta_reduce
  apply State.when_kept; assumption; apply State.set_kept

theorem State.eqDefaults_kept {Q : List Instr} (n : Nat) (s : State) (hG : Kept Q s) :
    Kept Q (State.eqDefaults n s) := by
  unfold State.eqDefaults
  try beta_reduce
  with_reducible apply kept_ite; with_reducible apply State.eqShow_kept; with_reducible assumption
  with_reducible apply State.wr_kept; with_reducible apply State.free_kept; with_reducible assumption

theorem State.laneTo_kept {Q : List Instr} (n st : Nat) (s : State) (hG : Kept Q s) :
    Kept Q (State.laneTo n st s) := by
  unfold State.laneTo
  try beta_reduce
  apply State.when_kept; apply State.when_kept; apply kept_mk; apply kept_fold; apply State.set_kept
  apply State.set_kept; apply State.set_kept; apply State.set_kept; apply State.stop_kept; apply State.stop_kept
  assumption; intro _ _; try beta_reduce; apply State.eqDefaults_kept; apply State.start_kept; assumption
  intro _ _; try beta_reduce; apply State.raise_kept; apply State.count_kept; assumption

theorem State.laneCheck_kept {Q : List Instr} (n : Nat) (s : State) (hG : Kept Q s) :
    Kept Q (State.laneCheck n s) := by
  unfold State.laneCheck
  try beta_reduce
  apply kept_ite; assumption; apply kept_ite; apply State.set_kept; apply State.when_kept; assumption
  apply State.laneTo_kept; apply kept_ite; assumption; apply kept_ite; apply State.set_kept; apply State.when_kept
  assumption; apply State.laneTo_kept; apply kept_ite; apply State.when_kept; apply State.set_kept; assumption
  apply State.laneTo_kept; apply State.when_kept; apply State.set_kept; assumption; apply State.laneTo_kept

theorem State.laneRestart_kept {Q : List Instr} (n : Nat) (s : State) (hG : Kept Q s) :
    Kept Q (State.laneRestart n s) := by
  unfold State.laneRestart
  try beta_reduce
  apply State.laneCheck_kept; apply State.when_kept; assumption; apply State.laneTo_kept

theorem State.oeConfigure_kept {Q : List Instr} (k cfg : Nat) (s : State) (hG : Kept Q s) :
    Kept Q (State.oeConfigure k cfg s) := by
  unfold State.oeConfigure
  try beta_reduce
  apply State.linkChange_kept; intro _ _; try beta_reduce; apply State.forEach_kept; apply State.forEach_kept
  apply State.wr_kept; assumption; intro _ _ _; try beta_reduce; apply State.laneRestart_kept
  apply State.laneRestart_kept; assumption; apply State.laneCheck_kept; assumption

theorem State.oeLanesDown_kept {Q : List Instr} (k : Nat) (s : State) (hG : Kept Q s) :
    Kept Q (State.oeLanesDown k s) := by
  unfold State.oeLanesDown
  try beta_reduce
  apply State.forEach_kept; assumption; intro _ _ _; try beta_reduce; apply State.when_kept; assumption
  apply State.laneTo_kept

theorem State.eqChange_kept {Q : List Instr} (n : Nat) (f : State → State) (s : State) (hF : ∀ s, Kept Q s → Kept Q (f s)) (hG1 : Kept Q s) :
    Kept Q (State.eqChange n f s) := by
  unfold State.eqChange
  try beta_reduce
  apply kept_ite; apply kept_mk; apply kept_fold; apply hF; assumption; apply kept_mk; apply kept_fold; apply hF
  assumption

theorem State.trimLoad_kept {Q : List Instr} (n : Nat) (s : State) (hG : Kept Q s) :
    Kept Q (State.trimLoad n s) := by
  unfold State.trimLoad
  try beta_reduce
  split; assumption; lift_lets -underBinder; intro x; clear_value x; split; apply State.eqChange_kept
  intro _ _; try beta_reduce; apply State.set_kept; apply State.set_kept; assumption; assumption; assumption

theorem State.oeTo_kept {Q : List Instr} (k st : Nat) (s : State) (hG : Kept Q s) :
    Kept Q (State.oeTo k st s) := by
  unfold State.oeTo
  try beta_reduce
  apply State.linkChange_kept; intro _ _; try beta_reduce; apply kept_ite; apply State.forEach_kept
  apply State.when_kept; apply State.stop_kept; apply State.set_kept; assumption; intro _ _; try beta_reduce
  apply State.start_kept; apply State.forEach_kept; assumption; apply State.trimLoad_kept
  apply State.laneCheck_kept; apply State.oeLanesDown_kept; apply State.when_kept; apply State.stop_kept
  apply State.set_kept; assumption; intro _ _; try beta_reduce; apply State.start_kept; apply State.forEach_kept
  assumption; apply State.trimLoad_kept; assumption

theorem engineAct_kept {Q : List Instr} (action : Nat) (c : Cmd) (s : State) (hG : Kept Q s) :
    Kept Q (engineAct action c s).1 := by
  unfold engineAct
  try beta_reduce
  lift_lets -underBinder; intro x; clear_value x; intro x; clear_value x; intro x; subst x; beta_reduce
  intro x; refine (fun (hx : Kept Q x.1) => ?_) ?_ <;> [clear_value x; subst x]; intro x; subst x; beta_reduce
  split; apply State.oeConfigure_kept; assumption; apply kept_ite1; assumption; apply kept_ite1
  apply State.oeTo_kept; assumption; assumption; apply State.when_kept; assumption; apply State.oeTo_kept
  apply kept_ite1; assumption; apply State.when_kept; assumption; apply State.oeTo_kept; apply kept_ite1
  apply State.when_kept; assumption; intro _ _; try beta_reduce; apply kept_ite; apply State.start_kept; assumption
  assumption; assumption; apply kept_ite1; apply State.when_kept; assumption; intro _ _; try beta_reduce
  apply kept_ite; apply State.start_kept; assumption; assumption; assumption; apply State.when_kept; assumption
  intro _ _; try beta_reduce; apply kept_ite; apply State.start_kept; assumption; assumption; apply State.when_kept
  assumption; intro _ _; try beta_reduce; apply kept_ite; apply State.start_kept; assumption; assumption; assumption

theorem specEngine_kept {Q : List Instr} (action : Nat) (c : Cmd) (s : State) (hG : Kept Q s) :
    Kept Q ((specEngine action).act c s).1 := by
  unfold specEngine
  try beta_reduce
  apply engineAct_kept; assumption

theorem State.laneConfigure_kept {Q : List Instr} (n cfg eq prbs : Nat) (s : State) (hG : Kept Q s) :
    Kept Q (State.laneConfigure n cfg eq prbs s) := by
  unfold State.laneConfigure
  try beta_reduce
  apply State.linkChange_kept; intro _ _; try beta_reduce; apply State.forEach_kept; apply kept_ite
  apply State.forEach_kept; apply State.eqChange_kept; intro _ _; try beta_reduce; apply State.wr_kept
  apply State.wr_kept; apply State.wr_kept; assumption; apply State.when_kept; assumption; apply State.wr_kept
  apply State.laneRestart_kept; apply State.forEach_kept; apply State.eqChange_kept; intro _ _; try beta_reduce
  apply State.wr_kept; apply State.wr_kept; apply State.wr_kept; assumption; apply State.when_kept; assumption
  apply State.wr_kept; apply State.laneCheck_kept; apply State.updFallback_kept; assumption

theorem State.resetLane_kept {Q : List Instr} (n : Nat) (s : State) (hG : Kept Q s) :
    Kept Q (State.resetLane n s) := by
  unfold State.resetLane
  try beta_reduce
  apply State.linkChange_kept; intro _ _; try beta_reduce; apply State.laneCheck_kept; apply State.when_kept
  apply kept_mk; apply kept_fold; apply State.wr_kept; apply State.set_kept; apply State.set_kept
  apply State.laneTo_kept; assumption; apply State.trimLoad_kept; assumption

theorem laneAct_kept {Q : List Instr} (action : Nat) (c : Cmd) (s : State) (hG : Kept Q s) :
    Kept Q (laneAct action c s).1 := by
  unfold laneAct
  try beta_reduce
  lift_lets -underBinder; (intro x; clear_value x); (intro x; clear_value x); (intro x; clear_value x)
  (intro x; (have _g := fun y => x y); clear _g; subst x; beta_reduce)
  (intro x; refine (fun (hx : Kept Q x.1) => ?_) ?_ <;> [clear_value x; subst x]); split
  with_reducible apply kept_ite1; with_reducible assumption; with_reducible apply State.laneConfigure_kept
  with_reducible assumption; with_reducible apply kept_ite1; with_reducible assumption
  with_reducible apply State.resetLane_kept; with_reducible assumption; with_reducible apply kept_ite1
  with_reducible assumption; with_reducible apply State.linkChange_kept; (intro _ _; try beta_reduce)
  with_reducible apply State.when_kept; with_reducible assumption; with_reducible apply State.laneTo_kept
  with_reducible assumption; with_reducible apply kept_ite1; with_reducible assumption
  with_reducible apply State.event_kept; with_reducible apply State.attn_kept
  with_reducible apply State.linkChange_kept; with_reducible apply State.laneTo_kept; with_reducible assumption
  with_reducible apply kept_ite1; with_reducible assumption; with_reducible apply State.linkChange_kept
  (intro _ _; try beta_reduce); with_reducible apply State.laneCheck_kept; with_reducible apply State.laneTo_kept
  with_reducible assumption; with_reducible assumption; with_reducible assumption

theorem specLane_kept {Q : List Instr} (action : Nat) (c : Cmd) (s : State) (hG : Kept Q s) :
    Kept Q ((specLane action).act c s).1 := by
  unfold specLane
  try beta_reduce
  apply laneAct_kept; assumption

theorem State.resetEngine_kept {Q : List Instr} (k : Nat) (s : State) (hG : Kept Q s) :
    Kept Q (State.resetEngine k s) := by
  unfold State.resetEngine
  try beta_reduce
  apply State.when_kept; assumption; apply State.oeTo_kept

theorem State.oeBoot_kept {Q : List Instr} (k : Nat) (s : State) (hG : Kept Q s) :
    Kept Q (State.oeBoot k s) := by
  unfold State.oeBoot
  try beta_reduce
  apply State.when_kept; assumption; apply State.oeTo_kept

theorem State.cutShort_kept {Q : List Instr} (p : Nat) (rx : List Byte) (s : State) (hG : Kept Q s) :
    Kept Q (State.cutShort p rx s) := by
  unfold State.cutShort
  try beta_reduce
  apply kept_mk; apply kept_fold; assumption

theorem State.eqAdapt_kept {Q : List Instr} (n eq : Nat) (s : State) (hG : Kept Q s) :
    Kept Q (State.eqAdapt n eq s) := by
  unfold State.eqAdapt
  try beta_reduce
  apply kept_ite; apply State.eqShow_kept; apply State.wr_kept; assumption; apply State.when_kept; assumption
  apply State.wr_kept

theorem State.eqMoveAll_kept {Q : List Instr} (s : State) (hG : Kept Q s) :
    Kept Q (State.eqMoveAll s) := by
  unfold State.eqMoveAll
  try beta_reduce
  apply State.forEach_kept; assumption; intro _ _ _; try beta_reduce; apply kept_ite; apply kept_mk; apply kept_fold
  apply State.eqShow_kept; assumption; apply State.eqShow_kept; assumption

theorem State.lanePower_kept {Q : List Instr} (k l : Nat) (rx : Bool) (v : Int) (s : State) (hG : Kept Q s) :
    Kept Q (State.lanePower k l rx v s) := by
  unfold State.lanePower
  try beta_reduce
  apply kept_ite; apply kept_mk; apply kept_fold; assumption; apply kept_ite; apply State.raise_kept
  apply State.set_kept; apply kept_mk; apply kept_fold; assumption; assumption

theorem State.oeLight_kept {Q : List Instr} (k : Nat) (s : State) (hG : Kept Q s) :
    Kept Q (State.oeLight k s) := by
  unfold State.oeLight
  try beta_reduce
  apply kept_ite; apply State.oeTo_kept; assumption; apply kept_ite; apply State.oeTo_kept; assumption; assumption

theorem State.rampStart_kept {Q : List Instr} (k : Nat) (b : Bool) (s : State) (hG : Kept Q s) :
    Kept Q (State.rampStart k b s) := by
  unfold State.rampStart
  try beta_reduce
  split; apply kept_ite; apply State.startOnce_kept; assumption; assumption; assumption

theorem State.rampEnd_kept {Q : List Instr} (k : Nat) (b : Bool) (code : Nat) (s : State) (hG : Kept Q s) :
    Kept Q (State.rampEnd k b code s) := by
  unfold State.rampEnd
  try beta_reduce
  apply State.rampStart_kept; apply State.finish_kept; apply State.stop_kept; assumption

theorem State.rampReverse_kept {Q : List Instr} (k : Nat) (b : Bool) (s : State) (hG : Kept Q s) :
    Kept Q (State.rampReverse k b s) := by
  unfold State.rampReverse
  try beta_reduce
  apply kept_ite; apply State.rampEnd_kept; apply State.set_kept; assumption; assumption

theorem State.setLocks_kept {Q : List Instr} (n : Nat) (block marker : Bool) (s : State) (hG : Kept Q s) :
    Kept Q (State.setLocks n block marker s) := by
  unfold State.setLocks
  try beta_reduce
  apply State.setB_kept; apply State.setB_kept; apply State.setB_kept; assumption

theorem State.updOeMax_kept {Q : List Instr} (s : State) (hG : Kept Q s) :
    Kept Q (State.updOeMax s) := by
  unfold State.updOeMax
  try beta_reduce
  apply State.setI_kept; assumption

theorem execBypassHoldExpiry_kept {Q : List Instr} (n : Nat) (s : State) (hG : Kept Q s) :
    KeptO Q (execBypassHoldExpiry n s) := by
  unfold execBypassHoldExpiry
  try beta_reduce
  apply keptO_ite; apply keptO_next; apply State.event_kept; apply State.updKeep_kept; apply State.set_kept
  assumption; apply keptO_next; assumption

theorem execBypassSetHold_kept {Q : List Instr} (d : Submission) (s : State) (hG : Kept Q s) :
    KeptO Q (execBypassSetHold d s) := by
  unfold execBypassSetHold
  try beta_reduce
  apply keptO_next; apply CmdSpec.take_kept; assumption; apply specBypassHold_kept

theorem execBypassSetPair_kept {Q : List Instr} (d : Submission) (s : State) (hG : Kept Q s) :
    KeptO Q (execBypassSetPair d s) := by
  unfold execBypassSetPair
  try beta_reduce
  apply keptO_next; apply CmdSpec.take_kept; assumption; apply specBypassPair_kept

theorem execDrainLsa_kept {Q : List Instr} (d : Submission) (s : State) (hG : Kept Q s) :
    KeptO Q (execDrainLsa d s) := by
  unfold execDrainLsa
  try beta_reduce
  apply keptO_next; apply CmdSpec.take_kept; assumption; apply specEngine_kept

theorem execDrainLsb_kept {Q : List Instr} (d : Submission) (s : State) (hG : Kept Q s) :
    KeptO Q (execDrainLsb d s) := by
  unfold execDrainLsb
  try beta_reduce
  apply keptO_next; apply CmdSpec.take_kept; assumption; apply specEngine_kept

theorem execElasticSlip_kept {Q : List Instr} (n : Nat) (ins : Bool) (s : State) (hG : Kept Q s) :
    KeptO Q (execElasticSlip n ins s) := by
  unfold execElasticSlip
  try beta_reduce
  apply keptO_ite; apply keptO_next; apply State.when_kept; apply State.count_kept; assumption
  apply State.raise_kept; apply keptO_next; assumption

theorem execEngineSelfTestDone_kept {Q : List Instr} (k : Nat) (ok : Bool) (s : State) (hG : Kept Q s) :
    KeptO Q (execEngineSelfTestDone k ok s) := by
  unfold execEngineSelfTestDone
  try beta_reduce
  apply keptO_ite; apply keptO_ite; apply keptO_next; apply State.oeTo_kept; assumption; apply keptO_next
  apply State.raise_kept; apply State.oeTo_kept; assumption; apply keptO_next; assumption

theorem execEngineSetConfigure_kept {Q : List Instr} (d : Submission) (s : State) (hG : Kept Q s) :
    KeptO Q (execEngineSetConfigure d s) := by
  unfold execEngineSetConfigure
  try beta_reduce
  apply keptO_next; apply CmdSpec.take_kept; assumption; apply specEngine_kept

theorem execEngineSetPowerDown_kept {Q : List Instr} (d : Submission) (s : State) (hG : Kept Q s) :
    KeptO Q (execEngineSetPowerDown d s) := by
  unfold execEngineSetPowerDown
  try beta_reduce
  apply keptO_next; apply CmdSpec.take_kept; assumption; apply specEngine_kept

theorem execEngineSetPowerUp_kept {Q : List Instr} (d : Submission) (s : State) (hG : Kept Q s) :
    KeptO Q (execEngineSetPowerUp d s) := by
  unfold execEngineSetPowerUp
  try beta_reduce
  apply keptO_next; apply CmdSpec.take_kept; assumption; apply specEngine_kept

theorem execEngineSetReset_kept {Q : List Instr} (d : Submission) (s : State) (hG : Kept Q s) :
    KeptO Q (execEngineSetReset d s) := by
  unfold execEngineSetReset
  try beta_reduce
  apply keptO_next; apply CmdSpec.take_kept; assumption; apply specEngine_kept

theorem execEngineShutdownTrip_kept {Q : List Instr} (k : Nat) (ots : Int) (s : State) (hG : Kept Q s) :
    KeptO Q (execEngineShutdownTrip k ots s) := by
  unfold execEngineShutdownTrip
  try beta_reduce
  apply keptO_ite; apply keptO_next; apply State.raise_kept; apply State.raise_kept; apply State.oeTo_kept
  apply State.updOeMax_kept; apply State.setI_kept; assumption; apply keptO_next; assumption

theorem execEngineStartTimeout_kept {Q : List Instr} (k : Nat) (s : State) (hG : Kept Q s) :
    KeptO Q (execEngineStartTimeout k s) := by
  unfold execEngineStartTimeout
  try beta_reduce
  apply keptO_ite; apply keptO_next; apply State.raise_kept; apply State.oeTo_kept; assumption; apply keptO_next
  assumption

theorem execFecDegradedClear_kept {Q : List Instr} (n : Nat) (s : State) (hG : Kept Q s) :
    KeptO Q (execFecDegradedClear n s) := by
  unfold execFecDegradedClear
  try beta_reduce
  apply keptO_ite; apply keptO_next; apply State.set_kept; assumption; apply keptO_next; assumption

theorem execFecDegradedSet_kept {Q : List Instr} (n : Nat) (s : State) (hG : Kept Q s) :
    KeptO Q (execFecDegradedSet n s) := by
  unfold execFecDegradedSet
  try beta_reduce
  apply keptO_ite; apply keptO_next; apply State.raise_kept; apply State.set_kept; assumption; apply keptO_next
  assumption

theorem execLaneAcquireTimeout_kept {Q : List Instr} (n : Nat) (s : State) (hG : Kept Q s) :
    KeptO Q (execLaneAcquireTimeout n s) := by
  unfold execLaneAcquireTimeout
  try beta_reduce
  apply keptO_ite; apply keptO_next; apply State.count_kept; apply State.start_kept; assumption; apply keptO_next
  assumption

theorem execLaneLockGained_kept {Q : List Instr} (n : Nat) (l : LockGain) (s : State) (hG : Kept Q s) :
    KeptO Q (execLaneLockGained n l s) := by
  unfold execLaneLockGained
  try beta_reduce
  apply keptO_ite; apply keptO_next; apply State.linkChange_kept; intro _ _; try beta_reduce; apply kept_ite
  apply State.set_kept; apply State.start_kept; apply State.stop_kept; apply State.eqAdapt_kept; apply kept_ite
  apply kept_mk; apply kept_fold; apply State.setLocks_kept; assumption; apply State.setLocks_kept; assumption
  apply State.eqAdapt_kept; apply kept_ite; apply kept_mk; apply kept_fold; apply State.setLocks_kept; assumption
  apply State.setLocks_kept; assumption; assumption; apply keptO_next; assumption

theorem execLaneLockLost_kept {Q : List Instr} (l : LockLoss) (s : State) (hG : Kept Q s) :
    KeptO Q (execLaneLockLost l s) := by
  unfold execLaneLockLost
  try beta_reduce
  apply keptO_ite; apply keptO_next; apply State.linkChange_kept; intro _ _; try beta_reduce
  apply State.setLocks_kept; apply State.when_kept; assumption; apply State.laneTo_kept; apply State.cutShort_kept
  assumption; apply keptO_next; assumption

theorem execLaneSetConfigure_kept {Q : List Instr} (d : Submission) (s : State) (hG : Kept Q s) :
    KeptO Q (execLaneSetConfigure d s) := by
  unfold execLaneSetConfigure
  try beta_reduce
  apply keptO_next; apply CmdSpec.take_kept; assumption; apply specLane_kept

theorem execLaneSetReadapt_kept {Q : List Instr} (d : Submission) (s : State) (hG : Kept Q s) :
    KeptO Q (execLaneSetReadapt d s) := by
  unfold execLaneSetReadapt
  try beta_reduce
  apply keptO_next; apply CmdSpec.take_kept; assumption; apply specLane_kept

theorem execLaneSetReset_kept {Q : List Instr} (d : Submission) (s : State) (hG : Kept Q s) :
    KeptO Q (execLaneSetReset d s) := by
  unfold execLaneSetReset
  try beta_reduce
  apply keptO_next; apply CmdSpec.take_kept; assumption; apply specLane_kept

theorem execLaneSetRetire_kept {Q : List Instr} (d : Submission) (s : State) (hG : Kept Q s) :
    KeptO Q (execLaneSetRetire d s) := by
  unfold execLaneSetRetire
  try beta_reduce
  apply keptO_next; apply CmdSpec.take_kept; assumption; apply specLane_kept

theorem execLaneSetReturn_kept {Q : List Instr} (d : Submission) (s : State) (hG : Kept Q s) :
    KeptO Q (execLaneSetReturn d s) := by
  unfold execLaneSetReturn
  try beta_reduce
  apply keptO_next; apply CmdSpec.take_kept; assumption; apply specLane_kept

theorem execLaserInputLost_kept {Q : List Instr} (k : Nat) (b : Bool) (s : State) (hG : Kept Q s) :
    KeptO Q (execLaserInputLost k b s) := by
  unfold execLaserInputLost
  try beta_reduce
  apply keptO_ite; apply keptO_ite; apply keptO_next; apply State.oeLight_kept; apply State.rampReverse_kept
  apply State.raise_kept; lift_lets -underBinder; split; apply kept_ite; apply State.set_kept; assumption
  apply State.stop_kept; apply State.set_kept; assumption; apply State.stop_kept; apply State.set_kept; assumption
  apply keptO_next; lift_lets -underBinder; split; apply kept_ite; apply State.set_kept; assumption
  apply State.stop_kept; apply State.set_kept; assumption; apply State.stop_kept; apply State.set_kept; assumption
  apply keptO_next; assumption

theorem execLaserInputReturn_kept {Q : List Instr} (k : Nat) (b : Bool) (s : State) (hG : Kept Q s) :
    KeptO Q (execLaserInputReturn k b s) := by
  unfold execLaserInputReturn
  try beta_reduce
  apply keptO_ite; apply keptO_ite; apply keptO_next; apply State.rampStart_kept; apply State.set_kept; assumption
  apply keptO_next; apply State.oeLight_kept; apply State.raise_kept; apply State.startOnce_kept
  apply State.rampStart_kept; apply State.set_kept; assumption; apply keptO_next; assumption

theorem execLaserRampDone_kept {Q : List Instr} (k : Nat) (b : Bool) (s : State) (hG : Kept Q s) :
    KeptO Q (execLaserRampDone k b s) := by
  unfold execLaserRampDone
  try beta_reduce
  apply keptO_ite; apply keptO_next; assumption; lift_lets -underBinder; split; apply keptO_ite; apply keptO_next
  apply State.rampEnd_kept; apply State.oeLight_kept; apply State.set_kept; assumption; apply keptO_next
  apply State.rampEnd_kept; apply State.oeLight_kept; apply State.when_kept; apply State.set_kept; assumption
  apply State.raise_kept; apply keptO_next; apply State.stop_kept; assumption

theorem execLinkUpHoldExpiry_kept {Q : List Instr} (n : Nat) (s : State) (hG : Kept Q s) :
    KeptO Q (execLinkUpHoldExpiry n s) := by
  unfold execLinkUpHoldExpiry
  try beta_reduce
  apply keptO_ite; apply keptO_next; apply State.linkChange_kept; intro _ _; try beta_reduce; apply State.raise_kept
  apply State.set_kept; apply State.stop_kept; assumption; assumption; apply keptO_next; assumption

theorem execLpiReceived_kept {Q : List Instr} (n : Nat) (s : State) (hG : Kept Q s) :
    KeptO Q (execLpiReceived n s) := by
  unfold execLpiReceived
  try beta_reduce
  apply keptO_ite; apply keptO_next; apply State.raise_kept; assumption; apply keptO_next; assumption

theorem execOpticalMonitorUpdate_kept {Q : List Instr} (k : Nat) (lsa lsb ots : Int) (pw : List (Int × Int)) (s : State) (hG : Kept Q s) :
    KeptO Q (execOpticalMonitorUpdate k lsa lsb ots pw s) := by
  unfold execOpticalMonitorUpdate
  try beta_reduce
  apply keptO_ite; apply keptO_next; apply State.updOeMax_kept; apply State.setB_kept; apply State.setB_kept
  apply State.forEach_kept; apply State.setI_kept; apply State.setI_kept; apply State.setI_kept; assumption
  intro _ _ _; try beta_reduce; apply State.lanePower_kept; apply State.lanePower_kept; apply State.setI_kept
  apply State.setI_kept; assumption; apply keptO_next; assumption

theorem execReadaptDone_kept {Q : List Instr} (n rx tx : Nat) (s : State) (hG : Kept Q s) :
    KeptO Q (execReadaptDone n rx tx s) := by
  unfold execReadaptDone
  try beta_reduce
  apply keptO_ite; apply keptO_next; apply State.finish_kept; apply State.when_kept; assumption
  intro _ _; try beta_reduce; apply State.eqChange_kept; intro _ _; try beta_reduce; apply State.set_kept
  apply State.set_kept; assumption; assumption; apply keptO_next; assumption

theorem execRestoreLsa_kept {Q : List Instr} (d : Submission) (s : State) (hG : Kept Q s) :
    KeptO Q (execRestoreLsa d s) := by
  unfold execRestoreLsa
  try beta_reduce
  apply keptO_next; apply CmdSpec.take_kept; assumption; apply specEngine_kept

theorem execRestoreLsb_kept {Q : List Instr} (d : Submission) (s : State) (hG : Kept Q s) :
    KeptO Q (execRestoreLsb d s) := by
  unfold execRestoreLsb
  try beta_reduce
  apply keptO_next; apply CmdSpec.take_kept; assumption; apply specEngine_kept

theorem execSerdesFault_kept {Q : List Instr} (n : Nat) (s : State) (hG : Kept Q s) :
    KeptO Q (execSerdesFault n s) := by
  unfold execSerdesFault
  try beta_reduce
  apply keptO_ite; apply keptO_next; apply State.linkChange_kept; intro _ _; try beta_reduce; apply State.raise_kept
  apply State.laneTo_kept; assumption; assumption; apply keptO_next; assumption

end Sys2Proof.Machine
end

