-- ==== Sys2Proof/Laws/KeptStalls.lean ====
section
/-! SUPPORT. The operations of Machine/Stalls.lean keep the queue, the register file and the forwarding database. -/

namespace Sys2Proof.Machine

open Sys2Proof

set_option linter.unusedTactic false

theorem State.updShed_kept {Q : List Instr} (p : Nat) (s : State) (hG : Kept Q s) :
    Kept Q (State.updShed p s) := by
  unfold State.updShed
  try beta_reduce
  split; apply State.setB_kept; apply State.set_kept; assumption; apply State.setB_kept; apply State.set_kept
  assumption

theorem State.updHayloft_kept {Q : List Instr} (p : Nat) (s : State) (hG : Kept Q s) :
    Kept Q (State.updHayloft p s) := by
  unfold State.updHayloft
  try beta_reduce
  apply kept_ite; apply State.setB_kept; apply State.set_kept; assumption; apply State.set_kept; assumption

theorem State.enqueue_kept {Q : List Instr} (id : Nat) (s : State) (hG : Kept Q s) :
    Kept Q (State.enqueue id s) := by
  unfold State.enqueue
  try beta_reduce
  split; assumption; apply State.updHayloft_kept; apply State.modFrame_kept; apply State.place_kept; assumption

end Sys2Proof.Machine
end

