-- ==== Sys2Proof/Laws/KeptHeddles.lean ====
section
/-! SUPPORT. The operations of Machine/Heddles.lean keep the queue, the register file and the forwarding database. -/

namespace Sys2Proof.Machine

open Sys2Proof

set_option linter.unusedTactic false

theorem State.updHeld_kept {Q : List Instr} (s : State) (hG : Kept Q s) :
    Kept Q (State.updHeld s) := by
  unfold State.updHeld
  try beta_reduce
  apply State.setB_kept; apply State.setB_kept; assumption

theorem State.touch_kept {Q : List Instr} (vid mac : Nat) (s : State) (hG : Kept Q s) :
    Kept Q (State.touch vid mac s) := by
  unfold State.touch
  try beta_reduce
  apply kept_mk; apply kept_fold; assumption

theorem specFdbAdd_kept {Q : List Instr} (c : Cmd) (s : State) (hG : Kept Q s) : Kept Q (specFdbAdd.act c s).1 := by
  unfold specFdbAdd
  dsimp only
  split
  · rename_i h
    obtain ⟨-, hv, hm⟩ := fdbFind_some h
    exact State.setFdb_kept _ _ (State.touch_kept _ _ _ hG) (fdbSound_found hG.fdb h hv.symm hm.symm)
  · rename_i h
    split
    · rename_i h'
      exact State.setFdb_kept _ _ (State.touch_kept _ _ _ hG) (fdbSound_new hG.fdb h h')
    · exact hG

theorem State.freed_kept {Q : List Instr} (l : List Nat) (s : State) (hG : Kept Q s) :
    Kept Q (State.freed l s) := by
  unfold State.freed
  try beta_reduce
  apply kept_mk; apply kept_fold; assumption

theorem specFdbDel_kept {Q : List Instr} (c : Cmd) (s : State) (hG : Kept Q s) : Kept Q (specFdbDel.act c s).1 := by
  unfold specFdbDel
  dsimp only
  split
  · exact State.setFdb_kept _ _ (State.freed_kept _ _ (State.touch_kept _ _ _ hG)) (fdbSound_del _ hG.fdb)
  · exact State.touch_kept _ _ _ hG

theorem specFdbFlush_kept {Q : List Instr} (c : Cmd) (s : State) (hG : Kept Q s) : Kept Q (specFdbFlush.act c s).1 := by
  unfold specFdbFlush
  dsimp only
  have h := State.forEach_kept ((s.fdb.filter (fun x => flushes c.sub x.2)).filter (fun x => x.2.static))
    (fun x => State.touch x.2.vid x.2.mac) s hG (fun _ s hs => State.touch_kept _ _ s hs)
  exact State.setFdb_kept _ _ (kept_mk (kept_fold (State.freed_kept _ _ h))) (fdbSound_filter _ h.fdb)

theorem State.setHed_kept {Q : List Instr} (h v : Nat) (s : State) (hG : Kept Q s) :
    Kept Q (State.setHed h v s) := by
  unfold State.setHed
  try beta_reduce
  apply State.setB_kept; apply State.set_kept; assumption

theorem State.hedService_kept {Q : List Instr} (h : Nat) (on : Bool) (s : State) (hG : Kept Q s) :
    Kept Q (State.hedService h on s) := by
  unfold State.hedService
  apply State.setB_kept; apply State.setHed_kept; assumption

theorem State.writeGraph_kept {Q : List Instr} (h : Nat) (img : List Byte) (s : State) (hG : Kept Q s) :
    Kept Q (State.writeGraph h img s) := by
  unfold State.writeGraph
  apply State.set_kept
  apply State.forEach_kept
  · apply State.forEach_kept
    · exact ⟨hG.1, canonRegs_filter _ hG.2.1, hG.2.2⟩
    · intro _ _ hs
      exact State.wrWords_kept _ _ _ hs
  · intro _ _ hs
    exact State.wrWords_kept _ _ _ hs

theorem heddleAct_kept {Q : List Instr} (action : Nat) (c : Cmd) (s : State) (hG : Kept Q s) :
    Kept Q (heddleAct action c s).1 := by
  unfold heddleAct
  try beta_reduce
  apply kept_ite1; assumption; apply kept_ite1; assumption; apply kept_ite1; apply State.setHed_kept
  apply kept_mk; apply kept_fold; assumption; apply kept_ite1; apply State.setHed_kept; apply State.writeGraph_kept
  apply kept_mk; apply kept_fold; assumption; apply kept_ite1; apply kept_mk; apply kept_fold; assumption
  assumption

theorem specHeddle_kept {Q : List Instr} (action : Nat) (c : Cmd) (s : State) (hG : Kept Q s) :
    Kept Q ((specHeddle action).act c s).1 := by
  unfold specHeddle
  try beta_reduce
  apply heddleAct_kept; assumption

theorem State.endHedJob_kept {Q : List Instr} (h code : Nat) (s : State) (hG : Kept Q s) :
    Kept Q (State.endHedJob h code s) := by
  unfold State.endHedJob
  try beta_reduce
  split; assumption; apply State.finish_kept; apply kept_mk; apply kept_fold; assumption

theorem State.returnHeads_kept {Q : List Instr} (h : Nat) (s : State) (hG : Kept Q s) :
    Kept Q (State.returnHeads h s) := by
  unfold State.returnHeads
  try beta_reduce
  apply kept_mk; apply kept_fold; assumption

theorem State.resetHeddle_kept {Q : List Instr} (h : Nat) (s : State) (hG : Kept Q s) :
    Kept Q (State.resetHeddle h s) := by
  unfold State.resetHeddle
  try beta_reduce
  apply kept_ite; apply State.setHed_kept; apply State.endHedJob_kept; apply State.returnHeads_kept; assumption
  apply State.endHedJob_kept; apply State.returnHeads_kept; assumption

theorem State.updHeader_kept {Q : List Instr} (g : Nat) (s : State) (hG : Kept Q s) :
    Kept Q (State.updHeader g s) := by
  unfold State.updHeader
  try beta_reduce
  apply kept_ite; apply State.set_kept; apply State.setB_kept; assumption; apply State.set_kept
  apply State.setB_kept; assumption

theorem State.clearRange_kept {Q : List Instr} (gen lo hi : Nat) (s : State) (hG : Kept Q s) :
    Kept Q (State.clearRange gen lo hi s) := by
  unfold State.clearRange
  try beta_reduce
  apply State.updHeader_kept; apply kept_mk; apply kept_fold; assumption

theorem State.writeEntry_kept {Q : List Instr} (gen mem : Nat) (e : Nat × List Byte) (s : State) (hG : Kept Q s) :
    Kept Q (State.writeEntry gen mem e s) := by
  unfold State.writeEntry
  try beta_reduce
  apply kept_ite; apply State.updHeader_kept; apply kept_mk; apply kept_fold; assumption
  apply kept_mk; apply kept_fold; assumption

theorem State.writeNext_kept {Q : List Instr} (n c : Nat) (j : RuleJob) (s : State) (hG : Kept Q s) :
    Kept Q (State.writeNext n c j s) := by
  unfold State.writeNext
  try beta_reduce
  apply kept_ite; apply kept_mk; apply kept_fold; apply State.clearRange_kept; assumption
  apply kept_mk; apply kept_fold; apply State.forEach_kept; assumption; apply State.writeEntry_kept

theorem State.startJob_kept {Q : List Instr} (j : RuleJob) (s : State) (hG : Kept Q s) :
    Kept Q (State.startJob j s).1 := by
  unfold State.startJob
  try beta_reduce
  apply kept_ite1; apply kept_mk; apply kept_fold; assumption; apply kept_ite1; assumption; apply kept_ite1
  apply State.writeNext_kept; assumption; apply kept_mk; apply kept_fold; assumption

theorem specRuleClear_kept {Q : List Instr} (c : Cmd) (s : State) (hG : Kept Q s) :
    Kept Q (specRuleClear.act c s).1 := by
  unfold specRuleClear
  try beta_reduce
  apply kept_ite1; assumption; apply State.startJob_kept; assumption

theorem State.swapTo_kept {Q : List Instr} (g b : Nat) (s : State) (hG : Kept Q s) :
    Kept Q (State.swapTo g b s).1 := by
  unfold State.swapTo
  try beta_reduce
  apply kept_ite1; assumption; apply kept_ite1; assumption; apply State.updHeld_kept; apply State.set_kept
  apply State.set_kept; apply kept_mk; apply kept_fold; assumption

theorem specRuleSwap_kept {Q : List Instr} (c : Cmd) (s : State) (hG : Kept Q s) :
    Kept Q (specRuleSwap.act c s).1 := by
  unfold specRuleSwap
  try beta_reduce
  apply kept_ite1; apply kept_mk; apply kept_fold; assumption; apply State.swapTo_kept; assumption

theorem specRuleWrite_kept {Q : List Instr} (c : Cmd) (s : State) (hG : Kept Q s) :
    Kept Q (specRuleWrite.act c s).1 := by
  unfold specRuleWrite
  try beta_reduce
  apply State.startJob_kept; assumption

theorem State.hedEvent_kept {Q : List Instr} (b src : Nat) (s : State) (hG : Kept Q s) :
    Kept Q (State.hedEvent b src s) := by
  unfold State.hedEvent
  try beta_reduce
  apply State.raise_kept; assumption

theorem State.setLearnt_kept {Q : List Instr} (i : Nat) (e : FdbEntry) (s : State) (hG : Kept Q s) (ht : fdbSound (Tbl.ins i e s.fdb)) :
    Kept Q (s.setLearnt i e) := by
  unfold State.setLearnt
  refine State.setFdb_kept _ _ hG ?_
  split
  · exact fdbSound_del _ hG.fdb
  · exact ht

theorem State.learn_kept {Q : List Instr} (vid mac port : Nat) (s : State) (hG : Kept Q s) : Kept Q (s.learn vid mac port) := by
  unfold State.learn
  split
  · exact hG
  · split
    · rename_i h
      split
      · exact State.setLearnt_kept _ _ _ hG (fdbSound_found hG.fdb h rfl rfl)
      · split
        · exact State.hedEvent_kept _ _ _ hG
        · exact State.setLearnt_kept _ _ _ hG (fdbSound_found hG.fdb h rfl rfl)
    · rename_i h
      split
      · rename_i h'
        exact State.setLearnt_kept _ _ _ hG (fdbSound_new hG.fdb h h')
      · exact State.hedEvent_kept _ _ _ hG

theorem State.mirrorCopy_kept {Q : List Instr} (f : Frame) (m q2 : Nat) (s : State) (hG : Kept Q s) :
    Kept Q (State.mirrorCopy f m q2 s) := by
  unfold State.mirrorCopy
  try beta_reduce
  apply kept_ite; assumption; apply kept_ite; apply kept_mk; apply kept_fold; assumption; apply kept_ite
  apply State.count_kept; apply State.raiseD_kept; apply kept_mk; apply kept_fold; assumption
  apply State.addFrame_kept; apply State.madeCopy_kept; apply State.count_kept; apply kept_mk; apply kept_fold
  assumption

theorem State.ringCopy_kept {Q : List Instr} (f : Frame) (q mid : Nat) (st : Stage) (s : State) (hG : Kept Q s) :
    Kept Q (State.ringCopy f q mid st s) := by
  unfold State.ringCopy
  try beta_reduce
  apply State.addFrame_kept; apply State.madeCopy_kept; assumption

theorem State.settle_kept {Q : List Instr} (id : Nat) (s : State) (hG : Kept Q s) :
    Kept Q (State.settle id s) := by
  unfold State.settle
  try beta_reduce
  split; assumption; lift_lets -underBinder; intro x; clear_value x
  intro x; refine (fun (hx : Kept Q x) => ?_) ?_ <;> [clear_value x; subst x]
  intro x; refine (fun (hx : Kept Q x) => ?_) ?_ <;> [clear_value x; subst x]
  intro x; refine (fun (hx : Kept Q x) => ?_) ?_ <;> [clear_value x; subst x]
  intro x; refine (fun (hx : Kept Q x) => ?_) ?_ <;> [clear_value x; subst x]; split; apply State.endFrame_kept
  assumption; assumption; apply State.when_kept; assumption; apply State.ringCopy_kept; split
  apply State.mirrorCopy_kept; assumption; assumption; apply State.when_kept; assumption; apply State.learn_kept
  apply State.modFrame_kept; assumption

theorem State.afterDecision_kept {Q : List Instr} (id : Nat) (s : State) (hG : Kept Q s) :
    Kept Q (State.afterDecision id s) := by
  unfold State.afterDecision
  try beta_reduce
  split; assumption; apply kept_ite; assumption; lift_lets -underBinder; split; apply State.settle_kept; assumption
  apply kept_ite; assumption; apply State.endFrame_kept; assumption

theorem State.applyAction_kept {Q : List Instr} (id h : Nat) (f : Frame) (a : Action) (s : State) (hG : Kept Q s) :
    Kept Q (State.applyAction id h f a s) := by
  unfold State.applyAction
  try beta_reduce
  apply kept_ite; apply State.modFrame_kept; apply State.hedEvent_kept; assumption; apply State.modFrame_kept
  apply State.modFrame_kept; apply State.when_kept; lift_lets -underBinder; split; apply State.count_kept
  assumption; assumption; apply State.hedEvent_kept

theorem State.hedFault_kept {Q : List Instr} (h : Nat) (s : State) (hG : Kept Q s) :
    Kept Q (State.hedFault h s) := by
  unfold State.hedFault
  try beta_reduce
  apply State.event_kept; apply State.stick_kept; apply State.setHed_kept; apply State.returnHeads_kept; assumption

theorem State.hedCtrl_kept {Q : List Instr} (v : Word) (s : State) (hG : Kept Q s) :
    Kept Q (State.hedCtrl v s) := by
  unfold State.hedCtrl
  try beta_reduce
  apply State.forEach_kept; apply State.wr_kept; apply State.when_kept; assumption; apply State.hedEvent_kept
  intro _ _ _; try beta_reduce; apply kept_ite; apply kept_ite; apply State.setHed_kept; assumption
  apply State.hedFault_kept; assumption; apply kept_ite; apply State.setHed_kept; apply State.returnHeads_kept
  assumption; assumption

theorem State.beginWriter_kept {Q : List Instr} (t : Nat) (x1 : List RuleJob) (x2 : State) (hG : Kept Q x2) :
    Kept Q (State.beginWriter t x1 x2) := by
  induction x1 generalizing t x2 hG
  on_goal 2 => rename_i y l ih
  all_goals unfold State.beginWriter
  apply kept_mk; apply kept_fold; assumption; apply kept_ite; apply ih; apply State.finish_kept; assumption
  apply kept_mk; apply kept_fold; assumption

theorem State.countMalformed_kept {Q : List Instr} (c : Nat) (s : State) (hG : Kept Q s) :
    Kept Q (State.countMalformed c s) := by
  unfold State.countMalformed
  try beta_reduce
  apply State.set_kept; apply State.set_kept; assumption

theorem State.decideHead_kept {Q : List Instr} (id h : Nat) (f : Frame) (s : State) (hG : Kept Q s) :
    Kept Q (State.decideHead id h f s) := by
  unfold State.decideHead
  try beta_reduce
  apply kept_ite; apply State.modFrame_kept; assumption; apply kept_ite; apply State.modFrame_kept
  apply State.modFrame_kept; lift_lets -underBinder; split; apply State.countMalformed_kept; assumption; assumption
  dsimp -zeta only; lift_lets -underBinder; intro x; clear_value x; intro x; clear_value x
  intro x; refine (fun (hx : Kept Q x) => ?_) ?_ <;> [clear_value x; subst x]; split; apply State.applyAction_kept
  assumption; assumption; apply State.when_kept; apply State.modFrame_kept; lift_lets -underBinder; split
  apply State.countMalformed_kept; assumption; assumption; apply State.hedEvent_kept

theorem State.dispatch_kept {Q : List Instr} (id : Nat) (f : Frame) (h : Nat) (s : State) (hG : Kept Q s) :
    Kept Q (State.dispatch id f h s) := by
  unfold State.dispatch
  try beta_reduce
  lift_lets -underBinder; intro x; refine (fun (hx : Kept Q x) => ?_) ?_ <;> [clear_value x; subst x]
  intro x; clear_value x; split; apply State.modFrame_kept; assumption; apply State.modFrame_kept
  apply kept_mk; apply kept_fold; assumption; apply kept_mk; apply kept_fold; assumption

theorem State.writeLast_kept {Q : List Instr} (c t : Nat) (j : RuleJob) (s : State) (hG : Kept Q s) :
    Kept Q (State.writeLast c t j s) := by
  unfold State.writeLast
  try beta_reduce
  apply State.finish_kept; apply State.writeNext_kept; assumption

theorem State.endWrites_kept {Q : List Instr} (s : State) (hG : Kept Q s) :
    Kept Q (State.endWrites s) := by
  unfold State.endWrites
  try beta_reduce
  split; assumption; apply State.when_kept; assumption; apply State.writeLast_kept

theorem State.newHeld_kept {Q : List Instr} (s : State) (hG : Kept Q s) :
    Kept Q (State.newHeld s) := by
  unfold State.newHeld
  try beta_reduce
  apply State.setB_kept; apply State.setB_kept; assumption

theorem State.writeCycles_kept {Q : List Instr} (d x1 x2 : Nat) (x3 : State) (hG : Kept Q x3) :
    Kept Q (State.writeCycles d x1 x2 x3) := by
  induction x1 generalizing d x2 x3 hG
  on_goal 2 => rename_i k ih
  all_goals unfold State.writeCycles
  assumption; split; assumption; apply kept_ite; assumption; apply kept_ite; apply ih; apply State.beginWriter_kept
  assumption; apply kept_ite; apply State.when_kept; assumption; apply State.writeNext_kept; apply ih
  apply State.writeLast_kept; assumption

theorem execFdbAdd_kept {Q : List Instr} (d : Submission) (s : State) (hG : Kept Q s) :
    KeptO Q (execFdbAdd d s) := by
  unfold execFdbAdd
  try beta_reduce
  apply keptO_next; apply CmdSpec.take_kept; assumption; apply specFdbAdd_kept

theorem execFdbAgeing_kept {Q : List Instr} (s : State) (hG : Kept Q s) : KeptO Q (execFdbAgeing s) := by
  have h := State.evalMade_kept evFdb s hG
  unfold execFdbAgeing
  split
  · exact keptO_next hG
  · dsimp only
    split
    · exact keptO_next h
    · refine keptO_next (State.setFdb_kept _ _ h ?_)
      refine fdbSound_filter _ (fdbSound_map _ ?_ ?_ ?_ h.2.2) <;> intro _ <;> rfl

theorem execFdbDel_kept {Q : List Instr} (d : Submission) (s : State) (hG : Kept Q s) :
    KeptO Q (execFdbDel d s) := by
  unfold execFdbDel
  try beta_reduce
  apply keptO_next; apply CmdSpec.take_kept; assumption; apply specFdbDel_kept

theorem execFdbFlush_kept {Q : List Instr} (d : Submission) (s : State) (hG : Kept Q s) :
    KeptO Q (execFdbFlush d s) := by
  unfold execFdbFlush
  try beta_reduce
  apply keptO_next; apply CmdSpec.take_kept; assumption; apply specFdbFlush_kept

theorem execHeadDecision_kept {Q : List Instr} (id : Nat) (s : State) (hG : Kept Q s) :
    KeptO Q (execHeadDecision id s) := by
  unfold execHeadDecision
  try beta_reduce
  split; split; apply keptO_ite; apply keptO_next; assumption; apply keptO_next; apply State.updHeld_kept
  apply State.afterDecision_kept; apply State.decideHead_kept; assumption; apply keptO_next; assumption
  apply keptO_next; assumption

theorem execHedCtrlWrite_kept {Q : List Instr} (v : BitVec 32) (s : State) (hG : Kept Q s) :
    KeptO Q (execHedCtrlWrite v s) := by
  unfold execHedCtrlWrite
  try beta_reduce
  apply keptO_ite; apply keptO_next; assumption; apply keptO_next; apply State.hedCtrl_kept; assumption

theorem execHedEccRepair_kept {Q : List Instr} (corrected : Bool) (mem gen unit src frame : Nat) (s : State) (hG : Kept Q s) :
    KeptO Q (execHedEccRepair corrected mem gen unit src frame s) := by
  unfold execHedEccRepair
  try beta_reduce
  apply keptO_ite; apply keptO_next; apply State.hedEvent_kept; assumption; lift_lets -underBinder
  intro x; refine (fun (hx : Kept Q x) => ?_) ?_ <;> [clear_value x; subst x]
  intro x; refine (fun (hx : Kept Q x) => ?_) ?_ <;> [clear_value x; subst x]; split; apply keptO_ite
  apply keptO_ite; apply keptO_next; apply State.endFrame_kept; assumption; apply keptO_next
  apply State.modFrame_kept; assumption; apply keptO_next; assumption; apply keptO_next; assumption
  apply State.hedEvent_kept; assumption; apply State.set_kept; apply State.set_kept; apply State.set_kept
  assumption

theorem execHeddleDisable_kept {Q : List Instr} (d : Submission) (s : State) (hG : Kept Q s) :
    KeptO Q (execHeddleDisable d s) := by
  unfold execHeddleDisable
  try beta_reduce
  apply keptO_next; apply CmdSpec.take_kept; assumption; apply specHeddle_kept

theorem execHeddleDrained_kept {Q : List Instr} (h : Nat) (s : State) (hG : Kept Q s) :
    KeptO Q (execHeddleDrained h s) := by
  unfold execHeddleDrained
  try beta_reduce
  apply keptO_ite; apply keptO_next; assumption; lift_lets -underBinder; split; apply keptO_next; assumption
  apply keptO_ite; apply keptO_next; apply State.setHed_kept; apply State.writeGraph_kept; assumption
  apply keptO_next; apply State.endHedJob_kept; apply State.hedService_kept; assumption

theorem execHeddleEnable_kept {Q : List Instr} (d : Submission) (s : State) (hG : Kept Q s) :
    KeptO Q (execHeddleEnable d s) := by
  unfold execHeddleEnable
  try beta_reduce
  apply keptO_next; apply CmdSpec.take_kept; assumption; apply specHeddle_kept

theorem execHeddleGraphError_kept {Q : List Instr} (h : Nat) (s : State) (hG : Kept Q s) :
    KeptO Q (execHeddleGraphError h s) := by
  unfold execHeddleGraphError
  try beta_reduce
  apply keptO_next; apply State.endHedJob_kept; apply State.hedFault_kept; apply State.hedEvent_kept
  apply State.set_kept; apply State.set_kept; apply State.set_kept; assumption

theorem execHeddleLoad_kept {Q : List Instr} (d : Submission) (s : State) (hG : Kept Q s) :
    KeptO Q (execHeddleLoad d s) := by
  unfold execHeddleLoad
  try beta_reduce
  apply keptO_next; apply CmdSpec.take_kept; assumption; apply specHeddle_kept

theorem execHeddleReadbackDone_kept {Q : List Instr} (h : Nat) (ok : Bool) (s : State) (hG : Kept Q s) :
    KeptO Q (execHeddleReadbackDone h ok s) := by
  unfold execHeddleReadbackDone
  try beta_reduce
  split; apply keptO_next; assumption; apply keptO_ite; apply keptO_next; assumption; apply keptO_ite
  apply keptO_next; apply State.endHedJob_kept; apply State.hedService_kept; assumption; apply keptO_ite
  apply keptO_next; apply State.endHedJob_kept; apply State.hedFault_kept; assumption; apply keptO_next
  apply State.endHedJob_kept; apply State.setHed_kept; assumption

theorem execRuleClear_kept {Q : List Instr} (d : Submission) (s : State) (hG : Kept Q s) :
    KeptO Q (execRuleClear d s) := by
  unfold execRuleClear
  try beta_reduce
  apply keptO_next; apply CmdSpec.take_kept; assumption; apply specRuleClear_kept

theorem execRuleSwap_kept {Q : List Instr} (d : Submission) (s : State) (hG : Kept Q s) :
    KeptO Q (execRuleSwap d s) := by
  unfold execRuleSwap
  try beta_reduce
  apply keptO_next; apply CmdSpec.take_kept; assumption; apply specRuleSwap_kept

theorem execRuleSwapDeferred_kept {Q : List Instr} (s : State) (hG : Kept Q s) :
    KeptO Q (execRuleSwapDeferred s) := by
  unfold execRuleSwapDeferred
  try beta_reduce
  dsimp -zeta only; split; apply keptO_next; assumption; apply keptO_ite; apply keptO_next; assumption
  apply keptO_next; apply State.updPending_kept; apply State.finish_kept; apply kept_mk; apply kept_fold
  apply State.swapTo_kept; apply kept_mk; apply kept_fold; assumption

theorem execRuleWrite_kept {Q : List Instr} (d : Submission) (s : State) (hG : Kept Q s) :
    KeptO Q (execRuleWrite d s) := by
  unfold execRuleWrite
  try beta_reduce
  apply keptO_next; apply CmdSpec.take_kept; assumption; apply specRuleWrite_kept

theorem execRuleWriteDone_kept {Q : List Instr} (s : State) (hG : Kept Q s) :
    KeptO Q (execRuleWriteDone s) := by
  unfold execRuleWriteDone
  try beta_reduce
  split; apply keptO_next; assumption; apply keptO_next; apply State.when_kept; assumption
  apply State.writeLast_kept

end Sys2Proof.Machine
end

