-- ==== Sys2Proof/Laws/KeptMac.lean ====
section
/-! SUPPORT. The operations of Machine/Mac.lean keep the queue, the register file and the forwarding database. -/

namespace Sys2Proof.Machine

open Sys2Proof

set_option linter.unusedTactic false

theorem State.hostRead_kept {Q : List Instr} (id : Nat) (d : Submission) (s : State) (hG : Kept Q s) :
    Kept Q (State.hostRead id d s) := by
  unfold State.hostRead
  try beta_reduce
  apply kept_ite; apply State.endFrame_kept; apply State.place_kept; apply State.modFrame_kept; assumption
  apply kept_ite; apply State.endFrame_kept; apply State.traffic_kept; apply State.traffic_kept
  apply State.place_kept; apply State.modFrame_kept; assumption; apply State.traffic_kept; apply State.traffic_kept
  apply State.place_kept; apply State.modFrame_kept; assumption

theorem State.acceptTx_kept {Q : List Instr} (d : Submission) (acc : Nat) (s : State) (hG : Kept Q s) :
    Kept Q (State.acceptTx d acc s) := by
  unfold State.acceptTx
  try beta_reduce
  apply kept_ite; apply State.endFrame_kept; apply State.modFrame_kept; apply State.addFrame_kept
  apply State.enter_kept; apply kept_mk; apply kept_fold; assumption; apply kept_ite; apply State.hostRead_kept
  apply State.addFrame_kept; apply State.enter_kept; apply kept_mk; apply kept_fold; assumption
  apply State.addFrame_kept; apply State.enter_kept; apply kept_mk; apply kept_fold; assumption

theorem specTxFrame_kept {Q : List Instr} (c : Cmd) (s : State) (hG : Kept Q s) :
    Kept Q (specTxFrame.act c s).1 := by
  unfold specTxFrame
  try beta_reduce
  assumption

theorem State.txFrame_kept {Q : List Instr} (d : Submission) (s : State) (hG : Kept Q s) :
    Kept Q (State.txFrame d s) := by
  unfold State.txFrame
  try beta_reduce
  apply kept_ite; apply kept_ite; apply State.completeCmd_kept; apply State.refusalErr_kept
  apply State.fetched_kept; assumption; apply State.updHeld_kept; apply State.acceptTx_kept
  apply State.fetched_kept; assumption; assumption

theorem State.macKeep_kept {Q : List Instr} (p b : Nat) (s : State) (hG : Kept Q s) :
    Kept Q (State.macKeep p b s) := by
  unfold State.macKeep
  try beta_reduce
  apply kept_mk; apply kept_fold; assumption

theorem specFilterSet_kept {Q : List Instr} (c : Cmd) (s : State) (hG : Kept Q s) :
    Kept Q (specFilterSet.act c s).1 := by
  unfold specFilterSet
  try beta_reduce
  apply State.forEach_kept; apply State.macKeep_kept; assumption; intro _ _ _; try beta_reduce
  apply State.wrWords_kept; assumption

theorem State.holdClass_kept {Q : List Instr} (p c q : Nat) (s : State) (hG : Kept Q s) :
    Kept Q (State.holdClass p c q s) := by
  unfold State.holdClass
  try beta_reduce
  apply kept_ite; apply State.stop_kept; apply State.set_kept; assumption; apply State.start_kept
  apply State.set_kept; apply kept_mk; apply kept_fold; assumption

theorem State.clearHolds_kept {Q : List Instr} (p : Nat) (s : State) (hG : Kept Q s) :
    Kept Q (State.clearHolds p s) := by
  unfold State.clearHolds
  try beta_reduce
  apply State.forEach_kept; assumption; intro _ _ _; try beta_reduce; apply State.holdClass_kept; assumption

theorem State.sendCtl_kept {Q : List Instr} (p t : Nat) (s : State) (hG : Kept Q s) :
    Kept Q (State.sendCtl p t s) := by
  unfold State.sendCtl
  try beta_reduce
  split; apply kept_mk; apply kept_fold; assumption; apply kept_mk; apply kept_fold; assumption; assumption

theorem State.sendHold_kept {Q : List Instr} (p : Nat) (s : State) (hG : Kept Q s) :
    Kept Q (State.sendHold p s) := by
  unfold State.sendHold
  try beta_reduce
  apply kept_ite; assumption; apply State.start_kept; apply State.set_kept; apply State.sendCtl_kept; assumption

theorem State.sendRelease_kept {Q : List Instr} (p : Nat) (s : State) (hG : Kept Q s) :
    Kept Q (State.sendRelease p s) := by
  unfold State.sendRelease
  try beta_reduce
  apply kept_ite; assumption; apply State.stop_kept; apply State.set_kept; apply State.sendCtl_kept; assumption

theorem specPortConfigure_kept {Q : List Instr} (c : Cmd) (s : State) (hG : Kept Q s) :
    Kept Q (specPortConfigure.act c s).1 := by
  unfold specPortConfigure
  try beta_reduce
  apply State.when_kept; apply State.putRegs_kept; apply State.macKeep_kept; apply State.when_kept; assumption
  intro _ _; try beta_reduce; apply State.sendRelease_kept; apply State.clearHolds_kept; assumption
  apply State.sendHold_kept

theorem specPortVlan_kept {Q : List Instr} (c : Cmd) (s : State) (hG : Kept Q s) :
    Kept Q (specPortVlan.act c s).1 := by
  unfold specPortVlan
  try beta_reduce
  apply State.wrWords_kept; assumption

theorem State.resetPort_kept {Q : List Instr} (p : Nat) (s : State) (hG : Kept Q s) :
    Kept Q (State.resetPort p s) := by
  unfold State.resetPort
  try beta_reduce
  apply State.start_kept; apply kept_mk; apply kept_fold; apply State.endFrames_kept; apply State.forEach_kept
  apply State.clearHolds_kept; apply State.bobbinShow_kept; apply State.bump_kept; apply kept_mk; apply kept_fold
  assumption; intro _ _ _; try beta_reduce; apply kept_ite; apply State.endFrame_kept; assumption
  apply State.dropFrame_kept; assumption

theorem State.shedMissed_kept {Q : List Instr} (id p : Nat) (s : State) (hG : Kept Q s) :
    Kept Q (State.shedMissed id p s) := by
  unfold State.shedMissed
  try beta_reduce
  apply State.raise_kept; apply State.endFrame_kept; assumption

theorem State.pruneFrom_kept {Q : List Instr} (p x1 : Nat) (x2 : State) (hG : Kept Q x2) :
    Kept Q (State.pruneFrom p x1 x2) := by
  induction x1 generalizing p x2 hG
  on_goal 2 => rename_i k ih
  all_goals unfold State.pruneFrom
  assumption; lift_lets -underBinder; intro x; clear_value x; split; apply ih; apply State.shedMissed_kept
  assumption; assumption

theorem State.pruneShed_kept {Q : List Instr} (p : Nat) (s : State) (hG : Kept Q s) :
    Kept Q (State.pruneShed p s) := by
  unfold State.pruneShed
  try beta_reduce
  apply State.pruneFrom_kept; assumption

theorem specShedSet_kept {Q : List Instr} (c : Cmd) (s : State) (hG : Kept Q s) :
    Kept Q (specShedSet.act c s).1 := by
  unfold specShedSet
  try beta_reduce
  apply State.pruneShed_kept; apply State.updShed_kept; apply kept_mk; apply kept_fold; assumption

theorem State.control_kept {Q : List Instr} (p e : Nat) (l : List Byte) (s : State) (hG : Kept Q s) :
    Kept Q (State.control p e l s) := by
  unfold State.control
  try beta_reduce
  lift_lets -underBinder; intro x; clear_value x; split; apply State.raise_kept; apply State.holdClass_kept
  apply State.traffic_kept; assumption; apply State.raise_kept; apply State.forEach_kept; apply State.traffic_kept
  assumption; intro _ _ _; try beta_reduce; apply State.holdClass_kept; assumption; apply State.traffic_kept
  assumption

theorem State.endPortResets_kept {Q : List Instr} (s : State) (hG : Kept Q s) :
    Kept Q (State.endPortResets s) := by
  unfold State.endPortResets
  try beta_reduce
  apply State.forEach_kept; assumption; intro _ _ _; try beta_reduce; apply kept_ite; apply State.sendHold_kept
  apply State.stop_kept; apply kept_mk; apply kept_fold; assumption; apply State.stop_kept
  apply kept_mk; apply kept_fold; assumption

theorem State.enterLate_kept {Q : List Instr} (f : Frame) (s : State) (hG : Kept Q s) :
    Kept Q (State.enterLate f s) := by
  unfold State.enterLate
  try beta_reduce
  apply kept_ite; assumption; apply State.enter_kept; assumption

theorem State.rxBad_kept {Q : List Instr} (id : Nat) (f : Frame) (l : List Byte) (fate : Nat) (s : State) (hG : Kept Q s) :
    Kept Q (State.rxBad id f l fate s) := by
  unfold State.rxBad
  try beta_reduce
  apply kept_ite; apply State.modFrame_kept; apply kept_ite; apply State.traffic_kept; apply State.raise_kept
  apply State.enterLate_kept; assumption; apply State.enterLate_kept; assumption; apply State.endFrame_kept
  apply kept_ite; apply State.traffic_kept; apply State.raise_kept; apply State.enterLate_kept; assumption
  apply State.enterLate_kept; assumption

theorem State.rxGood_kept {Q : List Instr} (id : Nat) (f : Frame) (l : List Byte) (v : RxVerdict) (s : State) (hG : Kept Q s) :
    Kept Q (State.rxGood id f l v s) := by
  unfold State.rxGood
  try beta_reduce
  apply kept_ite; apply State.updHeld_kept; apply State.place_kept; apply kept_ite; apply State.ringCopy_kept
  apply kept_mk; apply kept_fold; assumption; apply kept_mk; apply kept_fold; assumption; apply State.settle_kept
  apply kept_ite; apply State.ringCopy_kept; apply kept_mk; apply kept_fold; assumption
  apply kept_mk; apply kept_fold; assumption

theorem State.lastByte_kept {Q : List Instr} (p : Nat) (l : List Byte) (pcs : Bool) (s : State) (hG : Kept Q s) :
    Kept Q (State.lastByte p l pcs s) := by
  unfold State.lastByte
  try beta_reduce
  lift_lets -underBinder; intro x; clear_value x
  intro x; refine (fun (hx : Kept Q x) => ?_) ?_ <;> [clear_value x; subst x]; split; assumption; apply kept_ite
  apply kept_ite; apply State.dropFrame_kept; assumption; apply State.endFrame_kept; apply State.enterLate_kept
  assumption; apply kept_ite; apply State.rxBad_kept; assumption; apply kept_ite; apply State.dropFrame_kept
  apply State.control_kept; assumption; apply kept_ite; apply State.dropFrame_kept; assumption
  lift_lets -underBinder; intro x; refine (fun (hx : Kept Q x) => ?_) ?_ <;> [clear_value x; subst x]; split
  apply State.endFrame_kept; assumption; apply kept_ite; apply State.rxGood_kept; assumption
  apply State.endFrame_kept; assumption; apply State.traffic_kept; apply State.traffic_kept
  apply State.enterLate_kept; assumption; apply kept_ite; apply kept_mk; apply kept_fold; assumption; assumption

theorem State.launchUnread_kept {Q : List Instr} (id : Nat) (c : Cmd) (s : State) (hG : Kept Q s) :
    Kept Q (State.launchUnread id c s) := by
  unfold State.launchUnread
  try beta_reduce
  apply State.updHeld_kept; apply State.completeCmd_kept; apply State.hifErr_kept; apply kept_mk; apply kept_fold
  apply State.dropFrame_kept; apply kept_mk; apply kept_fold; assumption

theorem execBobbinDrain_kept {Q : List Instr} (r p : Nat) (s : State) (hG : Kept Q s) :
    KeptO Q (execBobbinDrain r p s) := by
  unfold execBobbinDrain
  try beta_reduce
  lift_lets -underBinder; intro x; clear_value x; split; apply keptO_next; assumption; apply keptO_ite
  apply keptO_next; apply State.complete_kept; apply State.bobbinShow_kept; apply kept_mk; apply kept_fold
  assumption; apply keptO_next; assumption

theorem execControlFrameReceive_kept {Q : List Instr} (p : Nat) (l : List Byte) (s : State) (hG : Kept Q s) :
    KeptO Q (execControlFrameReceive p l s) := by
  unfold execControlFrameReceive
  try beta_reduce
  apply keptO_next; apply State.updHeld_kept; apply State.lastByte_kept; assumption

theorem execFilterSet_kept {Q : List Instr} (d : Submission) (s : State) (hG : Kept Q s) :
    KeptO Q (execFilterSet d s) := by
  unfold execFilterSet
  try beta_reduce
  apply keptO_next; apply CmdSpec.take_kept; assumption; apply specFilterSet_kept

theorem execFrameFirstByte_kept {Q : List Instr} (p tm n : Nat) (ctl : Bool) (s : State) (hG : Kept Q s) :
    KeptO Q (execFrameFirstByte p tm n ctl s) := by
  unfold execFrameFirstByte
  try beta_reduce
  apply keptO_ite; apply keptO_next; assumption; apply keptO_next; apply State.addFrame_kept; apply State.when_kept
  assumption; apply State.enter_kept

theorem execFrameLastByte_kept {Q : List Instr} (p : Nat) (l : List Byte) (pcs : Bool) (s : State) (hG : Kept Q s) :
    KeptO Q (execFrameLastByte p l pcs s) := by
  unfold execFrameLastByte
  try beta_reduce
  apply keptO_next; apply State.updHeld_kept; apply State.lastByte_kept; assumption

theorem execHeadDispatch_kept {Q : List Instr} (n id : Nat) (l : List Byte) (noRoom : Nat) (s : State) (hG : Kept Q s) :
    KeptO Q (execHeadDispatch n id l noRoom s) := by
  unfold execHeadDispatch
  try beta_reduce
  split; apply keptO_ite; apply keptO_next; assumption; apply keptO_ite; apply keptO_next; apply State.dispatch_kept
  assumption; apply keptO_ite; apply keptO_ite; apply keptO_next; assumption; apply keptO_next
  apply State.dispatch_kept; apply kept_mk; apply kept_fold; assumption; apply keptO_next; assumption
  apply keptO_next; assumption

theorem execLaunchFetch_kept {Q : List Instr} (id : Nat) (s : State) (hG : Kept Q s) :
    KeptO Q (execLaunchFetch id s) := by
  unfold execLaunchFetch
  try beta_reduce
  split; split; apply keptO_ite; apply keptO_next; assumption; lift_lets -underBinder; split; apply keptO_next
  apply kept_ite; apply State.launchUnread_kept; assumption; apply State.hostRead_kept; assumption; apply keptO_next
  assumption; apply keptO_next; assumption; apply keptO_next; assumption

theorem execPauseHoldExpiry_kept {Q : List Instr} (p c : Nat) (s : State) (hG : Kept Q s) :
    KeptO Q (execPauseHoldExpiry p c s) := by
  unfold execPauseHoldExpiry
  try beta_reduce
  apply keptO_ite; apply keptO_next; apply State.holdClass_kept; assumption; apply keptO_next; assumption

theorem execPauseRepeat_kept {Q : List Instr} (p : Nat) (s : State) (hG : Kept Q s) :
    KeptO Q (execPauseRepeat p s) := by
  unfold execPauseRepeat
  try beta_reduce
  apply keptO_ite; apply keptO_next; apply State.sendHold_kept; assumption; apply keptO_next; assumption

theorem execPortSetConfigure_kept {Q : List Instr} (d : Submission) (s : State) (hG : Kept Q s) :
    KeptO Q (execPortSetConfigure d s) := by
  unfold execPortSetConfigure
  try beta_reduce
  apply keptO_next; apply CmdSpec.take_kept; assumption; apply specPortConfigure_kept

theorem execPortSetVlanMember_kept {Q : List Instr} (d : Submission) (s : State) (hG : Kept Q s) :
    KeptO Q (execPortSetVlanMember d s) := by
  unfold execPortSetVlanMember
  try beta_reduce
  apply keptO_next; apply CmdSpec.take_kept; assumption; apply specPortVlan_kept

theorem execShedEntryChange_kept {Q : List Instr} (p : Nat) (s : State) (hG : Kept Q s) :
    KeptO Q (execShedEntryChange p s) := by
  unfold execShedEntryChange
  try beta_reduce
  apply keptO_next; apply State.updShed_kept; assumption

theorem execShedSetDisable_kept {Q : List Instr} (d : Submission) (s : State) (hG : Kept Q s) :
    KeptO Q (execShedSetDisable d s) := by
  unfold execShedSetDisable
  try beta_reduce
  apply keptO_next; apply CmdSpec.take_kept; assumption; apply specShedSet_kept

theorem execShedSetEnable_kept {Q : List Instr} (d : Submission) (s : State) (hG : Kept Q s) :
    KeptO Q (execShedSetEnable d s) := by
  unfold execShedSetEnable
  try beta_reduce
  apply keptO_next; apply CmdSpec.take_kept; assumption; apply specShedSet_kept

theorem execTxFrame_kept {Q : List Instr} (d : Submission) (s : State) (hG : Kept Q s) :
    KeptO Q (execTxFrame d s) := by
  unfold execTxFrame
  try beta_reduce
  apply keptO_next; apply State.txFrame_kept; assumption

end Sys2Proof.Machine
end

