-- ==== Sys2Proof/Laws/KeptLoom.lean ====
section
/-! SUPPORT. The operations of Machine/Loom.lean keep the queue, the register file and the forwarding database. -/

namespace Sys2Proof.Machine

open Sys2Proof

set_option linter.unusedTactic false

theorem State.unweave_kept {Q : List Instr} (w : Nat) (s : State) (hG : Kept Q s) :
    Kept Q (State.unweave w s) := by
  unfold State.unweave
  try beta_reduce
  apply State.forEach_kept; assumption; intro _ _ _; try beta_reduce; apply State.enqueue_kept
  apply State.modFrame_kept; assumption

theorem specMirrorGroup_kept {Q : List Instr} (c : Cmd) (s : State) (hG : Kept Q s) :
    Kept Q (specMirrorGroup.act c s).1 := by
  unfold specMirrorGroup
  try beta_reduce
  apply State.wrWords_kept; apply kept_mk; apply kept_fold; assumption

theorem specMirrorSession_kept {Q : List Instr} (c : Cmd) (s : State) (hG : Kept Q s) :
    Kept Q (specMirrorSession.act c s).1 := by
  unfold specMirrorSession
  try beta_reduce
  apply kept_ite; apply kept_mk; apply kept_fold; apply State.putRegs_kept; assumption; apply State.putRegs_kept
  assumption

theorem State.updReserved_kept {Q : List Instr} (s : State) (hG : Kept Q s) :
    Kept Q (State.updReserved s) := by
  unfold State.updReserved
  try beta_reduce
  apply State.set_kept; assumption

theorem picksAct_kept {Q : List Instr} (c : Cmd) (s : State) (hG : Kept Q s) :
    Kept Q (picksAct c s).1 := by
  unfold picksAct
  try beta_reduce
  apply kept_ite1; apply kept_ite1; assumption; apply State.updReserved_kept; apply State.wrWords_kept
  apply State.unweave_kept; assumption; apply kept_ite1; assumption; apply kept_ite1; assumption; apply kept_ite1
  assumption; apply State.updReserved_kept; apply State.wrWords_kept; assumption

theorem specPicks_kept {Q : List Instr} (c : Cmd) (s : State) (hG : Kept Q s) :
    Kept Q (specPicks.act c s).1 := by
  unfold specPicks
  try beta_reduce
  apply picksAct_kept; assumption

theorem State.resetNode_kept {Q : List Instr} (n : Nat) (s : State) (hG : Kept Q s) :
    Kept Q (State.resetNode n s) := by
  unfold State.resetNode
  try beta_reduce
  apply kept_ite; assumption; apply kept_mk; apply kept_fold; assumption

theorem State.chargeRation_kept {Q : List Instr} (f : Frame) (s : State) (hG : Kept Q s) :
    Kept Q (State.chargeRation f s) := by
  unfold State.chargeRation
  try beta_reduce
  split; apply kept_mk; apply kept_fold; assumption; assumption

theorem State.loomEvent_kept {Q : List Instr} (b node detail : Nat) (s : State) (hG : Kept Q s) :
    Kept Q (State.loomEvent b node detail s) := by
  unfold State.loomEvent
  try beta_reduce
  apply State.raiseD_kept; assumption

theorem State.checkHeadroom_kept {Q : List Instr} (n : Nat) (s : State) (hG : Kept Q s) :
    Kept Q (State.checkHeadroom n s) := by
  unfold State.checkHeadroom
  try beta_reduce
  apply kept_ite; apply State.loomEvent_kept; apply kept_mk; apply kept_fold; assumption; apply kept_ite
  apply kept_mk; apply kept_fold; assumption; assumption

theorem State.poisonFrame_kept {Q : List Instr} (id : Nat) (s : State) (hG : Kept Q s) :
    Kept Q (State.poisonFrame id s) := by
  unfold State.poisonFrame
  try beta_reduce
  split; assumption; apply kept_ite; apply State.modFrame_kept; assumption; apply State.endFrame_kept; assumption

theorem State.loomEcc_kept {Q : List Instr} (e : EccFind) (s : State) (hG : Kept Q s) :
    Kept Q (State.loomEcc e s) := by
  unfold State.loomEcc
  try beta_reduce
  apply kept_ite; apply State.loomEvent_kept; assumption; apply State.poisonFrame_kept; apply State.loomEvent_kept
  apply State.set_kept; apply State.set_kept; apply State.set_kept; assumption

theorem State.expandGroup_kept {Q : List Instr} (id : Nat) (f : Frame) (g : Nat) (s : State) (hG : Kept Q s) :
    Kept Q (State.expandGroup id f g s) := by
  unfold State.expandGroup
  try beta_reduce
  lift_lets -underBinder; intro x; clear_value x; intro x; clear_value x; split; apply State.endFrame_kept
  assumption; apply kept_ite; apply State.endFrame_kept; assumption; apply State.forEach_kept
  apply State.modFrame_kept; apply State.forEach_kept; assumption; intro _ _ _; try beta_reduce
  apply State.madeCopy_kept; assumption; intro _ _ _; try beta_reduce; apply kept_mk; apply kept_fold; assumption

theorem State.expandGroups_kept {Q : List Instr} (n : Nat) (s : State) (hG : Kept Q s) :
    Kept Q (State.expandGroups n s) := by
  unfold State.expandGroups
  try beta_reduce
  apply State.forEach_kept; assumption; intro _ _ _; try beta_reduce; split; apply State.expandGroup_kept
  assumption; assumption

theorem State.sendSeg_kept {Q : List Instr} (id b : Nat) (s : State) (hG : Kept Q s) :
    Kept Q (State.sendSeg id b s) := by
  unfold State.sendSeg
  try beta_reduce
  lift_lets -underBinder; intro x; refine (fun (hx : Kept Q x) => ?_) ?_ <;> [clear_value x; subst x]; split
  apply kept_ite; lift_lets -underBinder; split; apply State.completeTx_kept; apply State.modFrame_kept; assumption
  assumption; assumption; assumption; apply State.modFrame_kept; assumption

theorem State.takeRow_kept {Q : List Instr} (n : Nat) (f : Frame) (s : State) (hG : Kept Q s) :
    Kept Q (State.takeRow n f s) := by
  unfold State.takeRow
  try beta_reduce
  apply kept_ite; apply kept_mk; apply kept_fold; assumption; apply kept_mk; apply kept_fold; assumption

theorem State.startFrame_kept {Q : List Instr} (n : Nat) (f : Frame) (s : State) (hG : Kept Q s) :
    Kept Q (State.startFrame n f s) := by
  unfold State.startFrame
  try beta_reduce
  apply kept_mk; apply kept_fold; apply kept_mk; apply kept_fold; apply State.chargeRation_kept
  apply State.takeRow_kept; assumption

theorem State.fillShuttle_kept {Q : List Instr} (n j d choice x4 x5 : Nat) (x6 : List (Nat × Nat)) (x7 : State) (hG : Kept Q x7) :
    Kept Q (State.fillShuttle n j d choice x4 x5 x6 x7).2 := by
  induction x4 generalizing n j d choice x5 x6 x7 hG
  on_goal 2 => rename_i k ih
  all_goals unfold State.fillShuttle
  assumption; apply kept_ite2; assumption; lift_lets -underBinder; split; assumption; apply kept_ite2; assumption
  apply kept_ite2; apply State.sendSeg_kept; apply State.startFrame_kept; assumption; apply ih
  apply State.sendSeg_kept; apply State.startFrame_kept; assumption

theorem State.frerGenerate_kept {Q : List Instr} (id : Nat) (f : Frame) (s : State) (hG : Kept Q s) :
    Kept Q (State.frerGenerate id f s) := by
  unfold State.frerGenerate
  try beta_reduce
  split; assumption; apply kept_ite; assumption; apply kept_ite; apply State.modFrame_kept; apply State.raise_kept
  assumption; apply State.modFrame_kept; apply State.count_kept; apply State.set_kept; assumption

theorem State.haltInner_kept {Q : List Instr} (p : Nat) (full calm : Bool) (s : State) (hG : Kept Q s) :
    Kept Q (State.haltInner p full calm s) := by
  unfold State.haltInner
  try beta_reduce
  apply kept_ite; apply kept_mk; apply kept_fold; assumption; apply kept_ite; apply kept_mk; apply kept_fold
  assumption; assumption

theorem State.haltPort_kept {Q : List Instr} (p : Nat) (full calm : Bool) (s : State) (hG : Kept Q s) :
    Kept Q (State.haltPort p full calm s) := by
  unfold State.haltPort
  try beta_reduce
  apply kept_ite; apply State.sendHold_kept; apply State.setB_kept; apply State.setB_kept; apply State.set_kept
  assumption; apply kept_ite; apply State.sendRelease_kept; apply State.setB_kept; apply State.setB_kept
  apply State.set_kept; assumption; apply State.setB_kept; apply State.setB_kept; apply State.set_kept; assumption

theorem State.joinSeg_kept {Q : List Instr} (id b : Nat) (s : State) (hG : Kept Q s) :
    Kept Q (State.joinSeg id b s) := by
  unfold State.joinSeg
  try beta_reduce
  lift_lets -underBinder; intro x; refine (fun (hx : Kept Q x) => ?_) ?_ <;> [clear_value x; subst x]; split
  assumption; apply kept_ite; apply State.modFrame_kept; apply State.place_kept; assumption; assumption
  apply State.modFrame_kept; assumption

theorem State.launchShuttle_kept {Q : List Instr} (sh : Shuttle) (s : State) (hG : Kept Q s) :
    Kept Q (State.launchShuttle sh s) := by
  unfold State.launchShuttle
  try beta_reduce
  apply kept_mk; apply kept_fold; assumption

theorem State.reedRelease_kept {Q : List Instr} (n d x2 : Nat) (x3 : State) (hG : Kept Q x3) :
    Kept Q (State.reedRelease n d x2 x3) := by
  induction x2 generalizing n d x3 hG
  on_goal 2 => rename_i k ih
  all_goals unfold State.reedRelease
  assumption; split; assumption; apply kept_ite; assumption; apply ih; apply State.forEach_kept
  apply kept_mk; apply kept_fold; assumption; intro _ _ _; try beta_reduce; apply kept_ite
  apply State.poisonFrame_kept; assumption; apply State.joinSeg_kept; assumption

theorem State.wovenRef_kept {Q : List Instr} (w node tin : Nat) (s : State) (hG : Kept Q s) :
    Kept Q (State.wovenRef w node tin s).2 := by
  unfold State.wovenRef
  extract_lets x phi anchor n t d
  have ha : Kept Q (anchor s) := State.set_kept _ _ _ (State.set_kept _ _ _ hG)
  by_cases h1 : s.get (F.LOOM_WOVEN_STATE w) ≠ 2
  · rw [if_pos h1]
    exact ha
  · rw [if_neg h1]
    by_cases h2 : d > 20 * ns
    · rw [if_pos h2]
      exact State.loomEvent_kept _ _ _ _ ha
    · rw [if_neg h2]
      exact hG

theorem State.releaseWoven_kept {Q : List Instr} (id w : Nat) (f : Frame) (s : State) (hG : Kept Q s) :
    Kept Q (State.releaseWoven id w f s) := by
  unfold State.releaseWoven
  try beta_reduce
  apply kept_ite; apply State.enqueue_kept; assumption; apply kept_ite; apply State.enqueue_kept
  apply State.loomEvent_kept; assumption; apply kept_ite; apply State.enqueue_kept; apply State.loomEvent_kept
  assumption; dsimp -zeta only; split; apply kept_ite; apply State.modFrame_kept; apply State.place_kept
  apply State.wovenRef_kept; assumption; apply State.enqueue_kept; apply State.loomEvent_kept
  apply State.wovenRef_kept; assumption; apply State.enqueue_kept; apply State.loomEvent_kept
  apply State.wovenRef_kept; assumption

theorem State.sendAlone_kept {Q : List Instr} (n j pick id arrived : Nat) (f : Frame) (s : State) (hG : Kept Q s) :
    Kept Q (State.sendAlone n j pick id arrived f s) := by
  unfold State.sendAlone
  try beta_reduce
  apply State.launchShuttle_kept; apply State.sendSeg_kept; apply State.modFrame_kept; apply kept_ite
  apply State.startFrame_kept; assumption; assumption

theorem State.sendShuttle_kept {Q : List Instr} (n j d pick choice : Nat) (cont : Option (Nat × Frame)) (s : State) (hG : Kept Q s) :
    Kept Q (State.sendShuttle n j d pick choice cont s) := by
  unfold State.sendShuttle
  try beta_reduce
  with_reducible apply State.launchShuttle_kept; with_reducible apply State.fillShuttle_kept; lift_lets -underBinder
  split; with_reducible apply State.sendSeg_kept; with_reducible assumption; with_reducible assumption

theorem State.usePick_kept {Q : List Instr} (warp : Bool) (n p : Nat) (s : State) (hG : Kept Q s) :
    Kept Q (State.usePick warp n p s) := by
  unfold State.usePick
  try beta_reduce
  apply kept_mk; apply kept_fold; assumption

theorem execAgeLimitExpiry_kept {Q : List Instr} (id : Nat) (s : State) (hG : Kept Q s) :
    KeptO Q (execAgeLimitExpiry id s) := by
  unfold execAgeLimitExpiry
  try beta_reduce
  split; apply keptO_ite; apply keptO_next; apply State.endFrame_kept; assumption; apply keptO_next; assumption
  apply keptO_next; assumption

theorem execBeamRelease_kept {Q : List Instr} (q : Nat) (s : State) (hG : Kept Q s) :
    KeptO Q (execBeamRelease q s) := by
  unfold execBeamRelease
  try beta_reduce
  split; apply keptO_next; assumption; lift_lets -underBinder
  intro x; refine (fun (hx : Kept Q x) => ?_) ?_ <;> [clear_value x; subst x]; split; apply keptO_next
  apply State.releaseWoven_kept; assumption; apply keptO_next; apply State.enqueue_kept; assumption
  apply State.frerGenerate_kept; assumption

theorem execHalterEvaluate_kept {Q : List Instr} (s : State) (hG : Kept Q s) :
    KeptO Q (execHalterEvaluate s) := by
  unfold execHalterEvaluate
  try beta_reduce
  apply keptO_next; apply State.when_kept; assumption; intro _ _; try beta_reduce; apply State.forEach_kept
  apply State.cycleMade_kept; assumption; intro _ _ _; try beta_reduce; apply State.forEach_kept
  apply State.checkHeadroom_kept; assumption; intro _ _ _; try beta_reduce; split; apply State.haltPort_kept
  assumption; apply State.haltInner_kept; assumption

theorem execHayloftFetch_kept {Q : List Instr} (id : Nat) (bad : Bool) (stack word : Nat) (s : State) (hG : Kept Q s) :
    KeptO Q (execHayloftFetch id bad stack word s) := by
  unfold execHayloftFetch
  try beta_reduce
  split; apply keptO_ite; apply keptO_ite; apply keptO_next; apply State.endFrame_kept; apply State.loomEvent_kept
  apply State.set_kept; apply State.set_kept; apply State.set_kept; apply State.updHayloft_kept
  apply State.modFrame_kept; assumption; apply keptO_ite; apply keptO_next; apply State.endFrame_kept
  apply State.updHayloft_kept; apply State.modFrame_kept; assumption; apply keptO_next; apply State.updHayloft_kept
  apply State.modFrame_kept; assumption; apply keptO_next; assumption; apply keptO_next; assumption

theorem execHayloftSpill_kept {Q : List Instr} (id : Nat) (s : State) (hG : Kept Q s) :
    KeptO Q (execHayloftSpill id s) := by
  unfold execHayloftSpill
  try beta_reduce
  split; apply keptO_ite; apply keptO_next; apply State.updHayloft_kept; apply State.modFrame_kept; assumption
  apply keptO_next; assumption; apply keptO_next; assumption

theorem execHayloftStackFail_kept {Q : List Instr} (k : Nat) (s : State) (hG : Kept Q s) :
    KeptO Q (execHayloftStackFail k s) := by
  unfold execHayloftStackFail
  try beta_reduce
  apply keptO_next; apply State.loomEvent_kept; apply kept_mk; apply kept_fold; apply State.set_kept
  apply State.set_kept; assumption

theorem execMcastCopyTimeout_kept {Q : List Instr} (id : Nat) (s : State) (hG : Kept Q s) :
    KeptO Q (execMcastCopyTimeout id s) := by
  unfold execMcastCopyTimeout
  try beta_reduce
  lift_lets -underBinder; intro x; clear_value x; split; apply keptO_ite; apply keptO_next
  apply State.endFrame_kept; assumption; apply keptO_next; assumption; apply keptO_next; assumption

theorem execMirrorSetGroup_kept {Q : List Instr} (d : Submission) (s : State) (hG : Kept Q s) :
    KeptO Q (execMirrorSetGroup d s) := by
  unfold execMirrorSetGroup
  try beta_reduce
  apply keptO_next; apply CmdSpec.take_kept; assumption; apply specMirrorGroup_kept

theorem execMirrorSetSession_kept {Q : List Instr} (d : Submission) (s : State) (hG : Kept Q s) :
    KeptO Q (execMirrorSetSession d s) := by
  unfold execMirrorSetSession
  try beta_reduce
  apply keptO_next; apply CmdSpec.take_kept; assumption; apply specMirrorSession_kept

theorem execNodeDrainDone_kept {Q : List Instr} (n : Nat) (s : State) (hG : Kept Q s) :
    KeptO Q (execNodeDrainDone n s) := by
  unfold execNodeDrainDone
  try beta_reduce
  apply keptO_ite; apply keptO_next; assumption; apply keptO_next; apply State.updHeld_kept; apply State.finish_kept
  apply kept_mk; apply kept_fold; apply kept_mk; apply kept_fold; apply State.endFrames_kept
  apply State.forEach_kept; assumption; intro _ _ _; try beta_reduce; apply State.endFrame_kept
  apply State.enterLate_kept; assumption

theorem execPicksRelease_kept {Q : List Instr} (d : Submission) (s : State) (hG : Kept Q s) :
    KeptO Q (execPicksRelease d s) := by
  unfold execPicksRelease
  try beta_reduce
  apply keptO_next; apply CmdSpec.take_kept; assumption; apply specPicks_kept

theorem execPicksReserve_kept {Q : List Instr} (d : Submission) (s : State) (hG : Kept Q s) :
    KeptO Q (execPicksReserve d s) := by
  unfold execPicksReserve
  try beta_reduce
  apply keptO_next; apply CmdSpec.take_kept; assumption; apply specPicks_kept

theorem execReedArrival_kept {Q : List Instr} (n d seq ecc word : Nat) (s : State) (hG : Kept Q s) :
    KeptO Q (execReedArrival n d seq ecc word s) := by
  unfold execReedArrival
  try beta_reduce
  split; apply keptO_next; assumption; apply keptO_ite; apply keptO_next; apply State.forEach_kept
  apply State.loomEvent_kept; apply kept_mk; apply kept_fold; apply kept_ite; assumption; apply State.loomEvent_kept
  apply State.set_kept; apply State.set_kept; apply State.set_kept; assumption; intro _ _ _; try beta_reduce
  apply State.poisonFrame_kept; assumption; apply keptO_next; apply State.reedRelease_kept
  apply kept_mk; apply kept_fold; apply kept_ite; assumption; apply State.loomEvent_kept; apply State.set_kept
  apply State.set_kept; apply State.set_kept; assumption

theorem execReleaseReport_kept {Q : List Instr} (n d : Nat) (s : State) (hG : Kept Q s) :
    KeptO Q (execReleaseReport n d s) := by
  unfold execReleaseReport
  try beta_reduce
  apply keptO_next; apply kept_mk; apply kept_fold; apply kept_ite; assumption; apply kept_mk; apply kept_fold
  assumption

theorem execWarpSend_kept {Q : List Instr} (n p choice arrived : Nat) (s : State) (hG : Kept Q s) :
    KeptO Q (execWarpSend n p choice arrived s) := by
  unfold execWarpSend
  try beta_reduce
  apply keptO_ite; apply keptO_next; assumption; lift_lets -underBinder
  intro x; refine (fun (hx : Kept Q x) => ?_) ?_ <;> [clear_value x; subst x]; intro x; clear_value x; split
  apply keptO_next; apply State.sendAlone_kept; assumption; lift_lets -underBinder; intro x; clear_value x; split
  apply keptO_ite; apply keptO_next; apply State.sendAlone_kept; assumption; apply keptO_next
  apply State.sendShuttle_kept; assumption; split; apply keptO_ite; apply keptO_next; apply State.sendAlone_kept
  assumption; apply keptO_next; apply State.sendShuttle_kept; assumption; apply keptO_next; assumption
  apply State.usePick_kept; apply State.expandGroups_kept; assumption

theorem execWeftSend_kept {Q : List Instr} (j p : Nat) (s : State) (hG : Kept Q s) :
    KeptO Q (execWeftSend j p s) := by
  unfold execWeftSend
  try beta_reduce
  apply keptO_ite; apply keptO_next; assumption; lift_lets -underBinder; split; apply keptO_next; assumption
  apply keptO_next; apply kept_mk; apply kept_fold; apply State.usePick_kept; assumption

end Sys2Proof.Machine
end

