-- ==== Sys2Proof/Laws/KeptClock.lean ====
section
/-! SUPPORT. The operations of Machine/Clock.lean keep the queue, the register file and the forwarding database. -/

namespace Sys2Proof.Machine

open Sys2Proof

set_option linter.unusedTactic false

theorem State.treadleAt_kept {Q : List Instr} (t k : Nat) (d : Trd) (s : State) (hG : Kept Q s) :
    Kept Q (State.treadleAt t k d s) := by
  unfold State.treadleAt
  try beta_reduce
  apply kept_mk; apply kept_fold; assumption

theorem State.treadleMiss_kept {Q : List Instr} (t n : Nat) (s : State) (hG : Kept Q s) :
    Kept Q (State.treadleMiss t n s) := by
  unfold State.treadleMiss
  try beta_reduce
  apply State.raise_kept; apply State.bump_kept; assumption

theorem State.treadleSkip_kept {Q : List Instr} (x : Int) (t : Nat) (s : State) (hG : Kept Q s) :
    Kept Q (State.treadleSkip x t s) := by
  unfold State.treadleSkip
  try beta_reduce
  split; assumption; apply State.when_kept; assumption; intro _ _; try beta_reduce; apply State.treadleAt_kept
  apply State.treadleMiss_kept; assumption

theorem State.moveTime_kept {Q : List Instr} (d : Int) (s : State) (hG : Kept Q s) :
    Kept Q (State.moveTime d s) := by
  unfold State.moveTime
  try beta_reduce
  apply State.forEach_kept; apply kept_mk; apply kept_fold; apply State.when_kept; apply kept_mk; apply kept_fold
  assumption; intro _ _; try beta_reduce; apply State.forEach_kept; assumption; apply State.treadleSkip_kept
  intro _ _ _; try beta_reduce; apply State.updShed_kept; assumption

theorem State.firstSet_kept {Q : List Instr} (v : Int) (s : State) (hG : Kept Q s) :
    Kept Q (State.firstSet v s) := by
  unfold State.firstSet
  try beta_reduce
  apply State.raise_kept; apply kept_mk; apply kept_fold; apply State.moveTime_kept; assumption

theorem State.stepTime_kept {Q : List Instr} (d : Int) (s : State) (hG : Kept Q s) :
    Kept Q (State.stepTime d s) := by
  unfold State.stepTime
  try beta_reduce
  apply State.raise_kept; apply State.moveTime_kept; assumption

theorem State.showSource_kept {Q : List Instr} (s : State) (hG : Kept Q s) :
    Kept Q (State.showSource s) := by
  unfold State.showSource
  try beta_reduce
  apply State.set_kept; apply State.set_kept; assumption

theorem State.updClockQual_kept {Q : List Instr} (s : State) (hG : Kept Q s) :
    Kept Q (State.updClockQual s) := by
  unfold State.updClockQual
  try beta_reduce
  apply State.set_kept; apply State.set_kept; apply State.set_kept; assumption

theorem State.evalQuality_kept {Q : List Instr} (s : State) (hG : Kept Q s) :
    Kept Q (State.evalQuality s) := by
  unfold State.evalQuality
  try beta_reduce
  apply State.when_kept; apply State.updClockQual_kept; apply State.set_kept; assumption; apply State.raise_kept

theorem State.set48_kept {Q : List Instr} (lo hi : Nat) (v : Int) (s : State) (hG : Kept Q s) :
    Kept Q (State.set48 lo hi v s) := by
  unfold State.set48
  try beta_reduce
  apply State.set2_kept; assumption

theorem State.takeUtc_kept {Q : List Instr} (off : Nat) (l61 l59 valid : Bool) (s : State) (hG : Kept Q s) :
    Kept Q (State.takeUtc off l61 l59 valid s) := by
  unfold State.takeUtc
  try beta_reduce
  apply kept_ite; assumption; apply State.setB_kept; apply State.setB_kept; apply State.setB_kept
  apply State.set_kept; assumption

theorem State.modPtp_kept {Q : List Instr} (p : Nat) (f : PtpPort → PtpPort) (s : State) (hG : Kept Q s) :
    Kept Q (State.modPtp p f s) := by
  unfold State.modPtp
  try beta_reduce
  apply kept_mk; apply kept_fold; assumption

theorem execLeapApply_kept {Q : List Instr} (s : State) (hG : Kept Q s) :
    KeptO Q (execLeapApply s) := by
  unfold execLeapApply
  try beta_reduce
  apply keptO_ite; apply keptO_next; apply State.raise_kept; apply State.set_kept; apply State.setI_kept; assumption
  apply keptO_ite; apply keptO_next; apply State.raise_kept; apply State.set_kept; apply State.setI_kept; assumption
  apply keptO_next; assumption

theorem execQualityEvaluate_kept {Q : List Instr} (s : State) (hG : Kept Q s) :
    KeptO Q (execQualityEvaluate s) := by
  unfold execQualityEvaluate
  try beta_reduce
  apply keptO_ite; apply keptO_next; apply State.evalQuality_kept; apply State.evalMade_kept; assumption
  apply keptO_next; assumption

theorem execTreadleEdge_kept {Q : List Instr} (t : Nat) (s : State) (hG : Kept Q s) :
    KeptO Q (execTreadleEdge t s) := by
  unfold execTreadleEdge
  try beta_reduce
  split; apply keptO_next; assumption; apply keptO_ite; apply keptO_next; apply State.treadleAt_kept; apply kept_ite
  apply State.treadleMiss_kept; assumption; apply State.bump_kept; assumption; apply keptO_next; assumption

end Sys2Proof.Machine
end

