-- ==== Sys2Proof/Laws/KeptRefs.lean ====
section
/-! SUPPORT. The operations of Machine/Refs.lean keep the queue, the register file and the forwarding database. -/

namespace Sys2Proof.Machine

open Sys2Proof

set_option linter.unusedTactic false

theorem State.modSlot_kept {Q : List Instr} (r : Nat) (f : RefSlot → RefSlot) (s : State) (hG : Kept Q s) :
    Kept Q (State.modSlot r f s) := by
  unfold State.modSlot
  try beta_reduce
  apply kept_mk; apply kept_fold; assumption

theorem State.showSlot_kept {Q : List Instr} (r : Nat) (s : State) (hG : Kept Q s) :
    Kept Q (State.showSlot r s) := by
  unfold State.showSlot
  try beta_reduce
  apply State.setB_kept; apply State.set_kept; assumption

theorem State.slotTo_kept {Q : List Instr} (r st : Nat) (s : State) (hG : Kept Q s) :
    Kept Q (State.slotTo r st s) := by
  unfold State.slotTo
  try beta_reduce
  apply State.showSlot_kept; apply State.set_kept; apply State.set_kept; apply State.stop_kept; apply State.set_kept
  apply State.set_kept; assumption

theorem State.requalify_kept {Q : List Instr} (r : Nat) (s : State) (hG : Kept Q s) :
    Kept Q (State.requalify r s) := by
  unfold State.requalify
  try beta_reduce
  apply kept_ite; assumption; apply State.modSlot_kept; apply State.slotTo_kept; assumption

theorem State.newSource_kept {Q : List Instr} (r : Nat) (s : State) (hG : Kept Q s) :
    Kept Q (State.newSource r s) := by
  unfold State.newSource
  try beta_reduce
  apply State.modSlot_kept; assumption

theorem State.slotEnable_kept {Q : List Instr} (r : Nat) (s : State) (hG : Kept Q s) :
    Kept Q (State.slotEnable r s) := by
  unfold State.slotEnable
  try beta_reduce
  apply kept_ite; apply State.slotTo_kept; apply State.newSource_kept; assumption; apply kept_ite
  apply State.set_kept; apply State.set_kept; apply State.slotTo_kept; assumption; apply State.showSlot_kept
  assumption

theorem State.refEstimate_kept {Q : List Instr} (e : Int) (s : State) (hG : Kept Q s) :
    Kept Q (State.refEstimate e s) := by
  unfold State.refEstimate
  try beta_reduce
  apply State.modSlot_kept; apply State.start_kept; apply State.setI_kept; assumption

theorem State.refMark_kept {Q : List Instr} (r t m : Nat) (s : State) (hG : Kept Q s) :
    Kept Q (State.refMark r t m s) := by
  unfold State.refMark
  try beta_reduce
  apply State.modSlot_kept; assumption

theorem State.refEdge_kept {Q : List Instr} (r t n : Nat) (s : State) (hG : Kept Q s) :
    Kept Q (State.refEdge r t n s) := by
  unfold State.refEdge
  try beta_reduce
  apply State.modSlot_kept; assumption

theorem State.showLeft_kept {Q : List Instr} (r : Nat) (s : State) (hG : Kept Q s) :
    Kept Q (State.showLeft r s) := by
  unfold State.showLeft
  try beta_reduce
  split; apply State.set_kept; assumption; assumption

theorem State.slotFail_kept {Q : List Instr} (r cause : Nat) (s : State) (hG : Kept Q s) :
    Kept Q (State.slotFail r cause s) := by
  unfold State.slotFail
  try beta_reduce
  apply kept_ite; apply State.when_kept; apply State.set_kept; apply State.slotTo_kept; assumption
  apply State.raise_kept; assumption

theorem State.slotMeasure_kept {Q : List Instr} (r : Nat) (s : State) (hG : Kept Q s) :
    Kept Q (State.slotMeasure r s) := by
  unfold State.slotMeasure
  try beta_reduce
  apply kept_ite; apply State.raise_kept; apply State.modSlot_kept; apply State.setB_kept; apply State.setB_kept
  lift_lets -underBinder; split; apply State.modSlot_kept; apply State.setI_kept; apply State.modSlot_kept
  assumption; apply State.modSlot_kept; assumption; apply State.setB_kept; apply State.setB_kept
  lift_lets -underBinder; split; apply State.modSlot_kept; apply State.setI_kept; apply State.modSlot_kept
  assumption; apply State.modSlot_kept; assumption

theorem State.slotQualify_kept {Q : List Instr} (r : Nat) (s : State) (hG : Kept Q s) :
    Kept Q (State.slotQualify r s) := by
  unfold State.slotQualify
  try beta_reduce
  apply State.showSlot_kept; apply State.modSlot_kept; apply State.set_kept; apply State.slotTo_kept; assumption

theorem State.slotEvaluate_kept {Q : List Instr} (r : Nat) (s : State) (hG : Kept Q s) :
    Kept Q (State.slotEvaluate r s) := by
  unfold State.slotEvaluate
  try beta_reduce
  apply kept_ite; assumption; apply kept_ite; apply State.slotFail_kept; apply State.slotMeasure_kept; assumption
  apply kept_ite; apply State.slotFail_kept; apply State.slotMeasure_kept; assumption; apply kept_ite
  apply kept_ite; apply kept_ite; apply State.slotQualify_kept; apply State.slotMeasure_kept; assumption
  apply State.showLeft_kept; apply State.start_kept; apply State.set_kept; apply State.slotMeasure_kept; assumption
  apply State.slotMeasure_kept; assumption; apply kept_ite; apply kept_ite; apply State.showLeft_kept
  apply State.slotMeasure_kept; assumption; apply State.slotFail_kept; apply State.slotMeasure_kept; assumption
  apply kept_ite; apply State.slotFail_kept; apply State.slotMeasure_kept; assumption; apply State.showSlot_kept
  apply State.slotMeasure_kept; assumption

theorem State.slotSample_kept {Q : List Instr} (r : Nat) (valid : Bool) (s : State) (hG : Kept Q s) :
    Kept Q (State.slotSample r valid s) := by
  unfold State.slotSample
  try beta_reduce
  apply kept_ite; assumption; apply State.when_kept; apply State.setB_kept; assumption; apply State.slotFail_kept

theorem execQualTimerExpiry_kept {Q : List Instr} (r : Nat) (s : State) (hG : Kept Q s) :
    KeptO Q (execQualTimerExpiry r s) := by
  unfold execQualTimerExpiry
  try beta_reduce
  apply keptO_ite; apply keptO_ite; apply keptO_next; apply State.slotFail_kept; assumption; apply keptO_ite
  apply keptO_next; apply State.slotFail_kept; assumption; apply keptO_ite; apply keptO_next
  apply State.slotFail_kept; assumption; apply keptO_next; apply State.slotQualify_kept; assumption
  apply keptO_next; assumption

theorem execRef13EstimateTimeout_kept {Q : List Instr} (s : State) (hG : Kept Q s) :
    KeptO Q (execRef13EstimateTimeout s) := by
  unfold execRef13EstimateTimeout
  try beta_reduce
  apply keptO_ite; apply keptO_next; apply State.slotSample_kept; assumption; apply keptO_next; assumption

theorem execRefActivityLoss_kept {Q : List Instr} (r : Nat) (valid : Bool) (s : State) (hG : Kept Q s) :
    KeptO Q (execRefActivityLoss r valid s) := by
  unfold execRefActivityLoss
  try beta_reduce
  apply keptO_ite; apply keptO_next; apply State.slotSample_kept; assumption; apply keptO_next; assumption

theorem execRefMonitorEvaluate_kept {Q : List Instr} (s : State) (hG : Kept Q s) :
    KeptO Q (execRefMonitorEvaluate s) := by
  unfold execRefMonitorEvaluate
  try beta_reduce
  apply keptO_ite; apply keptO_next; apply State.forEach_kept; apply State.evalMade_kept; assumption
  apply State.slotEvaluate_kept; apply keptO_next; assumption

end Sys2Proof.Machine
end

