-- ==== Sys2Proof/Laws/KeptMeas.lean ====
section
/-! SUPPORT. The operations of Machine/Meas.lean keep the queue, the register file and the forwarding database. -/

namespace Sys2Proof.Machine

open Sys2Proof

set_option linter.unusedTactic false

theorem State.modMi_kept {Q : List Instr} (k : Nat) (f : MiChan → MiChan) (s : State) (hG : Kept Q s) :
    Kept Q (State.modMi k f s) := by
  unfold State.modMi
  try beta_reduce
  apply kept_mk; apply kept_fold; assumption

theorem State.miRecord_kept {Q : List Instr} (k mode time : Nat) (value : Int) (count flags : Nat) (s : State) (hG : Kept Q s) :
    Kept Q (State.miRecord k mode time value count flags s) := by
  unfold State.miRecord
  try beta_reduce
  apply kept_ite; apply State.raise_kept; apply State.bump_kept; apply State.modMi_kept; assumption
  apply State.set_kept; apply State.modMi_kept; assumption

theorem State.intervalEnd_kept {Q : List Instr} (k t u : Nat) (a e : MiEdge) (s : State) (hG : Kept Q s) :
    Kept Q (State.intervalEnd k t u a e s) := by
  unfold State.intervalEnd
  try beta_reduce
  apply State.modMi_kept; apply State.miRecord_kept; assumption

theorem State.unstray_kept {Q : List Instr} (f : Fld) (s : State) (hG : Kept Q s) :
    Kept Q (State.unstray f s) := by
  unfold State.unstray
  try beta_reduce
  apply State.set_kept; assumption

theorem State.armStart_kept {Q : List Instr} (k t : Nat) (e : MiEdge) (s : State) (hG : Kept Q s) :
    Kept Q (State.armStart k t e s) := by
  unfold State.armStart
  try beta_reduce
  apply kept_ite; apply State.modMi_kept; apply State.bump_kept; assumption; lift_lets -underBinder
  intro x; refine (fun (hx : Kept Q x) => ?_) ?_ <;> [clear_value x; subst x]; split; apply State.when_kept
  assumption; intro _ _; try beta_reduce; apply State.intervalEnd_kept; apply State.unstray_kept; assumption
  assumption; apply State.modMi_kept; assumption

theorem State.armStop_kept {Q : List Instr} (k u : Nat) (e : MiEdge) (s : State) (hG : Kept Q s) :
    Kept Q (State.armStop k u e s) := by
  unfold State.armStop
  try beta_reduce
  lift_lets -underBinder; intro x; subst x; beta_reduce; split; apply kept_ite; apply State.modMi_kept
  apply State.bump_kept; assumption; lift_lets -underBinder; intro x; clear_value x
  intro x; refine (fun (hx : Kept Q x) => ?_) ?_ <;> [clear_value x; subst x]; split; apply State.when_kept
  assumption; intro _ _; try beta_reduce; apply State.modMi_kept; apply State.unstray_kept; assumption; assumption
  apply State.modMi_kept; apply State.intervalEnd_kept; assumption; apply State.modMi_kept; apply State.bump_kept
  assumption

theorem State.place1_kept {Q : List Instr} (key : Nat) (d : TdcEdge) (s : State) (hG : Kept Q s) :
    Kept Q (State.place1 key d s).2.2 := by
  unfold State.place1
  try beta_reduce
  dsimp -zeta only; lift_lets -underBinder
  repeat (intro x; first | (refine (fun (hx : Kept Q x) => ?_) ?_ <;> [clear_value x; subst x]) | clear_value x)
  split
  with_reducible apply State.setB_kept; with_reducible assumption; split; with_reducible assumption
  with_reducible apply State.free_kept; with_reducible assumption; with_reducible apply State.when_kept
  with_reducible assumption; with_reducible apply State.raise_kept; with_reducible apply State.set_kept
  (fail_if_no_progress (with_reducible apply kept_mk; with_reducible apply kept_fold)); with_reducible assumption
  (fail_if_no_progress (with_reducible apply kept_mk; with_reducible apply kept_fold)); with_reducible assumption

theorem State.asymEdge_kept {Q : List Instr} (k : Nat) (d : TdcEdge) (s : State) (hG : Kept Q s) :
    Kept Q (State.asymEdge k d s) := by
  unfold State.asymEdge
  try beta_reduce
  apply kept_ite; apply kept_mk; apply kept_fold; apply State.place1_kept; assumption; assumption

theorem State.closeGate_kept {Q : List Instr} (k e : Nat) (short : Bool) (s : State) (hG : Kept Q s) :
    Kept Q (State.closeGate k e short s) := by
  unfold State.closeGate
  try beta_reduce
  apply kept_ite; apply State.modMi_kept; apply State.miRecord_kept; assumption; apply State.modMi_kept
  lift_lets -underBinder; split; apply State.miRecord_kept; assumption; apply State.miRecord_kept; assumption

theorem State.disarm_kept {Q : List Instr} (k : Nat) (s : State) (hG : Kept Q s) :
    Kept Q (State.disarm k s) := by
  unfold State.disarm
  try beta_reduce
  split; apply State.modMi_kept; apply State.miRecord_kept; assumption; apply State.modMi_kept; assumption

theorem State.miRestart_kept {Q : List Instr} (k : Nat) (s : State) (hG : Kept Q s) :
    Kept Q (State.miRestart k s) := by
  unfold State.miRestart
  try beta_reduce
  apply State.when_kept; apply State.modMi_kept; apply State.wr_kept; apply State.wr_kept; apply State.when_kept
  assumption; intro _ _; try beta_reduce; split; apply State.when_kept; assumption; apply State.closeGate_kept
  assumption; apply State.modMi_kept

theorem State.miApply_kept {Q : List Instr} (s : State) (hG : Kept Q s) :
    Kept Q (State.miApply s) := by
  unfold State.miApply
  try beta_reduce
  apply State.forEach_kept; assumption; apply State.miRestart_kept

theorem State.forgetLearning_kept {Q : List Instr} (s : State) (hG : Kept Q s) :
    Kept Q (State.forgetLearning s) := by
  unfold State.forgetLearning
  try beta_reduce
  apply kept_mk; apply kept_fold; apply State.set_kept; apply State.set_kept; assumption

theorem State.pairUp_kept {Q : List Instr} (k x1 : Nat) (x2 : State) (hG : Kept Q x2) :
    Kept Q (State.pairUp k x1 x2) := by
  induction x1 generalizing k x2 hG
  on_goal 2 => rename_i k ih
  all_goals unfold State.pairUp
  assumption; dsimp -zeta only; split; apply ih; lift_lets -underBinder; split; apply State.miRecord_kept
  apply State.modMi_kept; apply State.modMi_kept; assumption; apply State.miRecord_kept; apply State.modMi_kept
  apply State.modMi_kept; assumption; apply State.miRecord_kept; apply State.free_kept; apply State.modMi_kept
  apply State.modMi_kept; assumption; assumption

theorem State.miUse_kept {Q : List Instr} (k mode start : Nat) (e : MiEdge) (s : State) (hG : Kept Q s) :
    Kept Q (State.miUse k mode start e s) := by
  unfold State.miUse
  try beta_reduce
  split; apply State.miRecord_kept; assumption; apply State.pairUp_kept; apply State.modMi_kept; assumption
  apply kept_ite; apply State.armStart_kept; assumption; apply State.armStop_kept; assumption; apply State.when_kept
  assumption; apply State.modMi_kept; assumption

theorem State.passGates_kept {Q : List Instr} (k t : Nat) (s : State) (hG : Kept Q s) :
    Kept Q (State.passGates k t s) := by
  unfold State.passGates
  try beta_reduce
  split; assumption; apply State.forEach_kept; assumption; intro _ _ _; try beta_reduce; apply State.modMi_kept
  apply State.closeGate_kept; assumption

theorem State.preGate_kept {Q : List Instr} (k mode t : Nat) (s : State) (hG : Kept Q s) :
    Kept Q (State.preGate k mode t s) := by
  unfold State.preGate
  try beta_reduce
  split; apply State.when_kept; assumption; apply State.modMi_kept; assumption

theorem State.unpair_kept {Q : List Instr} (lead trail : Nat) (s : State) (hG : Kept Q s) :
    Kept Q (State.unpair lead trail s) := by
  unfold State.unpair
  try beta_reduce
  apply kept_ite; apply State.modMi_kept; apply State.bump_kept; assumption; assumption

theorem State.miEdge_kept {Q : List Instr} (k mode start : Nat) (d : TdcEdge) (s : State) (hG : Kept Q s) :
    Kept Q (State.miEdge k mode start d s) := by
  unfold State.miEdge
  try beta_reduce
  apply kept_ite; apply State.when_kept; apply State.preGate_kept; apply State.modMi_kept; lift_lets -underBinder
  split; apply State.when_kept; apply State.when_kept; apply State.when_kept; assumption; apply State.passGates_kept
  apply State.place1_kept; apply State.disarm_kept; apply State.when_kept; apply State.when_kept; assumption
  apply State.passGates_kept; apply State.place1_kept; apply State.unpair_kept; apply kept_ite
  apply State.miUse_kept; apply State.bump_kept; apply State.when_kept; apply State.preGate_kept
  apply State.modMi_kept; lift_lets -underBinder; split; apply State.when_kept; apply State.when_kept
  apply State.when_kept; assumption; apply State.passGates_kept; apply State.place1_kept; apply State.disarm_kept
  apply State.when_kept; apply State.when_kept; assumption; apply State.passGates_kept; apply State.place1_kept
  apply State.unpair_kept; apply State.miUse_kept; apply State.modMi_kept; apply State.when_kept
  apply State.preGate_kept; apply State.modMi_kept; lift_lets -underBinder; split; apply State.when_kept
  apply State.when_kept; apply State.when_kept; assumption; apply State.passGates_kept; apply State.place1_kept
  apply State.disarm_kept; apply State.when_kept; apply State.when_kept; assumption; apply State.passGates_kept
  apply State.place1_kept; apply State.unpair_kept

theorem State.ppsMark_kept {Q : List Instr} (r t : Nat) (s : State) (hG : Kept Q s) :
    Kept Q (State.ppsMark r t s) := by
  unfold State.ppsMark
  try beta_reduce
  apply State.refMark_kept; dsimp -zeta only; split; apply kept_mk; apply kept_fold; assumption
  apply kept_mk; apply kept_fold; assumption

theorem State.tapHalf_kept {Q : List Instr} (key at0 : Nat) (ok : Bool) (h : Option TapHalf) (s : State) (hG : Kept Q s) :
    Kept Q (State.tapHalf key at0 ok h s).2 := by
  unfold State.tapHalf
  try beta_reduce
  dsimp -zeta only; split; assumption; apply kept_ite2; assumption; apply kept_ite2; apply State.place1_kept
  assumption; apply State.place1_kept; assumption

theorem State.tapWords_kept {Q : List Instr} (t at0 : Nat) (rx tx : Option (Nat × Nat × Nat × Nat × Bool)) (noEdge : Bool) (s : State) (hG : Kept Q s) :
    Kept Q (State.tapWords t at0 rx tx noEdge s) := by
  unfold State.tapWords
  try beta_reduce
  apply State.wrWords_kept; assumption

theorem State.xoMainLost_kept {Q : List Instr} (s : State) (hG : Kept Q s) :
    Kept Q (State.xoMainLost s) := by
  unfold State.xoMainLost
  try beta_reduce
  apply kept_ite; assumption; apply State.raise_kept; apply kept_mk; apply kept_fold
  apply State.forgetLearning_kept; apply State.when_kept; apply State.setB_kept; apply State.set_kept; assumption
  apply State.start_kept

theorem execAgeingTick_kept {Q : List Instr} (s : State) (hG : Kept Q s) :
    KeptO Q (execAgeingTick s) := by
  unfold execAgeingTick
  try beta_reduce
  apply keptO_ite; apply keptO_next; assumption; apply keptO_ite; apply keptO_next; apply State.evalMade_kept
  assumption; apply keptO_next; apply State.when_kept; apply State.set48_kept; apply kept_mk; apply kept_fold
  apply State.evalMade_kept; assumption; apply State.raise_kept

theorem execArmedIntervalExpiry_kept {Q : List Instr} (k : Nat) (s : State) (hG : Kept Q s) :
    KeptO Q (execArmedIntervalExpiry k s) := by
  unfold execArmedIntervalExpiry
  try beta_reduce
  split; apply keptO_ite; apply keptO_next; apply State.disarm_kept; assumption; apply keptO_next; assumption
  apply keptO_next; assumption

theorem execGateEnd_kept {Q : List Instr} (k : Nat) (s : State) (hG : Kept Q s) :
    KeptO Q (execGateEnd k s) := by
  unfold execGateEnd
  try beta_reduce
  split; apply keptO_next; assumption; apply keptO_ite; apply keptO_next; apply State.modMi_kept
  apply State.closeGate_kept; assumption; apply keptO_next; assumption

theorem execMiEdge_kept {Q : List Instr} (k : Nat) (rising : Bool) (d : TdcEdge) (s : State) (hG : Kept Q s) :
    KeptO Q (execMiEdge k rising d s) := by
  unfold execMiEdge
  try beta_reduce
  apply keptO_ite; apply keptO_next; apply kept_ite; assumption; apply State.asymEdge_kept; assumption
  apply keptO_ite; apply keptO_next; apply State.modMi_kept; apply kept_ite; assumption; apply State.asymEdge_kept
  assumption; apply keptO_next; apply State.miEdge_kept; apply State.modMi_kept; apply kept_ite; assumption
  apply State.asymEdge_kept; assumption

theorem execOvenStableFall_kept {Q : List Instr} (s : State) (hG : Kept Q s) :
    KeptO Q (execOvenStableFall s) := by
  unfold execOvenStableFall
  try beta_reduce
  apply keptO_next; apply State.stop_kept; apply State.set_kept; apply State.set_kept; assumption

theorem execOvenStableRise_kept {Q : List Instr} (s : State) (hG : Kept Q s) :
    KeptO Q (execOvenStableRise s) := by
  unfold execOvenStableRise
  try beta_reduce
  apply keptO_ite; apply keptO_next; assumption; apply keptO_next; apply State.when_kept
  apply kept_mk; apply kept_fold; apply State.when_kept; apply State.set_kept; apply State.set_kept; assumption
  apply State.start_kept; apply State.raise_kept

theorem execTapSample_kept {Q : List Instr} (t : Nat) (rx tx : Option TapHalf) (s : State) (hG : Kept Q s) :
    KeptO Q (execTapSample t rx tx s) := by
  unfold execTapSample
  try beta_reduce
  apply keptO_ite; apply keptO_next; assumption; apply keptO_ite; apply keptO_next; apply State.tapWords_kept
  apply State.tapHalf_kept; apply State.tapHalf_kept; apply State.sampleMade_kept; assumption; apply keptO_next
  apply State.slotSample_kept; lift_lets -underBinder; split; lift_lets -underBinder
  intro x; refine (fun (hx : Kept Q x) => ?_) ?_ <;> [clear_value x; subst x]
  intro x; refine (fun (hx : Kept Q x) => ?_) ?_ <;> [clear_value x; subst x]; split; apply State.refMark_kept
  assumption; assumption; apply State.when_kept; assumption; apply State.ppsMark_kept; apply State.when_kept
  apply State.tapWords_kept; apply State.tapHalf_kept; apply State.tapHalf_kept; apply State.sampleMade_kept
  assumption; apply State.refEdge_kept; apply State.tapWords_kept; apply State.tapHalf_kept
  apply State.tapHalf_kept; apply State.sampleMade_kept; assumption

theorem execXoCompareWindow_kept {Q : List Instr} (ratio : Int) (s : State) (hG : Kept Q s) :
    KeptO Q (execXoCompareWindow ratio s) := by
  unfold execXoCompareWindow
  try beta_reduce
  apply keptO_ite; apply keptO_next; apply State.when_kept; assumption; apply State.evalMade_kept; apply keptO_ite
  apply keptO_ite; apply keptO_next; apply State.xoMainLost_kept; apply State.when_kept; assumption
  apply State.evalMade_kept; apply keptO_next; apply kept_mk; apply kept_fold; apply State.when_kept; assumption
  apply State.evalMade_kept; apply keptO_next; apply State.setI_kept; apply kept_mk; apply kept_fold
  apply State.when_kept; assumption; apply State.evalMade_kept

theorem execXoMainLost_kept {Q : List Instr} (s : State) (hG : Kept Q s) :
    KeptO Q (execXoMainLost s) := by
  unfold execXoMainLost
  try beta_reduce
  apply keptO_next; apply State.xoMainLost_kept; assumption

theorem execXoMainReturn_kept {Q : List Instr} (s : State) (hG : Kept Q s) :
    KeptO Q (execXoMainReturn s) := by
  unfold execXoMainReturn
  try beta_reduce
  apply keptO_ite; apply keptO_next; apply State.raise_kept; apply kept_mk; apply kept_fold; apply State.set_kept
  apply State.set_kept; apply State.stop_kept; assumption; apply keptO_next; assumption

theorem execXoSpareLost_kept {Q : List Instr} (s : State) (hG : Kept Q s) :
    KeptO Q (execXoSpareLost s) := by
  unfold execXoSpareLost
  try beta_reduce
  apply keptO_ite; apply keptO_next; apply State.raise_kept; apply kept_mk; apply kept_fold; apply State.set_kept
  apply State.set_kept; assumption; apply keptO_next; assumption

theorem execXoSpareReturn_kept {Q : List Instr} (s : State) (hG : Kept Q s) :
    KeptO Q (execXoSpareReturn s) := by
  unfold execXoSpareReturn
  try beta_reduce
  apply keptO_next; apply State.set_kept; apply State.set_kept; assumption

end Sys2Proof.Machine
end

