-- ==== Sys2Proof/Laws/KeptSyn.lean ====
section
/-! SUPPORT. The operations of Machine/Syn.lean keep the queue, the register file and the forwarding database. -/

namespace Sys2Proof.Machine

open Sys2Proof

set_option linter.unusedTactic false

theorem State.pulseAnchor_kept {Q : List Instr} (o x : Nat) (s : State) (hG : Kept Q s) :
    Kept Q (State.pulseAnchor o x s) := by
  unfold State.pulseAnchor
  try beta_reduce
  apply State.wr_kept; apply kept_mk; apply kept_fold; assumption

theorem State.pulseAlign_kept {Q : List Instr} (o b : Nat) (s : State) (hG : Kept Q s) :
    Kept Q (State.pulseAlign o b s) := by
  unfold State.pulseAlign
  try beta_reduce
  split; assumption; apply State.raise_kept; apply State.pulseAnchor_kept; assumption

theorem State.alignBit_kept {Q : List Instr} (b i : Nat) (s : State) (hG : Kept Q s) :
    Kept Q (State.alignBit b i s) := by
  unfold State.alignBit
  try beta_reduce
  apply kept_ite; lift_lets -underBinder; split; assumption; apply State.raise_kept; apply kept_mk; apply kept_fold
  assumption; apply State.pulseAlign_kept; assumption

theorem specAlign_kept {Q : List Instr} (c : Cmd) (s : State) (hG : Kept Q s) :
    Kept Q (specAlign.act c s).1 := by
  unfold specAlign
  try beta_reduce
  apply State.forEach_kept; assumption; apply State.alignBit_kept

theorem State.clkoutApply_kept {Q : List Instr} (k b : Nat) (s : State) (hG : Kept Q s) :
    Kept Q (State.clkoutApply k b s) := by
  unfold State.clkoutApply
  try beta_reduce
  apply kept_ite; apply kept_mk; apply kept_fold; assumption; lift_lets -underBinder; intro x; clear_value x; split
  apply kept_ite; assumption; apply kept_mk; apply kept_fold; assumption; apply kept_mk; apply kept_fold; assumption

theorem State.clkoutMult_kept {Q : List Instr} (k b : Nat) (s : State) (hG : Kept Q s) :
    Kept Q (State.clkoutMult k b s) := by
  unfold State.clkoutMult
  try beta_reduce
  split; apply kept_mk; apply kept_fold; assumption; assumption

theorem State.weaveOff_kept {Q : List Instr} (s : State) (hG : Kept Q s) :
    Kept Q (State.weaveOff s) := by
  unfold State.weaveOff
  try beta_reduce
  apply State.forEach_kept; assumption; intro _ _ _; try beta_reduce; apply State.set_kept; apply State.unweave_kept
  assumption

theorem State.setSafe_kept {Q : List Instr} (n : Nat) (on : Bool) (s : State) (hG : Kept Q s) :
    Kept Q (State.setSafe n on s) := by
  unfold State.setSafe
  try beta_reduce
  apply kept_ite; apply State.when_kept; apply State.setB_kept; apply State.setB_kept
  apply kept_mk; apply kept_fold; apply kept_ite2; apply State.free_kept; assumption; assumption
  apply State.weaveOff_kept; apply kept_ite; apply State.laneSources_kept; apply State.setB_kept
  apply State.setB_kept; assumption; assumption

theorem State.synTo_kept {Q : List Instr} (n : Nat) (st : SynStage) (s : State) (hG : Kept Q s) :
    Kept Q (State.synTo n st s) := by
  unfold State.synTo
  try beta_reduce
  apply kept_mk; apply kept_fold; assumption

theorem State.synRelock_kept {Q : List Instr} (n : Nat) (s : State) (hG : Kept Q s) :
    Kept Q (State.synRelock n s) := by
  unfold State.synRelock
  try beta_reduce
  apply State.when_kept; apply State.when_kept; apply State.start_kept; apply State.synTo_kept; apply State.set_kept
  apply State.set_kept; apply State.when_kept; assumption; apply State.bump_kept; apply State.setSafe_kept
  apply State.laneSources_kept

theorem State.multTo_kept {Q : List Instr} (n v b : Nat) (s : State) (hG : Kept Q s) :
    Kept Q (State.multTo n v b s) := by
  unfold State.multTo
  try beta_reduce
  apply kept_ite; apply State.set_kept; assumption; apply State.synRelock_kept; apply State.forEach_kept
  apply State.set_kept; assumption; intro _ _ _; try beta_reduce; apply State.clkoutMult_kept; assumption

theorem State.pulseApply_kept {Q : List Instr} (o b : Nat) (s : State) (hG : Kept Q s) :
    Kept Q (State.pulseApply o b s) := by
  unfold State.pulseApply
  try beta_reduce
  apply kept_ite; apply State.wr_kept; apply kept_mk; apply kept_fold; assumption; lift_lets -underBinder; split
  apply State.pulseAnchor_kept; assumption; apply kept_mk; apply kept_fold; assumption

theorem clkoutAct_kept {Q : List Instr} (action : Nat) (c : Cmd) (s : State) (hG : Kept Q s) :
    Kept Q (clkoutAct action c s).1 := by
  unfold clkoutAct
  try beta_reduce
  lift_lets -underBinder; intro x; clear_value x; intro x; clear_value x; intro x; clear_value x; split
  apply State.clkoutApply_kept; apply State.putRegs_kept; assumption; apply State.pulseApply_kept
  apply State.when_kept; apply State.putRegs_kept; assumption; apply State.wr_kept; apply State.putRegs_kept
  assumption; apply kept_ite1; assumption; apply State.multTo_kept; assumption

theorem specClkout_kept {Q : List Instr} (action : Nat) (c : Cmd) (s : State) (hG : Kept Q s) :
    Kept Q ((specClkout action).act c s).1 := by
  unfold specClkout
  try beta_reduce
  apply clkoutAct_kept; assumption

theorem State.treadleBegin_kept {Q : List Instr} (t : Nat) (p : Trd) (s : State) (hG : Kept Q s) :
    Kept Q (State.treadleBegin t p s) := by
  unfold State.treadleBegin
  try beta_reduce
  apply State.wr_kept; apply State.wr_kept; apply kept_mk; apply kept_fold; assumption

theorem specTreadleProgram_kept {Q : List Instr} (c : Cmd) (s : State) (hG : Kept Q s) :
    Kept Q (specTreadleProgram.act c s).1 := by
  unfold specTreadleProgram
  try beta_reduce
  dsimp -zeta only; lift_lets -underBinder; intro x; clear_value x; intro x; clear_value x; intro x; clear_value x
  split; assumption; apply State.treadleBegin_kept; apply State.wr_kept; apply State.wrWords_kept; assumption

theorem State.treadleStop_kept {Q : List Instr} (t : Nat) (s : State) (hG : Kept Q s) :
    Kept Q (State.treadleStop t s) := by
  unfold State.treadleStop
  try beta_reduce
  apply State.set_kept; apply kept_mk; apply kept_fold; assumption

theorem specTreadleStop_kept {Q : List Instr} (c : Cmd) (s : State) (hG : Kept Q s) :
    Kept Q (specTreadleStop.act c s).1 := by
  unfold specTreadleStop
  try beta_reduce
  apply State.treadleStop_kept; assumption

theorem State.outputWrite_kept {Q : List Instr} (a : Nat) (v : Word) (s : State) (hG : Kept Q s) :
    Kept Q (State.outputWrite a v s) := by
  unfold State.outputWrite
  try beta_reduce
  apply kept_ite; apply State.multTo_kept; apply State.multTo_kept; assumption; apply kept_ite; apply State.wr_kept
  assumption; apply State.forEach_kept; apply State.forEach_kept; apply State.wr_kept; assumption
  intro _ _ _; try beta_reduce; apply State.clkoutApply_kept; assumption; intro _ _ _; try beta_reduce
  apply State.pulseApply_kept; assumption

theorem State.treadleLatch_kept {Q : List Instr} (t : Nat) (s : State) (hG : Kept Q s) :
    Kept Q (State.treadleLatch t s) := by
  unfold State.treadleLatch
  try beta_reduce
  lift_lets -underBinder; intro x; clear_value x; intro x; clear_value x; intro x; clear_value x; split; assumption
  apply State.treadleBegin_kept; assumption

theorem State.trdCfgWrite_kept {Q : List Instr} (t : Nat) (v : Word) (s : State) (hG : Kept Q s) :
    Kept Q (State.trdCfgWrite t v s) := by
  unfold State.trdCfgWrite
  try beta_reduce
  apply kept_ite; apply State.when_kept; apply State.wr_kept; assumption; apply State.treadleLatch_kept
  apply State.treadleStop_kept; apply State.wr_kept; assumption

theorem State.todError_kept {Q : List Instr} (f : Fld) (s : State) (hG : Kept Q s) :
    Kept Q (State.todError f s) := by
  unfold State.todError
  try beta_reduce
  apply State.raise_kept; apply State.bump_kept; assumption

theorem State.todMessage_kept {Q : List Instr} (o i : Nat) (s : State) (hG : Kept Q s) :
    Kept Q (State.todMessage o i s).2 := by
  unfold State.todMessage
  try beta_reduce
  with_reducible apply State.free_kept; with_reducible assumption

theorem execAlign_kept {Q : List Instr} (d : Submission) (s : State) (hG : Kept Q s) :
    KeptO Q (execAlign d s) := by
  unfold execAlign
  try beta_reduce
  apply keptO_next; apply CmdSpec.take_kept; assumption; apply specAlign_kept

theorem execClkoutSetClock_kept {Q : List Instr} (d : Submission) (s : State) (hG : Kept Q s) :
    KeptO Q (execClkoutSetClock d s) := by
  unfold execClkoutSetClock
  try beta_reduce
  apply keptO_next; apply CmdSpec.take_kept; assumption; apply specClkout_kept

theorem execClkoutSetPulse_kept {Q : List Instr} (d : Submission) (s : State) (hG : Kept Q s) :
    KeptO Q (execClkoutSetPulse d s) := by
  unfold execClkoutSetPulse
  try beta_reduce
  apply keptO_next; apply CmdSpec.take_kept; assumption; apply specClkout_kept

theorem execClkoutSetSynth_kept {Q : List Instr} (d : Submission) (s : State) (hG : Kept Q s) :
    KeptO Q (execClkoutSetSynth d s) := by
  unfold execClkoutSetSynth
  try beta_reduce
  apply keptO_next; apply CmdSpec.take_kept; assumption; apply specClkout_kept

theorem execClkoutSetTod_kept {Q : List Instr} (d : Submission) (s : State) (hG : Kept Q s) :
    KeptO Q (execClkoutSetTod d s) := by
  unfold execClkoutSetTod
  try beta_reduce
  apply keptO_next; apply CmdSpec.take_kept; assumption; apply specClkout_kept

theorem execOutputCfgWrite_kept {Q : List Instr} (a : Nat) (v : BitVec 32) (s : State) (hG : Kept Q s) :
    KeptO Q (execOutputCfgWrite a v s) := by
  unfold execOutputCfgWrite
  try beta_reduce
  apply keptO_ite; apply keptO_next; apply State.outputWrite_kept; assumption; apply keptO_next; assumption

theorem execPulseEdge_kept {Q : List Instr} (o : Nat) (s : State) (hG : Kept Q s) :
    KeptO Q (execPulseEdge o s) := by
  unfold execPulseEdge
  try beta_reduce
  split; apply keptO_next; assumption; apply keptO_ite; apply keptO_next; assumption; apply keptO_ite
  apply keptO_next; apply State.raise_kept; apply State.bump_kept; apply State.set_kept
  apply kept_mk; apply kept_fold; assumption; apply keptO_next; apply State.set_kept; apply State.setB_kept
  apply State.set2_kept; apply kept_mk; apply kept_fold; assumption

theorem execSynFreqCheck_kept {Q : List Instr} (n : Nat) (pass : Bool) (s : State) (hG : Kept Q s) :
    KeptO Q (execSynFreqCheck n pass s) := by
  unfold execSynFreqCheck
  try beta_reduce
  split; apply keptO_ite; apply keptO_next; apply State.synTo_kept; apply State.stop_kept; assumption
  apply keptO_next; apply State.synTo_kept; apply State.set_kept; assumption; apply keptO_next; assumption

theorem execSynLockAcquired_kept {Q : List Instr} (n : Nat) (s : State) (hG : Kept Q s) :
    KeptO Q (execSynLockAcquired n s) := by
  unfold execSynLockAcquired
  try beta_reduce
  apply keptO_ite; apply keptO_next; assumption; lift_lets -underBinder; split; apply keptO_next
  apply State.synTo_kept; apply State.set_kept; assumption; apply keptO_next; apply State.set_kept; assumption
  apply keptO_next; assumption

theorem execSynRelockRetry_kept {Q : List Instr} (n : Nat) (s : State) (hG : Kept Q s) :
    KeptO Q (execSynRelockRetry n s) := by
  unfold execSynRelockRetry
  try beta_reduce
  lift_lets -underBinder; intro x; subst x; beta_reduce
  intro x; refine (fun (hx : Kept Q x) => ?_) ?_ <;> [clear_value x; subst x]; split; apply keptO_ite
  apply keptO_next; apply State.raise_kept; assumption; apply keptO_next; assumption; apply keptO_ite
  apply keptO_next; apply State.raise_kept; assumption; apply keptO_next; assumption; apply keptO_next; assumption
  apply State.bump_kept; apply State.start_kept; apply State.synTo_kept; apply State.set_kept; assumption

theorem execSynRelockReturn_kept {Q : List Instr} (n : Nat) (s : State) (hG : Kept Q s) :
    KeptO Q (execSynRelockReturn n s) := by
  unfold execSynRelockReturn
  try beta_reduce
  split; apply keptO_ite; apply keptO_next; apply State.finish_kept; apply State.raise_kept; apply State.when_kept
  apply State.set_kept; apply State.synTo_kept; assumption; apply State.setSafe_kept; apply keptO_next; assumption
  apply keptO_next; assumption

theorem execSynRelockStart_kept {Q : List Instr} (n : Nat) (unlock : Bool) (s : State) (hG : Kept Q s) :
    KeptO Q (execSynRelockStart n unlock s) := by
  unfold execSynRelockStart
  try beta_reduce
  apply keptO_ite; apply keptO_next; assumption; apply keptO_next; apply State.when_kept; apply State.synRelock_kept
  assumption; apply State.raise_kept

theorem execTodMessageSend_kept {Q : List Instr} (s : State) (hG : Kept Q s) :
    KeptO Q (execTodMessageSend s) := by
  unfold execTodMessageSend
  try beta_reduce
  dsimp -zeta only; lift_lets -underBinder; intro x; clear_value x; split; apply keptO_next; assumption; split
  apply keptO_next; assumption; apply keptO_ite; apply keptO_next; apply kept_mk; apply kept_fold
  apply State.todMessage_kept; assumption; apply keptO_next; assumption

theorem execTodinMessage_kept {Q : List Instr} (t : Nat) (l : List Byte) (stop : Bool) (s : State) (hG : Kept Q s) :
    KeptO Q (execTodinMessage t l stop s) := by
  unfold execTodinMessage
  try beta_reduce
  apply keptO_ite; apply keptO_next; assumption; apply keptO_ite; apply keptO_next; apply State.todError_kept
  assumption; apply keptO_ite; apply keptO_next; assumption; apply keptO_ite; apply keptO_next
  apply State.todError_kept; assumption; dsimp -zeta only; lift_lets -underBinder; intro x; clear_value x
  intro x; subst x; beta_reduce; split; apply keptO_ite; apply keptO_next; apply State.when_kept
  apply State.refMark_kept; apply State.set_kept; apply State.set_kept; apply State.set_kept; apply State.start_kept
  apply State.set_kept; apply State.set_kept; assumption; apply State.takeUtc_kept; apply keptO_ite
  apply keptO_next; apply State.when_kept; apply State.refMark_kept; apply State.set_kept; apply State.set_kept
  apply State.set_kept; apply State.start_kept; apply State.set_kept; apply State.set_kept; assumption
  apply State.takeUtc_kept; apply keptO_next; apply State.todError_kept; assumption; apply keptO_ite
  apply keptO_next; apply State.when_kept; apply State.refMark_kept; apply State.set_kept; apply State.set_kept
  apply State.set_kept; apply State.start_kept; apply State.set_kept; apply State.set_kept; assumption
  apply State.takeUtc_kept; apply keptO_next; apply State.todError_kept; assumption; apply keptO_next
  apply State.todError_kept; assumption

theorem execTodinRxValidExpiry_kept {Q : List Instr} (s : State) (hG : Kept Q s) :
    KeptO Q (execTodinRxValidExpiry s) := by
  unfold execTodinRxValidExpiry
  try beta_reduce
  apply keptO_ite; apply keptO_next; apply State.stop_kept; apply State.set_kept; assumption; apply keptO_next
  assumption

theorem execTrdEnableClear_kept {Q : List Instr} (t : Nat) (v : BitVec 32) (s : State) (hG : Kept Q s) :
    KeptO Q (execTrdEnableClear t v s) := by
  unfold execTrdEnableClear
  try beta_reduce
  apply keptO_ite; apply keptO_next; apply State.trdCfgWrite_kept; assumption; apply keptO_next; assumption

theorem execTrdEnableSet_kept {Q : List Instr} (t : Nat) (v : BitVec 32) (s : State) (hG : Kept Q s) :
    KeptO Q (execTrdEnableSet t v s) := by
  unfold execTrdEnableSet
  try beta_reduce
  apply keptO_ite; apply keptO_next; apply State.trdCfgWrite_kept; assumption; apply keptO_next; assumption

theorem execTreadleSetProgram_kept {Q : List Instr} (d : Submission) (s : State) (hG : Kept Q s) :
    KeptO Q (execTreadleSetProgram d s) := by
  unfold execTreadleSetProgram
  try beta_reduce
  apply keptO_next; apply CmdSpec.take_kept; assumption; apply specTreadleProgram_kept

theorem execTreadleSetStop_kept {Q : List Instr} (d : Submission) (s : State) (hG : Kept Q s) :
    KeptO Q (execTreadleSetStop d s) := by
  unfold execTreadleSetStop
  try beta_reduce
  apply keptO_next; apply CmdSpec.take_kept; assumption; apply specTreadleStop_kept

end Sys2Proof.Machine
end

