-- ==== Sys2Proof/Laws/KeptDpll.lean ====
section
/-! SUPPORT. The operations of Machine/Dpll.lean keep the queue, the register file and the forwarding database. -/

namespace Sys2Proof.Machine

open Sys2Proof

set_option linter.unusedTactic false

theorem State.showError_kept {Q : List Instr} (s : State) (hG : Kept Q s) :
    Kept Q (State.showError s) := by
  unfold State.showError
  try beta_reduce
  apply kept_ite; apply State.set_kept; apply State.setI_kept; assumption; apply State.setI_kept; assumption

theorem State.dpTo_kept {Q : List Instr} (st : Nat) (s : State) (hG : Kept Q s) :
    Kept Q (State.dpTo st s) := by
  unfold State.dpTo
  try beta_reduce
  apply kept_mk; apply kept_fold; apply State.when_kept; apply State.stop_kept; apply State.set_kept; assumption
  intro _ _; try beta_reduce; apply State.set_kept; apply State.stop_kept; assumption

theorem State.updQl_kept {Q : List Instr} (s : State) (hG : Kept Q s) :
    Kept Q (State.updQl s) := by
  unfold State.updQl
  try beta_reduce
  apply kept_ite; apply State.set_kept; assumption; apply State.attn_kept; apply State.raise_kept
  apply State.set_kept; assumption

theorem State.setSel_kept {Q : List Instr} (f t : Nat) (s : State) (hG : Kept Q s) :
    Kept Q (State.setSel f t s) := by
  unfold State.setSel
  try beta_reduce
  apply kept_ite; apply kept_mk; apply kept_fold; assumption; apply State.showSource_kept
  apply State.updClockQual_kept; apply State.updQl_kept; apply State.raise_kept; apply State.set_kept
  apply State.set_kept; apply kept_mk; apply kept_fold; assumption

theorem State.showDisagree_kept {Q : List Instr} (dis : Option Bool) (s : State) (hG : Kept Q s) :
    Kept Q (State.showDisagree dis s) := by
  unfold State.showDisagree
  try beta_reduce
  split; apply State.when_kept; apply State.set_kept; assumption; apply State.raise_kept; apply State.set_kept
  assumption; assumption

theorem State.select_kept {Q : List Instr} (s : State) (hG : Kept Q s) :
    Kept Q (State.select s) := by
  unfold State.select
  try beta_reduce
  apply State.setSel_kept; apply State.showDisagree_kept; assumption

theorem State.dpModeChange_kept {Q : List Instr} (was : Nat) (s : State) (hG : Kept Q s) :
    Kept Q (State.dpModeChange was s) := by
  unfold State.dpModeChange
  try beta_reduce
  apply kept_ite; assumption; apply kept_ite; apply kept_ite; assumption; apply State.select_kept
  apply State.dpTo_kept; assumption; apply kept_ite; apply State.updQl_kept; apply State.select_kept
  apply State.dpTo_kept; assumption; apply kept_ite; apply State.dpTo_kept; apply State.select_kept; assumption
  assumption

theorem State.slotConfigure_kept {Q : List Instr} (r : Nat) (f : State → State) (s : State) (hF : ∀ s, Kept Q s → Kept Q (f s)) (hG1 : Kept Q s) :
    Kept Q (State.slotConfigure r f s) := by
  unfold State.slotConfigure
  try beta_reduce
  apply State.updQl_kept; apply State.slotEnable_kept; apply State.when_kept; apply State.when_kept
  apply State.when_kept; apply State.modSlot_kept; apply State.when_kept; apply hF; assumption
  apply State.newSource_kept; apply State.start_kept; intro _ _; try beta_reduce; apply State.set_kept
  apply State.stop_kept; assumption; apply State.requalify_kept

theorem State.updHistory_kept {Q : List Instr} (s : State) (hG : Kept Q s) :
    Kept Q (State.updHistory s) := by
  unfold State.updHistory
  try beta_reduce
  apply State.setB_kept; assumption

theorem refAct_kept {Q : List Instr} (action : Nat) (c : Cmd) (s : State) (hG : Kept Q s) :
    Kept Q (refAct action c s).1 := by
  unfold refAct
  try beta_reduce
  lift_lets -underBinder; intro x; clear_value x; intro x; clear_value x; split; apply kept_ite1; assumption
  apply State.slotConfigure_kept; apply State.putRegs_kept; assumption; apply State.updQl_kept
  apply State.updHistory_kept; apply State.forEach_kept; apply State.dpModeChange_kept; apply State.putRegs_kept
  assumption; apply State.showSlot_kept; apply State.putRegs_kept; assumption; apply State.updQl_kept
  apply State.requalify_kept; assumption

theorem specRef_kept {Q : List Instr} (action : Nat) (c : Cmd) (s : State) (hG : Kept Q s) :
    Kept Q ((specRef action).act c s).1 := by
  unfold specRef
  try beta_reduce
  apply refAct_kept; assumption

theorem specSteer_kept {Q : List Instr} (c : Cmd) (s : State) (hG : Kept Q s) :
    Kept Q (specSteer.act c s).1 := by
  unfold specSteer
  try beta_reduce
  apply State.when_kept; apply State.set48_kept; assumption; apply State.raise_kept

theorem State.dpDecide_kept {Q : List Instr} (s : State) (hG : Kept Q s) :
    Kept Q (State.dpDecide s).2 := by
  unfold State.dpDecide
  try beta_reduce
  apply kept_ite2; assumption; apply kept_ite2; assumption; apply kept_ite2; assumption; apply kept_ite2; assumption
  apply kept_ite2; assumption; apply kept_ite2; apply State.startOnce_kept; assumption; apply State.stop_kept
  assumption

theorem State.enterHoldover_kept {Q : List Instr} (s : State) (hG : Kept Q s) :
    Kept Q (State.enterHoldover s) := by
  unfold State.enterHoldover
  try beta_reduce
  apply kept_mk; apply kept_fold; apply State.start_kept; apply State.dpTo_kept; assumption

theorem State.showHo_kept {Q : List Instr} (s : State) (hG : Kept Q s) :
    Kept Q (State.showHo s) := by
  unfold State.showHo
  try beta_reduce
  split; apply State.set48_kept; assumption; assumption

theorem State.loseRefs_kept {Q : List Instr} (s : State) (hG : Kept Q s) :
    Kept Q (State.loseRefs s) := by
  unfold State.loseRefs
  try beta_reduce
  apply kept_ite; apply State.raise_kept; apply State.enterHoldover_kept; apply State.showHo_kept; assumption
  apply State.raise_kept; apply State.dpTo_kept; assumption

theorem State.dpDo_kept {Q : List Instr} (a : DpAct) (s : State) (hG : Kept Q s) :
    Kept Q (State.dpDo a s) := by
  unfold State.dpDo
  try beta_reduce
  split; assumption; apply State.dpTo_kept; assumption; apply State.raise_kept; apply State.dpTo_kept; assumption
  apply State.dpTo_kept; assumption; apply State.loseRefs_kept; assumption; apply State.dpTo_kept; assumption
  apply State.enterHoldover_kept; assumption

theorem State.setFreq_kept {Q : List Instr} (v : Int) (s : State) (hG : Kept Q s) :
    Kept Q (State.setFreq v s) := by
  unfold State.setFreq
  try beta_reduce
  apply State.set48_kept; assumption

theorem State.moveFreq_kept {Q : List Instr} (v d : Int) (s : State) (hG : Kept Q s) :
    Kept Q (State.moveFreq v d s) := by
  unfold State.moveFreq
  try beta_reduce
  apply State.setFreq_kept; assumption

theorem State.loopFreq_kept {Q : List Instr} (loop slew : Int) (s : State) (hG : Kept Q s) :
    Kept Q (State.loopFreq loop slew s) := by
  unfold State.loopFreq
  try beta_reduce
  apply kept_ite; assumption; apply State.moveFreq_kept; assumption

theorem State.workSlew_kept {Q : List Instr} (slew : Int) (s : State) (hG : Kept Q s) :
    Kept Q (State.workSlew slew s) := by
  unfold State.workSlew
  try beta_reduce
  apply kept_ite; assumption; apply kept_mk; apply kept_fold; assumption

theorem State.dpFreq_kept {Q : List Instr} (loop slew : Int) (s : State) (hG : Kept Q s) :
    Kept Q (State.dpFreq loop slew s) := by
  unfold State.dpFreq
  try beta_reduce
  apply kept_ite; apply State.moveFreq_kept; apply State.workSlew_kept; assumption; apply kept_ite; apply kept_ite
  apply State.workSlew_kept; assumption; apply State.moveFreq_kept; apply State.workSlew_kept; assumption
  apply kept_ite; apply State.moveFreq_kept; apply State.workSlew_kept; assumption; apply State.loopFreq_kept
  apply State.workSlew_kept; assumption

theorem State.lockedMs_kept {Q : List Instr} (s : State) (hG : Kept Q s) :
    Kept Q (State.lockedMs s) := by
  unfold State.lockedMs
  try beta_reduce
  apply kept_ite; assumption; apply State.updHistory_kept; apply State.showHo_kept; apply kept_mk; apply kept_fold
  assumption

theorem State.settleAct_kept {Q : List Instr} (s : State) (hG : Kept Q s) :
    Kept Q (State.settleAct s) := by
  unfold State.settleAct
  try beta_reduce
  split; assumption; lift_lets -underBinder; intro x; clear_value x
  intro x; refine (fun (hx : Kept Q x) => ?_) ?_ <;> [clear_value x; subst x]
  intro x; refine (fun (hx : Kept Q x) => ?_) ?_ <;> [clear_value x; subst x]; split; apply State.set_kept
  assumption; assumption; apply State.updQl_kept; apply State.lockedMs_kept; apply State.dpFreq_kept; assumption
  apply State.dpDo_kept; apply kept_mk; apply kept_fold; assumption

theorem State.settleSel_kept {Q : List Instr} (s : State) (hG : Kept Q s) :
    Kept Q (State.settleSel s) := by
  unfold State.settleSel
  try beta_reduce
  split; apply State.setSel_kept; assumption; assumption

theorem State.settleDpll_kept {Q : List Instr} (s : State) (hG : Kept Q s) :
    Kept Q (State.settleDpll s) := by
  unfold State.settleDpll
  try beta_reduce
  lift_lets -underBinder; intro x; refine (fun (hx : Kept Q x) => ?_) ?_ <;> [clear_value x; subst x]; split
  apply State.when_kept; assumption; apply State.settleAct_kept; assumption; split; apply State.when_kept
  assumption; apply State.settleSel_kept; assumption

theorem State.lockError_kept {Q : List Instr} (s : State) (hG : Kept Q s) :
    Kept Q (State.lockError s) := by
  unfold State.lockError
  try beta_reduce
  apply kept_mk; apply kept_fold; assumption

theorem execAgeingLearn_kept {Q : List Instr} (slope : Int) (s : State) (hG : Kept Q s) :
    KeptO Q (execAgeingLearn slope s) := by
  unfold execAgeingLearn
  try beta_reduce
  apply keptO_ite; apply keptO_next; apply State.setI_kept; apply kept_mk; apply kept_fold; assumption
  apply keptO_next; assumption

theorem execDpllStateEvaluate_kept {Q : List Instr} (loop slew : Int) (s : State) (hG : Kept Q s) :
    KeptO Q (execDpllStateEvaluate loop slew s) := by
  unfold execDpllStateEvaluate
  try beta_reduce
  apply keptO_ite; apply keptO_next; apply kept_mk; apply kept_fold; apply State.dpDecide_kept
  apply State.lockError_kept; apply State.showError_kept; apply State.settleAct_kept; apply State.evalMade_kept
  assumption; apply keptO_next; assumption

theorem execDpllSteer_kept {Q : List Instr} (d : Submission) (s : State) (hG : Kept Q s) :
    KeptO Q (execDpllSteer d s) := by
  unfold execDpllSteer
  try beta_reduce
  apply keptO_next; apply CmdSpec.take_kept; assumption; apply specSteer_kept

theorem execEsmcTimeout_kept {Q : List Instr} (r : Nat) (s : State) (hG : Kept Q s) :
    KeptO Q (execEsmcTimeout r s) := by
  unfold execEsmcTimeout
  try beta_reduce
  apply keptO_ite; apply keptO_next; apply State.updQl_kept; apply State.raise_kept; apply State.showSlot_kept
  apply State.set_kept; apply State.modSlot_kept; apply State.stop_kept; assumption; apply keptO_next; assumption

theorem execHoldoverWindowExpiry_kept {Q : List Instr} (s : State) (hG : Kept Q s) :
    KeptO Q (execHoldoverWindowExpiry s) := by
  unfold execHoldoverWindowExpiry
  try beta_reduce
  apply keptO_ite; apply keptO_next; apply State.updQl_kept; apply State.raise_kept; apply State.dpTo_kept
  assumption; apply keptO_next; assumption

theorem execLearningHour_kept {Q : List Instr} (s : State) (hG : Kept Q s) :
    KeptO Q (execLearningHour s) := by
  unfold execLearningHour
  try beta_reduce
  apply keptO_ite; apply keptO_next; apply State.updHistory_kept; apply State.bump_kept
  apply kept_mk; apply kept_fold; assumption; apply keptO_next; assumption

theorem execRefSelection_kept {Q : List Instr} (s : State) (hG : Kept Q s) :
    KeptO Q (execRefSelection s) := by
  unfold execRefSelection
  try beta_reduce
  apply keptO_ite; apply keptO_next; apply kept_mk; apply kept_fold; apply State.showDisagree_kept
  apply State.settleSel_kept; apply State.evalMade_kept; assumption; apply keptO_next; assumption

theorem execRefSetConfigure_kept {Q : List Instr} (d : Submission) (s : State) (hG : Kept Q s) :
    KeptO Q (execRefSetConfigure d s) := by
  unfold execRefSetConfigure
  try beta_reduce
  apply keptO_next; apply CmdSpec.take_kept; assumption; apply specRef_kept

theorem execRefSetEsmc_kept {Q : List Instr} (d : Submission) (s : State) (hG : Kept Q s) :
    KeptO Q (execRefSetEsmc d s) := by
  unfold execRefSetEsmc
  try beta_reduce
  apply keptO_next; apply CmdSpec.take_kept; assumption; apply specRef_kept

theorem execRefSetGlobal_kept {Q : List Instr} (d : Submission) (s : State) (hG : Kept Q s) :
    KeptO Q (execRefSetGlobal d s) := by
  unfold execRefSetGlobal
  try beta_reduce
  apply keptO_next; apply CmdSpec.take_kept; assumption; apply specRef_kept

theorem execRefSetRequalify_kept {Q : List Instr} (d : Submission) (s : State) (hG : Kept Q s) :
    KeptO Q (execRefSetRequalify d s) := by
  unfold execRefSetRequalify
  try beta_reduce
  apply keptO_next; apply CmdSpec.take_kept; assumption; apply specRef_kept

theorem execStepThreshold_kept {Q : List Instr} (s : State) (hG : Kept Q s) :
    KeptO Q (execStepThreshold s) := by
  unfold execStepThreshold
  try beta_reduce
  apply keptO_ite; lift_lets -underBinder
  intro x; refine (fun (hx : Kept Q x) => ?_) ?_ <;> [clear_value x; subst x]; split; apply keptO_next
  apply kept_ite; apply State.showError_kept; apply State.stepTime_kept; assumption; assumption; apply keptO_next
  apply kept_mk; apply kept_fold; assumption; apply keptO_next; assumption; apply State.raise_kept
  apply State.set_kept; apply State.showError_kept; assumption; apply keptO_next; apply State.showError_kept
  assumption

end Sys2Proof.Machine
end

