-- ==== Sys2Proof/Laws/KeptGnss.lean ====
section
/-! SUPPORT. The operations of Machine/Gnss.lean keep the queue, the register file and the forwarding database. -/

namespace Sys2Proof.Machine

open Sys2Proof

set_option linter.unusedTactic false

theorem State.setValid_kept {Q : List Instr} (v : Bool) (s : State) (hG : Kept Q s) :
    Kept Q (State.setValid v s) := by
  unfold State.setValid
  try beta_reduce
  apply kept_ite; apply State.raise_kept; apply State.setB_kept; assumption; apply kept_ite; apply State.raise_kept
  apply State.setB_kept; assumption; apply State.setB_kept; assumption

theorem State.antTo_kept {Q : List Instr} (v : Nat) (s : State) (hG : Kept Q s) :
    Kept Q (State.antTo v s) := by
  unfold State.antTo
  try beta_reduce
  apply kept_ite; apply State.set_kept; assumption; apply State.when_kept; apply State.setValid_kept
  apply State.raise_kept; apply State.set_kept; assumption; apply State.start_kept

theorem State.modGnss_kept {Q : List Instr} (f : GnssMem → GnssMem) (s : State) (hG : Kept Q s) :
    Kept Q (State.modGnss f s) := by
  unfold State.modGnss
  try beta_reduce
  apply kept_mk; apply kept_fold; assumption

theorem State.channelIdle_kept {Q : List Instr} (c : Nat) (s : State) (hG : Kept Q s) :
    Kept Q (State.channelIdle c s) := by
  unfold State.channelIdle
  try beta_reduce
  apply State.modGnss_kept; apply State.stop_kept; apply State.wr_kept; apply State.wr_kept; assumption

theorem State.surveyBegin_kept {Q : List Instr} (s : State) (hG : Kept Q s) :
    Kept Q (State.surveyBegin s) := by
  unfold State.surveyBegin
  try beta_reduce
  apply State.modGnss_kept; apply State.set_kept; assumption

theorem State.gnssFollow_kept {Q : List Instr} (was : Nat) (s : State) (hG : Kept Q s) :
    Kept Q (State.gnssFollow was s) := by
  unfold State.gnssFollow
  try beta_reduce
  apply kept_ite; apply kept_ite; assumption; apply State.antTo_kept; apply State.stop_kept; assumption
  apply kept_ite; apply State.surveyBegin_kept; apply kept_ite; assumption; apply State.antTo_kept
  apply State.stop_kept; assumption; apply kept_ite; apply State.modGnss_kept; apply State.set_kept; apply kept_ite
  assumption; apply State.antTo_kept; apply State.stop_kept; assumption; apply State.set_kept
  apply State.forEach_kept; apply kept_ite; assumption; apply State.antTo_kept; apply State.stop_kept; assumption
  apply State.channelIdle_kept

theorem State.setPos_kept {Q : List Instr} (p : Int × Int × Int) (s : State) (hG : Kept Q s) :
    Kept Q (State.setPos p s) := by
  unfold State.setPos
  try beta_reduce
  apply State.set2_kept; apply State.set2_kept; apply State.set2_kept; assumption

theorem gnssAct_kept {Q : List Instr} (action : Nat) (c : Cmd) (s : State) (hG : Kept Q s) :
    Kept Q (gnssAct action c s).1 := by
  unfold gnssAct
  try beta_reduce
  split; apply State.gnssFollow_kept; apply State.putRegs_kept; assumption; apply State.modGnss_kept
  apply State.setPos_kept; assumption; apply kept_ite1; apply State.surveyBegin_kept; assumption; assumption
  apply State.modGnss_kept; assumption

theorem specGnss_kept {Q : List Instr} (action : Nat) (c : Cmd) (s : State) (hG : Kept Q s) :
    Kept Q ((specGnss action).act c s).1 := by
  unfold specGnss
  try beta_reduce
  apply gnssAct_kept; assumption

theorem State.resetGnss_kept {Q : List Instr} (s : State) (hG : Kept Q s) :
    Kept Q (State.resetGnss s) := by
  unfold State.resetGnss
  try beta_reduce
  lift_lets -underBinder; intro x; refine (fun (hx : Kept Q x) => ?_) ?_ <;> [clear_value x; subst x]
  intro x; refine (fun (hx : Kept Q x) => ?_) ?_ <;> [clear_value x; subst x]; intro x; clear_value x
  intro x; refine (fun (hx : Kept Q x) => ?_) ?_ <;> [clear_value x; subst x]
  intro x; refine (fun (hx : Kept Q x) => ?_) ?_ <;> [clear_value x; subst x]; split; apply State.surveyBegin_kept
  assumption; apply State.set_kept; assumption; assumption; apply State.wr_kept; apply State.wr_kept; assumption
  apply State.stop_kept; apply kept_mk; apply kept_fold; assumption; apply State.forEach_kept; assumption
  intro _ _ _; try beta_reduce; apply State.wr_kept; assumption; apply State.forEach_kept; apply State.setValid_kept
  assumption; apply State.channelIdle_kept

theorem State.antMeasure_kept {Q : List Instr} (ma : Nat) (limit : Bool) (s : State) (hG : Kept Q s) :
    Kept Q (State.antMeasure ma limit s) := by
  unfold State.antMeasure
  try beta_reduce
  apply kept_ite; apply State.antTo_kept; apply State.modGnss_kept; apply State.set_kept; assumption; apply kept_ite
  apply State.set_kept; assumption; apply kept_ite; apply State.antTo_kept; apply State.set_kept; assumption
  apply kept_ite; apply kept_ite; apply State.antTo_kept; apply State.modGnss_kept; apply State.set_kept; assumption
  apply State.modGnss_kept; apply State.set_kept; assumption; apply State.antTo_kept; apply State.modGnss_kept
  apply State.set_kept; assumption

theorem State.channelWord_kept {Q : List Instr} (c : Nat) (s : State) (hG : Kept Q s) :
    Kept Q (State.channelWord c s) := by
  unfold State.channelWord
  try beta_reduce
  apply kept_ite; assumption; apply State.when_kept; apply State.modGnss_kept; apply State.start_kept; assumption
  apply State.set_kept

theorem State.gnssUtc_kept {Q : List Instr} (u : Nat × Nat × Nat) (s : State) (hG : Kept Q s) :
    Kept Q (State.gnssUtc u s) := by
  unfold State.gnssUtc
  try beta_reduce
  apply State.when_kept; apply State.set_kept; apply State.set_kept; apply State.set_kept; assumption
  apply State.takeUtc_kept

theorem State.jamBand_kept {Q : List Instr} (f ji : Fld) (v : Nat) (s : State) (hG : Kept Q s) :
    Kept Q (State.jamBand f ji v s) := by
  unfold State.jamBand
  try beta_reduce
  apply State.when_kept; apply State.setB_kept; apply State.set_kept; assumption; apply State.raise_kept

theorem State.showChannel_kept {Q : List Instr} (obs : List GnssObs) (o : GnssObs) (s : State) (hG : Kept Q s) :
    Kept Q (State.showChannel obs o s) := by
  unfold State.showChannel
  try beta_reduce
  apply kept_ite; apply State.startOnce_kept; apply State.wr_kept; apply State.wr_kept; assumption; assumption

theorem State.channelLost_kept {Q : List Instr} (obs : List GnssObs) (c : Nat) (s : State) (hG : Kept Q s) :
    Kept Q (State.channelLost obs c s) :=
  State.when_kept _ _ _ hG (fun _ h => State.wr_kept _ _ _ (State.set_kept _ _ _ h))

theorem State.surveyAdd_kept {Q : List Instr} (p : Int × Int × Int) (s : State) (hG : Kept Q s) :
    Kept Q (State.surveyAdd p s) := by
  unfold State.surveyAdd
  try beta_reduce
  apply kept_ite; apply State.raise_kept; apply State.set_kept; apply State.setPos_kept
  apply kept_mk; apply kept_fold; assumption; apply kept_mk; apply kept_fold; assumption

theorem State.updSpoof_kept {Q : List Instr} (bad : Bool) (s : State) (hG : Kept Q s) :
    Kept Q (State.updSpoof bad s) := by
  unfold State.updSpoof
  try beta_reduce
  apply kept_ite; apply State.when_kept; apply State.modGnss_kept; apply State.set_kept; assumption
  apply State.raise_kept; apply State.when_kept; apply State.modGnss_kept; assumption; apply State.set_kept

theorem execAntennaMeasure_kept {Q : List Instr} (ma : Nat) (limit : Bool) (s : State) (hG : Kept Q s) :
    KeptO Q (execAntennaMeasure ma limit s) := by
  unfold execAntennaMeasure
  try beta_reduce
  apply keptO_ite; apply keptO_next; apply State.antMeasure_kept; apply State.evalMade_kept; assumption
  apply keptO_next; assumption

theorem execAntennaShortRetry_kept {Q : List Instr} (below : Bool) (s : State) (hG : Kept Q s) :
    KeptO Q (execAntennaShortRetry below s) := by
  unfold execAntennaShortRetry
  try beta_reduce
  apply keptO_ite; apply keptO_ite; apply keptO_next; apply State.antTo_kept; apply State.modGnss_kept
  apply State.stop_kept; assumption; apply keptO_next; apply State.start_kept; assumption; apply keptO_next
  assumption

theorem execGnssChannelHold_kept {Q : List Instr} (c : Nat) (s : State) (hG : Kept Q s) :
    KeptO Q (execGnssChannelHold c s) := by
  unfold execGnssChannelHold
  try beta_reduce
  apply keptO_ite; apply keptO_next; apply State.modGnss_kept; assumption; apply keptO_next; assumption

theorem execGnssChannelIdle_kept {Q : List Instr} (c : Nat) (s : State) (hG : Kept Q s) :
    KeptO Q (execGnssChannelIdle c s) := by
  unfold execGnssChannelIdle
  try beta_reduce
  apply keptO_ite; apply keptO_next; apply State.channelIdle_kept; assumption; apply keptO_next; assumption

theorem execGnssSetColdStart_kept {Q : List Instr} (d : Submission) (s : State) (hG : Kept Q s) :
    KeptO Q (execGnssSetColdStart d s) := by
  unfold execGnssSetColdStart
  try beta_reduce
  apply keptO_next; apply CmdSpec.take_kept; assumption; apply specGnss_kept

theorem execGnssSetConfigure_kept {Q : List Instr} (d : Submission) (s : State) (hG : Kept Q s) :
    KeptO Q (execGnssSetConfigure d s) := by
  unfold execGnssSetConfigure
  try beta_reduce
  apply keptO_next; apply CmdSpec.take_kept; assumption; apply specGnss_kept

theorem execGnssSetPosition_kept {Q : List Instr} (d : Submission) (s : State) (hG : Kept Q s) :
    KeptO Q (execGnssSetPosition d s) := by
  unfold execGnssSetPosition
  try beta_reduce
  apply keptO_next; apply CmdSpec.take_kept; assumption; apply specGnss_kept

theorem execGnssSetSurveyRestart_kept {Q : List Instr} (d : Submission) (s : State) (hG : Kept Q s) :
    KeptO Q (execGnssSetSurveyRestart d s) := by
  unfold execGnssSetSurveyRestart
  try beta_reduce
  apply keptO_next; apply CmdSpec.take_kept; assumption; apply specGnss_kept

theorem execGnssSolution_kept {Q : List Instr} (g : GnssSol) (s : State) (hG : Kept Q s) :
    KeptO Q (execGnssSolution g s) := by
  unfold execGnssSolution
  try beta_reduce
  apply keptO_ite; apply keptO_next; assumption; apply keptO_next; apply State.setValid_kept; lift_lets -underBinder
  split; apply State.gnssUtc_kept; apply State.updSpoof_kept; apply State.modGnss_kept; apply kept_ite
  apply State.surveyAdd_kept; apply State.set_kept; apply State.set_kept; apply State.modGnss_kept
  apply State.start_kept; apply State.forEach_kept; apply State.forEach_kept; apply State.slotMade_kept; assumption
  apply State.channelLost_kept
  apply State.showChannel_kept; apply State.set_kept; apply State.set_kept; apply State.modGnss_kept
  apply State.start_kept; apply State.forEach_kept; apply State.forEach_kept; apply State.slotMade_kept; assumption
  apply State.channelLost_kept
  apply State.showChannel_kept; apply State.updSpoof_kept; apply State.modGnss_kept; apply kept_ite
  apply State.surveyAdd_kept; apply State.set_kept; apply State.set_kept; apply State.modGnss_kept
  apply State.start_kept; apply State.forEach_kept; apply State.forEach_kept; apply State.slotMade_kept; assumption
  apply State.channelLost_kept
  apply State.showChannel_kept; apply State.set_kept; apply State.set_kept; apply State.modGnss_kept
  apply State.start_kept; apply State.forEach_kept; apply State.forEach_kept; apply State.slotMade_kept; assumption
  apply State.channelLost_kept
  apply State.showChannel_kept

theorem execGnssSolutionTimeout_kept {Q : List Instr} (s : State) (hG : Kept Q s) :
    KeptO Q (execGnssSolutionTimeout s) := by
  unfold execGnssSolutionTimeout
  try beta_reduce
  apply keptO_ite; apply keptO_next; apply State.setValid_kept; apply State.stop_kept; assumption; apply keptO_next
  assumption

theorem execGnssTimePulse_kept {Q : List Instr} (m : Nat) (s : State) (hG : Kept Q s) :
    KeptO Q (execGnssTimePulse m s) := by
  unfold execGnssTimePulse
  try beta_reduce
  apply keptO_ite; apply keptO_next; apply State.modGnss_kept; assumption; apply keptO_next; assumption

theorem execJamEvaluate_kept {Q : List Instr} (l1 l5 : Nat) (notches : List (Int × Nat × Bool)) (s : State) (hG : Kept Q s) :
    KeptO Q (execJamEvaluate l1 l5 notches s) := by
  unfold execJamEvaluate
  try beta_reduce
  apply keptO_ite; apply keptO_next; assumption; apply keptO_next; apply kept_ite; apply State.setValid_kept
  apply State.jamBand_kept; apply State.jamBand_kept; apply State.forEach_kept; apply State.evalMade_kept
  assumption; intro _ _ _; try beta_reduce; apply State.setB_kept; apply State.set_kept; apply State.setI_kept
  assumption; apply State.jamBand_kept; apply State.jamBand_kept; apply State.forEach_kept
  apply State.evalMade_kept; assumption; intro _ _ _; try beta_reduce; apply State.setB_kept; apply State.set_kept
  apply State.setI_kept; assumption

end Sys2Proof.Machine
end

