-- ==== Sys2Proof/Laws/KeptNetTime.lean ====
section
/-! SUPPORT. The operations of Machine/NetTime.lean keep the queue, the register file and the forwarding database. -/

namespace Sys2Proof.Machine

open Sys2Proof

set_option linter.unusedTactic false

theorem State.adjusted_kept {Q : List Instr} (s : State) (hG : Kept Q s) :
    Kept Q (State.adjusted s) := by
  unfold State.adjusted
  try beta_reduce
  apply State.showError_kept; apply kept_mk; apply kept_fold; assumption

theorem adjAct_kept {Q : List Instr} (form : Nat) (c : Cmd) (s : State) (hG : Kept Q s) :
    Kept Q (adjAct form c s).1 := by
  unfold adjAct
  try beta_reduce
  apply kept_ite1; assumption; dsimp -zeta only; split; apply State.adjusted_kept; apply kept_mk; apply kept_fold
  assumption; apply State.adjusted_kept; apply State.stepTime_kept; assumption; apply State.adjusted_kept
  apply kept_ite; apply State.stepTime_kept; assumption; apply State.firstSet_kept; assumption

theorem specAdjust_kept {Q : List Instr} (form : Nat) (c : Cmd) (s : State) (hG : Kept Q s) :
    Kept Q ((specAdjust form).act c s).1 := by
  unfold specAdjust
  try beta_reduce
  apply adjAct_kept; assumption

theorem State.showDir_kept {Q : List Instr} (p : Nat) (s : State) (hG : Kept Q s) :
    Kept Q (State.showDir p s) := by
  unfold State.showDir
  try beta_reduce
  apply State.set_kept; apply State.set_kept; assumption

theorem State.kplConfigure_kept {Q : List Instr} (p cfg asym : Nat) (s : State) (hG : Kept Q s) :
    Kept Q (State.kplConfigure p cfg asym s) := by
  unfold State.kplConfigure
  try beta_reduce
  apply State.showDir_kept; apply State.kplEval_kept; apply State.when_kept; apply State.wr_kept
  apply State.wr_kept; assumption; apply State.requalify_kept

theorem specKpl_kept {Q : List Instr} (c : Cmd) (s : State) (hG : Kept Q s) :
    Kept Q (specKpl.act c s).1 := by
  unfold specKpl
  try beta_reduce
  apply kept_ite1; assumption; apply State.kplConfigure_kept; assumption

theorem State.ptpFollow_kept {Q : List Instr} (p : Nat) (s : State) (hG : Kept Q s) :
    Kept Q (State.ptpFollow p s) := by
  unfold State.ptpFollow
  try beta_reduce
  apply State.showDir_kept; apply State.when_kept; assumption; intro _ _; try beta_reduce; apply State.stop_kept
  apply State.stop_kept; apply kept_mk; apply kept_fold; assumption

theorem State.setSource_kept {Q : List Instr} (u : Option (Nat × Nat)) (s : State) (hG : Kept Q s) :
    Kept Q (State.setSource u s) := by
  unfold State.setSource
  try beta_reduce
  apply State.updClockQual_kept; apply State.when_kept; apply State.showSource_kept; apply kept_mk; apply kept_fold
  assumption; apply State.raise_kept

theorem State.setRole_kept {Q : List Instr} (r : Nat) (s : State) (hG : Kept Q s) :
    Kept Q (State.setRole r s) := by
  unfold State.setRole
  try beta_reduce
  apply State.updClockQual_kept; apply State.forEach_kept; apply State.forEach_kept; apply State.when_kept
  apply State.dpModeChange_kept; apply State.forEach_kept; apply kept_ite; apply State.set_kept
  apply State.set_kept; apply State.set_kept; apply State.set_kept; apply State.set_kept; assumption; apply kept_ite
  apply State.set_kept; apply State.set_kept; apply State.set_kept; apply State.set_kept; apply State.set_kept
  assumption; apply State.set_kept; apply State.set_kept; apply State.set_kept; apply State.set_kept
  apply State.set_kept; assumption; apply State.showSlot_kept; apply State.setSource_kept; apply State.kplEval_kept
  apply State.ptpFollow_kept

theorem specRole_kept {Q : List Instr} (c : Cmd) (s : State) (hG : Kept Q s) :
    Kept Q (specRole.act c s).1 := by
  unfold specRole
  try beta_reduce
  apply State.setRole_kept; assumption

theorem State.asymKpl_kept {Q : List Instr} (p : Nat) (off : Int) (s : State) (hG : Kept Q s) :
    Kept Q (State.asymKpl p off s) := by
  unfold State.asymKpl
  try beta_reduce
  apply kept_mk; apply kept_fold; assumption

theorem State.coreSend_kept {Q : List Instr} (p : Nat) (l : List Byte) (ts : Option Nat) (s : State) (hG : Kept Q s) :
    Kept Q (State.coreSend p l ts s) := by
  unfold State.coreSend
  try beta_reduce
  with_reducible apply kept_ite; with_reducible assumption; with_reducible apply State.updHeld_kept
  with_reducible apply State.addFrame_kept; with_reducible apply State.enter_kept
  with_reducible apply State.free_kept; with_reducible assumption

theorem State.estimate_kept {Q : List Instr} (o : Int) (s : State) (hG : Kept Q s) :
    Kept Q (State.estimate o s) := by
  unfold State.estimate
  try beta_reduce
  apply kept_mk; apply kept_fold; assumption

theorem State.kplBad_kept {Q : List Instr} (p : Nat) (s : State) (hG : Kept Q s) :
    Kept Q (State.kplBad p s) := by
  unfold State.kplBad
  try beta_reduce
  apply State.raise_kept; apply State.count_kept; assumption

theorem State.kplDown_kept {Q : List Instr} (p : Nat) (s : State) (hG : Kept Q s) :
    Kept Q (State.kplDown p s) := by
  unfold State.kplDown
  try beta_reduce
  apply State.raise_kept; apply State.showDir_kept; apply State.setKpl_kept; assumption

theorem State.kplPublish_kept {Q : List Instr} (p : Nat) (s : State) (hG : Kept Q s) :
    Kept Q (State.kplPublish p s) := by
  unfold State.kplPublish
  try beta_reduce
  apply State.when_kept; lift_lets -underBinder; split; apply State.when_kept; apply State.set_kept
  apply State.setI_kept; apply State.modKpl_kept; assumption; apply State.estimate_kept; apply State.modKpl_kept
  assumption; apply State.raise_kept

theorem State.kplTimeMsg_kept {Q : List Instr} (seq t1 : Nat) (s : State) (hG : Kept Q s) :
    Kept Q (State.kplTimeMsg seq t1 s).2 := by
  unfold State.kplTimeMsg
  try beta_reduce
  with_reducible apply State.free_kept; with_reducible assumption

theorem State.pduTaken_kept {Q : List Instr} (p : Nat) (l : List Byte) (s : State) (hG : Kept Q s) :
    Kept Q (State.pduTaken p l s) := by
  unfold State.pduTaken
  try beta_reduce
  apply State.updHeld_kept; apply State.lastByte_kept; assumption

theorem State.peerHeard_kept {Q : List Instr} (p : Nat) (k : KplPeer) (s : State) (hG : Kept Q s) :
    Kept Q (State.peerHeard p k s) := by
  unfold State.peerHeard
  try beta_reduce
  apply State.showDir_kept; apply State.kplEval_kept; apply State.set2_kept; apply State.start_kept
  apply State.modKpl_kept; assumption

theorem State.ptpPublish_kept {Q : List Instr} (p : Nat) (s : State) (hG : Kept Q s) :
    Kept Q (State.ptpPublish p s) := by
  unfold State.ptpPublish
  try beta_reduce
  apply State.when_kept; lift_lets -underBinder; split; apply State.when_kept; apply State.modPtp_kept; assumption
  apply State.estimate_kept; apply State.modPtp_kept; assumption; apply State.raise_kept

theorem State.showDirs_kept {Q : List Instr} (s : State) (hG : Kept Q s) :
    Kept Q (State.showDirs s) := by
  unfold State.showDirs
  try beta_reduce
  apply State.forEach_kept; assumption; apply State.showDir_kept

theorem execBmcaEvaluate_kept {Q : List Instr} (s : State) (hG : Kept Q s) :
    KeptO Q (execBmcaEvaluate s) := by
  unfold execBmcaEvaluate
  try beta_reduce
  apply keptO_ite; apply keptO_next; apply State.showDirs_kept; apply State.setSource_kept; assumption
  apply keptO_next; assumption

theorem execKplMarkReceive_kept {Q : List Instr} (p tm n : Nat) (bs : List (Nat × Nat × Nat)) (bad : Bool) (dtm dn : Nat) (s : State) (hG : Kept Q s) :
    KeptO Q (execKplMarkReceive p tm n bs bad dtm dn s) := by
  unfold execKplMarkReceive
  try beta_reduce
  apply keptO_ite; apply keptO_next; assumption; apply keptO_ite; apply keptO_next; apply State.kplBad_kept
  assumption; apply keptO_next; apply State.modKpl_kept; assumption

theorem execKplReplyReceive_kept {Q : List Instr} (p tm n : Nat) (bs : List (Nat × Nat × Nat)) (bad : Bool) (s : State) (hG : Kept Q s) :
    KeptO Q (execKplReplyReceive p tm n bs bad s) := by
  unfold execKplReplyReceive
  try beta_reduce
  apply keptO_ite; apply keptO_next; assumption; apply keptO_ite; apply keptO_next; apply State.kplBad_kept
  assumption; dsimp -zeta only; lift_lets -underBinder; intro x; clear_value x; intro x; clear_value x; split
  apply keptO_next; assumption; lift_lets -underBinder; intro x; clear_value x
  intro x; refine (fun (hx : Kept Q x) => ?_) ?_ <;> [clear_value x; subst x]
  intro x; refine (fun (hx : Kept Q x) => ?_) ?_ <;> [clear_value x; subst x]; intro x; clear_value x
  intro x; clear_value x; split; apply keptO_next; assumption; apply keptO_next; apply State.modKpl_kept
  apply State.when_kept; assumption; apply State.asymKpl_kept; apply State.modKpl_kept; apply State.count_kept
  assumption; apply State.setB_kept; apply State.setB_kept; assumption

theorem execKplReplyTimeout_kept {Q : List Instr} (p : Nat) (s : State) (hG : Kept Q s) :
    KeptO Q (execKplReplyTimeout p s) := by
  unfold execKplReplyTimeout
  try beta_reduce
  split; apply keptO_ite; apply keptO_next; apply kept_ite; apply State.kplDown_kept; apply State.modKpl_kept
  apply State.bump_kept; apply State.count_kept; assumption; apply State.modKpl_kept; apply State.bump_kept
  apply State.count_kept; assumption; apply keptO_next; assumption; apply keptO_next; assumption

theorem execKplServoPublish_kept {Q : List Instr} (s : State) (hG : Kept Q s) :
    KeptO Q (execKplServoPublish s) := by
  unfold execKplServoPublish
  try beta_reduce
  apply keptO_ite; apply keptO_next; apply State.forEach_kept; apply State.forEach_kept; apply State.evalMade_kept
  assumption; intro _ _ _; try beta_reduce; apply State.kplPublish_kept; assumption; intro _ _ _; try beta_reduce
  apply State.ptpPublish_kept; assumption; apply keptO_next; assumption

theorem execKplSet_kept {Q : List Instr} (d : Submission) (s : State) (hG : Kept Q s) :
    KeptO Q (execKplSet d s) := by
  unfold execKplSet
  try beta_reduce
  apply keptO_next; apply CmdSpec.take_kept; assumption; apply specKpl_kept

theorem execKplSlot_kept {Q : List Instr} (p tm n : Nat) (s : State) (hG : Kept Q s) :
    KeptO Q (execKplSlot p tm n s) := by
  unfold execKplSlot
  try beta_reduce
  apply keptO_ite; apply keptO_next; apply State.modKpl_kept; apply State.count_kept; apply kept_ite2
  apply State.kplTimeMsg_kept; assumption; assumption; apply keptO_next; assumption

theorem execKplTimeReceive_kept {Q : List Instr} (p : Nat) (bs : List (Nat × Nat × Nat)) (bad : Bool) (s : State) (hG : Kept Q s) :
    KeptO Q (execKplTimeReceive p bs bad s) := by
  unfold execKplTimeReceive
  try beta_reduce
  apply keptO_ite; apply keptO_next; assumption; apply keptO_ite; apply keptO_next; apply State.kplBad_kept
  assumption; apply keptO_next; apply State.when_kept; apply State.modKpl_kept; assumption; apply State.takeUtc_kept

theorem execLldpSend_kept {Q : List Instr} (p : Nat) (s : State) (hG : Kept Q s) :
    KeptO Q (execLldpSend p s) := by
  unfold execLldpSend
  try beta_reduce
  apply keptO_ite; apply keptO_next; apply State.coreSend_kept; apply State.slotMade_kept; assumption
  apply keptO_next; assumption

theorem execLldpTtlExpiry_kept {Q : List Instr} (p : Nat) (s : State) (hG : Kept Q s) :
    KeptO Q (execLldpTtlExpiry p s) := by
  unfold execLldpTtlExpiry
  try beta_reduce
  split; apply keptO_ite; apply keptO_next; apply kept_ite; apply State.kplDown_kept; apply State.modKpl_kept
  apply State.stop_kept; assumption; apply State.showDir_kept; apply State.modKpl_kept; apply State.stop_kept
  assumption; apply keptO_next; assumption; apply keptO_next; assumption

theorem execLldpduReceive_kept {Q : List Instr} (p : Nat) (l : List Byte) (s : State) (hG : Kept Q s) :
    KeptO Q (execLldpduReceive p l s) := by
  unfold execLldpduReceive
  try beta_reduce
  split; apply keptO_next; apply State.pduTaken_kept; assumption; lift_lets -underBinder; intro x; clear_value x
  intro x; refine (fun (hx : Kept Q x) => ?_) ?_ <;> [clear_value x; subst x]; split; apply keptO_ite
  apply keptO_next; apply State.peerHeard_kept; assumption; apply keptO_next; assumption; apply keptO_next
  assumption; apply State.count_kept; apply State.pduTaken_kept; assumption

theorem execTimeAdjustSet_kept {Q : List Instr} (d : Submission) (s : State) (hG : Kept Q s) :
    KeptO Q (execTimeAdjustSet d s) := by
  unfold execTimeAdjustSet
  try beta_reduce
  apply keptO_next; apply CmdSpec.take_kept; assumption; apply specAdjust_kept

theorem execTimeAdjustSlew_kept {Q : List Instr} (d : Submission) (s : State) (hG : Kept Q s) :
    KeptO Q (execTimeAdjustSlew d s) := by
  unfold execTimeAdjustSlew
  try beta_reduce
  apply keptO_next; apply CmdSpec.take_kept; assumption; apply specAdjust_kept

theorem execTimeAdjustStep_kept {Q : List Instr} (d : Submission) (s : State) (hG : Kept Q s) :
    KeptO Q (execTimeAdjustStep d s) := by
  unfold execTimeAdjustStep
  try beta_reduce
  apply keptO_next; apply CmdSpec.take_kept; assumption; apply specAdjust_kept

theorem execTimeFirstSet_kept {Q : List Instr} (s : State) (hG : Kept Q s) :
    KeptO Q (execTimeFirstSet s) := by
  unfold execTimeFirstSet
  try beta_reduce
  lift_lets -underBinder; intro x; clear_value x; intro x; clear_value x; split; apply keptO_ite; apply keptO_next
  apply State.firstSet_kept; assumption; apply keptO_next; assumption; apply keptO_next; assumption

theorem execTimingRole_kept {Q : List Instr} (d : Submission) (s : State) (hG : Kept Q s) :
    KeptO Q (execTimingRole d s) := by
  unfold execTimingRole
  try beta_reduce
  apply keptO_next; apply CmdSpec.take_kept; assumption; apply specRole_kept

end Sys2Proof.Machine
end

