-- ==== Sys2Proof/Laws/KeptCal.lean ====
section
/-! SUPPORT. The operations of Machine/Cal.lean keep the queue, the register file and the forwarding database. -/

namespace Sys2Proof.Machine

open Sys2Proof

set_option linter.unusedTactic false

theorem State.calReport_kept {Q : List Instr} (s : State) (hG : Kept Q s) :
    Kept Q (State.calReport s) := by
  unfold State.calReport
  try beta_reduce
  apply State.forEach_kept; apply kept_mk; apply kept_fold; assumption; intro _ _ _; try beta_reduce; split
  apply State.finish_kept; assumption; assumption

theorem State.calNotRun_kept {Q : List Instr} (i : Nat) (s : State) (hG : Kept Q s) :
    Kept Q (State.calNotRun i s) := by
  unfold State.calNotRun
  try beta_reduce
  apply State.when_kept; apply State.stop_kept; apply State.set_kept; apply kept_mk; apply kept_fold; assumption
  intro _ _; try beta_reduce; apply State.event_kept; assumption

theorem State.calRound_kept {Q : List Instr} (s : State) (hG : Kept Q s) :
    Kept Q (State.calRound s) := by
  unfold State.calRound
  try beta_reduce
  apply State.forEach_kept; apply State.forEach_kept; apply kept_mk; apply kept_fold; assumption
  intro _ _ _; try beta_reduce; apply State.start_kept; assumption; apply State.calNotRun_kept

theorem State.showCal_kept {Q : List Instr} (s : State) (hG : Kept Q s) :
    Kept Q (State.showCal s) := by
  unfold State.showCal
  try beta_reduce
  apply State.setB_kept; apply State.setB_kept; apply State.setB_kept; assumption

theorem State.showPending_kept {Q : List Instr} (s : State) (hG : Kept Q s) :
    Kept Q (State.showPending s) := by
  unfold State.showPending
  try beta_reduce
  apply State.forEach_kept; assumption; intro _ _ _; try beta_reduce; apply State.setB_kept; assumption

theorem State.calGo_kept {Q : List Instr} (k : Nat) (s : State) (hG : Kept Q s) :
    Kept Q (State.calGo k s) := by
  unfold State.calGo
  try beta_reduce
  apply State.showCal_kept; apply State.showPending_kept; apply State.calReport_kept; apply State.forEach_kept
  assumption; intro _ _ _; try beta_reduce; apply State.calRound_kept; assumption

theorem State.calAbsorb_kept {Q : List Instr} (items : List Nat) (s : State) (hG : Kept Q s) :
    Kept Q (State.calAbsorb items s) := by
  unfold State.calAbsorb
  try beta_reduce
  apply kept_mk; apply kept_fold; assumption

theorem calAct_kept {Q : List Instr} (target : Nat) (c : Cmd) (s : State) (hG : Kept Q s) :
    Kept Q (calAct target c s).1 := by
  unfold calAct
  try beta_reduce
  apply kept_ite1; apply kept_ite1; assumption; apply State.showCal_kept; apply kept_mk; apply kept_fold; assumption
  apply kept_mk; apply kept_fold; apply State.calAbsorb_kept; assumption

theorem specCalRun_kept {Q : List Instr} (target : Nat) (c : Cmd) (s : State) (hG : Kept Q s) :
    Kept Q ((specCalRun target).act c s).1 := by
  unfold specCalRun
  try beta_reduce
  apply calAct_kept; assumption

theorem specCalStore_kept {Q : List Instr} (c : Cmd) (s : State) (hG : Kept Q s) :
    Kept Q (specCalStore.act c s).1 := by
  unfold specCalStore
  try beta_reduce
  apply kept_ite1; assumption; apply kept_ite1; assumption; apply State.storeStart_kept; assumption

theorem State.asymEnd_kept {Q : List Instr} (a : AsymRun) (s : State) (hG : Kept Q s) :
    Kept Q (State.asymEnd a s) := by
  unfold State.asymEnd
  try beta_reduce
  with_reducible apply State.showCal_kept; with_reducible apply State.when_kept
  with_reducible apply State.free_kept; with_reducible apply State.finish_kept
  (fail_if_no_progress (with_reducible apply kept_mk; with_reducible apply kept_fold)); with_reducible assumption
  with_reducible apply State.completeCmd_kept

theorem State.calDiscard_kept {Q : List Instr} (hit : Nat → Bool) (s : State) (hG : Kept Q s) :
    Kept Q (State.calDiscard hit s) := by
  unfold State.calDiscard
  try beta_reduce
  apply kept_ite; apply kept_mk; apply kept_fold; assumption; apply State.calGo_kept; apply State.forEach_kept
  apply kept_mk; apply kept_fold; assumption; apply State.calNotRun_kept

theorem State.calEnd_kept {Q : List Instr} (i : Nat) (vals : List (Int × Nat)) (s : State) (hG : Kept Q s) :
    Kept Q (State.calEnd i vals s) := by
  unfold State.calEnd
  try beta_reduce
  apply State.when_kept; apply kept_ite; apply kept_mk; apply kept_fold; apply State.setI_kept; apply State.set_kept
  apply kept_mk; apply kept_fold; apply State.start_kept; apply State.stop_kept; apply State.set_kept
  apply kept_mk; apply kept_fold; assumption; apply State.raise_kept; apply State.set_kept
  apply kept_mk; apply kept_fold; apply State.start_kept; apply State.stop_kept; apply State.set_kept
  apply kept_mk; apply kept_fold; assumption; intro _ _; try beta_reduce; apply State.event_kept; assumption

theorem State.setCalValue_kept {Q : List Instr} (i : Nat) (a b : Int) (s : State) (hG : Kept Q s) :
    Kept Q (State.setCalValue i a b s) := by
  unfold State.setCalValue
  try beta_reduce
  apply kept_ite; apply State.wr_kept; apply State.wr_kept; assumption; apply kept_ite; apply State.wr_kept
  assumption; apply kept_mk; apply kept_fold; assumption

theorem State.calLoad_kept {Q : List Instr} (l : List Byte) (s : State) (hG : Kept Q s) :
    Kept Q (State.calLoad l s) := by
  unfold State.calLoad
  try beta_reduce
  apply kept_ite; assumption; apply State.forEach_kept; assumption; intro _ _ _; try beta_reduce; apply kept_ite
  assumption; apply kept_ite; apply State.setCalValue_kept; apply State.eqChange_kept; intro _ _; try beta_reduce
  apply State.set_kept; apply State.set_kept; assumption; apply kept_mk; apply kept_fold; apply State.start_kept
  apply State.set_kept; apply State.set_kept; assumption; apply State.setCalValue_kept
  apply kept_mk; apply kept_fold; apply State.start_kept; apply State.set_kept; apply State.set_kept; assumption

theorem State.calMoveAll_kept {Q : List Instr} (s : State) (hG : Kept Q s) :
    Kept Q (State.calMoveAll s) := by
  unfold State.calMoveAll
  try beta_reduce
  apply kept_mk; apply kept_fold; apply State.forEach_kept; assumption; intro _ _ _; try beta_reduce
  apply State.setCalValue_kept; assumption

theorem State.calRun_kept {Q : List Instr} (target : Nat) (d : Submission) (s : State) (hG : Kept Q s) :
    Kept Q (State.calRun target d s) := by
  unfold State.calRun
  try beta_reduce
  apply State.when_kept; apply CmdSpec.take_kept; assumption; apply specCalRun_kept; apply State.calGo_kept

theorem State.calWatch_kept {Q : List Instr} (s : State) (hG : Kept Q s) :
    Kept Q (State.calWatch s) := by
  unfold State.calWatch
  try beta_reduce
  apply State.forEach_kept; apply kept_ite; assumption; apply State.calGo_kept; apply State.forEach_kept; assumption
  apply State.calNotRun_kept; apply State.asymEnd_kept

theorem execCalAutoEvaluate_kept {Q : List Instr} (s : State) (hG : Kept Q s) :
    KeptO Q (execCalAutoEvaluate s) := by
  unfold execCalAutoEvaluate
  try beta_reduce
  apply keptO_ite; apply keptO_next; assumption; apply keptO_ite; apply keptO_next; apply State.evalMade_kept
  assumption; apply keptO_next; apply State.calGo_kept; apply State.forEach_kept; apply State.evalMade_kept
  assumption; intro _ _ _; try beta_reduce; apply State.raise_kept; apply kept_mk; apply kept_fold; assumption

theorem execCalItemDone_kept {Q : List Instr} (d : CalDone) (s : State) (hG : Kept Q s) :
    KeptO Q (execCalItemDone d s) := by
  unfold execCalItemDone
  try beta_reduce
  split; apply keptO_ite; apply keptO_next; apply State.calGo_kept; apply kept_ite; apply State.calEnd_kept
  assumption; apply State.calNotRun_kept; assumption; apply keptO_next; assumption; apply keptO_ite
  apply keptO_next; apply State.calGo_kept; apply State.calNotRun_kept; assumption; apply keptO_next; assumption
  split; apply keptO_ite; apply keptO_next; apply State.asymEnd_kept; assumption; apply keptO_next; assumption
  apply keptO_next; assumption

theorem execCalRunAsym_kept {Q : List Instr} (d : Submission) (s : State) (hG : Kept Q s) :
    KeptO Q (execCalRunAsym d s) := by
  unfold execCalRunAsym
  try beta_reduce
  apply keptO_next; apply State.calRun_kept; assumption

theorem execCalRunCore_kept {Q : List Instr} (d : Submission) (s : State) (hG : Kept Q s) :
    KeptO Q (execCalRunCore d s) := by
  unfold execCalRunCore
  try beta_reduce
  apply keptO_next; apply State.calRun_kept; assumption

theorem execCalRunGnss_kept {Q : List Instr} (d : Submission) (s : State) (hG : Kept Q s) :
    KeptO Q (execCalRunGnss d s) := by
  unfold execCalRunGnss
  try beta_reduce
  apply keptO_next; apply State.calRun_kept; assumption

theorem execCalRunLanes_kept {Q : List Instr} (d : Submission) (s : State) (hG : Kept Q s) :
    KeptO Q (execCalRunLanes d s) := by
  unfold execCalRunLanes
  try beta_reduce
  apply keptO_next; apply State.calRun_kept; assumption

theorem execCalRunMi_kept {Q : List Instr} (d : Submission) (s : State) (hG : Kept Q s) :
    KeptO Q (execCalRunMi d s) := by
  unfold execCalRunMi
  try beta_reduce
  apply keptO_next; apply State.calRun_kept; assumption

theorem execCalRunOutputLoop_kept {Q : List Instr} (d : Submission) (s : State) (hG : Kept Q s) :
    KeptO Q (execCalRunOutputLoop d s) := by
  unfold execCalRunOutputLoop
  try beta_reduce
  apply keptO_next; apply State.calRun_kept; assumption

theorem execCalRunOutputs_kept {Q : List Instr} (d : Submission) (s : State) (hG : Kept Q s) :
    KeptO Q (execCalRunOutputs d s) := by
  unfold execCalRunOutputs
  try beta_reduce
  apply keptO_next; apply State.calRun_kept; assumption

theorem execCalStore_kept {Q : List Instr} (d : Submission) (s : State) (hG : Kept Q s) :
    KeptO Q (execCalStore d s) := by
  unfold execCalStore
  try beta_reduce
  apply keptO_next; apply CmdSpec.take_kept; assumption; apply specCalStore_kept

theorem execMiCalGapTimeout_kept {Q : List Instr} (k : Nat) (s : State) (hG : Kept Q s) :
    KeptO Q (execMiCalGapTimeout k s) := by
  unfold execMiCalGapTimeout
  try beta_reduce
  apply keptO_ite; apply keptO_next; apply State.calGo_kept; apply State.calNotRun_kept; assumption
  apply keptO_next; assumption

end Sys2Proof.Machine
end

