-- ==== Sys2Proof/Laws/KeptEgress.lean ====
section
/-! SUPPORT. The operations of Machine/Egress.lean keep the queue, the register file and the forwarding database. -/

namespace Sys2Proof.Machine

open Sys2Proof

set_option linter.unusedTactic false

theorem State.frerCount_kept {Q : List Instr} (h i n : Nat) (s : State) (hG : Kept Q s) :
    Kept Q (State.frerCount h i n s) := by
  unfold State.frerCount
  try beta_reduce
  apply State.count_kept; assumption

theorem State.setFrer_kept {Q : List Instr} (h recov hist : Nat) (takeAny : Bool) (s : State) (hG : Kept Q s) :
    Kept Q (State.setFrer h recov hist takeAny s) := by
  unfold State.setFrer
  try beta_reduce
  apply State.set2_kept; apply State.setB_kept; apply State.set_kept; assumption

theorem State.frerReset_kept {Q : List Instr} (h : Nat) (s : State) (hG : Kept Q s) :
    Kept Q (State.frerReset h s) := by
  unfold State.frerReset
  try beta_reduce
  apply State.raise_kept; apply State.stop_kept; apply State.frerCount_kept; apply State.setFrer_kept; assumption

theorem specFrerReset_kept {Q : List Instr} (c : Cmd) (s : State) (hG : Kept Q s) :
    Kept Q (specFrerReset.act c s).1 := by
  unfold specFrerReset
  try beta_reduce
  apply kept_ite1; apply State.frerReset_kept; assumption; assumption

theorem State.frerModes_kept {Q : List Instr} (old new : Nat) (s : State) (hG : Kept Q s) :
    Kept Q (State.frerModes old new s) := by
  unfold State.frerModes
  try beta_reduce
  apply State.set_kept; apply State.set_kept; assumption

theorem specFrerWrite_kept {Q : List Instr} (c : Cmd) (s : State) (hG : Kept Q s) :
    Kept Q (specFrerWrite.act c s).1 := by
  unfold specFrerWrite
  try beta_reduce
  apply State.stop_kept; apply State.setFrer_kept; apply State.wrWords_kept; apply State.frerModes_kept; assumption

theorem specRationsEgress_kept {Q : List Instr} (c : Cmd) (s : State) (hG : Kept Q s) :
    Kept Q (specRationsEgress.act c s).1 := by
  unfold specRationsEgress
  try beta_reduce
  apply State.putRegs_kept; assumption

theorem specRationsWeight_kept {Q : List Instr} (c : Cmd) (s : State) (hG : Kept Q s) :
    Kept Q (specRationsWeight.act c s).1 := by
  unfold specRationsWeight
  try beta_reduce
  apply State.putRegs_kept; assumption

theorem State.clearRations_kept {Q : List Instr} (e : Nat) (s : State) (hG : Kept Q s) :
    Kept Q (State.clearRations e s) := by
  unfold State.clearRations
  try beta_reduce
  apply kept_mk; apply kept_fold; assumption

theorem State.dealPool_kept {Q : List Instr} (e cap x2 x3 : Nat) (x4 : List Nat) (x5 : State) (hG : Kept Q x5) :
    Kept Q (State.dealPool e cap x2 x3 x4 x5).2 := by
  induction x2 generalizing e cap x3 x4 x5 hG
  on_goal 2 => rename_i k ih
  all_goals unfold State.dealPool
  assumption; apply kept_ite2; assumption; apply ih; apply State.forEach_kept; assumption
  intro _ _ _; try beta_reduce; apply kept_mk; apply kept_fold; assumption

theorem State.dealPort_kept {Q : List Instr} (e : Nat) (s : State) (hG : Kept Q s) :
    Kept Q (State.dealPort e s) := by
  unfold State.dealPort
  try beta_reduce
  with_reducible apply kept_ite; with_reducible apply kept_ite; with_reducible apply State.raise_kept
  with_reducible apply State.set_kept; with_reducible apply State.clearRations_kept; with_reducible assumption
  with_reducible assumption; with_reducible apply kept_ite; with_reducible apply State.set_kept
  with_reducible apply State.set_kept; with_reducible apply State.clearRations_kept; with_reducible assumption
  with_reducible apply State.set_kept
  (fail_if_no_progress (with_reducible apply kept_mk; with_reducible apply kept_fold))
  with_reducible apply State.forEach_kept; with_reducible apply State.dealPool_kept; with_reducible assumption
  (intro _ _ _; try beta_reduce)
  (fail_if_no_progress (with_reducible apply kept_mk; with_reducible apply kept_fold)); with_reducible assumption

theorem State.sentUnits_kept {Q : List Instr} (p c bytes : Nat) (s : State) (hG : Kept Q s) :
    Kept Q (State.sentUnits p c bytes s) := by
  unfold State.sentUnits
  try beta_reduce
  apply kept_ite; apply kept_mk; apply kept_fold; assumption; assumption

theorem State.tickSending_kept {Q : List Instr} (d : Nat) (s : State) (hG : Kept Q s) :
    Kept Q (State.tickSending d s) := by
  unfold State.tickSending
  try beta_reduce
  apply State.forEach_kept; assumption; intro _ _ _; try beta_reduce; split; assumption; apply State.sentUnits_kept
  apply State.modFrame_kept; assumption

theorem State.endTx_kept {Q : List Instr} (id p : Nat) (f : Frame) (cause : Option Nat) (s : State) (hG : Kept Q s) :
    Kept Q (State.endTx id p f cause s) := by
  unfold State.endTx
  try beta_reduce
  apply State.endFrame_kept; apply State.modFrame_kept; lift_lets -underBinder; split; apply State.bobbinAdd_kept
  lift_lets -underBinder; split; apply State.raise_kept; apply State.traffic_kept; apply State.sentUnits_kept
  apply State.traffic_kept; apply State.traffic_kept; apply kept_mk; apply kept_fold; apply State.tcStep_kept
  assumption; apply State.sentUnits_kept; apply State.traffic_kept; apply State.traffic_kept
  apply kept_mk; apply kept_fold; apply State.tcStep_kept; assumption; split; apply State.raise_kept
  apply State.traffic_kept; apply State.sentUnits_kept; apply State.traffic_kept; apply State.traffic_kept
  apply kept_mk; apply kept_fold; apply State.tcStep_kept; assumption; apply State.sentUnits_kept
  apply State.traffic_kept; apply State.traffic_kept; apply kept_mk; apply kept_fold; apply State.tcStep_kept
  assumption

theorem State.noteDemand_kept {Q : List Instr} (n : Nat) (s : State) (hG : Kept Q s) :
    Kept Q (State.noteDemand n s) := by
  unfold State.noteDemand
  try beta_reduce
  apply State.forEach_kept; assumption; intro _ _ _; try beta_reduce; apply State.forEach_kept; assumption
  intro _ _ _; try beta_reduce; apply kept_mk; apply kept_fold; assumption

theorem State.frerAccept_kept {Q : List Instr} (h : Nat) (s : State) (hG : Kept Q s) :
    Kept Q (State.frerAccept h s) := by
  unfold State.frerAccept
  try beta_reduce
  apply State.start_kept; apply State.frerCount_kept; assumption

theorem State.frerMatch_kept {Q : List Instr} (h n : Nat) (s : State) (hG : Kept Q s) :
    Kept Q (State.frerMatch h n s).2 := by
  unfold State.frerMatch
  try beta_reduce
  apply kept_ite2; apply State.frerCount_kept; assumption; apply State.frerAccept_kept; apply kept_ite
  apply State.frerCount_kept; apply State.setFrer_kept; assumption; apply State.setFrer_kept; assumption

theorem State.frerVector_kept {Q : List Instr} (h n : Nat) (s : State) (hG : Kept Q s) :
    Kept Q (State.frerVector h n s).2 := by
  unfold State.frerVector
  extract_lets recov hist len d k k'
  by_cases h1 : d ≥ len ∨ d ≤ -(len : Int)
  · rw [if_pos h1]
    exact State.frerCount_kept _ _ _ _ hG
  · rw [if_neg h1]
    by_cases h2 : d ≤ 0
    · rw [if_pos h2]
      by_cases h3 : bit hist k
      · rw [if_pos h3]
        exact State.frerCount_kept _ _ _ _ hG
      · rw [if_neg h3]
        exact State.frerAccept_kept _ _ (State.frerCount_kept _ _ _ _ (State.setFrer_kept _ _ _ _ _ hG))
    · rw [if_neg h2]
      refine State.frerAccept_kept _ _ ?_
      have hs := State.setFrer_kept h n ((hist * 2 ^ k' + 1) % 2 ^ len) false _ (State.frerCount_kept h 5 (zeroBits hist (len - k') len) s hG)
      exact kept_ite (State.frerCount_kept _ _ _ _ hs) hs

theorem State.startTx_kept {Q : List Instr} (id p t : Nat) (s : State) (hG : Kept Q s) :
    Kept Q (State.startTx id p t s) := by
  unfold State.startTx
  try beta_reduce
  apply State.updEgress_kept; apply State.modFrame_kept; assumption

theorem State.launchNow_kept {Q : List Instr} (p t : Nat) (s : State) (hG : Kept Q s) :
    KeptM Q (State.launchNow p t s) := by
  unfold State.launchNow
  try beta_reduce
  split; exact keptM_none; apply keptM_ite; exact keptM_none; apply keptM_ite; apply keptM_ite; apply keptM_some
  apply State.shedMissed_kept; assumption; apply keptM_some; apply State.startTx_kept; apply State.modFrame_kept
  apply State.traffic_kept; apply State.raise_kept; assumption; apply keptM_some; apply State.startTx_kept
  assumption

theorem State.recover_kept {Q : List Instr} (id p : Nat) (f : Frame) (s : State) (hG : Kept Q s) :
    Kept Q (State.recover id p f s).2 := by
  unfold State.recover
  try beta_reduce
  dsimp -zeta only; split; assumption; apply kept_ite2; assumption; apply kept_ite2; apply State.raise_kept
  assumption; apply kept_ite; apply State.modFrame_kept; apply kept_ite; apply State.raise_kept
  lift_lets -underBinder; split; apply kept_ite2; apply State.frerCount_kept; apply State.frerCount_kept; assumption
  apply State.frerCount_kept; assumption; apply kept_ite2; apply State.frerMatch_kept; assumption; apply kept_ite2
  apply State.frerAccept_kept; apply State.setFrer_kept; assumption; apply State.frerVector_kept; assumption
  lift_lets -underBinder; split; apply kept_ite2; apply State.frerCount_kept; apply State.frerCount_kept; assumption
  apply State.frerCount_kept; assumption; apply kept_ite2; apply State.frerMatch_kept; assumption; apply kept_ite2
  apply State.frerAccept_kept; apply State.setFrer_kept; assumption; apply State.frerVector_kept; assumption
  apply kept_ite; apply State.raise_kept; lift_lets -underBinder; split; apply kept_ite2; apply State.frerCount_kept
  apply State.frerCount_kept; assumption; apply State.frerCount_kept; assumption; apply kept_ite2
  apply State.frerMatch_kept; assumption; apply kept_ite2; apply State.frerAccept_kept; apply State.setFrer_kept
  assumption; apply State.frerVector_kept; assumption; lift_lets -underBinder; split; apply kept_ite2
  apply State.frerCount_kept; apply State.frerCount_kept; assumption; apply State.frerCount_kept; assumption
  apply kept_ite2; apply State.frerMatch_kept; assumption; apply kept_ite2; apply State.frerAccept_kept
  apply State.setFrer_kept; assumption; apply State.frerVector_kept; assumption

theorem State.nextPass_kept {Q : List Instr} (id : Nat) (f : Frame) (s : State) (hG : Kept Q s) :
    Kept Q (State.nextPass id f s) := by
  unfold State.nextPass
  try beta_reduce
  apply kept_ite; apply State.endFrame_kept; apply State.recover_kept; assumption; apply State.place_kept
  apply State.modFrame_kept; apply State.recover_kept; assumption

theorem State.placeAt_kept {Q : List Instr} (id p : Nat) (f : Frame) (copy : Bool) (s : State) (hG : Kept Q s) :
    Kept Q (State.placeAt id p f copy s) := by
  unfold State.placeAt
  try beta_reduce
  apply kept_ite; apply State.endFrame_kept; assumption; apply kept_ite; apply State.endFrame_kept
  apply State.recover_kept; assumption; apply kept_ite; apply State.place_kept; apply State.recover_kept; assumption
  apply kept_ite; apply State.place_kept; apply State.recover_kept; assumption; apply State.pruneShed_kept
  apply State.updEgress_kept; apply State.place_kept; apply State.recover_kept; assumption

theorem State.splitCopies_kept {Q : List Instr} (id n : Nat) (f : Frame) (ps : List Nat) (s : State) (hG : Kept Q s) :
    Kept Q (State.splitCopies id n f ps s) := by
  unfold State.splitCopies
  try beta_reduce
  apply State.forEach_kept; apply State.dropFrame_kept; assumption; intro _ _ _; try beta_reduce
  apply State.placeAt_kept; apply State.addFrame_kept; assumption

theorem State.placeFrame_kept {Q : List Instr} (id : Nat) (f : Frame) (s : State) (hG : Kept Q s) :
    Kept Q (State.placeFrame id f s) := by
  unfold State.placeFrame
  try beta_reduce
  split; apply State.placeAt_kept; assumption; apply State.splitCopies_kept; assumption; apply State.nextPass_kept
  assumption; apply kept_ite; apply State.endFrame_kept; apply State.ringNotRx_kept; assumption
  apply State.startOnce_kept; apply State.modRing_kept; apply State.place_kept; assumption
  apply State.endFrame_kept; assumption

theorem execCutUnderrun_kept {Q : List Instr} (p : Nat) (s : State) (hG : Kept Q s) :
    KeptO Q (execCutUnderrun p s) := by
  unfold execCutUnderrun
  try beta_reduce
  split; apply keptO_ite; apply keptO_next; apply State.endTx_kept; apply State.loomEvent_kept; assumption
  apply keptO_next; assumption; apply keptO_next; assumption

theorem execEgressChoose_kept {Q : List Instr} (p tm n : Nat) (s : State) (hG : Kept Q s) :
    KeptO Q (execEgressChoose p tm n s) := by
  unfold execEgressChoose
  try beta_reduce
  apply keptO_ite; apply keptO_next; assumption; lift_lets -underBinder; split; apply keptO_next
  apply State.traffic_kept; apply kept_mk; apply kept_fold; assumption; split; apply keptO_next
  refine kept_opt (by assumption) ?_; apply State.launchNow_kept; assumption; split; apply keptO_next; assumption
  split; apply keptO_next; apply State.pruneShed_kept; apply State.startTx_kept; apply kept_mk; apply kept_fold
  assumption; apply keptO_next; assumption

theorem execEgressEnqueue_kept {Q : List Instr} (d : Nat) (s : State) (hG : Kept Q s) :
    KeptO Q (execEgressEnqueue d s) := by
  unfold execEgressEnqueue
  try beta_reduce
  lift_lets -underBinder; intro x; refine (fun (hx : Kept Q x) => ?_) ?_ <;> [clear_value x; subst x]
  intro x; clear_value x; split; apply keptO_next; apply State.pruneShed_kept; apply State.updEgress_kept
  apply State.place_kept; assumption; split; apply keptO_next; apply State.updHeld_kept; apply State.placeFrame_kept
  assumption; apply keptO_next; assumption; apply State.forEach_kept; assumption; intro _ _ _; try beta_reduce
  apply State.reedRelease_kept; assumption

theorem execFrameTxEnd_kept {Q : List Instr} (p : Nat) (s : State) (hG : Kept Q s) :
    KeptO Q (execFrameTxEnd p s) := by
  unfold execFrameTxEnd
  try beta_reduce
  split; apply keptO_ite; apply keptO_next; apply State.endTx_kept; assumption; apply keptO_next; assumption
  apply keptO_next; assumption

theorem execFrerResetTimeout_kept {Q : List Instr} (h : Nat) (s : State) (hG : Kept Q s) :
    KeptO Q (execFrerResetTimeout h s) := by
  unfold execFrerResetTimeout
  try beta_reduce
  apply keptO_ite; apply keptO_next; apply State.frerReset_kept; assumption; apply keptO_next; assumption

theorem execFrerSetReset_kept {Q : List Instr} (d : Submission) (s : State) (hG : Kept Q s) :
    KeptO Q (execFrerSetReset d s) := by
  unfold execFrerSetReset
  try beta_reduce
  apply keptO_next; apply CmdSpec.take_kept; assumption; apply specFrerReset_kept

theorem execFrerSetWrite_kept {Q : List Instr} (d : Submission) (s : State) (hG : Kept Q s) :
    KeptO Q (execFrerSetWrite d s) := by
  unfold execFrerSetWrite
  try beta_reduce
  apply keptO_next; apply CmdSpec.take_kept; assumption; apply specFrerWrite_kept

theorem execLaunchStart_kept {Q : List Instr} (p tm n : Nat) (s : State) (hG : Kept Q s) :
    KeptO Q (execLaunchStart p tm n s) := by
  unfold execLaunchStart
  try beta_reduce
  apply keptO_ite; apply keptO_next; assumption; lift_lets -underBinder; split; apply keptO_next
  refine kept_opt (by assumption) ?_; apply State.launchNow_kept; assumption; apply keptO_next; assumption

theorem execRationsDeal_kept {Q : List Instr} (s : State) (hG : Kept Q s) :
    KeptO Q (execRationsDeal s) := by
  unfold execRationsDeal
  try beta_reduce
  apply keptO_next; apply State.when_kept; assumption; intro _ _; try beta_reduce; apply State.forEach_kept
  apply State.cycleMade_kept; assumption; apply State.dealPort_kept

theorem execRationsSetEgress_kept {Q : List Instr} (d : Submission) (s : State) (hG : Kept Q s) :
    KeptO Q (execRationsSetEgress d s) := by
  unfold execRationsSetEgress
  try beta_reduce
  apply keptO_next; apply CmdSpec.take_kept; assumption; apply specRationsEgress_kept

theorem execRationsSetWeight_kept {Q : List Instr} (d : Submission) (s : State) (hG : Kept Q s) :
    KeptO Q (execRationsSetWeight d s) := by
  unfold execRationsSetWeight
  try beta_reduce
  apply keptO_next; apply CmdSpec.take_kept; assumption; apply specRationsWeight_kept

end Sys2Proof.Machine
end

