-- ==== Sys2Proof/Laws/KeptGrooms.lean ====
section
/-! SUPPORT. The operations of Machine/Grooms.lean keep the queue, the register file and the forwarding database. -/

namespace Sys2Proof.Machine

open Sys2Proof

set_option linter.unusedTactic false

theorem State.clearCore_kept {Q : List Instr} (c : Nat) (s : State) (hG : Kept Q s) :
    Kept Q (State.clearCore c s) := by
  unfold State.clearCore
  try beta_reduce
  apply State.wr_kept; apply kept_mk; apply kept_fold; apply State.wr_kept; apply State.wr_kept; apply State.wr_kept
  apply State.forEach_kept; assumption; intro _ _ _; try beta_reduce; apply State.wr_kept; apply State.wr_kept
  assumption

theorem State.groomTo_kept {Q : List Instr} (b : Bool) (st : Nat) (s : State) (hG : Kept Q s) :
    Kept Q (State.groomTo b st s) := by
  unfold State.groomTo
  try beta_reduce
  apply State.set_kept; assumption

theorem State.modCplx_kept {Q : List Instr} (b : Bool) (f : Complex → Complex) (s : State) (hG : Kept Q s) :
    Kept Q (State.modCplx b f s) := by
  unfold State.modCplx
  try beta_reduce
  apply kept_mk; apply kept_fold; assumption

theorem State.flushHeld_kept {Q : List Instr} (s : State) (hG : Kept Q s) :
    Kept Q (State.flushHeld s) := by
  unfold State.flushHeld
  try beta_reduce
  apply kept_ite; apply State.forEach_kept; apply kept_mk; apply kept_fold; assumption; intro _ _ _; try beta_reduce
  apply State.complete_kept; assumption; assumption

theorem State.solo_kept {Q : List Instr} (b : Bool) (s : State) (hG : Kept Q s) :
    Kept Q (State.solo b s) := by
  unfold State.solo
  try beta_reduce
  apply State.flushHeld_kept; apply State.event_kept; apply State.groomTo_kept; assumption

theorem State.partnerFails_kept {Q : List Instr} (b : Bool) (s : State) (hG : Kept Q s) :
    Kept Q (State.partnerFails b s) := by
  unfold State.partnerFails
  try beta_reduce
  apply kept_ite; apply kept_ite; apply kept_mk; apply kept_fold; assumption; apply State.solo_kept; assumption
  apply kept_ite; apply State.stop_kept; apply State.set_kept; apply State.groomTo_kept; assumption; assumption

theorem State.groomReset_kept {Q : List Instr} (b soft : Bool) (s : State) (hG : Kept Q s) :
    Kept Q (State.groomReset b soft s) := by
  unfold State.groomReset
  try beta_reduce
  apply kept_ite; apply State.raise_kept; apply State.set_kept; apply State.groomTo_kept
  apply State.partnerFails_kept; apply State.when_kept; apply State.stop_kept; apply kept_mk; apply kept_fold
  apply State.modCplx_kept; apply State.forEach_kept; apply State.bump_kept; apply State.set_kept
  apply State.groomTo_kept; assumption; apply State.clearCore_kept; intro _ _; try beta_reduce; apply State.set_kept
  apply State.stop_kept; assumption; apply State.partnerFails_kept; apply State.when_kept; apply State.stop_kept
  apply kept_mk; apply kept_fold; apply State.modCplx_kept; apply State.forEach_kept; apply State.bump_kept
  apply State.set_kept; apply State.groomTo_kept; assumption; apply State.clearCore_kept; intro _ _; try beta_reduce
  apply State.set_kept; apply State.stop_kept; assumption

theorem State.modLog_kept {Q : List Instr} (c : Nat) (f : GroomLog → GroomLog) (s : State) (hG : Kept Q s) :
    Kept Q (State.modLog c f s) := by
  unfold State.modLog
  try beta_reduce
  apply State.set_kept; apply kept_mk; apply kept_fold; assumption

theorem State.logCtrlWrite_kept {Q : List Instr} (c : Nat) (v : Word) (s : State) (hG : Kept Q s) :
    Kept Q (State.logCtrlWrite c v s) := by
  unfold State.logCtrlWrite
  try beta_reduce
  apply State.when_kept; apply State.wr_kept; assumption; apply State.modLog_kept

theorem State.perfHiWrite_kept {Q : List Instr} (a : Nat) (v : Word) (s : State) (hG : Kept Q s) :
    Kept Q (State.perfHiWrite a v s) := by
  unfold State.perfHiWrite
  try beta_reduce
  apply kept_ite; apply State.wr_kept; lift_lets -underBinder; split; apply State.wr_kept
  apply kept_mk; apply kept_fold; assumption; assumption; assumption

theorem State.perfLoWrite_kept {Q : List Instr} (a : Nat) (v : Word) (s : State) (hG : Kept Q s) :
    Kept Q (State.perfLoWrite a v s) := by
  unfold State.perfLoWrite
  try beta_reduce
  apply kept_ite; apply kept_mk; apply kept_fold; assumption; assumption

theorem State.startTasks_kept {Q : List Instr} (s : State) (hG : Kept Q s) :
    Kept Q (State.startTasks s) := by
  unfold State.startTasks
  try beta_reduce
  apply State.wr_kept; apply kept_mk; apply kept_fold; assumption

theorem State.consume_kept {Q : List Instr} (c : Consumer) (b : Bool) (s : State) (hG : Kept Q s) :
    Kept Q (State.consume c b s) := by
  unfold State.consume
  try beta_reduce
  split; split; apply State.refEstimate_kept; apply kept_mk; apply kept_fold; assumption; assumption
  apply State.when_kept; assumption; apply State.channelWord_kept; apply State.when_kept; assumption
  apply State.storeBegin_kept; assumption

theorem State.lastFault_kept {Q : List Instr} (kind : Nat) (b : Bool) (core : Nat) (s : State) (hG : Kept Q s) :
    Kept Q (State.lastFault kind b core s) := by
  unfold State.lastFault
  try beta_reduce
  apply State.wr_kept; assumption

theorem State.groomFault_kept {Q : List Instr} (kind : Nat) (b : Bool) (core : Nat) (s : State) (hG : Kept Q s) :
    Kept Q (State.groomFault kind b core s) := by
  unfold State.groomFault
  try beta_reduce
  apply kept_ite; assumption; apply State.when_kept; lift_lets -underBinder; split; apply State.raise_kept
  apply State.groomReset_kept; apply State.lastFault_kept; assumption; apply State.groomReset_kept
  apply State.lastFault_kept; assumption; intro _ _; try beta_reduce; apply State.raise_kept
  apply State.setSuspect_kept; assumption

theorem State.perfAdd_kept {Q : List Instr} (lo hi w : Nat) (f : Fld) (n : Nat) (s : State) (hG : Kept Q s) :
    Kept Q (State.perfAdd lo hi w f n s) := by
  unfold State.perfAdd
  try beta_reduce
  apply kept_ite; assumption; apply State.when_kept; apply State.set2_kept; assumption; apply State.set_kept

theorem State.corePerf_kept {Q : List Instr} (c cyc : Nat) (evs : List (Nat × Bool × Nat)) (s : State) (hG : Kept Q s) :
    Kept Q (State.corePerf c cyc evs s) := by
  unfold State.corePerf
  try beta_reduce
  apply kept_ite; assumption; apply State.forEach_kept; apply State.when_kept; assumption; apply State.perfAdd_kept
  intro _ _ _; try beta_reduce; apply State.perfAdd_kept; assumption

theorem State.hedPerf_kept {Q : List Instr} (h : Nat) (evs : List (Nat × Nat)) (s : State) (hG : Kept Q s) :
    Kept Q (State.hedPerf h evs s) := by
  unfold State.hedPerf
  try beta_reduce
  apply kept_ite; assumption; apply State.forEach_kept; assumption; intro _ _ _; try beta_reduce
  apply State.perfAdd_kept; assumption

theorem State.logCount_kept {Q : List Instr} (c : Nat) (evs : List (Nat × Bool × Nat)) (s : State) (hG : Kept Q s) :
    Kept Q (State.logCount c evs s) := by
  unfold State.logCount
  try beta_reduce
  apply kept_ite; apply State.modLog_kept; assumption; assumption

theorem State.settleDual_kept {Q : List Instr} (n : Nat) (s : State) (hG : Kept Q s) :
    Kept Q (State.settleDual n s) := by
  unfold State.settleDual
  try beta_reduce
  apply kept_ite; assumption; apply State.when_kept; apply kept_mk; apply kept_fold; assumption
  apply State.set_kept

theorem State.settleLead_kept {Q : List Instr} (s : State) (hG : Kept Q s) :
    Kept Q (State.settleLead s) := by
  unfold State.settleLead
  try beta_reduce
  split; assumption; apply kept_ite; apply State.raise_kept; apply State.groomTo_kept; apply State.setB_kept
  apply kept_mk; apply kept_fold; assumption; apply State.setB_kept; apply kept_mk; apply kept_fold; assumption

theorem State.second_kept {Q : List Instr} (c : Consumer) (b : Bool) (s : State) (hG : Kept Q s) :
    Kept Q (State.second c b s) := by
  unfold State.second
  try beta_reduce
  split; apply State.consume_kept; assumption; assumption

theorem State.showIdent_kept {Q : List Instr} (b : Bool) (s : State) (hG : Kept Q s) :
    Kept Q (State.showIdent b s) := by
  unfold State.showIdent
  try beta_reduce
  split; apply State.wr_kept; assumption; assumption

theorem State.showOut_kept {Q : List Instr} (seq : Nat) (s : State) (hG : Kept Q s) :
    Kept Q (State.showOut seq s) := by
  unfold State.showOut
  try beta_reduce
  apply kept_ite; apply State.set2_kept; assumption; assumption

theorem execCounterHiWrite_kept {Q : List Instr} (a : Nat) (v : BitVec 32) (s : State) (hG : Kept Q s) :
    KeptO Q (execCounterHiWrite a v s) := by
  unfold execCounterHiWrite
  try beta_reduce
  apply keptO_ite; apply keptO_next; assumption; apply keptO_next; apply State.perfHiWrite_kept; assumption

theorem execCounterLoWrite_kept {Q : List Instr} (a : Nat) (v : BitVec 32) (s : State) (hG : Kept Q s) :
    KeptO Q (execCounterLoWrite a v s) := by
  unfold execCounterLoWrite
  try beta_reduce
  apply keptO_ite; apply keptO_next; assumption; apply keptO_next; apply State.perfLoWrite_kept; assumption

theorem execGroomImageLoaded_kept {Q : List Instr} (b : Bool) (s : State) (hG : Kept Q s) :
    KeptO Q (execGroomImageLoaded b s) := by
  unfold execGroomImageLoaded
  try beta_reduce
  apply keptO_ite; apply keptO_next; assumption; apply keptO_ite; apply keptO_ite; apply keptO_next
  apply State.groomTo_kept; apply State.showIdent_kept; assumption; apply keptO_next; apply State.start_kept
  apply State.set_kept; apply State.groomTo_kept; apply State.showIdent_kept; assumption; apply keptO_next
  apply State.solo_kept; apply kept_ite; apply State.when_kept; apply State.showIdent_kept; assumption
  apply State.startTasks_kept; apply kept_mk; apply kept_fold; apply State.when_kept; apply State.showIdent_kept
  assumption; apply State.startTasks_kept

theorem execGroomOutputReceive_kept {Q : List Instr} (c : Consumer) (b : Bool) (seq digest : Nat) (s : State) (hG : Kept Q s) :
    KeptO Q (execGroomOutputReceive c b seq digest s) := by
  unfold execGroomOutputReceive
  try beta_reduce
  apply keptO_ite; apply keptO_next; assumption; lift_lets -underBinder; intro x; clear_value x; split
  apply keptO_ite; apply keptO_next; apply State.second_kept; apply kept_mk; apply kept_fold; assumption
  apply keptO_next; apply State.groomFault_kept; apply State.second_kept; apply kept_mk; apply kept_fold; assumption
  apply keptO_ite; apply keptO_next; assumption; apply keptO_next; apply kept_ite; apply kept_mk; apply kept_fold
  apply kept_mk; apply kept_fold; apply State.showOut_kept; apply State.consume_kept; assumption
  apply kept_mk; apply kept_fold; apply State.showOut_kept; apply State.consume_kept; assumption

theorem execGroomResetEnd_kept {Q : List Instr} (b : Bool) (s : State) (hG : Kept Q s) :
    KeptO Q (execGroomResetEnd b s) := by
  unfold execGroomResetEnd
  try beta_reduce
  apply keptO_ite; apply keptO_next; apply State.groomTo_kept; apply kept_ite; apply State.showIdent_kept
  apply State.modCplx_kept; assumption; assumption; apply keptO_next; assumption

theorem execLagWindowExpiry_kept {Q : List Instr} (s : State) (hG : Kept Q s) :
    KeptO Q (execLagWindowExpiry s) := by
  unfold execLagWindowExpiry
  try beta_reduce
  split; apply keptO_next; apply State.groomFault_kept; apply kept_mk; apply kept_fold; assumption; apply keptO_next
  assumption

theorem execResyncFinalCopy_kept {Q : List Instr} (b : Bool) (s : State) (hG : Kept Q s) :
    KeptO Q (execResyncFinalCopy b s) := by
  unfold execResyncFinalCopy
  try beta_reduce
  apply keptO_ite; apply keptO_next; assumption; apply keptO_next; apply State.when_kept; apply State.raise_kept
  apply State.start_kept; apply State.groomTo_kept; apply State.groomTo_kept; assumption; intro _ _; try beta_reduce
  apply State.raise_kept; apply State.set_kept; assumption

theorem execRevertHoldExpiry_kept {Q : List Instr} (s : State) (hG : Kept Q s) :
    KeptO Q (execRevertHoldExpiry s) := by
  unfold execRevertHoldExpiry
  try beta_reduce
  apply keptO_ite; apply keptO_next; apply State.raise_kept; apply State.set_kept; apply State.setB_kept
  apply kept_mk; apply kept_fold; assumption; apply keptO_next; assumption

theorem execShadowFault_kept {Q : List Instr} (b : Bool) (s : State) (hG : Kept Q s) :
    KeptO Q (execShadowFault b s) := by
  unfold execShadowFault
  try beta_reduce
  apply keptO_ite; apply keptO_next; apply State.groomFault_kept; assumption; apply keptO_next; assumption

theorem execShadowTakeover_kept {Q : List Instr} (b : Bool) (s : State) (hG : Kept Q s) :
    KeptO Q (execShadowTakeover b s) := by
  unfold execShadowTakeover
  try beta_reduce
  apply keptO_ite; apply keptO_next; apply State.groomReset_kept; apply State.solo_kept; apply State.startTasks_kept
  apply State.setB_kept; apply State.stop_kept; assumption; apply keptO_next; assumption

end Sys2Proof.Machine
end

