-- ==== Sys2Proof/Laws/KeptHostIf.lean ====
section
/-! SUPPORT. The operations of Machine/HostIf.lean keep the queue, the register file and the forwarding database. -/

namespace Sys2Proof.Machine

open Sys2Proof

set_option linter.unusedTactic false

theorem State.cancelBufs_kept {Q : List Instr} (r : Nat) (s : State) (hG : Kept Q s) :
    Kept Q (State.cancelBufs r s) := by
  unfold State.cancelBufs
  try beta_reduce
  apply State.forEach_kept; apply State.modRing_kept; assumption; intro _ _ _; try beta_reduce
  apply State.completeCmd_kept; assumption

theorem State.ringStart_kept {Q : List Instr} (r : Nat) (s : State) (hG : Kept Q s) :
    Kept Q (State.ringStart r s) := by
  unfold State.ringStart
  try beta_reduce
  apply kept_mk; apply kept_fold; assumption

theorem State.ringStops_kept {Q : List Instr} (r : Nat) (s : State) (hG : Kept Q s) :
    Kept Q (State.ringStops r s) := by
  unfold State.ringStops
  try beta_reduce
  apply kept_ite; apply State.when_kept; assumption; apply State.cancelBufs_kept; apply State.stop_kept
  apply State.modRing_kept; apply State.ringStart_kept; apply State.forEach_kept; apply State.set_kept
  apply State.finish_kept; apply State.when_kept; assumption; apply State.cancelBufs_kept
  intro _ _ _; try beta_reduce; apply State.endFrame_kept; apply State.ringFull_kept; assumption

theorem State.allRingStops_kept {Q : List Instr} (s : State) (hG : Kept Q s) :
    Kept Q (State.allRingStops s) := by
  unfold State.allRingStops
  try beta_reduce
  apply State.forEach_kept; assumption; apply State.ringStops_kept

theorem State.logTick_kept {Q : List Instr} (c : Nat) (s : State) (hG : Kept Q s) :
    Kept Q (State.logTick c s) := by
  unfold State.logTick
  try beta_reduce
  apply kept_ite; apply State.startOnce_kept; assumption; apply State.stop_kept; assumption

theorem State.takeBuf_kept {Q : List Instr} (cls op code : Nat) (d : Submission) (s : State) (hG : Kept Q s) :
    Kept Q (State.takeBuf cls op code d s) := by
  unfold State.takeBuf
  try beta_reduce
  apply kept_ite; assumption; apply kept_ite; apply State.completeCmd_kept; apply State.refusalErr_kept
  apply State.fetched_kept; assumption; apply State.modRing_kept; apply State.fetched_kept; assumption

theorem State.takeLogBuffer_kept {Q : List Instr} (d : Submission) (s : State) (hG : Kept Q s) :
    Kept Q (State.takeLogBuffer d s) := by
  unfold State.takeLogBuffer
  try beta_reduce
  apply State.when_kept; apply State.takeBuf_kept; assumption; apply State.logTick_kept

theorem State.undrain_kept {Q : List Instr} (r : Nat) (had : Bool) (s : State) (hG : Kept Q s) :
    Kept Q (State.undrain r had s) := by
  unfold State.undrain
  try beta_reduce
  apply kept_ite; apply State.modRing_kept; assumption; assumption

theorem State.takeRxBuffer_kept {Q : List Instr} (d : Submission) (s : State) (hG : Kept Q s) :
    Kept Q (State.takeRxBuffer d s) := by
  unfold State.takeRxBuffer
  try beta_reduce
  apply State.when_kept; apply State.takeBuf_kept; assumption; apply State.undrain_kept

theorem specAttnAck_kept {Q : List Instr} (c : Cmd) (s : State) (hG : Kept Q s) :
    Kept Q (specAttnAck.act c s).1 := by
  unfold specAttnAck
  try beta_reduce
  apply State.set_kept; assumption

theorem specCancel_kept {Q : List Instr} (c : Cmd) (s : State) (hG : Kept Q s) :
    Kept Q (specCancel.act c s).1 := by
  unfold specCancel
  try beta_reduce
  dsimp -zeta only; lift_lets -underBinder; intro x; subst x; beta_reduce; split; assumption; apply kept_ite1
  assumption; apply State.cancelWaiting_kept; assumption

theorem specNop_kept {Q : List Instr} (c : Cmd) (s : State) (hG : Kept Q s) :
    Kept Q (specNop.act c s).1 := by
  unfold specNop
  try beta_reduce
  assumption

theorem specRingConfigure_kept {Q : List Instr} (c : Cmd) (s : State) (hG : Kept Q s) :
    Kept Q (specRingConfigure.act c s).1 := by
  unfold specRingConfigure
  try beta_reduce
  apply kept_ite1; assumption; apply kept_ite1; assumption; apply State.ringStart_kept; apply State.putRegs_kept
  assumption

theorem specRingDisable_kept {Q : List Instr} (c : Cmd) (s : State) (hG : Kept Q s) :
    Kept Q (specRingDisable.act c s).1 := by
  unfold specRingDisable
  try beta_reduce
  apply kept_ite1; assumption; apply kept_ite1; assumption; apply State.modRing_kept; apply State.cancelWaiting_kept
  assumption

theorem State.linkDown_kept {Q : List Instr} (s : State) (hG : Kept Q s) :
    Kept Q (State.linkDown s) := by
  unfold State.linkDown
  try beta_reduce
  apply kept_ite; apply State.forEach_kept; apply kept_mk; apply kept_fold; apply State.set_kept
  apply State.set_kept; apply State.set_kept; assumption; intro _ _ _; try beta_reduce; apply State.complete_kept
  assumption; apply State.set_kept; apply State.set_kept; assumption

theorem State.dbArm_kept {Q : List Instr} (r k : Nat) (s : State) (hG : Kept Q s) :
    Kept Q (State.dbArm r k s) := by
  unfold State.dbArm
  try beta_reduce
  apply kept_ite; assumption; apply kept_ite; apply State.sendMsix_kept; apply State.modRing_kept; assumption
  apply State.modRing_kept; assumption

theorem State.dbCqHead_kept {Q : List Instr} (r v : Nat) (s : State) (hG : Kept Q s) :
    Kept Q (State.dbCqHead r v s) := by
  unfold State.dbCqHead
  try beta_reduce
  apply kept_ite; assumption; apply kept_ite; apply State.hifErr_kept; assumption; apply State.when_kept
  apply State.modRing_kept; assumption; apply State.undrain_kept

theorem State.dbDisarm_kept {Q : List Instr} (r : Nat) (s : State) (hG : Kept Q s) :
    Kept Q (State.dbDisarm r s) := by
  unfold State.dbDisarm
  try beta_reduce
  apply kept_ite; assumption; apply State.modRing_kept; assumption

theorem State.dbSqTail_kept {Q : List Instr} (r v : Nat) (s : State) (hG : Kept Q s) :
    Kept Q (State.dbSqTail r v s) := by
  unfold State.dbSqTail
  try beta_reduce
  apply kept_ite; assumption; apply kept_ite; apply State.hifErr_kept; assumption; apply State.modRing_kept
  assumption

theorem State.doorbell_kept {Q : List Instr} (r o : Nat) (v : Word) (s : State) (hG : Kept Q s) :
    Kept Q (State.doorbell r o v s) := by
  unfold State.doorbell
  try beta_reduce
  apply kept_mk; apply kept_fold; assumption

theorem State.doorbells_kept {Q : List Instr} (s : State) (hG : Kept Q s) :
    Kept Q (State.doorbells s) := by
  unfold State.doorbells
  try beta_reduce
  apply State.forEach_kept; apply kept_mk; apply kept_fold; assumption; intro _ _ _; try beta_reduce; split
  apply State.dbSqTail_kept; assumption; apply State.dbCqHead_kept; assumption; apply kept_ite
  apply State.dbArm_kept; assumption; apply State.dbDisarm_kept; assumption

theorem State.relinkEnd_kept {Q : List Instr} (s : State) (hG : Kept Q s) :
    Kept Q (State.relinkEnd s) := by
  unfold State.relinkEnd
  try beta_reduce
  apply State.forEach_kept; apply kept_mk; apply kept_fold; apply State.forEach_kept; apply State.set_kept
  assumption; intro _ _ _; try beta_reduce; apply State.when_kept; assumption; apply State.count_kept
  apply State.eventAll_kept

theorem State.relinkDone_kept {Q : List Instr} (s : State) (hG : Kept Q s) :
    Kept Q (State.relinkDone s) := by
  unfold State.relinkDone
  try beta_reduce
  apply kept_ite; assumption; apply kept_ite; apply State.wakeTasks_kept; apply State.attn_kept
  apply kept_mk; apply kept_fold; assumption; apply State.relinkEnd_kept; assumption

theorem State.runRequest_kept {Q : List Instr} (s : State) (hG : Kept Q s) :
    Kept Q (State.runRequest s) := by
  unfold State.runRequest
  try beta_reduce
  apply kept_ite; assumption; apply kept_ite; apply State.set_kept; apply State.set_kept; assumption
  apply State.updKeep_kept; apply State.set_kept; apply State.set_kept; apply State.set_kept; assumption

theorem State.rxWrite_kept {Q : List Instr} (r : Nat) (bad : Bool) (f : Frame) (q1 : Nat) (x4 : List (RxBuf × List Byte)) (x5 : State) (hG : Kept Q x5) :
    Kept Q (State.rxWrite r bad f q1 x4 x5) := by
  induction x4 generalizing r bad f q1 x5 hG
  on_goal 2 => rename_i y l ih
  all_goals unfold State.rxWrite
  assumption; apply ih; apply State.complete_kept; apply kept_ite; apply State.hifErr_kept; assumption
  apply kept_mk; apply kept_fold; assumption

theorem State.rxDeliver_kept {Q : List Instr} (r : Nat) (bad : Bool) (id : Nat) (f : Frame) (bs : List (RxBuf × List Byte)) (s : State) (hG : Kept Q s) :
    Kept Q (State.rxDeliver r bad id f bs s) := by
  unfold State.rxDeliver
  try beta_reduce
  apply State.fate_kept; apply State.dropFrame_kept; apply State.rxPop_kept; apply State.traffic_kept
  apply State.traffic_kept; apply State.modRing_kept; apply State.rxWrite_kept; assumption

theorem execAttnAck_kept {Q : List Instr} (d : Submission) (s : State) (hG : Kept Q s) :
    KeptO Q (execAttnAck d s) := by
  unfold execAttnAck
  try beta_reduce
  apply keptO_next; apply CmdSpec.take_kept; assumption; apply specAttnAck_kept

theorem execCancel_kept {Q : List Instr} (d : Submission) (s : State) (hG : Kept Q s) :
    KeptO Q (execCancel d s) := by
  unfold execCancel
  try beta_reduce
  apply keptO_next; apply CmdSpec.take_kept; assumption; apply specCancel_kept

theorem execDbArmDisable_kept {Q : List Instr} (r : Nat) (s : State) (hG : Kept Q s) :
    KeptO Q (execDbArmDisable r s) := by
  unfold execDbArmDisable
  try beta_reduce
  apply keptO_next; apply State.dbDisarm_kept; assumption

theorem execDbArmEnable_kept {Q : List Instr} (r k : Nat) (s : State) (hG : Kept Q s) :
    KeptO Q (execDbArmEnable r k s) := by
  unfold execDbArmEnable
  try beta_reduce
  apply keptO_next; apply State.dbArm_kept; assumption

theorem execDbCqHead_kept {Q : List Instr} (r v : Nat) (s : State) (hG : Kept Q s) :
    KeptO Q (execDbCqHead r v s) := by
  unfold execDbCqHead
  try beta_reduce
  apply keptO_next; apply State.dbCqHead_kept; assumption

theorem execDbSqTail_kept {Q : List Instr} (r v : Nat) (s : State) (hG : Kept Q s) :
    KeptO Q (execDbSqTail r v s) := by
  unfold execDbSqTail
  try beta_reduce
  apply keptO_next; apply State.dbSqTail_kept; assumption

theorem execEventPendingFlush_kept {Q : List Instr} (r : Nat) (s : State) (hG : Kept Q s) :
    KeptO Q (execEventPendingFlush r s) := by
  unfold execEventPendingFlush
  try beta_reduce
  apply keptO_ite; apply keptO_next; assumption; apply keptO_next; apply State.modRing_kept
  apply State.forEach_kept; assumption; intro _ _ _; try beta_reduce; apply State.complete_kept
  apply State.attn_kept; assumption

theorem execFateLedgerRecord_kept {Q : List Instr} (s : State) (hG : Kept Q s) :
    KeptO Q (execFateLedgerRecord s) := by
  unfold execFateLedgerRecord
  try beta_reduce
  split; apply keptO_next; assumption; apply keptO_next; apply State.count_kept; apply kept_mk; apply kept_fold
  assumption

theorem execFrameRxDelivery_kept {Q : List Instr} (w : HostWr) (s : State) (hG : Kept Q s) :
    KeptO Q (execFrameRxDelivery w s) := by
  unfold execFrameRxDelivery
  try beta_reduce
  lift_lets -underBinder; intro x; clear_value x; split; apply keptO_ite; apply keptO_next; assumption
  apply keptO_next; apply State.updHeld_kept; apply State.rxDeliver_kept; assumption; apply keptO_next; assumption

theorem execLogBuffer_kept {Q : List Instr} (d : Submission) (s : State) (hG : Kept Q s) :
    KeptO Q (execLogBuffer d s) := by
  unfold execLogBuffer
  try beta_reduce
  apply keptO_next; apply State.takeLogBuffer_kept; assumption

theorem execLogCompletion_kept {Q : List Instr} (w : HostWr) (s : State) (hG : Kept Q s) :
    KeptO Q (execLogCompletion w s) := by
  unfold execLogCompletion
  try beta_reduce
  lift_lets -underBinder; intro x; clear_value x; intro x; clear_value x; split; apply keptO_next; assumption
  apply keptO_ite; apply keptO_next; apply State.complete_kept; apply State.logTick_kept; apply State.stop_kept
  apply State.set_kept; apply State.modLog_kept; apply State.modRing_kept; apply kept_ite; apply State.hifErr_kept
  assumption; apply kept_mk; apply kept_fold; assumption; apply keptO_next; assumption

theorem execLogSample_kept {Q : List Instr} (c t addr lat op : Nat) (user : Bool) (s : State) (hG : Kept Q s) :
    KeptO Q (execLogSample c t addr lat op user s) := by
  unfold execLogSample
  try beta_reduce
  apply keptO_ite; apply keptO_next; assumption; apply keptO_ite; apply keptO_next; apply State.forEach_kept
  apply State.bump_kept; apply State.modLog_kept; assumption; intro _ _ _; try beta_reduce; apply State.count_kept
  apply State.modRing_kept; assumption; apply keptO_next; apply State.logTick_kept; apply State.modLog_kept
  assumption

theorem execNop_kept {Q : List Instr} (d : Submission) (s : State) (hG : Kept Q s) :
    KeptO Q (execNop d s) := by
  unfold execNop
  try beta_reduce
  apply keptO_next; apply CmdSpec.take_kept; assumption; apply specNop_kept

theorem execPcieConfigRequest_kept {Q : List Instr} (s : State) (hG : Kept Q s) :
    KeptO Q (execPcieConfigRequest s) := by
  unfold execPcieConfigRequest
  try beta_reduce
  apply keptO_next; apply kept_mk; apply kept_fold; assumption

theorem execPcieLinkDown_kept {Q : List Instr} (perst : Bool) (s : State) (hG : Kept Q s) :
    KeptO Q (execPcieLinkDown perst s) := by
  unfold execPcieLinkDown
  try beta_reduce
  apply keptO_next; apply State.linkDown_kept; apply kept_ite; apply kept_mk; apply kept_fold; assumption
  assumption

theorem execPcieLinkTrained_kept {Q : List Instr} (width speed : Nat) (s : State) (hG : Kept Q s) :
    KeptO Q (execPcieLinkTrained width speed s) := by
  unfold execPcieLinkTrained
  try beta_reduce
  apply keptO_ite; apply keptO_next; apply State.set_kept; apply State.set_kept; assumption; apply keptO_next
  assumption

theorem execPerstNRise_kept {Q : List Instr} (s : State) (hG : Kept Q s) :
    KeptO Q (execPerstNRise s) := by
  unfold execPerstNRise
  try beta_reduce
  apply keptO_next; apply kept_mk; apply kept_fold; assumption

theorem execRelinkDone_kept {Q : List Instr} (s : State) (hG : Kept Q s) :
    KeptO Q (execRelinkDone s) := by
  unfold execRelinkDone
  try beta_reduce
  apply keptO_next; apply State.relinkDone_kept; assumption

theorem execRingSetConfigure_kept {Q : List Instr} (d : Submission) (s : State) (hG : Kept Q s) :
    KeptO Q (execRingSetConfigure d s) := by
  unfold execRingSetConfigure
  try beta_reduce
  apply keptO_next; apply CmdSpec.take_kept; assumption; apply specRingConfigure_kept

theorem execRingSetDisable_kept {Q : List Instr} (d : Submission) (s : State) (hG : Kept Q s) :
    KeptO Q (execRingSetDisable d s) := by
  unfold execRingSetDisable
  try beta_reduce
  apply keptO_next; apply State.when_kept; apply CmdSpec.take_kept; assumption; apply specRingDisable_kept
  apply State.allRingStops_kept

theorem execRun_kept {Q : List Instr} (s : State) (hG : Kept Q s) :
    KeptO Q (execRun s) := by
  unfold execRun
  try beta_reduce
  apply keptO_next; apply State.runRequest_kept; assumption

theorem execRxBuffer_kept {Q : List Instr} (d : Submission) (s : State) (hG : Kept Q s) :
    KeptO Q (execRxBuffer d s) := by
  unfold execRxBuffer
  try beta_reduce
  apply keptO_next; apply State.takeRxBuffer_kept; assumption

theorem execRxWaitExpiry_kept {Q : List Instr} (r : Nat) (s : State) (hG : Kept Q s) :
    KeptO Q (execRxWaitExpiry r s) := by
  unfold execRxWaitExpiry
  try beta_reduce
  split; apply keptO_next; assumption; apply keptO_ite; apply keptO_next; apply State.updHeld_kept
  apply State.endFrame_kept; apply State.ringFull_kept; apply State.modRing_kept; assumption; apply keptO_next
  assumption

end Sys2Proof.Machine
end

