-- ==== Sys2Proof/Laws/KeptPtp.lean ====
section
/-! SUPPORT. The operations of Machine/Ptp.lean keep the queue, the register file and the forwarding database. -/

namespace Sys2Proof.Machine

open Sys2Proof

set_option linter.unusedTactic false

theorem specPtpClock_kept {Q : List Instr} (c : Cmd) (s : State) (hG : Kept Q s) :
    Kept Q (specPtpClock.act c s).1 := by
  unfold specPtpClock
  try beta_reduce
  apply State.forEach_kept; apply State.putRegs_kept; assumption; apply State.ptpFollow_kept

theorem specPtpPort_kept {Q : List Instr} (c : Cmd) (s : State) (hG : Kept Q s) :
    Kept Q (specPtpPort.act c s).1 := by
  unfold specPtpPort
  try beta_reduce
  apply kept_ite1; assumption; apply State.ptpFollow_kept; apply State.putRegs_kept; assumption

theorem State.coreDrain_kept {Q : List Instr} (e : BobbinEntry) (s : State) (hG : Kept Q s) :
    Kept Q (State.coreDrain e s) := by
  unfold State.coreDrain
  try beta_reduce
  apply kept_mk; apply kept_fold; assumption

theorem State.esmcPdu_kept {Q : List Instr} (p : Nat) (event : Bool) (s : State) (hG : Kept Q s) :
    Kept Q (State.esmcPdu p event s).2 := by
  unfold State.esmcPdu
  try beta_reduce
  with_reducible apply State.free_kept; with_reducible assumption

theorem State.esmcSend_kept {Q : List Instr} (p : Nat) (event : Bool) (s : State) (hG : Kept Q s) :
    Kept Q (State.esmcSend p event s) := by
  unfold State.esmcSend
  try beta_reduce
  with_reducible apply kept_ite; with_reducible apply State.coreSend_kept; with_reducible apply State.esmcPdu_kept
  with_reducible assumption; with_reducible assumption

theorem State.ptpCombine_kept {Q : List Instr} (p : Nat) (t3 t4 : Int) (s : State) (hG : Kept Q s) :
    Kept Q (State.ptpCombine p t3 t4 s) := by
  unfold State.ptpCombine
  try beta_reduce
  dsimp -zeta only; split; apply State.modPtp_kept; assumption; assumption

theorem State.ptpTaken_kept {Q : List Instr} (p : Nat) (l : List Byte) (s : State) (hG : Kept Q s) :
    Kept Q (State.ptpTaken p l s).2 := by
  unfold State.ptpTaken
  try beta_reduce
  split; apply State.count_kept; apply State.pduTaken_kept; assumption; apply State.count_kept
  apply State.pduTaken_kept; assumption; apply State.pduTaken_kept; assumption

theorem State.ptpGet_kept {Q : List Instr} (ty p : Nat) (l : List Byte) (f : Nat → List Byte → State → State) (s : State) (hF : ∀ x y s, Kept Q s → Kept Q (f x y s)) (hG1 : Kept Q s) :
    Kept Q (State.ptpGet ty p l f s) := by
  unfold State.ptpGet
  try beta_reduce
  split; apply kept_ite; apply hF; refine kept_snd (by assumption) ?_; apply State.ptpTaken_kept; assumption
  refine kept_snd (by assumption) ?_; apply State.ptpTaken_kept; assumption; refine kept_snd (by assumption) ?_
  apply State.ptpTaken_kept; assumption

theorem State.ptpSend_kept {Q : List Instr} (p : Nat) (event : Bool) (m : List Byte) (ts : Option Nat) (s : State) (hG : Kept Q s) :
    Kept Q (State.ptpSend p event m ts s) := by
  unfold State.ptpSend
  try beta_reduce
  apply State.count_kept; apply State.coreSend_kept; assumption

theorem execEsmcEventSend_kept {Q : List Instr} (s : State) (hG : Kept Q s) :
    KeptO Q (execEsmcEventSend s) := by
  unfold execEsmcEventSend
  try beta_reduce
  apply keptO_ite; apply keptO_next; apply State.forEach_kept; apply kept_mk; apply kept_fold; assumption
  intro _ _ _; try beta_reduce; apply State.esmcSend_kept; assumption; apply keptO_next; assumption

theorem execEsmcInfoSend_kept {Q : List Instr} (s : State) (hG : Kept Q s) :
    KeptO Q (execEsmcInfoSend s) := by
  unfold execEsmcInfoSend
  try beta_reduce
  apply keptO_ite; apply keptO_next; apply State.forEach_kept; apply State.slotMade_kept; assumption
  intro _ _ _; try beta_reduce; apply State.esmcSend_kept; assumption; apply keptO_next; assumption

theorem execEsmcPduReceive_kept {Q : List Instr} (p : Nat) (l : List Byte) (s : State) (hG : Kept Q s) :
    KeptO Q (execEsmcPduReceive p l s) := by
  unfold execEsmcPduReceive
  try beta_reduce
  apply keptO_ite; apply keptO_ite; apply keptO_next; apply State.count_kept; apply State.pduTaken_kept; assumption
  apply keptO_next; apply State.updQl_kept; apply State.forEach_kept; apply State.count_kept
  apply State.pduTaken_kept; assumption; intro _ _ _; try beta_reduce; apply State.showSlot_kept
  apply State.when_kept; apply State.modSlot_kept; assumption; intro _ _; try beta_reduce; apply State.set_kept
  apply State.start_kept; assumption; apply keptO_next; apply State.pduTaken_kept; assumption

theorem execFollowUpMatchTimeout_kept {Q : List Instr} (p : Nat) (s : State) (hG : Kept Q s) :
    KeptO Q (execFollowUpMatchTimeout p s) := by
  unfold execFollowUpMatchTimeout
  try beta_reduce
  split; apply keptO_next; apply State.count_kept; apply kept_mk; apply kept_fold; assumption; apply keptO_next
  assumption

theorem execPtpAnnounceReceive_kept {Q : List Instr} (p : Nat) (l : List Byte) (s : State) (hG : Kept Q s) :
    KeptO Q (execPtpAnnounceReceive p l s) := by
  unfold execPtpAnnounceReceive
  try beta_reduce
  apply keptO_next; apply State.ptpGet_kept; intro _ _ _ _; try beta_reduce; apply kept_ite; assumption
  apply State.when_kept; apply State.when_kept; apply State.modPtp_kept; assumption; apply State.start_kept
  apply State.takeUtc_kept; assumption

theorem execPtpAnnounceSend_kept {Q : List Instr} (p : Nat) (s : State) (hG : Kept Q s) :
    KeptO Q (execPtpAnnounceSend p s) := by
  unfold execPtpAnnounceSend
  try beta_reduce
  with_reducible apply keptO_ite; with_reducible apply keptO_next; with_reducible apply State.ptpSend_kept
  with_reducible apply State.modPtp_kept; with_reducible apply State.free_kept
  with_reducible apply State.slotMade_kept; with_reducible assumption; with_reducible apply keptO_next
  with_reducible assumption

theorem execPtpAnnounceTimeout_kept {Q : List Instr} (p : Nat) (s : State) (hG : Kept Q s) :
    KeptO Q (execPtpAnnounceTimeout p s) := by
  unfold execPtpAnnounceTimeout
  try beta_reduce
  apply keptO_ite; apply keptO_next; apply State.modPtp_kept; apply State.stop_kept; assumption; apply keptO_next
  assumption

theorem execPtpDelayReqReceive_kept {Q : List Instr} (p : Nat) (l : List Byte) (s : State) (hG : Kept Q s) :
    KeptO Q (execPtpDelayReqReceive p l s) := by
  unfold execPtpDelayReqReceive
  try beta_reduce
  apply keptO_next; apply State.ptpGet_kept; intro _ _ _ _; try beta_reduce; apply kept_ite
  apply State.ptpSend_kept; assumption; assumption; assumption

theorem execPtpDelayReqSend_kept {Q : List Instr} (p : Nat) (s : State) (hG : Kept Q s) :
    KeptO Q (execPtpDelayReqSend p s) := by
  unfold execPtpDelayReqSend
  try beta_reduce
  apply keptO_ite; apply keptO_next; apply State.ptpSend_kept; apply State.start_kept; apply State.modPtp_kept
  apply State.slotMade_kept; assumption; apply keptO_next; assumption

theorem execPtpDelayRespReceive_kept {Q : List Instr} (p : Nat) (l : List Byte) (s : State) (hG : Kept Q s) :
    KeptO Q (execPtpDelayRespReceive p l s) := by
  unfold execPtpDelayRespReceive
  try beta_reduce
  apply keptO_next; apply State.ptpGet_kept; intro _ _ _ _; try beta_reduce; split; apply kept_ite
  apply State.modPtp_kept; apply State.stop_kept; apply State.coreDrain_kept; assumption; assumption; assumption
  assumption

theorem execPtpDelayRespTimeout_kept {Q : List Instr} (p : Nat) (s : State) (hG : Kept Q s) :
    KeptO Q (execPtpDelayRespTimeout p s) := by
  unfold execPtpDelayRespTimeout
  try beta_reduce
  apply keptO_ite; apply keptO_next; apply State.raise_kept; apply State.bump_kept; apply State.modPtp_kept
  apply State.stop_kept; lift_lets -underBinder; split; apply State.coreDrain_kept; assumption; assumption
  apply keptO_next; assumption

theorem execPtpFollowUpReceive_kept {Q : List Instr} (p : Nat) (l : List Byte) (s : State) (hG : Kept Q s) :
    KeptO Q (execPtpFollowUpReceive p l s) := by
  unfold execPtpFollowUpReceive
  try beta_reduce
  apply keptO_next; apply State.ptpGet_kept; intro _ _ _ _; try beta_reduce; split; apply kept_ite
  apply State.ptpCombine_kept; apply State.modPtp_kept; assumption; assumption; assumption; assumption

theorem execPtpFollowUpSend_kept {Q : List Instr} (p : Nat) (s : State) (hG : Kept Q s) :
    KeptO Q (execPtpFollowUpSend p s) := by
  unfold execPtpFollowUpSend
  try beta_reduce
  split; apply keptO_next; assumption; apply keptO_ite; apply keptO_next; assumption; apply keptO_ite
  apply keptO_next; apply State.coreDrain_kept; assumption; apply keptO_next; apply State.ptpSend_kept
  apply State.coreDrain_kept; assumption

theorem execPtpIgnoredReceive_kept {Q : List Instr} (p : Nat) (l : List Byte) (s : State) (hG : Kept Q s) :
    KeptO Q (execPtpIgnoredReceive p l s) := by
  unfold execPtpIgnoredReceive
  try beta_reduce
  split; apply keptO_next; apply kept_ite; apply State.count_kept; refine kept_snd (by assumption) ?_
  apply State.ptpTaken_kept; assumption; refine kept_snd (by assumption) ?_; apply State.ptpTaken_kept; assumption
  apply keptO_next; refine kept_snd (by assumption) ?_; apply State.ptpTaken_kept; assumption

theorem execPtpSetClock_kept {Q : List Instr} (d : Submission) (s : State) (hG : Kept Q s) :
    KeptO Q (execPtpSetClock d s) := by
  unfold execPtpSetClock
  try beta_reduce
  apply keptO_next; apply CmdSpec.take_kept; assumption; apply specPtpClock_kept

theorem execPtpSetPort_kept {Q : List Instr} (d : Submission) (s : State) (hG : Kept Q s) :
    KeptO Q (execPtpSetPort d s) := by
  unfold execPtpSetPort
  try beta_reduce
  apply keptO_next; apply CmdSpec.take_kept; assumption; apply specPtpPort_kept

theorem execPtpSyncReceive_kept {Q : List Instr} (p : Nat) (l : List Byte) (s : State) (hG : Kept Q s) :
    KeptO Q (execPtpSyncReceive p l s) := by
  unfold execPtpSyncReceive
  try beta_reduce
  apply keptO_next; apply State.ptpGet_kept; intro _ _ _ _; try beta_reduce; apply kept_ite; assumption
  apply kept_ite; apply State.modPtp_kept; assumption; apply State.ptpCombine_kept; assumption; assumption

theorem execPtpSyncSend_kept {Q : List Instr} (p : Nat) (s : State) (hG : Kept Q s) :
    KeptO Q (execPtpSyncSend p s) := by
  unfold execPtpSyncSend
  try beta_reduce
  apply keptO_ite; apply keptO_next; apply State.ptpSend_kept; apply State.modPtp_kept; apply State.slotMade_kept
  assumption; apply keptO_next; assumption

end Sys2Proof.Machine
end

