-- ==== Sys2Proof/Laws/KeptOperands.lean ====
section
/-! SUPPORT. The operations of Machine/Operands.lean keep the queue, the register file and the forwarding database. -/

namespace Sys2Proof.Machine

open Sys2Proof

set_option linter.unusedTactic false

theorem State.dpllWrite_kept {Q : List Instr} (a : Nat) (v : Word) (s : State) (hG : Kept Q s) :
    Kept Q (State.dpllWrite a v s) := by
  unfold State.dpllWrite
  try beta_reduce
  split; apply State.slotConfigure_kept; apply State.wr_kept; assumption; apply State.updQl_kept
  apply State.updHistory_kept; apply State.forEach_kept; apply State.dpModeChange_kept; apply State.wr_kept
  assumption; apply State.showSlot_kept

theorem State.gnssWrite_kept {Q : List Instr} (a : Nat) (v : Word) (s : State) (hG : Kept Q s) :
    Kept Q (State.gnssWrite a v s) := by
  unfold State.gnssWrite
  try beta_reduce
  apply State.gnssFollow_kept; apply State.wr_kept; assumption

theorem State.graphWrite_kept {Q : List Instr} (h a : Nat) (v : Word) (s : State) (hG : Kept Q s) :
    Kept Q (State.graphWrite h a v s) := by
  unfold State.graphWrite
  try beta_reduce
  apply kept_ite; assumption; apply State.set_kept; apply State.wr_kept; assumption

theorem State.groomWrite_kept {Q : List Instr} (a : Nat) (v : Word) (s : State) (hG : Kept Q s) :
    Kept Q (State.groomWrite a v s) := by
  unfold State.groomWrite
  try beta_reduce
  apply kept_ite; apply State.perfLoWrite_kept; assumption; apply kept_ite; apply State.perfHiWrite_kept; assumption
  lift_lets -underBinder; split; apply kept_ite; apply State.logCtrlWrite_kept; assumption; apply State.wr_kept
  assumption; apply State.wr_kept; assumption

theorem State.laneWrite_kept {Q : List Instr} (a : Nat) (v : Word) (s : State) (hG : Kept Q s) :
    Kept Q (State.laneWrite a v s) := by
  unfold State.laneWrite
  try beta_reduce
  apply State.updKeep_kept; apply State.laneConfigure_kept; assumption

theorem State.mirrorWrite_kept {Q : List Instr} (m a : Nat) (v : Word) (s : State) (hG : Kept Q s) :
    Kept Q (State.mirrorWrite m a v s) := by
  unfold State.mirrorWrite
  try beta_reduce
  apply kept_ite; apply kept_mk; apply kept_fold; apply State.wr_kept; assumption; apply State.wr_kept; assumption

theorem State.synWrite_kept {Q : List Instr} (a : Nat) (v : Word) (s : State) (hG : Kept Q s) :
    Kept Q (State.synWrite a v s) := by
  unfold State.synWrite
  try beta_reduce
  split; apply kept_ite; apply State.trdCfgWrite_kept; assumption; apply kept_ite; assumption; apply State.wr_kept
  assumption; apply State.outputWrite_kept; assumption

theorem State.timeBlockWrite_kept {Q : List Instr} (a : Nat) (v : Word) (s : State) (hG : Kept Q s) :
    Kept Q (State.timeBlockWrite a v s) := by
  unfold State.timeBlockWrite
  try beta_reduce
  split; apply State.kplConfigure_kept; assumption; split; apply State.ptpFollow_kept; apply State.wr_kept
  assumption; apply kept_ite; apply State.forEach_kept; apply State.wr_kept; assumption; apply State.ptpFollow_kept
  apply State.wr_kept; assumption

theorem State.unmask_kept {Q : List Instr} (k : Nat) (s : State) (hG : Kept Q s) :
    Kept Q (State.unmask k s) := by
  unfold State.unmask
  try beta_reduce
  apply kept_ite; apply kept_mk; apply kept_fold; apply State.set_kept; assumption; assumption

theorem State.applyReg_kept {Q : List Instr} (a : Nat) (v : Word) (s : State) (hG : Kept Q s) :
    Kept Q (State.applyReg a v s) := by
  unfold State.applyReg
  try beta_reduce
  apply kept_ite; lift_lets -underBinder; split; apply State.unmask_kept; apply State.wr_kept; assumption
  apply State.wr_kept; assumption; apply kept_ite; apply State.laneWrite_kept; assumption; apply kept_ite
  apply kept_ite; apply State.updKeep_kept; apply State.oeBoot_kept; apply State.oeConfigure_kept; assumption
  apply State.wr_kept; assumption; apply kept_ite; apply State.when_kept; apply State.wr_kept; apply State.when_kept
  assumption; intro _ _; try beta_reduce; apply State.sendRelease_kept; apply State.clearHolds_kept; assumption
  apply State.sendHold_kept; apply kept_ite; apply kept_ite; apply State.hedCtrl_kept; assumption
  lift_lets -underBinder; split; apply State.graphWrite_kept; assumption; apply State.wr_kept; assumption
  apply kept_ite; lift_lets -underBinder; split; apply State.mirrorWrite_kept; assumption; apply State.wr_kept
  assumption; apply kept_ite; apply State.wr_kept; assumption; apply kept_ite; lift_lets -underBinder; split
  apply State.stop_kept; apply State.setFrer_kept; apply State.frerModes_kept; apply State.wr_kept; assumption
  apply State.wr_kept; assumption; apply kept_ite; apply State.timeBlockWrite_kept; assumption; apply kept_ite
  apply State.dpllWrite_kept; assumption; apply kept_ite; apply State.synWrite_kept; assumption; apply kept_ite
  apply State.wr_kept; assumption; apply kept_ite; apply State.gnssWrite_kept; assumption; apply kept_ite
  apply State.wr_kept; assumption; apply kept_ite; apply State.groomWrite_kept; assumption; apply kept_ite
  apply State.wr_kept; assumption; apply State.updKeep_kept; apply State.wr_kept; assumption

theorem State.regWrite_kept {Q : List Instr} (a : Nat) (v same : Word) (s : State) (hG : Kept Q s) :
    Kept Q (State.regWrite a v same s) := by
  unfold State.regWrite
  try beta_reduce
  split; assumption; apply kept_ite; apply State.wr_kept; assumption; apply kept_ite; assumption
  apply State.applyReg_kept; assumption

theorem State.latch_kept {Q : List Instr} (w a : Nat) (v : Word) (s : State) (hG : Kept Q s) :
    Kept Q (State.latch w a v s) := by
  unfold State.latch
  try beta_reduce
  apply kept_mk; apply kept_fold; assumption

theorem State.unlatch_kept {Q : List Instr} (w a : Nat) (s : State) (hG : Kept Q s) :
    Kept Q (State.unlatch w a s) := by
  unfold State.unlatch
  try beta_reduce
  apply kept_mk; apply kept_fold; assumption

theorem State.tapRead_kept {Q : List Instr} (w t i : Nat) (s : State) (hG : Kept Q s) :
    Kept Q (State.tapRead w t i s).2 := by
  unfold State.tapRead
  try beta_reduce
  apply kept_ite2; apply State.forEach_kept; assumption; intro _ _ _; try beta_reduce; apply State.latch_kept
  assumption; apply kept_ite; apply State.forEach_kept; assumption; intro _ _ _; try beta_reduce
  apply State.unlatch_kept; assumption; assumption

theorem State.timeCapture_kept {Q : List Instr} (w : Nat) (s : State) (hG : Kept Q s) :
    Kept Q (State.timeCapture w s) := by
  unfold State.timeCapture
  try beta_reduce
  apply State.forEach_kept; assumption; intro _ _ _; try beta_reduce; apply State.latch_kept; assumption

theorem State.timeRead_kept {Q : List Instr} (w i : Nat) (s : State) (hG : Kept Q s) :
    Kept Q (State.timeRead w i s).2 := by
  unfold State.timeRead
  try beta_reduce
  apply kept_ite; apply State.forEach_kept; apply kept_ite; apply State.timeCapture_kept; assumption; assumption
  intro _ _ _; try beta_reduce; apply State.unlatch_kept; assumption; apply kept_ite; apply State.timeCapture_kept
  assumption; assumption

theorem State.regRead_kept {Q : List Instr} (w a : Nat) (s : State) (hG : Kept Q s) :
    Kept Q (State.regRead w a s).2 := by
  unfold State.regRead
  try beta_reduce
  split; apply State.timeRead_kept; assumption; split; apply State.tapRead_kept; assumption; apply kept_ite2
  apply State.latch_kept; assumption; apply kept_ite2; apply State.unlatch_kept; assumption; assumption

end Sys2Proof.Machine
end

