-- ==== Sys2Proof/Laws/KeptReset.lean ====
section
/-! SUPPORT. The operations of Machine/Reset.lean keep the queue, the register file and the forwarding database. -/

namespace Sys2Proof.Machine

open Sys2Proof

set_option linter.unusedTactic false

theorem State.noteCause_kept {Q : List Instr} (cause : Nat) (s : State) (hG : Kept Q s) :
    Kept Q (State.noteCause cause s) := by
  unfold State.noteCause
  try beta_reduce
  apply State.stick_kept; assumption

theorem State.heddleReset_kept {Q : List Instr} (h : Nat) (s : State) (hG : Kept Q s) :
    Kept Q (State.heddleReset h s) := by
  unfold State.heddleReset
  try beta_reduce
  apply kept_mk; apply kept_fold; apply State.wr_kept; apply State.forEach_kept; apply State.resetHeddle_kept
  assumption; intro _ _ _; try beta_reduce; apply State.wr_kept; apply State.wr_kept; assumption

theorem State.clearLive_kept {Q : List Instr} (lo hi : Nat) (s : State) (hG : Kept Q s) :
    Kept Q (State.clearLive lo hi s) := by
  unfold State.clearLive
  try beta_reduce
  apply State.forEach_kept; assumption; intro _ _ _; try beta_reduce; split; apply State.wr_kept; assumption
  assumption

theorem State.timingFates_kept {Q : List Instr} (s : State) (hG : Kept Q s) :
    Kept Q (State.timingFates s) := by
  unfold State.timingFates
  try beta_reduce
  apply State.cancelWaiting_kept; apply State.weaveOff_kept; apply State.forEach_kept; assumption
  intro _ _ _; try beta_reduce; split; apply State.shedMissed_kept; assumption; apply State.endFrame_kept
  assumption

theorem State.timingReset_kept {Q : List Instr} (s : State) (hG : Kept Q s) :
    Kept Q (State.timingReset s) := by
  unfold State.timingReset
  try beta_reduce
  apply State.evalQuality_kept; apply State.updQl_kept; apply State.select_kept; apply State.resetGnss_kept
  apply State.stop_kept; apply State.stop_kept; apply State.forEach_kept; apply State.forEach_kept
  apply kept_mk; apply kept_fold; apply State.set_kept; apply State.set_kept; apply State.set_kept
  apply State.set_kept; apply State.set_kept; apply State.wr_kept; apply State.clearLive_kept
  apply State.clearLive_kept; apply State.forEach_kept; apply State.calDiscard_kept; apply State.timingFates_kept
  assumption; apply State.asymEnd_kept; intro _ _ _; try beta_reduce; apply State.stop_kept
  apply State.slotEnable_kept; assumption; intro _ _ _; try beta_reduce; apply State.updShed_kept; assumption

theorem State.scopeReset_kept {Q : List Instr} (scope i : Nat) (s : State) (hG : Kept Q s) :
    Kept Q (State.scopeReset scope i s) := by
  unfold State.scopeReset
  try beta_reduce
  split; apply State.groomReset_kept; assumption; apply State.groomReset_kept; assumption
  apply State.resetNode_kept; assumption; apply State.heddleReset_kept; assumption; apply State.resetEngine_kept
  assumption; apply State.resetLane_kept; assumption; apply State.timingReset_kept; assumption
  apply State.synRelock_kept; assumption; apply State.resetPort_kept; assumption; assumption

theorem State.cleared_kept {Q : List Instr} (s : State) (hG : Kept Q s) : Kept Q s.cleared := ⟨hG.1, canonRegs_nil, fdbSound_nil⟩

theorem State.systemReset_kept {Q : List Instr} (cause : Nat) (s : State) (hG : Kept Q s) :
    Kept Q (State.systemReset cause s) := by
  unfold State.systemReset
  try beta_reduce
  apply kept_mk; apply kept_fold; apply State.set_kept; apply State.set_kept; apply State.set_kept; apply kept_ite
  apply State.wr_kept; apply State.forEach_kept; apply State.cleared_kept; assumption; intro _ _ _; try beta_reduce
  apply State.wr_kept; assumption; apply State.stick_kept; apply State.forEach_kept; apply State.cleared_kept
  assumption; intro _ _ _; try beta_reduce; apply State.wr_kept; assumption

theorem specReset_kept {Q : List Instr} (c : Cmd) (s : State) (hG : Kept Q s) :
    Kept Q (specReset.act c s).1 := by
  unfold specReset
  try beta_reduce
  apply kept_ite1; apply State.systemReset_kept; apply State.completeCmd_kept; assumption; apply kept_ite1
  assumption; apply kept_ite1; apply State.timingReset_kept; apply State.noteCause_kept
  apply State.completeCmd_kept; assumption; apply State.scopeReset_kept; apply State.noteCause_kept; assumption

theorem State.coreFault_kept {Q : List Instr} (kind cause core : Nat) (s : State) (hG : Kept Q s) :
    Kept Q (State.coreFault kind cause core s) := by
  unfold State.coreFault
  try beta_reduce
  apply kept_ite; assumption; apply kept_ite; apply State.groomFault_kept; apply State.noteCause_kept; assumption
  apply State.systemReset_kept; assumption

theorem State.coreReset_kept {Q : List Instr} (s : State) (hG : Kept Q s) : Kept Q s.coreReset := by
  have h := State.set_kept F.OBS_STATUS_CAPTURING 0 _
    (State.linkDown_kept _ (State.endFrames_kept (fun _ => true) 0x35 s hG))
  exact ⟨h.1, canonRegs_filter _ (State.set_kept F.RST_DOMAIN_HELD _ _ h).2.1, fdbSound_nil⟩

theorem State.dbgReq_kept {Q : List Instr} (v : Word) (s : State) (hG : Kept Q s) :
    Kept Q (State.dbgReq v s) := by
  unfold State.dbgReq
  try beta_reduce
  apply kept_ite; assumption; lift_lets -underBinder; split; apply State.systemReset_kept; assumption
  apply State.groomReset_kept; apply State.noteCause_kept; assumption; apply State.groomReset_kept
  apply State.noteCause_kept; assumption; assumption

theorem State.rstForce_kept {Q : List Instr} (v : Word) (s : State) (hG : Kept Q s) :
    Kept Q (State.rstForce v s) := by
  unfold State.rstForce
  try beta_reduce
  apply kept_ite; assumption; apply State.set_kept; apply State.set_kept; assumption

theorem State.swReq_kept {Q : List Instr} (scopes : List Nat) (v : Word) (s : State) (hG : Kept Q s) :
    Kept Q (State.swReq scopes v s) := by
  unfold State.swReq
  try beta_reduce
  apply kept_ite; assumption; apply kept_ite; apply State.systemReset_kept; assumption; apply State.scopeReset_kept
  apply State.noteCause_kept; assumption

theorem State.takeReset_kept {Q : List Instr} (scopes : List Nat) (d : Submission) (s : State) (hG : Kept Q s) :
    Kept Q (State.takeReset scopes d s) := by
  unfold State.takeReset
  try beta_reduce
  apply kept_ite; apply CmdSpec.take_kept; assumption; apply specReset_kept; assumption

theorem execClockFailure_kept {Q : List Instr} (d : Domain) (i : Nat) (s : State) (hG : Kept Q s) :
    KeptO Q (execClockFailure d i s) := by
  unfold execClockFailure
  try beta_reduce
  apply keptO_ite; apply keptO_next; assumption; lift_lets -underBinder; intro x; subst x; beta_reduce
  intro x; subst x; beta_reduce; split; apply keptO_next; apply State.timingReset_kept
  apply kept_mk; apply kept_fold; apply State.noteCause_kept; assumption; apply keptO_next
  apply State.groomReset_kept; apply kept_mk; apply kept_fold; apply State.noteCause_kept; assumption
  apply keptO_next; apply State.groomReset_kept; apply kept_mk; apply kept_fold; apply State.noteCause_kept
  assumption; apply keptO_next; apply State.coreReset_kept; apply kept_mk; apply kept_fold
  apply State.noteCause_kept; assumption; apply keptO_ite; apply keptO_next; apply State.synRelock_kept
  apply kept_mk; apply kept_fold; apply State.noteCause_kept; assumption; apply keptO_next; assumption
  apply keptO_ite; apply keptO_next; apply State.resetLane_kept; apply kept_mk; apply kept_fold
  apply State.noteCause_kept; assumption; apply keptO_next; assumption; apply keptO_ite; apply keptO_next
  apply State.resetEngine_kept; apply kept_mk; apply kept_fold; apply State.noteCause_kept; assumption
  apply keptO_next; assumption; apply keptO_ite; apply keptO_next; apply State.resetPort_kept
  apply kept_mk; apply kept_fold; apply State.noteCause_kept; assumption; apply keptO_next; assumption
  apply keptO_next; assumption

theorem execDbgReqComplex_kept {Q : List Instr} (v : BitVec 32) (s : State) (hG : Kept Q s) :
    KeptO Q (execDbgReqComplex v s) := by
  unfold execDbgReqComplex
  try beta_reduce
  apply keptO_ite; apply keptO_next; assumption; apply keptO_next; apply State.dbgReq_kept; assumption

theorem execDbgReqSystem_kept {Q : List Instr} (v : BitVec 32) (s : State) (hG : Kept Q s) :
    KeptO Q (execDbgReqSystem v s) := by
  unfold execDbgReqSystem
  try beta_reduce
  apply keptO_ite; apply keptO_next; apply State.dbgReq_kept; assumption; apply keptO_next; assumption

theorem execLockup_kept {Q : List Instr} (core : Nat) (s : State) (hG : Kept Q s) :
    KeptO Q (execLockup core s) := by
  unfold execLockup
  try beta_reduce
  apply keptO_next; apply State.coreFault_kept; assumption

theorem execResetComplex_kept {Q : List Instr} (d : Submission) (s : State) (hG : Kept Q s) :
    KeptO Q (execResetComplex d s) := by
  unfold execResetComplex
  try beta_reduce
  apply keptO_next; apply State.takeReset_kept; assumption

theorem execResetEngine_kept {Q : List Instr} (d : Submission) (s : State) (hG : Kept Q s) :
    KeptO Q (execResetEngine d s) := by
  unfold execResetEngine
  try beta_reduce
  apply keptO_next; apply State.takeReset_kept; assumption

theorem execResetHeddle_kept {Q : List Instr} (d : Submission) (s : State) (hG : Kept Q s) :
    KeptO Q (execResetHeddle d s) := by
  unfold execResetHeddle
  try beta_reduce
  apply keptO_next; apply State.takeReset_kept; assumption

theorem execResetLane_kept {Q : List Instr} (d : Submission) (s : State) (hG : Kept Q s) :
    KeptO Q (execResetLane d s) := by
  unfold execResetLane
  try beta_reduce
  apply keptO_next; apply State.takeReset_kept; assumption

theorem execResetNAssert_kept {Q : List Instr} (s : State) (hG : Kept Q s) :
    KeptO Q (execResetNAssert s) := by
  unfold execResetNAssert
  try beta_reduce
  apply keptO_next; apply State.when_kept; apply kept_mk; apply kept_fold; assumption; apply State.systemReset_kept

theorem execResetNRelease_kept {Q : List Instr} (s : State) (hG : Kept Q s) :
    KeptO Q (execResetNRelease s) := by
  unfold execResetNRelease
  try beta_reduce
  apply keptO_next; apply kept_mk; apply kept_fold; assumption

theorem execResetNode_kept {Q : List Instr} (d : Submission) (s : State) (hG : Kept Q s) :
    KeptO Q (execResetNode d s) := by
  unfold execResetNode
  try beta_reduce
  apply keptO_next; apply State.takeReset_kept; assumption

theorem execResetPort_kept {Q : List Instr} (d : Submission) (s : State) (hG : Kept Q s) :
    KeptO Q (execResetPort d s) := by
  unfold execResetPort
  try beta_reduce
  apply keptO_next; apply State.takeReset_kept; assumption

theorem execResetSynthesiser_kept {Q : List Instr} (d : Submission) (s : State) (hG : Kept Q s) :
    KeptO Q (execResetSynthesiser d s) := by
  unfold execResetSynthesiser
  try beta_reduce
  apply keptO_next; apply State.takeReset_kept; assumption

theorem execResetSystem_kept {Q : List Instr} (d : Submission) (s : State) (hG : Kept Q s) :
    KeptO Q (execResetSystem d s) := by
  unfold execResetSystem
  try beta_reduce
  apply keptO_next; apply State.takeReset_kept; assumption

theorem execResetTiming_kept {Q : List Instr} (d : Submission) (s : State) (hG : Kept Q s) :
    KeptO Q (execResetTiming d s) := by
  unfold execResetTiming
  try beta_reduce
  apply keptO_next; apply State.takeReset_kept; assumption

theorem execRstForceWrite_kept {Q : List Instr} (v : BitVec 32) (s : State) (hG : Kept Q s) :
    KeptO Q (execRstForceWrite v s) := by
  unfold execRstForceWrite
  try beta_reduce
  apply keptO_next; apply State.rstForce_kept; assumption

theorem execSwreqComplex_kept {Q : List Instr} (v : BitVec 32) (s : State) (hG : Kept Q s) :
    KeptO Q (execSwreqComplex v s) := by
  unfold execSwreqComplex
  try beta_reduce
  apply keptO_next; apply State.swReq_kept; assumption

theorem execSwreqEngine_kept {Q : List Instr} (v : BitVec 32) (s : State) (hG : Kept Q s) :
    KeptO Q (execSwreqEngine v s) := by
  unfold execSwreqEngine
  try beta_reduce
  apply keptO_next; apply State.swReq_kept; assumption

theorem execSwreqHeddle_kept {Q : List Instr} (v : BitVec 32) (s : State) (hG : Kept Q s) :
    KeptO Q (execSwreqHeddle v s) := by
  unfold execSwreqHeddle
  try beta_reduce
  apply keptO_next; apply State.swReq_kept; assumption

theorem execSwreqLane_kept {Q : List Instr} (v : BitVec 32) (s : State) (hG : Kept Q s) :
    KeptO Q (execSwreqLane v s) := by
  unfold execSwreqLane
  try beta_reduce
  apply keptO_next; apply State.swReq_kept; assumption

theorem execSwreqNode_kept {Q : List Instr} (v : BitVec 32) (s : State) (hG : Kept Q s) :
    KeptO Q (execSwreqNode v s) := by
  unfold execSwreqNode
  try beta_reduce
  apply keptO_next; apply State.swReq_kept; assumption

theorem execSwreqPort_kept {Q : List Instr} (v : BitVec 32) (s : State) (hG : Kept Q s) :
    KeptO Q (execSwreqPort v s) := by
  unfold execSwreqPort
  try beta_reduce
  apply keptO_next; apply State.swReq_kept; assumption

theorem execSwreqSynthesiser_kept {Q : List Instr} (v : BitVec 32) (s : State) (hG : Kept Q s) :
    KeptO Q (execSwreqSynthesiser v s) := by
  unfold execSwreqSynthesiser
  try beta_reduce
  apply keptO_next; apply State.swReq_kept; assumption

theorem execSwreqSystem_kept {Q : List Instr} (v : BitVec 32) (s : State) (hG : Kept Q s) :
    KeptO Q (execSwreqSystem v s) := by
  unfold execSwreqSystem
  try beta_reduce
  apply keptO_next; apply State.swReq_kept; assumption

theorem execSwreqTiming_kept {Q : List Instr} (v : BitVec 32) (s : State) (hG : Kept Q s) :
    KeptO Q (execSwreqTiming v s) := by
  unfold execSwreqTiming
  try beta_reduce
  apply keptO_next; apply State.swReq_kept; assumption

theorem execWatchdogExpiry_kept {Q : List Instr} (core : Nat) (s : State) (hG : Kept Q s) :
    KeptO Q (execWatchdogExpiry core s) := by
  unfold execWatchdogExpiry
  try beta_reduce
  apply keptO_next; apply State.coreFault_kept; assumption

end Sys2Proof.Machine
end

