-- ==== Sys2Proof/Laws/KeptBoot.lean ====
section
/-! SUPPORT. The operations of Machine/Boot.lean keep the queue, the register file and the forwarding database. -/

namespace Sys2Proof.Machine

open Sys2Proof

set_option linter.unusedTactic false

theorem specCfgWrite_kept {Q : List Instr} (c : Cmd) (s : State) (hG : Kept Q s) :
    Kept Q (specCfgWrite.act c s).1 := by
  unfold specCfgWrite
  try beta_reduce
  apply kept_ite1; assumption; apply State.storeStart_kept; assumption

theorem State.applyEntry_kept {Q : List Instr} (e : CfgEntry) (s : State) (hG : Kept Q s) :
    Kept Q (State.applyEntry e s) := by
  unfold State.applyEntry
  try beta_reduce
  apply kept_ite; apply kept_mk; apply kept_fold; assumption; apply State.applyReg_kept; assumption

theorem State.applyOptions_kept {Q : List Instr} (s : State) (hG : Kept Q s) :
    Kept Q (State.applyOptions s) := by
  unfold State.applyOptions
  try beta_reduce
  apply State.forEach_kept; assumption; intro _ _ _; try beta_reduce; apply State.regWrite_kept; assumption

theorem State.bootDone_kept {Q : List Instr} (up : Nat) (s : State) (hG : Kept Q s) :
    Kept Q (State.bootDone up s) := by
  unfold State.bootDone
  try beta_reduce
  apply State.when_kept; apply State.set_kept; apply State.set_kept; apply State.when_kept
  apply State.ledgerAdd_kept; assumption; apply State.event_kept; apply State.startTasks_kept

theorem State.fallBack_kept {Q : List Instr} (k : Nat) (s : State) (hG : Kept Q s) :
    Kept Q (State.fallBack k s) := by
  unfold State.fallBack
  try beta_reduce
  apply State.set_kept; assumption

theorem State.bootHold_kept {Q : List Instr} (s : State) (hG : Kept Q s) :
    Kept Q (State.bootHold s) := by
  unfold State.bootHold
  try beta_reduce
  apply kept_mk; apply kept_fold; apply State.set_kept; apply State.when_kept; assumption; apply State.fallBack_kept

theorem State.calStep_kept {Q : List Instr} (ok : Bool) (s : State) (hG : Kept Q s) :
    Kept Q (State.calStep ok s).1 := by
  unfold State.calStep
  try beta_reduce
  split; apply kept_ite1; apply State.showCal_kept; apply State.calLoad_kept; assumption; apply State.raise_kept
  apply State.showCal_kept; apply State.fallBack_kept; assumption; apply State.raise_kept; apply State.showCal_kept
  apply State.fallBack_kept; assumption

theorem State.cfgEntry_kept {Q : List Instr} (e : CfgEntry) (s : State) (hG : Kept Q s) :
    Kept Q (State.cfgEntry e s) := by
  unfold State.cfgEntry
  try beta_reduce
  split; apply kept_ite; assumption; apply State.regWrite_kept; assumption; apply kept_ite; assumption
  apply State.writeGraph_kept; assumption; assumption

theorem State.stallApply_kept {Q : List Instr} (s : State) (hG : Kept Q s) :
    Kept Q (State.stallApply s) := by
  unfold State.stallApply
  try beta_reduce
  apply State.forEach_kept; apply kept_mk; apply kept_fold; assumption; intro _ _ _; try beta_reduce
  apply State.wr_kept; assumption

theorem State.cfgJob_kept {Q : List Instr} (j : StoreJob) (s : State) (hG : Kept Q s) :
    Kept Q (State.cfgJob j s) := by
  unfold State.cfgJob
  try beta_reduce
  apply State.storeComplete_kept; apply State.stallApply_kept; apply State.forEach_kept; assumption
  apply State.applyEntry_kept

theorem State.cfgStep_kept {Q : List Instr} (ok : Bool) (s : State) (hG : Kept Q s) :
    Kept Q (State.cfgStep ok s).1 := by
  unfold State.cfgStep
  try beta_reduce
  apply kept_ite1; apply State.forEach_kept; assumption; apply State.cfgEntry_kept; apply State.setRole_kept
  apply State.fallBack_kept; assumption

theorem State.cfgTake_kept {Q : List Instr} (s : State) (hG : Kept Q s) :
    Kept Q (State.cfgTake s) := by
  unfold State.cfgTake
  try beta_reduce
  apply State.stallApply_kept; apply State.forEach_kept; apply kept_mk; apply kept_fold; assumption
  apply State.cfgJob_kept

theorem State.dlGo_kept {Q : List Instr} (v : Word) (s : State) (hG : Kept Q s) :
    Kept Q (State.dlGo v s) := by
  unfold State.dlGo
  try beta_reduce
  apply kept_ite; assumption; apply State.set_kept; assumption

theorem State.enginesFail_kept {Q : List Instr} (l : List Nat) (s : State) (hG : Kept Q s) :
    Kept Q (State.enginesFail l s) := by
  unfold State.enginesFail
  try beta_reduce
  apply State.forEach_kept; assumption; intro _ _ _; try beta_reduce; apply State.oeTo_kept; assumption

theorem State.firstLoad_kept {Q : List Instr} (ohms : Option Nat) (trimsOk : Bool) (s : State) (hG : Kept Q s) :
    Kept Q (State.firstLoad ohms trimsOk s) := by
  unfold State.firstLoad
  try beta_reduce
  apply State.when_kept; apply State.when_kept; apply State.wr_kept; assumption; apply State.fallBack_kept
  apply State.event_kept

theorem State.stepBegin_kept {Q : List Instr} (x up : Nat) (s : State) (hG : Kept Q s) :
    Kept Q (State.stepBegin x up s) := by
  unfold State.stepBegin
  try beta_reduce
  apply kept_ite; apply kept_ite; apply State.bootHold_kept; apply State.ledgerAdd_kept
  apply kept_mk; apply kept_fold; apply State.set_kept; assumption; apply State.ledgerAdd_kept
  apply kept_mk; apply kept_fold; apply State.set_kept; assumption; apply State.ledgerAdd_kept
  apply kept_mk; apply kept_fold; apply State.set_kept; assumption

theorem State.groomStartFails_kept {Q : List Instr} (up : Nat) (s : State) (hG : Kept Q s) :
    Kept Q (State.groomStartFails up s) := by
  unfold State.groomStartFails
  try beta_reduce
  apply State.stepBegin_kept; apply kept_mk; apply kept_fold; apply State.fallBack_kept; apply State.groomReset_kept
  apply State.groomReset_kept; assumption

theorem State.imageFails_kept {Q : List Instr} (s : State) (hG : Kept Q s) :
    Kept Q (State.imageFails s) := by
  unfold State.imageFails
  try beta_reduce
  apply kept_ite; apply kept_mk; apply kept_fold; assumption; apply kept_ite; apply State.bootHold_kept
  apply kept_mk; apply kept_fold; apply State.fallBack_kept; assumption; apply kept_mk; apply kept_fold
  apply State.fallBack_kept; assumption

theorem State.lanesFail_kept {Q : List Instr} (l : List Nat) (s : State) (hG : Kept Q s) :
    Kept Q (State.lanesFail l s) := by
  unfold State.lanesFail
  try beta_reduce
  apply State.forEach_kept; assumption; intro _ _ _; try beta_reduce; apply State.linkChange_kept
  apply State.laneTo_kept; assumption

theorem State.readLedger_kept {Q : List Instr} (s : State) (hG : Kept Q s) :
    Kept Q (State.readLedger s) := by
  unfold State.readLedger
  try beta_reduce
  lift_lets -underBinder; intro x; clear_value x; intro x; clear_value x
  intro x; refine (fun (hx : Kept Q x) => ?_) ?_ <;> [clear_value x; subst x]; split; apply State.fallBack_kept
  assumption; lift_lets -underBinder; intro x; refine (fun (hx : Kept Q x) => ?_) ?_ <;> [clear_value x; subst x]
  split; apply kept_ite; apply State.setSuspect_kept; assumption; assumption; assumption; apply State.fallBack_kept
  assumption; apply State.fallBack_kept; assumption; apply State.fallBack_kept; assumption; apply kept_ite
  apply kept_mk; apply kept_fold; assumption; assumption; assumption; apply State.set_kept; assumption

theorem State.showKinds_kept {Q : List Instr} (s : State) (hG : Kept Q s) :
    Kept Q (State.showKinds s) := by
  unfold State.showKinds
  try beta_reduce
  apply State.showKind_kept; apply State.showKind_kept; apply State.showKind_kept; assumption

theorem State.openStore_kept {Q : List Instr} (s : State) (hG : Kept Q s) :
    Kept Q (State.openStore s) := by
  unfold State.openStore
  try beta_reduce
  apply State.when_kept; apply kept_mk; apply kept_fold; apply State.when_kept; apply State.showKinds_kept
  apply State.set_kept; apply kept_mk; apply kept_fold; apply kept_mk; apply kept_fold; apply State.setB_kept
  apply State.setB_kept; assumption; apply State.readLedger_kept; intro _ _; try beta_reduce
  apply State.forEach_kept; assumption; apply State.ledgerPut_kept

theorem State.portsFail_kept {Q : List Instr} (l : List Nat) (s : State) (hG : Kept Q s) :
    Kept Q (State.portsFail l s) := by
  unfold State.portsFail
  try beta_reduce
  apply State.forEach_kept; assumption; intro _ _ _; try beta_reduce; apply State.forEach_kept; assumption
  intro _ _ _; try beta_reduce; apply State.linkChange_kept; apply State.laneTo_kept; assumption

theorem State.unhold_kept {Q : List Instr} (d : Domain) (s : State) (hG : Kept Q s) :
    Kept Q (State.unhold d s) := by
  unfold State.unhold
  try beta_reduce
  apply State.set_kept; apply State.set_kept; apply State.set_kept; apply kept_mk; apply kept_fold; assumption

theorem State.wake_kept {Q : List Instr} (d : Domain) (s : State) (hG : Kept Q s) :
    Kept Q (State.wake d s) := by
  unfold State.wake
  try beta_reduce
  split; apply State.forEach_kept; assumption; intro _ _ _; try beta_reduce; apply State.linkChange_kept
  intro _ _; try beta_reduce; apply State.forEach_kept; assumption; apply State.laneCheck_kept; assumption
  apply State.forEach_kept; assumption; apply State.oeBoot_kept; apply State.forEach_kept; assumption
  intro _ _ _; try beta_reduce; apply State.setHed_kept; assumption; assumption

theorem State.release_kept {Q : List Instr} (d : Domain) (s : State) (hG : Kept Q s) :
    Kept Q (State.release d s) := by
  unfold State.release
  try beta_reduce
  apply State.wake_kept; apply State.unhold_kept; assumption

theorem State.releaseElem_kept {Q : List Instr} (d : Domain) (i : Nat) (s : State) (hG : Kept Q s) :
    Kept Q (State.releaseElem d i s) := by
  unfold State.releaseElem
  try beta_reduce
  lift_lets -underBinder; intro x; refine (fun (hx : Kept Q x) => ?_) ?_ <;> [clear_value x; subst x]; split
  apply State.linkChange_kept; apply State.laneCheck_kept; assumption; apply State.oeBoot_kept; assumption
  assumption; apply kept_mk; apply kept_fold; assumption

theorem State.setIdents_kept {Q : List Instr} (c : Option (Nat × Nat)) (s : State) (hG : Kept Q s) :
    Kept Q (State.setIdents c s) := by
  unfold State.setIdents
  try beta_reduce
  apply State.modCplx_kept; apply State.modCplx_kept; assumption

theorem State.startTiming_kept {Q : List Instr} (main spare : Bool) (s : State) (hG : Kept Q s) :
    Kept Q (State.startTiming main spare s) := by
  unfold State.startTiming
  try beta_reduce
  apply State.evalQuality_kept; apply State.setRole_kept; apply State.setB_kept; apply State.set_kept
  apply State.set_kept; apply State.set_kept; apply State.setB_kept; apply State.setB_kept; apply State.setB_kept
  assumption

theorem State.stepEnd_kept {Q : List Instr} (x outcome detail up : Nat) (s : State) (hG : Kept Q s) :
    Kept Q (State.stepEnd x outcome detail up s) := by
  unfold State.stepEnd
  try beta_reduce
  apply kept_ite; apply State.set_kept; apply State.when_kept; apply State.ledgerAdd_kept; assumption
  apply State.event_kept; apply kept_ite; apply State.set_kept; apply State.when_kept; apply State.ledgerAdd_kept
  assumption; apply State.event_kept; apply State.stepBegin_kept; apply State.when_kept; apply State.ledgerAdd_kept
  assumption; apply State.event_kept

theorem State.unitStep_kept {Q : List Instr} (x up : Nat) (ok : Bool) (failing : List Nat) (f : List Nat → State → State) (s : State) (hF : ∀ x s, Kept Q s → Kept Q (f x s)) (hG1 : Kept Q s) :
    Kept Q (State.unitStep x up ok failing f s) := by
  unfold State.unitStep
  try beta_reduce
  apply kept_ite; apply State.stepEnd_kept; assumption; apply State.stepEnd_kept; apply State.fallBack_kept
  apply hF; assumption

theorem State.stepDone_kept {Q : List Instr} (ok : Bool) (failing : List Nat) (up : Nat) (s : State) (hG : Kept Q s) :
    Kept Q (State.stepDone ok failing up s) := by
  unfold State.stepDone
  try beta_reduce
  lift_lets -underBinder; intro x; clear_value x
  intro x; refine (fun (hx : Kept Q x) => ?_) ?_ <;> [clear_value x; subst x]; intro x; subst x; beta_reduce; split
  apply kept_ite; apply State.stepEnd_kept; apply State.ledgerAdd_kept; assumption; apply kept_ite; assumption
  apply State.stepEnd_kept; apply State.ledgerAdd_kept; assumption; apply kept_ite; apply kept_mk; apply kept_fold
  apply State.fallBack_kept; assumption; apply kept_ite; assumption; apply State.stepEnd_kept; assumption
  apply kept_ite; apply kept_ite; assumption; apply State.showKinds_kept; apply kept_mk; apply kept_fold; assumption
  apply kept_ite; assumption; apply State.stepEnd_kept; assumption; apply kept_ite; apply kept_ite; assumption
  apply kept_mk; apply kept_fold; assumption; apply kept_ite; assumption; apply State.stepEnd_kept; assumption
  apply kept_ite; apply kept_ite; assumption; apply State.forEach_kept; apply kept_mk; apply kept_fold
  apply State.fallBack_kept; assumption; intro _ _ _; try beta_reduce; apply State.raise_kept
  apply State.synRelock_kept; assumption; apply kept_ite; assumption; apply State.stepEnd_kept; assumption
  apply kept_ite; assumption; apply kept_ite; assumption; apply State.stepEnd_kept; assumption; apply kept_ite
  apply State.imageFails_kept; assumption; apply kept_ite; assumption; apply State.stepEnd_kept
  apply State.setIdents_kept; assumption; apply kept_ite; apply State.groomStartFails_kept; assumption
  apply kept_ite; assumption; apply State.stepEnd_kept; assumption; apply State.stepEnd_kept
  apply State.calStep_kept; assumption; apply State.stepEnd_kept; apply State.cfgStep_kept; assumption
  apply kept_ite; assumption; apply State.unitStep_kept; apply State.lanesFail_kept; assumption; apply kept_ite
  apply State.stepEnd_kept; assumption; apply kept_ite; assumption; apply State.unitStep_kept
  apply State.enginesFail_kept; assumption; apply kept_ite; assumption; apply State.unitStep_kept
  apply State.portsFail_kept; assumption; apply State.bootDone_kept; assumption; assumption
  apply State.stepEnd_kept; assumption

theorem execBootStepComplete_kept {Q : List Instr} (ok : Bool) (failing : List Nat) (up : Nat) (s : State) (hG : Kept Q s) :
    KeptO Q (execBootStepComplete ok failing up s) := by
  unfold execBootStepComplete
  try beta_reduce
  apply keptO_ite; apply keptO_next; apply State.stepDone_kept; assumption; apply keptO_next; assumption

theorem execCfgWrite_kept {Q : List Instr} (d : Submission) (s : State) (hG : Kept Q s) :
    KeptO Q (execCfgWrite d s) := by
  unfold execCfgWrite
  try beta_reduce
  apply keptO_next; apply CmdSpec.take_kept; assumption; apply specCfgWrite_kept

theorem execDlFetchDone_kept {Q : List Instr} (ok : Bool) (up : Nat) (s : State) (hG : Kept Q s) :
    KeptO Q (execDlFetchDone ok up s) := by
  unfold execDlFetchDone
  try beta_reduce
  apply keptO_ite; apply keptO_next; assumption; apply keptO_ite; apply keptO_next; apply State.set_kept; assumption
  apply keptO_next; apply State.stepEnd_kept; apply State.setIdents_kept; apply State.set_kept; apply State.set_kept
  assumption

theorem execDlGo_kept {Q : List Instr} (v : BitVec 32) (s : State) (hG : Kept Q s) :
    KeptO Q (execDlGo v s) := by
  unfold execDlGo
  try beta_reduce
  apply keptO_next; apply State.dlGo_kept; assumption

theorem execDomainRelease_kept {Q : List Instr} (r : Release) (s : State) (hG : Kept Q s) :
    KeptO Q (execDomainRelease r s) := by
  unfold execDomainRelease
  try beta_reduce
  apply keptO_ite; apply keptO_next; assumption; lift_lets -underBinder; intro x; subst x; beta_reduce; split
  apply keptO_ite; apply keptO_next; apply kept_mk; apply kept_fold; assumption; apply keptO_next; assumption
  apply keptO_ite; apply keptO_next; apply kept_mk; apply kept_fold; apply State.firstLoad_kept; assumption
  apply keptO_next; assumption; apply keptO_ite; apply keptO_next; apply kept_mk; apply kept_fold
  apply State.openStore_kept; apply State.release_kept; assumption; apply keptO_next; assumption; apply keptO_ite
  apply keptO_next; apply kept_mk; apply kept_fold; apply State.startTiming_kept; apply State.release_kept
  assumption; apply keptO_next; assumption; apply keptO_ite; apply keptO_next; apply kept_mk; apply kept_fold
  apply State.release_kept; assumption; apply keptO_next; assumption; apply keptO_ite; apply keptO_next
  apply kept_mk; apply kept_fold; apply State.release_kept; apply State.release_kept; apply State.release_kept
  apply State.applyOptions_kept; assumption; apply keptO_next; assumption; apply keptO_ite; apply keptO_next
  apply kept_mk; apply kept_fold; apply State.release_kept; assumption; apply keptO_next; assumption
  apply keptO_ite; apply keptO_next; apply kept_mk; apply kept_fold; apply State.release_kept; assumption
  apply keptO_next; assumption; apply keptO_ite; apply keptO_next; apply kept_mk; apply kept_fold
  apply State.release_kept; assumption; apply keptO_next; assumption; apply keptO_ite; apply keptO_next
  apply State.release_kept; assumption; apply keptO_next; assumption; apply keptO_ite; apply keptO_next
  apply State.releaseElem_kept; assumption; apply keptO_next; assumption

theorem execStoreWriteDone_kept {Q : List Instr} (ok : Bool) (s : State) (hG : Kept Q s) :
    KeptO Q (execStoreWriteDone ok s) := by
  unfold execStoreWriteDone
  try beta_reduce
  split; apply keptO_next; assumption; split; apply keptO_next; assumption; apply keptO_ite; apply keptO_next
  apply State.storeComplete_kept; apply State.storeEnd_kept; assumption; apply keptO_ite; apply keptO_next
  apply kept_mk; apply kept_fold; apply State.storeEnd_kept; apply State.when_kept; apply State.storeCommit_kept
  assumption; apply State.setSuspect_kept; apply keptO_next; apply State.storeComplete_kept
  apply State.storeEnd_kept; apply State.when_kept; apply State.storeCommit_kept; assumption
  apply State.setSuspect_kept

end Sys2Proof.Machine
end

