-- ==== Sys2Proof/Laws/KeptObs.lean ====
section
/-! SUPPORT. The operations of Machine/Obs.lean keep the queue, the register file and the forwarding database. -/

namespace Sys2Proof.Machine

open Sys2Proof

set_option linter.unusedTactic false

theorem specFreeze_kept {Q : List Instr} (on : Bool) (c : Cmd) (s : State) (hG : Kept Q s) :
    Kept Q ((specFreeze on).act c s).1 := by
  unfold specFreeze
  try beta_reduce
  apply State.setB_kept; assumption

theorem State.setCapture_kept {Q : List Instr} (set : Nat) (c : Option Capture) (s : State) (hG : Kept Q s) :
    Kept Q (State.setCapture set c s) := by
  unfold State.setCapture
  try beta_reduce
  apply State.when_kept; apply kept_mk; apply kept_fold; assumption; apply State.setB_kept

theorem State.capture_kept {Q : List Instr} (c : Cmd) (s : State) (hG : Kept Q s) :
    Kept Q (State.capture c s) := by
  unfold State.capture
  try beta_reduce
  dsimp -zeta only; lift_lets -underBinder; intro x; clear_value x; split
  · apply State.setCapture_kept; apply State.wr_kept; assumption
  apply State.setCapture_kept; apply kept_mk; apply kept_fold; assumption

theorem specSnapTake_kept {Q : List Instr} (c : Cmd) (s : State) (hG : Kept Q s) :
    Kept Q (specSnapTake.act c s).1 := by
  unfold specSnapTake
  try beta_reduce
  apply kept_ite1; apply State.raise_kept; apply kept_mk; apply kept_fold; assumption; apply State.capture_kept
  assumption

theorem State.waitingSnaps_kept {Q : List Instr} (s : State) (hG : Kept Q s) :
    Kept Q (State.waitingSnaps s) := by
  unfold State.waitingSnaps
  try beta_reduce
  apply State.forEach_kept; assumption; intro _ _ _; try beta_reduce; apply kept_ite; assumption
  apply State.capture_kept; apply kept_mk; apply kept_fold; assumption

theorem State.finishAs_kept {Q : List Instr} (c : Cmd) (code q1 : Nat) (s : State) (hG : Kept Q s) :
    Kept Q (State.finishAs c code q1 s) := by
  unfold State.finishAs
  try beta_reduce
  split; assumption; apply State.completeCmd_kept; apply kept_mk; apply kept_fold; assumption

theorem State.freeRecs_kept {Q : List Instr} (k n : Nat) (s : State) (hG : Kept Q s) :
    Kept Q (State.freeRecs k n s) := by
  unfold State.freeRecs
  try beta_reduce
  apply State.set_kept; apply State.modMi_kept; assumption

theorem State.peekSel_kept {Q : List Instr} (v : Word) (s : State) (hG : Kept Q s) :
    Kept Q (State.peekSel v s) := by
  unfold State.peekSel
  try beta_reduce
  apply State.wr_kept; apply kept_mk; apply kept_fold; assumption

theorem State.peekRead_kept {Q : List Instr} (who w : Nat) (s : State) (hG : Kept Q s) :
    Kept Q (State.peekRead who w s).2 := by
  unfold State.peekRead
  try beta_reduce
  apply kept_mk; apply kept_fold; assumption

theorem execHealthEvent_kept {Q : List Instr} (s : State) (hG : Kept Q s) :
    KeptO Q (execHealthEvent s) := by
  unfold execHealthEvent
  try beta_reduce
  apply keptO_ite; apply keptO_next; apply State.event_kept; apply kept_mk; apply kept_fold; assumption
  apply keptO_next; assumption

theorem execObsPeekRead_kept {Q : List Instr} (w : Nat) (s : State) (hG : Kept Q s) :
    KeptO Q (execObsPeekRead w s) := by
  unfold execObsPeekRead
  try beta_reduce
  apply keptO_ite; apply keptO_next; apply kept_mk; apply kept_fold; apply State.peekRead_kept; assumption
  apply keptO_next; assumption

theorem execObsPeekSelWrite_kept {Q : List Instr} (v : BitVec 32) (s : State) (hG : Kept Q s) :
    KeptO Q (execObsPeekSelWrite v s) := by
  unfold execObsPeekSelWrite
  try beta_reduce
  apply keptO_next; apply State.peekSel_kept; assumption

theorem execSnapFreeze_kept {Q : List Instr} (d : Submission) (s : State) (hG : Kept Q s) :
    KeptO Q (execSnapFreeze d s) := by
  unfold execSnapFreeze
  try beta_reduce
  apply keptO_next; apply CmdSpec.take_kept; assumption; apply specFreeze_kept

theorem execSnapTake_kept {Q : List Instr} (d : Submission) (s : State) (hG : Kept Q s) :
    KeptO Q (execSnapTake d s) := by
  unfold execSnapTake
  try beta_reduce
  apply keptO_next; apply CmdSpec.take_kept; assumption; apply specSnapTake_kept

theorem execSnapThaw_kept {Q : List Instr} (d : Submission) (s : State) (hG : Kept Q s) :
    KeptO Q (execSnapThaw d s) := by
  unfold execSnapThaw
  try beta_reduce
  apply keptO_next; apply CmdSpec.take_kept; assumption; apply specFreeze_kept

theorem execSnapWriteDone_kept {Q : List Instr} (set : Nat) (ok : Bool) (s : State) (hG : Kept Q s) :
    KeptO Q (execSnapWriteDone set ok s) := by
  unfold execSnapWriteDone
  try beta_reduce
  split; apply keptO_next; assumption; apply keptO_ite; apply keptO_next; apply State.finishAs_kept
  lift_lets -underBinder; split; apply State.freeRecs_kept; apply kept_mk; apply kept_fold
  apply State.setCapture_kept; assumption; apply kept_mk; apply kept_fold; apply State.setCapture_kept; assumption
  apply keptO_next; apply State.finishAs_kept; apply State.hifErr_kept; apply State.setCapture_kept; assumption

end Sys2Proof.Machine
end

