-- ==== Sys2Proof/Laws/KeptAccess.lean ====
section
/-! SUPPORT. The operations of Machine/Access.lean keep the queue, the register file and the forwarding database. -/

namespace Sys2Proof.Machine

open Sys2Proof

set_option linter.unusedTactic false

theorem State.badAccess_kept {Q : List Instr} (read : Bool) (a : Nat) (s : State) (hG : Kept Q s) :
    Kept Q (State.badAccess read a s) := by
  unfold State.badAccess
  try beta_reduce
  apply State.hifErr_kept; apply kept_ite; apply kept_mk; apply kept_fold; assumption; assumption

theorem State.hostWrite_kept {Q : List Instr} (a : Nat) (v same : Word) (s : State) (hG : Kept Q s) :
    Kept Q (State.hostWrite a v same s) := by
  unfold State.hostWrite
  try beta_reduce
  apply kept_ite; apply State.when_kept; apply State.when_kept; assumption; apply State.runRequest_kept
  apply State.relinkDone_kept; apply kept_ite; apply State.swReq_kept; assumption; apply kept_ite
  apply State.dbgReq_kept; assumption; apply kept_ite; apply State.rstForce_kept; assumption; apply kept_ite
  apply State.dlGo_kept; assumption; apply kept_ite; apply State.peekSel_kept; assumption; apply State.regWrite_kept
  assumption

theorem State.readReg_kept {Q : List Instr} (bar2 : Bool) (a : Nat) (s : State) (hG : Kept Q s) :
    Kept Q (State.readReg bar2 a s) := by
  unfold State.readReg
  try beta_reduce
  apply kept_ite; lift_lets -underBinder; split; apply kept_mk; apply kept_fold; assumption
  apply State.badAccess_kept; assumption; apply kept_ite; apply State.badAccess_kept; assumption
  apply kept_mk; apply kept_fold; lift_lets -underBinder; split; apply State.peekRead_kept; assumption
  apply State.regRead_kept; assumption

theorem execInvalidAccess_kept {Q : List Instr} (bar2 read : Bool) (a n : Nat) (s : State) (hG : Kept Q s) :
    KeptO Q (execInvalidAccess bar2 read a n s) := by
  unfold execInvalidAccess
  try beta_reduce
  apply keptO_ite; apply keptO_next; assumption; apply keptO_next; apply State.badAccess_kept; assumption

theorem execLatchingRead_kept {Q : List Instr} (bar2 : Bool) (a : Nat) (s : State) (hG : Kept Q s) :
    KeptO Q (execLatchingRead bar2 a s) := by
  unfold execLatchingRead
  try beta_reduce
  apply keptO_next; apply State.readReg_kept; assumption

theorem execRegisterWrite_kept {Q : List Instr} (bar2 : Bool) (a : Nat) (w : RegWr) (s : State) (hG : Kept Q s) :
    KeptO Q (execRegisterWrite bar2 a w s) := by
  unfold execRegisterWrite
  try beta_reduce
  apply keptO_ite; lift_lets -underBinder; split; apply keptO_next; apply State.when_kept; assumption
  apply State.doorbell_kept; apply keptO_next; apply State.badAccess_kept; assumption; apply keptO_ite
  apply keptO_next; apply State.hostWrite_kept; assumption; apply keptO_next; apply State.badAccess_kept; assumption

theorem execTapLastRead_kept {Q : List Instr} (t : Nat) (s : State) (hG : Kept Q s) :
    KeptO Q (execTapLastRead t s) := by
  unfold execTapLastRead
  try beta_reduce
  apply keptO_ite; apply keptO_next; apply State.readReg_kept; assumption; apply keptO_next; assumption

theorem execTimeLatchRead_kept {Q : List Instr} (sec : Bool) (s : State) (hG : Kept Q s) :
    KeptO Q (execTimeLatchRead sec s) := by
  unfold execTimeLatchRead
  try beta_reduce
  apply keptO_next; apply State.readReg_kept; assumption

theorem execTimeNsRead_kept {Q : List Instr} (s : State) (hG : Kept Q s) :
    KeptO Q (execTimeNsRead s) := by
  unfold execTimeNsRead
  try beta_reduce
  apply keptO_next; apply State.readReg_kept; assumption

end Sys2Proof.Machine
end

