-- ==== Sys2Proof/Laws/KeptPower.lean ====
section
/-! SUPPORT. The operations of Machine/Power.lean keep the queue, the register file and the forwarding database. -/

namespace Sys2Proof.Machine

open Sys2Proof

set_option linter.unusedTactic false

theorem State.closeLedger_kept {Q : List Instr} (up : Nat) (s : State) (hG : Kept Q s) :
    Kept Q (State.closeLedger up s) := by
  unfold State.closeLedger
  try beta_reduce
  apply State.ledgerAdd_kept; assumption

theorem State.dieRead_kept {Q : List Instr} (ts : List (Nat × Int)) (s : State) (hG : Kept Q s) :
    Kept Q (State.dieRead ts s) := by
  unfold State.dieRead
  try beta_reduce
  apply State.setI_kept; apply kept_mk; apply kept_fold; assumption

theorem State.powerDown_kept {Q : List Instr} (goal : Supply) (s : State) (hG : Kept Q s) :
    Kept Q (State.powerDown goal s) := by
  unfold State.powerDown
  try beta_reduce
  apply kept_mk; apply kept_fold; apply State.set_kept; apply State.set_kept; apply State.forEach_kept
  apply State.cleared_kept; assumption; intro _ _ _; try beta_reduce; apply State.wr_kept; assumption

theorem State.tapPowerUp_kept {Q : List Instr} (s : State) (hG : Kept Q s) :
    Kept Q (State.tapPowerUp s) := by
  unfold State.tapPowerUp
  try beta_reduce
  (fail_if_no_progress (with_reducible apply kept_mk; with_reducible apply kept_fold))
  with_reducible apply State.free_kept; with_reducible assumption

theorem State.warnVin_kept {Q : List Instr} (s : State) (hG : Kept Q s) :
    Kept Q (State.warnVin s) := by
  unfold State.warnVin
  try beta_reduce
  apply kept_ite; assumption; apply State.raise_kept; apply State.set_kept; assumption

theorem State.powerUp_kept {Q : List Instr} (warn : Bool) (s : State) (hG : Kept Q s) :
    Kept Q (State.powerUp warn s) := by
  unfold State.powerUp
  try beta_reduce
  apply State.when_kept; apply State.wr_kept; apply State.tapPowerUp_kept; apply State.systemReset_kept
  apply kept_mk; apply kept_fold; assumption; apply State.warnVin_kept

theorem State.tapBypass_kept {Q : List Instr} (i : TapInstr) (driven tdi : List Bool) (s : State) (hG : Kept Q s) :
    Kept Q (State.tapBypass i driven tdi s) := by
  unfold State.tapBypass
  try beta_reduce
  apply kept_ite; apply kept_mk; apply kept_fold; assumption; assumption

theorem execBrownOutAssert_kept {Q : List Instr} (up : Nat) (s : State) (hG : Kept Q s) :
    KeptO Q (execBrownOutAssert up s) := by
  unfold execBrownOutAssert
  try beta_reduce
  lift_lets -underBinder; intro x; refine (fun (hx : Kept Q x) => ?_) ?_ <;> [clear_value x; subst x]; split
  apply keptO_next; apply kept_mk; apply kept_fold; apply State.systemReset_kept; apply State.closeLedger_kept
  assumption; apply keptO_next; apply kept_mk; apply kept_fold; assumption; apply keptO_next; assumption
  apply kept_mk; apply kept_fold; assumption

theorem execDieShutdownTrip_kept {Q : List Instr} (up : Nat) (s : State) (hG : Kept Q s) :
    KeptO Q (execDieShutdownTrip up s) := by
  unfold execDieShutdownTrip
  try beta_reduce
  apply keptO_ite; apply keptO_next; apply State.powerDown_kept; apply State.closeLedger_kept; assumption
  apply keptO_next; assumption

theorem execDieWarnFall_kept {Q : List Instr} (s : State) (hG : Kept Q s) :
    KeptO Q (execDieWarnFall s) := by
  unfold execDieWarnFall
  try beta_reduce
  apply keptO_ite; apply keptO_next; assumption; apply keptO_next; apply State.set_kept; assumption

theorem execDieWarnRise_kept {Q : List Instr} (s : State) (hG : Kept Q s) :
    KeptO Q (execDieWarnRise s) := by
  unfold execDieWarnRise
  try beta_reduce
  apply keptO_ite; apply keptO_next; apply State.raise_kept; apply State.set_kept; assumption; apply keptO_next
  assumption

theorem execEnableFall_kept {Q : List Instr} (up : Nat) (s : State) (hG : Kept Q s) :
    KeptO Q (execEnableFall up s) := by
  unfold execEnableFall
  try beta_reduce
  lift_lets -underBinder; intro x; refine (fun (hx : Kept Q x) => ?_) ?_ <;> [clear_value x; subst x]; split
  apply keptO_next; apply State.powerDown_kept; apply State.closeLedger_kept; assumption; apply keptO_next
  assumption; apply kept_mk; apply kept_fold; assumption

theorem execEnableRise_kept {Q : List Instr} (long warn : Bool) (ts : List (Nat × Int)) (s : State) (hG : Kept Q s) :
    KeptO Q (execEnableRise long warn ts s) := by
  unfold execEnableRise
  try beta_reduce
  lift_lets -underBinder; intro x; refine (fun (hx : Kept Q x) => ?_) ?_ <;> [clear_value x; subst x]; split
  apply keptO_next; apply State.powerUp_kept; assumption; apply keptO_ite; apply keptO_next
  apply State.powerUp_kept; apply State.dieRead_kept; assumption; apply keptO_next; apply State.dieRead_kept
  assumption; apply keptO_next; assumption; apply kept_mk; apply kept_fold; assumption

theorem execJtagBypass_kept {Q : List Instr} (tdi : List Bool) (s : State) (hG : Kept Q s) :
    KeptO Q (execJtagBypass tdi s) := by
  unfold execJtagBypass
  try beta_reduce
  apply keptO_next; apply State.tapBypass_kept; assumption

theorem execJtagClamp_kept {Q : List Instr} (tdi : List Bool) (s : State) (hG : Kept Q s) :
    KeptO Q (execJtagClamp tdi s) := by
  unfold execJtagClamp
  try beta_reduce
  apply keptO_next; apply State.tapBypass_kept; assumption

theorem execJtagExtest_kept {Q : List Instr} (lands tdi : List Bool) (s : State) (hG : Kept Q s) :
    KeptO Q (execJtagExtest lands tdi s) := by
  unfold execJtagExtest
  try beta_reduce
  apply keptO_ite; apply keptO_next; apply kept_mk; apply kept_fold; assumption; apply keptO_next; assumption

theorem execJtagHighz_kept {Q : List Instr} (tdi : List Bool) (s : State) (hG : Kept Q s) :
    KeptO Q (execJtagHighz tdi s) := by
  unfold execJtagHighz
  try beta_reduce
  apply keptO_next; apply State.tapBypass_kept; assumption

theorem execJtagIdcode_kept {Q : List Instr} (tdi : List Bool) (s : State) (hG : Kept Q s) :
    KeptO Q (execJtagIdcode tdi s) := by
  unfold execJtagIdcode
  try beta_reduce
  apply keptO_ite; apply keptO_next; apply kept_mk; apply kept_fold; assumption; apply keptO_next; assumption

theorem execJtagSamplePreload_kept {Q : List Instr} (lands tdi : List Bool) (s : State) (hG : Kept Q s) :
    KeptO Q (execJtagSamplePreload lands tdi s) := by
  unfold execJtagSamplePreload
  try beta_reduce
  apply keptO_ite; apply keptO_next; apply kept_mk; apply kept_fold; assumption; apply keptO_next; assumption

theorem execOeWarnFall_kept {Q : List Instr} (s : State) (hG : Kept Q s) :
    KeptO Q (execOeWarnFall s) := by
  unfold execOeWarnFall
  try beta_reduce
  apply keptO_ite; apply keptO_next; assumption; apply keptO_next; apply State.set_kept; assumption

theorem execOeWarnRise_kept {Q : List Instr} (s : State) (hG : Kept Q s) :
    KeptO Q (execOeWarnRise s) := by
  unfold execOeWarnRise
  try beta_reduce
  apply keptO_ite; apply keptO_next; apply State.raise_kept; apply State.set_kept; assumption; apply keptO_next
  assumption

theorem execOvervoltageEvent_kept {Q : List Instr} (s : State) (hG : Kept Q s) :
    KeptO Q (execOvervoltageEvent s) := by
  unfold execOvervoltageEvent
  try beta_reduce
  apply keptO_ite; apply keptO_next; apply State.raise_kept; assumption; apply keptO_next; assumption

theorem execPowerOn_kept {Q : List Instr} (lost : Bool) (ts : List (Nat × Int)) (s : State) (hG : Kept Q s) :
    KeptO Q (execPowerOn lost ts s) := by
  unfold execPowerOn
  try beta_reduce
  lift_lets -underBinder; intro x; clear_value x
  intro x; refine (fun (hx : Kept Q x) => ?_) ?_ <;> [clear_value x; subst x]; split; apply keptO_next
  apply kept_ite; apply State.powerUp_kept; assumption; apply kept_mk; apply kept_fold; assumption; apply keptO_next
  apply kept_ite; apply kept_mk; apply kept_fold; assumption; apply kept_ite; apply State.powerUp_kept; assumption
  apply State.raise_kept; apply State.set_kept; apply kept_mk; apply kept_fold; assumption; apply keptO_ite
  apply keptO_next; assumption; apply keptO_next; apply kept_ite; apply State.warnVin_kept; apply State.dieRead_kept
  assumption; apply kept_ite; apply State.powerUp_kept; apply State.dieRead_kept; assumption
  apply kept_mk; apply kept_fold; apply State.dieRead_kept; assumption; apply keptO_next; assumption
  apply kept_mk; apply kept_fold; assumption

theorem execPwrWarnAssert_kept {Q : List Instr} (s : State) (hG : Kept Q s) :
    KeptO Q (execPwrWarnAssert s) := by
  unfold execPwrWarnAssert
  try beta_reduce
  apply keptO_next; apply State.when_kept; assumption; apply State.warnVin_kept

theorem execPwrWarnClear_kept {Q : List Instr} (s : State) (hG : Kept Q s) :
    KeptO Q (execPwrWarnClear s) := by
  unfold execPwrWarnClear
  try beta_reduce
  apply keptO_next; apply State.set_kept; assumption

theorem execTapReset_kept {Q : List Instr} (s : State) (hG : Kept Q s) :
    KeptO Q (execTapReset s) := by
  unfold execTapReset
  try beta_reduce
  apply keptO_next; apply kept_mk; apply kept_fold; assumption

theorem execVioFall_kept {Q : List Instr} (s : State) (hG : Kept Q s) :
    KeptO Q (execVioFall s) := by
  unfold execVioFall
  try beta_reduce
  apply keptO_next; apply kept_mk; apply kept_fold; assumption

theorem execVioRise_kept {Q : List Instr} (mv : Nat) (s : State) (hG : Kept Q s) :
    KeptO Q (execVioRise mv s) := by
  unfold execVioRise
  try beta_reduce
  apply keptO_ite; apply keptO_next; assumption; apply keptO_ite; apply keptO_next; apply kept_mk; apply kept_fold
  assumption; apply keptO_ite; apply keptO_next; apply kept_mk; apply kept_fold; assumption; apply keptO_next
  assumption

end Sys2Proof.Machine
end

