-- ==== Sys2Proof/Laws/KeptAccept.lean ====
section
/-! SUPPORT. The operations of Machine/Accept.lean keep the queue, the register file and the forwarding database. -/

namespace Sys2Proof.Machine

open Sys2Proof

set_option linter.unusedTactic false

theorem State.afterAct_kept {Q : List Instr} (op : Nat) (s : State) (hG : Kept Q s) :
    Kept Q (State.afterAct op s) := by
  unfold State.afterAct
  try beta_reduce
  apply kept_ite; apply State.calGo_kept; assumption; apply kept_ite; apply State.allRingStops_kept; assumption
  assumption

theorem State.badOpcode_kept {Q : List Instr} (err : Bool) (op : Nat) (d : Submission) (s : State) (hG : Kept Q s) :
    Kept Q (State.badOpcode err op d s) := by
  unfold State.badOpcode
  try beta_reduce
  apply State.completeCmd_kept; apply State.when_kept; assumption; apply State.hifErr_kept

theorem State.refuseOpcode_kept {Q : List Instr} (cls op : Nat) (d : Submission) (s : State) (hG : Kept Q s) :
    Kept Q (State.refuseOpcode cls op d s) := by
  unfold State.refuseOpcode
  try beta_reduce
  apply kept_ite; apply State.badOpcode_kept; apply State.fetched_kept; assumption; assumption

theorem byAction_kept {Q : List Instr} (d : Submission) (a b : CmdSpec) (ha : ∀ c s, Kept Q s → Kept Q (a.act c s).1)
    (hb : ∀ c s, Kept Q s → Kept Q (b.act c s).1) (c : Cmd) (s : State) (hG : Kept Q s) :
    Kept Q ((byAction d a b).act c s).1 := by
  unfold byAction
  split
  · exact hb c s hG
  · exact ha c s hG

theorem opSpec_kept {Q : List Instr} {op : Nat} {d : Submission} {k : CmdSpec} (h : opSpec op d = some k) (c : Cmd) (s : State)
    (hG : Kept Q s) : Kept Q (k.act c s).1 := by
  unfold opSpec at h
  dsimp only at h
  revert h
  split <;> intro h <;> cases h
  all_goals repeat' first
    | with_reducible assumption
    | with_reducible apply byAction_kept
    | with_reducible apply specAdjust_kept
    | with_reducible apply specAlign_kept
    | with_reducible apply specAttnAck_kept
    | with_reducible apply specBypassHold_kept
    | with_reducible apply specBypassPair_kept
    | with_reducible apply specCalRun_kept
    | with_reducible apply specCalStore_kept
    | with_reducible apply specCancel_kept
    | with_reducible apply specCfgWrite_kept
    | with_reducible apply specClkout_kept
    | with_reducible apply specEngine_kept
    | with_reducible apply specFdbAdd_kept
    | with_reducible apply specFdbDel_kept
    | with_reducible apply specFdbFlush_kept
    | with_reducible apply specFilterSet_kept
    | with_reducible apply specFreeze_kept
    | with_reducible apply specFrerReset_kept
    | with_reducible apply specFrerWrite_kept
    | with_reducible apply specGnss_kept
    | with_reducible apply specHeddle_kept
    | with_reducible apply specImageClear_kept
    | with_reducible apply specImageWrite_kept
    | with_reducible apply specKpl_kept
    | with_reducible apply specLane_kept
    | with_reducible apply specMirrorGroup_kept
    | with_reducible apply specMirrorSession_kept
    | with_reducible apply specNop_kept
    | with_reducible apply specPicks_kept
    | with_reducible apply specPortConfigure_kept
    | with_reducible apply specPortVlan_kept
    | with_reducible apply specPtpClock_kept
    | with_reducible apply specPtpPort_kept
    | with_reducible apply specRationsEgress_kept
    | with_reducible apply specRationsWeight_kept
    | with_reducible apply specRef_kept
    | with_reducible apply specReset_kept
    | with_reducible apply specRingConfigure_kept
    | with_reducible apply specRingDisable_kept
    | with_reducible apply specRole_kept
    | with_reducible apply specRuleClear_kept
    | with_reducible apply specRuleSwap_kept
    | with_reducible apply specRuleWrite_kept
    | with_reducible apply specShedSet_kept
    | with_reducible apply specSnapTake_kept
    | with_reducible apply specSteer_kept
    | with_reducible apply specTreadleProgram_kept
    | with_reducible apply specTreadleStop_kept
    | split

theorem State.acceptNext_kept {Q : List Instr} (op : Nat) (d : Submission) (s : State) (hG : Kept Q s) :
    Kept Q (State.acceptNext op d s) := by
  unfold State.acceptNext
  try beta_reduce
  apply kept_ite; apply State.txFrame_kept; assumption; apply kept_ite; apply State.takeRxBuffer_kept; assumption
  apply kept_ite; apply State.takeLogBuffer_kept; assumption; apply kept_ite; assumption; lift_lets -underBinder
  split; apply kept_ite; apply State.when_kept; apply CmdSpec.take_kept; assumption; apply opSpec_kept; assumption
  apply State.afterAct_kept; apply State.refuseOpcode_kept; assumption; apply State.refuseOpcode_kept; assumption

theorem State.actDue_kept {Q : List Instr} (s : State) (hG : Kept Q s) :
    Kept Q (State.actDue s) := by
  unfold State.actDue
  try beta_reduce
  split; assumption; split; apply State.afterAct_kept; apply State.updPending_kept; apply CmdSpec.actNow_kept
  apply kept_mk; apply kept_fold; assumption; apply opSpec_kept; assumption; assumption

theorem State.service_kept {Q : List Instr} (t : Nat) (f : State → State) (s : State) (hF : ∀ s, Kept Q s → Kept Q (f s)) (hG1 : Kept Q s) :
    KeptO Q (State.service t f s) := by
  unfold State.service
  try beta_reduce
  apply keptO_next; apply State.when_kept; assumption; assumption

theorem State.taskFault_kept {Q : List Instr} (t : Nat) (s : State) (hG : Kept Q s) :
    Kept Q (State.taskFault t s) := by
  unfold State.taskFault
  try beta_reduce
  apply State.raise_kept; apply State.modTask_kept; apply State.set_kept; apply State.set_kept; assumption

theorem State.taskValue_kept {Q : List Instr} (t v : Nat) (s : State) (hG : Kept Q s) :
    Kept Q (State.taskValue t v s) := by
  unfold State.taskValue
  try beta_reduce
  apply State.modTask_kept; assumption

theorem State.taskRead_kept {Q : List Instr} (t a : Nat) (s : State) (hG : Kept Q s) :
    Kept Q (State.taskRead t a s) := by
  unfold State.taskRead
  try beta_reduce
  apply kept_ite; apply State.hifErr_kept; apply State.taskValue_kept; assumption; apply State.taskValue_kept
  lift_lets -underBinder; split; apply State.peekRead_kept; assumption; apply State.regRead_kept; assumption

theorem State.taskReadPc_kept {Q : List Instr} (t k : Nat) (s : State) (hG : Kept Q s) :
    Kept Q (State.taskReadPc t k s) := by
  unfold State.taskReadPc
  try beta_reduce
  apply kept_ite; apply State.taskFault_kept; assumption; apply kept_ite; assumption; apply State.taskValue_kept
  assumption

theorem State.taskSubmit_kept {Q : List Instr} (t op : Nat) (d : Submission) (s : State) (hG : Kept Q s) :
    Kept Q (State.taskSubmit t op d s) := by
  unfold State.taskSubmit
  try beta_reduce
  apply kept_ite; assumption; apply kept_ite; apply State.badOpcode_kept; apply State.modTask_kept; assumption
  lift_lets -underBinder; split; apply State.afterAct_kept; apply CmdSpec.take_kept; apply State.modTask_kept
  assumption; apply opSpec_kept; assumption; apply State.badOpcode_kept; apply State.modTask_kept; assumption

theorem execEffectiveAtBoundary_kept {Q : List Instr} (s : State) (hG : Kept Q s) :
    KeptO Q (execEffectiveAtBoundary s) := by
  unfold execEffectiveAtBoundary
  try beta_reduce
  apply keptO_ite; apply keptO_next; apply State.actDue_kept; assumption; apply keptO_next; assumption

theorem execSubmissionAccept_kept {Q : List Instr} (e : SqEntry) (x : Fetched) (s : State) (hG : Kept Q s) :
    KeptO Q (execSubmissionAccept e x s) := by
  unfold execSubmissionAccept
  try beta_reduce
  split; apply keptO_next; apply State.when_kept; assumption; apply State.hifErr_kept; apply keptO_next
  apply State.acceptNext_kept; assumption

theorem execTaskFault_kept {Q : List Instr} (t : Nat) (s : State) (hG : Kept Q s) :
    KeptO Q (execTaskFault t s) := by
  unfold execTaskFault
  try beta_reduce
  apply keptO_ite; apply keptO_next; apply State.taskFault_kept; assumption; apply keptO_next; assumption

theorem execTaskRaise_kept {Q : List Instr} (t : Nat) (detail : BitVec 32) (s : State) (hG : Kept Q s) :
    KeptO Q (execTaskRaise t detail s) := by
  unfold execTaskRaise
  try beta_reduce
  apply State.service_kept; apply State.event_kept; assumption

theorem execTaskReadPc_kept {Q : List Instr} (t k : Nat) (s : State) (hG : Kept Q s) :
    KeptO Q (execTaskReadPc t k s) := by
  unfold execTaskReadPc
  try beta_reduce
  apply State.service_kept; apply State.taskReadPc_kept; assumption

theorem execTaskReadReg_kept {Q : List Instr} (t a : Nat) (s : State) (hG : Kept Q s) :
    KeptO Q (execTaskReadReg t a s) := by
  unfold execTaskReadReg
  try beta_reduce
  apply State.service_kept; apply State.taskRead_kept; assumption

theorem execTaskReadTime_kept {Q : List Instr} (t : Nat) (s : State) (hG : Kept Q s) :
    KeptO Q (execTaskReadTime t s) := by
  unfold execTaskReadTime
  try beta_reduce
  apply State.service_kept; intro _ _; try beta_reduce; apply State.taskValue_kept; assumption; assumption

theorem execTaskSubmit_kept {Q : List Instr} (t op : Nat) (d : Submission) (s : State) (hG : Kept Q s) :
    KeptO Q (execTaskSubmit t op d s) := by
  unfold execTaskSubmit
  try beta_reduce
  apply State.service_kept; apply State.taskSubmit_kept; assumption

theorem execTaskWait_kept {Q : List Instr} (t : Nat) (w : WaitFor) (s : State) (hG : Kept Q s) :
    KeptO Q (execTaskWait t w s) := by
  unfold execTaskWait
  try beta_reduce
  apply State.service_kept; apply State.modTask_kept; assumption

theorem execTaskWaitResume_kept {Q : List Instr} (t : Nat) (s : State) (hG : Kept Q s) :
    KeptO Q (execTaskWaitResume t s) := by
  unfold execTaskWaitResume
  try beta_reduce
  apply keptO_ite; apply keptO_next; assumption; dsimp -zeta only; split; apply keptO_ite; apply keptO_next
  apply State.modTask_kept; assumption; apply keptO_next; assumption; apply keptO_ite; apply keptO_next
  apply State.modTask_kept; assumption; apply keptO_next; assumption; apply keptO_ite; apply keptO_next; assumption
  apply keptO_next; apply State.modTask_kept; assumption; apply keptO_next; assumption

end Sys2Proof.Machine
end

