-- ==== Sys2Proof/Laws/KeptPick.lean ====
section
/-! SUPPORT. The operations of Machine/Pick.lean keep the queue, the register file and the forwarding database. -/

namespace Sys2Proof.Machine

open Sys2Proof

set_option linter.unusedTactic false

theorem State.beginCycle_kept {Q : List Instr} (n : Nat) (s : State) (hG : Kept Q s) :
    Kept Q (State.beginCycle n s) := by
  unfold State.beginCycle
  try beta_reduce
  apply kept_mk; apply kept_fold; assumption

theorem State.laneCounts_kept {Q : List Instr} (m : CycleMeas) (s : State) (hG : Kept Q s) :
    Kept Q (State.laneCounts m s) := by
  unfold State.laneCounts
  try beta_reduce
  apply State.forEach_kept; apply State.forEach_kept; apply State.forEach_kept; assumption
  intro _ _ _; try beta_reduce; apply State.forEach_kept; assumption; intro _ _ _; try beta_reduce
  apply State.count_kept; assumption; intro _ _ _; try beta_reduce; apply State.eqAdapt_kept; assumption
  intro _ _ _; try beta_reduce; apply kept_ite; assumption; apply State.bump_kept; assumption

theorem State.perfCounts_kept {Q : List Instr} (steps : Nat) (m : CycleMeas) (s : State) (hG : Kept Q s) :
    Kept Q (State.perfCounts steps m s) := by
  unfold State.perfCounts
  try beta_reduce
  apply State.forEach_kept; apply State.forEach_kept; assumption; intro _ _ _; try beta_reduce; apply kept_ite
  assumption; apply State.logCount_kept; apply State.corePerf_kept; assumption; intro _ _ _; try beta_reduce
  apply State.hedPerf_kept; assumption

theorem State.powerRead_kept {Q : List Instr} (m : CycleMeas) (s : State) (hG : Kept Q s) :
    Kept Q (State.powerRead m s) := by
  unfold State.powerRead
  try beta_reduce
  apply kept_ite; lift_lets -underBinder; split; apply State.set_kept; apply State.set_kept; assumption; assumption
  apply State.dieRead_kept; lift_lets -underBinder; split; apply State.set_kept; apply State.set_kept; assumption
  assumption

theorem State.endCycle_kept {Q : List Instr} (d steps : Nat) (m : CycleMeas) (s : State) (hG : Kept Q s) :
    Kept Q (State.endCycle d steps m s) := by
  unfold State.endCycle
  try beta_reduce
  apply State.perfCounts_kept; apply State.powerRead_kept; apply State.laneCounts_kept; apply State.tickSending_kept
  apply State.flushWraps_kept; apply State.flushRingFull_kept; apply State.updHeld_kept; apply State.forEach_kept
  apply State.bobbinFlush_kept; apply State.doorbells_kept; apply State.endWrites_kept; assumption
  apply State.loomEcc_kept

theorem State.evaluate_kept {Q : List Instr} (n : Nat) (s : State) (hG : Kept Q s) :
    Kept Q (State.evaluate n s) := by
  unfold State.evaluate
  try beta_reduce
  apply State.wr_kept; apply State.updKeep_kept; apply State.updHeld_kept; apply State.writeCycles_kept
  apply State.newHeld_kept; apply State.noteDemand_kept; apply State.waitingSnaps_kept
  apply State.allRingStops_kept; apply State.endPortResets_kept; apply State.settleDual_kept
  apply State.settleLead_kept; apply State.calWatch_kept; apply State.calMoveAll_kept; apply State.eqMoveAll_kept
  apply State.miApply_kept; apply State.cfgTake_kept; apply State.settleDpll_kept; assumption

theorem State.pass_kept {Q : List Instr} (d : Nat) (s : State) (hG : Kept Q s) :
    Kept Q (State.pass d s) := by
  unfold State.pass
  try beta_reduce
  apply State.runTimers_kept; apply kept_mk; apply kept_fold; assumption

theorem execPickCycleBoundary_kept {Q : List Instr} (n : Nat) (m : CycleMeas) (s : State) (hG : Kept Q s) :
    KeptO Q (execPickCycleBoundary n m s) := by
  unfold execPickCycleBoundary
  try beta_reduce
  apply keptO_ite; apply keptO_next; apply State.evaluate_kept; apply State.beginCycle_kept; apply State.pass_kept
  apply State.endCycle_kept; assumption; apply keptO_next; assumption

end Sys2Proof.Machine
end

