-- ==== Sys2Proof/Laws/PerInstr.lean ====
section
/-! SUPPORT. Statements made of every command as syntax: a well-formed command that carries a submission names a ring that exists and an index
within the largest ring (04 R131, R137). -/

namespace Sys2Proof.Laws.SubmissionsInRange

open Sys2Proof Machine

/-- The submission that a command carries, where it carries one. -/
def carried : Instr → Option Submission
  | .bypassSetPair d => some d
  | .bypassSetHold d => some d
  | .txFrame d => some d
  | .rxBuffer d => some d
  | .logBuffer d => some d
  | .ruleWrite d => some d
  | .ruleSwap d => some d
  | .ruleClear d => some d
  | .fdbAdd d => some d
  | .fdbDel d => some d
  | .fdbFlush d => some d
  | .snapTake d => some d
  | .snapFreeze d => some d
  | .snapThaw d => some d
  | .portSetConfigure d => some d
  | .portSetVlanMember d => some d
  | .laneSetConfigure d => some d
  | .laneSetReset d => some d
  | .laneSetReadapt d => some d
  | .laneSetRetire d => some d
  | .laneSetReturn d => some d
  | .engineSetConfigure d => some d
  | .engineSetPowerUp d => some d
  | .engineSetPowerDown d => some d
  | .engineSetReset d => some d
  | .drainLsa d => some d
  | .drainLsb d => some d
  | .restoreLsa d => some d
  | .restoreLsb d => some d
  | .resetSystem d => some d
  | .resetComplex d => some d
  | .resetNode d => some d
  | .resetHeddle d => some d
  | .resetEngine d => some d
  | .resetLane d => some d
  | .resetTiming d => some d
  | .resetSynthesiser d => some d
  | .resetPort d => some d
  | .imageWrite d => some d
  | .imageClear d => some d
  | .cfgWrite d => some d
  | .calRunLanes d => some d
  | .calRunCore d => some d
  | .calRunMi d => some d
  | .calRunOutputs d => some d
  | .calRunOutputLoop d => some d
  | .calRunAsym d => some d
  | .calRunGnss d => some d
  | .calStore d => some d
  | .shedSetEnable d => some d
  | .shedSetDisable d => some d
  | .filterSet d => some d
  | .heddleLoad d => some d
  | .heddleDisable d => some d
  | .heddleEnable d => some d
  | .picksReserve d => some d
  | .picksRelease d => some d
  | .mirrorSetSession d => some d
  | .mirrorSetGroup d => some d
  | .rationsSetEgress d => some d
  | .rationsSetWeight d => some d
  | .frerSetWrite d => some d
  | .frerSetReset d => some d
  | .refSetConfigure d => some d
  | .refSetGlobal d => some d
  | .refSetEsmc d => some d
  | .refSetRequalify d => some d
  | .dpllSteer d => some d
  | .timeAdjustSlew d => some d
  | .timeAdjustStep d => some d
  | .timeAdjustSet d => some d
  | .timingRole d => some d
  | .kplSet d => some d
  | .ptpSetPort d => some d
  | .ptpSetClock d => some d
  | .clkoutSetClock d => some d
  | .clkoutSetPulse d => some d
  | .clkoutSetTod d => some d
  | .clkoutSetSynth d => some d
  | .align d => some d
  | .treadleSetProgram d => some d
  | .treadleSetStop d => some d
  | .gnssSetConfigure d => some d
  | .gnssSetPosition d => some d
  | .gnssSetSurveyRestart d => some d
  | .gnssSetColdStart d => some d
  | .ringSetConfigure d => some d
  | .ringSetDisable d => some d
  | .attnAck d => some d
  | .cancel d => some d
  | .nop d => some d
  | _ => none

/-- A well-formed command's submission is one of a ring below 128, with an index below 32,768. A user task's is made in the task, and has no ring of
its own until it is submitted. -/
def Statement (i : Instr) : Prop := i.wf = true → ∀ d, carried i = some d → d.ring < 128 ∧ d.index < 32768

/-- What it is for a submission to be well-formed. -/
theorem inRange (d : Submission) (h : d.wf = true) : d.ring < 128 ∧ d.index < 32768 := by simpa [Submission.wf] using h

theorem powerOn (lost : Bool) (ts : List (Nat × Int)) : Statement (.powerOn lost ts) := fun _ _ h => nomatch h
theorem brownOutAssert (up : Nat) : Statement (.brownOutAssert up) := fun _ _ h => nomatch h
theorem enableFall (up : Nat) : Statement (.enableFall up) := fun _ _ h => nomatch h
theorem enableRise (long warn : Bool) (ts : List (Nat × Int)) : Statement (.enableRise long warn ts) := fun _ _ h => nomatch h
theorem vioRise (mv : Nat) : Statement (.vioRise mv) := fun _ _ h => nomatch h
theorem dieShutdownTrip (up : Nat) : Statement (.dieShutdownTrip up) := fun _ _ h => nomatch h
theorem bypassSetPair (d : Submission) : Statement (.bypassSetPair d) := fun h _ he => Option.some.inj he ▸ inRange d h
theorem bypassSetHold (d : Submission) : Statement (.bypassSetHold d) := fun h _ he => Option.some.inj he ▸ inRange d h
theorem bypassHoldExpiry (n : Nat) : Statement (.bypassHoldExpiry n) := fun _ _ h => nomatch h
theorem watchdogExpiry (core : Nat) : Statement (.watchdogExpiry core) := fun _ _ h => nomatch h
theorem lockup (core : Nat) : Statement (.lockup core) := fun _ _ h => nomatch h
theorem clockFailure (d : Domain) (i : Nat) : Statement (.clockFailure d i) := fun _ _ h => nomatch h
theorem domainRelease (r : Release) : Statement (.domainRelease r) := fun _ _ h => nomatch h
theorem rstForceWrite (v : BitVec 32) : Statement (.rstForceWrite v) := fun _ _ h => nomatch h
theorem swreqSystem (v : BitVec 32) : Statement (.swreqSystem v) := fun _ _ h => nomatch h
theorem swreqComplex (v : BitVec 32) : Statement (.swreqComplex v) := fun _ _ h => nomatch h
theorem swreqNode (v : BitVec 32) : Statement (.swreqNode v) := fun _ _ h => nomatch h
theorem swreqHeddle (v : BitVec 32) : Statement (.swreqHeddle v) := fun _ _ h => nomatch h
theorem swreqEngine (v : BitVec 32) : Statement (.swreqEngine v) := fun _ _ h => nomatch h
theorem swreqLane (v : BitVec 32) : Statement (.swreqLane v) := fun _ _ h => nomatch h
theorem swreqTiming (v : BitVec 32) : Statement (.swreqTiming v) := fun _ _ h => nomatch h
theorem swreqSynthesiser (v : BitVec 32) : Statement (.swreqSynthesiser v) := fun _ _ h => nomatch h
theorem swreqPort (v : BitVec 32) : Statement (.swreqPort v) := fun _ _ h => nomatch h
theorem dbgReqSystem (v : BitVec 32) : Statement (.dbgReqSystem v) := fun _ _ h => nomatch h
theorem dbgReqComplex (v : BitVec 32) : Statement (.dbgReqComplex v) := fun _ _ h => nomatch h
theorem bootStepComplete (ok : Bool) (failing : List Nat) (up : Nat) : Statement (.bootStepComplete ok failing up) := fun _ _ h => nomatch h
theorem pcieLinkTrained (width speed : Nat) : Statement (.pcieLinkTrained width speed) := fun _ _ h => nomatch h
theorem pcieLinkDown (perst : Bool) : Statement (.pcieLinkDown perst) := fun _ _ h => nomatch h
theorem dlGo (v : BitVec 32) : Statement (.dlGo v) := fun _ _ h => nomatch h
theorem dlFetchDone (ok : Bool) (up : Nat) : Statement (.dlFetchDone ok up) := fun _ _ h => nomatch h
theorem storeWriteDone (ok : Bool) : Statement (.storeWriteDone ok) := fun _ _ h => nomatch h
theorem registerWrite (bar2 : Bool) (a : Nat) (w : RegWr) : Statement (.registerWrite bar2 a w) := fun _ _ h => nomatch h
theorem invalidAccess (bar2 read : Bool) (a n : Nat) : Statement (.invalidAccess bar2 read a n) := fun _ _ h => nomatch h
theorem latchingRead (bar2 : Bool) (a : Nat) : Statement (.latchingRead bar2 a) := fun _ _ h => nomatch h
theorem timeLatchRead (sec : Bool) : Statement (.timeLatchRead sec) := fun _ _ h => nomatch h
theorem tapLastRead (t : Nat) : Statement (.tapLastRead t) := fun _ _ h => nomatch h
theorem obsPeekRead (w : Nat) : Statement (.obsPeekRead w) := fun _ _ h => nomatch h
theorem obsPeekSelWrite (v : BitVec 32) : Statement (.obsPeekSelWrite v) := fun _ _ h => nomatch h
theorem counterLoWrite (a : Nat) (v : BitVec 32) : Statement (.counterLoWrite a v) := fun _ _ h => nomatch h
theorem counterHiWrite (a : Nat) (v : BitVec 32) : Statement (.counterHiWrite a v) := fun _ _ h => nomatch h
theorem hedCtrlWrite (v : BitVec 32) : Statement (.hedCtrlWrite v) := fun _ _ h => nomatch h
theorem trdEnableSet (t : Nat) (v : BitVec 32) : Statement (.trdEnableSet t v) := fun _ _ h => nomatch h
theorem trdEnableClear (t : Nat) (v : BitVec 32) : Statement (.trdEnableClear t v) := fun _ _ h => nomatch h
theorem outputCfgWrite (a : Nat) (v : BitVec 32) : Statement (.outputCfgWrite a v) := fun _ _ h => nomatch h
theorem dbSqTail (r v : Nat) : Statement (.dbSqTail r v) := fun _ _ h => nomatch h
theorem dbCqHead (r v : Nat) : Statement (.dbCqHead r v) := fun _ _ h => nomatch h
theorem dbArmEnable (r k : Nat) : Statement (.dbArmEnable r k) := fun _ _ h => nomatch h
theorem dbArmDisable (r : Nat) : Statement (.dbArmDisable r) := fun _ _ h => nomatch h
theorem submissionAccept (e : SqEntry) (x : Fetched) : Statement (.submissionAccept e x) := fun _ _ h => nomatch h
theorem eventPendingFlush (r : Nat) : Statement (.eventPendingFlush r) := fun _ _ h => nomatch h
theorem frameRxDelivery (w : HostWr) : Statement (.frameRxDelivery w) := fun _ _ h => nomatch h
theorem rxWaitExpiry (r : Nat) : Statement (.rxWaitExpiry r) := fun _ _ h => nomatch h
theorem bobbinDrain (r p : Nat) : Statement (.bobbinDrain r p) := fun _ _ h => nomatch h
theorem logCompletion (w : HostWr) : Statement (.logCompletion w) := fun _ _ h => nomatch h
theorem txFrame (d : Submission) : Statement (.txFrame d) := fun h _ he => Option.some.inj he ▸ inRange d h
theorem rxBuffer (d : Submission) : Statement (.rxBuffer d) := fun h _ he => Option.some.inj he ▸ inRange d h
theorem logBuffer (d : Submission) : Statement (.logBuffer d) := fun h _ he => Option.some.inj he ▸ inRange d h
theorem ruleWrite (d : Submission) : Statement (.ruleWrite d) := fun h _ he => Option.some.inj he ▸ inRange d h
theorem ruleSwap (d : Submission) : Statement (.ruleSwap d) := fun h _ he => Option.some.inj he ▸ inRange d h
theorem ruleClear (d : Submission) : Statement (.ruleClear d) := fun h _ he => Option.some.inj he ▸ inRange d h
theorem fdbAdd (d : Submission) : Statement (.fdbAdd d) := fun h _ he => Option.some.inj he ▸ inRange d h
theorem fdbDel (d : Submission) : Statement (.fdbDel d) := fun h _ he => Option.some.inj he ▸ inRange d h
theorem fdbFlush (d : Submission) : Statement (.fdbFlush d) := fun h _ he => Option.some.inj he ▸ inRange d h
theorem snapTake (d : Submission) : Statement (.snapTake d) := fun h _ he => Option.some.inj he ▸ inRange d h
theorem snapWriteDone (set : Nat) (ok : Bool) : Statement (.snapWriteDone set ok) := fun _ _ h => nomatch h
theorem snapFreeze (d : Submission) : Statement (.snapFreeze d) := fun h _ he => Option.some.inj he ▸ inRange d h
theorem snapThaw (d : Submission) : Statement (.snapThaw d) := fun h _ he => Option.some.inj he ▸ inRange d h
theorem portSetConfigure (d : Submission) : Statement (.portSetConfigure d) := fun h _ he => Option.some.inj he ▸ inRange d h
theorem portSetVlanMember (d : Submission) : Statement (.portSetVlanMember d) := fun h _ he => Option.some.inj he ▸ inRange d h
theorem laneSetConfigure (d : Submission) : Statement (.laneSetConfigure d) := fun h _ he => Option.some.inj he ▸ inRange d h
theorem laneSetReset (d : Submission) : Statement (.laneSetReset d) := fun h _ he => Option.some.inj he ▸ inRange d h
theorem laneSetReadapt (d : Submission) : Statement (.laneSetReadapt d) := fun h _ he => Option.some.inj he ▸ inRange d h
theorem readaptDone (n rx tx : Nat) : Statement (.readaptDone n rx tx) := fun _ _ h => nomatch h
theorem laneSetRetire (d : Submission) : Statement (.laneSetRetire d) := fun h _ he => Option.some.inj he ▸ inRange d h
theorem laneSetReturn (d : Submission) : Statement (.laneSetReturn d) := fun h _ he => Option.some.inj he ▸ inRange d h
theorem engineSetConfigure (d : Submission) : Statement (.engineSetConfigure d) := fun h _ he => Option.some.inj he ▸ inRange d h
theorem engineSetPowerUp (d : Submission) : Statement (.engineSetPowerUp d) := fun h _ he => Option.some.inj he ▸ inRange d h
theorem engineSetPowerDown (d : Submission) : Statement (.engineSetPowerDown d) := fun h _ he => Option.some.inj he ▸ inRange d h
theorem engineSetReset (d : Submission) : Statement (.engineSetReset d) := fun h _ he => Option.some.inj he ▸ inRange d h
theorem drainLsa (d : Submission) : Statement (.drainLsa d) := fun h _ he => Option.some.inj he ▸ inRange d h
theorem drainLsb (d : Submission) : Statement (.drainLsb d) := fun h _ he => Option.some.inj he ▸ inRange d h
theorem restoreLsa (d : Submission) : Statement (.restoreLsa d) := fun h _ he => Option.some.inj he ▸ inRange d h
theorem restoreLsb (d : Submission) : Statement (.restoreLsb d) := fun h _ he => Option.some.inj he ▸ inRange d h
theorem laserRampDone (k : Nat) (b : Bool) : Statement (.laserRampDone k b) := fun _ _ h => nomatch h
theorem resetSystem (d : Submission) : Statement (.resetSystem d) := fun h _ he => Option.some.inj he ▸ inRange d h
theorem resetComplex (d : Submission) : Statement (.resetComplex d) := fun h _ he => Option.some.inj he ▸ inRange d h
theorem resetNode (d : Submission) : Statement (.resetNode d) := fun h _ he => Option.some.inj he ▸ inRange d h
theorem nodeDrainDone (n : Nat) : Statement (.nodeDrainDone n) := fun _ _ h => nomatch h
theorem resetHeddle (d : Submission) : Statement (.resetHeddle d) := fun h _ he => Option.some.inj he ▸ inRange d h
theorem resetEngine (d : Submission) : Statement (.resetEngine d) := fun h _ he => Option.some.inj he ▸ inRange d h
theorem resetLane (d : Submission) : Statement (.resetLane d) := fun h _ he => Option.some.inj he ▸ inRange d h
theorem resetTiming (d : Submission) : Statement (.resetTiming d) := fun h _ he => Option.some.inj he ▸ inRange d h
theorem resetSynthesiser (d : Submission) : Statement (.resetSynthesiser d) := fun h _ he => Option.some.inj he ▸ inRange d h
theorem resetPort (d : Submission) : Statement (.resetPort d) := fun h _ he => Option.some.inj he ▸ inRange d h
theorem imageWrite (d : Submission) : Statement (.imageWrite d) := fun h _ he => Option.some.inj he ▸ inRange d h
theorem imageClear (d : Submission) : Statement (.imageClear d) := fun h _ he => Option.some.inj he ▸ inRange d h
theorem cfgWrite (d : Submission) : Statement (.cfgWrite d) := fun h _ he => Option.some.inj he ▸ inRange d h
theorem calRunLanes (d : Submission) : Statement (.calRunLanes d) := fun h _ he => Option.some.inj he ▸ inRange d h
theorem calRunCore (d : Submission) : Statement (.calRunCore d) := fun h _ he => Option.some.inj he ▸ inRange d h
theorem calRunMi (d : Submission) : Statement (.calRunMi d) := fun h _ he => Option.some.inj he ▸ inRange d h
theorem calRunOutputs (d : Submission) : Statement (.calRunOutputs d) := fun h _ he => Option.some.inj he ▸ inRange d h
theorem calRunOutputLoop (d : Submission) : Statement (.calRunOutputLoop d) := fun h _ he => Option.some.inj he ▸ inRange d h
theorem calRunAsym (d : Submission) : Statement (.calRunAsym d) := fun h _ he => Option.some.inj he ▸ inRange d h
theorem calRunGnss (d : Submission) : Statement (.calRunGnss d) := fun h _ he => Option.some.inj he ▸ inRange d h
theorem calItemDone (e : CalDone) : Statement (.calItemDone e) := fun _ _ h => nomatch h
theorem calStore (d : Submission) : Statement (.calStore d) := fun h _ he => Option.some.inj he ▸ inRange d h
theorem miCalGapTimeout (k : Nat) : Statement (.miCalGapTimeout k) := fun _ _ h => nomatch h
theorem shedSetEnable (d : Submission) : Statement (.shedSetEnable d) := fun h _ he => Option.some.inj he ▸ inRange d h
theorem shedSetDisable (d : Submission) : Statement (.shedSetDisable d) := fun h _ he => Option.some.inj he ▸ inRange d h
theorem filterSet (d : Submission) : Statement (.filterSet d) := fun h _ he => Option.some.inj he ▸ inRange d h
theorem heddleLoad (d : Submission) : Statement (.heddleLoad d) := fun h _ he => Option.some.inj he ▸ inRange d h
theorem heddleDisable (d : Submission) : Statement (.heddleDisable d) := fun h _ he => Option.some.inj he ▸ inRange d h
theorem heddleEnable (d : Submission) : Statement (.heddleEnable d) := fun h _ he => Option.some.inj he ▸ inRange d h
theorem heddleDrained (h : Nat) : Statement (.heddleDrained h) := fun _ _ h => nomatch h
theorem heddleReadbackDone (h : Nat) (ok : Bool) : Statement (.heddleReadbackDone h ok) := fun _ _ h => nomatch h
theorem picksReserve (d : Submission) : Statement (.picksReserve d) := fun h _ he => Option.some.inj he ▸ inRange d h
theorem picksRelease (d : Submission) : Statement (.picksRelease d) := fun h _ he => Option.some.inj he ▸ inRange d h
theorem mirrorSetSession (d : Submission) : Statement (.mirrorSetSession d) := fun h _ he => Option.some.inj he ▸ inRange d h
theorem mirrorSetGroup (d : Submission) : Statement (.mirrorSetGroup d) := fun h _ he => Option.some.inj he ▸ inRange d h
theorem rationsSetEgress (d : Submission) : Statement (.rationsSetEgress d) := fun h _ he => Option.some.inj he ▸ inRange d h
theorem rationsSetWeight (d : Submission) : Statement (.rationsSetWeight d) := fun h _ he => Option.some.inj he ▸ inRange d h
theorem frerSetWrite (d : Submission) : Statement (.frerSetWrite d) := fun h _ he => Option.some.inj he ▸ inRange d h
theorem frerSetReset (d : Submission) : Statement (.frerSetReset d) := fun h _ he => Option.some.inj he ▸ inRange d h
theorem refSetConfigure (d : Submission) : Statement (.refSetConfigure d) := fun h _ he => Option.some.inj he ▸ inRange d h
theorem refSetGlobal (d : Submission) : Statement (.refSetGlobal d) := fun h _ he => Option.some.inj he ▸ inRange d h
theorem refSetEsmc (d : Submission) : Statement (.refSetEsmc d) := fun h _ he => Option.some.inj he ▸ inRange d h
theorem refSetRequalify (d : Submission) : Statement (.refSetRequalify d) := fun h _ he => Option.some.inj he ▸ inRange d h
theorem dpllSteer (d : Submission) : Statement (.dpllSteer d) := fun h _ he => Option.some.inj he ▸ inRange d h
theorem timeAdjustSlew (d : Submission) : Statement (.timeAdjustSlew d) := fun h _ he => Option.some.inj he ▸ inRange d h
theorem timeAdjustStep (d : Submission) : Statement (.timeAdjustStep d) := fun h _ he => Option.some.inj he ▸ inRange d h
theorem timeAdjustSet (d : Submission) : Statement (.timeAdjustSet d) := fun h _ he => Option.some.inj he ▸ inRange d h
theorem timingRole (d : Submission) : Statement (.timingRole d) := fun h _ he => Option.some.inj he ▸ inRange d h
theorem kplSet (d : Submission) : Statement (.kplSet d) := fun h _ he => Option.some.inj he ▸ inRange d h
theorem ptpSetPort (d : Submission) : Statement (.ptpSetPort d) := fun h _ he => Option.some.inj he ▸ inRange d h
theorem ptpSetClock (d : Submission) : Statement (.ptpSetClock d) := fun h _ he => Option.some.inj he ▸ inRange d h
theorem clkoutSetClock (d : Submission) : Statement (.clkoutSetClock d) := fun h _ he => Option.some.inj he ▸ inRange d h
theorem clkoutSetPulse (d : Submission) : Statement (.clkoutSetPulse d) := fun h _ he => Option.some.inj he ▸ inRange d h
theorem clkoutSetTod (d : Submission) : Statement (.clkoutSetTod d) := fun h _ he => Option.some.inj he ▸ inRange d h
theorem clkoutSetSynth (d : Submission) : Statement (.clkoutSetSynth d) := fun h _ he => Option.some.inj he ▸ inRange d h
theorem align (d : Submission) : Statement (.align d) := fun h _ he => Option.some.inj he ▸ inRange d h
theorem treadleSetProgram (d : Submission) : Statement (.treadleSetProgram d) := fun h _ he => Option.some.inj he ▸ inRange d h
theorem treadleSetStop (d : Submission) : Statement (.treadleSetStop d) := fun h _ he => Option.some.inj he ▸ inRange d h
theorem gnssSetConfigure (d : Submission) : Statement (.gnssSetConfigure d) := fun h _ he => Option.some.inj he ▸ inRange d h
theorem gnssSetPosition (d : Submission) : Statement (.gnssSetPosition d) := fun h _ he => Option.some.inj he ▸ inRange d h
theorem gnssSetSurveyRestart (d : Submission) : Statement (.gnssSetSurveyRestart d) := fun h _ he => Option.some.inj he ▸ inRange d h
theorem gnssSetColdStart (d : Submission) : Statement (.gnssSetColdStart d) := fun h _ he => Option.some.inj he ▸ inRange d h
theorem ringSetConfigure (d : Submission) : Statement (.ringSetConfigure d) := fun h _ he => Option.some.inj he ▸ inRange d h
theorem ringSetDisable (d : Submission) : Statement (.ringSetDisable d) := fun h _ he => Option.some.inj he ▸ inRange d h
theorem attnAck (d : Submission) : Statement (.attnAck d) := fun h _ he => Option.some.inj he ▸ inRange d h
theorem cancel (d : Submission) : Statement (.cancel d) := fun h _ he => Option.some.inj he ▸ inRange d h
theorem nop (d : Submission) : Statement (.nop d) := fun h _ he => Option.some.inj he ▸ inRange d h
theorem pickCycleBoundary (n : Nat) (m : CycleMeas) : Statement (.pickCycleBoundary n m) := fun _ _ h => nomatch h
theorem laneLockGained (n : Nat) (l : LockGain) : Statement (.laneLockGained n l) := fun _ _ h => nomatch h
theorem linkUpHoldExpiry (n : Nat) : Statement (.linkUpHoldExpiry n) := fun _ _ h => nomatch h
theorem laneLockLost (l : LockLoss) : Statement (.laneLockLost l) := fun _ _ h => nomatch h
theorem laneAcquireTimeout (n : Nat) : Statement (.laneAcquireTimeout n) := fun _ _ h => nomatch h
theorem serdesFault (n : Nat) : Statement (.serdesFault n) := fun _ _ h => nomatch h
theorem fecDegradedSet (n : Nat) : Statement (.fecDegradedSet n) := fun _ _ h => nomatch h
theorem fecDegradedClear (n : Nat) : Statement (.fecDegradedClear n) := fun _ _ h => nomatch h
theorem laserInputLost (k : Nat) (b : Bool) : Statement (.laserInputLost k b) := fun _ _ h => nomatch h
theorem laserInputReturn (k : Nat) (b : Bool) : Statement (.laserInputReturn k b) := fun _ _ h => nomatch h
theorem engineSelfTestDone (k : Nat) (ok : Bool) : Statement (.engineSelfTestDone k ok) := fun _ _ h => nomatch h
theorem engineStartTimeout (k : Nat) : Statement (.engineStartTimeout k) := fun _ _ h => nomatch h
theorem opticalMonitorUpdate (k : Nat) (lsa lsb ots : Int) (pw : List (Int × Int)) : Statement (.opticalMonitorUpdate k lsa lsb ots pw) := fun _ _ h => nomatch h
theorem frameFirstByte (p tm n : Nat) (ctl : Bool) : Statement (.frameFirstByte p tm n ctl) := fun _ _ h => nomatch h
theorem frameLastByte (p : Nat) (l : List Byte) (pcs : Bool) : Statement (.frameLastByte p l pcs) := fun _ _ h => nomatch h
theorem controlFrameReceive (p : Nat) (l : List Byte) : Statement (.controlFrameReceive p l) := fun _ _ h => nomatch h
theorem pauseHoldExpiry (p c : Nat) : Statement (.pauseHoldExpiry p c) := fun _ _ h => nomatch h
theorem headDispatch (n id : Nat) (l : List Byte) (noRoom : Nat) : Statement (.headDispatch n id l noRoom) := fun _ _ h => nomatch h
theorem headDecision (id : Nat) : Statement (.headDecision id) := fun _ _ h => nomatch h
theorem hedEccRepair (corrected : Bool) (mem gen unit src frame : Nat) : Statement (.hedEccRepair corrected mem gen unit src frame) := fun _ _ h => nomatch h
theorem beamRelease (q : Nat) : Statement (.beamRelease q) := fun _ _ h => nomatch h
theorem warpSend (n p choice arrived : Nat) : Statement (.warpSend n p choice arrived) := fun _ _ h => nomatch h
theorem weftSend (j p : Nat) : Statement (.weftSend j p) := fun _ _ h => nomatch h
theorem reedArrival (n d seq ecc word : Nat) : Statement (.reedArrival n d seq ecc word) := fun _ _ h => nomatch h
theorem releaseReport (n d : Nat) : Statement (.releaseReport n d) := fun _ _ h => nomatch h
theorem egressEnqueue (d : Nat) : Statement (.egressEnqueue d) := fun _ _ h => nomatch h
theorem hayloftSpill (id : Nat) : Statement (.hayloftSpill id) := fun _ _ h => nomatch h
theorem hayloftFetch (id : Nat) (bad : Bool) (stack word : Nat) : Statement (.hayloftFetch id bad stack word) := fun _ _ h => nomatch h
theorem pauseRepeat (p : Nat) : Statement (.pauseRepeat p) := fun _ _ h => nomatch h
theorem egressChoose (p tm n : Nat) : Statement (.egressChoose p tm n) := fun _ _ h => nomatch h
theorem frameTxEnd (p : Nat) : Statement (.frameTxEnd p) := fun _ _ h => nomatch h
theorem cutUnderrun (p : Nat) : Statement (.cutUnderrun p) := fun _ _ h => nomatch h
theorem shedEntryChange (p : Nat) : Statement (.shedEntryChange p) := fun _ _ h => nomatch h
theorem launchFetch (id : Nat) : Statement (.launchFetch id) := fun _ _ h => nomatch h
theorem launchStart (p tm n : Nat) : Statement (.launchStart p tm n) := fun _ _ h => nomatch h
theorem ageLimitExpiry (id : Nat) : Statement (.ageLimitExpiry id) := fun _ _ h => nomatch h
theorem mcastCopyTimeout (id : Nat) : Statement (.mcastCopyTimeout id) := fun _ _ h => nomatch h
theorem frerResetTimeout (h : Nat) : Statement (.frerResetTimeout h) := fun _ _ h => nomatch h
theorem xoCompareWindow (ratio : Int) : Statement (.xoCompareWindow ratio) := fun _ _ h => nomatch h
theorem tapSample (t : Nat) (rx : Option TapHalf) (tx : Option TapHalf) : Statement (.tapSample t rx tx) := fun _ _ h => nomatch h
theorem miEdge (k : Nat) (rising : Bool) (d : TdcEdge) : Statement (.miEdge k rising d) := fun _ _ h => nomatch h
theorem armedIntervalExpiry (k : Nat) : Statement (.armedIntervalExpiry k) := fun _ _ h => nomatch h
theorem gateEnd (k : Nat) : Statement (.gateEnd k) := fun _ _ h => nomatch h
theorem refActivityLoss (r : Nat) (valid : Bool) : Statement (.refActivityLoss r valid) := fun _ _ h => nomatch h
theorem qualTimerExpiry (r : Nat) : Statement (.qualTimerExpiry r) := fun _ _ h => nomatch h
theorem dpllStateEvaluate (loop : Int) (slew : Int) : Statement (.dpllStateEvaluate loop slew) := fun _ _ h => nomatch h
theorem ageingLearn (slope : Int) : Statement (.ageingLearn slope) := fun _ _ h => nomatch h
theorem esmcPduReceive (p : Nat) (l : List Byte) : Statement (.esmcPduReceive p l) := fun _ _ h => nomatch h
theorem esmcTimeout (r : Nat) : Statement (.esmcTimeout r) := fun _ _ h => nomatch h
theorem synRelockStart (n : Nat) (unlock : Bool) : Statement (.synRelockStart n unlock) := fun _ _ h => nomatch h
theorem synLockAcquired (n : Nat) : Statement (.synLockAcquired n) := fun _ _ h => nomatch h
theorem synFreqCheck (n : Nat) (pass : Bool) : Statement (.synFreqCheck n pass) := fun _ _ h => nomatch h
theorem synRelockReturn (n : Nat) : Statement (.synRelockReturn n) := fun _ _ h => nomatch h
theorem synRelockRetry (n : Nat) : Statement (.synRelockRetry n) := fun _ _ h => nomatch h
theorem pulseEdge (o : Nat) : Statement (.pulseEdge o) := fun _ _ h => nomatch h
theorem treadleEdge (t : Nat) : Statement (.treadleEdge t) := fun _ _ h => nomatch h
theorem todinMessage (t : Nat) (l : List Byte) (stop : Bool) : Statement (.todinMessage t l stop) := fun _ _ h => nomatch h
theorem lldpSend (p : Nat) : Statement (.lldpSend p) := fun _ _ h => nomatch h
theorem lldpduReceive (p : Nat) (l : List Byte) : Statement (.lldpduReceive p l) := fun _ _ h => nomatch h
theorem lldpTtlExpiry (p : Nat) : Statement (.lldpTtlExpiry p) := fun _ _ h => nomatch h
theorem kplSlot (p tm n : Nat) : Statement (.kplSlot p tm n) := fun _ _ h => nomatch h
theorem kplMarkReceive (p tm n : Nat) (bs : List (Nat × Nat × Nat)) (bad : Bool) (dtm dn : Nat) : Statement (.kplMarkReceive p tm n bs bad dtm dn) := fun _ _ h => nomatch h
theorem kplReplyReceive (p tm n : Nat) (bs : List (Nat × Nat × Nat)) (bad : Bool) : Statement (.kplReplyReceive p tm n bs bad) := fun _ _ h => nomatch h
theorem kplTimeReceive (p : Nat) (bs : List (Nat × Nat × Nat)) (bad : Bool) : Statement (.kplTimeReceive p bs bad) := fun _ _ h => nomatch h
theorem kplReplyTimeout (p : Nat) : Statement (.kplReplyTimeout p) := fun _ _ h => nomatch h
theorem ptpAnnounceSend (p : Nat) : Statement (.ptpAnnounceSend p) := fun _ _ h => nomatch h
theorem ptpSyncSend (p : Nat) : Statement (.ptpSyncSend p) := fun _ _ h => nomatch h
theorem ptpFollowUpSend (p : Nat) : Statement (.ptpFollowUpSend p) := fun _ _ h => nomatch h
theorem ptpDelayReqReceive (p : Nat) (l : List Byte) : Statement (.ptpDelayReqReceive p l) := fun _ _ h => nomatch h
theorem ptpDelayReqSend (p : Nat) : Statement (.ptpDelayReqSend p) := fun _ _ h => nomatch h
theorem ptpDelayRespReceive (p : Nat) (l : List Byte) : Statement (.ptpDelayRespReceive p l) := fun _ _ h => nomatch h
theorem ptpDelayRespTimeout (p : Nat) : Statement (.ptpDelayRespTimeout p) := fun _ _ h => nomatch h
theorem ptpSyncReceive (p : Nat) (l : List Byte) : Statement (.ptpSyncReceive p l) := fun _ _ h => nomatch h
theorem ptpFollowUpReceive (p : Nat) (l : List Byte) : Statement (.ptpFollowUpReceive p l) := fun _ _ h => nomatch h
theorem ptpAnnounceReceive (p : Nat) (l : List Byte) : Statement (.ptpAnnounceReceive p l) := fun _ _ h => nomatch h
theorem ptpAnnounceTimeout (p : Nat) : Statement (.ptpAnnounceTimeout p) := fun _ _ h => nomatch h
theorem ptpIgnoredReceive (p : Nat) (l : List Byte) : Statement (.ptpIgnoredReceive p l) := fun _ _ h => nomatch h
theorem followUpMatchTimeout (p : Nat) : Statement (.followUpMatchTimeout p) := fun _ _ h => nomatch h
theorem gnssSolution (g : GnssSol) : Statement (.gnssSolution g) := fun _ _ h => nomatch h
theorem groomOutputReceive (c : Consumer) (b : Bool) (seq digest : Nat) : Statement (.groomOutputReceive c b seq digest) := fun _ _ h => nomatch h
theorem groomResetEnd (b : Bool) : Statement (.groomResetEnd b) := fun _ _ h => nomatch h
theorem groomImageLoaded (b : Bool) : Statement (.groomImageLoaded b) := fun _ _ h => nomatch h
theorem resyncFinalCopy (b : Bool) : Statement (.resyncFinalCopy b) := fun _ _ h => nomatch h
theorem shadowTakeover (b : Bool) : Statement (.shadowTakeover b) := fun _ _ h => nomatch h
theorem shadowFault (b : Bool) : Statement (.shadowFault b) := fun _ _ h => nomatch h
theorem taskReadReg (t a : Nat) : Statement (.taskReadReg t a) := fun _ _ h => nomatch h
theorem taskReadTime (t : Nat) : Statement (.taskReadTime t) := fun _ _ h => nomatch h
theorem taskSubmit (t op : Nat) (d : Submission) : Statement (.taskSubmit t op d) := fun _ _ h => nomatch h
theorem taskWait (t : Nat) (w : WaitFor) : Statement (.taskWait t w) := fun _ _ h => nomatch h
theorem taskWaitResume (t : Nat) : Statement (.taskWaitResume t) := fun _ _ h => nomatch h
theorem taskReadPc (t k : Nat) : Statement (.taskReadPc t k) := fun _ _ h => nomatch h
theorem taskRaise (t : Nat) (detail : BitVec 32) : Statement (.taskRaise t detail) := fun _ _ h => nomatch h
theorem taskFault (t : Nat) : Statement (.taskFault t) := fun _ _ h => nomatch h
theorem logSample (c t addr lat op : Nat) (user : Bool) : Statement (.logSample c t addr lat op user) := fun _ _ h => nomatch h
theorem pwrWarnAssert : Statement (.pwrWarnAssert) := fun _ _ h => nomatch h
theorem pwrWarnClear : Statement (.pwrWarnClear) := fun _ _ h => nomatch h
theorem overvoltageEvent : Statement (.overvoltageEvent) := fun _ _ h => nomatch h
theorem dieWarnRise : Statement (.dieWarnRise) := fun _ _ h => nomatch h
theorem oeWarnRise : Statement (.oeWarnRise) := fun _ _ h => nomatch h
theorem tapReset : Statement (.tapReset) := fun _ _ h => nomatch h
theorem resetNAssert : Statement (.resetNAssert) := fun _ _ h => nomatch h
theorem resetNRelease : Statement (.resetNRelease) := fun _ _ h => nomatch h
theorem perstNRise : Statement (.perstNRise) := fun _ _ h => nomatch h
theorem run : Statement (.run) := fun _ _ h => nomatch h
theorem relinkDone : Statement (.relinkDone) := fun _ _ h => nomatch h
theorem timeNsRead : Statement (.timeNsRead) := fun _ _ h => nomatch h
theorem effectiveAtBoundary : Statement (.effectiveAtBoundary) := fun _ _ h => nomatch h
theorem ruleWriteDone : Statement (.ruleWriteDone) := fun _ _ h => nomatch h
theorem ruleSwapDeferred : Statement (.ruleSwapDeferred) := fun _ _ h => nomatch h
theorem calAutoEvaluate : Statement (.calAutoEvaluate) := fun _ _ h => nomatch h
theorem halterEvaluate : Statement (.halterEvaluate) := fun _ _ h => nomatch h
theorem rationsDeal : Statement (.rationsDeal) := fun _ _ h => nomatch h
theorem fdbAgeing : Statement (.fdbAgeing) := fun _ _ h => nomatch h
theorem fateLedgerRecord : Statement (.fateLedgerRecord) := fun _ _ h => nomatch h
theorem xoMainLost : Statement (.xoMainLost) := fun _ _ h => nomatch h
theorem xoMainReturn : Statement (.xoMainReturn) := fun _ _ h => nomatch h
theorem xoSpareLost : Statement (.xoSpareLost) := fun _ _ h => nomatch h
theorem xoSpareReturn : Statement (.xoSpareReturn) := fun _ _ h => nomatch h
theorem ovenStableRise : Statement (.ovenStableRise) := fun _ _ h => nomatch h
theorem ageingTick : Statement (.ageingTick) := fun _ _ h => nomatch h
theorem ref13EstimateTimeout : Statement (.ref13EstimateTimeout) := fun _ _ h => nomatch h
theorem refMonitorEvaluate : Statement (.refMonitorEvaluate) := fun _ _ h => nomatch h
theorem refSelection : Statement (.refSelection) := fun _ _ h => nomatch h
theorem holdoverWindowExpiry : Statement (.holdoverWindowExpiry) := fun _ _ h => nomatch h
theorem stepThreshold : Statement (.stepThreshold) := fun _ _ h => nomatch h
theorem learningHour : Statement (.learningHour) := fun _ _ h => nomatch h
theorem esmcInfoSend : Statement (.esmcInfoSend) := fun _ _ h => nomatch h
theorem esmcEventSend : Statement (.esmcEventSend) := fun _ _ h => nomatch h
theorem todMessageSend : Statement (.todMessageSend) := fun _ _ h => nomatch h
theorem timeFirstSet : Statement (.timeFirstSet) := fun _ _ h => nomatch h
theorem qualityEvaluate : Statement (.qualityEvaluate) := fun _ _ h => nomatch h
theorem leapApply : Statement (.leapApply) := fun _ _ h => nomatch h
theorem bmcaEvaluate : Statement (.bmcaEvaluate) := fun _ _ h => nomatch h
theorem kplServoPublish : Statement (.kplServoPublish) := fun _ _ h => nomatch h
theorem gnssSolutionTimeout : Statement (.gnssSolutionTimeout) := fun _ _ h => nomatch h
theorem lagWindowExpiry : Statement (.lagWindowExpiry) := fun _ _ h => nomatch h
theorem revertHoldExpiry : Statement (.revertHoldExpiry) := fun _ _ h => nomatch h
theorem healthEvent : Statement (.healthEvent) := fun _ _ h => nomatch h
theorem vioFall : Statement (.vioFall) := fun _ _ h => nomatch h
theorem dieWarnFall : Statement (.dieWarnFall) := fun _ _ h => nomatch h
theorem oeWarnFall : Statement (.oeWarnFall) := fun _ _ h => nomatch h
theorem ovenStableFall : Statement (.ovenStableFall) := fun _ _ h => nomatch h
theorem pcieConfigRequest : Statement (.pcieConfigRequest) := fun _ _ h => nomatch h
theorem todinRxValidExpiry : Statement (.todinRxValidExpiry) := fun _ _ h => nomatch h
theorem engineShutdownTrip (k : Nat) (ots : Int) : Statement (.engineShutdownTrip k ots) := fun _ _ h => nomatch h
theorem jtagBypass (tdi : List Bool) : Statement (.jtagBypass tdi) := fun _ _ h => nomatch h
theorem jtagIdcode (tdi : List Bool) : Statement (.jtagIdcode tdi) := fun _ _ h => nomatch h
theorem jtagSamplePreload (lands tdi : List Bool) : Statement (.jtagSamplePreload lands tdi) := fun _ _ h => nomatch h
theorem jtagExtest (lands tdi : List Bool) : Statement (.jtagExtest lands tdi) := fun _ _ h => nomatch h
theorem jtagClamp (tdi : List Bool) : Statement (.jtagClamp tdi) := fun _ _ h => nomatch h
theorem jtagHighz (tdi : List Bool) : Statement (.jtagHighz tdi) := fun _ _ h => nomatch h
theorem heddleGraphError (h : Nat) : Statement (.heddleGraphError h) := fun _ _ h => nomatch h
theorem lpiReceived (n : Nat) : Statement (.lpiReceived n) := fun _ _ h => nomatch h
theorem elasticSlip (n : Nat) (ins : Bool) : Statement (.elasticSlip n ins) := fun _ _ h => nomatch h
theorem hayloftStackFail (k : Nat) : Statement (.hayloftStackFail k) := fun _ _ h => nomatch h
theorem gnssTimePulse (m : Nat) : Statement (.gnssTimePulse m) := fun _ _ h => nomatch h
theorem gnssChannelHold (c : Nat) : Statement (.gnssChannelHold c) := fun _ _ h => nomatch h
theorem gnssChannelIdle (c : Nat) : Statement (.gnssChannelIdle c) := fun _ _ h => nomatch h
theorem antennaMeasure (ma : Nat) (limit : Bool) : Statement (.antennaMeasure ma limit) := fun _ _ h => nomatch h
theorem antennaShortRetry (below : Bool) : Statement (.antennaShortRetry below) := fun _ _ h => nomatch h
theorem jamEvaluate (l1 l5 : Nat) (notches : List (Int × Nat × Bool)) : Statement (.jamEvaluate l1 l5 notches) := fun _ _ h => nomatch h

end Sys2Proof.Laws.SubmissionsInRange
end

