-- ==== Sys2Proof/Laws/Take.lean ====
section
/-! SUPPORT. What a ring's command does in the step that takes it: one lemma for each way it goes on (01 R20 to R22; 04 R140, R156, R158). -/

namespace Sys2Proof.Machine

open Sys2Proof

@[simp] theorem State.fetched_nt (d : Submission) (s : State) : (s.fetched d).nt = s.nt := by
  unfold State.fetched State.modRing; split <;> rfl

@[simp] theorem State.fetched_regs (d : Submission) (s : State) : (s.fetched d).regs = s.regs := by
  unfold State.fetched State.modRing; split <;> rfl

@[simp] theorem State.fetched_rd (d : Submission) (s : State) (a : Nat) : (s.fetched d).rd a = s.rd a := by
  unfold State.rd; rw [State.fetched_regs]

@[simp] theorem State.fetched_get (d : Submission) (s : State) (f : Fld) : (s.fetched d).get f = s.get f := by
  unfold State.get; rw [State.fetched_rd]

@[simp] theorem State.fetched_on (d : Submission) (s : State) (f : Fld) : (s.fetched d).on f = s.on f := by
  unfold State.on; rw [State.fetched_get]

/-- A submission that is not the next one to be taken changes nothing. -/
theorem CmdSpec.take_idle {k : CmdSpec} {d : Submission} {s : State} (op : Nat) (soon : Bool) (h : s.fetches k.cls d = false) :
    k.take op soon d s = s := by
  unfold CmdSpec.take; simp [h]

@[simp] theorem State.fetched_acceptAt (d : Submission) (s : State) (row : Bool) (e : Submission) : (s.fetched d).acceptAt row e = s.acceptAt row e := by
  unfold State.acceptAt State.cycleLen; simp

@[simp] theorem State.fetched_accepted (d : Submission) (s : State) : (s.fetched d).accepted = s.accepted := by
  unfold State.fetched State.modRing; split <;> rfl

@[simp] theorem State.newCmd_begun (op : Nat) (d : Submission) (b : Nat) (s : State) : (s.newCmd op d b).begun = false := rfl
@[simp] theorem State.newCmd_boundary (op : Nat) (d : Submission) (b : Nat) (s : State) : (s.newCmd op d b).boundary = b := rfl
@[simp] theorem State.newCmd_sub (op : Nat) (d : Submission) (b : Nat) (s : State) : (s.newCmd op d b).sub = d := rfl

/-- A refused submission that acts on acceptance: fetched, its error noted, completed with the first check that fails. -/
theorem CmdSpec.take_refused {k : CmdSpec} {d : Submission} {s : State} (op : Nat) (row : Bool) (h : s.fetches k.cls d = true)
    (hr : k.refusal d (k.acceptAt row d (s.fetched d)) (s.fetched d) ≠ rOk) :
    k.take op row d s =
      ((s.fetched d).refusalErr (k.reservedSet d) (k.refusal d (k.acceptAt row d (s.fetched d)) (s.fetched d)) d).completeCmd
        ((s.fetched d).newCmd op d (k.acceptAt row d (s.fetched d)))
        (k.refusal d (k.acceptAt row d (s.fetched d)) (s.fetched d)) (k.acceptAt row d (s.fetched d)) 0 0 := by
  unfold CmdSpec.take; simp only [h, if_true, ne_eq, hr, not_false_eq_true]

/-- The first of some commands in the order of 01 R25 is one of them. -/
theorem firstCmd_mem {l : List Cmd} {m : Option Cmd} {x : Cmd}
    (h : l.foldl (fun m c => match m with
      | none => some c
      | some x => if c.before x then some c else m) m = some x) : m = some x ∨ x ∈ l := by
  induction l generalizing m with
  | nil => exact .inl h
  | cons c l ih =>
    rw [List.foldl_cons] at h
    rcases ih h with h | h
    · cases m with
      | none => simp at h; exact .inr (by simp [h])
      | some y =>
        simp only at h
        split at h
        · simp at h; exact .inr (by simp [h])
        · exact .inl h
    · exact .inr (List.mem_cons_of_mem _ h)

/-- The command accepted last is the first to act where it comes before every other whose boundary has come. -/
theorem State.dueCmd_last {c : Cmd} {s : State} (hb : c.begun = false) (hd : c.boundary ≤ s.nt)
    (h : ∀ x ∈ s.accepted, x.begun = false → x.boundary ≤ s.nt → c.before x = true) :
    ({ s with accepted := s.accepted ++ [c] } : State).dueCmd = some c := by
  unfold State.dueCmd
  simp only [List.filter_append, List.filter_cons, List.filter_nil, hb, hd, Bool.not_false, decide_true, Bool.and_self, if_true,
    List.foldl_append, List.foldl_cons, List.foldl_nil]
  split
  · rfl
  · rename_i x hx
    rcases firstCmd_mem hx with hx | hx
    · cases hx
    · have := List.mem_filter.1 hx
      simp at this
      simp [h x this.1 this.2.1 this.2.2]

/-- A command that acts at a boundary of the kind `f` and has its turn acts in its step. -/
theorem CmdSpec.take_first {k : CmdSpec} {d : Submission} {s : State} {op : Nat} {f : Nat → Nat} (h : Ready k d s)
    (hf : k.first d (s.fetched d) = some f) :
    k.take op true d s = k.actNow ((s.fetched d).newCmd op d (f (s.acceptAt true d + 1))) (s.fetched d) := by
  obtain ⟨h1, h2, h3, h4⟩ := h
  obtain ⟨h5, h6⟩ := h4 f hf
  have h7 : k.acceptAt true d (s.fetched d) = s.acceptAt true d := by unfold CmdSpec.acceptAt; simp [hf]
  rw [h7] at h2
  have hc : boundaryOf f (s.acceptAt true d) d = (f (s.acceptAt true d + 1), false) := by unfold boundaryOf; simp [h3]
  unfold CmdSpec.take
  simp only [h1, if_true, h7, h2, ne_eq, not_true_eq_false, if_false, hf, hc]
  have h8 := State.dueCmd_last (c := (s.fetched d).newCmd op d (f (s.acceptAt true d + 1))) (s := s.fetched d) rfl (by simpa using h5)
    (fun x hx hb hn => by
      rw [State.fetched_accepted] at hx
      rw [State.fetched_nt] at hn
      rcases h6 x hx hb hn with h | ⟨h, h'⟩
      · exact Bool.or_eq_true_iff.2 (.inl (decide_eq_true h))
      · exact Bool.or_eq_true_iff.2 (.inr (Bool.and_eq_true_iff.2 ⟨beq_iff_eq.2 h, decide_eq_true h'⟩)))
  show k.enter ((s.fetched d).newCmd op d (f (s.acceptAt true d + 1))) true (s.fetched d) = _
  unfold CmdSpec.enter
  simp only [h8, Bool.true_and, beq_self_eq_true, if_true]

/-- As `take_first`, at a pick-cycle boundary. -/
theorem CmdSpec.take_pick {k : CmdSpec} {d : Submission} {s : State} {op : Nat} (h : Ready k d s)
    (hf : k.first d (s.fetched d) = some ceilGrid) : k.take op true d s = k.actNow (cmdOf op d s) (s.fetched d) := by
  rw [CmdSpec.take_first h hf]; simp [cmdOf]

/-- A command that acts on acceptance. -/
theorem CmdSpec.take_now {k : CmdSpec} {d : Submission} {s : State} {op : Nat} (h : Ready k d s) (hf : k.first d (s.fetched d) = none) :
    k.take op true d s = k.actNow (cmdNow op d s) (s.fetched d) := by
  obtain ⟨h1, h2, h3, -⟩ := h
  have h7 : k.acceptAt true d (s.fetched d) = s.acceptAt false d := by unfold CmdSpec.acceptAt; simp [hf]
  rw [h7] at h2
  unfold CmdSpec.take
  simp only [h1, if_true, h7, h2, ne_eq, not_true_eq_false, if_false, hf, cmdNow]

/-- The completion of a command whose pending mark is none. -/
theorem State.updPending_ne {c : Cmd} (h1 : c.op ≠ 0x11) (h2 : c.op ≠ 0x4A) (s : State) : s.updPending c = s := by
  unfold State.updPending; simp [h1, h2]

/-- An action that completes at once. -/
theorem CmdSpec.actNow_done {k : CmdSpec} {c : Cmd} {s t : State} {code q1 q2 : Nat} (h : k.act c s = (t, .done code q1 q2)) :
    k.actNow c s = (c.ended code q1 q2 t).updPending c := by
  unfold CmdSpec.actNow; rw [h]; rfl

/-- An action that completes under a later event. -/
theorem CmdSpec.actNow_wait {k : CmdSpec} {c : Cmd} {s t : State} (h : k.act c s = (t, .wait)) : k.actNow c s = (c.goesOn t).updPending c := by
  unfold CmdSpec.actNow; rw [h]; rfl

/-- An action that has written its completion itself. -/
theorem CmdSpec.actNow_gone {k : CmdSpec} {c : Cmd} {s t : State} (h : k.act c s = (t, .gone)) : k.actNow c s = t := by
  unfold CmdSpec.actNow; rw [h]

/-- A command of a pick-cycle boundary, taken and ended in its step. -/
theorem CmdSpec.take_ends {k : CmdSpec} {d : Submission} {s t : State} {op code q1 q2 : Nat} (h : Ready k d s) (h1 : op ≠ 0x11)
    (h2 : op ≠ 0x4A) (hf : k.first d (s.fetched d) = some ceilGrid)
    (ha : k.act (cmdOf op d s) (s.fetched d) = (t, .done code q1 q2)) :
    k.take op true d s = (cmdOf op d s).ended code q1 q2 t := by
  rw [CmdSpec.take_pick h hf, CmdSpec.actNow_done ha, State.updPending_ne h1 h2]

/-- A command of a pick-cycle boundary, taken and begun in its step. -/
theorem CmdSpec.take_begins {k : CmdSpec} {d : Submission} {s t : State} {op : Nat} (h : Ready k d s) (h1 : op ≠ 0x11)
    (h2 : op ≠ 0x4A) (hf : k.first d (s.fetched d) = some ceilGrid) (ha : k.act (cmdOf op d s) (s.fetched d) = (t, .wait)) :
    k.take op true d s = (cmdOf op d s).goesOn t := by
  rw [CmdSpec.take_pick h hf, CmdSpec.actNow_wait ha, State.updPending_ne h1 h2]

/-- A command that acts on acceptance, taken and ended in its step. -/
theorem CmdSpec.take_ends_now {k : CmdSpec} {d : Submission} {s t : State} {op code q1 q2 : Nat} (h : Ready k d s) (h1 : op ≠ 0x11)
    (h2 : op ≠ 0x4A) (hf : k.first d (s.fetched d) = none) (ha : k.act (cmdNow op d s) (s.fetched d) = (t, .done code q1 q2)) :
    k.take op true d s = (cmdNow op d s).ended code q1 q2 t := by
  rw [CmdSpec.take_now h hf, CmdSpec.actNow_done ha, State.updPending_ne h1 h2]

/-- A command that acts on acceptance, taken and begun in its step. -/
theorem CmdSpec.take_begins_now {k : CmdSpec} {d : Submission} {s t : State} {op : Nat} (h : Ready k d s) (h1 : op ≠ 0x11)
    (h2 : op ≠ 0x4A) (hf : k.first d (s.fetched d) = none) (ha : k.act (cmdNow op d s) (s.fetched d) = (t, .wait)) :
    k.take op true d s = (cmdNow op d s).goesOn t := by
  rw [CmdSpec.take_now h hf, CmdSpec.actNow_wait ha, State.updPending_ne h1 h2]

end Sys2Proof.Machine
end

