-- ==== Sys2Proof/Laws/Told.lean ====
section
/-! SUPPORT. What telling the host changes: counters, completions, attention and events change the registers of `ToldAt` and the fields that
`Told` names, and nothing else (04 R130, R141 to R144, R163, R166, R168; 17 R608, R610, R632). -/

namespace Sys2Proof.Machine

open Sys2Proof

/-- The registers that telling the host may change: HIF_STATUS, MSIX_PBA, OBS_WRAP and OBS_EVENT. -/
def ToldAt (a : Nat) : Prop :=
  a = R.HIF_STATUS ∨ a = R.MSIX_PBA 0 ∨ a = R.MSIX_PBA 1 ∨ a = R.MSIX_PBA 2 ∨ a = R.MSIX_PBA 3 ∨ a = R.OBS_WRAP ∨ a = F.OBS_EVENT_WRAP_SEEN.addr

/-- `t` is `s` but for what telling the host changes. -/
def Told (s t : State) : Prop :=
  (∀ a, ¬ToldAt a → t.rd a = s.rd a) ∧
  { t with regs := s.regs, rings := s.rings, cq := s.cq, cqHeld := s.cqHeld, msixSent := s.msixSent, wroteNow := s.wroteNow, ctr := s.ctr,
           wrapped := s.wrapped, tasks := s.tasks, attnNow := s.attnNow, setNow := s.setNow } = s

theorem told_refl (s : State) : Told s s := ⟨fun _ _ => rfl, rfl⟩

theorem told_trans {s t u : State} (h : Told s t) (g : Told t u) : Told s u := by
  obtain ⟨h1, h2⟩ := h
  obtain ⟨g1, g2⟩ := g
  refine ⟨fun a ha => (g1 a ha).trans (h1 a ha), ?_⟩
  rw [← h2, ← g2]

/-- A field of a told register written. -/
theorem told_set {f : Fld} (h : ToldAt f.addr) (v : Nat) (s : State) : Told s (s.set f v) :=
  ⟨fun _ ha => State.rd_set_ne (fun e => ha (by rw [e]; exact h)) _ _, rfl⟩

theorem told_stick {a : Nat} (h : ToldAt a) (b : Nat) (s : State) : Told s (s.stick a b) :=
  ⟨fun _ ha => State.rd_set_ne (f := ⟨a, b, 1⟩) (fun e => ha (by rw [e]; exact h)) _ _, rfl⟩

theorem told_wr {a : Nat} (h : ToldAt a) (v : Word) (s : State) : Told s (s.wr a v) :=
  ⟨fun _ hb => State.rd_wr_ne (fun e => hb (by rw [e]; exact h)) _ _, rfl⟩

theorem told_forEach {α : Type} (l : List α) {f : α → State → State} (hf : ∀ x s, Told s (f x s)) (s : State) : Told s (s.forEach l f) := by
  unfold State.forEach
  induction l generalizing s with
  | nil => exact told_refl s
  | cons x l ih => exact told_trans (hf x s) (ih _)

theorem State.count_told (set r i n : Nat) (s : State) : Told s (s.count set r i n) := by
  unfold State.count
  dsimp only
  split
  · exact ⟨fun _ _ => rfl, rfl⟩
  · have h1 : ToldAt F.OBS_EVENT_WRAP_SEEN.addr := .inr (.inr (.inr (.inr (.inr (.inr rfl)))))
    have h2 : ToldAt R.OBS_WRAP := .inr (.inr (.inr (.inr (.inr (.inl rfl)))))
    refine told_trans (t := { s with ctr := Tbl.put 0 (ctrKey set r i) ((s.ctrOf set r i + n) % 2 ^ 64) s.ctr }) ⟨fun _ _ => rfl, rfl⟩ ?_
    refine told_trans (told_stick h2 set _) (told_trans (told_stick (a := R.OBS_EVENT) h1 0 _) ⟨fun _ _ => rfl, rfl⟩)

theorem State.attn_told (m : Nat) (s : State) : Told s (s.attn m) := by
  unfold State.attn
  split
  · exact told_refl s
  · exact ⟨fun a ha => State.rd_set_ne (f := ⟨R.HIF_STATUS, 16, 14⟩) (fun e => ha (.inl e)) _ _, rfl⟩

theorem State.modRing_told (r : Nat) (f : RingSt → RingSt) (s : State) : Told s (s.modRing r f) := ⟨fun _ _ => rfl, rfl⟩

theorem State.wakeTasks_told (c : Nat) (s : State) : Told s (s.wakeTasks c) := ⟨fun _ _ => rfl, rfl⟩

theorem State.modTask_told (t : Nat) (f : TaskSt → TaskSt) (s : State) : Told s (s.modTask t f) := ⟨fun _ _ => rfl, rfl⟩

theorem State.sendMsix_told {v : Nat} (h : v < 128) (s : State) : Told s (s.sendMsix v) := by
  unfold State.sendMsix
  split
  · refine told_wr ?_ _ s
    have h' : v / 32 = 0 ∨ v / 32 = 1 ∨ v / 32 = 2 ∨ v / 32 = 3 := by omega
    unfold ToldAt
    rcases h' with e | e | e | e <;> simp [e]
  · exact ⟨fun _ _ => rfl, rfl⟩

theorem State.putCq_told (r : Nat) (c : Completion) (s : State) : Told s (s.putCq r c) := by
  unfold State.putCq
  dsimp only
  split
  · refine told_trans ?_ (State.sendMsix_told (Nat.mod_lt _ (by decide)) _)
    exact ⟨fun _ _ => rfl, rfl⟩
  · exact ⟨fun _ _ => rfl, rfl⟩

theorem State.complete_told (r : Nat) (c : Completion) (s : State) : Told s (s.complete r c) := by
  unfold State.complete
  split
  · exact State.modTask_told _ _ s
  · split
    · exact State.count_told _ _ _ _ s
    · split
      · exact State.putCq_told r c s
      · exact ⟨fun _ _ => rfl, rfl⟩

theorem State.completeEra_told (era r : Nat) (c : Completion) (s : State) : Told s (s.completeEra era r c) := by
  unfold State.completeEra
  split
  · exact State.count_told _ _ _ _ s
  · exact State.complete_told r c s

theorem State.completeCmd_told (c : Cmd) (result time q1 q2 : Nat) (s : State) : Told s (s.completeCmd c result time q1 q2) :=
  State.completeEra_told _ _ _ s

theorem State.merge_told (r : Nat) (e : EventRec) (s : State) : Told s (s.merge r e) := by
  unfold State.merge
  dsimp only
  split
  · exact told_trans (State.count_told _ _ _ _ s) (State.modRing_told _ _ _)
  · split
    · exact told_trans (State.count_told _ _ _ _ s) (State.modRing_told _ _ _)
    · exact told_trans (State.count_told _ _ _ _ s) (State.count_told _ _ _ _ _)

theorem State.eventOn_told (rs : List Nat) (n r : Nat) (e : EventRec) (s : State) : Told s (State.eventOn rs n r e s) := by
  have put : ∀ s : State, Told s ((s.attn 1).complete r (s.eventCompletion e)) := fun s =>
    told_trans (State.attn_told 1 s) (State.complete_told _ _ _)
  have first : ∀ s : State, Told s (((s.merge r e).modRing r (fun q => { q with episode := true })).attn (2 ^ 1)) := fun s =>
    told_trans (told_trans (State.merge_told r e s) (State.modRing_told _ _ _)) (State.attn_told _ _)
  induction n generalizing r e s with
  | zero =>
    unfold State.eventOn
    dsimp only
    split
    · exact State.count_told _ _ _ _ s
    · split
      · split
        · exact first s
        · exact State.merge_told r e s
      · exact put s
  | succ n ih =>
    unfold State.eventOn
    dsimp only
    split
    · exact State.count_told _ _ _ _ s
    · split
      · split
        · refine told_trans (first s) (told_forEach rs (fun r' s => ih r' _ s ?_ ?_) _)
          · exact fun s => told_trans (State.attn_told 1 s) (State.complete_told _ _ _)
          · exact fun s => told_trans (told_trans (State.merge_told _ _ s) (State.modRing_told _ _ _)) (State.attn_told _ _)
        · exact State.merge_told r e s
      · exact put s

/-- An occurrence changes only what telling the host changes. -/
theorem State.event_told (code src detail : Nat) (s : State) : Told s (s.event code src detail) := by
  unfold State.event
  dsimp only
  split
  · exact told_trans (told_trans (State.attn_told _ s) (State.wakeTasks_told _ _)) (told_forEach _ (fun r s => State.eventOn_told _ _ r _ s) _)
  · exact told_trans (State.attn_told _ s) (State.wakeTasks_told _ _)

/-- An event bit, set: its sticky bit, and otherwise only what telling the host changes. -/
theorem State.raise_told (blk : Blk) (b src : Nat) (s : State) : Told (s.stick (blk.reg src) b) (s.raise blk b src) :=
  State.event_told _ _ _ _

theorem State.raiseD_told (blk : Blk) (b src detail : Nat) (s : State) : Told (s.stick (blk.reg src) b) (s.raiseD blk b src detail) :=
  State.event_told _ _ _ _

theorem State.rd_raise {blk : Blk} {a : Nat} (b src : Nat) (s : State) (h : ¬ToldAt a) (g : a ≠ blk.reg src) :
    (s.raise blk b src).rd a = s.rd a :=
  ((State.raise_told blk b src s).1 a h).trans (State.rd_set_ne (f := ⟨blk.reg src, b, 1⟩) g _ _)

theorem State.rd_raiseD {blk : Blk} {a : Nat} (b src detail : Nat) (s : State) (h : ¬ToldAt a) (g : a ≠ blk.reg src) :
    (s.raiseD blk b src detail).rd a = s.rd a :=
  ((State.raiseD_told blk b src detail s).1 a h).trans (State.rd_set_ne (f := ⟨blk.reg src, b, 1⟩) g _ _)

end Sys2Proof.Machine
end

