-- ==== Sys2Proof/Tests/Slice0.lean ====
section
/-! SUPPORT. Small tests: the spec's worked examples, ill-formed commands, and for each statement with hypotheses a state and operands that
meet the hypotheses of each of its clauses. -/

open Sys2Proof Sys2Proof.Machine

namespace Sys2Proof.Tests

set_option linter.unusedVariables false
set_option autoImplicit false
set_option Elab.async false

/-! ### Small states -/

/-- Powered, with no domain held in reset. -/
def on : State := ({ State.reset with supply := .on } : State).set F.RST_DOMAIN_HELD 0

/-- READY, with both complexes in step. -/
def up : State := ((on.set F.GROOM_STATUS_STATE_A 3).set F.GROOM_STATUS_STATE_B 3).set F.SYS_STATUS_READY 1

/-- A ring of 16 entries of a class, with one submission waiting. -/
def ringOf (r cls : Nat) (s : State) : State :=
  ((s.set (F.HIF_RING_CFG_CLASS r) cls).set (F.HIF_RING_CFG_LOG2_SIZE r) 4).modRing r (fun q => { q with sqTail := 1 })

/-- RUN at a second boundary, with ring `r` of class `r` for each class 1 to 9. -/
def live : State :=
  ({ (up.set F.SYS_CTRL_RUN 1).set F.SYS_STATUS_RUN 1 with nt := sec, elapsed := sec } : State).forEach (List.range 9) (fun i => ringOf (i + 1) (i + 1))

/-- Bytes of numbers. -/
def by8 (l : List Nat) : List Byte := l.map (BitVec.ofNat 8)

/-- A submission of ring `r` with a parameter block. -/
def cmd (r p0 : Nat) (l : List Byte) : Submission := { ring := r, index := 0, p0 := BitVec.ofNat 32 p0, p2 := BitVec.ofNat 64 l.length, block := some l }

/-- A block that begins with ACTION, and holds words of 32 bits from byte 8 on. -/
def form (a : Nat) (ws : List Nat) : List Byte := by8 [a, 0, 0, 0, 0, 0, 0, 0] ++ ws.flatMap (leBytes 4)

/-- A submission of ring `r` without a block. -/
def bare (r p0 p1 : Nat) : Submission := { ring := r, index := 0, p0 := BitVec.ofNat 32 p0, p1 := BitVec.ofNat 64 p1 }

/-! ### The spec's worked examples -/

/-- The state an outcome goes on with. -/
def after (o : Host.Outcome State Fault Refusal) : State :=
  match o with
  | .next s => s
  | .fault _ => State.reset
  | .refused _ => State.reset

/-- An outcome that goes on goes on with the state `after` it. -/
theorem after_next {o : Host.Outcome State Fault Refusal} (h : (match o with | .next _ => true | .fault _ => false | .refused _ => false) = true) :
    o = .next (after o) := by
  cases o with
  | next s => rfl
  | fault r => cases h
  | refused r => cases h

/-- Chapter 00, after R4: NT 1.000000050 starts a pick cycle; the next starts 50 ns later. -/
theorem test_compact_time :
    ct (sec + 50 * ns) = 0x3B9ACA320000 ∧ ceilGrid (sec + 50 * ns) = sec + 50 * ns ∧ ct (nextGrid (sec + 50 * ns)) = 0x3B9ACA640000 := by
  decide +kernel

/-- Chapter 01, after R25: a swap asked for NT 1.000000073 acts at 1.000000100. -/
theorem test_boundary : ct (ceilGrid (0x3B9ACA490000)) = 0x3B9ACA640000 ∧ ceilGrid (sec + 130 * ns) = sec + 150 * ns := by decide +kernel

/-- Chapter 05, after R183: a receive timestamp on a 200GbE lane. -/
theorem test_receive_time :
    ((on.set (oeMode 2 0) 1).wr (R.LANE_DELAY_RX 17) (BitVec.ofNat 32 (ns * 17 / 8))).rxTime 17 (7 * sec + 1000 * ns + ns / 4) 10625 = 0x1A13B8A182000 := by
  decide +kernel

/-- The shed of the example of chapter 06 after R242. -/
def shed64 : Shed := { base := ct (20 * sec), cycleNs := 10000, entries := [(0x80, 1600), (0x3F, 6000), (0xFF, 400)] }

/-- Chapter 06, after R242: the open runs, from their starts and at their longest. -/
theorem test_shed_runs :
    shed64.longest 7 = some (2500 * ns) ∧ (List.range 6).all (fun c => shed64.longest c == some (8000 * ns)) = true ∧
    shed64.longest 6 = some (500 * ns) ∧ shed64.openFor 7 (9500 * ns) = some (2500 * ns) ∧ shed64.openFor 6 0 = some 0 := by decide +kernel

/-- Chapter 06, after R244: 1.5 ns in the correctionField leaves as 821.75 ns. -/
theorem test_one_step_residence :
    beAt (addCorrection (List.replicate 8 0 ++ beBytes 8 0x18000) 0 ((10 * sec + 1020 * ns + 0x4000 : Int) - (10 * sec + 200 * ns))) 8 8
      = 0x335C000 := by decide +kernel

/-- The frame of the example of chapter 07 after R271: header byte 0x46 at 18, protocol 0x11 at 27, its checksum right. -/
def ip46 : List Byte :=
  List.replicate 18 0 ++ by8 [0x46, 0, 0, 32, 0, 0, 0, 0, 64, 0x11, 0x71, 0xC1, 1, 2, 3, 4, 1, 2, 3, 5, 0, 0, 0, 0] ++ List.replicate 24 0

/-- Chapter 07, after R271: the IPv4 state advances by 24 to byte 42 and goes on in the UDP state. -/
theorem test_ipv4_state :
    ((Parse.step ⟨ip46, none⟩ (builtinStates.getD 7 {}) { cursor := 18 }).1.cursor,
     (Parse.step ⟨ip46, none⟩ (builtinStates.getD 7 {}) { cursor := 18 }).2) = (42, .state 14) := by decide +kernel

/-- The handle of the example of chapter 09 after R372. -/
def frer9 : State := ((on.set (F.FRER_STREAM_HISTORY 9) 4).setFrer 9 100 1 false)

/-- The fates of copies, and recov and history after them. -/
def frerOf (s : State) (l : List Nat) : List Nat × Nat × Nat :=
  let r := l.foldl (fun (x : List Nat × State) n => let y := x.2.frerVector 9 n; (x.1 ++ [y.1], y.2)) ([], s)
  (r.1, r.2.get (F.FRER_STATE_SEQ 9), r.2.frerHist 9)

/-- Chapter 09, after R372: two paths and a late duplicate. -/
theorem test_frer_vector :
    frerOf frer9 [102] = ([0], 102, 0b0101) ∧ frerOf frer9 [102, 101] = ([0, 0], 102, 0b0111) ∧
    frerOf frer9 [102, 101, 102, 107] = ([0, 0, 0x40, 0x41], 102, 0b0111) ∧
    frerOf frer9 [102, 101, 102, 107, 103] = ([0, 0, 0x40, 0x41, 0], 103, 0b1111) := by decide +kernel

/-- Chapter 10, after R384: after a day at 40 ppt per day MEAS_XO_CORR reads 400,000. -/
theorem test_ageing_day :
      ((after (exec .ageingTick { on.set F.MEAS_XO_AGEING_RATE 40000 with corrAcc := (86400000 - 1) * 40000, elapsed := ms })).get48
      R.MEAS_XO_CORR_LO R.MEAS_XO_CORR_HI) = 400000 := by decide +kernel

/-- Chapter 10, after R393: an edge on MI3. -/
theorem test_edge_on_mi3 :
    tdcUnits 1843 1250 2437 = 122845 ∧ tdcGood 1250 2437 = true ∧
    (on.place1 289 { e := 0x9502F91F40000, c := 1843, c1 := 1250, c2 := 2437 }).1 = 0x9502F91F22023 := by decide +kernel

/-- MI4 armed by a start at NT 50 s and 200 ns. -/
def armed4 : State := on.armStart 4 (50 * sec + 200 * ns) { idx := 1, time := some (50 * sec + 200 * ns) }

/-- Chapter 10, after R407: a stop 1.8 ps after the start makes VALUE 118 units with COINCIDENT, and disarms; a stop without an
arming is a stray. -/
theorem test_armed_pair :
    ((armed4.armStop 4 (50 * sec + 200 * ns + 118) { idx := 1, time := some 0 }).mi 4).recs.map (fun l => (leAt l 8 8, leAt l 22 2 % 16)) = [(118, 1)] ∧
    ((armed4.armStop 4 (50 * sec + 200 * ns + 118) { idx := 1, time := some 0 }).mi 4).armed = none ∧
    (on.armStop 4 (50 * sec + 100 * ns) { idx := 1, time := some 0 }).get (F.MEAS_CH_STRAY_STOP 4) = 1 := by decide +kernel

/-- Chapter 11, after R440: +12.5 ppb is a word of 125,000,000 units. -/
theorem test_steer_word :
    (specSteer.act { op := 0x52, sub := cmd 7 0 (leBytes 8 125000000), boundary := 0 } on).1.get2 R.DPLL_STEER_LO R.DPLL_STEER_HI = 0x07735940 := by
  decide +kernel

/-- PPSOUT0 of the example of chapter 12 after R469, at NT 101.000002: the counter was stepped by +2 µs at 100.5 s. -/
def pps0 : State :=
  { (on.set (F.PULSE_CFG_ENABLE 0) 1).set (F.PULSE_STATUS_ALIGNED 0) 1 with
    nt := 101 * sec + 2 * us, elapsed := 101 * sec, pulses := [(0, ⟨0, 101 * sec, sec, 0, sec, 0, 0, 0, some (100 * sec)⟩)] }

/-- Chapter 12, after R469: the next pulse leaves 2 µs late on the counter's scale. -/
theorem test_pulse_after_a_step :
    (after (exec (.pulseEdge 0) pps0)).get2 (R.PULSE_OFFSET_LO 0) (R.PULSE_OFFSET_HI 0) = 0x07D00000 ∧
    (after (exec (.pulseEdge 0) pps0)).on (F.PULSE_STATUS_ALIGNED 0) = false := by decide +kernel

/-- Chapter 13, after R507: the exchange over an uneven fibre pair, with and without KPL_ASYM. -/
theorem test_exchange :
    exchange (100 * ns) (10100 * ns + ns / 2) (11600 * ns + ns / 2) (21600 * ns) 98304 = (((10000 * ns : Nat) : Int), 16384) ∧
    exchange (100 * ns) (10100 * ns + ns / 2) (11600 * ns + ns / 2) (21600 * ns) 0 = (((10000 * ns : Nat) : Int), -((ns / 2 : Nat) : Int)) := by decide +kernel

/-- Chapter 14, after R541: the tenth measurement below 2 mA makes ANT OPEN and sets ANT_FAULT. -/
theorem test_antenna_open :
    let s := (({ on with elapsed := ms }.set F.GNSS_CFG_BIAS_EN 1).antTo 1).modGnss (fun g => { g with antLow := 9 })
    (after (exec (.antennaMeasure 19 false) s)).ant = 2 ∧ s.ant = 1 ∧
    (after (exec (.antennaMeasure 19 false) (s.modGnss (fun g => { g with antLow := 8 })))).ant = 1 := by decide +kernel

/-! ### Well-formed commands: each check refuses an ill-formed operand -/

def sub0 : Submission := { ring := 0, index := 0 }
def badRing : Submission := { ring := 128, index := 0 }
def badIndex : Submission := { ring := 0, index := 32768 }
def edge0 : TdcEdge := { e := 0, c := 0, c1 := 0, c2 := 0 }

/-- A ring above 127 and an index above 32,767 are refused (04 R131, R137). -/
theorem test_wf_ring1 :
    ([.bypassSetPair, .bypassSetHold, .txFrame, .rxBuffer, .logBuffer, .ruleWrite, .ruleSwap, .ruleClear, .fdbAdd, .fdbDel, .fdbFlush,
     .snapTake, .snapFreeze, .snapThaw, .portSetConfigure, .portSetVlanMember, .laneSetConfigure, .laneSetReset, .laneSetReadapt,
     .laneSetRetire, .laneSetReturn, .engineSetConfigure, .engineSetPowerUp, .engineSetPowerDown, .engineSetReset, .drainLsa, .drainLsb,
     .restoreLsa, .restoreLsb, .resetSystem, .resetComplex, .resetNode, .resetHeddle, .resetEngine, .resetLane, .resetTiming,
     .resetSynthesiser, .resetPort, .imageWrite, .imageClear, .cfgWrite, .calRunLanes, .calRunCore, .calRunMi, .calRunOutputs,
     .calRunOutputLoop] : List (Submission → Instr)).all
      (fun f => !(f badRing).wf && !(f badIndex).wf && (f sub0).wf) = true := by decide +kernel

/-- A ring above 127 and an index above 32,767 are refused (04 R131, R137). -/
theorem test_wf_ring2 :
    ([.calRunAsym, .calRunGnss, .calStore, .shedSetEnable, .shedSetDisable, .filterSet, .heddleLoad, .heddleDisable, .heddleEnable,
     .picksReserve, .picksRelease, .mirrorSetSession, .mirrorSetGroup, .rationsSetEgress, .rationsSetWeight, .frerSetWrite,
     .frerSetReset, .refSetConfigure, .refSetGlobal, .refSetEsmc, .refSetRequalify, .dpllSteer, .timeAdjustSlew, .timeAdjustStep,
     .timeAdjustSet, .timingRole, .kplSet, .ptpSetPort, .ptpSetClock, .clkoutSetClock, .clkoutSetPulse, .clkoutSetTod, .clkoutSetSynth,
     .align, .treadleSetProgram, .treadleSetStop, .gnssSetConfigure, .gnssSetPosition, .gnssSetSurveyRestart, .gnssSetColdStart,
     .ringSetConfigure, .ringSetDisable, .attnAck, .cancel, .nop] : List (Submission → Instr)).all
      (fun f => !(f badRing).wf && !(f badIndex).wf && (f sub0).wf) = true := by decide +kernel

theorem test_wf_below4 :
    ([.bypassHoldExpiry, .synLockAcquired, .synRelockReturn, .synRelockRetry, .pulseEdge] : List (Nat → Instr)).all
      (fun f => !(f 4).wf && (f 3).wf) = true := by decide +kernel

theorem test_wf_below6 :
    ([.watchdogExpiry, .lockup] : List (Nat → Instr)).all
      (fun f => !(f 6).wf && (f 5).wf) = true := by decide +kernel

theorem test_wf_below286 :
    ([.tapLastRead] : List (Nat → Instr)).all
      (fun f => !(f 286).wf && (f 285).wf) = true := by decide +kernel

theorem test_wf_below64 :
    ([.obsPeekRead] : List (Nat → Instr)).all
      (fun f => !(f 64).wf && (f 63).wf) = true := by decide +kernel

theorem test_wf_below128 :
    ([.dbArmDisable, .eventPendingFlush, .rxWaitExpiry] : List (Nat → Instr)).all
      (fun f => !(f 128).wf && (f 127).wf) = true := by decide +kernel

theorem test_wf_below36 :
    ([.nodeDrainDone, .egressEnqueue] : List (Nat → Instr)).all
      (fun f => !(f 36).wf && (f 35).wf) = true := by decide +kernel

theorem test_wf_below8 :
    ([.miCalGapTimeout, .armedIntervalExpiry, .gateEnd, .treadleEdge] : List (Nat → Instr)).all
      (fun f => !(f 8).wf && (f 7).wf) = true := by decide +kernel

theorem test_wf_below32 :
    ([.heddleDrained, .engineStartTimeout, .heddleGraphError] : List (Nat → Instr)).all
      (fun f => !(f 32).wf && (f 31).wf) = true := by decide +kernel

theorem test_wf_below272 :
    ([.linkUpHoldExpiry, .laneAcquireTimeout, .serdesFault, .fecDegradedSet, .fecDegradedClear, .pauseRepeat, .shedEntryChange,
     .lldpSend, .lldpTtlExpiry, .kplReplyTimeout, .ptpAnnounceSend, .ptpSyncSend, .ptpFollowUpSend, .ptpDelayReqSend,
     .ptpDelayRespTimeout, .ptpAnnounceTimeout, .followUpMatchTimeout, .lpiReceived] : List (Nat → Instr)).all
      (fun f => !(f 272).wf && (f 271).wf) = true := by decide +kernel

theorem test_wf_below275 :
    ([.beamRelease] : List (Nat → Instr)).all
      (fun f => !(f 275).wf && (f 274).wf) = true := by decide +kernel

theorem test_wf_below273 :
    ([.frameTxEnd, .cutUnderrun] : List (Nat → Instr)).all
      (fun f => !(f 273).wf && (f 272).wf) = true := by decide +kernel

theorem test_wf_below4096 :
    ([.frerResetTimeout] : List (Nat → Instr)).all
      (fun f => !(f 4096).wf && (f 4095).wf) = true := by decide +kernel

theorem test_wf_below14 :
    ([.qualTimerExpiry, .esmcTimeout] : List (Nat → Instr)).all
      (fun f => !(f 14).wf && (f 13).wf) = true := by decide +kernel

theorem test_wf_below16 :
    ([.taskReadTime, .taskWaitResume, .taskFault] : List (Nat → Instr)).all
      (fun f => !(f 16).wf && (f 15).wf) = true := by decide +kernel

theorem test_wf_below2 :
    ([.hayloftStackFail] : List (Nat → Instr)).all
      (fun f => !(f 2).wf && (f 1).wf) = true := by decide +kernel

theorem test_wf_below96 :
    ([.gnssChannelHold, .gnssChannelIdle] : List (Nat → Instr)).all
      (fun f => !(f 96).wf && (f 95).wf) = true := by decide +kernel

theorem test_wf_operands1 :
    ([.powerOn false ([(16, 0)]), .enableRise false false ([(16, 0)]), .clockFailure .aon 0, .clockFailure .nvs 0, .clockFailure .syn 4,
     .clockFailure .lanes 272, .clockFailure .engines 32, .clockFailure .ports 273, .pcieLinkTrained 3 1, .pcieLinkTrained 4 0,
     .pcieLinkTrained 4 6, .registerWrite false 2 ⟨0, 0⟩, .latchingRead false 2, .counterLoWrite 4 0#32, .counterHiWrite 8 0#32,
     .trdEnableSet 8 0#32, .trdEnableClear 8 0#32, .outputCfgWrite 2 0#32, .dbSqTail 128 0, .dbSqTail 0 65536, .dbCqHead 128 0,
     .dbCqHead 0 65536, .dbArmEnable 128 0, .dbArmEnable 0 65536, .bobbinDrain 128 0, .bobbinDrain 0 273, .snapWriteDone 40 false,
     .readaptDone 272 0 0, .laserRampDone 32 false, .calItemDone (.item 302 []), .calItemDone (.notRun 302), .calItemDone (.asym 272),
     .heddleReadbackDone 32 false, .pickCycleBoundary 0 {}, .pickCycleBoundary 1 { lanes := [(272, [])] },
     .pickCycleBoundary 1 { prbs := [(272, 0)] }, .pickCycleBoundary 1 { die := [(16, 0)] },
     .pickCycleBoundary 1 { cores := [(6, [])] }, .pickCycleBoundary 1 { heds := [(32, [])] }, .laneLockGained 272 {}] : List Instr).all
      (fun i => !i.wf) = true := by decide +kernel

theorem test_wf_operands2 :
    ([.laserInputLost 32 false, .laserInputReturn 32 false, .engineSelfTestDone 32 false, .opticalMonitorUpdate 32 0 0 0 [],
     .frameFirstByte 272 0 0 false, .frameLastByte 272 [] false, .controlFrameReceive 272 [], .pauseHoldExpiry 272 0,
     .pauseHoldExpiry 0 8, .headDispatch 36 0 [] 0, .warpSend 36 0 0 0, .warpSend 0 36 0 0, .weftSend 36 0, .weftSend 0 36,
     .reedArrival 36 0 0 0 0, .reedArrival 0 36 0 0 0, .releaseReport 36 0, .releaseReport 0 36, .egressChoose 273 0 0,
     .launchStart 273 0 0, .tapSample 286 none none, .miEdge 8 false edge0, .refActivityLoss 14 false, .esmcPduReceive 272 [],
     .synRelockStart 4 false, .synFreqCheck 4 false, .lldpduReceive 272 [], .kplSlot 272 0 0, .kplMarkReceive 272 0 0 [] false 0 0,
     .kplReplyReceive 272 0 0 [] false, .kplTimeReceive 272 [] false, .ptpDelayReqReceive 272 [], .ptpDelayRespReceive 272 [],
     .ptpSyncReceive 272 [], .ptpFollowUpReceive 272 [], .ptpAnnounceReceive 272 [], .ptpIgnoredReceive 272 [], .taskReadReg 16 0,
     .taskSubmit 16 0 sub0, .taskWait 16 .completion] : List Instr).all
      (fun i => !i.wf) = true := by decide +kernel

theorem test_wf_operands3 :
    ([.taskReadPc 16 0, .taskReadPc 0 9, .taskRaise 16 0#32, .logSample 6 0 0 0 0 false, .engineShutdownTrip 32 0, .elasticSlip 272 false,
     .submissionAccept ⟨128, 0⟩ ⟨none, none, 0⟩, .submissionAccept ⟨0, 32768⟩ ⟨none, none, 0⟩, .submissionAccept ⟨0, 0⟩ ⟨some [0], none, 0⟩,
     .frameRxDelivery ⟨128, false⟩, .logCompletion ⟨128, false⟩, .laneLockLost { lane := 272 }] : List Instr).all
      (fun i => !i.wf) = true := by decide +kernel

/-! ### The hypotheses of the statements are met

Each `witness_X` lists, for the clauses of the statement `X` that have hypotheses, a state and operands that meet them together. -/

theorem witness_EmptyQueueIdles : State.reset.pending = [] := by decide +kernel

theorem witness_StepCarriesOutTheFrontCommand :
    ({ State.reset with pending := [.pwrWarnClear] } : State).pending = [.pwrWarnClear] := by decide +kernel

theorem witness_EveryStepKeepsTheStateSound :
    let s : State := { on with pending := [.pwrWarnClear] }
    s.Sound ∧ step s = .next (on.set F.PWR_STATUS_PWR_WARN 0) := by
  refine ⟨?_, rfl⟩
  unfold State.Sound canonRegs fdbSound
  decide +kernel

theorem witness_NoCommandTouchesTheQueue : on.Sound ∧ exec .pwrWarnClear on = .next (on.set F.PWR_STATUS_PWR_WARN 0) := by
  refine ⟨?_, rfl⟩
  unfold State.Sound canonRegs fdbSound
  decide +kernel

/-! #### Warnings -/

namespace SupplyWarn

def warm : State := { on with dieTemp := [(3, 8*105)] }

theorem witness_SupplyAndThermalWarnings :
  ((on.supplied = true ∧ on.on F.PWR_STATUS_PWR_WARN = false) ∧
    on.supply = Supply.on ∧
    (∀ (x : Nat × Int), x ∈ on.dieTemp → x.snd < 8 * ↑on.dieWarnC) ∧
    (∀ (k : Nat), k < 32 → on.getI (F.OE_TEMP_OTS k) < 8 * ↑on.oeWarnC) ∧
    ((State.set F.PWR_STATUS_PWR_WARN 1 on).supplied = false ∨ (State.set F.PWR_STATUS_PWR_WARN 1 on).on F.PWR_STATUS_PWR_WARN = true)) ∧
  ((warm.supplied = true ∧ (∃ x, x ∈ warm.dieTemp ∧ 8 * ↑warm.dieWarnC ≤ x.snd) ∧ warm.on F.PWR_STATUS_DIE_WARN = false) ∧
    ((State.setI (F.OE_TEMP_OTS 3) 600 on).supplied = true ∧ (∃ k, k < 32 ∧ 8 * ↑(State.setI (F.OE_TEMP_OTS 3) 600 on).oeWarnC ≤
      (State.setI (F.OE_TEMP_OTS 3) 600 on).getI (F.OE_TEMP_OTS k)) ∧ (State.setI (F.OE_TEMP_OTS 3) 600 on).on F.PWR_STATUS_OE_WARN =
      false)) :=
  ⟨by decide +kernel, by decide +kernel⟩

end SupplyWarn

/-! #### Supply and resets -/

namespace Resets

def onV : State := { on with vio := .v3p3 }
def off : State := { on with supply := .off }
def th : State := { on with supply := .thermal }
def hot : State := { on with dieTemp := [(3, 8*114)] }
def bro : State := { on with supply := .brownOut }
def thV : State := { th with vinOk := true }
def noEn : State := { off with enable := false }
def sby : State := { on with supply := .standby }
def tapBits (b : Bool) : List Bool := List.replicate 42 b
def rq (scope i : Nat) : BitVec 32 := BitVec.ofNat 32 (scope + 16*i + 65536 * 0x5A3C)
def R (sc i : Nat) : Submission := bare 7 (sc + 16 * i) 0
def noSafe : State := on.set F.SYN_STATUS_SAFE_GEN_OK 0

theorem witness_SupplyStartsAndShutsDown :
  ((th.enable = true ∧ (th.supply = Supply.off ∨ th.supply = Supply.brownOut ∧ false = true ∨ th.supply = Supply.thermal ∧ th.vinOk =
      false ∧ (fun s ts => (State.dieRead ts s).dieAtLeast 95 = false) th [(0, 200)])) ∧
    (∀ (x : Nat × Int), x ∈ th.dieTemp → x.snd < 8 * 113) ∧
    (th.supply = Supply.thermal ∧ (true = false ∨ th.vinOk = false ∨ (fun s ts => (State.dieRead ts s).dieAtLeast 95 = true) th [(0,
      200)]))) ∧
  ((th.supply = Supply.thermal ∧ th.vinOk = false ∧ (fun s ts => (State.dieRead ts s).dieAtLeast 95 = true) th [(0, 8 * 95)]) ∧
    on.supply = Supply.on ∧
    (hot.supply = Supply.on ∧ (∃ x, x ∈ hot.dieTemp ∧ 8 * 113 ≤ x.snd)) ∧
    (bro.enable = true ∧ bro.supply = Supply.brownOut) ∧
    (thV.supply = Supply.thermal ∧ thV.vinOk = true) ∧
    (sby.supply = Supply.standby ∨ sby.supply = Supply.thermal ∧ true = true ∧ sby.vinOk = true ∧ (fun s ts => (State.dieRead ts
      s).dieAtLeast 95 = false) sby [(0, 200)])) ∧
  ((noEn.enable = false ∧ (noEn.supply ∈ [Supply.off, Supply.brownOut] ∨ noEn.supply = Supply.thermal ∧ noEn.vinOk = false ∧ (fun s ts
      => (State.dieRead ts s).dieAtLeast 95 = false) noEn [(0, 200)])) ∧
    sby.supply = Supply.standby) :=
  ⟨by decide +kernel, by decide +kernel, by decide +kernel⟩

theorem witness_VioAndTestAccessPort :
  on.vio = Vio.absent ∧
  on.tapLive = false ∧
  onV.vio ≠ Vio.absent ∧
  (onV.tapLive = true ∧ (List.replicate 32 true).length = 32) ∧
  (onV.tapLive = true ∧ (tapBits true).length = 42 ∧ (tapBits false).length = 42) :=
  by decide +kernel

theorem witness_SoftwareRequestsResetWhatTheyName :
  ((on.run = false ∧ bits (rq 0 0).toNat 16 16 = 23100 ∧ bits (rq 0 0).toNat 0 4 = 0) ∧
    (on.run = false ∧ bits (rq 1 0).toNat 16 16 = 23100 ∧ bits (rq 1 0).toNat 0 4 = 1) ∧
    (on.run = false ∧ bits (rq 2 0).toNat 16 16 = 23100 ∧ bits (rq 2 0).toNat 0 4 = 2) ∧
    (on.run = false ∧ bits (rq 3 35).toNat 16 16 = 23100 ∧ bits (rq 3 35).toNat 0 4 = 3 ∧ bits (rq 3 35).toNat 4 9 < 36) ∧
    (on.run = false ∧ bits (rq 4 31).toNat 16 16 = 23100 ∧ bits (rq 4 31).toNat 0 4 = 4 ∧ bits (rq 4 31).toNat 4 9 < 32)) ∧
  ((on.run = false ∧ bits (rq 5 31).toNat 16 16 = 23100 ∧ bits (rq 5 31).toNat 0 4 = 5 ∧ bits (rq 5 31).toNat 4 9 < 32) ∧
    (on.run = false ∧ bits (rq 6 271).toNat 16 16 = 23100 ∧ bits (rq 6 271).toNat 0 4 = 6 ∧ bits (rq 6 271).toNat 4 9 < 272) ∧
    (on.run = false ∧ bits (rq 7 0).toNat 16 16 = 23100 ∧ bits (rq 7 0).toNat 0 4 = 7) ∧
    (on.run = false ∧ bits (rq 8 3).toNat 16 16 = 23100 ∧ bits (rq 8 3).toNat 0 4 = 8 ∧ bits (rq 8 3).toNat 4 9 < 4)) ∧
  ((on.run = false ∧ bits (rq 9 271).toNat 16 16 = 23100 ∧ bits (rq 9 271).toNat 0 4 = 9 ∧ on.portIndexOk (bits (rq 9 271).toNat 4 9)
      = true) ∧
    (on.run = true ∨ bits (rq 8 4).toNat 16 16 ≠ 23100 ∨ 9 < bits (rq 8 4).toNat 0 4 ∨ bits (rq 8 4).toNat 0 4 = 3 ∧ 36 ≤ bits (rq 8
      4).toNat 4 9 ∨ bits (rq 8 4).toNat 0 4 ∈ [4, 5] ∧ 32 ≤ bits (rq 8 4).toNat 4 9 ∨ bits (rq 8 4).toNat 0 4 = 6 ∧ 272 ≤ bits (rq 8
      4).toNat 4 9 ∨ bits (rq 8 4).toNat 0 4 = 8 ∧ 4 ≤ bits (rq 8 4).toNat 4 9 ∨ bits (rq 8 4).toNat 0 4 = 9 ∧ on.portIndexOk (bits (rq
      8 4).toNat 4 9) = false)) :=
  ⟨by decide +kernel, by decide +kernel, by decide +kernel⟩

theorem witness_ResetCommandsResetWhatTheyName :
  ((Ready specReset (R 0 0) live ∧ (R 0 0).P0 0 4 = 0)) ∧
  ((Ready specReset (R 1 0) live ∧ (R 1 0).P0 0 4 = 1 ∧ live.on F.GROOM_STATUS_HANDOVER = false ∧ (live.groom true = gsInStep ∨
      live.groom false = gsRetired))) ∧
  ((Ready specReset (R 2 0) live ∧ (R 2 0).P0 0 4 = 2 ∧ live.on F.GROOM_STATUS_HANDOVER = false ∧ (live.groom false = gsInStep ∨
      live.groom true = gsRetired))) ∧
  ((Ready specReset (R 3 35) live ∧ (R 3 35).P0 0 4 = 3)) ∧
  ((Ready specReset (R 4 31) live ∧ (R 4 31).P0 0 4 = 4)) ∧
  ((Ready specReset (R 5 31) live ∧ (R 5 31).P0 0 4 = 5)) ∧
  ((Ready specReset (R 6 271) live ∧ (R 6 271).P0 0 4 = 6)) ∧
  ((Ready specReset (R 7 0) live ∧ (R 7 0).P0 0 4 = 7)) ∧
  ((Ready specReset (R 8 3) live ∧ (R 8 3).P0 0 4 = 8)) ∧
  ((Ready specReset (R 9 271) live ∧ (R 9 271).P0 0 4 = 9)) ∧
  ((Ready specReset (R 1 0) (State.set F.GROOM_STATUS_HANDOVER 1 live) ∧ (R 1 0).P0 0 4 = 1 ∧ ((State.set F.GROOM_STATUS_HANDOVER 1
      live).on F.GROOM_STATUS_HANDOVER = true ∨ (State.set F.GROOM_STATUS_HANDOVER 1 live).groom true ≠ gsInStep ∧ (State.set
      F.GROOM_STATUS_HANDOVER 1 live).groom false ≠ gsRetired))) :=
  ⟨by decide +kernel, by decide +kernel, by decide +kernel, by decide +kernel, by decide +kernel, by decide +kernel, by decide +kernel, by decide +kernel, by decide +kernel, by decide +kernel, by decide +kernel⟩

theorem witness_PinsCoresDebuggerAndClocksReset :
  (on.supply = Supply.on ∧
    on.debugBoot = false ∧
    ((State.set F.RST_STRAP_BOOT_SRC 3 on).supply = Supply.on ∧ (Domain.aon ∈ [Domain.aon, Domain.nvs] ∨ (State.set
      F.RST_STRAP_BOOT_SRC 3 on).on F.SYN_STATUS_SAFE_GEN_OK = true ∨ (State.set F.RST_STRAP_BOOT_SRC 3 on).heldDomain Domain.aon.bit =
      true ∨ (State.set F.RST_STRAP_BOOT_SRC 3 on).elemHeld.contains (Domain.aon, 3) = true)) ∧
    (live.groom (decide (3 ≤ 5)) ≠ gsOff ∧ live.groom (decide (3 ≤ 5)) ≠ gsRetired ∧ live.on F.SYS_STATUS_READY = true) ∧
    ((State.set F.SYS_STATUS_READY 0 live).groom (decide (3 ≤ 2)) ≠ gsOff ∧ (State.set F.SYS_STATUS_READY 0 live).groom (decide (3 ≤
      2)) ≠ gsRetired ∧ (State.set F.SYS_STATUS_READY 0 live).on F.SYS_STATUS_READY = false) ∧
    ((State.set F.RST_STRAP_BOOT_SRC 3 on).debugBoot = true ∧ bits (rq 0 0).toNat 0 4 = 0) ∧
    ((State.set F.RST_STRAP_BOOT_SRC 3 on).debugBoot = true ∧ bits (rq 1 0).toNat 0 4 = 1)) ∧
  (((State.set F.RST_STRAP_BOOT_SRC 3 on).debugBoot = true ∧ bits (rq 2 0).toNat 0 4 = 2) ∧
    off.supply ≠ Supply.on ∧
    (noSafe.supply = Supply.on ∧ noSafe.on F.SYN_STATUS_SAFE_GEN_OK = false ∧ noSafe.heldDomain Domain.timing.bit = false ∧
      noSafe.elemHeld.contains (Domain.timing, 0) = false) ∧
    (noSafe.supply = Supply.on ∧ noSafe.on F.SYN_STATUS_SAFE_GEN_OK = false ∧ noSafe.heldDomain Domain.groomA.bit = false ∧
      noSafe.elemHeld.contains (Domain.groomA, 0) = false) ∧
    (noSafe.supply = Supply.on ∧ noSafe.on F.SYN_STATUS_SAFE_GEN_OK = false ∧ noSafe.heldDomain Domain.groomB.bit = false ∧
      noSafe.elemHeld.contains (Domain.groomB, 0) = false)) ∧
  ((noSafe.supply = Supply.on ∧ noSafe.on F.SYN_STATUS_SAFE_GEN_OK = false ∧ noSafe.heldDomain Domain.core.bit = false ∧
      noSafe.elemHeld.contains (Domain.core, 0) = false) ∧
    (noSafe.supply = Supply.on ∧ noSafe.on F.SYN_STATUS_SAFE_GEN_OK = false ∧ noSafe.heldDomain Domain.syn.bit = false ∧
      noSafe.elemHeld.contains (Domain.syn, 3) = false) ∧
    (noSafe.supply = Supply.on ∧ noSafe.on F.SYN_STATUS_SAFE_GEN_OK = false ∧ noSafe.heldDomain Domain.lanes.bit = false ∧
      noSafe.elemHeld.contains (Domain.lanes, 271) = false) ∧
    (noSafe.supply = Supply.on ∧ noSafe.on F.SYN_STATUS_SAFE_GEN_OK = false ∧ noSafe.heldDomain Domain.engines.bit = false ∧
      noSafe.elemHeld.contains (Domain.engines, 31) = false)) ∧
  ((noSafe.supply = Supply.on ∧ noSafe.on F.SYN_STATUS_SAFE_GEN_OK = false ∧ noSafe.heldDomain Domain.ports.bit = false ∧
      noSafe.elemHeld.contains (Domain.ports, 3) = false ∧ noSafe.portIndexOk 3 = true)) :=
  ⟨by decide +kernel, by decide +kernel, by decide +kernel, by decide +kernel⟩

theorem witness_SystemResetClearsEveryRegister :
  (live.supply = Supply.on ∧ ¬0 ∈ [R.RST_DOMAIN, R.RST_BOOT] ++ aonWords) :=
  by decide +kernel

end Resets

/-! #### Boot and store -/

namespace Boots

def b0 : State := { (on.set F.RST_BOOT_STEP 1) with resetN := true }
def b1 : State := { (on.set F.RST_BOOT_STEP 2) with resetN := true, order := 1 }
def b6 : State := { ((on.set F.RST_BOOT_STEP 11).set F.RST_DOMAIN_HELD 0x1C0) with resetN := true, order := 6 }
def b4 : State := { (on.set F.RST_BOOT_STEP 4) with resetN := true, order := 4 }
def b4f : State := { (on.set F.RST_BOOT_STEP 4) with resetN := true, order := 4, fell := true }
def b14 : State := { (on.set F.RST_BOOT_STEP 14) with resetN := true, order := 9 }
def img : Submission := cmd 7 0 [1]
def jb (k : Nat) (a : Bool) : StoreJob := { kind := k, slot := 1, data := by8 [1,2,3], apply := a, ledgerSeq := some 4 }
def j1 : State := { live with job := some (jb 1 false) }
def j3 : State := { live with job := some (jb 3 false) }
def j3t : State := { live with job := some (jb 3 true) }
def cfgRec : List Byte := by8 [0x46,0x43,1,0] ++ leBytes 4 1 ++ leBytes 4 80 ++ List.replicate 52 0 ++ by8 [1,0,16,0] ++ leBytes 4 (R.MAC_CFG 0) ++ leBytes 4 0 ++ leBytes 4 0
def cr0 : CommitRec := { slot := 0, seq := 5, length := 3, crc := crc32 (by8 [1,2,3]), ledgerSeq := 4 }
def cr : CommitRec := { cr0 with check := crc32 (cr0.body 1) }
def st2 : State := { live with commits := [(2, cr)], nor := [(2, { data := by8 [1,2,3], good := true })] }

theorem witness_BootStepsAndReleasesInOrder :
  ((b0.supply = Supply.on ∧ b0.resetN = true ∧ b0.get F.RST_BOOT_STATE = 0 ∧ b0.order = 0 ∧ b0.get F.RST_BOOT_STEP = 1) ∧
    (b0.supply = Supply.on ∧ b0.resetN = true ∧ (b0.order ≠ 6 ∨ ∃ d, d ∈ [Domain.nvs, Domain.timing, Domain.syn, Domain.groomA,
      Domain.groomB, Domain.core] ∧ b0.heldDomain d.bit = true)) ∧
    (b1.supply = Supply.on ∧ b1.resetN = true ∧ b1.get F.RST_BOOT_STATE = 0 ∧ b1.order = 1 ∧ b1.get F.RST_BOOT_STEP = 2)) ∧
  ((b1.supply = Supply.on ∧ b1.resetN = true ∧ b1.order ≠ 0) ∧
    (b6.supply = Supply.on ∧ b6.resetN = true ∧ b6.get F.RST_BOOT_STATE = 0 ∧ b6.order = 6 ∧ b6.get F.RST_BOOT_STEP = 11 ∧ (∀ (d :
      Domain), d ∈ [Domain.nvs, Domain.timing, Domain.syn, Domain.groomA, Domain.groomB, Domain.core] → b6.heldDomain d.bit = false))) ∧
  ((b4.supply = Supply.on ∧ b4.resetN = true ∧ b4.get F.RST_BOOT_STATE = 0 ∧ b4.get F.RST_BOOT_STEP = 4 ∧ b4.fell = false ∧ 4 ≤
      b4.order) ∧
    (b4f.supply = Supply.on ∧ b4f.resetN = true ∧ b4f.get F.RST_BOOT_STATE = 0 ∧ b4f.get F.RST_BOOT_STEP = 4 ∧ b4f.fell = true) ∧
    (b14.supply = Supply.on ∧ b14.resetN = true ∧ b14.get F.RST_BOOT_STATE = 0 ∧ b14.get F.RST_BOOT_STEP = 14 ∧ b14.get
      F.RST_BOOT_FALLBACK = 0)) ∧
  (((State.set F.RST_BOOT_STATE 1 b14).supply = Supply.on ∧ (State.set F.RST_BOOT_STATE 1 b14).resetN = true ∧ ((State.set
      F.RST_BOOT_STATE 1 b14).get F.RST_BOOT_STATE = 1 ∨ (State.set F.RST_BOOT_STATE 1 b14).get F.RST_BOOT_STATE = 3))) :=
  ⟨by decide +kernel, by decide +kernel, by decide +kernel, by decide +kernel⟩

theorem witness_StoreWritesStartAndEnd :
  ((Ready specCfgWrite (cmd 7 1 cfgRec) live ∧ live.job = none) ∧
    (live.job = none ∨ live.job = some (jb 1 false) ∧ (jb 1 false).ledgerSeq = none)) ∧
  ((Ready specCfgWrite (cmd 7 1 cfgRec) j1 ∧ j1.job ≠ none) ∧
    (j1.job = some (jb 1 false) ∧ (jb 1 false).ledgerSeq = some 4 ∧ (jb 1 false).kind = knImage ∧ (jb 1 false).apply = false)) ∧
  (Ready specImageClear (bare 7 1 0) live) ∧
  ((Ready specImageWrite img live ∧ live.job = none ∧ live.on F.GROOM_STATUS_HANDOVER = false)) ∧
  ((Ready specImageWrite img j1 ∧ (j1.job ≠ none ∨ j1.on F.GROOM_STATUS_HANDOVER = true)) ∧
    (j3.job = some (jb 3 false) ∧ (jb 3 false).ledgerSeq = some 4 ∧ (jb 3 false).kind ≠ knImage ∧ (jb 3 false).apply = false)) ∧
  ((j3t.job = some (jb 3 true) ∧ (jb 3 true).ledgerSeq = some 4 ∧ (jb 3 true).kind ≠ knImage ∧ (jb 3 true).apply = true)) :=
  ⟨by decide +kernel, by decide +kernel, by decide +kernel, by decide +kernel, by decide +kernel, by decide +kernel⟩

theorem witness_TwoSlotStoreKeepsTheSlotInForce :
  (st2.ledgerOff = false ∧ st2.newest 1 = some (0, cr) ∧ cr.slot < 2 ∧ (jb 1 false).kind = 1 ∧ (jb 1 false).slot = 1 - cr.slot ∧
    dataOurs 1 (jb 1 false).data = true) :=
  by decide +kernel

end Boots

/-! #### Host link and slots -/

namespace HostUp

def lk : State := { on with perstN := true }
def lk4 : State := lk.set F.RST_STRAP_WIDTH4 1
def nrun : State := live.set F.SYS_CTRL_RUN 0
def rel : State := live.set F.SYS_STATUS_RELINK 1
def relBad : State := rel.set (F.HIF_RING_CFG_LOG2_SIZE 7) 3
def dl : State := (on.set F.RST_BOOT_STATE 2).set F.HIF_DL_LEN_LENGTH 4096
def dl7 : State := (on.set F.RST_BOOT_STATE 2).set F.HIF_DL_LEN_LENGTH 4095
def dl1 : State := on.set F.HIF_DL_STATUS_STATE 1

theorem witness_HostLinkAndRun :
  ((lk.perstN = true ∧ lk.supply = Supply.on ∧ lk.heldDomain 5 = false ∧ lk.on F.RST_STRAP_WIDTH4 = false ∧ 8 ∈ [1, 2, 4, 8]) ∧
    (lk.run = false ∧ lk.runRefusal ≠ 0) ∧
    lk.relink = false ∧
    lk.get F.HIF_DL_STATUS_STATE ≠ 1 ∧
    lk4.on F.RST_STRAP_WIDTH4 = true ∧
    (live.run = true ∧ live.relink = false) ∧
    rel.run = true) ∧
  ((nrun.run = false ∧ nrun.on F.SYS_STATUS_READY = true ∧ (∃ q, q < 128 ∧ nrun.cls q = clsMgmt) ∧ (∃ q, q < 128 ∧ nrun.cls q =
      clsEvent) ∧ nrun.ringsInvalid = false) ∧
    (rel.relink = true ∧ rel.ringsInvalid = false ∧ rel.relinkLog = []) ∧
    (relBad.relink = true ∧ relBad.ringsInvalid = true)) ∧
  ((BitVec.getLsbD 1#32 0 = true ∧ dl.get F.RST_BOOT_STATE = 2 ∧ dl.debugBoot = false ∧ dl.get F.HIF_DL_STATUS_STATE ≠ 1 ∧ dl.get
      F.HIF_DL_LEN_LENGTH = 4096) ∧
    (BitVec.getLsbD 1#32 0 = true ∧ dl7.get F.RST_BOOT_STATE = 2 ∧ dl7.debugBoot = false ∧ dl7.get F.HIF_DL_STATUS_STATE ≠ 1 ∧ dl7.get
      F.HIF_DL_LEN_LENGTH % 4096 ≠ 0) ∧
    dl1.get F.HIF_DL_STATUS_STATE = 1) :=
  ⟨by decide +kernel, by decide +kernel, by decide +kernel⟩

end HostUp

/-! #### Registers, doorbells and boundaries -/

namespace Access

def row (a : Nat) : RegRow := (rowOf a).getD { base := 0 }
def A1 : Nat := R.EGR_CLASS_LEVEL 271
def A2 : Nat := R.HIF_ERR
def A3 : Nat := R.SYS_STATUS
def errs : State := live.set ⟨R.HIF_ERR, 0, 8⟩ 0xFF
def lat : State := { on with latches := [(R.DPLL_FREQ_LO + 4, 7), (R.TIME_NS, 9)], perfHold := [(R.GROOM_PC_LO 5 7, 3)], nt := 12345678901234567 }
def latR : State := { live with perfHold := [(R.GROOM_PC_LO 5 7, 3)] }
def rg : State := ((live.modRing 7 (fun q => { q with cqTail := 5, cqHead := 2 })).modRing 6 (fun q => { q with draining := true }))
def rgN : State := { rg with wroteNow := [(7, 5)] }
def rgD : State := { rg with dbNow := [(7, 0, 5), (7, 4, 3), (7, 8, 0x10009), (6, 8, 0)] }
def nop : Submission := bare 7 0 0
def nopAt (t : Nat) (i : Nat) : Submission := { nop with flags := 1, time := BitVec.ofNat 64 t, index := i }
def farD : Submission := nopAt (sec + 2 ^ 62 + 1) 0
def lateS : State := { live with nt := 100 * grid }
def lateD : Submission := nopAt (98 * grid) 0
def secB (t : Nat) : Nat := (t + sec - 1) / sec * sec
def lateA : Submission := { bare 7 0x1FF 0 with flags := 1, time := BitVec.ofNat 64 sec }
def lateAS : State := { live with nt := sec + 100 * grid }
def two : State := { live with accepted := [{ op := 0x63, sub := nop, boundary := 0 }, { op := 0x63, sub := bare 4 0 0, boundary := 0 }] }

theorem witness_RegisterWritesFollowTheirAccessCodes :
  ((A1 % 4 = 0 ∧ rowOf A1 = some (row A1) ∧ 7340032 ≤ A1 ∧ A1 < 7864320) ∧
    (A2 % 4 = 0 ∧ rowOf A2 = some (row A2) ∧ (row A2).w1c ≠ 0#32 ∧ ¬A2 ∈ [R.SYS_CTRL, R.RST_SWREQ, R.RST_DBG_REQ, R.RST_FORCE,
      R.HIF_DL_CTRL, R.OBS_PEEK_SEL] ∧ isRingReg A2 = false) ∧
    (2 ≠ 4 ∨ (if false = true then (doorbellOf 4).isNone else !occupied 4) = true) ∧
    (A3 % 4 = 0 ∧ rowOf A3 = some (row A3) ∧ errs.run = true ∧ (row A3).rw = 0#32 ∧ (row A3).w1c = 0#32 ∧ isRingReg A3 = false ∧ ¬A3 ∈
      [R.SYS_CTRL, R.RST_SWREQ, R.RST_DBG_REQ, R.RST_FORCE, R.HIF_DL_CTRL, R.OBS_PEEK_SEL])) ∧
  (occupied 140 = false) :=
  ⟨by decide +kernel, by decide +kernel⟩

theorem witness_LatchingReadsAndHeldWrites :
  (R.DPLL_FREQ_LO ∈ latchLos ∧ Tbl.find (R.DPLL_FREQ_LO + 4) lat.latches = some 7) ∧
  (lat.run = false ∧ BitVec.getLsbD 16777219#32 0 = true) ∧
  Tbl.find R.TIME_NS lat.latches = some 9 ∧
  (lat.run = false ∧ isPerfLo (R.GROOM_PC_LO 5 7) = true ∧ Tbl.find (R.GROOM_PC_LO 5 7) lat.perfHold = some 3) ∧
  (lat.run = false ∧ BitVec.getLsbD 16777218#32 0 = false) ∧
  (lat.run = false ∧ isOutputCfg (R.CLKOUT_CFG 7) = true) ∧
  latR.run = true :=
  by decide +kernel

theorem witness_DoorbellsMoveTheRings :
  rg.dbNow = [] ∧
  (5 % 65536 < rg.ringSize 7 ∧ (5 % 65536 + rg.ringSize 7 - (rg.ring 7).cqHead) % rg.ringSize 7 ≤ rg.cqUsed 7 ∧ (rg.ring 7).draining =
    false) ∧
  ((rg.ring 7).cqTail ≤ 5 % 65536 ∧ ¬(7, 5 % 65536) ∈ rg.wroteNow) ∧
  doorbellOf 28688 = some (7, 16) ∧
  (5 % 65536 < (rgN.ring 7).cqTail ∨ (7, 5 % 65536) ∈ rgN.wroteNow) ∧
  rg.ringSize 7 ≤ 16 % 65536 ∧
  doorbellOf 28672 = some (7, 0) ∧
  rgD.dbNow = [(7, 0, 5), (7, 4, 3), (7, 8, 65545), (6, 8, 0)] :=
  by decide +kernel

theorem witness_TooFarAheadIsRefusedAndChangesNothing :
  (live.fetches specNop.cls farD = true ∧ (specNop.block = true → farD.block.isSome = true) ∧ specNop.reservedSet farD = false ∧
    specNop.takesAt = true ∧ (specNop.first farD (State.fetched farD live)).isSome = true ∧ specNop.check farD (State.fetched farD
    live) = rOk ∧ farD.at? = true ∧ ctDiff farD.time.toNat (ct (specNop.acceptAt true farD (State.fetched farD live))) > 2 ^ 62 ∧
    specNop.actBad farD (specNop.acceptAt true farD (State.fetched farD live)) (State.fetched farD live) = 0) :=
  by decide +kernel

theorem witness_PastTimesActAtTheNextBoundaryLate :
  ((lateS.fetches specNop.cls lateD = true ∧ specNop.refusal lateD (specNop.acceptAt true lateD (State.fetched lateD lateS))
    (State.fetched lateD lateS) = rOk ∧ lateD.at? = true ∧ ctDiff lateD.time.toNat (ct (specNop.acceptAt true lateD (State.fetched
    lateD lateS))) < 0 ∧ Turn ceilGrid lateD lateS) ∧
  (lateS.fetches specNop.cls lateD = true ∧ specNop.refusal lateD (specNop.acceptAt true lateD (State.fetched lateD lateS))
    (State.fetched lateD lateS) = rOk ∧ lateD.at? = true ∧ ctDiff lateD.time.toNat (ct (specNop.acceptAt true lateD (State.fetched
    lateD lateS))) < 0 ∧ lateD.ring < 128 ∧ lateS.relink = false ∧ lateS.groomUp = true) ∧
  (lateAS.fetches specAlign.cls lateA = true ∧ specAlign.refusal lateA (specAlign.acceptAt true lateA (State.fetched lateA lateAS))
    (State.fetched lateA lateAS) = rOk ∧ lateA.at? = true ∧ ctDiff lateA.time.toNat (ct (specAlign.acceptAt true lateA (State.fetched
    lateA lateAS))) < 0 ∧ lateAS.nt < secB (specAlign.acceptAt true lateA (State.fetched lateA lateAS) + 1) ∧ ¬88 ∈ [17, 74])) ∧
  (specNop.first lateD (State.fetched lateD lateS) = some ceilGrid) ∧
  (specAlign.first lateA (State.fetched lateA lateAS) = some secB) :=
  ⟨by decide +kernel, rfl, rfl⟩

theorem witness_CommandsOfABoundaryActInOrder :
  two.dueCmd = some { op := 99, sub := bare 4 0 0, boundary := 0 } :=
  by decide +kernel

theorem witness_UnfetchedSubmissionsChangeNothing :
  (nop.ring < 128 ∧ (on.relink = true ∨ on.groomUp = false ∨ (on.ring nop.ring).stopping = true ∨ nop.index ≠ (on.ring nop.ring).sqHead
    ∨ (on.ring nop.ring).sqHead = (on.ring nop.ring).sqTail ∨ on.cls nop.ring ∈ [0, clsTs, clsEvent])) :=
  by decide +kernel

end Access

/-! #### Acceptance and completions -/

namespace Accepts

def nop : Submission := bare 7 0 0
def nopAt (t : Nat) : Submission := { nop with flags := 1, time := BitVec.ofNat 64 t }
def due : State := { live with accepted := [{ op := 0x63, sub := nop, boundary := 0 }] }
def dueC : Cmd := { op := 0x63, sub := nop, boundary := 0 }
def can : Submission := { (bare 7 0 0) with index := 1, p0 := 0 }
def canS : State := { (live.modRing 7 (fun q => { q with sqHead := 1, sqTail := 2 })) with accepted := [{ op := 0x63, sub := nopAt (2 * sec), boundary := 2 * sec }] }
def canX : Cmd := { op := 0x63, sub := nopAt (2 * sec), boundary := 2 * sec }
def canB : State := { canS with nt := 2 * sec }
def rc : Submission := cmd 7 20 (form 0 [0x10000, 0, 0x20000, 0, 0x47, 0])
def rcBad : Submission := cmd 7 7 (form 0 [0x10000, 0, 0x20000, 0, 0x47, 0])
def rdis : Submission := cmd 7 20 (form 1 [])
def desc (f : Nat) (p0 : Nat) : List Byte := by8 [0x63, f, 9, 0] ++ leBytes 4 p0 ++ List.replicate 24 0
def e70 : SqEntry := { ring := 7, index := 0 }
def fNone : Fetched := { desc := none, block := none, at0 := 0 }
def fOk : Fetched := { desc := some (desc 0 0), block := none, at0 := 0 }
def fBad : Fetched := { desc := some (desc 0 1), block := none, at0 := 0 }
def rdl : Submission := cmd 7 7 (form 1 [])
def rd1 : Submission := cmd 7 1 (form 1 [])
def rel : State := live.set F.SYS_STATUS_RELINK 1
def noG : State := (live.set F.GROOM_STATUS_STATE_A 0).set F.GROOM_STATUS_STATE_B 0
def armd : State := (live.wr (R.MSIX_TABLE 0 3) 0).modRing 7 (fun q => { q with cqTail := 15, cqHead := 4, armed := some 15 })

theorem witness_AcceptanceAndTheRingsOwnCommands :
  ((fNone.desc = none ∧ due.fetches (due.cls e70.ring) { ring := e70.ring, index := e70.index } = true) ∧
    (live.groomUp = false ∨ live.dueCmd = none) ∧
    Ready specNop nop live) ∧
  ((Ready specAttnAck nop live ∧ live.attnNow = 0)) ∧
  ((Ready specCancel nop live ∧ List.find? (fun y => y.sub.ring == nop.ring && y.sub.index == nop.P0 0 16 && y.era == live.era)
      live.accepted = none) ∧
    (fOk.desc = some (desc 0 0) ∧ Submission.ofDesc 7 0 (desc 0 0) none 0 = Submission.ofDesc e70.ring e70.index (desc 0 0) fOk.block
      fOk.at0 ∧ byteAt (desc 0 0) 0 = 99 ∧ (Submission.ofDesc 7 0 (desc 0 0) none 0).ring < 128 ∧ live.cls (Submission.ofDesc 7 0 (desc
      0 0) none 0).ring = clsMgmt ∧ live.fetches clsMgmt (Submission.ofDesc 7 0 (desc 0 0) none 0) = true ∧ specNop.refusal
      (Submission.ofDesc 7 0 (desc 0 0) none 0) (live.acceptAt false (Submission.ofDesc 7 0 (desc 0 0) none 0)) (State.fetched
      (Submission.ofDesc 7 0 (desc 0 0) none 0) live) = rOk ∧ boundaryOf ceilGrid (live.acceptAt false (Submission.ofDesc 7 0 (desc 0
      0) none 0)) (Submission.ofDesc 7 0 (desc 0 0) none 0) = (sec + grid, false))) ∧
  ((fBad.desc = some (desc 0 1) ∧ Submission.ofDesc 7 0 (desc 0 1) none 0 = Submission.ofDesc e70.ring e70.index (desc 0 1) fBad.block
      fBad.at0 ∧ byteAt (desc 0 1) 0 = 99 ∧ (Submission.ofDesc 7 0 (desc 0 1) none 0).ring < 128 ∧ live.cls (Submission.ofDesc 7 0
      (desc 0 1) none 0).ring = clsMgmt ∧ live.fetches clsMgmt (Submission.ofDesc 7 0 (desc 0 1) none 0) = true ∧ specNop.refusal
      (Submission.ofDesc 7 0 (desc 0 1) none 0) (live.acceptAt false (Submission.ofDesc 7 0 (desc 0 1) none 0)) (State.fetched
      (Submission.ofDesc 7 0 (desc 0 1) none 0) live) ≠ rOk) ∧
    (due.groomUp = true ∧ due.dueCmd = some dueC ∧ dueC.op = 99)) ∧
  ((Ready specCancel can canS ∧ canS.accepted = [canX] ∧ canX.sub.ring = can.ring ∧ canX.sub.index = can.P0 0 16 ∧ canX.era = canS.era
      ∧ canX.begun = false ∧ canS.nt < canX.boundary ∧ canX.op ≠ 17 ∧ canX.op ≠ 74)) ∧
  ((Ready specCancel can canB ∧ List.find? (fun y => y.sub.ring == can.ring && y.sub.index == can.P0 0 16 && y.era == canB.era)
      canB.accepted = some canX ∧ (canX.begun = true ∨ canX.boundary ≤ canB.nt))) ∧
  ((Ready specRingConfigure rc live ∧ (blockCfg rc).invalid (List.map live.ringCfg (List.filter (fun q => q != rc.P0 0 7)
      live.enabledRings)) = false ∧ live.cls (rc.P0 0 7) = 0)) ∧
  ((Ready specRingConfigure rcBad live ∧ (blockCfg rcBad).invalid (List.map live.ringCfg (List.filter (fun q => q != rcBad.P0 0 7)
      live.enabledRings)) = false ∧ live.cls (rcBad.P0 0 7) ≠ 0)) ∧
  ((Ready specRingDisable rdis live ∧ (∀ (y : Nat × RingSt), y ∈ live.rings → y.snd.stopping = false) ∧ live.cls (rdis.P0 0 7) = 0)) ∧
  ((Ready specRingDisable rdl live ∧ (∀ (y : Nat × RingSt), y ∈ live.rings → y.snd.stopping = false) ∧ live.lastOf (rdl.P0 0 7) =
      true)) ∧
  ((Ready specRingDisable rd1 live ∧ (∀ (y : Nat × RingSt), y ∈ live.rings → y.snd.stopping = false) ∧ rd1.ring < 128 ∧ rd1.P0 0 7 = 1
      ∧ live.cls 1 ≠ 0 ∧ live.lastOf 1 = false ∧ (∀ (y : Cmd), y ∈ live.accepted → y.sub.ring ≠ 1 ∧ isDisable 1 y = false) ∧ (live.ring
      1).posted = [] ∧ (live.ring 1).rxQueue = [])) :=
  ⟨by decide +kernel, by decide +kernel, by decide +kernel, by decide +kernel, by decide +kernel, by decide +kernel, by decide +kernel, by decide +kernel, by decide +kernel, by decide +kernel, by decide +kernel⟩

theorem witness_CompletionsAreWrittenHeldOrLost :
  (up.relink = false ∧ up.groomUp = true) ∧
  1 ≠ up.era ∧
  (live.run = true ∧ live.eventRings = [8] ∧ live.relink = false ∧ live.cqRoom 8 ≠ 0 ∧ (live.ring 8).pending = [] ∧ attnOf 5120 = 0) ∧
  (armd.relink = false ∧ armd.groomUp = true ∧ (armd.ring 7).armed = some (armd.ring 7).cqTail ∧ BitVec.getLsbD (armd.rd (R.MSIX_TABLE
    (armd.get (F.HIF_RING_CFG_MSIX_VEC 7)) 3)) 0 = false) ∧
  rel.relink = true ∧
  (noG.relink = false ∧ noG.groomUp = false) ∧
  up.run = false :=
  by decide +kernel

end Accepts

/-! #### Host rings and rules -/

namespace HostRings

def txd : Submission := { cmd 1 (2 + 60 * 65536) (by8 (List.range 60)) with p2 := 0 }
def txB : Submission := { cmd 1 (273 + 60 * 65536) (by8 (List.range 60)) with p2 := 0 }
def rxd : Submission := bare 2 256 0x40000
def lgd : Submission := bare 9 4096 0x40000
def fr0 : Frame := { port := 3, tin := 100, stage := .ring, data := by8 (List.range 60), len := 64, tail := by8 [1,2,3,4], whole := true, dest := .ring 2 }
def pb : RxBuf := { index := 5, tag := 6, len := 256, addr := 0x1000 }
def rxS : State := { (live.modRing 2 (fun q => { q with rxQueue := [7], posted := [pb] })) with frames := [(7, fr0)] }
def rxF : List (RxBuf × List Byte) := ((rxS.rxRoom 2).getD (0, fr0, [])).2.2
def rxN : State := { (live.modRing 2 (fun q => { q with rxQueue := [7] })) with frames := [(7, fr0)], timers := [(.rxWait 2, 1000000 * us)] }
def be : BobbinEntry := { tsId := 4095, time := 12345, oneStep := true, notSent := some 3 }
def bobS : State := { (live.set (F.HIF_RING_PARAM_LAST_PORT 3) 272) with bobbins := [(272, [be])] }
def lb : RxBuf := { index := 5, tag := 6, len := 64, addr := 0x1000 }
def logS : State := { (live.modRing 9 (fun q => { q with posted := [lb] })).set (F.HIF_RING_PARAM_CORE 9) 5 with logs := [(5, { held := [leBytes 32 1, leBytes 32 2, leBytes 32 3] })] }
def er : EventRec := { code := 0x1400, src := 3, detail := 4, time := 5, count := 2 }
def evS : State := live.modRing 8 (fun q => { q with pending := [er], cqTail := 3, cqHead := 5, episode := true })
def rw : Submission := { ring := 4, index := 0, p0 := 1, p2 := BitVec.ofNat 64 (64 * 2^32), block := some (List.replicate 64 0) }
def rw2 : Submission := { ring := 4, index := 0, p0 := 1, p2 := BitVec.ofNat 64 (128 * 2^32), block := some (List.replicate 128 0) }
def cl (g : Nat) : Submission := bare 4 g 0
def wj (e : List (Nat × List Byte)) : RuleJob := { cmd := { op := 0x10, sub := rw, boundary := 0, begun := false }, gen := 1, mem := 0, entries := e }
def uF : Frame := { port := 3, tin := 100, stage := .head, gen := 1 }
def heldS : State := { live with frames := [(7, uF)] }
def en : Nat × List Byte := (0, List.replicate 64 0x80)
def wrS : State := { live with writer := some (wj [en]), accepted := [{ (wj [en]).cmd with begun := true }] }
def wrS2 : State := { live with writer := some (wj [en, en]), accepted := [{ (wj [en]).cmd with begun := true }] }
def vS : State := { live with rules := [(ruleKey 1 memTree 0, List.replicate 64 0x80)] }
def blS : State := { (live.modRing 4 (fun q => { q with sqHead := 1, sqTail := 2 })) with accepted := [{ op := 0x10, sub := rw, boundary := 0, begun := true }] }
def sw1 : Submission := { cl 1 with index := 1 }
def sc : Cmd := { op := 0x11, sub := cl 1, boundary := 0, begun := true }
def dS : State := { vS with swapWait := [sc] }
def dB : State := { (live.modRing 4 (fun q => { q with sqHead := 2, sqTail := 2 })) with swapWait := [{ op := 0x11, sub := sw1, boundary := 0, begun := true }], accepted := [{ op := 0x10, sub := rw, boundary := 0, begun := true }] }
def sc1 : Cmd := { op := 0x11, sub := sw1, boundary := 0, begun := true }

theorem witness_HostRingsCarryFramesAndRecords :
  ((rxS.fetches clsFrameTx txd = true ∧ rxS.innerHold.contains 272 = false ∧ State.txRefusal txd (rxS.acceptAt false txd)
      (State.fetched txd rxS) = rOk) ∧
    (rxN.rxRoom 2 = none ∨ (rxN.ring 2).draining = true) ∧
    (rxS.bobbins.getD 272 [] = [] ∨ rxS.run = false ∨ rxS.relink = true ∨ rxS.groomUp = false) ∧
    (rxS.relink = true ∨ rxS.groomUp = false ∨ rxS.cls 2 ≠ clsEvent) ∧
    (live.fetches clsFrameTx txB = true ∧ live.innerHold.contains 272 = false ∧ State.txRefusal txB (live.acceptAt false txB)
      (State.fetched txB live) = rBadPort ∧ rBadPort ≠ rOk)) ∧
  ((live.fetches clsFrameRx rxd = true ∧ rxd.fence = false ∧ rxd.badFlags clsFrameRx = false ∧ rxd.at? = false ∧ rxd.p2 = 0 ∧
      rxd.p0.toNat = rxd.P0 0 16 ∧ 256 ≤ rxd.P0 0 16 ∧ rxd.P0 0 16 ≤ 16384 ∧ rxd.P0 0 16 % 64 = 0 ∧ rxd.p1.toNat % 64 = 0 ∧ (live.ring
      rxd.ring).draining = false)) ∧
  ((live.fetches clsLog lgd = true ∧ lgd.fence = false ∧ lgd.badFlags clsFrameRx = false ∧ lgd.at? = false ∧ lgd.p2 = 0 ∧ lgd.p0.toNat
      = lgd.P0 0 16 ∧ 4096 ≤ lgd.P0 0 16 ∧ lgd.P0 0 16 ≤ 65024 ∧ lgd.P0 0 16 % 32 = 0) ∧
    (rxS.rxRoom 2 = some (7, fr0, rxF) ∧ (rxS.ring 2).draining = false) ∧
    ((rxN.ring 2).rxQueue.head? = some 7 ∧ ((rxN.ring 2).draining = true ∨ rxN.rxRoom 2 = none ∧ rxN.ran (Timer.rxWait 2) (rxN.get
      (F.HIF_RING_CFG_RX_WAIT_US 2) * us) = true))) ∧
  ((bobS.bobbins.getD 272 [] = [be] ∧ bobS.cls 3 = clsTs ∧ bobS.get (F.HIF_RING_PARAM_FIRST_PORT 3) ≤ 272 ∧ 272 ≤ bobS.get
      (F.HIF_RING_PARAM_LAST_PORT 3) ∧ bobS.run = true ∧ bobS.relink = false ∧ bobS.groomUp = true ∧ bobS.cqRoom 3 ≠ 0) ∧
    (logS.cls 9 = clsLog ∧ logS.get (F.HIF_RING_PARAM_CORE 9) = 5 ∧ logS.run = true ∧ logS.relink = false ∧ logS.groomUp = true ∧
      logS.cqRoom 9 ≠ 0 ∧ (logS.ring 9).posted = [lb] ∧ 0 < lb.len / 32 ∧ lb.len / 32 ≤ (logS.log 5).held.length)) ∧
  ((evS.relink = false ∧ evS.groomUp = true ∧ evS.cls 8 = clsEvent ∧ ((evS.ring 8).pending = [er] ∧ evS.cqRoom 8 = 1))) :=
  ⟨by decide +kernel, by decide +kernel, by decide +kernel, by decide +kernel, by decide +kernel⟩

theorem witness_RuleWriterAndSwaps :
  ((Ready specRuleWrite rw live ∧ live.writer = none ∧ live.genHeld (rw.P0 0 1) = false ∧ ((ruleWriteEntries rw).getD []).length = 1)) ∧
  ((Ready specRuleClear sw1 blS ∧ sw1.P0 0 1 ≠ blS.get F.HED_GEN_STATUS_IN_FORCE ∧ blS.writer = none ∧ blS.genHeld (sw1.P0 0 1) =
      false)) ∧
  ((Ready specRuleSwap rw wrS ∧ rw.P0 0 1 = 1 ∧ (State.fetched rw wrS).swapBlocked (cmdOf 17 rw wrS) 1 = false ∧ headerValid wrS.rules
      1 = false) ∧
    vS.writer = none ∧
    vS.swapWait = []) ∧
  ((Ready specRuleWrite rw2 live ∧ live.writer = none ∧ live.genHeld (rw2.P0 0 1) = false ∧ 1 < ((ruleWriteEntries rw2).getD
      []).length)) ∧
  ((Ready specRuleWrite rw heldS ∧ heldS.writer = none ∧ heldS.genHeld (rw.P0 0 1) = true)) ∧
  ((Ready specRuleWrite rw wrS ∧ wrS.writer ≠ none)) ∧
  ((Ready specRuleClear rw wrS ∧ rw.P0 0 1 ≠ wrS.get F.HED_GEN_STATUS_IN_FORCE ∧ wrS.writer ≠ none) ∧
    (wrS.writer = some (wj [en]) ∧ (wj [en]).clear = false ∧ (wj [en]).entries = [en] ∧ (wj [en]).wrote ≠ some wrS.cycles) ∧
    (wrS2.writer = some (wj [en, en]) ∧ ((wj [en, en]).left ≠ 1 ∨ (wj [en, en]).wrote = some wrS2.cycles))) ∧
  ((Ready specRuleClear (cl 0) live ∧ (cl 0).P0 0 1 = live.get F.HED_GEN_STATUS_IN_FORCE)) ∧
  ((Ready specRuleSwap (cl 1) vS ∧ (cl 1).P0 0 1 = 1 ∧ (State.fetched (cl 1) vS).swapBlocked (cmdOf 17 (cl 1) vS) 1 = false ∧
      headerValid vS.rules 1 = true ∧ 1 ≠ vS.get F.HED_GEN_STATUS_IN_FORCE)) ∧
  ((Ready specRuleSwap sw1 blS ∧ (State.fetched sw1 blS).swapBlocked (cmdOf 17 sw1 blS) (sw1.P0 0 1) = true) ∧
    (dS.swapWait = [sc] ∧ dS.swapBlocked sc (sc.sub.P0 0 1) = false ∧ sc.sub.P0 0 1 = 1 ∧ headerValid dS.rules 1 = true ∧ 1 ≠ dS.get
      F.HED_GEN_STATUS_IN_FORCE) ∧
    (dB.swapWait = [sc1] ∧ dB.swapBlocked sc1 (sc1.sub.P0 0 1) = true)) :=
  ⟨by decide +kernel, by decide +kernel, by decide +kernel, by decide +kernel, by decide +kernel, by decide +kernel, by decide +kernel, by decide +kernel, by decide +kernel, by decide +kernel⟩

end HostRings

/-! #### Forwarding, heads and actions -/

namespace HeadsSeen

def M : Nat := 0x020000000001
def fa (port vid mac : Nat) : Submission := bare 5 (port + vid * 512) mac
def fe : FdbEntry := { vid := 5, mac := M, port := 3, static := false, idle := 2000000 }
def fk : Nat := fdbBucket 5 M * 8
def fS : State := { live with fdb := [(fk, fe)] }
def fS0 : State := fS.set F.HED_FDB_CFG_AGE_S 0
def macs : List Nat := [205034, 213298, 267693, 291957, 663291, 687907, 863164, 871012]
def full : State := { live with fdb := (List.range 8).map (fun i => (fk + i, { fe with mac := macs.getD i 0 })) }
def gw : List Byte := List.replicate 64 0
def gi : List Byte := by8 [0x47, 0x48, 7, 0, 1, 0, 0, 0] ++ leBytes 4 (crc32 gw) ++ List.replicate 52 0 ++ gw
def ld (h : Nat) : Submission := cmd 7 h (by8 [0,0,0,0,0,0,0,0] ++ gi)
def dis (h : Nat) : Submission := cmd 7 h (form 1 [])
def ena (h : Nat) : Submission := cmd 7 h (form 2 [])
def outS : State := live.setHed 31 hdOut
def busS : State := live.setHed 30 hdOut
def hj (k : Nat) : HedJob := { kind := k, image := gi, cmd := { op := 0x4C, sub := ld 31, boundary := 0, begun := true } }
def drn (k : Nat) : State := { live.setHed 31 hdDraining with hedJobs := [(31, hj k)], accepted := [(hj k).cmd] }
def drn0 : State := drn 0
def drn1 : State := drn 1
def lod : State := { live.setHed 31 hdLoading with hedJobs := [(31, hj 0)], accepted := [(hj 0).cmd] }
def enS : State := { live.setHed 31 hdOut with hedJobs := [(31, hj 2)], accepted := [(hj 0).cmd] }
def ip : List Byte := by8 [1,0x80,0xC2,0,0,5, 2,0,0,0,0,1, 8,0] ++ by8 (0x45 :: List.replicate 45 1)
def fh (st : Stage) : Frame := { port := 271, tin := 100, stage := st, data := ip, len := 64, tail := leBytes 4 (crc32 ip), whole := true, order := 4, vid := 5 }
def hstat : State := live.set ⟨R.HED_STATUS, 31, 1⟩ 1
def hdS : State := { hstat with frames := [(7, fh .head)] }
def hhS : State := { live with frames := [(7, fh (.heddle 31))] }
def fhD : Frame := { fh (.heddle 31) with direct := true, whole := false }
def hhD : State := { live with frames := [(7, fhD)] }
def hFull : State := { live with frames := (List.range 1024).map (fun i => (i, { fh .beam with hseq := some i })) ++ [(2000, { fh (.heddle 31) with hseq := some 2000 })] }
def fE : State := { fS with evals := [(evFdb, 1)] }
def ac : Action := { valid := true, drop := false, noLearn := false, recirc := false, mirror := false, noCut := false, dest := 1, destId := 7, tc := none, pcp := none, dei := none, vid := none, matchId := 0, session := 0, stream := none, woven := none, meta4 := 3, counter := none }
def fp4 : Frame := { fh (.heddle 31) with pass := 4 }
def hp4 : State := { live with frames := [(7, fp4)] }

theorem witness_ForwardingDatabaseCommands :
  ((fdbSound fS.fdb ∧ Ready specFdbAdd (fa 7 5 M) fS ∧ (fdbFind fS.fdb ((fa 7 5 M).P0 9 12) ((fa 7 5 M).P1 0 48) ≠ none ∨ (fdbFree
      fS.fdb ((fa 7 5 M).P0 9 12) ((fa 7 5 M).P1 0 48) fun x => false) ≠ none) ∧ (6, M) ≠ ((fa 7 5 M).P0 9 12, (fa 7 5 M).P1 0 48))) ∧
  ((fdbSound fS.fdb ∧ Ready specFdbFlush (fa 7 5 M) fS)) ∧
  ((fdbSound fS.fdb ∧ fS.evalDue evFdb sec = true ∧ fS.get F.HED_FDB_CFG_AGE_S ≠ 0)) ∧
  ((fdbSound fS.fdb ∧ Ready specFdbAdd (fa 0 5 M) fS ∧ (fdbFind fS.fdb ((fa 0 5 M).P0 9 12) ((fa 0 5 M).P1 0 48) ≠ none ∨ (fdbFree
      fS.fdb ((fa 0 5 M).P0 9 12) ((fa 0 5 M).P1 0 48) fun x => false) ≠ none))) ∧
  ((fdbSound fS.fdb ∧ Ready specFdbDel (fa 0 5 M) fS ∧ fdbFind fS.fdb ((fa 0 5 M).P0 9 12) ((fa 0 5 M).P1 0 48) = some (fk, fe) ∧ (6,
      M) ≠ ((fa 0 5 M).P0 9 12, (fa 0 5 M).P1 0 48))) ∧
  ((fdbSound fE.fdb ∧ Ready specFdbDel (fa 0 5 M) fE ∧ fdbFind fE.fdb ((fa 0 5 M).P0 9 12) ((fa 0 5 M).P1 0 48) = some (fk, fe))) ∧
  ((fdbSound fS0.fdb ∧ fS0.evalDue evFdb sec = true ∧ fS0.get F.HED_FDB_CFG_AGE_S = 0) ∧
    (fdbSound fE.fdb ∧ fE.evalDue evFdb sec = false)) ∧
  ((fdbSound full.fdb ∧ Ready specFdbAdd (fa 7 5 1129744) full ∧ fdbFind full.fdb ((fa 7 5 1129744).P0 9 12) ((fa 7 5 1129744).P1 0
      48) = none ∧ (fdbFree full.fdb ((fa 7 5 1129744).P0 9 12) ((fa 7 5 1129744).P1 0 48) fun x => false) = none)) ∧
  ((fdbSound fS.fdb ∧ Ready specFdbDel (fa 0 5 0) fS ∧ fdbFind fS.fdb ((fa 0 5 0).P0 9 12) ((fa 0 5 0).P1 0 48) = none)) ∧
  ((fdbSound fS.fdb ∧ Ready specFdbFlush (fa 0 5 0) fS)) :=
  ⟨by unfold fdbSound; decide +kernel, by unfold fdbSound; decide +kernel, by unfold fdbSound; decide +kernel, by unfold fdbSound; decide +kernel, by unfold fdbSound; decide +kernel, by unfold fdbSound; decide +kernel, by unfold fdbSound; decide +kernel, by unfold fdbSound; decide +kernel, by unfold fdbSound; decide +kernel, by unfold fdbSound; decide +kernel⟩

theorem witness_HeddleGraphsInService :
  (((ld 31).P0 0 5 = 31 ∧ live.hedJobs.has 31 = false ∧ Ready (specHeddle 0) (ld 31) live ∧ live.bankBusy 31 = false ∧ live.hed 31 =
      hdIn) ∧
    ((∃ x, x ∈ lod.frames ∧ x.snd.stage = Stage.heddle 31) ∨ lod.hed 31 ≠ hdDraining)) ∧
  (Tbl.find 31 live.hedJobs = none ∧
    ((ld 31).P0 0 5 = 31 ∧ outS.hedJobs.has 31 = false ∧ Ready (specHeddle 0) (ld 31) outS ∧ outS.bankBusy 31 = false ∧ (outS.hed 31 =
      hdOut ∨ outS.hed 31 = hdFault))) ∧
  (((ld 31).P0 0 5 = 31 ∧ busS.hedJobs.has 31 = false ∧ Ready (specHeddle 0) (ld 31) busS ∧ busS.bankBusy 31 = true)) ∧
  (((dis 31).P0 0 5 = 31 ∧ live.hedJobs.has 31 = false ∧ Ready (specHeddle 1) (dis 31) live ∧ live.bankBusy 31 = false ∧ live.hed 31 =
      hdIn)) ∧
  (((dis 31).P0 0 5 = 31 ∧ busS.hedJobs.has 31 = false ∧ Ready (specHeddle 1) (dis 31) busS ∧ busS.bankBusy 31 = true)) ∧
  (((ena 31).P0 0 5 = 31 ∧ live.hedJobs.has 31 = false ∧ Ready (specHeddle 2) (ena 31) live ∧ live.hed 31 = hdIn)) ∧
  (((ena 31).P0 0 5 = 31 ∧ outS.hedJobs.has 31 = false ∧ Ready (specHeddle 2) (ena 31) outS ∧ (outS.hed 31 = hdOut ∨ outS.hed 31 =
      hdFault))) ∧
  ((drn0.hed 31 = hdDraining ∧ (∀ (x : Nat × Frame), x ∈ drn0.frames → x.snd.stage ≠ Stage.heddle 31) ∧ Tbl.find 31 drn0.hedJobs =
      some (hj 0) ∧ (hj 0).kind = 0) ∧
    (drn1.hed 31 = hdDraining ∧ (∀ (x : Nat × Frame), x ∈ drn1.frames → x.snd.stage ≠ Stage.heddle 31) ∧ Tbl.find 31 drn1.hedJobs =
      some (hj 1) ∧ (hj 1).kind = 1)) ∧
  ((Tbl.find 31 lod.hedJobs = some (hj 0) ∧ (hj 0).kind = 0 ∧ lod.hed 31 = hdLoading) ∧
    (Tbl.find 31 enS.hedJobs = some (hj 2) ∧ (hj 2).kind = 2)) :=
  ⟨by decide +kernel, by decide +kernel, by decide +kernel, by decide +kernel, by decide +kernel, by decide +kernel, by decide +kernel, by decide +kernel, by decide +kernel⟩

theorem witness_HeadsAreDispatchedAndDecided :
  ((hdS.frame 7 = some (fh Stage.head) ∧ (fh Stage.head).stage = Stage.head ∧ hdS.headBefore (fh Stage.head) = false ∧ hdS.pickHeddle
      (fh Stage.head).inNode 2130706432 = some 31 ∧ (fh Stage.head).hseq = none) ∧
    (hhD.pickHeddle (fh Stage.head).inNode 2130706432 = none ∨ hhD.frame 7 = some fhD ∧ (hhD.headBefore fhD = true ∨ fhD.inNode ≠ (fh
      Stage.head).inNode) ∨ hhD.frame 7 = none) ∧
    (hhS.frame 7 = some (fh (Stage.heddle 31)) ∧ (fh (Stage.heddle 31)).stage = Stage.heddle 31 ∧ hhS.beamFull (fh (Stage.heddle 31)) =
      false ∧ (fh (Stage.heddle 31)).direct = false) ∧
    ((State.raise Blk.hed 2 31 (State.set F.HED_ECC_ADDR_UNIT 9 (State.set F.HED_ECC_ADDR_GEN (if 2 ≤ 2 then 1 else 0) (State.set
      F.HED_ECC_ADDR_MEMORY 2 hhS)))).frame 7 = some (fh (Stage.heddle 31)) ∧ (fh (Stage.heddle 31)).stage = Stage.heddle 31 ∧ (fh
      (Stage.heddle 31)).whole = true)) ∧
  ((hFull.frame 2000 = some ({ fh (Stage.heddle 31) with hseq := some 2000 }) ∧
      ({ fh (Stage.heddle 31) with hseq := some 2000 }).stage = Stage.heddle 31 ∧ hFull.beamFull
      ({ fh (Stage.heddle 31) with hseq := some 2000 }) = true) ∧
    (hhD.frame 7 = some fhD ∧ fhD.stage = Stage.heddle 31 ∧ hhD.beamFull fhD = false ∧ fhD.direct = true ∧ fhD.whole = false) ∧
    (State.raise Blk.hed 2 31 (State.set F.HED_ECC_ADDR_UNIT 9 (State.set F.HED_ECC_ADDR_GEN (if 3 ≤ 2 then 1 else 0) (State.set
      F.HED_ECC_ADDR_MEMORY 3 live)))).frame 7 = none) :=
  ⟨by decide +kernel, by decide +kernel⟩

theorem witness_ActionsMarkTheFrameTheyDecide :
  ((hhS.frame 7 = some (fh (Stage.heddle 31)) ∧ ac.valid = true ∧ ac.drop = false ∧ ac.recirc = false ∧ ac.dest = 1) ∧
    (hhS.frame 7 = some (fh (Stage.heddle 31)) ∧ ({ ac with valid := false }).valid = false) ∧
    (hhS.frame 7 = some (fh (Stage.heddle 31)) ∧ ({ ac with drop := true }).valid = true ∧ ({ ac with drop := true }).drop = true) ∧
    (hhS.frame 7 = some (fh (Stage.heddle 31)) ∧ ({ ac with recirc := true }).valid = true ∧ ({ ac with recirc := true }).drop = false
      ∧ ({ ac with recirc := true }).recirc = true ∧ (fh (Stage.heddle 31)).pass < 4)) ∧
  ((hp4.frame 7 = some fp4 ∧ ({ ac with recirc := true }).valid = true ∧ ({ ac with recirc := true }).drop = false ∧
      ({ ac with recirc := true }).recirc = true ∧ 4 ≤ fp4.pass) ∧
    (hhS.frame 7 = some (fh (Stage.heddle 31)) ∧ ({ ac with dest := 2 }).valid = true ∧ ({ ac with dest := 2 }).drop = false ∧
      ({ ac with dest := 2 }).recirc = false ∧ ({ ac with dest := 2 }).dest = 2) ∧
    (hhS.frame 7 = some (fh (Stage.heddle 31)) ∧ ({ ac with dest := 3 }).valid = true ∧ ({ ac with dest := 3 }).drop = false ∧
      ({ ac with dest := 3 }).recirc = false ∧ ({ ac with dest := 3 }).dest = 3)) ∧
  ((hhS.frame 7 = some (fh (Stage.heddle 31)) ∧ ({ ac with dest := 0 }).valid = true ∧ ({ ac with dest := 0 }).drop = false ∧
      ({ ac with dest := 0 }).recirc = false ∧ ({ ac with dest := 0 }).dest = 0 ∧ fdbFind hhS.fdb (fh (Stage.heddle 31)).vid (beAt (fh
      (Stage.heddle 31)).data 0 6) = none ∧ headerValid hhS.rules (fh (Stage.heddle 31)).gen = false)) :=
  ⟨by decide +kernel, by decide +kernel, by decide +kernel⟩

end HeadsSeen

/-! #### Reception and port settings -/

namespace Receives

def pUp (p : Nat) (s : State) : State := s.set (F.LANE_STATUS_STATE p) lnUp
def mine : State := pUp 271 live
def rxing : Frame := { port := 271, tin := 100, stage := .receiving, arrived := 10, maxFrame := 1522, inLedger := true, stored := true }
def rxS : State := { mine with frames := [(7, rxing)] }
def noSt : Frame := { rxing with stored := false }
def rxS2 : State := { mine with frames := [(7, noSt)] }
def b60 : List Byte := by8 [0x02,0,0,0,0,1, 2,0,0,0,0,2, 0x12,0x34] ++ List.replicate 46 7
def goodF (l : List Byte) : List Byte := l ++ leBytes 4 (crc32 l)
def g60 : List Byte := goodF b60
def bad60 : List Byte := b60 ++ [1,2,3,4]
def ctl60 : List Byte := goodF (by8 [0x01,0x80,0xC2,0,0,1, 2,0,0,0,0,2, 0x88,0x08, 0,1, 0x12,0x34] ++ List.replicate 42 0)
def long : List Byte := List.replicate 1523 1
def lstd : State := (rxS.set (F.MAC_CFG_LISTED_ONLY 271) 1)
def ingf : State := ((rxS.set (F.MAC_CFG_INGRESS_FILTER 271) 1).wr (R.MAC_VLAN_MEMBER 271 0) 0)
def fc (m : Nat) : State := (mine.set (F.MAC_CFG_FC_MODE 271) m)
def fc0 : State := fc 0
def fc1 : State := fc 1
def held : State := { (fc 1).holdClass 271 8 1 with timers := [(.pauseHold 271 8, 1000 * us)] }
def xoff : State := { (fc 2).set (F.MAC_STATUS_XOFF_SENT 271) 0x0F with timers := [(.pauseRepeat 271, 1000 * sec)] }
def lsub : Submission := { (cmd 1 (271 + 60 * 65536) b60) with p2 := 0, flags := 1, time := 100 }
def lx : Cmd := { op := 1, sub := lsub, boundary := 0, begun := true }
def lf : Frame := { port := 272, tin := 0, stage := .unread, direct := true, dest := .port 271, cmd := some (0, 1, 0), launch := some (100 * ms), isLaunch := true }
def lS : State := { mine with frames := [(7, lf)], accepted := [lx] }
def w0 : MacWas := { till := 2 * sec, filters := [(1, 2, 3)], maxFrame := 9216 }
def kept : State := { mine with macWas := [(271, w0)] }
def lf2 : Frame := { lf with launch := some (2 * sec) }
def lS3 : State := { mine with frames := [(7, lf2)], accepted := [lx] }
def lx0 : Cmd := { lx with sub := { lsub with block := none } }
def lS4 : State := { mine with frames := [(7, lf)], accepted := [lx0] }
def lp1 : State := { rxS.set (F.LANE_CFG_LOOPBACK 271) 1 with sent := [(271, g60)] }
def lp2 : State := mine.set (F.LANE_CFG_LOOPBACK 271) 2
def pc (p : Nat) : Submission := cmd 7 p (form 0 ((portRegs 271).map (fun a => (resetWord a).toNat)))
def pcF (p : Nat) : Submission := cmd 7 p (form 0 ((portRegs 271).map (fun a => (resetWord a).toNat ^^^ (if a = R.MAC_CFG 271 then 2 else 0))))
def vl : Submission := cmd 7 271 (form 1 (List.replicate 128 0xFFFFFFFF))
def fs : Submission := cmd 7 271 (by8 [31,1,0,0,0,0,0,0] ++ (List.replicate 16 0))
def shOn : Submission := cmd 7 271 (leBytes 8 0 ++ leBytes 4 1000 ++ by8 [1,0,1,0, 0xFF,0,0,0] ++ leBytes 4 1000)
def shOff : Submission := cmd 7 271 (List.replicate 16 0)
def sh : Shed := { base := 0, cycleNs := 1000, entries := [(255, 1000)] }
def shS : State := { mine with sheds := [(271, sh)] }

theorem witness_FramesAreReceivedAndJudged :
  ((kept.portUp 271 = true ∧ kept.heldDomain 8 = false ∧ ¬nodeOf 271 ∈ kept.nodeRst ∧ ¬271 ∈ kept.portRst ∧ (∀ (y : Nat × Frame), y ∈
      kept.frames → y.snd.underway 271 = false) ∧ Tbl.find 271 kept.macWas = some w0) ∧
    ((lS.firstBy fun f => f.underway 271) = none ∧ lS.get (F.LANE_CFG_LOOPBACK 271) ≠ 2) ∧
    (rxS.fcMode 271 = 0 ∨ rxS.fcMode 271 = 1 ∧ beAt g60 (12 + 2) 2 ≠ 1 ∨ rxS.fcMode 271 = 2 ∧ beAt g60 (12 + 2) 2 ≠ 257)) ∧
  (lS.ran (Timer.pauseHold 271 8) (lS.quantaTime 271 (lS.pauseFor.getD (271 * 16 + 8) 0)) = false ∧
    lS.get (F.MAC_STATUS_XOFF_SENT 271) = 0 ∧
    fc0.frame 7 = none ∧
    (lS.portUp 271 = true ∧ lS.heldDomain 8 = false ∧ ¬nodeOf 271 ∈ lS.nodeRst ∧ ¬271 ∈ lS.portRst ∧ (∀ (y : Nat × Frame), y ∈
      lS.frames → y.snd.underway 271 = false) ∧ Tbl.find 271 lS.macWas = none)) ∧
  ((272 ≤ 271 ∨ rxS.portUp 271 = false ∨ ∃ y, y ∈ rxS.frames ∧ y.snd.underway 271 = true) ∧
    ((rxS.firstBy fun f => f.underway 271) = some (7, rxing) ∧ rxS.get (F.LANE_CFG_LOOPBACK 271) = 0 ∧ rxing.flushed = false ∧
      rxing.stage = Stage.receiving ∧ rxing.cut = false ∧ rxing.inLedger = true ∧ 64 ≤ g60.length ∧ g60.length ≤ rxing.maxFrame ∧ leAt
      g60 (g60.length - 4) 4 = crc32 (List.take (g60.length - 4) g60) ∧ rxS.consumed 271 g60 = 0 ∧ (rxS.verdict 271 rxing.filters
      g60).fate = none ∧ rxing.stored = true)) ∧
  (((rxS2.firstBy fun f => f.underway 271) = some (7, noSt) ∧ rxS2.get (F.LANE_CFG_LOOPBACK 271) = 0 ∧ noSt.flushed = false ∧
      noSt.stage = Stage.receiving ∧ noSt.cut = false ∧ noSt.inLedger = true ∧ 64 ≤ g60.length ∧ g60.length ≤ noSt.maxFrame ∧ leAt g60
      (g60.length - 4) 4 = crc32 (List.take (g60.length - 4) g60) ∧ rxS2.consumed 271 g60 = 0 ∧ (rxS2.verdict 271 noSt.filters
      g60).fate = none ∧ noSt.stored = false)) ∧
  (((rxS.firstBy fun f => f.underway 271) = some (7, rxing) ∧ rxS.get (F.LANE_CFG_LOOPBACK 271) = 0 ∧ rxing.flushed = false ∧
      rxing.stage = Stage.receiving ∧ rxing.cut = false ∧ rxing.inLedger = true ∧ b60.length < 64) ∧
    ((rxS.firstBy fun f => f.underway 271) = some (7, rxing) ∧ rxS.get (F.LANE_CFG_LOOPBACK 271) = 0 ∧ rxing.flushed = false ∧
      rxing.stage = Stage.receiving ∧ rxing.cut = false ∧ rxing.inLedger = true ∧ 64 ≤ bad60.length ∧ bad60.length ≤ rxing.maxFrame ∧
      leAt bad60 (bad60.length - 4) 4 ≠ crc32 (List.take (bad60.length - 4) bad60) ∧ stomped bad60 = false)) ∧
  (((rxS.firstBy fun f => f.underway 271) = some (7, rxing) ∧ rxS.get (F.LANE_CFG_LOOPBACK 271) = 0 ∧ rxing.flushed = false ∧
      rxing.stage = Stage.receiving ∧ rxing.cut = false ∧ rxing.inLedger = true ∧ 64 ≤ long.length ∧ rxing.maxFrame < long.length) ∧
    ((rxS.firstBy fun f => f.underway 271) = some (7, rxing) ∧ rxS.get (F.LANE_CFG_LOOPBACK 271) = 0 ∧ rxing.flushed = false ∧
      rxing.stage = Stage.receiving ∧ rxing.cut = false ∧ rxing.inLedger = true ∧ 64 ≤ ctl60.length ∧ ctl60.length ≤ rxing.maxFrame ∧
      leAt ctl60 (ctl60.length - 4) 4 = crc32 (List.take (ctl60.length - 4) ctl60) ∧ rxS.consumed 271 ctl60 = 1)) ∧
  (((lstd.firstBy fun f => f.underway 271) = some (7, rxing) ∧ lstd.get (F.LANE_CFG_LOOPBACK 271) = 0 ∧ rxing.flushed = false ∧
      rxing.stage = Stage.receiving ∧ rxing.cut = false ∧ rxing.inLedger = true ∧ 64 ≤ g60.length ∧ g60.length ≤ rxing.maxFrame ∧ leAt
      g60 (g60.length - 4) 4 = crc32 (List.take (g60.length - 4) g60) ∧ lstd.consumed 271 g60 = 0 ∧ (lstd.verdict 271 rxing.filters
      g60).fate = some 34) ∧
    (ingf.on (F.MAC_CFG_INGRESS_FILTER 271) = true ∧ ingf.member 271 (ingf.vidPrio 271 g60).fst = false) ∧
    (fc1.fcMode 271 = 1 ∧ beAt ctl60 (12 + 2) 2 = 1) ∧
    held.ran (Timer.pauseHold 271 8) (held.quantaTime 271 (held.pauseFor.getD (271 * 16 + 8) 0)) = true) ∧
  ((xoff.get (F.MAC_STATUS_XOFF_SENT 271) ≠ 0 ∧ xoff.ran (Timer.pauseRepeat 271) (xoff.quantaTime 271 (xoff.quanta 271) / 2) = true ∧
      xoff.fcMode 271 = 2 ∧ ¬271 ∈ xoff.portRst) ∧
    (lS.frame 7 = some lf ∧ lf.stage = Stage.unread ∧ lf.launch = some (100 * ms) ∧ lf.cmd = some (0, 1, 0) ∧ lf.dest = Dest.port 271 ∧
      List.find? (fun c => c.begun && c.key == (0, 1, 0)) lS.accepted = some lx ∧ 100 * ms ≤ lS.nt + lS.fetchUs 271 * us ∧ lx.sub.block
      ≠ none)) ∧
  ((lS3.frame 7 = some lf2 ∧ lf2.stage = Stage.unread ∧ lf2.launch = some (2 * sec) ∧ lf2.cmd = some (0, 1, 0) ∧ lf2.dest = Dest.port
      271 ∧ List.find? (fun c => c.begun && c.key == (0, 1, 0)) lS3.accepted = some lx ∧ lS3.nt + lS3.fetchUs 271 * us < 2 * sec) ∧
    (lS4.frame 7 = some lf ∧ lf.stage = Stage.unread ∧ lf.launch = some (100 * ms) ∧ lf.cmd = some (0, 1, 0) ∧ lf.dest = Dest.port 271
      ∧ List.find? (fun c => c.begun && c.key == (0, 1, 0)) lS4.accepted = some lx0 ∧ 100 * ms ≤ lS4.nt + lS4.fetchUs 271 * us ∧
      lx0.sub.block = none) ∧
    lp1.get (F.LANE_CFG_LOOPBACK 271) = 1 ∧
    ((lp2.firstBy fun f => f.underway 271) = none ∧ lp2.get (F.LANE_CFG_LOOPBACK 271) = 2)) :=
  ⟨by decide +kernel, by decide +kernel, by decide +kernel, by decide +kernel, by decide +kernel, by decide +kernel, by decide +kernel, by decide +kernel, by decide +kernel⟩

theorem witness_PortSettingsAndSheds :
  ((Ready specPortConfigure (pc 271) mine ∧ (pc 271).P0 0 9 = 271 ∧ (272 ≤ 271 ∨ bits ((pc 271).le 8 4) 1 2 = mine.get
      (F.MAC_CFG_FC_MODE 271))) ∧
    mine.shed 271 = none) ∧
  ((Ready specPortConfigure (pcF 271) mine ∧ (pcF 271).P0 0 9 = 271 ∧ bits ((pcF 271).le 8 4) 1 2 ≠ mine.get (F.MAC_CFG_FC_MODE 271))) ∧
  ((Ready specPortVlan vl mine ∧ vl.P0 0 9 = 271)) ∧
  ((Ready specFilterSet fs mine ∧ fs.P0 0 9 = 271)) ∧
  ((Ready specShedSet shOn shS ∧ shOn.P0 0 9 = 271 ∧ shOn.b 14 = 1) ∧
    shS.shed 271 = some sh) ∧
  ((Ready specShedSet shOff shS ∧ shOff.P0 0 9 = 271 ∧ shOff.b 14 ≠ 1)) :=
  ⟨by decide +kernel, by decide +kernel, by decide +kernel, by decide +kernel, by decide +kernel, by decide +kernel⟩

end Receives

/-! #### The Loom -/

namespace Fabric

def ip : List Byte := List.replicate 60 1
def fb (st : Stage) : Frame := { port := 271, tin := 100, stage := st, data := ip, len := 64, tail := leBytes 4 (crc32 ip), whole := true, order := 4, vid := 5, dest := .port 7 }
def bm : State := { live with frames := [(7, fb .beam)] }
def ing : State := { live with frames := [(7, fb .ingress)] }
def ctS : State := { live with frames := [(7, { fb .loom with sent := 10, len := 400 })] }
def sh1 : Shuttle := { src := 3, dst := 5, seq := 0, via := 4, cycle := 0, pick := 1, segs := [(7, 20)] }
def sI (c : Nat) : State := { live with shuttles := [sh1], cycles := c }
def sI1 : State := sI 1
def sI0 : State := sI 0
def rw1 : Row := { node := 33, root := 3, wait := [0] }
def wv (q : Nat) : Shuttle := { src := 33, dst := 0, seq := q, via := 4, place := .weft, cycle := 0, pick := 1, segs := [(7, 20)] }
def reS (q : Nat) : State := { live with frames := [(7, { fb .loom with sent := 64 })], shuttles := [wv q], pairs := [(pairKey 33 0, { next := 5, seq := 9 })] }
def r5 : State := reS 5
def r6 : State := reS 6
def r500 : State := reS 261
def rwS : State := { live with rows := [rw1], pairs := [(pairKey 33 0, { next := 5, seq := 9, told := 3 })], frames := [] }
def rwS2 : State := { rwS with frames := [(9, { fb .loom with root := 3 })] }
def rwS3 : State := { rwS with frames := [(9, { fb .ingress with root := 3 })] }
def sent1 : State := after (exec (.warpSend 33 35 0 0) ing)
def weft1 : State := after (exec (.weftSend 4 1) sI1)

theorem witness_ShuttlesCrossTheLoom :
  (r5.firstBy (r5.beamReady 271) = none ∧
    (¬33 ∈ rwS.nodeRst ∧ ¬(33 + 1) % 36 ∈ rwS.nodeRst ∧ rwS.pickOpen true 33 1 = true ∧ rwS.frames = []) ∧
    bm.shuttles = []) ∧
  ((bm.firstBy (bm.beamReady 271) = some (7, fb Stage.beam) ∧ (fb Stage.beam).stream = none ∧ (fb Stage.beam).wovenTo = none ∧
      bm.frame 7 = some (fb Stage.beam) ∧ bm.queueSpilled (fb Stage.beam).qport (fb Stage.beam).dest.node (fb Stage.beam).tc = false)) ∧
  ((¬33 ∈ ing.nodeRst ∧ ¬(33 + 35) % 36 ∈ ing.nodeRst ∧ ing.pickOpen true 33 35 = true ∧ (∀ (y : Nat × Frame), y ∈ (State.usePick true
      33 35 (State.expandGroups 33 ing)).frames → y.snd.wovenTo = none ∧ y.snd.stage ≠ Stage.loom) ∧ (State.usePick true 33 35
      (State.expandGroups 33 ing)).nextStart 33 ((33 + 35) % 36) 0 none = some (7, fb Stage.ingress) ∧ (fb Stage.ingress).cut = false)) ∧
  ((¬33 ∈ ctS.nodeRst ∧ ¬(33 + 35) % 36 ∈ ctS.nodeRst ∧ ctS.pickOpen true 33 35 = true ∧ ctS.frames = [(7,
      { fb Stage.loom with len := 400, sent := 10 })] ∧ ({ fb Stage.loom with len := 400, sent := 10 }).inNode = 33 ∧
      ({ fb Stage.loom with len := 400, sent := 10 }).stage = Stage.loom ∧ ({ fb Stage.loom with len := 400, sent := 10 }).whole = true
      ∧ ({ fb Stage.loom with len := 400, sent := 10 }).cut = false ∧ ({ fb Stage.loom with len := 400, sent := 10 }).wovenTo = none ∧
      ({ fb Stage.loom with len := 400, sent := 10 }).launch = none ∧ ({ fb Stage.loom with len := 400, sent := 10 }).sent <
      ({ fb Stage.loom with len := 400, sent := 10 }).len ∧ ctS.interCredit 33 ((33 + 35) % 36)
      ({ fb Stage.loom with len := 400, sent := 10 }).dest.node = true ∧ ¬({ fb Stage.loom with len := 400, sent := 10 }).dest.node ∈
      ctS.nodeRst) ∧
    (36 ≤ 36 ∨ 36 ≤ 1 ∨ 36 ∈ sI1.nodeRst ∨ (36 + 1) % 36 ∈ sI1.nodeRst ∨ sI1.pickOpen true 36 1 = false)) ∧
  ((36 ≤ 4 ∨ 36 ≤ 36 ∨ ing.pickOpen false 4 36 = false ∨ ing.egressCredit 4 ((4 + 36) % 36) = false) ∧
    (sI1.pickOpen false 4 1 = true ∧ sI1.egressCredit 4 ((4 + 1) % 36) = true ∧ sI1.shuttles = [sh1] ∧ sh1.place = Place.inter ∧
      sh1.via = 4 ∧ sh1.dst = (4 + 1) % 36 ∧ (sh1.cycle < sI1.cycles ∨ sh1.pick + 2 ≤ 1))) ∧
  ((sI0.pickOpen false 4 1 = true ∧ sI0.egressCredit 4 ((4 + 1) % 36) = true ∧ sI0.shuttles = [sh1] ∧ sh1.place = Place.inter ∧
      sh1.via = 4 ∧ sh1.dst = (4 + 1) % 36 ∧ sI0.cycles ≤ sh1.cycle ∧ 1 < sh1.pick + 2) ∧
    (r5.shuttles = [wv 5] ∧ (wv 5).place = Place.weft ∧ (wv 5).src = 33 ∧ (wv 5).dst = 0 ∧ (wv 5).seq = 5 ∧ (wv 5).segs = [(7, 20)] ∧ 5
      = (r5.pair 33 0).next ∧ 5 < 2 ^ 24 ∧ r5.egressUsed 0 + 20 ≤ (r5.stalls 0).snd.snd * unit64)) ∧
  ((r6.shuttles = [wv 6] ∧ (wv 6).place = Place.weft ∧ (wv 6).src = 33 ∧ (wv 6).dst = 0 ∧ (wv 6).seq = 6 ∧ (wv 6).segs = [(7, 20)] ∧
      (6 + 2 ^ 24 - (r6.pair 33 0).next) % 2 ^ 24 < 256 ∧ 6 ≠ (r6.pair 33 0).next) ∧
    (r500.shuttles = [wv 261] ∧ (wv 261).place = Place.weft ∧ (wv 261).src = 33 ∧ (wv 261).dst = 0 ∧ (wv 261).seq = 261 ∧ (wv 261).segs
      = [(7, 20)] ∧ 256 ≤ (261 + 2 ^ 24 - (r500.pair 33 0).next) % 2 ^ 24)) ∧
  ((rwS.rows = [{ node := 33, root := 3, wait := [0] }] ∧ (rwS.pair 33 0).next ≠ (rwS.pair 33 0).told ∧ (∀ (y : Nat × Frame), y ∈
      rwS.frames → ¬(y.snd.root = 3 ∧ y.snd.stage = Stage.loom ∧ y.snd.dest.node = 0)) ∧ (∀ (y : Nat × Frame), y ∈ rwS.frames →
      ¬(y.snd.root = 3 ∧ y.snd.stage = Stage.ingress ∧ y.snd.inNode = 33)))) ∧
  ((rwS2.rows = [{ node := 33, root := 3, wait := [0] }] ∧ (rwS2.pair 33 0).next ≠ (rwS2.pair 33 0).told ∧ (∃ y, y ∈ rwS2.frames ∧
      y.snd.root = 3 ∧ y.snd.stage = Stage.loom ∧ y.snd.dest.node = 0))) ∧
  ((rwS3.rows = [{ node := 33, root := 3, wait := [0] }] ∧ (rwS3.pair 33 0).next ≠ (rwS3.pair 33 0).told ∧ (∀ (y : Nat × Frame), y ∈
      rwS3.frames → ¬(y.snd.root = 3 ∧ y.snd.stage = Stage.loom ∧ y.snd.dest.node = 0)) ∧ (∃ y, y ∈ rwS3.frames ∧ y.snd.root = 3 ∧
      y.snd.stage = Stage.ingress ∧ y.snd.inNode = 33))) :=
  ⟨by decide +kernel, by decide +kernel, by decide +kernel, by decide +kernel, by decide +kernel, by decide +kernel, by decide +kernel, by decide +kernel, by decide +kernel, by decide +kernel⟩

theorem witness_NoShuttleIsSentWithoutSpace :
  (sI1.shuttles.Nodup) ∧
  (exec (.warpSend 33 35 0 0) ing = .next sent1) ∧
  (∀ n j d : Nat, (ing.shuttles.filter (fun x => x.place == .inter && x.src == n && x.via == j && x.dst == d)).length ≤ 2) ∧
  (exec (.weftSend 4 1) sI1 = .next weft1) ∧
  (∀ j d : Nat, (sI1.shuttles.filter (fun x => x.place != .inter && x.via == j && x.dst == d)).length ≤ 2) :=
  ⟨by decide +kernel, after_next (by decide +kernel), fun _ _ _ => Nat.le_trans (List.length_filter_le _ _) (by decide +kernel), after_next (by decide +kernel), fun _ _ => Nat.le_trans (List.length_filter_le _ _) (by decide +kernel)⟩

end Fabric

/-! #### Stalls, picks and mirrors -/

namespace Buffers

def ip : List Byte := List.replicate 60 1
def fb (st : Stage) : Frame := { port := 271, tin := 100, stage := st, data := ip, len := 64, tail := leBytes 4 (crc32 ip), whole := true, order := 4, vid := 5, dest := .port 7 }
def big : Frame := { fb .ingress with len := 48 * 65536 }
def hay : State := live.set F.LOOM_HAYLOFT_STACK0_OK 1
def st1 : State := { hay with frames := [(7, big)] }
def spil : Frame := { fb .ingress with spilled := true }
def spb : Frame := { fb .ingress with spilled := true, bad := some 3 }
def sp1 : State := { hay with frames := [(7, spil)] }
def sp2 : State := { hay with frames := [(7, spb)] }
def old : Frame := { fb .ingress with age := 1000 * sec }
def ag : State := { (hay.set F.LOOM_AGE_LIMIT_US 1) with frames := [(7, old)] }
def adm : Frame := { fb .admission with dest := .mask 0 [7], waited := 1000 * sec }
def ad1 : State := { (hay.set F.LOOM_MCAST_WAIT_WAIT_US 1) with frames := [(7, adm)] }
def nr : State := { hay with nodeRst := [33], shuttles := [{ src := 33, dst := 5, seq := 0, via := 4, cycle := 0, pick := 1, segs := [(7, 20)] }] }
def noHay : State := { (live.set F.LOOM_HAYLOFT_STACK0_OK 0).set F.LOOM_HAYLOFT_STACK1_OK 0 with frames := [(7, fb .ingress)], evals := [(evHalter, 1)] }
def pl (i : Nat) (ps : List Nat) : List Byte := by8 [0, ps.length] ++ leBytes 2 i ++ leBytes 2 0 ++ leBytes 2 2000 ++ leBytes 2 150 ++ List.replicate 6 0 ++ by8 ps ++ List.replicate (8 - ps.length) 0
def pk (w i : Nat) (ps : List Nat) : Submission := cmd 7 w (pl i ps)
def rls (w : Nat) : Submission := cmd 7 w (by8 [1] ++ List.replicate 23 0)
def rsv (w i : Nat) (ps : List Nat) (s : State) : State := s.wrWords (R.LOOM_WOVEN w) ((List.range 6).map (fun k => leAt (pl i ps) (4 * k) 4) ++ [1, 0])
def pk0 : Submission := pk 4095 8 [0, 35]
def w1 : State := rsv 7 8 [35] live
def w4 : State := (((rsv 1 8 (List.range 8) live) |> rsv 2 8 ((List.range 8).map (· + 8)) |> rsv 3 8 ((List.range 8).map (· + 16)) |> rsv 4 8 ((List.range 7).map (· + 24))))
def w5 : State := rsv 4095 8 [5] live
def pk5 : Submission := pk 4095 8 [0, 33]
def pk6 : Submission := pk 4095 8 [34, 35]
def mss : Submission := cmd 7 15 (form 0 [2 ^ (F.LOOM_MIRROR_ENABLE 0).lsb, 0])
def mg : Submission := cmd 7 8191 (form 1 (List.replicate 8 0xFFFFFFFF ++ List.replicate 8 0))

theorem witness_StallsSpillHoldAndAge :
  ((st1.frame 7 = some big ∧ big.stage = Stage.ingress ∧ big.whole = true ∧ big.spilled = false ∧ st1.spilledBytes + big.len ≤
      st1.hayloftSize ∧ (∀ (y : Nat × Frame), y ∈ st1.ingressQ big.qport big.dest.node big.tc → big.order < y.snd.order → y.snd.spilled
      = true) ∧ st1.spillPct * st1.workingSize big.inNode ≤ 100 * st1.workingUsed big.inNode) ∧
    (st1.frame 7 = some big ∧ (st1.ageLimit = 0 ∨ st1.atFront big = false ∨ big.age < st1.ageLimit * us))) ∧
  ((ag.frame 7 = some old ∧ (ag.get F.LOOM_MCAST_WAIT_WAIT_US = 0 ∨ old.stage ≠ Stage.admission)) ∧
    ag.cycleDue evHalter = true ∧
    (¬33 ∈ ag.nodeRst ∨ ∃ x, x ∈ ag.shuttles ∧ x.place = Place.inter ∧ x.via = 33)) ∧
  ((ag.frame 7 = some old ∧ old.stage = Stage.ingress ∧ old.whole = true ∧ old.spilled = false ∧ ag.spilledBytes + old.len ≤
      ag.hayloftSize ∧ (∀ (y : Nat × Frame), y ∈ ag.ingressQ old.qport old.dest.node old.tc → old.order < y.snd.order → y.snd.spilled =
      true) ∧ 100 * ag.workingUsed old.inNode < ag.spillPct * ag.workingSize old.inNode)) ∧
  ((sp1.frame 7 = some spil ∧ spil.stage = Stage.ingress ∧ spil.spilled = true ∧ (∀ (y : Nat × Frame), y ∈ sp1.ingressQ spil.qport
      spil.dest.node spil.tc → spil.order ≤ y.snd.order) ∧ 100 * sp1.workingUsed spil.inNode ≤ sp1.fetchPct * sp1.workingSize
      spil.inNode ∧ spil.bad = none)) ∧
  ((sp2.frame 7 = some spb ∧ spb.stage = Stage.ingress ∧ spb.spilled = true ∧ (∀ (y : Nat × Frame), y ∈ sp2.ingressQ spb.qport
      spb.dest.node spb.tc → spb.order ≤ y.snd.order) ∧ 100 * sp2.workingUsed spb.inNode ≤ sp2.fetchPct * sp2.workingSize spb.inNode ∧
      spb.bad ≠ none) ∧
    nr.frame 7 = none ∧
    (ag.frame 7 = some old ∧ ag.atFront old = true ∧ ag.ageLimit * us ≤ old.age ∧ ag.ageLimit ≠ 0)) ∧
  ((ad1.frame 7 = some adm ∧ adm.stage = Stage.admission ∧ ad1.get F.LOOM_MCAST_WAIT_WAIT_US ≠ 0 ∧ ad1.get F.LOOM_MCAST_WAIT_WAIT_US *
      us ≤ adm.waited) ∧
    (33 ∈ nr.nodeRst ∧ (∀ (x : Shuttle), x ∈ nr.shuttles → ¬(x.place = Place.inter ∧ x.via = 33))) ∧
    (noHay.frame 7 = some (fb Stage.ingress) ∧ (fb Stage.ingress).stage = Stage.ingress ∧ (fb Stage.ingress).whole = true ∧ (fb
      Stage.ingress).spilled = false ∧ noHay.hayloftSize < noHay.spilledBytes + (fb Stage.ingress).len) ∧
    noHay.cycleDue evHalter = false) :=
  ⟨by decide +kernel, by decide +kernel, by decide +kernel, by decide +kernel, by decide +kernel, by decide +kernel⟩

theorem witness_PicksMirrorsAndGroups :
  ((Ready specPicks pk0 live ∧ pk0.P0 0 12 = 4095 ∧ pk0.b 0 = 0 ∧ (∀ (o : List (Nat × Nat) × List (Nat × Nat)), o ∈ List.map (fun v =>
      picksOf (live.wovenBytes v)) (List.filter (fun v => v != 4095) live.wovenHandles) → (∀ (p : Nat × Nat), p ∈ (picksOf
      pk0.bytes).fst → ¬p ∈ o.fst) ∧ ∀ (p : Nat × Nat), p ∈ (picksOf pk0.bytes).snd → ¬p ∈ o.snd) ∧ (List.filter (fun p => p.fst ==
      nodeOf (pk0.le 2 2)) (List.flatMap (fun v => (picksOf (live.wovenBytes v)).fst) live.wovenHandles)).length + pk0.b 1 ≤ 32 ∧
      live.get (F.LOOM_WOVEN_STATE 4095) = 0)) ∧
  ((Ready specPicks pk0 w1 ∧ pk0.P0 0 12 = 4095 ∧ pk0.b 0 = 0 ∧ (∃ o, o ∈ List.map (fun v => picksOf (w1.wovenBytes v)) (List.filter
      (fun v => v != 4095) w1.wovenHandles) ∧ ((∃ p, p ∈ (picksOf pk0.bytes).fst ∧ p ∈ o.fst) ∨ ∃ p, p ∈ (picksOf pk0.bytes).snd ∧ p ∈
      o.snd)))) ∧
  ((Ready specPicks pk6 w4 ∧ pk6.P0 0 12 = 4095 ∧ pk6.b 0 = 0 ∧ (∀ (o : List (Nat × Nat) × List (Nat × Nat)), o ∈ List.map (fun v =>
      picksOf (w4.wovenBytes v)) (List.filter (fun v => v != 4095) w4.wovenHandles) → (∀ (p : Nat × Nat), p ∈ (picksOf pk6.bytes).fst →
      ¬p ∈ o.fst) ∧ ∀ (p : Nat × Nat), p ∈ (picksOf pk6.bytes).snd → ¬p ∈ o.snd) ∧ 32 < (List.filter (fun p => p.fst == nodeOf (pk6.le
      2 2)) (List.flatMap (fun v => (picksOf (w4.wovenBytes v)).fst) w4.wovenHandles)).length + pk6.b 1)) ∧
  ((Ready specPicks pk5 w5 ∧ pk5.P0 0 12 = 4095 ∧ pk5.b 0 = 0 ∧ (∀ (o : List (Nat × Nat) × List (Nat × Nat)), o ∈ List.map (fun v =>
      picksOf (w5.wovenBytes v)) (List.filter (fun v => v != 4095) w5.wovenHandles) → (∀ (p : Nat × Nat), p ∈ (picksOf pk5.bytes).fst →
      ¬p ∈ o.fst) ∧ ∀ (p : Nat × Nat), p ∈ (picksOf pk5.bytes).snd → ¬p ∈ o.snd) ∧ (List.filter (fun p => p.fst == nodeOf (pk5.le 2 2))
      (List.flatMap (fun v => (picksOf (w5.wovenBytes v)).fst) w5.wovenHandles)).length + pk5.b 1 ≤ 32 ∧ w5.get (F.LOOM_WOVEN_STATE
      4095) ≠ 0)) ∧
  ((Ready specPicks (rls 4095) w5 ∧ (rls 4095).P0 0 12 = 4095 ∧ (rls 4095).b 0 = 1 ∧ w5.get (F.LOOM_WOVEN_STATE 4095) ≠ 0 ∧
      w5.wovenWaiting 4095 = [])) ∧
  ((Ready specPicks (rls 4095) live ∧ (rls 4095).P0 0 12 = 4095 ∧ (rls 4095).b 0 = 1 ∧ live.get (F.LOOM_WOVEN_STATE 4095) = 0)) ∧
  ((Ready specMirrorSession mss live ∧ mss.P0 0 13 = 15 ∧ live.on (F.LOOM_MIRROR_ENABLE 15) = false)) ∧
  ((Ready specMirrorGroup mg live ∧ mg.P0 0 13 = 8191)) ∧
  ((Ready specMirrorSession (cmd 7 15 (form 0 [0, 0])) live ∧ (cmd 7 15 (form 0 [0, 0])).P0 0 13 = 15)) :=
  ⟨by decide +kernel, by decide +kernel, by decide +kernel, by decide +kernel, by decide +kernel, by decide +kernel, by decide +kernel, by decide +kernel, by decide +kernel⟩

end Buffers

/-! #### Egress -/

namespace Sends

def ip : List Byte := List.replicate 60 1
def fb (st : Stage) : Frame := { port := 271, tin := 100, stage := st, data := ip, len := 64, tail := leBytes 4 (crc32 ip), whole := true, order := 4, vid := 5, dest := .port 7 }
def pUp (p : Nat) (s : State) : State := s.set (F.LANE_STATUS_STATE p) lnUp
def up7 : State := pUp 0 live
def ctl : Ctl := { port := 0, opcode := 1, vec := 0, time := 3 }
def j0 : Frame := { fb .joined with dest := .port 0 }
def jl : Frame := { j0 with launch := some 5, isLaunch := true }
def jr (q : Nat) : Frame := { j0 with dest := .ring q }
def jc : Frame := { j0 with dest := .recirc }
def e1 : State := { live with frames := [(7, j0)] }
def e2 : State := { up7 with frames := [(7, j0)] }
def e3 : State := { up7 with frames := [(7, jl)] }
def e4 : State := { up7 with frames := [(7, jr 2)] }
def e5 : State := { up7 with frames := [(7, jr 3)] }
def e6 : State := { up7 with frames := [(7, jc)] }
def am : Frame := { fb .admission with dest := .mask 0 [0] }
def e7 : State := { up7 with frames := [(7, am)] }
def eC : State := { up7 with ctlQ := [ctl] }
def eg : Frame := { fb .egress with dest := .port 0, tc := 7 }
def e8 : State := { up7 with frames := [(7, eg)] }
def lf (t : Int) : Frame := { fb .launch with dest := .port 0, launch := some t, isLaunch := true }
def e9 : State := { up7 with frames := [(7, lf 10)], nt := 100 * us }
def e11 : State := { (up7.set (F.MAC_CFG_LATE_DISCARD 0) 1) with frames := [(7, lf 10)], nt := sec }
def tx : Frame := { fb .sending with dest := .port 0, got := 64 }
def txh : Frame := { fb .sending with dest := .port 0, got := 64, port := 272 }
def e12 : State := { up7 with frames := [(7, tx)] }
def e13 : State := { up7 with frames := [(7, txh)] }
def e14 : State := { up7 with frames := [(7, { tx with cut := true, got := 10 })] }
def P (s : State) : Nat × Drr := (s.schedule 0 (s.txTimeOf 0 0 0 - s.byteTime 0 8)).getD (0, {})
def e15 : State := { up7 with frames := [(7, lf 10)], nt := sec }

theorem witness_EgressPlacesChoosesAndSends :
  ((eC.shuttles = [] ∧ (∀ (y : Nat × Frame), y ∈ eC.frames → y.snd.stage ≠ Stage.admission) ∧ eC.nextJoined 0 = none) ∧
    e1.macFree 0 = false ∧
    e1.sending 0 = none) ∧
  ((e1.shuttles = [] ∧ (∀ (y : Nat × Frame), y ∈ e1.frames → y.snd.stage ≠ Stage.admission) ∧ e1.nextJoined 0 = some (7, j0) ∧ j0.dest
      = Dest.port 0 ∧ e1.portUp 0 = false)) ∧
  ((e2.shuttles = [] ∧ (∀ (y : Nat × Frame), y ∈ e2.frames → y.snd.stage ≠ Stage.admission) ∧ e2.nextJoined 0 = some (7, j0) ∧ j0.dest
      = Dest.port 0 ∧ e2.portUp 0 = true ∧ j0.stream = none ∧ j0.launch = none)) ∧
  ((e2.macFree 0 = true ∧ (∀ (y : Ctl), y ∈ e2.ctlQ → y.port ≠ 0) ∧ (∀ (y : Nat × Frame), y ∈ e2.frames → y.snd.stage ≠ Stage.launch)
      ∧ e2.schedule 0 (e2.txTimeOf 0 0 0 - e2.byteTime 0 8) = none) ∧
    (e2.macFree 0 = true ∧ e2.nextLaunch 0 = none)) ∧
  ((e3.shuttles = [] ∧ (∀ (y : Nat × Frame), y ∈ e3.frames → y.snd.stage ≠ Stage.admission) ∧ e3.nextJoined 0 = some (7, jl) ∧ jl.dest
      = Dest.port 0 ∧ e3.portUp 0 = true ∧ jl.stream = none ∧ jl.launch ≠ none)) ∧
  ((e4.shuttles = [] ∧ (∀ (y : Nat × Frame), y ∈ e4.frames → y.snd.stage ≠ Stage.admission) ∧ e4.nextJoined 34 = some (7, jr 2) ∧ (jr
      2).dest = Dest.ring 2 ∧ e4.cls 2 = clsFrameRx)) ∧
  ((e5.shuttles = [] ∧ (∀ (y : Nat × Frame), y ∈ e5.frames → y.snd.stage ≠ Stage.admission) ∧ e5.nextJoined 34 = some (7, jr 3) ∧ (jr
      3).dest = Dest.ring 3 ∧ e5.cls 3 ≠ clsFrameRx)) ∧
  ((e6.shuttles = [] ∧ (∀ (y : Nat × Frame), y ∈ e6.frames → y.snd.stage ≠ Stage.admission) ∧ e6.nextJoined 35 = some (7, jc) ∧
      jc.dest = Dest.recirc ∧ jc.stream = none ∧ e6.frame 7 = some jc) ∧
    (e7.shuttles = [] ∧ e7.frames = [(7, am)] ∧ am.stage = Stage.admission ∧ am.dest = Dest.mask 0 [0] ∧ e7.classHeld 0 am.tc = false ∧
      e7.poolRoom 0 = true)) ∧
  ((eC.macFree 0 = true ∧ eC.nextCtl 0 (eC.txTimeOf 0 0 0) = some ctl) ∧
    (e8.macFree 0 = true ∧ (∀ (y : Ctl), y ∈ e8.ctlQ → y.port ≠ 0) ∧ (∀ (y : Nat × Frame), y ∈ e8.frames → y.snd.stage ≠ Stage.launch)
      ∧ e8.schedule 0 (e8.txTimeOf 0 0 0 - e8.byteTime 0 8) = some (7, (P e8).snd) ∧ e8.classHead 0 7 = some (7, eg)) ∧
    e8.schedule 0 0 = some (7, (P e8).snd)) ∧
  ((e9.macFree 0 = true ∧ e9.nextLaunch 0 = some (7, lf 10) ∧ (↑(e9.txTimeOf 0 0 0) < (lf 10).launch.getD 0 ∨ e9.classHeld 0 (lf
      10).tc = true ∨ e9.wordPast 0 (↑(e9.txTimeOf 0 0 0)) ((lf 10).launch.getD 0) = true ∧ ↑e9.nt ≤ (lf 10).launch.getD 0)) ∧
    (e12.sending 0 = some (7, tx) ∧ e12.frame 7 = some tx ∧ tx.dest = Dest.port 0 ∧ tx.whole = true ∧ (tx.len ≤ tx.got ∨ tx.bad ≠
      none)) ∧
    (e12.sending 0 = some (7, tx) ∧ tx.cut = false)) ∧
  ((e13.sending 0 = some (7, txh) ∧ e13.frame 7 = some txh ∧ txh.dest = Dest.port 0 ∧ txh.whole = true ∧ (txh.len ≤ txh.got ∨ txh.bad
      ≠ none) ∧ txh.port = 272 ∧ e13.get (F.MAC_CFG_ONE_STEP 0) = 0) ∧
    (e14.sending 0 = some (7, { tx with cut := true, got := 10 }) ∧ ({ tx with cut := true, got := 10 }).cut = true ∧
      (({ tx with cut := true, got := 10 }).whole = false ∨ ({ tx with cut := true, got := 10 }).got <
      ({ tx with cut := true, got := 10 }).len))) ∧
  ((e15.macFree 0 = true ∧ e15.nextLaunch 0 = some (7, lf 10) ∧ (lf 10).launch.getD 0 ≤ ↑(e15.txTimeOf 0 sec 0) ∧ e15.classHeld 0 (lf
      10).tc = false ∧ (e15.wordPast 0 (↑(e15.txTimeOf 0 sec 0)) ((lf 10).launch.getD 0) = false ∨ (lf 10).launch.getD 0 < ↑e15.nt) ∧
      ((lf 10).late || e15.wordPast 0 (↑(e15.txTimeOf 0 sec 0)) ((lf 10).launch.getD 0 + ↑(e15.get (F.MAC_LAUNCH_LATE_NS 0) * ns))) =
      true ∧ e15.on (F.MAC_CFG_LATE_DISCARD 0) = false) ∧
    (e9.macFree 0 = true ∧ e9.nextLaunch 0 = some (7, lf 10) ∧ (lf 10).launch.getD 0 ≤ ↑(e9.txTimeOf 0 10 0) ∧ e9.classHeld 0 (lf
      10).tc = false ∧ (e9.wordPast 0 (↑(e9.txTimeOf 0 10 0)) ((lf 10).launch.getD 0) = false ∨ (lf 10).launch.getD 0 < ↑e9.nt) ∧ ((lf
      10).late || e9.wordPast 0 (↑(e9.txTimeOf 0 10 0)) ((lf 10).launch.getD 0 + ↑(e9.get (F.MAC_LAUNCH_LATE_NS 0) * ns))) = false)) ∧
  ((e11.macFree 0 = true ∧ e11.nextLaunch 0 = some (7, lf 10) ∧ (lf 10).launch.getD 0 ≤ ↑(e11.txTimeOf 0 sec 0) ∧ e11.classHeld 0 (lf
      10).tc = false ∧ (e11.wordPast 0 (↑(e11.txTimeOf 0 sec 0)) ((lf 10).launch.getD 0) = false ∨ (lf 10).launch.getD 0 < ↑e11.nt) ∧
      ((lf 10).late || e11.wordPast 0 (↑(e11.txTimeOf 0 sec 0)) ((lf 10).launch.getD 0 + ↑(e11.get (F.MAC_LAUNCH_LATE_NS 0) * ns))) =
      true ∧ e11.on (F.MAC_CFG_LATE_DISCARD 0) = true)) :=
  ⟨by decide +kernel, by decide +kernel, by decide +kernel, by decide +kernel, by decide +kernel, by decide +kernel, by decide +kernel, by decide +kernel, by decide +kernel, by decide +kernel, by decide +kernel, by decide +kernel, by decide +kernel⟩

end Sends

/-! #### Rations and recovery -/

namespace Recovers

def ip : List Byte := List.replicate 60 1
def fb (st : Stage) : Frame := { port := 271, tin := 100, stage := st, data := ip, len := 64, tail := leBytes 4 (crc32 ip), whole := true, order := 4, vid := 5, dest := .port 7 }
def raOn : State := live.set (F.EGR_PORT_STATUS_RATIONED 3) 1
def re : Submission := cmd 7 271 (form 0 ([R.EGR_CLASS_LEVEL 271, R.EGR_CLASS_WEIGHT0 271, R.EGR_CLASS_WEIGHT1 271, R.EGR_RATION_CFG 271].map (fun a => (resetWord a).toNat)))
def rwt : Submission := cmd 7 274 (form 1 [1])
def fw : Submission := cmd 7 4095 (form 0 [0x4002, 273, 0, 0, 0, 0, 0, 0])
def frs : Submission := cmd 7 4095 (form 1 [])
def m2 : State := { (live.set (F.FRER_STREAM_MODE 4095) 2) with timers := [(.frerReset 4095, sec)] }
def m2n : State := { (live.set (F.FRER_STREAM_MODE 4095) 2) with timers := [] }
def raNo : State := { live with evals := [(evRations, 1)] }
def vh : State := ((live.set (F.FRER_STREAM_HISTORY 4095) 8).set (F.FRER_STREAM_MODE 4095) 2)
def vt : State := vh.setFrer 4095 100 0 false
def V (s : State) (n : Nat) : Nat × State := s.frerVector 4095 n
def Mt (s : State) (n : Nat) : Nat × State := s.frerMatch 4095 n
def rtF : Frame := { fb .joined with stream := some 4095, data := by8 [2,0,0,0,0,1, 2,0,0,0,0,2, 0xF1,0xC1,0,0,0,77, 8,0] ++ List.replicate 40 1 }
def rS : State := { (vh.setFrer 4095 0 0 true).set (F.FRER_STREAM_PORT 4095) 7 with frames := [(7, rtF)] }
def gen1 : State := { ((live.set (F.FRER_STREAM_MODE 4095) 1).set (F.FRER_STREAM_HOME_NODE 4095) 33) with frames := [(7, rtF)] }
def gen2 : State := { ((live.set (F.FRER_STREAM_MODE 4095) 1).set (F.FRER_STREAM_HOME_NODE 4095) 3) with frames := [(7, rtF)] }
def raBig : State := { ((live.set (F.EGR_RATION_CFG_RATIONED_TC 3) 255).set (F.EGR_RATION_CFG_ON 3) 2) with frames := [(7, { fb .egress with dest := .port 3, len := 32768 })] }
def raBig2 : State := raBig.set (F.EGR_PORT_STATUS_RATIONED 3) 1

theorem witness_RationsAndStreamHandles :
  ((m2.cycleDue evRations = true ∧ m2.on (F.EGR_PORT_STATUS_RATIONED 3) = false ∧ m2.rationedBytes 3 < m2.rationOn 3) ∧
    (Ready specRationsEgress re live ∧ re.P0 0 9 = 271) ∧
    (raOn.cycleDue evRations = true ∧ raOn.on (F.EGR_PORT_STATUS_RATIONED 3) = true ∧ raOn.rationedBytes 3 ≤ raOn.rationOff 3)) ∧
  ((Ready specRationsEgress re raOn ∧ re.P0 0 9 = 271)) ∧
  ((Ready specRationsWeight rwt live ∧ rwt.P0 0 9 = 274)) ∧
  ((Ready specFrerWrite fw live ∧ fw.P0 0 12 = 4095)) ∧
  ((Ready specFrerReset frs live ∧ frs.P0 0 12 = 4095 ∧ live.get (F.FRER_STREAM_MODE 4095) ≠ 2 ∧ live.get (F.FRER_STREAM_MODE 4095) ≠
      3)) ∧
  ((Ready specFrerReset frs m2 ∧ frs.P0 0 12 = 4095 ∧ (m2.get (F.FRER_STREAM_MODE 4095) = 2 ∨ m2.get (F.FRER_STREAM_MODE 4095) = 3)) ∧
    ((m2.get (F.FRER_STREAM_MODE 4095) = 2 ∨ m2.get (F.FRER_STREAM_MODE 4095) = 3) ∧ m2.ran (Timer.frerReset 4095) (max 1 (m2.get
      (F.FRER_STREAM_RESET_MS 4095)) * ms) = true) ∧
    ((m2n.get (F.FRER_STREAM_MODE 4095) = 2 ∨ m2n.get (F.FRER_STREAM_MODE 4095) = 3) ∧ m2n.ran (Timer.frerReset 4095) (max 1 (m2n.get
      (F.FRER_STREAM_RESET_MS 4095)) * ms) = false)) ∧
  (raNo.cycleDue evRations = false ∧
    (raBig.cycleDue evRations = true ∧ raBig.on (F.EGR_PORT_STATUS_RATIONED 3) = false ∧ raBig.rationOn 3 ≤ raBig.rationedBytes 3) ∧
    (raBig2.cycleDue evRations = true ∧ raBig2.on (F.EGR_PORT_STATUS_RATIONED 3) = true ∧ raBig2.rationOff 3 < raBig2.rationedBytes 3)) :=
  ⟨by decide +kernel, by decide +kernel, by decide +kernel, by decide +kernel, by decide +kernel, by decide +kernel, by decide +kernel⟩

theorem witness_StreamRecoveryTakesEachNumberOnce :
  ((1 ≤ vt.get (F.FRER_STREAM_HISTORY 4095) ∧ vt.get (F.FRER_STREAM_HISTORY 4095) ≤ 64 ∧ State.frerVector 4095 101 vt = (0, (V vt
      101).snd)) ∧
    (1 ≤ vt.get (F.FRER_STREAM_HISTORY 4095) ∧ vt.get (F.FRER_STREAM_HISTORY 4095) ≤ 64 ∧ State.frerVector 4095 108 vt = (65, (V vt
      108).snd) ∧ vt.get (F.FRER_STREAM_HISTORY 4095) ≤ (toInt 16 (108 + 65536 - vt.get (F.FRER_STATE_SEQ 4095))).natAbs) ∧
    State.frerMatch 4095 101 vt = (0, (Mt vt 101).snd) ∧
    (rtF.stream = some 4095 ∧ (rS.get (F.FRER_STREAM_MODE 4095) = 2 ∨ rS.get (F.FRER_STREAM_MODE 4095) = 3) ∧ rS.get
      (F.FRER_STREAM_PORT 4095) = 7 ∧ rS.seqOf rtF = some 77 ∧ rS.on (F.FRER_STATE_TAKE_ANY 4095) = true) ∧
    (rtF.stream = some 4095 ∧ gen1.get (F.FRER_STREAM_MODE 4095) = 1 ∧ gen1.frame 7 = some rtF ∧ gen1.get (F.FRER_STREAM_HOME_NODE
      4095) = rtF.inNode)) ∧
  ((rtF.stream = some 4095 ∧ gen2.get (F.FRER_STREAM_MODE 4095) = 1 ∧ gen2.frame 7 = some rtF ∧ gen2.get (F.FRER_STREAM_HOME_NODE
      4095) ≠ rtF.inNode)) :=
  ⟨by decide +kernel, by decide +kernel⟩

end Recovers

/-! #### Snapshots, health and time -/

namespace Watches

def tk (set : Nat) : Submission := { (bare 6 set 0x10000) with p2 := 0x7FFFFFFF }
def frz (k : Nat) : Submission := bare 6 k 0
def cap (set : Nat) : Capture := { cmd := { op := 0x30, sub := tk set, boundary := 5, begun := true }, time := 5, data := leBytes 8 7 }
def capS (set : Nat) : State := { live with obs := { captures := [(set, cap set)] }, accepted := [(cap set).cmd] }
def c0 : State := capS 0
def c8 : State := capS 0x27
def fq : State := { live with fateQ := [(271, 0x60), (1, 2)], obs := { healthDue := true } }
def sf0 : State := { live.set F.SYN_STATUS_SAFE0 1 with safePhase := 7 }

theorem witness_SnapshotsLedgerAndHealth :
  ((Ready specSnapTake (tk 0) live ∧ (tk 0).P0 0 8 = 0 ∧ live.obs.captures.has 0 = false ∧ (∀ (y : Cmd), y ∈ live.obs.snapWait →
      y.sub.P0 0 8 ≠ 0) ∧ measSet 0 = none)) ∧
  (fq.obs.captures.has 0 = false ∧
    c0.fateQ = [] ∧
    c0.obs.healthDue = false ∧
    (Ready specSnapTake (tk 0) c0 ∧ (tk 0).P0 0 8 = 0 ∧ c0.obs.captures.has 0 = true) ∧
    (Tbl.find 0 c0.obs.captures = some (cap 0) ∧ List.find? (fun y => y.begun && sameCmd (cap 0).cmd y) c0.accepted = some (cap 0).cmd)) ∧
  ((Tbl.find 39 c8.obs.captures = some (cap 39) ∧ List.find? (fun y => y.begun && sameCmd (cap 39).cmd y) c8.accepted = some (cap
      39).cmd ∧ measSet 39 = some 7) ∧
    Ready (specFreeze true) (frz 24) live) ∧
  (Ready (specFreeze false) (frz 24) live ∧
    Ready (specFreeze true) (frz 24) fq) ∧
  (Ready (specFreeze false) (frz 24) fq ∧
    (fq.fateQ = [(271, 96), (1, 2)] ∧ 0 ≠ ctrKey 0 271 (3 + fateIndex 96)) ∧
    fq.obs.healthDue = true) :=
  ⟨by decide +kernel, by decide +kernel, by decide +kernel, by decide +kernel, by decide +kernel⟩

theorem witness_PickCyclesCarryTimeAndTimers :
  sf0.supply = Supply.on ∧
  (live.supply = Supply.on ∧ live.heldDomain 1 = false ∧ live.on F.SYN_STATUS_SAFE0 = false) ∧
  (live.heldDomain 1 = false ∧ live.on F.SYN_STATUS_SAFE0 = false ∧ live.nt % grid = 0) ∧
  ((State.set F.RST_DOMAIN_HELD 2 live).supply = Supply.on ∧ (State.set F.RST_DOMAIN_HELD 2 live).heldDomain 1 = true ∧ (State.set
    F.RST_DOMAIN_HELD 2 live).nt < ntSpan) ∧
  (sf0.heldDomain 1 = false ∧ sf0.on F.SYN_STATUS_SAFE0 = true) ∧
  State.reset.supply ≠ Supply.on :=
  by decide +kernel

end Watches

/-! #### Lanes and engines -/

namespace Optics

def ln (n v : Nat) (s : State) : State := s.set (F.LANE_STATUS_STATE n) v
def lc (n a : Nat) : Submission := cmd 7 n (by8 [a,0,0,0] ++ (if a = 0 then [R.LANE_CFG 0, R.LANE_EQ 0, R.LANE_PRBS 0].flatMap (fun x => leBytes 4 (resetWord x).toNat) else List.replicate 12 0))
def acq : State := { ln 255 lnAcquire live with timers := [(.laneAcquire 255, 500 * ms)] }
def hold : State := { ln 255 lnHold live with timers := [(.laneHold 255, sec)] }
def upL : State := (ln 255 lnUp live).set (F.LANE_STATUS_BLOCK_LOCK 255) 1
def ret : State := ln 255 lnRetired live
def kr : State := (upL.set (F.KPL_PORT_CFG_ENABLE 255) 1).set (F.LANE_CFG_CLK_SYNC 255) 1
def rdm : State := { upL with accepted := [{ op := 0x41, sub := lc 255 2, boundary := 0, begun := true }] }
def wl : LockLoss := { lane := 255 }
def lD : State := ln 255 lnDown live
def pks : KplPeer := { enabled := true, cal := true, sync := true, noUp := false, clockId := 99, port := 3, cls := 6, accuracy := 0x21, variance := 0x4E5D, priority2 := 128, steps := 1, ttl := 4 }
def bsy : State := { upL.set (F.LANE_CFG_CLK_SYNC 255) 1 with kpl := [(255, { peer := some pks })] }
def en (k a : Nat) : Submission := cmd 7 k (by8 [a,0,0,0] ++ leBytes 4 (if a = 0 then (resetWord (R.OE_CFG 0)).toNat else 0))
def oe (v : Nat) (s : State) : State := (s.set (F.OE_STATUS_STATE 31) v).setI (F.OE_TEMP_OTS 31) 200
def prs (s : State) : State := ((s.set (F.OE_STATUS_LSA_PRESENT 31) 1).set (F.OE_STATUS_LSB_PRESENT 31) 1)
def str : State := { oe oeStarting live with timers := [(.engineStart 31, 500 * ms)] }
def rdy : State := prs (oe oeReady live)
def off : State := oe oeOff live
def shd : State := oe oeShutdown live
def hotE : State := off.setI (F.OE_TEMP_OTS 31) 600
def rc (a : Nat) : Cmd := { op := 0x42, sub := en 31 a, boundary := 0, begun := true }
def drn : State := { rdy with accepted := [rc 4], timers := [(.ramp 31 false, 10 * ms)] }
def rst : State := { rdy.set (F.OE_STATUS_LSA_DRAINED 31) 1 with accepted := [rc 6], timers := [(.ramp 31 false, 10 * ms)] }
def dr0 : State := off.set (F.OE_STATUS_LSA_DRAINED 31) 1
def rdyD : State := rdy.set (F.OE_STATUS_LSA_DRAINED 31) 1
def str0 : State := { str with timers := [(.engineStart 31, 500 * ms - 1)] }
def rmp : State := { rdy with timers := [(.ramp 31 false, 10 * ms)] }

theorem witness_LanesFollowTheirStates :
  ((kr.lane 255 ≠ lnHold ∨ kr.ran (Timer.laneHold 255) (max 1 (kr.get (F.LANE_CFG_LINK_UP_HOLD_MS 255)) * ms) = false) ∧
    (wl.lane = 255 ∧ kr.laneRuns 255 = true ∧ (wl.block = true ∨ kr.hasMarkers 255 = true)) ∧
    (acq.lane 255 = lnAcquire ∧ acq.ran (Timer.laneAcquire 255) (500 * ms) = true) ∧
    (kr.lane 255 ≠ lnRetired ∧ kr.lane 255 ≠ lnFault) ∧
    lD.on (F.LANE_STATUS_BLOCK_LOCK 255) = false ∧
    kr.bothSync 255 = false) ∧
  (((lc 255 0).P0 0 9 = 255 ∧ Ready (specLane 0) (lc 255 0) acq ∧ (acq.on (F.LANE_CFG_CLK_SYNC 255) && !bit ((lc 255 0).le 4 4) 5 &&
      acq.laneTimed 255) = false) ∧
    (∀ (x : Cmd), x ∈ kr.accepted → ¬(x.begun = true ∧ isReadapt 255 x = true))) ∧
  (kr.lane 255 ≠ lnAcquire ∧
    (hold.lane 255 = lnHold ∧ hold.ran (Timer.laneHold 255) (max 1 (hold.get (F.LANE_CFG_LINK_UP_HOLD_MS 255)) * ms) = true) ∧
    (kr.on (F.LANE_STATUS_BLOCK_LOCK 255) = true ∧ kr.rsFec 255 = true ∧ kr.on (F.LANE_STATUS_FEC_DEGRADED 255) = false) ∧
    ((lc 255 0).P0 0 9 = 255 ∧ Ready (specLane 0) (lc 255 0) kr ∧ (kr.on (F.LANE_CFG_CLK_SYNC 255) && !bit ((lc 255 0).le 4 4) 5 &&
      kr.laneTimed 255) = true)) ∧
  (((lc 255 1).P0 0 9 = 255 ∧ upL.lane 255 ≠ lnRetired ∧ Ready (specLane 1) (lc 255 1) upL)) ∧
  (((lc 255 2).P0 0 9 = 255 ∧ upL.lane 255 ≠ lnRetired ∧ Ready (specLane 2) (lc 255 2) upL)) ∧
  (((lc 255 3).P0 0 9 = 255 ∧ upL.lane 255 ≠ lnRetired ∧ Ready (specLane 3) (lc 255 3) upL)) ∧
  (((lc 255 4).P0 0 9 = 255 ∧ lD.lane 255 ≠ lnRetired ∧ Ready (specLane 4) (lc 255 4) lD) ∧
    lD.laneRuns 255 = false ∧
    (wl.lane = 255 ∧ (lD.laneRuns 255 = false ∨ wl.block = false ∧ lD.hasMarkers 255 = false)) ∧
    (ret.lane 255 = lnRetired ∨ ret.lane 255 = lnFault)) ∧
  (((lc 255 1).P0 0 9 = 255 ∧ ret.lane 255 = lnRetired ∧ Ready (specLane 1) (lc 255 1) ret)) ∧
  (((lc 255 2).P0 0 9 = 255 ∧ ret.lane 255 = lnRetired ∧ Ready (specLane 2) (lc 255 2) ret)) ∧
  (((lc 255 3).P0 0 9 = 255 ∧ ret.lane 255 = lnRetired ∧ Ready (specLane 3) (lc 255 3) ret)) ∧
  (((lc 255 4).P0 0 9 = 255 ∧ ret.lane 255 = lnRetired ∧ Ready (specLane 4) (lc 255 4) ret) ∧
    (∃ x, x ∈ rdm.accepted ∧ x.begun = true ∧ isReadapt 255 x = true) ∧
    bsy.bothSync 255 = true) :=
  ⟨by decide +kernel, by decide +kernel, by decide +kernel, by decide +kernel, by decide +kernel, by decide +kernel, by decide +kernel, by decide +kernel, by decide +kernel, by decide +kernel, by decide +kernel⟩

theorem witness_EnginesFollowTheirStates :
  ((str.oe 31 = oeStarting ∧ str.elemHeld.contains (Domain.engines, 31) = false ∧ str.ran (Timer.engineStart 31) (500 * ms) = true) ∧
    (off.on (laserPresent 31 true) = false ∧ off.ramp? 31 true = none ∧ off.on (laserDrained 31 true) = false) ∧
    rdy.ran (Timer.ramp 31 true) (10 * ms) = false ∧
    ((en 31 0).P0 0 5 = 31 ∧ Ready (specEngine 0) (en 31 0) str)) ∧
  ((rdy.oe 31 ≠ oeStarting ∨ rdy.elemHeld.contains (Domain.engines, 31) = true) ∧
    (rdy.on (laserPresent 31 true) = true ∧ rdy.ramp? 31 true = none ∧ rdy.on (laserDrained 31 true) = false ∧ ((rdy.ramp? 31 !true) =
      none ∨ rdy.timer (Timer.ramp 31 !true) = none))) ∧
  (((en 31 1).P0 0 5 = 31 ∧ Ready (specEngine 1) (en 31 1) off ∧ off.oeCool 31 = true ∧ (off.oe 31 = oeOff ∨ off.oe 31 = oeFault ∨
      off.oe 31 = oeShutdown))) ∧
  (((en 31 1).P0 0 5 = 31 ∧ Ready (specEngine 1) (en 31 1) hotE ∧ hotE.oeCool 31 = false)) ∧
  (((en 31 2).P0 0 5 = 31 ∧ Ready (specEngine 2) (en 31 2) rdy ∧ rdy.oe 31 ≠ oeOff)) ∧
  (((en 31 3).P0 0 5 = 31 ∧ Ready (specEngine 3) (en 31 3) rdy ∧ (rdy.oe 31 = oeReady ∨ rdy.oe 31 = oeNoLight ∨ rdy.oe 31 = oeFault))) ∧
  (((en 31 3).P0 0 5 = 31 ∧ Ready (specEngine 3) (en 31 3) shd ∧ shd.oe 31 = oeShutdown)) ∧
  (((en 31 4).P0 0 5 = 31 ∧ Ready (specEngine 4) (en 31 4) rdy ∧ rdy.drawn 31 true = true ∧ rdy.ramp? 31 false = none)) ∧
  (((en 31 5).P0 0 5 = 31 ∧ Ready (specEngine 5) (en 31 5) rdy ∧ rdy.drawn 31 false = true ∧ rdy.ramp? 31 true = none)) ∧
  (((en 31 6).P0 0 5 = 31 ∧ Ready (specEngine 6) (en 31 6) rdy ∧ rdy.ramp? 31 false = none ∧ rdy.on (laserPresent 31 false) = true)) ∧
  (((en 31 7).P0 0 5 = 31 ∧ Ready (specEngine 7) (en 31 7) rdy ∧ rdy.ramp? 31 true = none ∧ rdy.on (laserPresent 31 true) = true)) ∧
  (((en 31 4).P0 0 5 = 31 ∧ Ready (specEngine 4) (en 31 4) off ∧ off.drawn 31 true = false) ∧
    (dr0.on (laserPresent 31 false) = false ∧ dr0.ramp? 31 false = none ∧ dr0.on (laserDrained 31 false) = true)) ∧
  (((en 31 5).P0 0 5 = 31 ∧ Ready (specEngine 5) (en 31 5) dr0 ∧ dr0.drawn 31 false = false)) ∧
  (((en 31 6).P0 0 5 = 31 ∧ Ready (specEngine 6) (en 31 6) off ∧ off.ramp? 31 false = none ∧ off.on (laserPresent 31 false) = false)) ∧
  (((en 31 7).P0 0 5 = 31 ∧ Ready (specEngine 7) (en 31 7) off ∧ off.ramp? 31 true = none ∧ off.on (laserPresent 31 true) = false) ∧
    (drn.ramp? 31 false = some (rc 4) ∧ drn.ran (Timer.ramp 31 false) (10 * ms) = true ∧ isDrain (rc 4) = true)) ∧
  ((rst.ramp? 31 false = some (rc 6) ∧ rst.ran (Timer.ramp 31 false) (10 * ms) = true ∧ isDrain (rc 6) = false ∧ rst.on (laserDrained
      31 false) = true) ∧
    (rdyD.on (laserPresent 31 false) = true ∧ rdyD.ramp? 31 false = none ∧ rdyD.on (laserDrained 31 false) = true) ∧
    (5 ≠ oeReady ∧ 255 / 8 = 31)) ∧
  ((str0.oe 31 = oeStarting ∧ str0.elemHeld.contains (Domain.engines, 31) = false ∧ str0.ran (Timer.engineStart 31) (500 * ms) =
      false) ∧
    (rdy.oe 31 = oeReady ∨ rdy.oe 31 = oeNoLight ∨ rdy.oe 31 = oeStarting) ∧
    (rmp.ran (Timer.ramp 31 false) (10 * ms) = true ∧ rmp.ramp? 31 false = none)) ∧
  ((rst.on (laserPresent 31 true) = true ∧ rst.ramp? 31 true = none ∧ rst.on (laserDrained 31 true) = false ∧ (rst.ramp? 31 !true) =
      some (rc 6) ∧ rst.timer (Timer.ramp 31 !true) ≠ none)) :=
  ⟨by decide +kernel, by decide +kernel, by decide +kernel, by decide +kernel, by decide +kernel, by decide +kernel, by decide +kernel, by decide +kernel, by decide +kernel, by decide +kernel, by decide +kernel, by decide +kernel, by decide +kernel, by decide +kernel, by decide +kernel, by decide +kernel, by decide +kernel, by decide +kernel⟩

end Optics

/-! #### Bypass pairs, crystals and taps -/

namespace Measures

def bp (n : Nat) : Submission := cmd 7 n (form 0 [(resetWord (R.PWR_BP_MAP0)).toNat] ++ by8 [3,0,0,0])
def bh : Submission := cmd 7 15 (form 1 [100])
def bS : State := { live with timers := [(.bpHold 3, 100000 * sec)] }
def xm (b : Nat) (s : State) : State := (s.set F.MEAS_STATUS_XO_MAIN_OK b)
def xs (b : Nat) (s : State) : State := (s.set F.MEAS_STATUS_XO_SPARE_OK b)
def ov (b : Nat) (s : State) : State := (s.set F.MEAS_STATUS_OVEN_STABLE b)
def both : State := ov 1 (xs 1 (xm 1 live))
def noM : State := ov 1 (xs 1 (xm 0 live))
def noMc : State := ov 0 (xs 0 (xm 0 live))
def win : State := { both with spareWin := [5], spareBad := 1 }
def win2 : State := { both with spareWin := [5], spareBad := 2 }
def msp : State := noM.set F.MEAS_STATUS_MASTER_SPARE 1
def lrn : State := { ((both.set F.DPLL_CTRL_AGE_LEARN 1).set F.DPLL_STATUS_HISTORY_VALID 1) with dpll := { lockedMs := 86400000 } }
def evd : State := { both with evals := [(evCompare, 1000), (evAgeing, 1000)] }
def cmx : State := { both.setI F.MEAS_XO_AGEING_RATE 1 with corrAcc := corrMax - 1 }
def xob : State := { noM with timers := [(.xoBack, 1800 * sec)] }
def edge (e : Nat) : TdcEdge := { e := e, c := 0, c1 := 0, c2 := 1200 }
def tapS : State := { (live.set (F.LANE_STATUS_BLOCK_LOCK 271) 1) with nt := 5 * us + 1000 }
def th : TapHalf := { edge := edge (5 * us + 500000), bitpos := 9, cycles := 3 }
def pOf : Nat := (((th.edge.e : Int) - tdcUnits th.edge.c th.edge.c1 th.edge.c2).toNat) - 5 * us
def xOf : Nat := ((((edge (7*us)).e : Int) - tdcUnits 0 0 1200).toNat)
def me : MiEdge := { idx := 3, time := some (4 * us) }
def mi (c : MiChan) : State := { live with chans := [(7, c)] }
def mi0 : State := mi { cfg := 0 }
def miPre : State := mi { cfg := 1 + 32 }
def miT : State := mi { cfg := 1 }
def miA : State := { mi { cfg := 1, arm := 1000, armed := some me } with nt := 5 * us, elapsed := 5 * us }
def miA0 : State := { mi { cfg := 1, arm := 1000, armed := some me } with nt := 4 * us, elapsed := 4 * us }
def expY : Int := (miA.expiry 7).getD 0
def miG : State := { mi { cfg := 4, gate0 := some 10 } with nt := sec }
def miG0 : State := { mi { cfg := 4, gate0 := some 10 } with nt := 20 }

theorem witness_BypassPairsHoldAndDrop :
  ((Ready specBypassPair (bp 3) bS ∧ (bp 3).P0 0 2 = 3) ∧
    (bS.bpNoLink 3 = true ∧ bS.ran (Timer.bpHold 3) (max 1 (bS.get F.PWR_BP_HOLD_LINK_HOLD_MS) * ms) = true)) ∧
  (Ready specBypassHold bh live ∧
    (4 ≤ 3 ∨ live.bpNoLink 3 = false ∨ live.ran (Timer.bpHold 3) (max 1 (live.get F.PWR_BP_HOLD_LINK_HOLD_MS) * ms) = false)) :=
  ⟨by decide +kernel, by decide +kernel⟩

theorem witness_CrystalsAreWatchedAndCorrected :
  (noM.on F.MEAS_STATUS_XO_SPARE_OK = true ∧
    noM.on F.MEAS_STATUS_OVEN_STABLE = true ∧
    (lrn.evalDue evCompare ms = true ∧ lrn.on F.MEAS_STATUS_XO_MAIN_OK = true ∧ lrn.on F.MEAS_STATUS_XO_SPARE_OK = true ∧ lrn.spareWin
      = []) ∧
    (noM.evalDue evAgeing ms = true ∧ noM.on F.MEAS_STATUS_MASTER_SPARE = false ∧ (noM.corrAcc + noM.getI F.MEAS_XO_AGEING_RATE).natAbs
      < corrMax.natAbs) ∧
    (noM.on F.DPLL_CTRL_AGE_LEARN = false ∨ noM.on F.DPLL_STATUS_HISTORY_VALID = false ∨ noM.groomUp = false ∨ noM.dpll.lockedMs <
      86400000) ∧
    (noM.on F.MEAS_STATUS_XO_MAIN_OK = false ∧ (noM.on F.MEAS_STATUS_OVEN_STABLE = false ∨ noM.ran Timer.xoBack (1800 * sec) = false))) ∧
  ((noM.evalDue evCompare ms = true ∧ (noM.on F.MEAS_STATUS_XO_SPARE_OK = false ∨ noM.on F.MEAS_STATUS_XO_MAIN_OK = false)) ∧
    noMc.on F.MEAS_STATUS_XO_SPARE_OK = false ∧
    noMc.on F.MEAS_STATUS_OVEN_STABLE = false ∧
    (win.evalDue evCompare ms = true ∧ win.on F.MEAS_STATUS_XO_MAIN_OK = true ∧ win.on F.MEAS_STATUS_XO_SPARE_OK = true ∧ win.spareWin
      ≠ [] ∧ 2000000 < (2000001 - win.getI F.MEAS_SPARE_OFFSET_OFFSET).natAbs ∧ win.spareBad < 2) ∧
    (win2.evalDue evCompare ms = true ∧ win2.on F.MEAS_STATUS_XO_MAIN_OK = true ∧ win2.on F.MEAS_STATUS_XO_SPARE_OK = true ∧
      win2.spareWin ≠ [] ∧ 2000000 < (2000001 - win2.getI F.MEAS_SPARE_OFFSET_OFFSET).natAbs ∧ 2 ≤ win2.spareBad)) ∧
  ((msp.evalDue evAgeing ms = true ∧ msp.on F.MEAS_STATUS_MASTER_SPARE = true) ∧
    (lrn.on F.DPLL_CTRL_AGE_LEARN = true ∧ lrn.on F.DPLL_STATUS_HISTORY_VALID = true ∧ lrn.groomUp = true ∧ 86400000 ≤
      lrn.dpll.lockedMs) ∧
    evd.evalDue evCompare ms = false ∧
    evd.evalDue evAgeing ms = false ∧
    (cmx.evalDue evAgeing ms = true ∧ cmx.on F.MEAS_STATUS_MASTER_SPARE = false ∧ corrMax ≤ cmx.corrAcc + cmx.getI
      F.MEAS_XO_AGEING_RATE ∧ cmx.corrAcc < corrMax) ∧
    (xob.on F.MEAS_STATUS_XO_MAIN_OK = false ∧ xob.on F.MEAS_STATUS_OVEN_STABLE = true ∧ xob.ran Timer.xoBack (1800 * sec) = true)) :=
  ⟨by decide +kernel, by decide +kernel, by decide +kernel⟩

theorem witness_TapsAndInstrumentInputsRecord :
  ((286 ≤ 286 ∨ live.heldDomain 1 = true ∨ live.sampleDue 286 (live.nt / us * us) = false) ∧
    (8 ≤ 8 ∨ live.heldDomain 1 = true) ∧
    mi0.expiry 7 = none ∧
    (mi0.mi 7).gate0 = none ∧
    (tapS.heldDomain 1 = false ∧ tapS.sampleDue 271 (tapS.nt / us * us) = true ∧ tapS.tapRx 271 = true ∧ tdcGood th.edge.c1 th.edge.c2
      = true ∧ (↑th.edge.e - tdcUnits th.edge.c th.edge.c1 th.edge.c2).toNat = tapS.nt / us * us + pOf ∧ pOf < us) ∧
    (mi0.heldDomain 1 = false ∧ mi0.asyms = [] ∧ mi0.calRuns = [] ∧ ((mi0.miMode 7).fst = 0 ∨ (mi0.mi 7).passes true = false))) ∧
  ((mi0.heldDomain 1 = false ∧ mi0.sampleDue 0 (mi0.nt / us * us) = true ∧ mi0.tapRx 0 = false ∧ mi0.tapTx 0 = false) ∧
    (miPre.heldDomain 1 = false ∧ miPre.asyms = [] ∧ miPre.calRuns = [] ∧ (miPre.miMode 7).fst ≠ 0 ∧ (miPre.mi 7).passes true = true ∧
      (miPre.mi 7).pre + 1 < (miPre.mi 7).ratio)) ∧
  ((miT.heldDomain 1 = false ∧ miT.asyms = [] ∧ miT.calRuns = [] ∧ miT.miMode 7 = (1, 7) ∧ (miT.mi 7).passes true = true ∧ (miT.mi
      7).ratio ≤ (miT.mi 7).pre + 1 ∧ (miT.mi 7).div = 1 ∧ (miT.mi 7).conv = none ∧ (miT.mi 7).recs.length < 16384 ∧ tdcGood (edge (7 *
      us)).c1 (edge (7 * us)).c2 = true ∧ (↑(edge (7 * us)).e - tdcUnits (edge (7 * us)).c (edge (7 * us)).c1 (edge (7 * us)).c2).toNat
      = xOf) ∧
    (miA.expiry 7 = some expY ∧ expY ≤ ↑(miA.nt + grid) ∧ (miA.mi 7).armed = some me ∧ (miA.mi 7).recs.length < 16384) ∧
    (miA0.expiry 7 = some expY ∧ ↑(miA0.nt + grid) < expY)) ∧
  (((miG.mi 7).gate0 = some 10 ∧ 10 + (miG.mi 7).gateLen ≤ miG.nt + grid ∧ (miG.mi 7).recs.length < 16384) ∧
    ((miG0.mi 7).gate0 = some 10 ∧ miG0.nt + grid < 10 + (miG0.mi 7).gateLen)) :=
  ⟨by decide +kernel, by decide +kernel, by decide +kernel, by decide +kernel⟩

end Measures

/-! #### References and the DPLL -/

namespace Selects

def rw (l : List Nat) : List Nat := l.map (fun a => (resetWord a).toNat)
def rC (r en : Nat) : Submission := cmd 7 r (form 0 ((rw (slotRegs r)).mapIdx (fun i w => if i = 0 then w ||| en else w)))
def rG (m : Nat) : Submission := cmd 7 15 (form 1 (rw globalRegs))
def rE : Submission := cmd 7 15 (form 2 (rw esmcRegs))
def rR (r : Nat) : Submission := cmd 7 r (form 3 [])
def sl (r st : Nat) (s : State) : State := s.set (F.DPLL_REF_STATUS_STATE r) st
def cs : State := live.set (F.LANE_CFG_CLK_SYNC 0) 1
def q3 : State := sl 3 slQualified live
def fs3 : State := (q3.set F.DPLL_STATUS_FREQ_SEL 3).set (F.DPLL_REF_STATUS_ACTIVE 3) 1
def r13 : State := { sl 13 slQualified live with timers := [(.ref13, 10 * ms)] }
def qg : State := { ((sl 3 slQualifying live).set (F.DPLL_REF_STATUS_ACTIVE 3) 1) with timers := [(.qual 3, 1000000 * sec)] }
def qg2 : State := { qg with slots := [(3, { points := [(2 * sec, 0, 0), (0, 0, -(qg.nominal 3 0))] })] }
def nomC : Nat := (qg.laneKbps (qg.get (F.DPLL_REF_CFG_LANE 3))) * 1000 / 256
def qg3 : State := { qg with slots := [(3, { points := [(2 * sec, 0, 2 * nomC), (0, 0, 0)] })] }
def slc : State := (((sl 10 slQualified live).set (F.DPLL_REF_CFG_PRIORITY 10) 2).set (F.DPLL_REF_CFG_PRIORITY 3) 3)
def noEv (s : State) : State := { s with evals := [(evMonitor, 1000), (evSelect, 1000), (evDpll, 1000), (evEsmc, 2)] }
def qe3 : State := noEv qg3
def qe2 : State := noEv qg2
def seln : State := { live with dpll := { selNext := some (3 * sec, 3, 10) } }
def dpS (st f t : Nat) (s : State) : State := ((s.set F.DPLL_STATUS_STATE st).set F.DPLL_STATUS_FREQ_SEL f).set F.DPLL_STATUS_TIME_SEL t
def st15 : Submission := cmd 7 0 (by8 [5,0,0,0,0,0,0,0])
def stHi : Submission := cmd 7 0 (by8 [0,0,0,0,0,2,0,0])
def stLo : Submission := cmd 7 0 (by8 [0,0,0,0,0,0xF0,0xFF,0xFF])
def esm (p : Nat) (ssm : Nat) : List Byte := let b := by8 ([0x01,0x80,0xC2,0,0,2, 2,0,0,0,0,2, 0x88,0x09, 0x0A, 0,0x19,0xA7, 0,1, 0x10,0,0,0, 1,0,4,ssm] ++ List.replicate 32 0); b ++ leBytes 4 (crc32 b)
def rx0 : Frame := { port := 271, tin := 100, stage := .receiving, arrived := 10, maxFrame := 1522, inLedger := true, stored := true }
def es : State := (({ live.set (F.LANE_STATUS_STATE 271) lnUp with frames := [(7, rx0)] }).set (F.DPLL_REF_CFG_QL_ESMC 3) 1).set (F.DPLL_REF_CFG_ENABLE 3) 1
def es2 : State := (es.set (F.DPLL_REF_CFG_LANE 3) 271).set ⟨R.DPLL_ESMC_EN 8, 15, 1⟩ 1
def g60 : List Byte := by8 [2,0,0,0,0,1]
def d0 : State := dpS 0 15 15 live
def d1 : State := dpS 1 15 15 live
def d3 : State := dpS 3 3 15 live
def stp (pol : Nat) (ph : Int) : State := { ((dpS 2 10 10 live).set F.DPLL_CTRL_STEP_POLICY pol) with slots := [(10, { phase := some ph })] }
def stp0 : State := stp 0 (10000000000 * 65536)
def stp1 : State := stp 1 (10000000000 * 65536)
def stp1n : State := stp 1 (-(10000000000 * 65536))
def stp2 : State := stp 2 (10000000000 * 65536)
def lh : State := { live with dpll := { learnMs := 3600001 } }
def et : State := { (live.set (F.DPLL_REF_CFG_QL_ESMC 3) 1) with timers := [(.esmc 3, 1000 * sec)] }
def pe : State := (live.set ⟨R.DPLL_ESMC_EN 8, 15, 1⟩ 1).set (F.LANE_CFG_CLK_SYNC 271) 1
def ho : State := noEv { ((dpS dpHoldover 15 15 live).set F.DPLL_HO_WINDOW_HO_WINDOW_S 100) with timers := [(.holdover, 100 * sec)] }
def acts (a : DpAct) : State := { dpS dpAcquiring 3 15 live with dpll := { actNext := some (3 * sec, a, 1, 2) } }
def pq : State := pe.set F.DPLL_STATUS_QL_OUT 2
def lsH : State := (acts .lose).set F.DPLL_STATUS_HISTORY_VALID 1

theorem witness_ReferencesQualifyAndAreSelected :
  ((Ready (specRef 0) (rC 3 1) live ∧ (rC 3 1).P0 0 4 = 3 ∧ bit ((rC 3 1).le 8 4) 0 = true ∧ live.syncMode (bits ((rC 3 1).le 8 4) 5
      9) = false) ∧
    (cs.freqSel ≠ 3 ∧ cs.timeSel ≠ 3) ∧
    cs.ran Timer.ref13 (10 * ms) = false ∧
    (cs.slot 3 ≠ slQualifying ∨ cs.evalDue evMonitor ms = true ∨ cs.ran (Timer.qual 3) (cs.get (F.DPLL_REF_TIMING_QUAL_S 3) * sec) =
      false)) ∧
  (cs.evalDue evMonitor ms = true ∧
    cs.evalDue evSelect ms = true ∧
    (Ready (specRef 0) (rC 3 1) cs ∧ (rC 3 1).P0 0 4 = 3 ∧ (8 ≤ 3 ∨ bit ((rC 3 1).le 8 4) 0 = false ∨ cs.syncMode (bits ((rC 3 1).le 8
      4) 5 9) = true))) ∧
  ((Ready (specRef 1) (rG 0) live ∧ bits ((rG 0).le 8 4) 0 3 = live.get F.DPLL_CTRL_MODE)) ∧
  (Ready (specRef 2) rE live) ∧
  ((Ready (specRef 3) (rR 3) live ∧ (rR 3).P0 0 4 = 3 ∧ live.slot 3 = slDisabled)) ∧
  ((Ready (specRef 3) (rR 3) q3 ∧ (rR 3).P0 0 4 = 3 ∧ q3.slot 3 ≠ slDisabled)) ∧
  ((Ready (specRef 3) (rR 3) qg ∧ (rR 3).P0 0 4 = 3) ∧
    ((fs3.freqSel = 3 ∨ fs3.timeSel = 3) ∧ fs3.slotActive 3 false = false ∧ fs3.slot 3 = slQualified) ∧
    (r13.ran Timer.ref13 (10 * ms) = true ∧ r13.slot 13 = slQualified) ∧
    slc.selection.snd.fst = some 10) ∧
  ((slc.dpMode = mdAuto ∧ slc.selection.fst = some 10 ∧ slc.on F.DPLL_CTRL_HYBRID = false ∧ slc.on F.DPLL_CTRL_REVERTIVE = true) ∧
    (qe2.evalDue evMonitor ms = false ∧ qe2.slot 3 = slQualifying ∧ qe2.ran (Timer.qual 3) (qe2.get (F.DPLL_REF_TIMING_QUAL_S 3) * sec)
      = true ∧ qe2.on (F.DPLL_REF_STATUS_ACTIVE 3) = true ∧ qe2.slotSource 3 = true ∧ qe2.inAccept 3 = false) ∧
    qe2.evalDue evSelect ms = false ∧
    (qe3.evalDue evMonitor ms = false ∧ qe3.slot 3 = slQualifying ∧ qe3.ran (Timer.qual 3) (qe3.get (F.DPLL_REF_TIMING_QUAL_S 3) * sec)
      = true ∧ qe3.on (F.DPLL_REF_STATUS_ACTIVE 3) = true ∧ qe3.slotSource 3 = true ∧ qe3.inAccept 3 = true)) ∧
  ((seln.dpll.selNext = some (3 * sec, 3, 10) ∧ seln.dpll.actNext = none)) :=
  ⟨by decide +kernel, by decide +kernel, by decide +kernel, by decide +kernel, by decide +kernel, by decide +kernel, by decide +kernel, by decide +kernel, by decide +kernel⟩

theorem witness_DpllFollowsItsStates :
  (d0.evalDue evDpll ms = true ∧
    (d0.dp ≠ dpHoldover ∨ d0.freqNext < 14 ∨ d0.evalDue evSelect ms = true ∨ d0.get F.DPLL_HO_WINDOW_HO_WINDOW_S = 4294967295 ∨ d0.ran
      Timer.holdover (d0.get F.DPLL_HO_WINDOW_HO_WINDOW_S * sec) = false) ∧
    (14 ≤ d0.timeSel ∨ d0.timeError.natAbs < max 1 (d0.get F.DPLL_STEP_STEP_NS) * ns) ∧
    d0.dpll.learnMs < 3600000) ∧
  ((Ready specSteer st15 d0 ∧ (toInt 48 (st15.le 0 6)).natAbs ≤ 1000000000000) ∧
    (d0.pduAt 2 271 g60 = none ∨ isEsmc g60 (etherAt (d0.sTpid 271) g60) = false) ∧
    (8 ≤ 3 ∨ d0.on (F.DPLL_REF_CFG_QL_ESMC 3) = false ∨ d0.ran (Timer.esmc 3) d0.esmcTimeout = false)) ∧
  ((d0.coreReady false = false ∨ d0.evals.getD evQl 0 = d0.get F.DPLL_STATUS_QL_OUT)) ∧
  ((d0.coreReady false = true ∧ (∀ (q : Nat), q < 272 → q ≠ 271 → d0.on { addr := R.DPLL_ESMC_EN (q / 32), lsb := q % 32, w := 1 } =
      false) ∧ d0.slotDue evEsmc sec = true)) ∧
  ((Ready specSteer stHi d1 ∧ 1000000000000 < toInt 48 (stHi.le 0 6))) ∧
  ((Ready specSteer stLo d3 ∧ toInt 48 (stLo.le 0 6) < -1000000000000) ∧
    (stp0.timeSel < 14 ∧ stp0.on F.DPLL_STATUS_STEP_PENDING = false ∧ max 1 (stp0.get F.DPLL_STEP_STEP_NS) * ns ≤ stp0.timeError.natAbs
      ∧ stp0.get F.DPLL_CTRL_STEP_POLICY = 0)) ∧
  ((stp1.timeSel < 14 ∧ stp1.on F.DPLL_STATUS_STEP_PENDING = false ∧ max 1 (stp1.get F.DPLL_STEP_STEP_NS) * ns ≤ stp1.timeError.natAbs
      ∧ stp1.get F.DPLL_CTRL_STEP_POLICY = 1 ∧ stp1.timeError ≤ 0) ∧
    (stp1n.timeSel < 14 ∧ stp1n.on F.DPLL_STATUS_STEP_PENDING = false ∧ max 1 (stp1n.get F.DPLL_STEP_STEP_NS) * ns ≤
      stp1n.timeError.natAbs ∧ stp1n.get F.DPLL_CTRL_STEP_POLICY = 1 ∧ 0 < stp1n.timeError) ∧
    (stp2.timeSel < 14 ∧ stp2.on F.DPLL_STATUS_STEP_PENDING = false ∧ max 1 (stp2.get F.DPLL_STEP_STEP_NS) * ns ≤ stp2.timeError.natAbs
      ∧ stp2.get F.DPLL_CTRL_STEP_POLICY = 2) ∧
    3600000 ≤ lh.dpll.learnMs ∧
    ((es2.pduAt 2 271 (esm 271 4)).isSome = true ∧ isEsmc (esm 271 4) (etherAt (es2.sTpid 271) (esm 271 4)) = true ∧ es2.groomUp =
      true)) ∧
  ((et.on (F.DPLL_REF_CFG_QL_ESMC 3) = true ∧ et.ran (Timer.esmc 3) et.esmcTimeout = true) ∧
    (pe.leadOf 271 = 271 ∧ pe.on { addr := R.DPLL_ESMC_EN (271 / 32), lsb := 271 % 32, w := 1 } = true ∧ pe.on (F.LANE_CFG_CLK_SYNC
      271) = true ∧ pe.groomUp = true ∧ ¬274 ∈ pe.innerHold) ∧
    ho.evalDue evDpll ms = false ∧
    (ho.dp = dpHoldover ∧ 14 ≤ ho.freqNext ∧ ho.evalDue evSelect ms = false ∧ ho.get F.DPLL_HO_WINDOW_HO_WINDOW_S ≠ 4294967295 ∧ ho.ran
      Timer.holdover (ho.get F.DPLL_HO_WINDOW_HO_WINDOW_S * sec) = true)) ∧
  ((ho.coreReady false = false ∨ ho.slotDue evEsmc sec = false) ∧
    (acts DpAct.stay).dpll.actNext = some (3 * sec, DpAct.stay, 1, 2)) ∧
  (((acts DpAct.unlock).dpll.actNext = some (3 * sec, DpAct.unlock, 1, 2) ∧ (DpAct.unlock = DpAct.acquire ∨ DpAct.unlock =
      DpAct.unlock)) ∧
    (acts DpAct.lock).dpll.actNext = some (3 * sec, DpAct.lock, 1, 2) ∧
    ((acts DpAct.lose).dpll.actNext = some (3 * sec, DpAct.lose, 1, 2) ∧ (acts DpAct.lose).on F.DPLL_STATUS_HISTORY_VALID = false)) ∧
  ((acts DpAct.steer).dpll.actNext = some (3 * sec, DpAct.steer, 1, 2) ∧
    (acts DpAct.unsteer).dpll.actNext = some (3 * sec, DpAct.unsteer, 1, 2)) ∧
  ((pq.coreReady false = true ∧ (∀ (q : Nat), q < 272 → q ≠ 271 → pq.on { addr := R.DPLL_ESMC_EN (q / 32), lsb := q % 32, w := 1 } =
      false) ∧ ¬pq.evals.getD evQl 0 = pq.get F.DPLL_STATUS_QL_OUT)) ∧
  ((lsH.dpll.actNext = some (3 * sec, DpAct.lose, 1, 2) ∧ lsH.on F.DPLL_STATUS_HISTORY_VALID = true)) :=
  ⟨by decide +kernel, by decide +kernel, by decide +kernel, by decide +kernel, by decide +kernel, by decide +kernel, by decide +kernel, by decide +kernel, by decide +kernel, by decide +kernel, by decide +kernel, by decide +kernel, by decide +kernel⟩

end Selects

/-! #### Synthesisers -/

namespace Relocks

def sySub (i v : Nat) : Submission := cmd 7 i (form 3 [v])
def syA : Submission := sySub 2 140
def syB : Submission := sySub 2 (live.synMult 2)
def held2 : State := live.set F.RST_DOMAIN_HELD 4
def held1 : State := live.set F.RST_DOMAIN_HELD 2
def stg (n : Nat) (x : SynStage) (s : State) : State := { s with synStage := [(n, x)] }
def lkg : State := stg 1 (.locking true) live
def ckg : State := stg 1 (.checking true) live
def psd : State := stg 1 (.passed 7) { live with nt := 100 }
def psd2 : State := stg 1 (.passed 7) { live with nt := us }
def due : State := { stg 1 (.locking true) live with timers := [(.relock 1, sec)] }

theorem witness_SynthesisersRelockUnderGuard :
  ((lkg.heldDomain 2 = false ∧ (false = true → lkg.on (synBit 0 1) = true)) ∧
    (live.heldDomain 1 = false ∧ live.elemHeld.contains (Domain.syn, 1) = false ∧ live.synAt 1 = SynStage.idle) ∧
    (lkg.synAt 1 = SynStage.idle ∨ lkg.synAt 1 = SynStage.locking true ∨ lkg.synAt 1 = SynStage.passed 7) ∧
    (lkg.synAt 1 = SynStage.idle ∨ lkg.synAt 1 = SynStage.locking true ∨ lkg.synAt 1 = SynStage.checking true) ∧
    (psd.synAt 1 = SynStage.idle ∨ psd.synAt 1 = SynStage.passed 7)) ∧
  ((Ready (specClkout 3) syB live ∧ (State.fetched syB live).synMult syB.p0.toNat = syB.le 8 4) ∧
    (held1.heldDomain 1 = true ∨ held1.elemHeld.contains (Domain.syn, 1) = true)) ∧
  ((Ready (specClkout 3) syA lkg ∧ (State.fetched syA lkg).synMult syA.p0.toNat ≠ syA.le 8 4) ∧
    (held2.heldDomain 2 = true ∨ false = true ∧ held2.on (synBit 0 1) = false) ∧
    (lkg.heldDomain 1 = false ∧ lkg.elemHeld.contains (Domain.syn, 1) = false ∧ lkg.synAt 1 = SynStage.locking true)) ∧
  (((lkg.synAt 1 = SynStage.locking true ∨ lkg.synAt 1 = SynStage.checking true) ∧ lkg.ran (Timer.relock 1) (if true = true then ms
      else ms + 10 * us) = false) ∧
    (ckg.heldDomain 1 = false ∧ ckg.elemHeld.contains (Domain.syn, 1) = false ∧ (ckg.synAt 1 = SynStage.checking true ∨ ckg.synAt 1 =
      SynStage.passed 7)) ∧
    ckg.synAt 1 = SynStage.checking true ∧
    (psd.synAt 1 = SynStage.passed 7 ∧ psd.nt % us ≠ 0 ∧ psd.nt / us = 7 / us) ∧
    (psd2.synAt 1 = SynStage.passed 7 ∧ (psd2.nt % us = 0 ∨ psd2.nt / us ≠ 7 / us)) ∧
    ((due.synAt 1 = SynStage.locking true ∨ due.synAt 1 = SynStage.checking true) ∧ due.ran (Timer.relock 1) (if true = true then ms
      else ms + 10 * us) = true)) ∧
  ((Ready (specClkout 3) syA live ∧ (State.fetched syA live).synMult syA.p0.toNat ≠ syA.le 8 4)) :=
  ⟨by decide +kernel, by decide +kernel, by decide +kernel, by decide +kernel, by decide +kernel⟩

end Relocks

/-! #### Outputs -/

namespace Schedules

def cc (en : Nat) : Submission := cmd 7 3 (form 0 [en, 8, 0, 5])
def pu (i en per : Nat) : Submission := cmd 7 i (form 1 [en, per, 200, 5])
def td : Submission := cmd 7 0 (form 2 [115200 * 256])
def al : Submission := { bare 7 0x1FF 0 with p1 := 0, p2 := 0 }
def ck : ClkOut := { anchor := 7, div := 4, delay := 0, mult := 128 }
def po : PulseOut := { offset := 0, next := 2 * sec, period := sec, delay := 0, newPeriod := sec, newDelay := 0, width := 200 * ns, highEnd := 0 }
def poH : PulseOut := { po with highEnd := 5 * sec }
def sk : State := { live with clkouts := [(3, ck)], pulses := [(1, po)] }
def s2 : State := { live with pulses := [(1, po)], nt := 3 * sec, elapsed := 3 * sec }
def s3 : State := { live with pulses := [(1, poH)], nt := sec, elapsed := sec }
def s4 : State := ({ s2 with nt := 3 * sec + 5 }.set (F.PULSE_CFG_SQUELCH 1) 1)
def poN : PulseOut := { po with newPeriod := 3 * sec }

theorem witness_OutputsFollowTheirSchedules :
  (Ready (specClkout 0) (cc 1) live) ∧
  ((Ready (specClkout 0) (cc 0) sk ∧ 0 ≠ (cc 0).p0.toNat) ∧
    Tbl.find 1 sk.clkouts = none ∧
    Tbl.find 3 sk.pulses = none ∧
    po.next % po.newPeriod = 0 ∧
    Tbl.find 3 sk.clkouts = some ck) ∧
  ((Ready (specClkout 1) (pu 1 0 1000) sk ∧ 0 ≠ (pu 1 0 1000).p0.toNat)) ∧
  (Ready (specClkout 1) (pu 3 1 1000) live) ∧
  ((Ready (specClkout 1) (pu 1 0 1000) sk ∧ (pu 1 0 1000).p0.toNat < 2) ∧
    (Tbl.find 1 sk.pulses = some po ∧ po.highEnd ≤ sk.elapsedAt ((sk.acceptAt true al + 1 + sec - 1) / sec * sec)) ∧
    (Tbl.find 1 sk.pulses = some po ∧ ↑sk.elapsed + po.now.offset < ↑po.now.next + po.now.delay)) ∧
  (Ready (specClkout 1) (pu 1 1 1000) sk ∧
    Ready (specClkout 2) td live) ∧
  (Ready specAlign al sk ∧
    (Tbl.find 1 s2.pulses = some po ∧ ↑po.now.next + po.now.delay ≤ ↑s2.elapsed + po.now.offset ∧ (s2.on (F.PULSE_CFG_SQUELCH 1) =
      false ∨ s2.degraded = false)) ∧
    (Tbl.find 1 s3.pulses = some poH ∧ s3.elapsedAt ((s3.acceptAt true al + 1 + sec - 1) / sec * sec) < poH.highEnd)) ∧
  ((Tbl.find 1 s4.pulses = some po ∧ ↑po.now.next + po.now.delay ≤ ↑s4.elapsed + po.now.offset ∧ s4.on (F.PULSE_CFG_SQUELCH 1) = true
      ∧ s4.degraded = true) ∧
    poN.next % poN.newPeriod ≠ 0) :=
  ⟨by decide +kernel, by decide +kernel, by decide +kernel, by decide +kernel, by decide +kernel, by decide +kernel, by decide +kernel, by decide +kernel⟩

end Schedules

/-! #### Treadles and time of day -/

namespace Treads

def tp (st per w n : Nat) : Submission := cmd 7 5 (form 0 [st % 2^32, st / 2^32, per, w, n, 1])
def ts : Submission := cmd 7 5 (form 1 [0,0,0,0,0,0])
def tpR : Submission := tp (ct (5 * sec)) 1000 20 3
def tp0 : Submission := tp 0 0 20 0
def l10 : State := { live with nt := 10 * sec, elapsed := 10 * sec }
def boundary : Nat := l10.treadleStart 5 (l10.nt - grid + 1)
def pR : Trd := (newTreadle ((boundary : Int) + ctDiff (ct (5 * sec)) (ct boundary)) 1000 3 boundary).getD { start := 0, period := 0, k := 0, stop := none }
def gr : Trd := { start := 5 * sec, period := 1000 * ns, k := 2, stop := some 9 }
def grE : Trd := { gr with k := 8 }
def grL : Trd := { gr with start := 50 * sec }
def hasT (g : Trd) : State := { l10 with treadles := [(5, g)] }
def hR : State := hasT gr
def hL : State := hasT grL
def hE : State := (hasT grE)
def hG : State := hR.set (F.TRD_CFG_GUARD 5) 1
def po : PulseOut := { offset := 0, next := 10 * sec, period := sec, delay := 0, newPeriod := sec, newDelay := 0, width := 200 * ns, last := some (9 * sec) }
def poL : PulseOut := { po with last := some (10 * sec) }
def txS (p : PulseOut) : State := { (l10.set F.TOD_CFG_TX_EN 1).set F.TOD_CFG_TX_PPS 1 with pulses := [(1, p)] }
def tx1 : State := txS po
def tx2 : State := txS poL
def body : List Byte := by8 [1, 24, 0,0,0,0,0,9, 0,37, 4, 6, 0x20, 0x20, 0,0,0,0, 0,8]
def msg : List Byte := by8 [0x5A, 0xC3] ++ body ++ beBytes 2 (body.foldl crc16Byte 0xFFFF)
def msgBad : List Byte := by8 [0x5A, 0xC3] ++ body ++ by8 [0,0]
def msgOdd : List Byte := by8 [0x5A, 0xC3, 2, 24]
def rx0 : State := l10.set F.TOD_CFG_RX_EN 1
def rx1 : State := { rx0 with ppsEdge := [(10, 9 * sec), (20, 8 * sec)] }
def rx2 : State := { rx0 with timers := [(.todRx, 3 * sec)] }

theorem witness_TreadlesAndTimeOfDaySerial :
  ((Ready specTreadleProgram tp0 l10 ∧ newTreadle (↑((State.fetched tp0 l10).treadleStart (tp0.P0 0 3) (l10.acceptAt true tp0 + 1)) +
      ctDiff (tp0.le 8 8) (ct ((State.fetched tp0 l10).treadleStart (tp0.P0 0 3) (l10.acceptAt true tp0 + 1)))) (tp0.le 16 4) (tp0.le
      24 4) ((State.fetched tp0 l10).treadleStart (tp0.P0 0 3) (l10.acceptAt true tp0 + 1)) = none) ∧
    Tbl.find 5 l10.treadles = none ∧
    (hR.on F.TOD_CFG_TX_EN = false ∨ Tbl.find (hR.get F.TOD_CFG_TX_PPS) hR.pulses = none) ∧
    hR.on F.TOD_CFG_RX_EN = false ∧
    hR.ran Timer.todRx (2 * sec) = false) ∧
  ((Ready specTreadleProgram tpR l10 ∧ newTreadle (↑((State.fetched tpR l10).treadleStart (tpR.P0 0 3) (l10.acceptAt true tpR + 1)) +
      ctDiff (tpR.le 8 8) (ct ((State.fetched tpR l10).treadleStart (tpR.P0 0 3) (l10.acceptAt true tpR + 1)))) (tpR.le 16 4) (tpR.le
      24 4) ((State.fetched tpR l10).treadleStart (tpR.P0 0 3) (l10.acceptAt true tpR + 1)) = some pR ∧ 0 ≠ tpR.P0 0 3)) ∧
  ((Ready specTreadleStop ts hR ∧ 0 ≠ ts.P0 0 3) ∧
    (Tbl.find 5 hR.treadles = some gr ∧ gr.edge gr.k ≤ ↑hR.nt ∧ (hR.on (F.TRD_CFG_GUARD 5) = false ∨ hR.degraded = false))) ∧
  ((Tbl.find 5 hR.treadles = some gr ∧ gr.edge gr.k ≤ ↑hR.nt ∧ gr.period ≠ 0 ∧ (∀ (n : Nat), gr.stop = some n → gr.k + 1 < n)) ∧
    (Tbl.find 5 hL.treadles = some grL ∧ ↑hL.nt < grL.edge grL.k) ∧
    (Tbl.find 5 hE.treadles = some grE ∧ grE.edge grE.k ≤ ↑hE.nt ∧ (grE.period = 0 ∨ ∃ n, grE.stop = some n ∧ n ≤ grE.k + 1))) ∧
  ((Tbl.find 5 hG.treadles = some gr ∧ gr.edge gr.k ≤ ↑hG.nt ∧ hG.on (F.TRD_CFG_GUARD 5) = true ∧ hG.degraded = true) ∧
    (tx1.on F.TOD_CFG_TX_EN = true ∧ Tbl.find (tx1.get F.TOD_CFG_TX_PPS) tx1.pulses = some po ∧ po.last = some (9 * sec) ∧ ↑(9 * sec) +
      po.delay + 1000 * 1000 * ↑ns ≤ ↑tx1.elapsed + po.offset) ∧
    (tx2.on F.TOD_CFG_TX_EN = true ∧ Tbl.find (tx2.get F.TOD_CFG_TX_PPS) tx2.pulses = some poL ∧ poL.last = some (10 * sec) ∧
      ↑tx2.elapsed + poL.offset < ↑(10 * sec) + poL.delay + 1000 * 1000 * ↑ns)) ∧
  ((rx1.on F.TOD_CFG_RX_EN = true ∧ ((true = true ∧ byteAt msg 0 = 90 ∧ byteAt msg 1 = 195) ∧ (byteAt msg 2 = 1 ∧ byteAt msg 3 = 24 ∧
      msg.length = 24) ∧ List.foldl crc16Byte 65535 (List.take 20 (List.drop 2 msg)) = beAt msg 22 2) ∧ Tbl.find (10 + rx1.get
      F.TOD_CFG_RX_PPS) rx1.ppsEdge = some (9 * sec) ∧ 9 * sec < 9 * sec + 500 ∧ 9 * sec + 500 ≤ 9 * sec + sec) ∧
    (rx1.on F.TOD_CFG_RX_EN = true ∧ (¬(false = true ∧ byteAt msg 0 = 90 ∧ byteAt msg 1 = 195)))) ∧
  ((rx1.on F.TOD_CFG_RX_EN = true ∧ (true = true ∧ byteAt msgOdd 0 = 90 ∧ byteAt msgOdd 1 = 195) ∧ (¬(byteAt msgOdd 2 = 1 ∧ byteAt
      msgOdd 3 = 24 ∧ msgOdd.length = 24))) ∧
    (rx1.on F.TOD_CFG_RX_EN = true ∧ (true = true ∧ byteAt msgBad 0 = 90 ∧ byteAt msgBad 1 = 195) ∧ (byteAt msgBad 2 = 1 ∧ byteAt
      msgBad 3 = 24 ∧ msgBad.length = 24) ∧ List.foldl crc16Byte 65535 (List.take 20 (List.drop 2 msgBad)) ≠ beAt msgBad 22 2) ∧
    rx2.ran Timer.todRx (2 * sec) = true) ∧
  (∀ q, Tbl.find (10 + rx1.get F.TOD_CFG_RX_PPS) rx1.ppsEdge = some q ∨ Tbl.find (10 + rx1.get F.TOD_CFG_RX_PPS + 10) rx1.ppsEdge =
    some q → 8 * sec ≤ q ∨ q + sec < 8 * sec) :=
  ⟨by decide +kernel, by decide +kernel, by decide +kernel, by decide +kernel, by decide +kernel, by decide +kernel, by decide +kernel, by
      intro q h
      rw [show Tbl.find (10 + rx1.get F.TOD_CFG_RX_PPS) rx1.ppsEdge = some (9 * sec) by decide +kernel,
        show Tbl.find (10 + rx1.get F.TOD_CFG_RX_PPS + 10) rx1.ppsEdge = some (8 * sec) by decide +kernel] at h
      simp only [Option.some.injEq] at h
      omega⟩

end Treads

/-! #### Network time -/

namespace Adjusts

def adj (f : Nat) (v : Nat) : Submission := cmd 7 0 (by8 [f,0,0,0,0,0,0,0] ++ leBytes 8 v ++ leBytes 8 0)
def wt : Cmd := { op := 0x20, sub := { ring := 7, index := 1, flags := 1, time := 40960 }, boundary := 2 * us }
def b0 : State := { live with nt := us, elapsed := us, accepted := [wt] }
def bSel : State := b0.set F.DPLL_STATUS_TIME_SEL 12
def bNo : State := { b0.set F.DPLL_STATUS_TIME_SEL 15 with timeSet := true }
def adS : Submission := adj 0 1000
def adT : Submission := adj 1 (2 * us)
def adV : Submission := adj 2 100
def fs1 : State := { bSel with slots := [(12, { phase := some (2 * us), edge := some 5 })] }
def qs (dp role : Nat) (s : State) : State := { (s.set F.DPLL_STATUS_STATE dp).set F.TIME_STATUS_ROLE role with timeSet := true }
def q0 : State := qs 2 2 (b0.set F.DPLL_STATUS_TIME_SEL 10 |>.set F.TIME_CTRL_PPS_TRACEABLE 1)
def q1 : State := qs 2 2 bNo
def q1f : State := qs 4 1 bNo
def q2 : State := qs 3 2 bNo
def q4 : State := qs 1 2 bNo
def q5 : State := qs 0 2 bNo
def q6 : State := (qs 0 2 bNo).set F.SYN_STATUS_SAFE1 1
def lp (l : Fld) (x : Nat) : State := { live.set l 1 with nt := (864000 + x + (live.getI F.TIME_UTC_UTC_OFFSET).toNat) * sec }
def l61 : State := lp F.TIME_UTC_LEAP61 1
def l59 : State := lp F.TIME_UTC_LEAP59 86399
def rl (r : Nat) : Submission := cmd 7 0 (by8 [r,0,0,0,0,0,0,0])
def rl0 : Submission := rl 0
def rl2 : Submission := rl 2
def peer : KplPeer := { enabled := true, cal := true, sync := true, noUp := false, clockId := 99, port := 3, cls := 6, accuracy := 0x21, variance := 0x4E5D, priority2 := 128, steps := 1, ttl := 4 }
def fo : State := { ((live.set F.TIME_STATUS_ROLE 1).set (F.KPL_STATUS_STATE 3) 3) with kpl := [(3, { peer := some peer })] }

theorem witness_NetworkTimeIsSetAdjustedAndGraded :
  ((Ready (specAdjust 0) adS bSel ∧ (bSel.timeSel < 14 ∧ (bSel.on F.DPLL_STATUS_STEP_PENDING = false ∨ bSel.get
      F.DPLL_CTRL_STEP_POLICY ≠ 2)))) ∧
  ((b0.timeSet = true ∨ ¬b0.timeSel ∈ [10, 11, 12, 13] ∨ b0.timeSel < 12 ∧ b0.todLabels b0.timeSel = false ∨ (b0.slotMem
      b0.timeSel).phase = none ∨ (b0.slotMem b0.timeSel).edge = none ∨ (b0.slotMem b0.timeSel).edge = some b0.elapsed) ∧
    b0.timeSet = false ∧
    b0.evalDue evQuality ms = false ∧
    ((b0.on F.TIME_UTC_LEAP61 = false ∨ (↑(b0.nt / sec) - b0.getI F.TIME_UTC_UTC_OFFSET) % 86400 ≠ 1) ∧ (b0.on F.TIME_UTC_LEAP59 =
      false ∨ (↑(b0.nt / sec) - b0.getI F.TIME_UTC_UTC_OFFSET) % 86400 ≠ 86399)) ∧
    (b0.role ≠ roFollow ∨ b0.groomUp = false)) ∧
  ((Ready (specAdjust 1) adT bSel ∧ (bSel.timeSel < 14 ∧ (bSel.on F.DPLL_STATUS_STEP_PENDING = false ∨ bSel.get
      F.DPLL_CTRL_STEP_POLICY ≠ 2)))) ∧
  ((Ready (specAdjust 2) adV b0 ∧ (b0.timeSel < 14 ∧ (b0.on F.DPLL_STATUS_STEP_PENDING = false ∨ b0.get F.DPLL_CTRL_STEP_POLICY ≠ 2) ∨
      b0.timeSet = true ∧ b0.timeSel < 14)) ∧
    (q5.timeSet = true ∧ q5.on F.MEAS_STATUS_MASTER_SPARE = false ∧ q5.on F.SYN_STATUS_SAFE1 = false ∧ q5.dp = dpFreeRun)) ∧
  ((Ready (specAdjust 0) adS bNo ∧ (¬(bNo.timeSel < 14 ∧ (bNo.on F.DPLL_STATUS_STEP_PENDING = false ∨ bNo.get F.DPLL_CTRL_STEP_POLICY
      ≠ 2))))) ∧
  ((Ready (specAdjust 1) adT bNo ∧ (¬(bNo.timeSel < 14 ∧ (bNo.on F.DPLL_STATUS_STEP_PENDING = false ∨ bNo.get F.DPLL_CTRL_STEP_POLICY
      ≠ 2))))) ∧
  ((Ready (specAdjust 2) adV q1 ∧ (¬(q1.timeSel < 14 ∧ (q1.on F.DPLL_STATUS_STEP_PENDING = false ∨ q1.get F.DPLL_CTRL_STEP_POLICY ≠
      2))) ∧ (¬(q1.timeSet = true ∧ q1.timeSel < 14)))) ∧
  ((fs1.timeSet = false ∧ (fs1.timeSel = 12 ∨ fs1.timeSel = 13 ∨ (fs1.timeSel = 10 ∨ fs1.timeSel = 11) ∧ fs1.todLabels fs1.timeSel =
      true) ∧ (fs1.slotMem fs1.timeSel).phase = some ((2 * us : Nat) : Int) ∧ (∃ x, (fs1.slotMem fs1.timeSel).edge = some x ∧ x <
      fs1.elapsed)) ∧
    (q0.timeSet = true ∧ q0.on F.MEAS_STATUS_MASTER_SPARE = false ∧ q0.on F.SYN_STATUS_SAFE1 = false ∧ q0.dp = dpLocked) ∧
    (fo.role = roFollow ∧ fo.groomUp = true)) ∧
  ((q1f.timeSet = true ∧ q1f.on F.MEAS_STATUS_MASTER_SPARE = false ∧ q1f.on F.SYN_STATUS_SAFE1 = false ∧ q1f.dp = dpSteered) ∧
    (q2.timeSet = true ∧ q2.on F.MEAS_STATUS_MASTER_SPARE = false ∧ q2.on F.SYN_STATUS_SAFE1 = false ∧ q2.dp = dpHoldover) ∧
    (q4.timeSet = true ∧ q4.on F.MEAS_STATUS_MASTER_SPARE = false ∧ q4.on F.SYN_STATUS_SAFE1 = false ∧ q4.dp = dpAcquiring) ∧
    (q6.timeSet = true ∧ (q6.on F.MEAS_STATUS_MASTER_SPARE = true ∨ q6.on F.SYN_STATUS_SAFE1 = true)) ∧
    fo.evalDue evQuality ms = true) ∧
  ((l61.on F.TIME_UTC_LEAP61 = true ∧ (↑(l61.nt / sec) - l61.getI F.TIME_UTC_UTC_OFFSET) % 86400 = 1 ∧ l61.getI F.TIME_UTC_UTC_OFFSET
      < 32767) ∧
    (l59.on F.TIME_UTC_LEAP59 = true ∧ (↑(l59.nt / sec) - l59.getI F.TIME_UTC_UTC_OFFSET) % 86400 = 86399 ∧ -32768 < l59.getI
      F.TIME_UTC_UTC_OFFSET) ∧
    (Ready specRole rl0 live ∧ rl0.b 0 ≠ 1)) ∧
  ((Ready specRole rl0 live ∧ rl0.b 0 = 0)) ∧
  (Ready specRole rl2 fo) :=
  ⟨by decide +kernel, by decide +kernel, by decide +kernel, by decide +kernel, by decide +kernel, by decide +kernel, by decide +kernel, by decide +kernel, by decide +kernel, by decide +kernel, by decide +kernel, by decide +kernel⟩

end Adjusts

/-! #### KPL -/

namespace Phase

def ks (p cfg : Nat) : Submission := cmd 7 p (form 0 [cfg, 0])
def ks1 : Submission := ks 271 1
def ks0 : Submission := ks 271 0
def ab : State := ((live.set (F.LANE_CFG_RATE 271) 2).set (F.LANE_CFG_CLK_SYNC 271) 1)
def abm : State := ab.set (F.LANE_STATUS_AM_LOCK 271) 1
def hear (st : Nat) : State := { (((abm.set (F.KPL_STATUS_STATE 271) st).set (F.KPL_PORT_CFG_ENABLE 271) 1).set F.TIME_STATUS_ROLE 1).set (F.LANE_STATUS_STATE 271) lnUp with nt := 10 * sec, elapsed := 10 * sec }
def wp : State := hear 2
def rn : State := hear 3
def rx0 : Frame := { port := 271, tin := 100, stage := .receiving, arrived := 10, maxFrame := 1522, inLedger := true, stored := true }
def lldp : List Byte := let b := rn.lldpdu 271; b ++ List.replicate (60 - b.length) 0 ++ leBytes 4 (crc32 (b ++ List.replicate (60 - b.length) 0))
def pk : KplPeer := (peerOf (lldp.take (lldp.length - 4)) 12).getD { enabled := true, cal := true, sync := true, noUp := false, clockId := 99, port := 3, cls := 6, accuracy := 0x21, variance := 0x4E5D, priority2 := 128, steps := 1, ttl := 4 }
def wrx : State := { wp with frames := [(7, rx0)] }
def wrxN : State := { ({ wp with frames := [(7, rx0)] }.set F.GROOM_STATUS_STATE_A 0).set F.GROOM_STATUS_STATE_B 0 with nt := 5 }
def mk : List (Nat × Nat × Nat) := [(1, 0, 5 * 2 ^ 28)]
def bsOf (k : Nat) (ds : List Nat) : List (Nat × Nat × Nat) := kplMsg k ds
def pe (st tm : Nat) : State := { hear st with kpl := [(271, { peer := some pk })], timers := [(.lldp 271, tm)] }
def pe3 : State := pe 3 (5 * sec)
def pe2 : State := pe 2 (5 * sec)
def pe0 : State := pe 2 sec
def wai (lo : Option Int) : KplPort := { seq := 16, wait := [(5, 10 * sec, 10 * sec)], lastOff := lo }
def rep : List (Nat × Nat × Nat) := bsOf 2 [5 * 2 ^ 28 + 2 ^ 24, ct (10 * sec + 16384) % 2 ^ 44, ct (10 * sec + 2 * 16384) % 2 ^ 44]
def repQ : List (Nat × Nat × Nat) := bsOf 2 [6 * 2 ^ 28 + 2 ^ 24, ct (10 * sec + 16384) % 2 ^ 44, ct (10 * sec + 2 * 16384) % 2 ^ 44]
def tim : List (Nat × Nat × Nat) := bsOf 3 [5 * 2 ^ 28, 17, 37 * 2 ^ 28 + 0xE0 * 2 ^ 20]
def w0 : State := { rn with kpl := [(271, wai none)] }
def w7 : State := { rn with kpl := [(271, wai (some 7))] }
def w7t : State := { w7 with nt := 11 * sec, elapsed := 11 * sec }
def w7r : State := { w7t with kpl := [(271, { wai (some 7) with missRow := 63 })] }
def spt : KplPort := { servo := { delays := [9], lastMed := none, offs := [7], dels := [9] } }
def sv : State := { rn with kpl := [(271, spt)], upstream := some (1, 271) }

theorem witness_KplLinksExchangeTime :
  ((Ready specKpl ks1 live ∧ ks1.le 8 4 % 2 = 1 ∧ (State.fetched ks1 live).on (F.KPL_PORT_CFG_ENABLE (ks1.P0 0 9)) = false ∧
      ((State.fetched ks1 live).kplAble (ks1.P0 0 9) && ((State.fetched ks1 live).lanesOf (ks1.P0 0 9)).all fun n => (State.fetched ks1
      live).on (F.LANE_STATUS_AM_LOCK n)) = false)) ∧
  ((abm.on (F.KPL_PORT_CFG_ENABLE 271) = false ∨ abm.kplState 271 < kplWaitPeer ∨ abm.slotDue (evLldp 271) sec = false ∨ abm.coreReady
      false = false) ∧
    wp.pduAt 3 271 lldp = none ∧
    (wp.kplPort 271).peer = none ∧
    wp.kplState 271 ≠ kplRunning ∧
    (abm.kplState 271 ≠ kplWaitPeer ∧ abm.kplState 271 ≠ kplRunning ∨ kplReserved mk = true)) ∧
  (((wp.kplPort 271).wait = [] ∨ wp.kplState 271 ≠ kplRunning) ∧
    (Ready specKpl ks0 abm ∧ (ks0.le 8 4 % 2 = 0 ∨ (State.fetched ks0 abm).on (F.KPL_PORT_CFG_ENABLE (ks0.P0 0 9)) = true ∨
      ((State.fetched ks0 abm).kplAble (ks0.P0 0 9) && ((State.fetched ks0 abm).lanesOf (ks0.P0 0 9)).all fun n => (State.fetched ks0
      abm).on (F.LANE_STATUS_AM_LOCK n)) = true) ∧ ks0.le 8 4 % 2 = 0)) ∧
  ((Ready specKpl ks1 wp ∧ (ks1.le 8 4 % 2 = 0 ∨ (State.fetched ks1 wp).on (F.KPL_PORT_CFG_ENABLE (ks1.P0 0 9)) = true ∨
      ((State.fetched ks1 wp).kplAble (ks1.P0 0 9) && ((State.fetched ks1 wp).lanesOf (ks1.P0 0 9)).all fun n => (State.fetched ks1
      wp).on (F.LANE_STATUS_AM_LOCK n)) = true))) ∧
  ((wp.on (F.KPL_PORT_CFG_ENABLE 271) = true ∧ kplWaitPeer ≤ wp.kplState 271 ∧ wp.slotDue (evLldp 271) sec = true ∧ wp.coreReady false
      = true) ∧
    ((wp.kplState 271 = kplWaitPeer ∨ wp.kplState 271 = kplRunning) ∧ kplReserved mk = false ∧ (false = true ∨ List.map (fun b =>
      (b.fst, b.snd.fst)) mk ≠ [(2, 0), (2, 1), (2, 2)]))) ∧
  (((wp.kplState 271 = kplWaitPeer ∨ wp.kplState 271 = kplRunning) ∧ kplReserved mk = false ∧ (false = true ∨ List.map (fun b =>
      (b.fst, b.snd.fst)) mk ≠ [(3, 0), (3, 1), (3, 2)])) ∧
    ((wp.kplState 271 = kplWaitPeer ∨ wp.kplState 271 = kplRunning) ∧ kplReserved mk = false ∧ List.map (fun b => (b.fst, b.snd.fst))
      mk = [(1, 0)] ∧ kplData mk 0 % 2 ^ 28 = 0) ∧
    ((wrx.pduAt 3 271 lldp).isSome = true ∧ (State.count 6 271 9 1 (State.pduTaken 271 lldp wrx)).groomUp = true ∧ peerOf (List.take
      (lldp.length - 4) lldp) (etherAt (wrx.sTpid 271) lldp) = some pk) ∧
    ((wrx.kplState 271 = kplWaitPeer ∨ wrx.kplState 271 = kplRunning) ∧ kplReserved mk = false ∧ (true = true ∨ List.map (fun b =>
      (b.fst, b.snd.fst)) mk ≠ [(1, 0)]))) ∧
  (((wrxN.pduAt 3 271 lldp).isSome = true ∧ ((State.count 6 271 9 1 (State.pduTaken 271 lldp wrxN)).groomUp = false ∨ peerOf
      (List.take (lldp.length - 4) lldp) (etherAt (wrxN.sTpid 271) lldp) = none)) ∧
    (wrxN.groomUp = false ∨ wrxN.evalDue evPublish ms = false) ∧
    ((pe0.kplPort 271).peer = some pk ∧ (pe0.groomUp = false ∨ pe0.ran (Timer.lldp 271) (pk.ttl * sec) = false)) ∧
    ((pe3.kplPort 271).peer = some pk ∧ pe3.groomUp = true ∧ pe3.ran (Timer.lldp 271) (pk.ttl * sec) = true ∧ pe3.kplState 271 =
      kplRunning) ∧
    ((pe2.kplPort 271).peer = some pk ∧ pe2.groomUp = true ∧ pe2.ran (Timer.lldp 271) (pk.ttl * sec) = true ∧ pe2.kplState 271 ≠
      kplRunning)) ∧
  (((w0.kplState 271 = kplWaitPeer ∨ w0.kplState 271 = kplRunning) ∧ kplReserved rep = false ∧ List.map (fun b => (b.fst, b.snd.fst))
      rep = [(2, 0), (2, 1), (2, 2)] ∧ kplData rep 0 % 2 ^ 23 = 0 ∧ List.find? (fun w => w.fst == kplData rep 0 / 2 ^ 28) (w0.kplPort
      271).wait = some (5, 10 * sec, 10 * sec) ∧ (w0.kplPort 271).lastOff = none ∧ (w0.kplPort 271).time = none) ∧
    (w0.kplState 271 = kplRunning ∧ (w0.kplPort 271).wait = [(5, 10 * sec, 10 * sec)] ∧ w0.elapsed < 10 * sec + 250 * us)) ∧
  (((w7.kplState 271 = kplWaitPeer ∨ w7.kplState 271 = kplRunning) ∧ kplReserved rep = false ∧ List.map (fun b => (b.fst, b.snd.fst))
      rep = [(2, 0), (2, 1), (2, 2)] ∧ kplData rep 0 % 2 ^ 23 = 0 ∧ List.find? (fun w => w.fst == kplData rep 0 / 2 ^ 28) (w7.kplPort
      271).wait = some (5, 10 * sec, 10 * sec) ∧ (w7.kplPort 271).lastOff = some 7 ∧ Int.natAbs 7 ≤ 100 * ms) ∧
    ((w7.kplState 271 = kplWaitPeer ∨ w7.kplState 271 = kplRunning) ∧ kplReserved repQ = false ∧ List.map (fun b => (b.fst, b.snd.fst))
      repQ = [(2, 0), (2, 1), (2, 2)] ∧ kplData repQ 0 % 2 ^ 23 = 0 ∧ List.find? (fun w => w.fst == kplData repQ 0 / 2 ^ 28)
      (w7.kplPort 271).wait = none)) ∧
  (((sv.kplState 271 = kplWaitPeer ∨ sv.kplState 271 = kplRunning) ∧ kplReserved tim = false ∧ List.map (fun b => (b.fst, b.snd.fst))
      tim = [(3, 0), (3, 1), (3, 2)] ∧ kplData tim 0 % 2 ^ 8 = 0 ∧ kplData tim 2 % 2 ^ 20 = 0 ∧ sv.upstream = some (1, 271) ∧ sv.on
      F.TIME_UTC_MANUAL = false) ∧
    ((w7.kplState 271 = kplWaitPeer ∨ w7.kplState 271 = kplRunning) ∧ kplReserved tim = false ∧ List.map (fun b => (b.fst, b.snd.fst))
      tim = [(3, 0), (3, 1), (3, 2)] ∧ kplData tim 0 % 2 ^ 8 = 0 ∧ kplData tim 2 % 2 ^ 20 = 0 ∧ (w7.upstream ≠ some (1, 271) ∨ w7.on
      F.TIME_UTC_MANUAL = true))) ∧
  ((w7t.kplState 271 = kplRunning ∧ (w7t.kplPort 271).wait = [(5, 10 * sec, 10 * sec)] ∧ 10 * sec + 250 * us ≤ w7t.elapsed ∧
      ((w7t.kplPort 271).missRow < 63 ∨ w7t.groomUp = false)) ∧
    (w7r.kplState 271 = kplRunning ∧ (w7r.kplPort 271).wait = [(5, 10 * sec, 10 * sec)] ∧ 10 * sec + 250 * us ≤ w7r.elapsed ∧ 63 ≤
      (w7r.kplPort 271).missRow ∧ w7r.groomUp = true)) ∧
  ((sv.groomUp = true ∧ sv.evalDue evPublish ms = true ∧ (∀ (y : Nat × KplPort), y ∈ sv.kpl → y.fst < 272) ∧ Tbl.find 271 sv.kpl =
      some spt ∧ meanI spt.servo.offs = some 7 ∧ meanI spt.servo.dels = some 9 ∧ sv.upstream = some (1, 271))) :=
  ⟨by decide +kernel, by decide +kernel, by decide +kernel, by decide +kernel, by decide +kernel, by decide +kernel, by decide +kernel, by decide +kernel, by decide +kernel, by decide +kernel, by decide +kernel, by decide +kernel⟩

end Phase

/-! #### PTP -/

namespace Ptp

def pp (p cfg iv : Nat) : Submission := cmd 7 p (form 0 [cfg, iv, 0])
def iv0 : Nat := (resetWord (R.PTP_PORT_INTERVALS 271)).toNat
def pcl : Submission := cmd 7 0x1FF (form 1 [(resetWord R.PTP_CLOCK_CFG).toNat, 5, 6])
def pOn : Submission := pp 271 1 iv0
def pOff : Submission := pp 271 0 iv0
def fast : Nat := 3 * 2^24 + 0 * 2^16 + 0xF9 * 256 + 0xF9
def pBusy : Submission := pp 271 1 fast
def many : State := { live with regs := live.regs.take 11 ++ (List.range 160).flatMap (fun n => [(R.PTP_PORT_CFG n, 1), (R.PTP_PORT_INTERVALS n, BitVec.ofNat 32 fast)]) ++ live.regs.drop 11 }
def role (st : Nat) : State := { (((live.set (F.PTP_PORT_CFG_ENABLE 271) 1).set F.TIME_STATUS_ROLE 1).set (F.PTP_PORT_STATUS_STATE 271) st) with nt := 10 * sec, elapsed := 10 * sec }
def mas : State := role 6
def mas2 : State := (role 6).set (F.PTP_PORT_CFG_TWO_STEP 271) 1
def sla : State := role 9
def ent (k : Nat) : BobbinEntry := { tsId := coreTs 271 k 1, time := ct (9 * sec) }
def entN (k : Nat) : BobbinEntry := { ent k with notSent := some 3 }
def bob (e : BobbinEntry) (s : State) : State := { s with bobbins := [(274, [e])] }
def mfu : State := bob (ent 0) mas2
def mfuN : State := bob (entN 0) mas2
def e0 : BobbinEntry := ent 0
def e1 : BobbinEntry := ent 1
def e0N : BobbinEntry := entN 0
def rx0 : Frame := { port := 271, tin := 9 * sec + 3, stage := .receiving, arrived := 10, maxFrame := 1522, inLedger := true, stored := true }
def rxg (s : State) : State := { s with frames := [(7, rx0)] }
def eth (m : List Byte) : List Byte :=
  let b := by8 [0x01,0x1B,0x19,0,0,0, 2,0,0,0,0,2, 0x88,0xF7] ++ m
  let b := b ++ List.replicate (60 - b.length) 0
  b ++ leBytes 4 (crc32 b)
def snd : List Byte := by8 [1,2,3,4,5,6,7,8,0,1]
def msg (ty fl : Nat) (body : List Byte) : List Byte := eth (ptpMsg ty 24 fl 65536 snd 5 0 body)
def dreq : List Byte := msg 1 0 (ptpStamp 0)
def syn1 : List Byte := msg 0 0 (ptpStamp (8 * sec))
def syn2 : List Byte := msg 0 512 (ptpStamp 0)
def fup : List Byte := msg 8 0 (ptpStamp (8 * sec))
def drespX : List Byte := msg 9 0 (ptpStamp (9 * sec) ++ by8 [1,2,3,4,5,6,7,8,0,1])
def pdel : List Byte := msg 2 0 (ptpStamp 0 ++ ptpStamp 0)
def ann (id steps : Nat) : List Byte := eth (ptpMsg 11 24 8 0 (beBytes 8 id ++ by8 [0,1]) 5 1 (ptpStamp 0 ++ by8 [0,37,0,128,6,0x21,0x4E,0x5D,128] ++ beBytes 8 id ++ beBytes 2 steps ++ by8 [0x20]))
def ann1 : List Byte := ann 77 1
def annOwn : List Byte := ann (sla.clockId) 1
def dom (s : State) : State := s.set F.PTP_CLOCK_CFG_DOMAIN 24
def mR : State := dom (rxg mas)
def sR0 : State := dom (rxg sla)
def frn : Foreign := { sender := snd, cls := 6, acc := 33, var := 20061, prio1 := 128, prio2 := 128, gm := 5, steps := 0, src := 32, utc := 37, flags := 8, count := 2 }
def prt : PtpPort := { foreign := [frn], sync := some (5, 100, 7), req := some 5, back := some (5, 6) }
def sR : State := bob e1 { sR0 with ptp := [(271, prt)] }
def sRn : State := { sR0 with ptp := [(271, { prt with back := none, sync := some (4, 100, 7) })] }
def gT (s : State) (l : List Byte) : Nat := match (s.ptpTaken 271 l).1 with | some x => x.1 | none => 0
def gM (s : State) (l : List Byte) : List Byte := match (s.ptpTaken 271 l).1 with | some x => x.2 | none => []
def gV (s : State) (l : List Byte) : State := (s.ptpTaken 271 l).2
def v0 : State := gV mR dreq
def m0 : List Byte := gM mR dreq
def v1 : State := gV sR dreq
def m1 : List Byte := gM sR dreq
def v3 : State := gV mR pdel
def m3 : List Byte := gM mR pdel
def v4 : State := gV sR syn1
def m4 : List Byte := gM sR syn1
def v5 : State := gV sR syn2
def m5 : List Byte := gM sR syn2
def v6 : State := gV sRn syn1
def m6 : List Byte := gM sRn syn1
def v7 : State := gV sR fup
def m7 : List Byte := gM sR fup
def v8 : State := gV sRn fup
def m8 : List Byte := gM sRn fup
def v10 : State := gV sR0 drespX
def m10 : List Byte := gM sR0 drespX
def v11 : State := gV sR ann1
def m11 : List Byte := gM sR ann1
def v12 : State := gV sR annOwn
def m12 : List Byte := gM sR annOwn
def v13 : State := gV sR0 ann1
def m13 : List Byte := gM sR0 ann1
def v15 : State := gV mR syn1
def m15 : List Byte := gM mR syn1
def v16 : State := gV mR fup
def m16 : List Byte := gM mR fup
def dt : State := { sR with timers := [(.delayResp 271, 3 * sec)] }
def at3 : State := { ((sR.set (F.PTP_PORT_INTERVALS_ANNOUNCE_TIMEOUT 271) 3).set (F.PTP_PORT_INTERVALS_LOG_ANNOUNCE 271) 1) with timers := [(.announce 271, 30 * sec)] }
def at0 : State := { at3 with timers := [(.announce 271, sec)] }
def tc : State := live.set F.PTP_CLOCK_CFG_TC_ONLY 1
def tc2 : State := { tc with tcMiss := [(271, 7)] }
def dpre : List Byte := ptpMsg 9 24 0 65536 snd 5 0 (ptpStamp (9 * sec))
def dm : List Byte := dpre ++ sla.ptpId 271
def deth : List Byte := by8 [0x01,0x1B,0x19,0,0,0, 2,0,0,0,0,2, 0x88,0xF7]
def dresp : List Byte := (deth ++ dm) ++ leBytes 4 (crc32 (deth ++ dm))
def vD : State := ((sR.dropFrame 7).updHeld).count 6 271 4 1
theorem dresp_good : rxFate 1522 dresp false = 0 := rxFate_good (show 60 ≤ 68 by decide) (show 68 + 4 ≤ 1522 by decide)
theorem dresp_port : sR.firstBy (fun f => f.underway 271) = some (7, rx0) := by decide +kernel
theorem dresp_loop : sR.get (F.LANE_CFG_LOOPBACK 271) = 0 := by decide +kernel
theorem dresp_kind : sR.consumed 271 dresp = 2 := by decide +kernel
theorem dresp_at : ptpAt (sR.sTpid 271) dresp = some (14, none) := by decide +kernel
theorem dresp_msg : (dresp.take (dresp.length - 4)).drop 14 = dm := by
  have h : dresp.length - 4 = (deth ++ dm).length := by simp only [dresp, List.length_append, length_leBytes, Nat.add_sub_cancel]
  rw [h, dresp, List.take_left, show 14 = deth.length from rfl, List.drop_left]
theorem dresp_taken : sR.ptpTaken 271 dresp = (some (9 * sec + 3, dm), vD) := by
  have hp : sR.pduAt 2 271 dresp = some (9 * sec + 3) := by
    unfold State.pduAt
    rw [dresp_port]
    exact if_pos ⟨by decide, dresp_good, dresp_kind⟩
  have hb : sR.pduTaken 271 dresp = (sR.dropFrame 7).updHeld := by
    unfold State.pduTaken State.lastByte
    dsimp only
    rw [dresp_loop, if_neg (show ¬ (0 = 1) by decide), if_neg (show ¬ (0 = 2) by decide), dresp_port]
    simp only [dresp_kind, show rx0.maxFrame = 1522 from rfl, dresp_good, show rx0.flushed = false from rfl]
    rfl
  unfold State.ptpTaken
  rw [hp, hb, dresp_at, ← dresp_msg]
  rfl
theorem dresp_id : (dm.drop 44).take 10 = vD.ptpId 271 := by
  have h : vD.clockId = sla.clockId := by decide +kernel
  rw [dm, show 44 = dpre.length from rfl, List.drop_left, State.ptpId, State.ptpId, h]
  rfl
theorem dresp_rest : vD.groomUp = true ∧ byteAt dm 0 % 16 = 9 ∧ (vD.ptpPort 271).req = some (ptpSeq dm) ∧ vD.coreEntry 271 1 = some e1 ∧ e1.notSent = none ∧ e1.tsId / 1024 = ptpSeq dm % 4 := by decide +kernel

theorem taken_self {s : State} {l : List Byte} (h : (s.ptpTaken 271 l).1.isSome = true) :
    s.ptpTaken 271 l = (some (gT s l, gM s l), gV s l) := by
  obtain ⟨x, hx⟩ := Option.isSome_iff_exists.mp h
  rw [gT, gM, gV, hx]
  exact Prod.ext hx rfl
set_option maxRecDepth 20000 in
theorem witness_PtpMastersSendAndSlavesMeasure :
  ((Ready specPtpPort pBusy many ∧ pBusy.le 8 4 % 2 = 1 ∧ 40000 * 32 < (State.fetched pBusy many).otherRates (pBusy.P0 0 9) + rate32
      (pBusy.le 12 4))) ∧
  ((sR.ptpIs 271 6 = false ∨ sR.coreReady false = false ∨ sR.slotDue (evAnnounce 271) (interval (-3) 3 (sR.get
      (F.PTP_PORT_INTERVALS_LOG_ANNOUNCE 271))) = false)) ∧
  ((sR.ptpIs 271 6 = false ∨ sR.coreReady (sR.on (F.PTP_PORT_CFG_TWO_STEP 271)) = false ∨ sR.slotDue (evSync 271) (interval (-7) 1
      (sR.get (F.PTP_PORT_INTERVALS_LOG_SYNC 271))) = false)) ∧
  ((mR.coreEntry 271 0 = none ∨ mR.coreReady false = false)) ∧
  ((mR.ptpIs 271 9 = false ∨ mR.coreReady true = false ∨ mR.slotDue (evDelayReq 271) (interval (-7) 5 (mR.get
      (F.PTP_PORT_INTERVALS_LOG_DELAY_REQ 271))) = false) ∧
    mR.ran (Timer.delayResp 271) (mR.respWait 271) = false ∧
    List.find? (fun y => y.fst == 271 && decide (y.snd + 10 * ms ≤ mR.elapsed)) mR.tcMiss = none) ∧
  ((Ready specPtpPort pOn live ∧ (pOn.le 8 4 % 2 = 0 ∨ (State.fetched pOn live).otherRates (pOn.P0 0 9) + rate32 (pOn.le 12 4) ≤ 40000
      * 32))) ∧
  ((Ready specPtpPort pOff mas ∧ (pOff.le 8 4 % 2 = 0 ∨ (State.fetched pOff mas).otherRates (pOff.P0 0 9) + rate32 (pOff.le 12 4) ≤
      40000 * 32) ∧ pOff.le 8 4 % 2 = 0)) ∧
  ((mR.ptpIs 271 6 = true ∧ mR.coreReady false = true ∧ mR.slotDue (evAnnounce 271) (interval (-3) 3 (mR.get
      (F.PTP_PORT_INTERVALS_LOG_ANNOUNCE 271))) = true ∧ mR.get (F.PTP_PORT_CFG_TRANSPORT 271) = 0)) ∧
  ((mR.ptpIs 271 6 = true ∧ mR.coreReady (mR.on (F.PTP_PORT_CFG_TWO_STEP 271)) = true ∧ mR.slotDue (evSync 271) (interval (-7) 1
      (mR.get (F.PTP_PORT_INTERVALS_LOG_SYNC 271))) = true ∧ mR.get (F.PTP_PORT_CFG_TRANSPORT 271) = 0)) ∧
  (Ready specPtpClock pcl live) ∧
  (Ready specPtpClock pcl mR) ∧
  ((mfu.coreEntry 271 0 = some e0 ∧ mfu.coreReady false = true ∧ e0.notSent = none ∧ mfu.ptpIs 271 6 = true ∧ mfu.get
      (F.PTP_PORT_CFG_TRANSPORT 271) = 0)) ∧
  ((mfuN.coreEntry 271 0 = some e0N ∧ mfuN.coreReady false = true ∧ (e0N.notSent.isSome = true ∨ mfuN.ptpIs 271 6 = false))) ∧
  ((sR.ptpIs 271 9 = true ∧ sR.coreReady true = true ∧ sR.slotDue (evDelayReq 271) (interval (-7) 5 (sR.get
      (F.PTP_PORT_INTERVALS_LOG_DELAY_REQ 271))) = true ∧ sR.get (F.PTP_PORT_CFG_TRANSPORT 271) = 0) ∧
    dt.ran (Timer.delayResp 271) (dt.respWait 271) = true) ∧
  ((at3.groomUp = true ∧ at3.get (F.PTP_PORT_INTERVALS_ANNOUNCE_TIMEOUT 271) = 3 ∧ at3.get (F.PTP_PORT_INTERVALS_LOG_ANNOUNCE 271) = 1
      ∧ at3.ran (Timer.announce 271) (3 * (sec * 2)) = true) ∧
    (at0.groomUp = true ∧ at0.get (F.PTP_PORT_INTERVALS_ANNOUNCE_TIMEOUT 271) = 3 ∧ at0.get (F.PTP_PORT_INTERVALS_LOG_ANNOUNCE 271) = 1
      ∧ at0.ran (Timer.announce 271) (3 * (sec * 2)) = false) ∧
    List.find? (fun y => y.fst == 271 && decide (y.snd + 10 * ms ≤ tc2.elapsed)) tc2.tcMiss = some (271, 7) ∧
    State.ptpTaken 271 [] live = (none, live) ∧
    (mR.groomUp = false ∨ mR.timer (Timer.announce 271) = none)) ∧
  (State.ptpTaken 271 dreq mR = (some (gT mR dreq, m0), v0) ∧ (byteAt m0 0 % 16 ≠ 8 ∨ v0.groomUp = false)) ∧
  (State.ptpTaken 271 dreq mR = (some (gT mR dreq, m0), v0) ∧ v0.groomUp = true ∧ byteAt m0 0 % 16 = 1 ∧ v0.ptpIs 271 6 = true ∧
    v0.coreReady false = true ∧ v0.get (F.PTP_PORT_CFG_TRANSPORT 271) = 0) ∧
  (State.ptpTaken 271 dreq sR = (some (gT sR dreq, m1), v1) ∧ v1.groomUp = true ∧ byteAt m1 0 % 16 = 1 ∧ (v1.ptpIs 271 6 = false ∨
    v1.coreReady false = false)) ∧
  (State.ptpTaken 271 pdel mR = (some (gT mR pdel, m3), v3) ∧ byteAt m3 0 % 16 ∈ [2, 3, 10, 12, 13]) ∧
  (State.ptpTaken 271 syn1 sR = (some (gT sR syn1, m4), v4) ∧ v4.groomUp = true ∧ byteAt m4 0 % 16 = 0 ∧ v4.fromMaster 271 m4 = true ∧
    bit (byteAt m4 6) 1 = false ∧ (v4.ptpPort 271).back = some (5, 6)) ∧
  (State.ptpTaken 271 syn2 sR = (some (gT sR syn2, m5), v5) ∧ v5.groomUp = true ∧ byteAt m5 0 % 16 = 0 ∧ v5.fromMaster 271 m5 = true ∧
    bit (byteAt m5 6) 1 = true) ∧
  (State.ptpTaken 271 syn1 sRn = (some (gT sRn syn1, m6), v6) ∧ v6.groomUp = true ∧ byteAt m6 0 % 16 = 0 ∧ v6.fromMaster 271 m6 = true
    ∧ bit (byteAt m6 6) 1 = false ∧ (v6.ptpPort 271).back = none) ∧
  (State.ptpTaken 271 fup sR = (some (gT sR fup, m7), v7) ∧ v7.groomUp = true ∧ byteAt m7 0 % 16 = 8 ∧ (v7.ptpPort 271).sync = some
    (ptpSeq m7, 100, 7) ∧ v7.fromMaster 271 m7 = true ∧ (v7.ptpPort 271).back = some (5, 6)) ∧
  (State.ptpTaken 271 fup sRn = (some (gT sRn fup, m8), v8) ∧ v8.groomUp = true ∧ byteAt m8 0 % 16 = 8 ∧ (v8.ptpPort 271).sync = some
    (4, 100, 7) ∧ ptpSeq m8 ≠ 4) ∧
  (State.ptpTaken 271 drespX sR0 = (some (gT sR0 drespX, m10), v10) ∧ v10.groomUp = true ∧ byteAt m10 0 % 16 = 9 ∧ ((v10.ptpPort
    271).req = none ∨ v10.coreEntry 271 1 = none ∨ (v10.ptpPort 271).req ≠ some (ptpSeq m10))) ∧
  (State.ptpTaken 271 syn1 mR = (some (gT mR syn1, m15), v15) ∧ v15.groomUp = true ∧ byteAt m15 0 % 16 = 0 ∧ v15.fromMaster 271 m15 =
    false) ∧
  (State.ptpTaken 271 fup mR = (some (gT mR fup, m16), v16) ∧ v16.groomUp = true ∧ byteAt m16 0 % 16 = 8 ∧ ((v16.ptpPort 271).sync =
    none ∨ v16.fromMaster 271 m16 = false)) ∧
  (State.ptpTaken 271 fup sR = (some (gT sR fup, m7), v7) ∧ (byteAt m7 0 % 16 ≠ 9 ∨ v7.groomUp = false) ∧ (byteAt m7 0 % 16 ≠ 0 ∨
    v7.groomUp = false) ∧ (byteAt m7 0 % 16 ≠ 11 ∨ v7.groomUp = false) ∧ ¬byteAt m7 0 % 16 ∈ [2, 3, 10, 12, 13] ∧ (byteAt m7 0 % 16 ≠ 1
    ∨ v7.groomUp = false)) ∧
  (State.ptpTaken 271 ann1 sR = (some (gT sR ann1, m11), v11) ∧ v11.groomUp = true ∧ byteAt m11 0 % 16 = 11 ∧ (foreignOf m11).clockId ≠
    v11.clockId ∧ bit (foreignOf m11).flags 8 = false ∧ (foreignOf m11).steps < 255 ∧ ((v11.ptpPort 271).foreign.all fun y => y.sender
    != (foreignOf m11).sender) = true ∧ (v11.ptpPort 271).foreign.length < 5) ∧
  (State.ptpTaken 271 annOwn sR = (some (gT sR annOwn, m12), v12) ∧ v12.groomUp = true ∧ byteAt m12 0 % 16 = 11 ∧ ((foreignOf
    m12).clockId = v12.clockId ∨ bit (foreignOf m12).flags 8 = true ∨ 255 ≤ (foreignOf m12).steps)) ∧
  (State.ptpTaken 271 ann1 sR0 = (some (gT sR0 ann1, m13), v13) ∧ v13.groomUp = true ∧ byteAt m13 0 % 16 = 11 ∧ (foreignOf m13).clockId
    ≠ v13.clockId ∧ bit (foreignOf m13).flags 8 = false ∧ (foreignOf m13).steps < 255 ∧ (v13.ptpPort 271).master = none) ∧
  (sR.ptpTaken 271 dresp = (some (9 * sec + 3, dm), vD) ∧ vD.groomUp = true ∧ byteAt dm 0 % 16 = 9 ∧ (vD.ptpPort 271).req = some
    (ptpSeq dm) ∧ vD.coreEntry 271 1 = some e1 ∧ (dm.drop 44).take 10 = vD.ptpId 271 ∧ e1.notSent = none ∧ e1.tsId / 1024 = ptpSeq dm %
    4) :=
  ⟨by decide +kernel, by decide +kernel, by decide +kernel, by decide +kernel, by decide +kernel, by decide +kernel, by decide +kernel, by decide +kernel, by decide +kernel, by decide +kernel, by decide +kernel, by decide +kernel, by decide +kernel, by decide +kernel, by decide +kernel, ⟨taken_self (by decide +kernel), by decide +kernel⟩, ⟨taken_self (by decide +kernel), by decide +kernel⟩, ⟨taken_self (by decide +kernel), by decide +kernel⟩, ⟨taken_self (by decide +kernel), by decide +kernel⟩, ⟨taken_self (by decide +kernel), by decide +kernel⟩, ⟨taken_self (by decide +kernel), by decide +kernel⟩, ⟨taken_self (by decide +kernel), by decide +kernel⟩, ⟨taken_self (by decide +kernel), by decide +kernel⟩, ⟨taken_self (by decide +kernel), by decide +kernel⟩, ⟨taken_self (by decide +kernel), by decide +kernel⟩, ⟨taken_self (by decide +kernel), by decide +kernel⟩, ⟨taken_self (by decide +kernel), by decide +kernel⟩, ⟨taken_self (by decide +kernel), by decide +kernel⟩, ⟨taken_self (by decide +kernel), by decide +kernel⟩, ⟨taken_self (by decide +kernel), by decide +kernel⟩, ⟨taken_self (by decide +kernel), by decide +kernel⟩, ⟨dresp_taken, dresp_rest.1, dresp_rest.2.1, dresp_rest.2.2.1, dresp_rest.2.2.2.1, dresp_id, dresp_rest.2.2.2.2⟩⟩

end Ptp

/-! #### GNSS -/

namespace Gnss

def gw : List Nat := gnssRegs.map (fun a => (resetWord a).toNat)
def gcW (w m : Nat) : Nat := w - w / 4096 % 4 * 4096 + m * 4096
def gc (m : Nat) : Submission := cmd 7 0 (form 0 (gw.mapIdx (fun i w => if i = 0 then gcW w m else w)))
def gp : Submission := cmd 7 0 (by8 [1,0,0,0,0,0,0,0] ++ leBytes 8 6400000000 ++ leBytes 8 0 ++ leBytes 8 5)
def gr : Submission := cmd 7 0 (form 2 [])
def gcs : Submission := cmd 7 0 (form 3 [])
def gm (m : Nat) : State := live.set F.GNSS_CFG_MODE m
def g0 : State := gm 0
def g1 : State := gm 1
def ob (ch sv : Nat) (pw : Int) : GnssObs := { ch := ch, system := 0, band := 0, sv := sv, cn0 := 45, elev := 40, eph := true, power := pw, resid := 0, doppler := 0, bands := 0, uniform := false }
def sol (n bad : Nat) : GnssSol := { obs := (List.range n).map (fun i => ob i (i + 1) (if i < bad then 0 else -1300)), pos := (1,2,3), unc := 10, diff := 0 }
def so1 : GnssSol := sol 3 3
def d1 : Submission := gc 1
def d0 : Submission := gc 0
def d2 : Submission := gc 2
def nt0 : List (Int × Nat × Bool) := [(5, 6, true), (7, 8, false)]
def xx : Int × Nat × Bool := (7, 8, false)
def run : State := (((g1.set F.GNSS_STATUS_POS_STATE 3).set F.GNSS_STATUS_ANT 1).set F.GNSS_CFG_CONST_EN 15).set F.GNSS_CFG_BAND_EN 3
def tmo : State := { run with timers := [(.gnssSolution, 2 * sec), (.gnssWord 5, 100 * ms)] }
def bi (a : Nat) : State := (run.set F.GNSS_CFG_BIAS_EN 1).set F.GNSS_STATUS_ANT a
def bi1 : State := bi 1
def bi1l : State := { bi 1 with gnss := { antLow := 9 } }
def bi3 : State := bi 3
def bi3t : State := { bi 3 with timers := [(.antShort, sec)] }
def jam : State := run.set F.GNSS_CFG_JAM_INVALIDATE 1
def g1n : State := { g1 with evals := [(evAntenna, 100000), (evJam, 100000)] }

theorem witness_GnssReceiverGivesTime :
  (Ready (specGnss 0) d1 g0 ∧
    (g0.gnssMode = 0 ∨ g0.groomUp = false ∨ g0.heldDomain 1 = true ∨ g0.slotDue evSolution sec = false) ∧
    g0.ran Timer.gnssSolution (2 * sec) = false ∧
    (g0.posState = 0 ∨ g0.groomUp = false)) ∧
  ((96 ≤ 5 ∨ g0.ran (Timer.gnssWord 5) (5 * ms) = false ∨ g0.gnss.holding.contains 5 = true) ∧
    (96 ≤ 5 ∨ g0.ran (Timer.gnssWord 5) (100 * ms) = false) ∧
    (g0.evalDue evAntenna ms = true ∧ g0.on F.GNSS_CFG_BIAS_EN = false) ∧
    (g0.ant ≠ 3 ∨ g0.on F.GNSS_CFG_BIAS_EN = false ∨ g0.ran Timer.antShort sec = false) ∧
    (g0.evalDue evJam (100 * ms) = true ∧ nt0[1]? = some xx)) ∧
  (Ready (specGnss 0) d2 g1 ∧
    Ready (specGnss 0) d0 g1) ∧
  (Ready (specGnss 1) gp g1 ∧
    Ready (specGnss 2) gr g1) ∧
  (Ready (specGnss 3) gcs g1 ∧
    (g1.gnssMode ≠ 0 ∧ g1.groomUp = true ∧ g1.heldDomain 1 = false ∧ g1.slotDue evSolution sec = true ∧ (g1.usedSats so1.obs).length <
      g1.minSats ∧ (g1.usedSats so1.obs).length < (satsOf (List.filter g1.obsUsable so1.obs)).length) ∧
    (run.posState ≠ 0 ∧ run.groomUp = true) ∧
    tmo.ran Timer.gnssSolution (2 * sec) = true) ∧
  ((tmo.ran (Timer.gnssWord 5) (5 * ms) = true ∧ tmo.gnss.holding.contains 5 = false) ∧
    tmo.ran (Timer.gnssWord 5) (100 * ms) = true ∧
    (bi1.evalDue evAntenna ms = true ∧ bi1.on F.GNSS_CFG_BIAS_EN = true ∧ bi1.ant ≠ 3 ∧ bi1.gnss.antLow < 9) ∧
    (bi1l.evalDue evAntenna ms = true ∧ bi1l.on F.GNSS_CFG_BIAS_EN = true ∧ bi1l.ant ≠ 3 ∧ bi1l.ant ≠ 2 ∧ 9 ≤ bi1l.gnss.antLow) ∧
    (bi3.evalDue evAntenna ms = true ∧ bi3.on F.GNSS_CFG_BIAS_EN = true ∧ bi3.ant = 3) ∧
    (bi3t.ant = 3 ∧ bi3t.on F.GNSS_CFG_BIAS_EN = true ∧ bi3t.ran Timer.antShort sec = true)) ∧
  (jam.evalDue evJam (100 * ms) = true ∧
    Ready (specGnss 0) d1 g1) ∧
  (Ready (specGnss 0) d1 g1n ∧
    g1n.evalDue evAntenna ms = false ∧
    g1n.evalDue evJam (100 * ms) = false) :=
  ⟨by decide +kernel, by decide +kernel, by decide +kernel, by decide +kernel, by decide +kernel, by decide +kernel, by decide +kernel, by decide +kernel⟩

end Gnss

/-! #### Calibration -/

namespace Calibrates

def cr (t p : Nat) (mi dur : Nat) : Submission := cmd 7 p (by8 [t, mi] ++ leBytes 2 dur ++ List.replicate 20 0)
def c0 : Submission := cr 0 0x1FF 0 0
def c1 : Submission := cr 1 0 0 0
def c2 : Submission := cr 2 3 0 0
def c3 : Submission := cr 3 3 0 0
def c4 : Submission := cr 4 3 5 0
def c5 : Submission := cr 5 271 5 10
def c6 : Submission := cr 6 0 0 0
def pr0 : Int × Int := (0, 1000 * 65536)
def pr1 : Int × Int := (1000 * 65536, 0)
def as : AsymRun := { cmd := { op := 0x48, sub := c5, boundary := 0, begun := true }, port := 271, mi := 5, cable := 0, t0 := 0, t1 := 10 * sec }
def rn : State := { (live.set (F.KPL_STATUS_STATE 271) 3) with nt := 5 * sec, asyms := [as] }
def rn2 : State := { rn with nt := 15 * sec }
def bz (i : Nat) : CalRun := { target := 2, wait := [], busy := [i], cycle := 0 }
def b275 : State := { live with calRuns := [bz 275], elapsed := 10 * ms }
def bUp : State := { (live.set (F.LANE_STATUS_STATE 271) lnUp) with calRuns := [bz 271], elapsed := 10 * ms }
def bUp2 : State := { b275 with timers := [(.miGap 3, 10 * sec)], chans := [(2, { cfg := 2 }), (3, { cfg := 2 })] }
def good : List (Int × Nat) := [(5, 3)]
def good2 : List (Int × Nat) := [(5, 3), (6, 4)]
def auto : State := live.set F.CAL_CTRL_AUTO_EN 1
def hot : State := ((auto.set (F.CAL_ITEM_STATE 5) 1).setI (F.OE_TEMP_OTS 0) 400)
def cs0 : Submission := bare 7 0 0
def cs1 : Submission := bare 7 1 0
def sb : State := { live with job := some { kind := knCal, slot := 1, data := [] } }
def offA : State := live.set F.CAL_CTRL_AUTO_EN 0

theorem witness_CalibrationRunsMeasureAndStore :
  (Ready (specCalRun (0, Instr.calRunLanes c0).fst) c0 bUp ∧
    (fun u => (List.filter (fun j => decide (j < 272)) u.calBusy).length) rn ≤ 32 ∧
    rn.calBusy.contains 5 = false ∧
    (good2.length = (calLimits 5).length ∧ ∀ (y : ((Nat × Nat) × Int) × Int × Nat), y ∈ ((calLimits 5).zip [(rn.calValue 5).fst,
      (rn.calValue 5).snd]).zip good2 → calPasses y.fst.fst y.fst.snd y.snd.fst y.snd.snd = true)) ∧
  (pr0.fst ≤ pr0.snd ∧
    List.find? (fun y => y.port == 271) sb.asyms = none ∧
    (8 ≤ 3 ∨ rn.calBusy.contains (272 + 3) = false ∨ (rn.miMode 3).fst ≠ 2 ∧ (rn.miMode 3).fst ≠ 3 ∨ rn.ran (Timer.miGap 3) (10 * sec)
      = false) ∧
    (rn.evalDue evCal sec = true ∧ rn.on F.CAL_CTRL_AUTO_EN = true ∧ (∀ (j : Nat), j < 302 → rn.calTriggers j = false))) ∧
  ((rn.calState 5 = 0 ∨ ∃ r, r ∈ rn.calRuns ∧ (5 ∈ r.wait ∨ 5 ∈ r.busy)) ∧
    (¬(good.length = (calLimits 5).length ∧ ∀ (y : ((Nat × Nat) × Int) × Int × Nat), y ∈ ((calLimits 5).zip [(hot.calValue 5).fst,
      (hot.calValue 5).snd]).zip good → calPasses y.fst.fst y.fst.snd y.snd.fst y.snd.snd = true)) ∧
    pr1.snd ≤ pr1.fst) ∧
  (Ready (specCalRun (1, Instr.calRunCore c1).fst) c1 live ∧
    Ready (specCalRun (2, Instr.calRunMi c2).fst) c2 live) ∧
  (Ready (specCalRun (3, Instr.calRunOutputs c3).fst) c3 live ∧
    Ready (specCalRun (4, Instr.calRunOutputLoop c4).fst) c4 live) ∧
  (Ready (specCalRun (6, Instr.calRunGnss c6).fst) c6 live) ∧
  ((Ready (specCalRun 5) c5 live ∧ live.kplState (c5.P0 0 9) ≠ kplRunning)) ∧
  ((Ready (specCalRun 5) c5 rn ∧ rn.kplState (c5.P0 0 9) = kplRunning) ∧
    (List.find? (fun y => y.port == 271) rn.asyms = some as ∧ rn.nt < as.t1 ∧ rn.kplState 271 = kplRunning) ∧
    (List.find? (fun y => y.port == 271) rn2.asyms = some as ∧ (as.t1 ≤ rn2.nt ∨ rn2.kplState 271 ≠ kplRunning)) ∧
    bUp.calBusy.contains 271 = true ∧
    bUp.evalDue evCal sec = false) ∧
  ((bUp2.calBusy.contains (272 + 3) = true ∧ ((bUp2.miMode 3).fst = 2 ∨ (bUp2.miMode 3).fst = 3) ∧ bUp2.ran (Timer.miGap 3) (10 * sec)
      = true) ∧
    (hot.evalDue evCal sec = true ∧ hot.on F.CAL_CTRL_AUTO_EN = true ∧ hot.calTriggers 5 = true ∧ (∀ (j : Nat), j < 302 → j ≠ 5 →
      hot.calTriggers j = false))) ∧
  ((hot.calState 5 ≠ 0 ∧ (∀ (r : CalRun), r ∈ hot.calRuns → ¬5 ∈ r.wait ∧ ¬5 ∈ r.busy) ∧ max 1 (hot.get F.CAL_CTRL_TEMP_DELTA) <
      (hot.calTemp 5 - hot.cal.temp.getD 5 0).natAbs)) ∧
  ((Ready specCalStore cs0 live ∧ (State.fetched cs0 live).storeRefuses = false ∧ cs0.P0 0 1 = 0 ∧ (∃ j, j < 302 ∧ live.calState j =
      0))) ∧
  ((Ready specCalStore cs1 live ∧ (State.fetched cs1 live).storeRefuses = false ∧ (cs1.P0 0 1 = 1 ∨ ∀ (j : Nat), j < 302 →
      live.calState j ≠ 0))) ∧
  ((Ready specCalStore cs0 sb ∧ (State.fetched cs0 sb).storeRefuses = true) ∧
    (offA.evalDue evCal sec = true ∧ offA.on F.CAL_CTRL_AUTO_EN = false)) :=
  ⟨by decide +kernel, by decide +kernel, by decide +kernel, by decide +kernel, by decide +kernel, by decide +kernel, by decide +kernel, by decide +kernel, by decide +kernel, by decide +kernel, by decide +kernel, by decide +kernel, by decide +kernel⟩

end Calibrates

/-! #### Grooms and tasks -/

namespace Twins

def g2 (a b : Nat) (s : State) : State := (s.set F.GROOM_STATUS_STATE_A a).set F.GROOM_STATUS_STATE_B b
def idn (n : Nat) : Identity := { image := n, cfg := 2, slot := n % 2 }
def idd (a b : Option Identity) (s : State) : State := { s with complexes := [(0, { ident := a }), (1, { ident := b })] }
def off1 : State := idd (some (idn 7)) none (g2 4 0 live)
def off1b : State := idd (some (idn 7)) none (g2 4 0 (live.set F.SYS_STATUS_READY 0))
def both0 : State := idd (some (idn 7)) (some (idn 6)) (g2 0 0 live)
def boot1 : State := idd (some (idn 7)) (some (idn 7)) (g2 4 1 live)
def boot1d : State := idd (some (idn 7)) (some (idn 8)) (g2 4 1 live)
def boot1s : State := idd (some (idn 7)) (some (idn 7)) (g2 0 1 live)
def sync1 : State := g2 4 2 live
def sync1h : State := (g2 4 2 live).set F.GROOM_STATUS_HANDOVER 1
def rev : State := { ((live.set F.GROOM_CTRL_REVERT_EN 1).set F.GROOM_CTRL_PREFER_B 1) with timers := [(.revert, 100000 * sec)] }
def dual : State := { (live.set F.GROOM_STATUS_DUAL 1) with dualLeft := 2 }
def ln : State := { live with leadNext := some (true, true) }
def shd : State := { idd (some (idn 7)) (some (idn 8)) (g2 4 5 live) with timers := [(.shadow, 100000 * sec)], commits := [(0, { slot := 0, seq := 8, length := 5, crc := 0, ledgerSeq := 1 })] }
def res3 : State := { live with complexes := [(1, { resets := [0,0,0] })] }
def ow : OutWin := { cons := 1, seq := 5, digest := 9, b := false, cycle := 0 }
def owl : State := { live with outWins := [ow], acted := [(1, 5)], cycles := 2 }
def owo : State := { owl with cycles := 10 }
def act7 : State := { live with acted := [(1, 7)] }
def est : State := { live with dpll := { estimate := some 7 } }
def tk : State := live.set ⟨R.GROOM_TASK_STATUS, 3, 1⟩ 1
def tkU : State := tk.set F.GROOM_TASK_CFG_USER_READ 63
def nop : Submission := { ring := 0, index := 0 }
def wtS (w : WaitFor) (t : TaskSt) : State := { tk with tasks := [(3, { t with wait := some w })], nt := sec }
def cpl : Completion := { sqIndex := 0, result := rOk, status := 0, cflags := 0, tag := 0, time := 0, q1 := 0, q2 := 0 }
def wT1 : State := wtS (.time (ct (2 * sec))) {}
def wT0 : State := wtS (.time (ct 5)) {}
def wE0 : State := wtS (.event 4) {}
def wE1 : State := wtS (.event 4) { due := true }
def wC0 : State := wtS .completion {}
def wC1 : State := wtS .completion { inbox := [cpl] }
def lg : State := { ((live.set (F.GROOM_LOG_CTRL_ENABLE 3) 1).set (F.GROOM_LOG_PERIOD_N_MINUS_1 3) 1) with logs := [(3, { run := 5, seq := 9, lost := true })] }
def lgF : State := { lg with logs := [(3, { run := 5, seq := 9, lost := true, held := List.replicate 4096 [] })] }
def a1 : Nat := 0xFFFFF8
def a2 : Nat := R.SYS_STATUS
def tkN : State := (tk.set F.SYS_STATUS_RUN 0).set F.SYS_CTRL_RUN 0

theorem witness_GroomsActOnceAndFollowTheirStates :
  ((off1.groom true = gsOff ∧ off1.heldDomain (groomDomain true) = false ∧ off1.heldDomain 5 = false ∧ off1.supply = Supply.on ∧
      off1.on F.SYS_STATUS_READY = true) ∧
    ((ln.cplx true).soft = false ∧ ((ln.groom !true) = gsInStep ∨ (ln.groom !true) = gsSolo)) ∧
    (ln.groom true ≠ gsBooting ∨ ln.groomMayRun = false) ∧
    (ln.groom true ≠ gsSyncing ∨ (ln.groom !true) ≠ gsSolo) ∧
    (ln.on F.GROOM_CTRL_REVERT_EN = false ∨ ln.leaderB = ln.on F.GROOM_CTRL_PREFER_B ∨ ln.groom (ln.on F.GROOM_CTRL_PREFER_B) ≠
      gsInStep ∨ (ln.groom !ln.on F.GROOM_CTRL_PREFER_B) ≠ gsInStep ∨ ln.ran Timer.revert (max 1 (ln.get F.GROOM_CTRL_REVERT_HOLD_S) *
      sec) = false)) ∧
  ((ln.groom true ≠ gsShadow ∨ ln.ran Timer.shadow (max 1 (ln.get F.GROOM_CTRL_SHADOW_S) * sec) = false) ∧
    ln.groom true ≠ gsShadow ∧
    (List.filter (fun r => decide (ln.elapsed < r + restartWindow)) (ln.cplx true).resets).length < 3 ∧
    (¬(shd.groom true = gsInStep ∨ shd.groom true = gsSolo) ∨ 2 ^ 48 ≤ 5) ∧
    List.find? (fun x => decide (x.cycle + 4 < ln.cycles)) ln.outWins = none ∧
    (off1b.groom true = gsOff ∧ off1b.heldDomain (groomDomain true) = false ∧ off1b.heldDomain 5 = false ∧ off1b.supply = Supply.on ∧
      off1b.on F.SYS_STATUS_READY = false) ∧
    ((both0.cplx true).soft = false ∧ (both0.groom !true) ≠ gsInStep ∧ (both0.groom !true) ≠ gsSolo ∧ (both0.cplx true).ident.isSome =
      true)) ∧
  ((ln.groom true ≠ gsOff ∨ ln.heldDomain (groomDomain true) = true ∨ ln.heldDomain 5 = true ∨ ln.supply ≠ Supply.on) ∧
    (boot1.groom true = gsBooting ∧ boot1.groomMayRun = true ∧ ((boot1.groom !true) = gsInStep ∨ (boot1.groom !true) = gsSolo) ∧
      (boot1.cplx true).ident = (boot1.cplx !true).ident) ∧
    (boot1d.groom true = gsBooting ∧ boot1d.groomMayRun = true ∧ ((boot1d.groom !true) = gsInStep ∨ (boot1d.groom !true) = gsSolo) ∧
      ¬(boot1d.cplx true).ident = (boot1d.cplx !true).ident) ∧
    (boot1s.groom true = gsBooting ∧ boot1s.groomMayRun = true ∧ (boot1s.groom !true) ≠ gsInStep ∧ (boot1s.groom !true) ≠ gsSolo)) ∧
  ((sync1.groom true = gsSyncing ∧ (sync1.groom !true) = gsSolo) ∧
    (sync1h.groom true = gsSyncing ∧ (sync1h.groom !true) = gsSolo ∧ sync1h.on F.GROOM_STATUS_HANDOVER = true) ∧
    (rev.on F.GROOM_CTRL_REVERT_EN = true ∧ rev.leaderB ≠ rev.on F.GROOM_CTRL_PREFER_B ∧ rev.groom (rev.on F.GROOM_CTRL_PREFER_B) =
      gsInStep ∧ (rev.groom !rev.on F.GROOM_CTRL_PREFER_B) = gsInStep ∧ rev.ran Timer.revert (max 1 (rev.get
      F.GROOM_CTRL_REVERT_HOLD_S) * sec) = true)) ∧
  (((ln.groom true = gsInStep ∨ ln.groom true = gsSolo) ∧ 5 < 2 ^ 48 ∧ List.find? (fun x => x.cons == Consumer.dpll.id && x.seq == 5
      && x.b != true && decide (ln.cycles ≤ x.cycle + 4)) ln.outWins = none ∧ (∀ (m : Nat), Tbl.find Consumer.dpll.id ln.acted = some m
      → seqNewer 48 5 m = true)) ∧
    (dual.dualLeft ≠ 0 ∧ dual.dualLeft ≤ 7) ∧
    (ln.leadNext = some (true, true) ∧ ln.groom true = gsInStep) ∧
    (shd.groom true = gsShadow ∧ shd.ran Timer.shadow (max 1 (shd.get F.GROOM_CTRL_SHADOW_S) * sec) = true) ∧
    (List.filter (fun r => decide (res3.elapsed < r + restartWindow)) (res3.cplx true).resets).length = 3) ∧
  (((owl.groom true = gsInStep ∨ owl.groom true = gsSolo) ∧ 5 < 2 ^ 48 ∧ List.find? (fun x => x.cons == Consumer.dpll.id && x.seq == 5
      && x.b != true && decide (owl.cycles ≤ x.cycle + 4)) owl.outWins = some ow ∧ ow.digest = 9) ∧
    ((owl.groom true = gsInStep ∨ owl.groom true = gsSolo) ∧ 5 < 2 ^ 48 ∧ List.find? (fun x => x.cons == Consumer.dpll.id && x.seq == 5
      && x.b != true && decide (owl.cycles ≤ x.cycle + 4)) owl.outWins = some ow ∧ ow.digest ≠ 8) ∧
    List.find? (fun x => decide (x.cycle + 4 < owo.cycles)) owo.outWins = some ow ∧
    ((act7.groom true = gsInStep ∨ act7.groom true = gsSolo) ∧ 5 < 2 ^ 48 ∧ List.find? (fun x => x.cons == Consumer.dpll.id && x.seq ==
      5 && x.b != true && decide (act7.cycles ≤ x.cycle + 4)) act7.outWins = none ∧ Tbl.find Consumer.dpll.id act7.acted = some 7 ∧
      seqNewer 48 5 7 = false)) ∧
  (((est.groom true = gsInStep ∨ est.groom true = gsSolo) ∧ 5 < 2 ^ 48 ∧ List.find? (fun x => x.cons == Consumer.dpll.id && x.seq == 5
      && x.b != true && decide (est.cycles ≤ x.cycle + 4)) est.outWins = none ∧ (∀ (m : Nat), Tbl.find Consumer.dpll.id est.acted =
      some m → seqNewer 48 5 m = true) ∧ est.dpll.estimate = some 7)) :=
  ⟨by decide +kernel, by decide +kernel, by decide +kernel, by decide +kernel, by decide +kernel, by decide +kernel, by decide +kernel⟩

theorem witness_TasksAndSampleLogsKeepToTheirOwn :
  (lg.taskRuns 3 = false ∧
    (tk.groomUp = true ∧ (tk.tasks.getD 3 { }).wait = none) ∧
    bit (BitVec.toNat (lg.rd R.GROOM_TASK_STATUS)) 3 = false ∧
    (¬(0 < 6 ∧ tk.on (F.GROOM_LOG_CTRL_ENABLE 0) = true ∧ tk.get (F.GROOM_LOG_PERIOD_N_MINUS_1 0) + 1 ≤ (tk.log 0).run)) ∧
    (tk.taskRuns 3 = true ∧ occupied a1 = false) ∧
    (tk.taskRuns 3 = true ∧ bit (tk.get F.GROOM_TASK_CFG_USER_READ) tk.taskCore = false) ∧
    (tk.taskRuns 3 = true ∧ tk.run = true ∧ (tk.outstanding (128 + 3)).length < 8 ∧ tk.accepted.length < 1024 ∧ nop.fence = false ∧ 67
      ∈ [67, 69, 70, 71, 73, 96, 97]) ∧
    bit (BitVec.toNat (tk.rd R.GROOM_TASK_STATUS)) 3 = true) ∧
  ((tk.taskRuns 3 = true ∧ occupied a2 = true ∧ peekWord a2 = none) ∧
    (tk.taskRuns 3 = true ∧ tk.run = true ∧ (tk.outstanding (128 + 3)).length < 8 ∧ tk.accepted.length < 1024 ∧ nop.fence = false ∧
      specNop.refusal
      { ring := 128 + 3, index := (tk.tasks.getD 3 { }).subs % 65536, flags := nop.flags, tag := nop.tag, p0 := nop.p0, time := nop.time, p1 := nop.p1, p2 := nop.p2, block := nop.block, at0 := nop.at0 }
      (tk.acceptAt false
      { ring := 128 + 3, index := (tk.tasks.getD 3 { }).subs % 65536, flags := nop.flags, tag := nop.tag, p0 := nop.p0, time := nop.time, p1 := nop.p1, p2 := nop.p2, block := nop.block, at0 := nop.at0 })
      tk = rOk ∧ nop.at? = false ∧ tk.fetches clsMgmt
      { ring := 128 + 3, index := (tk.tasks.getD 3 { }).subs % 65536, flags := nop.flags, tag := nop.tag, p0 := nop.p0, time := nop.time, p1 := nop.p1, p2 := nop.p2, block := nop.block, at0 := nop.at0 }
      = true) ∧
    (tkU.taskRuns 3 = true ∧ bit (tkU.get F.GROOM_TASK_CFG_USER_READ) tkU.taskCore = true) ∧
    bit (BitVec.toNat (tkU.rd R.GROOM_TASK_STATUS)) 3 = true ∧
    (wT1.groomUp = true ∧ (wT1.tasks.getD 3 { }).wait = some (WaitFor.time (ct (2 * sec))) ∧ ↑wT1.nt < wT1.ofCt (ct (2 * sec)))) ∧
  ((wT0.groomUp = true ∧ (wT0.tasks.getD 3 { }).wait = some (WaitFor.time (ct 5)) ∧ wT0.ofCt (ct 5) ≤ ↑wT0.nt) ∧
    (wE0.groomUp = true ∧ (wE0.tasks.getD 3 { }).wait = some (WaitFor.event 4) ∧ (wE0.tasks.getD 3 { }).due = false) ∧
    (wE1.groomUp = true ∧ (wE1.tasks.getD 3 { }).wait = some (WaitFor.event 4) ∧ (wE1.tasks.getD 3 { }).due = true) ∧
    (wC0.groomUp = true ∧ (wC0.tasks.getD 3 { }).wait = some WaitFor.completion ∧ (wC0.tasks.getD 3 { }).inbox = []) ∧
    (wC1.groomUp = true ∧ (wC1.tasks.getD 3 { }).wait = some WaitFor.completion ∧ (wC1.tasks.getD 3 { }).inbox = [cpl])) ∧
  (((3 < 6 ∧ lg.on (F.GROOM_LOG_CTRL_ENABLE 3) = true ∧ lg.get (F.GROOM_LOG_PERIOD_N_MINUS_1 3) + 1 ≤ (lg.log 3).run) ∧ (lg.log
      3).held.length < 4096) ∧
    ((3 < 6 ∧ lgF.on (F.GROOM_LOG_CTRL_ENABLE 3) = true ∧ lgF.get (F.GROOM_LOG_PERIOD_N_MINUS_1 3) + 1 ≤ (lgF.log 3).run) ∧ 4096 ≤
      (lgF.log 3).held.length) ∧
    (tkN.taskRuns 3 = true ∧ (tkN.run = false ∨ 8 ≤ (tkN.outstanding (128 + 3)).length ∨ 1024 ≤ tkN.accepted.length))) :=
  ⟨by decide +kernel, by decide +kernel, by decide +kernel, by decide +kernel⟩

end Twins

end Sys2Proof.Tests
end

section
/-! Soundness of the state at reset and under every step (00 R6; 07 R276, R277). -/

namespace Sys2Proof.Machine

open Sys2Proof

/-- Every command keeps the queue, the canonical register file and the sound forwarding database: one arm for each row of the dispatch, which
cites what its chapter proves of that row. -/
theorem exec_kept {Q : List Instr} (c : Instr) (s : State) (hs : Kept Q s) : KeptO Q (exec c s) :=
  match c with
  | .powerOn lost ts => execPowerOn_kept lost ts s hs
  | .brownOutAssert up => execBrownOutAssert_kept up s hs
  | .enableFall up => execEnableFall_kept up s hs
  | .enableRise long warn ts => execEnableRise_kept long warn ts s hs
  | .vioRise mv => execVioRise_kept mv s hs
  | .dieShutdownTrip up => execDieShutdownTrip_kept up s hs
  | .bypassSetPair d => execBypassSetPair_kept d s hs
  | .bypassSetHold d => execBypassSetHold_kept d s hs
  | .bypassHoldExpiry n => execBypassHoldExpiry_kept n s hs
  | .watchdogExpiry core => execWatchdogExpiry_kept core s hs
  | .lockup core => execLockup_kept core s hs
  | .clockFailure d k => execClockFailure_kept d k s hs
  | .domainRelease r => execDomainRelease_kept r s hs
  | .rstForceWrite v => execRstForceWrite_kept v s hs
  | .swreqSystem v => execSwreqSystem_kept v s hs
  | .swreqComplex v => execSwreqComplex_kept v s hs
  | .swreqNode v => execSwreqNode_kept v s hs
  | .swreqHeddle v => execSwreqHeddle_kept v s hs
  | .swreqEngine v => execSwreqEngine_kept v s hs
  | .swreqLane v => execSwreqLane_kept v s hs
  | .swreqTiming v => execSwreqTiming_kept v s hs
  | .swreqSynthesiser v => execSwreqSynthesiser_kept v s hs
  | .swreqPort v => execSwreqPort_kept v s hs
  | .dbgReqSystem v => execDbgReqSystem_kept v s hs
  | .dbgReqComplex v => execDbgReqComplex_kept v s hs
  | .bootStepComplete ok failing up => execBootStepComplete_kept ok failing up s hs
  | .pcieLinkTrained width speed => execPcieLinkTrained_kept width speed s hs
  | .pcieLinkDown perst => execPcieLinkDown_kept perst s hs
  | .dlGo v => execDlGo_kept v s hs
  | .dlFetchDone ok up => execDlFetchDone_kept ok up s hs
  | .storeWriteDone ok => execStoreWriteDone_kept ok s hs
  | .registerWrite bar2 a w => execRegisterWrite_kept bar2 a w s hs
  | .invalidAccess bar2 read a n => execInvalidAccess_kept bar2 read a n s hs
  | .latchingRead bar2 a => execLatchingRead_kept bar2 a s hs
  | .timeLatchRead sec => execTimeLatchRead_kept sec s hs
  | .tapLastRead t => execTapLastRead_kept t s hs
  | .obsPeekRead w => execObsPeekRead_kept w s hs
  | .obsPeekSelWrite v => execObsPeekSelWrite_kept v s hs
  | .counterLoWrite a v => execCounterLoWrite_kept a v s hs
  | .counterHiWrite a v => execCounterHiWrite_kept a v s hs
  | .hedCtrlWrite v => execHedCtrlWrite_kept v s hs
  | .trdEnableSet t v => execTrdEnableSet_kept t v s hs
  | .trdEnableClear t v => execTrdEnableClear_kept t v s hs
  | .outputCfgWrite a v => execOutputCfgWrite_kept a v s hs
  | .dbSqTail r v => execDbSqTail_kept r v s hs
  | .dbCqHead r v => execDbCqHead_kept r v s hs
  | .dbArmEnable r k => execDbArmEnable_kept r k s hs
  | .dbArmDisable r => execDbArmDisable_kept r s hs
  | .submissionAccept e x => execSubmissionAccept_kept e x s hs
  | .eventPendingFlush r => execEventPendingFlush_kept r s hs
  | .frameRxDelivery w => execFrameRxDelivery_kept w s hs
  | .rxWaitExpiry r => execRxWaitExpiry_kept r s hs
  | .bobbinDrain r p => execBobbinDrain_kept r p s hs
  | .logCompletion w => execLogCompletion_kept w s hs
  | .txFrame d => execTxFrame_kept d s hs
  | .rxBuffer d => execRxBuffer_kept d s hs
  | .logBuffer d => execLogBuffer_kept d s hs
  | .ruleWrite d => execRuleWrite_kept d s hs
  | .ruleSwap d => execRuleSwap_kept d s hs
  | .ruleClear d => execRuleClear_kept d s hs
  | .fdbAdd d => execFdbAdd_kept d s hs
  | .fdbDel d => execFdbDel_kept d s hs
  | .fdbFlush d => execFdbFlush_kept d s hs
  | .snapTake d => execSnapTake_kept d s hs
  | .snapWriteDone set ok => execSnapWriteDone_kept set ok s hs
  | .snapFreeze d => execSnapFreeze_kept d s hs
  | .snapThaw d => execSnapThaw_kept d s hs
  | .portSetConfigure d => execPortSetConfigure_kept d s hs
  | .portSetVlanMember d => execPortSetVlanMember_kept d s hs
  | .laneSetConfigure d => execLaneSetConfigure_kept d s hs
  | .laneSetReset d => execLaneSetReset_kept d s hs
  | .laneSetReadapt d => execLaneSetReadapt_kept d s hs
  | .readaptDone n rx tx => execReadaptDone_kept n rx tx s hs
  | .laneSetRetire d => execLaneSetRetire_kept d s hs
  | .laneSetReturn d => execLaneSetReturn_kept d s hs
  | .engineSetConfigure d => execEngineSetConfigure_kept d s hs
  | .engineSetPowerUp d => execEngineSetPowerUp_kept d s hs
  | .engineSetPowerDown d => execEngineSetPowerDown_kept d s hs
  | .engineSetReset d => execEngineSetReset_kept d s hs
  | .drainLsa d => execDrainLsa_kept d s hs
  | .drainLsb d => execDrainLsb_kept d s hs
  | .restoreLsa d => execRestoreLsa_kept d s hs
  | .restoreLsb d => execRestoreLsb_kept d s hs
  | .laserRampDone k b => execLaserRampDone_kept k b s hs
  | .resetSystem d => execResetSystem_kept d s hs
  | .resetComplex d => execResetComplex_kept d s hs
  | .resetNode d => execResetNode_kept d s hs
  | .nodeDrainDone n => execNodeDrainDone_kept n s hs
  | .resetHeddle d => execResetHeddle_kept d s hs
  | .resetEngine d => execResetEngine_kept d s hs
  | .resetLane d => execResetLane_kept d s hs
  | .resetTiming d => execResetTiming_kept d s hs
  | .resetSynthesiser d => execResetSynthesiser_kept d s hs
  | .resetPort d => execResetPort_kept d s hs
  | .imageWrite d => execImageWrite_kept d s hs
  | .imageClear d => execImageClear_kept d s hs
  | .cfgWrite d => execCfgWrite_kept d s hs
  | .calRunLanes d => execCalRunLanes_kept d s hs
  | .calRunCore d => execCalRunCore_kept d s hs
  | .calRunMi d => execCalRunMi_kept d s hs
  | .calRunOutputs d => execCalRunOutputs_kept d s hs
  | .calRunOutputLoop d => execCalRunOutputLoop_kept d s hs
  | .calRunAsym d => execCalRunAsym_kept d s hs
  | .calRunGnss d => execCalRunGnss_kept d s hs
  | .calItemDone e => execCalItemDone_kept e s hs
  | .calStore d => execCalStore_kept d s hs
  | .miCalGapTimeout k => execMiCalGapTimeout_kept k s hs
  | .shedSetEnable d => execShedSetEnable_kept d s hs
  | .shedSetDisable d => execShedSetDisable_kept d s hs
  | .filterSet d => execFilterSet_kept d s hs
  | .heddleLoad d => execHeddleLoad_kept d s hs
  | .heddleDisable d => execHeddleDisable_kept d s hs
  | .heddleEnable d => execHeddleEnable_kept d s hs
  | .heddleDrained h => execHeddleDrained_kept h s hs
  | .heddleReadbackDone h ok => execHeddleReadbackDone_kept h ok s hs
  | .picksReserve d => execPicksReserve_kept d s hs
  | .picksRelease d => execPicksRelease_kept d s hs
  | .mirrorSetSession d => execMirrorSetSession_kept d s hs
  | .mirrorSetGroup d => execMirrorSetGroup_kept d s hs
  | .rationsSetEgress d => execRationsSetEgress_kept d s hs
  | .rationsSetWeight d => execRationsSetWeight_kept d s hs
  | .frerSetWrite d => execFrerSetWrite_kept d s hs
  | .frerSetReset d => execFrerSetReset_kept d s hs
  | .refSetConfigure d => execRefSetConfigure_kept d s hs
  | .refSetGlobal d => execRefSetGlobal_kept d s hs
  | .refSetEsmc d => execRefSetEsmc_kept d s hs
  | .refSetRequalify d => execRefSetRequalify_kept d s hs
  | .dpllSteer d => execDpllSteer_kept d s hs
  | .timeAdjustSlew d => execTimeAdjustSlew_kept d s hs
  | .timeAdjustStep d => execTimeAdjustStep_kept d s hs
  | .timeAdjustSet d => execTimeAdjustSet_kept d s hs
  | .timingRole d => execTimingRole_kept d s hs
  | .kplSet d => execKplSet_kept d s hs
  | .ptpSetPort d => execPtpSetPort_kept d s hs
  | .ptpSetClock d => execPtpSetClock_kept d s hs
  | .clkoutSetClock d => execClkoutSetClock_kept d s hs
  | .clkoutSetPulse d => execClkoutSetPulse_kept d s hs
  | .clkoutSetTod d => execClkoutSetTod_kept d s hs
  | .clkoutSetSynth d => execClkoutSetSynth_kept d s hs
  | .align d => execAlign_kept d s hs
  | .treadleSetProgram d => execTreadleSetProgram_kept d s hs
  | .treadleSetStop d => execTreadleSetStop_kept d s hs
  | .gnssSetConfigure d => execGnssSetConfigure_kept d s hs
  | .gnssSetPosition d => execGnssSetPosition_kept d s hs
  | .gnssSetSurveyRestart d => execGnssSetSurveyRestart_kept d s hs
  | .gnssSetColdStart d => execGnssSetColdStart_kept d s hs
  | .ringSetConfigure d => execRingSetConfigure_kept d s hs
  | .ringSetDisable d => execRingSetDisable_kept d s hs
  | .attnAck d => execAttnAck_kept d s hs
  | .cancel d => execCancel_kept d s hs
  | .nop d => execNop_kept d s hs
  | .pickCycleBoundary n m => execPickCycleBoundary_kept n m s hs
  | .laneLockGained n l => execLaneLockGained_kept n l s hs
  | .linkUpHoldExpiry n => execLinkUpHoldExpiry_kept n s hs
  | .laneLockLost l => execLaneLockLost_kept l s hs
  | .laneAcquireTimeout n => execLaneAcquireTimeout_kept n s hs
  | .serdesFault n => execSerdesFault_kept n s hs
  | .fecDegradedSet n => execFecDegradedSet_kept n s hs
  | .fecDegradedClear n => execFecDegradedClear_kept n s hs
  | .laserInputLost k b => execLaserInputLost_kept k b s hs
  | .laserInputReturn k b => execLaserInputReturn_kept k b s hs
  | .engineSelfTestDone k ok => execEngineSelfTestDone_kept k ok s hs
  | .engineStartTimeout k => execEngineStartTimeout_kept k s hs
  | .opticalMonitorUpdate k lsa lsb ots pw => execOpticalMonitorUpdate_kept k lsa lsb ots pw s hs
  | .frameFirstByte p tm n ctl => execFrameFirstByte_kept p tm n ctl s hs
  | .frameLastByte p l pcs => execFrameLastByte_kept p l pcs s hs
  | .controlFrameReceive p l => execControlFrameReceive_kept p l s hs
  | .pauseHoldExpiry p c => execPauseHoldExpiry_kept p c s hs
  | .headDispatch n id l noRoom => execHeadDispatch_kept n id l noRoom s hs
  | .headDecision id => execHeadDecision_kept id s hs
  | .hedEccRepair corrected mem gen unit src frame => execHedEccRepair_kept corrected mem gen unit src frame s hs
  | .beamRelease q => execBeamRelease_kept q s hs
  | .warpSend n p choice arrived => execWarpSend_kept n p choice arrived s hs
  | .weftSend j p => execWeftSend_kept j p s hs
  | .reedArrival n d seq ecc word => execReedArrival_kept n d seq ecc word s hs
  | .releaseReport n d => execReleaseReport_kept n d s hs
  | .egressEnqueue d => execEgressEnqueue_kept d s hs
  | .hayloftSpill id => execHayloftSpill_kept id s hs
  | .hayloftFetch id bad stack word => execHayloftFetch_kept id bad stack word s hs
  | .pauseRepeat p => execPauseRepeat_kept p s hs
  | .egressChoose p tm n => execEgressChoose_kept p tm n s hs
  | .frameTxEnd p => execFrameTxEnd_kept p s hs
  | .cutUnderrun p => execCutUnderrun_kept p s hs
  | .shedEntryChange p => execShedEntryChange_kept p s hs
  | .launchFetch id => execLaunchFetch_kept id s hs
  | .launchStart p tm n => execLaunchStart_kept p tm n s hs
  | .ageLimitExpiry id => execAgeLimitExpiry_kept id s hs
  | .mcastCopyTimeout id => execMcastCopyTimeout_kept id s hs
  | .frerResetTimeout h => execFrerResetTimeout_kept h s hs
  | .xoCompareWindow ratio => execXoCompareWindow_kept ratio s hs
  | .tapSample t rx tx => execTapSample_kept t rx tx s hs
  | .miEdge k rising d => execMiEdge_kept k rising d s hs
  | .armedIntervalExpiry k => execArmedIntervalExpiry_kept k s hs
  | .gateEnd k => execGateEnd_kept k s hs
  | .refActivityLoss r valid => execRefActivityLoss_kept r valid s hs
  | .qualTimerExpiry r => execQualTimerExpiry_kept r s hs
  | .dpllStateEvaluate loop slew => execDpllStateEvaluate_kept loop slew s hs
  | .ageingLearn slope => execAgeingLearn_kept slope s hs
  | .esmcPduReceive p l => execEsmcPduReceive_kept p l s hs
  | .esmcTimeout r => execEsmcTimeout_kept r s hs
  | .synRelockStart n unlock => execSynRelockStart_kept n unlock s hs
  | .synLockAcquired n => execSynLockAcquired_kept n s hs
  | .synFreqCheck n pass => execSynFreqCheck_kept n pass s hs
  | .synRelockReturn n => execSynRelockReturn_kept n s hs
  | .synRelockRetry n => execSynRelockRetry_kept n s hs
  | .pulseEdge o => execPulseEdge_kept o s hs
  | .treadleEdge t => execTreadleEdge_kept t s hs
  | .todinMessage t l stop => execTodinMessage_kept t l stop s hs
  | .lldpSend p => execLldpSend_kept p s hs
  | .lldpduReceive p l => execLldpduReceive_kept p l s hs
  | .lldpTtlExpiry p => execLldpTtlExpiry_kept p s hs
  | .kplSlot p tm n => execKplSlot_kept p tm n s hs
  | .kplMarkReceive p tm n bs bad dtm dn => execKplMarkReceive_kept p tm n bs bad dtm dn s hs
  | .kplReplyReceive p tm n bs bad => execKplReplyReceive_kept p tm n bs bad s hs
  | .kplTimeReceive p bs bad => execKplTimeReceive_kept p bs bad s hs
  | .kplReplyTimeout p => execKplReplyTimeout_kept p s hs
  | .ptpAnnounceSend p => execPtpAnnounceSend_kept p s hs
  | .ptpSyncSend p => execPtpSyncSend_kept p s hs
  | .ptpFollowUpSend p => execPtpFollowUpSend_kept p s hs
  | .ptpDelayReqReceive p l => execPtpDelayReqReceive_kept p l s hs
  | .ptpDelayReqSend p => execPtpDelayReqSend_kept p s hs
  | .ptpDelayRespReceive p l => execPtpDelayRespReceive_kept p l s hs
  | .ptpDelayRespTimeout p => execPtpDelayRespTimeout_kept p s hs
  | .ptpSyncReceive p l => execPtpSyncReceive_kept p l s hs
  | .ptpFollowUpReceive p l => execPtpFollowUpReceive_kept p l s hs
  | .ptpAnnounceReceive p l => execPtpAnnounceReceive_kept p l s hs
  | .ptpAnnounceTimeout p => execPtpAnnounceTimeout_kept p s hs
  | .ptpIgnoredReceive p l => execPtpIgnoredReceive_kept p l s hs
  | .followUpMatchTimeout p => execFollowUpMatchTimeout_kept p s hs
  | .gnssSolution g => execGnssSolution_kept g s hs
  | .groomOutputReceive c b seq digest => execGroomOutputReceive_kept c b seq digest s hs
  | .groomResetEnd b => execGroomResetEnd_kept b s hs
  | .groomImageLoaded b => execGroomImageLoaded_kept b s hs
  | .resyncFinalCopy b => execResyncFinalCopy_kept b s hs
  | .shadowTakeover b => execShadowTakeover_kept b s hs
  | .shadowFault b => execShadowFault_kept b s hs
  | .taskReadReg t a => execTaskReadReg_kept t a s hs
  | .taskReadTime t => execTaskReadTime_kept t s hs
  | .taskSubmit t op d => execTaskSubmit_kept t op d s hs
  | .taskWait t w => execTaskWait_kept t w s hs
  | .taskWaitResume t => execTaskWaitResume_kept t s hs
  | .taskReadPc t k => execTaskReadPc_kept t k s hs
  | .taskRaise t detail => execTaskRaise_kept t detail s hs
  | .taskFault t => execTaskFault_kept t s hs
  | .logSample c t addr lat op user => execLogSample_kept c t addr lat op user s hs
  | .pwrWarnAssert => execPwrWarnAssert_kept s hs
  | .pwrWarnClear => execPwrWarnClear_kept s hs
  | .overvoltageEvent => execOvervoltageEvent_kept s hs
  | .dieWarnRise => execDieWarnRise_kept s hs
  | .oeWarnRise => execOeWarnRise_kept s hs
  | .tapReset => execTapReset_kept s hs
  | .resetNAssert => execResetNAssert_kept s hs
  | .resetNRelease => execResetNRelease_kept s hs
  | .perstNRise => execPerstNRise_kept s hs
  | .run => execRun_kept s hs
  | .relinkDone => execRelinkDone_kept s hs
  | .timeNsRead => execTimeNsRead_kept s hs
  | .effectiveAtBoundary => execEffectiveAtBoundary_kept s hs
  | .ruleWriteDone => execRuleWriteDone_kept s hs
  | .ruleSwapDeferred => execRuleSwapDeferred_kept s hs
  | .calAutoEvaluate => execCalAutoEvaluate_kept s hs
  | .halterEvaluate => execHalterEvaluate_kept s hs
  | .rationsDeal => execRationsDeal_kept s hs
  | .fdbAgeing => execFdbAgeing_kept s hs
  | .fateLedgerRecord => execFateLedgerRecord_kept s hs
  | .xoMainLost => execXoMainLost_kept s hs
  | .xoMainReturn => execXoMainReturn_kept s hs
  | .xoSpareLost => execXoSpareLost_kept s hs
  | .xoSpareReturn => execXoSpareReturn_kept s hs
  | .ovenStableRise => execOvenStableRise_kept s hs
  | .ageingTick => execAgeingTick_kept s hs
  | .ref13EstimateTimeout => execRef13EstimateTimeout_kept s hs
  | .refMonitorEvaluate => execRefMonitorEvaluate_kept s hs
  | .refSelection => execRefSelection_kept s hs
  | .holdoverWindowExpiry => execHoldoverWindowExpiry_kept s hs
  | .stepThreshold => execStepThreshold_kept s hs
  | .learningHour => execLearningHour_kept s hs
  | .esmcInfoSend => execEsmcInfoSend_kept s hs
  | .esmcEventSend => execEsmcEventSend_kept s hs
  | .todMessageSend => execTodMessageSend_kept s hs
  | .timeFirstSet => execTimeFirstSet_kept s hs
  | .qualityEvaluate => execQualityEvaluate_kept s hs
  | .leapApply => execLeapApply_kept s hs
  | .bmcaEvaluate => execBmcaEvaluate_kept s hs
  | .kplServoPublish => execKplServoPublish_kept s hs
  | .gnssSolutionTimeout => execGnssSolutionTimeout_kept s hs
  | .lagWindowExpiry => execLagWindowExpiry_kept s hs
  | .revertHoldExpiry => execRevertHoldExpiry_kept s hs
  | .healthEvent => execHealthEvent_kept s hs
  | .vioFall => execVioFall_kept s hs
  | .dieWarnFall => execDieWarnFall_kept s hs
  | .oeWarnFall => execOeWarnFall_kept s hs
  | .ovenStableFall => execOvenStableFall_kept s hs
  | .pcieConfigRequest => execPcieConfigRequest_kept s hs
  | .todinRxValidExpiry => execTodinRxValidExpiry_kept s hs
  | .engineShutdownTrip k ots => execEngineShutdownTrip_kept k ots s hs
  | .jtagBypass tdi => execJtagBypass_kept tdi s hs
  | .jtagIdcode tdi => execJtagIdcode_kept tdi s hs
  | .jtagSamplePreload lands tdi => execJtagSamplePreload_kept lands tdi s hs
  | .jtagExtest lands tdi => execJtagExtest_kept lands tdi s hs
  | .jtagClamp tdi => execJtagClamp_kept tdi s hs
  | .jtagHighz tdi => execJtagHighz_kept tdi s hs
  | .heddleGraphError h => execHeddleGraphError_kept h s hs
  | .lpiReceived n => execLpiReceived_kept n s hs
  | .elasticSlip n ins => execElasticSlip_kept n ins s hs
  | .hayloftStackFail k => execHayloftStackFail_kept k s hs
  | .gnssTimePulse m => execGnssTimePulse_kept m s hs
  | .gnssChannelHold c => execGnssChannelHold_kept c s hs
  | .gnssChannelIdle c => execGnssChannelIdle_kept c s hs
  | .antennaMeasure ma limit => execAntennaMeasure_kept ma limit s hs
  | .antennaShortRetry below => execAntennaShortRetry_kept below s hs
  | .jamEvaluate l1 l5 notches => execJamEvaluate_kept l1 l5 notches s hs

/-- A step keeps a sound state sound: the front command leaves the queue, which soundness does not read, and keeps the rest. -/
theorem step_sound {s t : State} (hs : s.Sound) (h : step s = .next t) : t.Sound := by
  unfold step at h
  split at h
  case h_1 => cases h; exact hs
  case h_2 c q _ =>
    have kept : Kept q t := keptO_elim (exec_kept c { s with pending := q } ⟨rfl, hs⟩) t h
    exact ⟨kept.regs, kept.fdb⟩

theorem reset_sound : State.reset.Sound := ⟨canonRegs_nil, fdbSound_nil⟩

/-- Settles O4: no register and no entry is listed at reset. -/
theorem resetStateIsSound : Obligations.ResetStateIsSound := ⟨reset_sound, fun _ => rfl, rfl, rfl⟩

/-- Settles O5, by `exec_kept`: each command keeps the register file canonical and the forwarding database sound. -/
theorem everyStepKeepsTheStateSound : Obligations.EveryStepKeepsTheStateSound := fun _ _ => step_sound

end Sys2Proof.Machine
end

section
/-! Register accesses by access code (00 R6, R7; 04 R122, R126) and the reads that latch (00 R6; 10 R397; 13 R484). -/

namespace Sys2Proof.Machine

open Sys2Proof

/-! ### States that differ in some registers alone -/

theorem sameBut_refl (l : List Nat) (s : State) : SameBut l s s := ⟨fun _ _ => rfl, rfl⟩

theorem sameBut_wr {l : List Nat} {a : Nat} (h : a ∈ l) (v : Word) (s : State) : SameBut l s (s.wr a v) :=
  ⟨fun _ hb => State.rd_wr_ne (fun e => hb (by rwa [e])) v s, rfl⟩

theorem sameBut_trans {l : List Nat} {s t u : State} (h : SameBut l s t) (g : SameBut l t u) : SameBut l s u := by
  obtain ⟨h1, h2⟩ := h
  obtain ⟨g1, g2⟩ := g
  refine ⟨fun a ha => (g1 a ha).trans (h1 a ha), ?_⟩
  rw [← h2, ← g2]

/-! ### Writes by access code -/

/-- The registers whose writes are commands, with effects of their own. -/
def commandRegs : List Nat := [R.SYS_CTRL, R.RST_SWREQ, R.RST_DBG_REQ, R.RST_FORCE, R.HIF_DL_CTRL, R.OBS_PEEK_SEL]

theorem occupied_of_rowOf {a : Nat} {r : RegRow} (h4 : a % 4 = 0) (hr : rowOf a = some r) : occupied a = true := by
  simp [occupied, h4, hr]

theorem State.hostWrite_of_not_command {a : Nat} (h : a ∉ commandRegs) (v same : Word) (s : State) :
    s.hostWrite a v same = s.regWrite a v same := by
  simp only [commandRegs, List.mem_cons, List.not_mem_nil, or_false, not_or] at h
  obtain ⟨h1, h2, h3, h4, h5, h6⟩ := h
  unfold State.hostWrite
  rw [if_neg h1, if_neg h2, if_neg h3, if_neg h4, if_neg h5, if_neg h6]

/-- A write to a register whose writes are no commands acts by the access codes of its row. -/
theorem exec_registerWrite_of_row {a : Nat} {r : RegRow} (h4 : a % 4 = 0) (hr : rowOf a = some r) (h : a ∉ commandRegs)
    (v same : Word) (s : State) : exec (.registerWrite false a ⟨v, same⟩) s = .next (s.regWrite a v same) := by
  show (if occupied a then .next (s.hostWrite a v same) else _ : Host.Outcome State Fault Refusal) = _
  rw [if_pos (occupied_of_rowOf h4 hr), State.hostWrite_of_not_command h]

theorem State.rwsOpen_of_not_ring {a : Nat} (h : isRingReg a = false) (s : State) : s.rwsOpen a = !s.run := by simp [State.rwsOpen, h]

/-- The word that a write leaves, bit by bit. -/
theorem State.written_bit (r : RegRow) (a : Nat) (v same : Word) (s : State) {k : Nat} (hk : k < 32) :
    (s.written r a v same).getLsbD k =
      ((if r.rw.getLsbD k || (r.rws.getLsbD k && s.rwsOpen a) then v.getLsbD k else (s.rd a).getLsbD k) &&
        !(v.getLsbD k && r.w1c.getLsbD k && !(s.justSet a same).getLsbD k)) := by
  have hm : (if s.rwsOpen a then r.rws else 0#32).getLsbD k = (r.rws.getLsbD k && s.rwsOpen a) := by
    cases s.rwsOpen a <;> simp
  simp only [State.written, BitVec.getLsbD_and, BitVec.getLsbD_or, BitVec.getLsbD_not, hm, hk, decide_true, Bool.true_and]
  cases r.rw.getLsbD k || (r.rws.getLsbD k && s.rwsOpen a) <;> simp

/-- A write with no bit to write and none to clear leaves the word. -/
theorem State.written_locked {r : RegRow} {a : Nat} {s : State} (hc : r.w1c = 0#32)
    (hm : r.rw ||| (if s.rwsOpen a then r.rws else 0#32) = 0#32) (v same : Word) : s.written r a v same = s.rd a := by
  simp only [State.written, hc, hm, BitVec.not_zero, BitVec.and_zero, BitVec.zero_and, BitVec.and_allOnes, BitVec.or_zero]

theorem State.regWrite_w1c {a : Nat} {r : RegRow} (hr : rowOf a = some r) (hc : r.w1c ≠ 0#32) (v same : Word) (s : State) :
    s.regWrite a v same = s.wr a (s.written r a v same) := by
  simp [State.regWrite, hr, hc]

theorem State.regWrite_locked {a : Nat} {r : RegRow} {s : State} (hr : rowOf a = some r) (hc : r.w1c = 0#32)
    (hm : r.rw ||| (if s.rwsOpen a then r.rws else 0#32) = 0#32) (v same : Word) : s.regWrite a v same = s := by
  simp only [State.regWrite, hr, hc, ne_eq, not_true_eq_false, if_false, hm, if_true]

theorem State.regWrite_open {a : Nat} {r : RegRow} {s : State} (hr : rowOf a = some r) (hc : r.w1c = 0#32)
    (hm : r.rw ||| (if s.rwsOpen a then r.rws else 0#32) ≠ 0#32) (v same : Word) :
    s.regWrite a v same = s.applyReg a (s.written r a v same) := by
  simp only [State.regWrite, hr, hc, ne_eq, not_true_eq_false, if_false, hm]

/-- In the EGR block a configured register takes its word and nothing follows from it. -/
theorem State.applyReg_egr {a : Nat} (h1 : 0x700000 ≤ a) (h2 : a < 0x780000) (w : Word) (s : State) : s.applyReg a w = s.wr a w := by
  unfold State.applyReg
  rw [if_neg (by omega), if_neg (by omega), if_neg (by omega), if_neg (by omega), if_neg (by omega), if_neg (by omega), if_pos h2]

theorem not_isRingReg_of_le {a : Nat} (h : 0x43000 ≤ a) : isRingReg a = false := by
  refine decide_eq_false (fun g => ?_)
  unfold R.HIF_RING_SQ_LO at g
  omega

theorem not_command_of_egr {a : Nat} (h1 : 0x700000 ≤ a) (h2 : a < 0x780000) : a ∉ commandRegs := by
  simp only [commandRegs, R.SYS_CTRL, R.RST_SWREQ, R.RST_DBG_REQ, R.RST_FORCE, R.HIF_DL_CTRL, R.OBS_PEEK_SEL, List.mem_cons,
    List.not_mem_nil, or_false]
  omega

/-- The outcome of a write that leaves the written word in its register and everything else as it was. -/
def WritesWord (r : RegRow) (a : Nat) (v same : Word) (s t : State) : Prop :=
  SameBut [a] s t ∧ t.rd a = s.written r a v same

theorem writesWord_wr (r : RegRow) (a : Nat) (v same : Word) (s : State) : WritesWord r a v same s (s.wr a (s.written r a v same)) :=
  ⟨sameBut_wr (List.mem_singleton_self a) _ s, State.rd_wr_self a _ s⟩

theorem State.regWrite_egr {a : Nat} {r : RegRow} (hr : rowOf a = some r) (h1 : 0x700000 ≤ a) (h2 : a < 0x780000) (v same : Word) (s : State) :
    WritesWord r a v same s (s.regWrite a v same) := by
  by_cases hc : r.w1c = 0#32
  · by_cases hm : r.rw ||| (if s.rwsOpen a then r.rws else 0#32) = 0#32
    · rw [State.regWrite_locked hr hc hm]
      exact ⟨sameBut_refl _ s, (State.written_locked hc hm v same).symm⟩
    · rw [State.regWrite_open hr hc hm, State.applyReg_egr h1 h2]
      exact writesWord_wr r a v same s
  · rw [State.regWrite_w1c hr hc]
    exact writesWord_wr r a v same s

/-- A written word outside the ring registers, with RUN for whether RWS bits are open. -/
theorem WritesWord.bit {r : RegRow} {a : Nat} {v same : Word} {s t : State} (h : WritesWord r a v same s t) (hring : isRingReg a = false)
    {k : Nat} (hk : k < 32) :
    (t.rd a).getLsbD k = ((if r.rw.getLsbD k || (r.rws.getLsbD k && !s.run) then v.getLsbD k else (s.rd a).getLsbD k) &&
      !(v.getLsbD k && r.w1c.getLsbD k && !(s.justSet a same).getLsbD k)) := by
  rw [h.2, State.written_bit r a v same s hk, State.rwsOpen_of_not_ring hring]

theorem State.regWrite_run {a : Nat} {r : RegRow} {s : State} (hr : rowOf a = some r) (hrun : s.run = true) (hw : r.rw = 0#32)
    (hc : r.w1c = 0#32) (hring : isRingReg a = false) (v same : Word) : s.regWrite a v same = s :=
  State.regWrite_locked hr hc (by simp [hw, State.rwsOpen_of_not_ring hring, hrun]) v same

/-- Which bits the module sets in a cycle, each setting notes (00 R7). -/
theorem State.setNow_stick_bit (a b : Nat) (s : State) {k : Nat} (hk : k < 32) :
    ((s.stick a b).setNow.getD a 0).getLsbD k = ((s.setNow.getD a 0).getLsbD k || k == b) := by
  have h1 : (s.stick a b).setNow.getD a 0 = s.setNow.getD a 0 ||| (1#32 <<< b) := Tbl.getD_put_self _ _ _ _
  have h2 : (1#32 <<< b).getLsbD k = (k == b) := by
    rw [BitVec.getLsbD_shiftLeft, BitVec.getLsbD_one, Bool.eq_iff_iff]
    simp
    omega
  rw [h1, BitVec.getLsbD_or, h2]

theorem State.justSet_eq {a : Nat} (h : a ≠ R.OBS_WRAP) (same : Word) (s : State) : s.justSet a same = s.setNow.getD a 0 &&& same := by
  simp [State.justSet, h]

/-- Settles O18: a write leaves the word of `State.written`, and `State.written_bit` reads it bit by bit. -/
theorem registerWritesFollowTheirAccessCodes : Obligations.RegisterWritesFollowTheirAccessCodes := by
  intro s a n v same r bar2 rd
  refine ⟨fun h4 hr => ⟨?egr, ?w1c, ?locked⟩, ?justSet, ?refusedWrite, ?refused⟩
  case egr =>
    intro h1 h2
    have h := State.regWrite_egr hr h1 h2 v same s
    exact ⟨_, exec_registerWrite_of_row h4 hr (not_command_of_egr h1 h2) v same s, h.1,
      fun _ hk => h.bit (not_isRingReg_of_le (by omega)) hk⟩
  case w1c =>
    intro hc hcmd hring
    have h : WritesWord r a v same s (s.regWrite a v same) := State.regWrite_w1c hr hc v same s ▸ writesWord_wr r a v same s
    exact ⟨_, exec_registerWrite_of_row h4 hr hcmd v same s, h.1, fun _ hk => h.bit hring hk⟩
  case locked =>
    intro hrun hw hc hring hcmd
    rw [exec_registerWrite_of_row h4 hr hcmd, State.regWrite_run hr hrun hw hc hring]
  case justSet => exact fun b k hk _ ha => ⟨State.justSet_eq ha same s, State.setNow_stick_bit a b s hk⟩
  case refusedWrite =>
    intro h
    show (if occupied a then _ else .next (s.badAccess false a) : Host.Outcome State Fault Refusal) = _
    rw [if_neg (by simp [h])]
    rfl
  case refused =>
    intro h
    show (if n = 4 ∧ _ then _ else .next (s.badAccess rd a) : Host.Outcome State Fault Refusal) = _
    have bad : ¬(n = 4 ∧ (if bar2 then (doorbellOf a).isSome else occupied a) = true) := by
      rintro ⟨hn, ho⟩
      have h' := h.resolve_left (not_not_intro hn)
      cases bar2
      · simp [show occupied a = true from ho] at h'
      · simp [Option.isNone_iff_eq_none.1 h'] at ho
    rw [if_neg bad]
    rfl

end Sys2Proof.Machine
end

section
/-! The reads that latch and the writes with rows of their own (00 R6; 07 R307; 10 R397; 12 R478, R480; 13 R484; 16 R585; 17 R609). -/

namespace Sys2Proof.Machine

open Sys2Proof

/-! ### Tables under several insertions and removals -/

theorem Tbl.find_foldl_ins_ne {α : Type} {f : Nat → Nat} (g : Nat → α) {l : List Nat} {k : Nat} (h : ∀ j ∈ l, k ≠ f j) (t : Tbl α) :
    Tbl.find k (l.foldl (fun t j => Tbl.ins (f j) (g j) t) t) = Tbl.find k t := by
  induction l generalizing t with
  | nil => rfl
  | cons j l ih =>
    rw [List.foldl_cons, ih (fun i hi => h i (List.mem_cons_of_mem _ hi)), Tbl.find_ins_ne (h j (List.mem_cons_self ..))]

/-- Each of several entries put at keys of their own is found. -/
theorem Tbl.find_foldl_ins {α : Type} {f : Nat → Nat} (hf : f.Injective) (g : Nat → α) {l : List Nat} {i : Nat} (hi : i ∈ l) (t : Tbl α) :
    Tbl.find (f i) (l.foldl (fun t j => Tbl.ins (f j) (g j) t) t) = some (g i) := by
  induction l generalizing t with
  | nil => cases hi
  | cons j l ih =>
    rw [List.foldl_cons]
    by_cases h : i ∈ l
    · exact ih h _
    · obtain rfl : i = j := (List.mem_cons.1 hi).resolve_right h
      rw [Tbl.find_foldl_ins_ne g (fun k hk e => h (by rwa [hf e])), Tbl.find_ins_self]

theorem Tbl.find_foldl_del {α : Type} (f : Nat → Nat) {l : List Nat} {i : Nat} {t : Tbl α} (h : i ∈ l ∨ Tbl.find (f i) t = none) :
    Tbl.find (f i) (l.foldl (fun t j => Tbl.del (f j) t) t) = none := by
  induction l generalizing t with
  | nil => exact h.resolve_left List.not_mem_nil
  | cons j l ih =>
    rw [List.foldl_cons]
    by_cases e : f i = f j
    · exact ih (.inr (by rw [e, Tbl.find_del_self]))
    · refine ih (h.imp (fun hi => (List.mem_cons.1 hi).resolve_left (fun hij => e (hij ▸ rfl))) (fun ht => ?_))
      rw [Tbl.find_del_ne e, ht]

/-! ### Latches -/

/-- Several latches set are so many entries put. -/
theorem State.forEach_latch (w : Nat) (f : Nat → Nat) (g : Nat → Word) (l : List Nat) (s : State) :
    s.forEach l (fun j => State.latch w (f j) (g j)) =
      { s with latches := l.foldl (fun t j => Tbl.ins (latchKey w (f j)) (g j) t) s.latches } := by
  induction l generalizing s with
  | nil => rfl
  | cons j l ih => rw [State.forEach_cons, ih]; rfl

/-- Several latches released are so many entries removed. -/
theorem State.forEach_unlatch (w : Nat) (f : Nat → Nat) (l : List Nat) (s : State) :
    s.forEach l (fun j => State.unlatch w (f j)) = { s with latches := l.foldl (fun t j => Tbl.del (latchKey w (f j)) t) s.latches } := by
  induction l generalizing s with
  | nil => rfl
  | cons j l ih => rw [State.forEach_cons, ih]; rfl

/-- The host's latches are keyed by the address itself. -/
@[simp] theorem latchKey_host (a : Nat) : latchKey 0 a = a := by simp [latchKey]

theorem State.latched_of_find {s : State} {a : Nat} {x : Word} (h : Tbl.find a s.latches = some x) : s.latched 0 a = x := by
  simp [State.latched, h]

/-! ### What a read returns -/

/-- A read of an occupied register outside the peek window. -/
theorem State.readReg_of_occupied {a : Nat} (h : occupied a = true) (hp : peekWord a = none) (s : State) :
    s.readReg false a = { (s.regRead 0 a).2 with rdata := (s.regRead 0 a).1 } := by
  simp [State.readReg, h, hp]

/-- Registers that show the word they hold, with no live state. -/
def showsHeld (a : Nat) : Bool :=
  (timeReg a).isNone && a != R.SYS_ID && a != R.OBS_HEALTH && a != R.HIF_STATUS && !inFram a &&
    !decide (R.LANE_CFG 0 ≤ a ∧ a < R.LANE_CFG 256 ∧ a % 0x400 = 0)

theorem State.live_of_showsHeld {a : Nat} (h : showsHeld a = true) (s : State) : s.live a = s.rd a := by
  simp only [showsHeld, Bool.and_eq_true, Option.isNone_iff_eq_none, bne_iff_ne, ne_eq, Bool.not_eq_true', decide_eq_false_iff_not] at h
  obtain ⟨⟨⟨⟨⟨h1, h2⟩, h3⟩, h4⟩, h5⟩, h6⟩ := h
  simp [State.live, h1, h2, h3, h4, h5, h6]

/-- Registers that are read for themselves: occupied, and not of the peek window, the time registers or the phase taps. -/
def readPlain (a : Nat) : Bool := occupied a && (peekWord a).isNone && (timeReg a).isNone && (tapOf a).isNone

/-- What the register map says of every latching pair: both registers are read for themselves and show what they hold, and the _HI register is no
_LO register. -/
theorem latchLos_map : ∀ lo ∈ latchLos, (readPlain lo = true ∧ showsHeld lo = true) ∧ (readPlain (lo + 4) = true ∧ showsHeld (lo + 4) = true) ∧
    isLatchLo (lo + 4) = false := by
  decide +kernel

theorem isLatchLo_of_mem {lo : Nat} (h : lo ∈ latchLos) : isLatchLo lo = true := by simp [isLatchLo, h]

theorem readPlain_iff {a : Nat} :
    readPlain a = true ↔ occupied a = true ∧ peekWord a = none ∧ timeReg a = none ∧ tapOf a = none := by
  simp [readPlain, and_assoc]

/-- A read of a _LO register that latches: its own value, and the value beside it held (00 R6). -/
theorem State.readReg_lo {lo : Nat} (h : lo ∈ latchLos) (s : State) :
    s.readReg false lo = { s.latch 0 (lo + 4) (s.rd (lo + 4)) with rdata := s.rd lo } := by
  obtain ⟨⟨hp, hs⟩, ⟨-, hs'⟩, -⟩ := latchLos_map lo h
  obtain ⟨ho, hw, ht, hn⟩ := readPlain_iff.1 hp
  have e : s.regRead 0 lo = (s.rd lo, s.latch 0 (lo + 4) (s.rd (lo + 4))) := by
    simp only [State.regRead, ht, hn, isLatchLo_of_mem h, if_true, State.live_of_showsHeld hs, State.live_of_showsHeld hs']
  rw [State.readReg_of_occupied ho hw, e]

/-- A read of the _HI register beside it: the latched value, released. -/
theorem State.readReg_hi {lo : Nat} (h : lo ∈ latchLos) (s : State) :
    s.readReg false (lo + 4) = { s.unlatch 0 (lo + 4) with rdata := s.latched 0 (lo + 4) } := by
  obtain ⟨-, ⟨hp, -⟩, hno⟩ := latchLos_map lo h
  obtain ⟨ho, hw, ht, hn⟩ := readPlain_iff.1 hp
  have e : s.regRead 0 (lo + 4) = (s.latched 0 (lo + 4), s.unlatch 0 (lo + 4)) := by
    simp only [State.regRead, ht, hn, hno, Nat.add_sub_cancel, isLatchLo_of_mem h, if_true, Bool.false_eq_true, if_false]
  rw [State.readReg_of_occupied ho hw, e]

/-! ### The time registers (13 R484) -/

/-- The addresses of the time registers. -/
def timeAddr (i : Nat) : Nat := R.TIME_CT_LO + 4 * i

theorem timeAddr_injective : timeAddr.Injective := fun i j h => by
  unfold timeAddr at h
  omega

theorem State.timeCapture_eq (s : State) :
    s.timeCapture 0 = { s with latches := (List.range 5).foldl (fun t j => Tbl.ins (timeAddr j) (timeWord s.nt j) t) s.latches } := by
  refine (State.forEach_latch 0 timeAddr (timeWord s.nt) (List.range 5) s).trans ?_
  simp only [latchKey_host]

theorem State.find_timeCapture {i : Nat} (h : i < 5) (s : State) : Tbl.find (timeAddr i) (s.timeCapture 0).latches = some (timeWord s.nt i) := by
  rw [State.timeCapture_eq]
  exact Tbl.find_foldl_ins timeAddr_injective _ (List.mem_range.2 h) _

/-- A read of TIME_CT_LO: the present network time, all five registers captured. -/
theorem State.readReg_timeCtLo (s : State) : s.readReg false R.TIME_CT_LO = { s.timeCapture 0 with rdata := timeWord s.nt 0 } := by
  have e : s.regRead 0 R.TIME_CT_LO = ((s.timeCapture 0).latched 0 (timeAddr 0), s.timeCapture 0) := rfl
  rw [State.readReg_of_occupied (by decide +kernel) (by decide +kernel), e, State.latched_of_find (State.find_timeCapture (by decide) s)]

/-- The latches over the time registers released. -/
def State.timeDrop (s : State) : State := s.forEach (List.range 5) (fun i => State.unlatch 0 (timeAddr i))

theorem State.timeDrop_eq (s : State) :
    s.timeDrop = { s with latches := (List.range 5).foldl (fun t j => Tbl.del (timeAddr j) t) s.latches } := by
  refine (State.forEach_unlatch 0 timeAddr (List.range 5) s).trans ?_
  simp only [latchKey_host]

theorem State.find_timeDrop {i : Nat} (h : i < 5) (s : State) : Tbl.find (timeAddr i) s.timeDrop.latches = none := by
  rw [State.timeDrop_eq]
  exact Tbl.find_foldl_del timeAddr (.inl (List.mem_range.2 h))

/-- A read of TIME_NS: the captured word, all five released. -/
theorem State.readReg_timeNs (s : State) : s.readReg false R.TIME_NS = { s.timeDrop with rdata := s.latched 0 R.TIME_NS } := by
  have e : s.regRead 0 R.TIME_NS = (s.latched 0 R.TIME_NS, s.timeDrop) := rfl
  rw [State.readReg_of_occupied (by decide +kernel) (by decide +kernel), e]

/-! ### The phase taps (10 R397) -/

/-- The addresses of words 1 to 7 of a tap's last sample. -/
def tapAddr (t j : Nat) : Nat := R.MEAS_TAP_LAST t + 4 * (j + 1)

theorem tapAddr_injective (t : Nat) : (tapAddr t).Injective := fun i j h => by
  unfold tapAddr at h
  omega

theorem tapLast_map : ∀ t < 286, occupied (R.MEAS_TAP_LAST t) = true := by decide +kernel

theorem peekWord_tapLast {t : Nat} (h : t < 286) : peekWord (R.MEAS_TAP_LAST t) = none := by
  refine if_neg (fun g => ?_)
  simp only [R.MEAS_TAP_LAST, R.OBS_PEEK_DATA] at g
  omega

theorem timeReg_tapLast (t : Nat) : timeReg (R.MEAS_TAP_LAST t) = none := by
  refine if_neg (fun g => ?_)
  simp only [R.MEAS_TAP_LAST, R.TIME_CT_LO, R.TIME_NS] at g
  omega

theorem tapOf_tapLast {t : Nat} (h : t < 286) : tapOf (R.MEAS_TAP_LAST t) = some (t, 0) := by
  have hlo : R.MEAS_TAP_LAST 0 ≤ R.MEAS_TAP_LAST t ∧ R.MEAS_TAP_LAST t < R.MEAS_TAP_LAST 286 := by
    simp only [R.MEAS_TAP_LAST]
    omega
  have hoff : R.MEAS_TAP_LAST t - R.MEAS_TAP_LAST 0 = 0x20 * t := by
    simp only [R.MEAS_TAP_LAST]
    omega
  unfold tapOf
  rw [if_pos hlo, hoff]
  simp

/-- A read of word 0 of a tap's last sample: that word, with words 1 to 7 held. -/
theorem State.readReg_tapLast {t : Nat} (h : t < 286) (s : State) : s.readReg false (R.MEAS_TAP_LAST t) =
    { s with rdata := s.rd (R.MEAS_TAP_LAST t),
             latches := (List.range 7).foldl (fun l j => Tbl.ins (tapAddr t j) (s.rd (tapAddr t j)) l) s.latches } := by
  have e : s.regRead 0 (R.MEAS_TAP_LAST t) =
      (s.rd (R.MEAS_TAP_LAST t), s.forEach (List.range 7) (fun j => State.latch 0 (tapAddr t j) (s.rd (tapAddr t j)))) := by
    simp only [State.regRead, timeReg_tapLast, tapOf_tapLast h]
    rfl
  rw [State.readReg_of_occupied (tapLast_map t h) (peekWord_tapLast h), e, State.forEach_latch]
  simp only [latchKey_host]

/-! ### Writes with rows of their own -/

/-- A counter's _HI register, with its _LO register held: both are written (16 R585). -/
theorem State.perfHiWrite_held {a : Nat} {x : Word} {s : State} (ha : isPerfLo a = true) (h : Tbl.find a s.perfHold = some x) (v : Word) :
    s.perfHiWrite (a + 4) v = ({ s with perfHold := Tbl.del a s.perfHold }.wr a x).wr (a + 4) (v &&& 0xFFFF#32) := by
  simp only [State.perfHiWrite, Nat.add_sub_cancel, ha, if_true, h]

/-- From RUN on the writes with rows of their own change nothing. -/
theorem exec_setupWrites_run {s : State} (h : s.run = true) (a t : Nat) (v : Word) :
    ∀ c ∈ [Instr.counterLoWrite a v, .counterHiWrite a v, .hedCtrlWrite v, .trdEnableSet t v, .trdEnableClear t v, .outputCfgWrite a v],
      exec c s = .next s := by
  have locked : ¬(!s.run) = true := by simp [h]
  intro c hc
  simp only [List.mem_cons, List.not_mem_nil, or_false] at hc
  rcases hc with rfl | rfl | rfl | rfl | rfl | rfl
  exacts [if_pos h, if_pos h, if_pos h, if_neg (fun g => locked g.2.1), if_neg (fun g => locked g.2.1), if_neg (fun g => locked g.2)]

/-- Settles O19: the latching reads by `readReg_lo`, `readReg_hi`, `readReg_timeCtLo`, `readReg_timeNs` and `readReg_tapLast`, the writes by the guards
of their rows. -/
theorem latchingReadsAndHeldWrites : Obligations.LatchingReadsAndHeldWrites := by
  intro s lo a t w v
  refine ⟨?lo, ?hi, ?timeLatch, ?timeNs, ?tap, rfl, ?peek, ?noPeek, ?counters, ?hedCtrl, ?trdSet, ?trdClear, ?output,
    fun h => exec_setupWrites_run h a t v⟩
  case lo =>
    intro h
    refine ⟨_, congrArg Host.Outcome.next (State.readReg_lo h s), rfl, ?_, rfl⟩
    show Tbl.find (lo + 4) (Tbl.ins (latchKey 0 (lo + 4)) _ _) = _
    rw [latchKey_host, Tbl.find_ins_self]
  case hi =>
    intro h x hx
    refine ⟨_, congrArg Host.Outcome.next (State.readReg_hi h s), State.latched_of_find hx, ?_, rfl⟩
    show Tbl.find (lo + 4) (Tbl.del (latchKey 0 (lo + 4)) _) = _
    rw [latchKey_host, Tbl.find_del_self]
  case timeLatch =>
    refine ⟨_, congrArg Host.Outcome.next (State.readReg_timeCtLo s), rfl, fun i hi => State.find_timeCapture hi s, ?_⟩
    rw [State.timeCapture_eq]
  case timeNs =>
    intro x hx
    refine ⟨_, congrArg Host.Outcome.next (State.readReg_timeNs s), State.latched_of_find hx, fun i hi => State.find_timeDrop hi s, ?_⟩
    rw [State.timeDrop_eq]
  case tap =>
    intro h
    have e : exec (.tapLastRead t) s = .next (s.readReg false (R.MEAS_TAP_LAST t)) := if_pos h
    rw [e, State.readReg_tapLast h]
    exact ⟨_, rfl, rfl, fun i hi => Tbl.find_foldl_ins (tapAddr_injective t) (fun j => s.rd (tapAddr t j)) (List.mem_range.2 hi) _, rfl⟩
  case peek => exact ⟨_, rfl, rfl, rfl, rfl⟩
  case noPeek => exact fun h => if_neg (Nat.not_lt.2 h)
  case counters =>
    intro hrun ha
    have notRun : ¬s.run = true := by simp [hrun]
    refine ⟨(if_neg notRun).trans (congrArg Host.Outcome.next (if_pos ha)), fun x hx => (if_neg notRun).trans ?_⟩
    rw [State.perfHiWrite_held ha hx]
  case hedCtrl => exact fun hrun => if_neg (by simp [hrun])
  case trdSet => exact fun hrun ht hv => if_pos ⟨ht, by rw [hrun]; rfl, hv⟩
  case trdClear => exact fun hrun ht hv => if_pos ⟨ht, by rw [hrun]; rfl, by rw [hv]; rfl⟩
  case output => exact fun hrun ha => if_pos (by simp [hrun, ha])

end Sys2Proof.Machine
end

section
/-! A port's settings and its shed (04 R154; 06 R236 to R242, R255 to R257). -/

namespace Sys2Proof.Machine

open Sys2Proof

/-! ### Several registers written -/

theorem sameBut_mono {l m : List Nat} (hm : ∀ a ∈ l, a ∈ m) {s t : State} (h : SameBut l s t) : SameBut m s t :=
  ⟨fun a ha => h.1 a (fun g => ha (hm a g)), h.2⟩

theorem sameBut_set {l : List Nat} {f : Fld} (h : f.addr ∈ l) (v : Nat) (s : State) : SameBut l s (s.set f v) := sameBut_wr h _ s

theorem sameBut_forEach {α : Type} {l : List Nat} {m : List α} {f : α → State → State} (h : ∀ x ∈ m, ∀ s, SameBut l s (f x s)) (s : State) :
    SameBut l s (s.forEach m f) := by
  induction m generalizing s with
  | nil => exact sameBut_refl l s
  | cons x m ih =>
    exact sameBut_trans (h x (List.mem_cons_self ..) s) (ih (fun y hy => h y (List.mem_cons_of_mem _ hy)) (f x s))

/-- A register that no element writes stays. -/
theorem State.rd_forEach_ne {α : Type} {m : List α} {f : α → State → State} {a : Nat} (h : ∀ x ∈ m, ∀ s : State, (f x s).rd a = s.rd a)
    (s : State) : (s.forEach m f).rd a = s.rd a := by
  induction m generalizing s with
  | nil => rfl
  | cons x m ih => rw [State.forEach_cons, ih (fun y hy => h y (List.mem_cons_of_mem _ hy)), h x (List.mem_cons_self ..)]

/-- A register that one element writes and no other reads as that element writes it. -/
theorem State.rd_forEach_of_mem {α : Type} {m : List α} {f : α → State → State} {a : Nat} {v : Word} {x : α} (hx : x ∈ m)
    (hv : ∀ s : State, (f x s).rd a = v) (hne : ∀ y ∈ m, y ≠ x → ∀ s : State, (f y s).rd a = s.rd a) (s : State) :
    (s.forEach m f).rd a = v := by
  induction m generalizing s with
  | nil => cases hx
  | cons y m ih =>
    have rest : ∀ z ∈ m, z ≠ x → ∀ s : State, (f z s).rd a = s.rd a := fun z hz => hne z (List.mem_cons_of_mem _ hz)
    rw [State.forEach_cons]
    by_cases h : x ∈ m
    · exact ih h rest _
    · obtain rfl : x = y := (List.mem_cons.1 hx).resolve_right h
      rw [State.rd_forEach_ne (fun z hz => rest z hz (fun e => h (e ▸ hz))), hv]

/-- The addresses of `n` consecutive words. -/
def wordsAt (a n : Nat) : List Nat := (List.range n).map (fun i => a + 4 * i)

theorem mem_wordsAt {a n x : Nat} : x ∈ wordsAt a n ↔ ∃ i < n, x = a + 4 * i := by
  simp [wordsAt, eq_comm]

theorem State.rd_wrWords_ne {x : Nat} (l : List Nat) {a : Nat} (h : x ∉ wordsAt a l.length) (s : State) : (s.wrWords a l).rd x = s.rd x := by
  induction l generalizing a s with
  | nil => rfl
  | cons v l ih =>
    have h0 : x ≠ a := fun e => h (mem_wordsAt.2 ⟨0, by simp, by simp [e]⟩)
    have hl : x ∉ wordsAt (a + 4) l.length := fun g => by
      obtain ⟨i, hi, e⟩ := mem_wordsAt.1 g
      exact h (mem_wordsAt.2 ⟨i + 1, by simp [hi], by omega⟩)
    exact (ih hl _).trans (State.rd_wr_ne h0 _ _)

theorem State.rd_wrWords (l : List Nat) (a : Nat) {i : Nat} (h : i < l.length) (s : State) :
    (s.wrWords a l).rd (a + 4 * i) = BitVec.ofNat 32 l[i] := by
  induction l generalizing a i s with
  | nil => cases h
  | cons v l ih =>
    cases i with
    | zero =>
      refine (State.rd_wrWords_ne l (a := a + 4) (fun g => ?_) _).trans (State.rd_wr_self a _ s)
      obtain ⟨j, -, e⟩ := mem_wordsAt.1 g
      omega
    | succ i =>
      have e := ih (a + 4) (Nat.lt_of_succ_lt_succ h) (s.wr a (BitVec.ofNat 32 v))
      rwa [show a + 4 + 4 * i = a + 4 * (i + 1) by omega] at e

theorem State.wrWords_regs (l : List Nat) (a : Nat) (s : State) : { s.wrWords a l with regs := s.regs } = s := by
  induction l generalizing a s with
  | nil => rfl
  | cons v l ih => exact congrArg (fun t : State => { t with regs := s.regs }) (ih (a + 4) (s.wr a (BitVec.ofNat 32 v)))

theorem sameBut_wrWords (l : List Nat) (a : Nat) (s : State) : SameBut (wordsAt a l.length) s (s.wrWords a l) :=
  ⟨fun _ h => State.rd_wrWords_ne l h s, State.wrWords_regs l a s⟩

/-! ### PORT_SET (06 R236, R255) -/

theorem State.rd_holdClass {p c q a : Nat} (h : a ≠ R.MAC_STATUS p) (s : State) : (s.holdClass p c q).rd a = s.rd a := by
  have hf : a ≠ (if c = 8 then F.MAC_STATUS_RX_PAUSED p else ⟨R.MAC_STATUS p, 8 + c, 1⟩ : Fld).addr := by split <;> exact h
  unfold State.holdClass
  dsimp only
  split <;> exact State.rd_set_ne hf _ _

theorem State.rd_clearHolds {p a : Nat} (h : a ≠ R.MAC_STATUS p) (s : State) : (s.clearHolds p).rd a = s.rd a :=
  State.rd_forEach_ne (fun _ _ => State.rd_holdClass h) s

theorem State.sendCtl_regs (p t : Nat) (s : State) : (s.sendCtl p t).regs = s.regs := by
  unfold State.sendCtl
  split <;> rfl

theorem State.rd_of_regs {s t : State} (h : t.regs = s.regs) (a : Nat) : t.rd a = s.rd a := by
  unfold State.rd
  rw [h]

theorem State.rd_sendRelease {p a : Nat} (h : a ≠ R.MAC_STATUS p) (s : State) : (s.sendRelease p).rd a = s.rd a := by
  unfold State.sendRelease
  split
  · rfl
  · exact (State.rd_set_ne (f := F.MAC_STATUS_XOFF_SENT p) h _ _).trans (State.rd_of_regs (State.sendCtl_regs p 0 s) a)

/-- What holds a front port stands in LOOM_HALT_STATUS, which no hold of its link partner touches. -/
theorem State.held_released {p : Nat} (h : p < 272) (s : State) : ((s.clearHolds p).sendRelease p).held p = s.held p := by
  have e : ((s.clearHolds p).sendRelease p).rd (R.LOOM_HALT_STATUS p) = s.rd (R.LOOM_HALT_STATUS p) := by
    have hne : R.LOOM_HALT_STATUS p ≠ R.MAC_STATUS p := by
      unfold R.LOOM_HALT_STATUS R.MAC_STATUS
      omega
    rw [State.rd_sendRelease hne, State.rd_clearHolds hne]
  simp only [State.held, h, if_true]
  rw [State.on_addr (f := F.LOOM_HALT_STATUS_PORT_HOLD p) e, State.on_addr (f := F.LOOM_HALT_STATUS_NODE_HOLD p) e]

theorem State.fetched_held {p : Nat} (h : p < 272) (d : Submission) (s : State) : (s.fetched d).held p = s.held p := by
  simp [State.held, h]

/-- The block asks for a flow-control mode other than the one in force. -/
def Submission.changesFcMode (d : Submission) (p : Nat) (s : State) : Prop := p < 272 ∧ bits (d.le 8 4) 1 2 ≠ s.get (F.MAC_CFG_FC_MODE p)

theorem specPortConfigure_act_same {c : Cmd} {s : State} (h : ¬c.sub.changesFcMode (c.sub.P0 0 9) s) :
    specPortConfigure.act c s =
      ((s.macKeep (c.sub.P0 0 9) c.boundary).putRegs c.sub 8 (portRegs (c.sub.P0 0 9)), .done rOk 0 0) := by
  have e : (decide (c.sub.P0 0 9 < 272) && bits (c.sub.le 8 4) 1 2 != s.get (F.MAC_CFG_FC_MODE (c.sub.P0 0 9))) = false := by
    simpa [Submission.changesFcMode] using h
  simp only [specPortConfigure, e, State.when_false, Bool.false_and]

theorem specPortConfigure_act_change {c : Cmd} {s : State} (h : c.sub.changesFcMode (c.sub.P0 0 9) s) {u : State}
    (hu : u = (((s.clearHolds (c.sub.P0 0 9)).sendRelease (c.sub.P0 0 9)).macKeep (c.sub.P0 0 9) c.boundary).putRegs c.sub 8
      (portRegs (c.sub.P0 0 9))) :
    specPortConfigure.act c s = (if s.held (c.sub.P0 0 9) then u.sendHold (c.sub.P0 0 9) else u, .done rOk 0 0) := by
  have e : (decide (c.sub.P0 0 9 < 272) && bits (c.sub.le 8 4) 1 2 != s.get (F.MAC_CFG_FC_MODE (c.sub.P0 0 9))) = true := by
    simpa [Submission.changesFcMode] using h
  subst hu
  simp only [specPortConfigure, e, State.when_true, Bool.true_and, State.held_released h.1]
  rfl

/-- A PORT_SET CONFIGURE taken: it ends in its step with what its action leaves. -/
theorem exec_portSetConfigure {d : Submission} {s u : State} (h : Ready specPortConfigure d s)
    (ha : specPortConfigure.act (cmdOf 0x40 d s) (s.fetched d) = (u, .done rOk 0 0)) :
    exec (.portSetConfigure d) s = .next ((cmdOf 0x40 d s).ended rOk 0 0 u) :=
  congrArg Host.Outcome.next (CmdSpec.take_ends h (by decide) (by decide) rfl ha)

/-- The membership words that a PORT_SET VLAN_MEMBER writes: VID 4095 is never a member (06 R227). -/
def vlanWords (d : Submission) : List Nat :=
  (List.range 128).map (fun w => if w = 127 then d.le (8 + 4 * w) 4 % 2 ^ 31 else d.le (8 + 4 * w) 4)

theorem exec_portSetVlanMember {d : Submission} {s : State} (h : Ready specPortVlan d s) :
    exec (.portSetVlanMember d) s = .next ((cmdOf 0x40 d s).ended rOk 0 0
      ((s.fetched d).wrWords (R.MAC_VLAN_MEMBER (d.P0 0 9) 0) (vlanWords d))) :=
  congrArg Host.Outcome.next (CmdSpec.take_ends h (by decide) (by decide) rfl rfl)

theorem length_vlanWords (d : Submission) : (vlanWords d).length = 128 := by simp [vlanWords]

theorem vlanMember_wordsAt (p : Nat) : wordsAt (R.MAC_VLAN_MEMBER p 0) 128 = (List.range 128).map (R.MAC_VLAN_MEMBER p) := rfl

/-! ### FILTER_SET (06 R256) -/

/-- The three words of the `i`-th entry that a FILTER_SET writes. -/
def filterWords (d : Submission) (i : Nat) : List Nat := (List.range 3).map (fun w => d.le (8 + 16 * i + 4 * w) 4)

theorem length_filterWords (d : Submission) (i : Nat) : (filterWords d i).length = 3 := rfl

/-- The entries of a FILTER_SET written to port `p`. -/
def State.putFilters (d : Submission) (p : Nat) (s : State) : State :=
  s.forEach (List.range (d.b 1)) (fun i => State.wrWords (R.MAC_FILTER p (d.b 0 + i)) (filterWords d i))

theorem exec_filterSet {d : Submission} {s : State} (h : Ready specFilterSet d s) :
    exec (.filterSet d) s = .next ((cmdOf 0x4B d s).ended rOk 0 0
      (((s.fetched d).macKeep (d.P0 0 9) (cmdOf 0x40 d s).boundary).putFilters d (d.P0 0 9))) :=
  congrArg Host.Outcome.next (CmdSpec.take_ends h (by decide) (by decide) rfl rfl)

theorem sameBut_putFilters (d : Submission) (p : Nat) (s : State) :
    SameBut ((List.range (d.b 1)).flatMap (fun i => (List.range 3).map (fun w => R.MAC_FILTER p (d.b 0 + i) + 4 * w))) s (s.putFilters d p) :=
  sameBut_forEach (fun i hi t => sameBut_mono (fun _ ha => List.mem_flatMap.2 ⟨i, hi, ha⟩) (sameBut_wrWords (filterWords d i) _ t)) s

/-- Each word of each entry reads as the block has it: entries lie 16 bytes apart. -/
theorem State.rd_putFilters (d : Submission) (p : Nat) {i w : Nat} (hi : i < d.b 1) (hw : w < 3) (s : State) :
    (s.putFilters d p).rd (R.MAC_FILTER p (d.b 0 + i) + 4 * w) = BitVec.ofNat 32 (d.le (8 + 16 * i + 4 * w) 4) := by
  refine State.rd_forEach_of_mem (List.mem_range.2 hi) (fun t => ?_) (fun j _ hj t => ?_) s
  · rw [State.rd_wrWords _ _ (by rwa [length_filterWords])]
    simp [filterWords]
  · refine State.rd_wrWords_ne _ (fun g => ?_) t
    obtain ⟨k, hk, e⟩ := mem_wordsAt.1 g
    rw [length_filterWords] at hk
    unfold R.MAC_FILTER at e
    omega

/-! ### Sheds (06 R237 to R242, R257) -/

theorem State.fetched_sheds (d : Submission) (s : State) : (s.fetched d).sheds = s.sheds := by
  unfold State.fetched State.modRing
  split <;> rfl

theorem State.fetched_shed (d : Submission) (s : State) (p : Nat) : (s.fetched d).shed p = s.shed p := by
  unfold State.shed
  rw [State.fetched_sheds]

/-- The programme in a SHED_SET's block. -/
def Submission.programme (d : Submission) : Shed where
  base := d.le 0 8
  cycleNs := d.le 8 4
  entries := (List.range (d.le 12 2)).map (fun e => (d.b (16 + 8 * e), d.le (20 + 8 * e) 4))

theorem specShedSet_act_on {c : Cmd} {s : State} (h : c.sub.b 14 = 1) : specShedSet.act c s =
    ((({ s with sheds := Tbl.ins (c.sub.P0 0 9) c.sub.programme s.sheds } : State).updShed (c.sub.P0 0 9)).pruneShed (c.sub.P0 0 9),
      .done rOk 0 0) := by
  simp only [specShedSet, h, if_true]
  rfl

theorem specShedSet_act_off {c : Cmd} {s : State} (h : c.sub.b 14 ≠ 1) : specShedSet.act c s =
    ((({ s with sheds := Tbl.del (c.sub.P0 0 9) s.sheds } : State).updShed (c.sub.P0 0 9)).pruneShed (c.sub.P0 0 9), .done rOk 0 0) := by
  simp only [specShedSet, h, if_false]

/-- SHED_SET taken at the start of the cycle in force: its action's completion, and what is pending on the port. -/
theorem exec_shedSet {d : Submission} {s u : State} {c : Cmd} (h : Ready specShedSet d s)
    (hc : c = (s.fetched d).newCmd 0x4A d ((s.fetched d).shedStart (d.P0 0 9) (s.acceptAt true d + 1)))
    (ha : specShedSet.act c (s.fetched d) = (u, .done rOk 0 0)) :
    specShedSet.take 0x4A true d s = (c.ended rOk 0 0 u).updPending c := by
  rw [CmdSpec.take_first (f := (s.fetched d).shedStart (d.P0 0 9)) h rfl, ← hc, CmdSpec.actNow_done ha]

/-- The two registers that show a port's shed. -/
theorem sameBut_updShed (p : Nat) (s : State) : SameBut [R.MAC_SHED_STATUS p, R.MAC_STATUS p] s (s.updShed p) := by
  have both : ∀ v b, SameBut [R.MAC_SHED_STATUS p, R.MAC_STATUS p] s ((s.set (F.MAC_SHED_STATUS_ENTRY p) v).setB (F.MAC_STATUS_SHED_ON p) b) :=
    fun v b => sameBut_trans (t := s.set (F.MAC_SHED_STATUS_ENTRY p) v) (sameBut_set (f := F.MAC_SHED_STATUS_ENTRY p) (List.mem_cons_self ..) v s)
      (sameBut_set (f := F.MAC_STATUS_SHED_ON p) (List.mem_cons_of_mem _ (List.mem_singleton_self _)) _ _)
  unfold State.updShed
  split <;> exact both _ _

theorem State.get_shedShown (p v : Nat) (b : Bool) (s : State) :
    ((s.set (F.MAC_SHED_STATUS_ENTRY p) v).setB (F.MAC_STATUS_SHED_ON p) b).get (F.MAC_SHED_STATUS_ENTRY p) =
        v % 2 ^ (F.MAC_SHED_STATUS_ENTRY p).w ∧
      ((s.set (F.MAC_SHED_STATUS_ENTRY p) v).setB (F.MAC_STATUS_SHED_ON p) b).get (F.MAC_STATUS_SHED_ON p) = b2n b := by
  have hne : (F.MAC_SHED_STATUS_ENTRY p).addr ≠ (F.MAC_STATUS_SHED_ON p).addr := by
    show R.MAC_SHED_STATUS p ≠ R.MAC_STATUS p
    unfold R.MAC_SHED_STATUS R.MAC_STATUS
    omega
  refine ⟨?_, State.get_setB_self (f := F.MAC_STATUS_SHED_ON p) (show 24 + 1 ≤ 32 by decide) (show 0 < 1 by decide) b _⟩
  exact (State.get_set_addr hne _ _).trans (State.get_set_self (f := F.MAC_SHED_STATUS_ENTRY p) (show 0 + 8 ≤ 32 by decide) v s)

theorem State.updShed_none {p : Nat} {s : State} (h : s.shed p = none) :
    s.updShed p = (s.set (F.MAC_SHED_STATUS_ENTRY p) 0).setB (F.MAC_STATUS_SHED_ON p) false := by simp [State.updShed, h]

theorem State.updShed_some {p : Nat} {s : State} {sh : Shed} (h : s.shed p = some sh) :
    s.updShed p = (s.set (F.MAC_SHED_STATUS_ENTRY p) (sh.entry s.nt).1).setB (F.MAC_STATUS_SHED_ON p) true := by simp [State.updShed, h]

/-- Settles O34: each command by the lemma of its row, taken in its step, and what its action writes by the laws of words written in a row. -/
theorem portSettingsAndSheds : Obligations.PortSettingsAndSheds := by
  intro s d p sh t b c new
  refine ⟨?configure, ?vlan, ?filter, ?shedSet, ?noShed, ?shed⟩
  case configure =>
    rintro h rfl
    refine ⟨fun hsame => ?_, fun hp hchange => ⟨_, rfl, ?_⟩⟩
    · have same : ¬d.changesFcMode (d.P0 0 9) t := by
        rintro ⟨h1, h2⟩
        rw [State.fetched_get] at h2
        exact hsame.elim (Nat.not_le.2 h1) h2
      exact exec_portSetConfigure h (specPortConfigure_act_same same)
    · have change : d.changesFcMode (d.P0 0 9) t := ⟨hp, by rwa [State.fetched_get]⟩
      rw [← State.fetched_held hp d s]
      exact exec_portSetConfigure h (specPortConfigure_act_change change rfl)
  case vlan =>
    rintro h rfl
    refine ⟨_, exec_portSetVlanMember h, ?_, fun w hw => ?_⟩
    · have e := sameBut_wrWords (vlanWords d) (R.MAC_VLAN_MEMBER (d.P0 0 9) 0) t
      rwa [length_vlanWords, vlanMember_wordsAt] at e
    · refine (State.rd_wrWords (vlanWords d) (R.MAC_VLAN_MEMBER (d.P0 0 9) 0) (by rwa [length_vlanWords]) t).trans ?_
      simp [vlanWords]
  case filter =>
    rintro h rfl
    exact ⟨_, exec_filterSet h, sameBut_putFilters d _ _, fun i hi w hw => State.rd_putFilters d _ hi hw _⟩
  case shedSet =>
    rintro h rfl
    rw [← State.fetched_sheds d s]
    exact ⟨fun on => congrArg Host.Outcome.next (exec_shedSet h rfl (specShedSet_act_on on)),
      fun off => congrArg Host.Outcome.next (exec_shedSet h rfl (specShedSet_act_off off))⟩
  case noShed =>
    intro h
    refine ⟨by simp [State.shedStart, t, State.fetched_shed, h], _, rfl, sameBut_updShed p s, ?_⟩
    rw [State.updShed_none h]
    exact State.get_shedShown p 0 false s
  case shed =>
    intro h
    refine ⟨_, rfl, sameBut_updShed p s, ?_⟩
    rw [State.updShed_some h]
    exact State.get_shedShown p _ true s

end Sys2Proof.Machine
end

section
/-! Effective-at times: too far ahead, already past, and the order of the commands of one boundary (01 R20 to R25; 04 R138, R158). -/

namespace Sys2Proof.Machine

open Sys2Proof

/-! ### Acceptance with a time -/

/-- Every check before the one of R23 holds, and it alone refuses. -/
theorem CmdSpec.refusal_tooFar {k : CmdSpec} {d : Submission} {acc : Nat} {s : State} (hblock : k.block = true → d.block.isSome = true)
    (hres : k.reservedSet d = false) (hat : k.takesAt = true) (hfirst : (k.first d s).isSome = true) (hcheck : k.check d s = rOk)
    (htime : d.at? = true) (hfar : ctDiff d.time.toNat (ct acc) > 2 ^ 62) (hact : k.actBad d acc s = 0) : k.refusal d acc s = rTooFar := by
  have readable : (k.block && d.block.isNone) = false := by
    cases hb : k.block
    · rfl
    · simpa using hblock hb
  have timed : (!k.takesAt || (k.first d s).isNone) = false := by simp [hat, Option.isNone_eq_false_iff.2 hfirst]
  simp only [CmdSpec.refusal, readable, hres, timed, hcheck, htime, hfar, hact, Bool.and_false, Bool.false_eq_true, if_false, rOk, ne_eq,
    not_true_eq_false, and_self, if_true]

/-- A refusal for its time alone notes no error of the descriptor. -/
theorem State.refusalErr_tooFar (d : Submission) (s : State) : s.refusalErr false rTooFar d = s := rfl

/-- Settles O21: TOO_FAR is the first check that fails, and a refused submission is only fetched and completed. -/
theorem tooFarAheadIsRefusedAndChangesNothing : Obligations.TooFarAheadIsRefusedAndChangesNothing := by
  intro k op row d s acc hfetch hblock hres hat hfirst hcheck htime hfar hact
  have hr : k.refusal d acc (s.fetched d) = rTooFar := CmdSpec.refusal_tooFar hblock hres hat hfirst hcheck htime hfar hact
  rw [CmdSpec.take_refused op row hfetch (by rw [hr]; decide), hr, hres, State.refusalErr_tooFar]
  rfl

/-- 01 R22: a time that has passed gives the next boundary of its kind, late. -/
theorem boundaryOf_past {f : Nat → Nat} {acc : Nat} {d : Submission} (hat : d.at? = true) (h : ctDiff d.time.toNat (ct acc) < 0) :
    boundaryOf f acc d = (f (acc + 1), true) := by
  have hlt : (acc : Int) + ctDiff d.time.toNat (ct acc) < acc := by omega
  simp only [boundaryOf, hat, hlt, if_true]

/-- A command whose boundary has not come is not due. -/
theorem State.dueCmd_ne {c : Cmd} {s : State} (h : s.nt < c.boundary) : s.dueCmd ≠ some c := by
  intro hdue
  rcases firstCmd_mem hdue with hnone | hmem
  · cases hnone
  · have hcome := (List.mem_filter.1 hmem).2
    simp [Nat.not_le.2 h] at hcome

/-- A command accepted at a boundary of the kind `f` enters, with the boundary and the LATE mark that `boundaryOf` gives. -/
theorem CmdSpec.take_enter {k : CmdSpec} {op : Nat} {row : Bool} {d : Submission} {s : State} {f : Nat → Nat} {b : Nat} {late : Bool}
    (hfetch : s.fetches k.cls d = true) (hr : k.refusal d (k.acceptAt row d (s.fetched d)) (s.fetched d) = rOk)
    (hf : k.first d (s.fetched d) = some f) (hb : boundaryOf f (k.acceptAt row d (s.fetched d)) d = (b, late)) :
    k.take op row d s = k.enter { (s.fetched d).newCmd op d b with late := late } row (s.fetched d) := by
  unfold CmdSpec.take
  simp only [hfetch, if_true, hr, ne_eq, not_true_eq_false, if_false, hf, hb]

/-- A command that enters and is not the one due waits. -/
theorem CmdSpec.enter_waits {k : CmdSpec} {c : Cmd} {row : Bool} {s : State}
    (h : row = false ∨ ({ s with accepted := s.accepted ++ [c] } : State).dueCmd ≠ some c) (h1 : c.op ≠ 0x11) (h2 : c.op ≠ 0x4A) :
    k.enter c row s = { s with accepted := s.accepted ++ [c] } := by
  have hnot : (row && ({ s with accepted := s.accepted ++ [c] } : State).dueCmd == some c) = false := by
    rcases h with h | h
    · simp [h]
    · simp [h]
  unfold CmdSpec.enter
  simp only [hnot, Bool.false_eq_true, if_false]
  exact State.updPending_ne h1 h2 _

/-- A command that enters with its row and has its turn acts. -/
theorem CmdSpec.enter_acts {k : CmdSpec} {c : Cmd} {s : State} (hb : c.begun = false) (hcome : c.boundary ≤ s.nt)
    (hfirst : ∀ x ∈ s.accepted, x.begun = false → x.boundary ≤ s.nt → c.before x = true) : k.enter c true s = k.actNow c s := by
  unfold CmdSpec.enter
  simp only [State.dueCmd_last hb hcome hfirst, Bool.true_and, beq_self_eq_true, if_true]

theorem Cmd.before_iff {x y : Cmd} :
    x.before y = true ↔ x.boundary < y.boundary ∨ x.boundary = y.boundary ∧ x.sub.ring < y.sub.ring := by
  simp [Cmd.before]

/-! ### The completion of a command, written -/

theorem State.sendMsix_cq (v : Nat) (s : State) : (s.sendMsix v).cq = s.cq := by
  unfold State.sendMsix
  split <;> rfl

theorem State.putCq_cq (r : Nat) (c : Completion) (s : State) : (s.putCq r c).cq = Tbl.ins (s.cqAddr r (s.ring r).cqTail)
    { c with status := BitVec.ofNat 16 s.statusWord, cflags := c.cflags ||| BitVec.ofNat 8 (b2n (s.ring r).phase) }.bytes s.cq := by
  unfold State.putCq
  dsimp only
  split
  · exact State.sendMsix_cq _ _
  · rfl

/-- The completion of a command as it is written, with STATUS and PHASE as they stand (04 R138, R139, R158). -/
def State.completionOf (c : Cmd) (code time q1 q2 : Nat) (s : State) : Completion where
  status := BitVec.ofNat 16 s.statusWord
  sqIndex := c.sub.index
  result := code
  cflags := s.cflags c.late false false ||| BitVec.ofNat 8 (b2n (s.ring c.sub.ring).phase)
  tag := c.sub.tag
  time := BitVec.ofNat 64 time
  q1 := BitVec.ofNat 64 (if 0x10 ≤ c.op ∧ c.op ≤ 0x12 then q1 / 2 * 2 + s.get F.HED_GEN_STATUS_IN_FORCE else q1)
  q2 := BitVec.ofNat 64 q2

/-- While the link holds and a groom is in service, the completion of a command of this era goes to the tail of its ring (04 R130, R131, R166). -/
theorem State.completeCmd_eq_putCq {c : Cmd} {s : State} (hring : c.sub.ring < 128) (hlink : s.relink = false) (hup : s.groomUp = true)
    (hera : c.era = s.era) (code time q1 q2 : Nat) : s.completeCmd c code time q1 q2 =
      s.putCq c.sub.ring { s.completionOf c code time q1 q2 with status := 0, cflags := s.cflags c.late false false } := by
  simp only [State.completeCmd, State.completeEra, State.complete, hera, hlink, hup, ne_eq, not_true_eq_false, and_false, Nat.not_le.2 hring,
    Bool.false_eq_true, if_false, if_true]
  rfl

theorem State.completeCmd_cq {c : Cmd} {s : State} (hring : c.sub.ring < 128) (hlink : s.relink = false) (hup : s.groomUp = true)
    (hera : c.era = s.era) (code time q1 q2 : Nat) : (s.completeCmd c code time q1 q2).cq =
      Tbl.ins (s.cqAddr c.sub.ring (s.ring c.sub.ring).cqTail) (s.completionOf c code time q1 q2).bytes s.cq := by
  rw [State.completeCmd_eq_putCq hring hlink hup hera, State.putCq_cq]
  rfl

/-- Bit 1 of CFLAGS is LATE (04 R138). -/
theorem State.completionOf_late {c : Cmd} (h : c.late = true) (code time q1 q2 : Nat) (s : State) :
    (s.completionOf c code time q1 q2).cflags.getLsbD 1 = true := by
  have flags : ∀ degraded phase : Bool, (cflagsOf true false false degraded ||| BitVec.ofNat 8 (b2n phase)).getLsbD 1 = true := by decide
  show (cflagsOf c.late false false s.degraded ||| _).getLsbD 1 = true
  rw [h]
  exact flags _ _

@[simp] theorem State.fetched_era (d : Submission) (s : State) : (s.fetched d).era = s.era := by
  unfold State.fetched
  split <;> rfl

/-- Settles O22: the command enters with `boundaryOf_past`'s boundary, acts there in its turn, else waits, and its completion says so. -/
theorem pastTimesActAtTheNextBoundaryLate : Obligations.PastTimesActAtTheNextBoundaryLate := by
  intro k op d s f acc c hfetch hr hf hat hpast
  have hacc : acc = s.acceptAt true d := by
    show (s.fetched d).acceptAt (true && (k.first d (s.fetched d)).isSome) d = _
    rw [hf, State.fetched_acceptAt]
    rfl
  have hb : boundaryOf f acc d = (f (acc + 1), true) := boundaryOf_past hat hpast
  have enters : k.take op true d s = k.enter c true (s.fetched d) := CmdSpec.take_enter hfetch hr hf hb
  refine ⟨fun hturn => ?acts, fun hcome hop => ?waits, fun t u code q1 q2 hu hring hlink hup hera => ?completion⟩
  case acts =>
    obtain ⟨hcome, hfirst⟩ := hturn
    rw [← hacc] at hcome hfirst
    rw [enters]
    refine CmdSpec.enter_acts rfl (by rwa [State.fetched_nt]) (fun x hx hxb hxc => Cmd.before_iff.2 ?_)
    rw [State.fetched_accepted] at hx
    rw [State.fetched_nt] at hxc
    exact hfirst x hx hxb hxc
  case waits =>
    have notDue : ({ s.fetched d with accepted := (s.fetched d).accepted ++ [c] } : State).dueCmd ≠ some c :=
      State.dueCmd_ne (by rwa [show (State.nt _) = (s.fetched d).nt from rfl, State.fetched_nt])
    simp only [List.mem_cons, List.not_mem_nil, or_false, not_or] at hop
    rw [enters, CmdSpec.enter_waits (.inr notDue) hop.1 hop.2, State.fetched_accepted]
  case completion =>
    have hc : c.era = t.era := (State.fetched_era d s).trans hera.symm
    exact ⟨t.completionOf c code (f (acc + 1)) q1 q2, hu ▸ State.completeCmd_cq (c := c) hring hlink hup hc .., rfl, rfl, rfl, rfl,
      State.completionOf_late (c := c) rfl ..⟩

/-! ### The order of the commands of one boundary (01 R25) -/

theorem Cmd.not_before_iff {x y : Cmd} :
    x.before y = false ↔ y.boundary < x.boundary ∨ y.boundary = x.boundary ∧ y.sub.ring ≤ x.sub.ring := by
  rw [← Bool.not_eq_true, Cmd.before_iff]
  omega

theorem Cmd.before_of_before_of_not_before {x y z : Cmd} (h : x.before y = true) (g : z.before y = false) : x.before z = true := by
  rw [Cmd.before_iff] at h ⊢
  rw [Cmd.not_before_iff] at g
  omega

/-- The first of a command `m` and those of `l`: `m`, which none of `l` comes before, or one of `l` that comes before `m` and everything that stands
before it, and that nothing that stands after it comes before. -/
theorem firstCmd_splits {l : List Cmd} {m c : Cmd}
    (h : l.foldl (fun m c => match m with
      | none => some c
      | some x => if c.before x then some c else m) (some m) = some c) :
    (c = m ∧ ∀ x ∈ l, x.before c = false) ∨
      c.before m = true ∧ ∃ l1 l2, l = l1 ++ c :: l2 ∧ (∀ x ∈ l1, c.before x = true) ∧ ∀ x ∈ l2, x.before c = false := by
  induction l generalizing m with
  | nil => exact .inl ⟨(Option.some.inj h).symm, by simp⟩
  | cons y l ih =>
    rw [List.foldl_cons] at h
    by_cases hy : y.before m = true
    · simp only [hy, if_true] at h
      rcases ih h with ⟨rfl, hlast⟩ | ⟨hcy, l1, l2, rfl, hl1, hl2⟩
      · exact .inr ⟨hy, [], l, rfl, by simp, hlast⟩
      · have hcm : c.before m = true := by
          rw [Cmd.before_iff] at hcy hy ⊢
          omega
        exact .inr ⟨hcm, y :: l1, l2, rfl, List.forall_mem_cons.2 ⟨hcy, hl1⟩, hl2⟩
    · simp only [hy] at h
      rw [Bool.not_eq_true] at hy
      rcases ih h with ⟨rfl, hlast⟩ | ⟨hcm, l1, l2, rfl, hl1, hl2⟩
      · exact .inl ⟨rfl, List.forall_mem_cons.2 ⟨hy, hlast⟩⟩
      · exact .inr ⟨hcm, y :: l1, l2, rfl, List.forall_mem_cons.2 ⟨Cmd.before_of_before_of_not_before hcm hy, hl1⟩, hl2⟩

/-- The due command among those not begun whose boundary has come: before all that stand before it, and no later one before it. -/
theorem State.dueCmd_splits {s : State} {c : Cmd} (h : s.dueCmd = some c) :
    ∃ l1 l2, s.accepted.filter (fun c => !c.begun && decide (c.boundary ≤ s.nt)) = l1 ++ c :: l2 ∧
      (∀ x ∈ l1, c.before x = true) ∧ ∀ x ∈ l2, x.before c = false := by
  unfold State.dueCmd at h
  generalize s.accepted.filter (fun c => !c.begun && decide (c.boundary ≤ s.nt)) = l at h
  cases l with
  | nil => cases h
  | cons y l =>
    rw [List.foldl_cons] at h
    rcases firstCmd_splits h with ⟨rfl, hlast⟩ | ⟨hcy, l1, l2, rfl, hl1, hl2⟩
    · exact ⟨[], l, rfl, by simp, hlast⟩
    · exact ⟨y :: l1, l2, rfl, List.forall_mem_cons.2 ⟨hcy, hl1⟩, hl2⟩

/-- Settles O23: `State.dueCmd_splits` over the commands whose boundary has come, put back among all that are accepted. -/
theorem commandsOfABoundaryActInOrder : Obligations.CommandsOfABoundaryActInOrder := by
  intro s c h
  obtain ⟨f1, f2, hsplit, hf1, hf2⟩ := State.dueCmd_splits h
  obtain ⟨l1, l, hl, hl1, hrest⟩ := List.filter_eq_append_iff.1 hsplit
  obtain ⟨l3, l2, rfl, hl3, hc, hl2⟩ := List.filter_eq_cons_iff.1 hrest
  have due : ∀ x : Cmd, x.begun = false → x.boundary ≤ s.nt → (!x.begun && decide (x.boundary ≤ s.nt)) = true := by
    simp +contextual
  obtain ⟨hbegun, hcome⟩ : c.begun = false ∧ c.boundary ≤ s.nt := by simpa using hc
  refine ⟨l1 ++ l3, l2, by rw [hl, List.append_assoc], hbegun, hcome, fun x hx hxb hxc => ?_, fun x hx hxb hxc => ?_⟩
  · refine Cmd.before_iff.1 (hf1 x ?_)
    rcases List.mem_append.1 hx with hx | hx
    · exact hl1 ▸ List.mem_filter.2 ⟨hx, due x hxb hxc⟩
    · exact absurd (due x hxb hxc) (hl3 x hx)
  · exact Cmd.not_before_iff.1 (hf2 x (hl2 ▸ List.mem_filter.2 ⟨hx, due x hxb hxc⟩))

end Sys2Proof.Machine
end

section
/-! Observability: snapshots, freezes, the ledger of fates and the HEALTH event (10 R410, R411; 16 R587; 17 R599, R605 to R607, R612). -/

namespace Sys2Proof.Machine

open Sys2Proof

/-! ### A submission fetched, and what an accepted one has passed -/

/-- Fetching moves a ring's submission head and nothing else. -/
theorem State.fetched_eq (d : Submission) (s : State) : s.fetched d = { s with rings := (s.fetched d).rings } := by
  unfold State.fetched
  split <;> rfl

@[simp] theorem State.fetched_obs (d : Submission) (s : State) : (s.fetched d).obs = s.obs := by rw [State.fetched_eq]

@[simp] theorem State.fetched_ctr (d : Submission) (s : State) : (s.fetched d).ctr = s.ctr := by rw [State.fetched_eq]

@[simp] theorem State.fetched_chans (d : Submission) (s : State) : (s.fetched d).chans = s.chans := by rw [State.fetched_eq]

/-- An accepted submission has passed its command's own checks (04 R140). -/
theorem CmdSpec.check_of_refusal {k : CmdSpec} {d : Submission} {acc : Nat} {s : State} (h : k.refusal d acc s = rOk) : k.check d s = rOk := by
  by_contra hc
  have failed : k.check d s ≠ 0 := hc
  unfold CmdSpec.refusal at h
  simp only [ne_eq, failed, not_false_eq_true, if_true] at h
  split at h
  · exact absurd h (by decide)
  · split at h
    · exact absurd h (by decide)
    · split at h
      · exact absurd h (by decide)
      · exact hc h

theorem CmdSpec.check_of_ready {k : CmdSpec} {d : Submission} {s : State} (h : Ready k d s) : k.check d (s.fetched d) = rOk := by
  obtain ⟨-, accepted, -⟩ := h
  exact CmdSpec.check_of_refusal accepted

/-! ### Captures (17 R605, R606) -/

/-- A capture put or removed: the table of captures, and the CAPTURING bit of a set that has one. -/
theorem State.setCapture_eq (set : Nat) (c : Option Capture) (s : State) :
    s.setCapture set c = { s with regs := (s.setCapture set c).regs, obs := (s.setCapture set c).obs } := by
  unfold State.setCapture
  cases decide (set < 7) <;> rfl

theorem State.setCapture_some_obs (set : Nat) (c : Capture) (s : State) :
    (s.setCapture set (some c)).obs = { s.obs with captures := Tbl.ins set c s.obs.captures } := by
  unfold State.setCapture
  cases decide (set < 7) <;> rfl

theorem State.setCapture_none_obs (set : Nat) (s : State) :
    (s.setCapture set none).obs = { s.obs with captures := Tbl.del set s.obs.captures } := by
  unfold State.setCapture
  cases decide (set < 7) <;> rfl

@[simp] theorem State.setCapture_ctr (set : Nat) (c : Option Capture) (s : State) : (s.setCapture set c).ctr = s.ctr := by
  rw [State.setCapture_eq]

@[simp] theorem State.setCapture_chans (set : Nat) (c : Option Capture) (s : State) : (s.setCapture set c).chans = s.chans := by
  rw [State.setCapture_eq]

@[simp] theorem State.setCapture_accepted (set : Nat) (c : Option Capture) (s : State) : (s.setCapture set c).accepted = s.accepted := by
  rw [State.setCapture_eq]

@[simp] theorem State.setCapture_rxData (set : Nat) (c : Option Capture) (s : State) : (s.setCapture set c).rxData = s.rxData := by
  rw [State.setCapture_eq]

theorem State.find_setCapture (set : Nat) (c : Capture) (s : State) : Tbl.find set (s.setCapture set (some c)).obs.captures = some c := by
  rw [State.setCapture_some_obs, Tbl.find_ins_self]

theorem State.has_setCapture_none (set : Nat) (s : State) : (s.setCapture set none).obs.captures.has set = false := by
  rw [State.setCapture_none_obs, Tbl.has, Tbl.find_del_self]
  rfl

/-- A MEAS set has no CAPTURING bit. -/
theorem State.rd_setCapture_meas {set k : Nat} (h : measSet set = some k) (c : Option Capture) (s : State) (a : Nat) :
    (s.setCapture set c).rd a = s.rd a := by
  have hset : ¬set < 7 := fun hlt => by simp [measSet, show ¬0x20 ≤ set by omega] at h
  unfold State.setCapture
  simp only [hset, decide_false, State.when_false]
  rfl

/-- The capture of a counter set: the set's bytes under its next SNAP_SEQ. -/
def State.ctrCapture (c : Cmd) (s : State) : Capture :=
  let set := c.sub.P0 0 8
  let seq := (s.obs.snapSeq.getD set 0 + 1) % 2 ^ 32
  { cmd := c, time := c.boundary,
    data := State.snapBytes { s with obs := { s.obs with snapSeq := Tbl.ins set seq s.obs.snapSeq } } set c.boundary seq }

/-- The capture of MEAS set `k`: the records that the buffer holds. -/
def State.measCapture (k : Nat) (c : Cmd) (s : State) : Capture :=
  { cmd := c, time := c.boundary, data := (s.measBytes k (c.sub.P2 0 32)).1, moved := (s.measBytes k (c.sub.P2 0 32)).2 }

theorem State.capture_counters {c : Cmd} (h : measSet (c.sub.P0 0 8) = none) (s : State) : s.capture c =
    State.setCapture (c.sub.P0 0 8) (some (s.ctrCapture c)) { s with obs := { s.obs with
      snapSeq := Tbl.ins (c.sub.P0 0 8) ((s.obs.snapSeq.getD (c.sub.P0 0 8) 0 + 1) % 2 ^ 32) s.obs.snapSeq } } := by
  simp only [State.capture, h]
  rfl

theorem State.capture_meas {c : Cmd} {k : Nat} (h : measSet (c.sub.P0 0 8) = some k) (s : State) :
    s.capture c = (s.wr (R.MEAS_CH_LOST k) 0).setCapture (c.sub.P0 0 8) (some (s.measCapture k c)) := by
  simp only [State.capture, h]
  rfl

/-- A snapshot begins with its magic number and its set. -/
theorem State.snapBytes_header (set b seq : Nat) (s : State) :
    (s.snapBytes set b seq).take 4 = leBytes 2 0x534E ++ leBytes 1 set ++ ((s.snapBytes set b seq).drop 3).take 1 := by
  simp only [State.snapBytes, State.snapHeader, List.append_assoc]
  rfl

@[simp] theorem State.fetched_measBytes (d : Submission) (k n : Nat) (s : State) : (s.fetched d).measBytes k n = s.measBytes k n := by
  simp only [State.measBytes, State.mi, State.fetched_chans, State.fetched_get]

/-! ### SNAP_TAKE -/

theorem specSnapTake_act_captures {c : Cmd} {s : State} (h : s.obs.captures.has (c.sub.P0 0 8) = false)
    (hw : ∀ y ∈ s.obs.snapWait, y.sub.P0 0 8 ≠ c.sub.P0 0 8) : specSnapTake.act c s = (s.capture c, .wait) := by
  have free : ¬(s.obs.captures.has (c.sub.P0 0 8) = true ∨ s.obs.snapWait.any (fun x => x.sub.P0 0 8 == c.sub.P0 0 8) = true) := by
    simpa [h] using hw
  exact if_neg free

theorem specSnapTake_act_waits {c : Cmd} {s : State} (h : s.obs.captures.has (c.sub.P0 0 8) = true) : specSnapTake.act c s =
    (State.raise .obs 1 (c.sub.P0 0 8) { s with obs := { s.obs with snapWait := s.obs.snapWait ++ [c] } }, .wait) :=
  if_pos (.inl h)

/-- A SNAP_TAKE taken: it begins at its boundary. -/
theorem exec_snapTake {d : Submission} {s t : State} (h : Ready specSnapTake d s)
    (ha : specSnapTake.act (cmdOf 0x30 d s) (s.fetched d) = (t, .wait)) : exec (.snapTake d) s = .next ((cmdOf 0x30 d s).goesOn t) :=
  congrArg Host.Outcome.next (CmdSpec.take_begins h (by decide) (by decide) rfl ha)

/-! ### SNAP_WRITE_DONE -/

theorem State.finishAs_of_find {c x : Cmd} {s : State} (h : s.accepted.find? (fun y => y.begun && sameCmd c y) = some x) (code q1 : Nat) :
    s.finishAs c code q1 = State.completeCmd c code c.boundary q1 0 { s with accepted := s.accepted.erase x } := by
  simp only [State.finishAs, h]

theorem exec_snapWriteDone_none {set : Nat} {s : State} (h : s.obs.captures.has set = false) (ok : Bool) :
    exec (.snapWriteDone set ok) s = .next s := by
  have hf : Tbl.find set s.obs.captures = none := Option.isSome_eq_false_iff.1 h |> Option.isNone_iff_eq_none.1
  show execSnapWriteDone set ok s = _
  simp only [execSnapWriteDone, hf]

theorem exec_snapWriteDone_fails {set : Nat} {cap : Capture} {s : State} (h : Tbl.find set s.obs.captures = some cap) :
    exec (.snapWriteDone set false) s =
      .next (((s.setCapture set none).hifErr 3 cap.cmd.sub.ring cap.cmd.sub.p1.toNat).finishAs cap.cmd rDmaError 0) := by
  show execSnapWriteDone set false s = _
  simp only [execSnapWriteDone, h, Bool.false_eq_true, if_false]

/-- The state with a capture written into its buffer. -/
def State.snapWritten (set : Nat) (cap : Capture) (s : State) : State :=
  { s.setCapture set none with rxData := Tbl.ins (bufKey cap.cmd.sub) cap.data s.rxData }

theorem State.snapWritten_accepted (set : Nat) (cap : Capture) (s : State) : (s.snapWritten set cap).accepted = s.accepted :=
  State.setCapture_accepted set none s

theorem exec_snapWriteDone_counters {set : Nat} {cap : Capture} {x : Cmd} {s : State} (h : Tbl.find set s.obs.captures = some cap)
    (hx : s.accepted.find? (fun y => y.begun && sameCmd cap.cmd y) = some x) (hm : measSet set = none) :
    exec (.snapWriteDone set true) s = .next (State.completeCmd cap.cmd rOk cap.cmd.boundary cap.data.length 0
      { s.snapWritten set cap with accepted := s.accepted.erase x }) := by
  have e : exec (.snapWriteDone set true) s = .next ((s.snapWritten set cap).finishAs cap.cmd rOk cap.data.length) := by
    show execSnapWriteDone set true s = _
    simp only [execSnapWriteDone, h, hm, if_true, State.setCapture_rxData]
    rfl
  rw [← State.snapWritten_accepted set cap s] at hx ⊢
  rw [e, State.finishAs_of_find hx]

theorem exec_snapWriteDone_meas {set k : Nat} {cap : Capture} {x : Cmd} {s : State} (h : Tbl.find set s.obs.captures = some cap)
    (hx : s.accepted.find? (fun y => y.begun && sameCmd cap.cmd y) = some x) (hm : measSet set = some k) :
    exec (.snapWriteDone set true) s = .next (State.completeCmd cap.cmd rOk cap.cmd.boundary cap.data.length 0
      { (s.snapWritten set cap).freeRecs k cap.moved with accepted := s.accepted.erase x }) := by
  have e : exec (.snapWriteDone set true) s = .next (((s.snapWritten set cap).freeRecs k cap.moved).finishAs cap.cmd rOk cap.data.length) := by
    show execSnapWriteDone set true s = _
    simp only [execSnapWriteDone, h, hm, if_true, State.setCapture_rxData]
    rfl
  have same : ((s.snapWritten set cap).freeRecs k cap.moved).accepted = s.accepted := State.snapWritten_accepted set cap s
  rw [← same] at hx ⊢
  rw [e, State.finishAs_of_find hx]

@[simp] theorem State.mi_modMi_self (k : Nat) (f : MiChan → MiChan) (s : State) : (s.modMi k f).mi k = f (s.mi k) :=
  Tbl.getD_put_self ({} : MiChan) k _ _

/-- The records moved to the host are freed, oldest first (10 R410). -/
theorem State.freeRecs_recs (k n : Nat) (s : State) : ((s.freeRecs k n).mi k).recs = (s.mi k).recs.drop n :=
  congrArg MiChan.recs (State.mi_modMi_self k (fun c => { c with recs := c.recs.drop n }) s)

/-! ### SNAP_FREEZE and SNAP_THAW -/

/-- The bits of a register after one field of it is set. -/
theorem State.rd_set_bit {f : Fld} {i : Nat} (hi : i < 32) (v : Nat) (s : State) : ((s.set f v).rd f.addr).getLsbD i =
    if f.lsb ≤ i ∧ i < f.lsb + f.w then v.testBit (i - f.lsb) else (s.rd f.addr).getLsbD i := by
  rw [State.rd_set_self, Fld.put_bit f _ v i hi]

/-- The bits of a register after one bit of it is set to a truth value. -/
theorem State.rd_setB_bit {a b i : Nat} (hi : i < 32) (on : Bool) (s : State) :
    ((s.setB ⟨a, b, 1⟩ on).rd a).getLsbD i = if i = b then on else (s.rd a).getLsbD i := by
  have h := State.rd_set_bit (f := ⟨a, b, 1⟩) hi (b2n on) s
  refine h.trans ?_
  by_cases e : i = b
  · have one : (b2n on).testBit 0 = on := by cases on <;> rfl
    subst e
    simp [one]
  · rw [if_neg e, if_neg (by dsimp only; omega)]

/-- The set of an accepted SNAP_FREEZE or SNAP_THAW is one of the cores' or the heddles' (17 R607). -/
theorem specFreeze_set {on : Bool} {d : Submission} {s : State} (h : (specFreeze on).check d s = rOk) : 0x10 ≤ d.P0 0 8 ∧ d.P0 0 8 ≤ 0x18 := by
  have h' : (if 0x10 ≤ d.P0 0 8 ∧ d.P0 0 8 ≤ 0x18 ∧ (setSize (d.P0 0 8)).isSome then rOk else rBadParam) = rOk := h
  split at h'
  · rename_i hset
    exact ⟨hset.1, hset.2.1⟩
  · exact absurd h' (by decide)

/-- What SNAP_FREEZE (`on`) and SNAP_THAW leave: the set's FROZEN bit of OBS_STATUS. -/
theorem specFreeze_effect {on : Bool} {op : Nat} {d : Submission} {s : State} (h : Ready (specFreeze on) d s) (h1 : op ≠ 0x11) (h2 : op ≠ 0x4A) :
    ∃ u, (specFreeze on).take op true d s = (cmdOf op d s).ended rOk 0 0 u ∧ SameBut [R.OBS_STATUS] (s.fetched d) u ∧
      ∀ k < 32, (u.rd R.OBS_STATUS).getLsbD k = if k = d.P0 0 8 - 8 then on else (s.rd R.OBS_STATUS).getLsbD k := by
  obtain ⟨hlo, -⟩ := specFreeze_set (CmdSpec.check_of_ready h)
  refine ⟨_, CmdSpec.take_ends h h1 h2 rfl rfl,
    sameBut_set (f := ⟨R.OBS_STATUS, 8 + (d.P0 0 8 - 0x10), 1⟩) (List.mem_singleton_self _) _ _, fun k hk => ?_⟩
  refine (State.rd_setB_bit (a := R.OBS_STATUS) (b := 8 + (d.P0 0 8 - 0x10)) hk on _).trans ?_
  rw [State.fetched_rd, show 8 + (d.P0 0 8 - 0x10) = d.P0 0 8 - 8 by omega]

/-! ### The ledger of fates (17 R599) -/

theorem State.count_ctr (set r i n : Nat) (s : State) :
    (s.count set r i n).ctr = Tbl.put 0 (ctrKey set r i) ((s.ctrOf set r i + n) % 2 ^ 64) s.ctr := by
  unfold State.count
  dsimp only
  split <;> rfl

/-- Settles O42: SNAP_TAKE by what its capture leaves, SNAP_WRITE_DONE by the kind of its set, the freezes by `specFreeze_effect`, and the fate moved
by what one count leaves. -/
theorem snapshotsLedgerAndHealth : Obligations.SnapshotsLedgerAndHealth := by
  intro s d set p code q cap x t c
  refine ⟨?take, fun h => ⟨exec_snapWriteDone_none h true, exec_snapWriteDone_none h false⟩, ?written, ?freeze, ?thaw, fun h => ?noFate, ?fate,
    fun h => ?notDue, fun h => ?due⟩
  case take =>
    rintro h rfl
    refine ⟨fun hfree hwait => ?captures, fun hbusy => ?waits⟩
    case captures =>
      have ha : specSnapTake.act c t = (t.capture c, .wait) :=
        specSnapTake_act_captures (by rw [State.fetched_obs]; exact hfree) (by rw [State.fetched_obs]; exact hwait)
      cases hm : measSet (d.P0 0 8) with
      | none =>
        have e : t.capture c = _ := State.capture_counters hm t
        refine ⟨_, t.ctrCapture c, exec_snapTake h ha, e ▸ State.find_setCapture .., rfl, rfl, ?_, fun _ => ⟨?_, ?_⟩, nofun⟩
        · rw [e, State.setCapture_ctr]
          exact State.fetched_ctr d s
        · rw [e, State.setCapture_some_obs, State.fetched_obs]
          exact congrArg (·.getD 0) (Tbl.find_ins_self (d.P0 0 8) _ _)
        · exact State.snapBytes_header (d.P0 0 8) c.boundary _ _
      | some k =>
        have e : t.capture c = _ := State.capture_meas hm t
        refine ⟨_, t.measCapture k c, exec_snapTake h ha, e ▸ State.find_setCapture .., rfl, rfl, ?_, nofun, ?_⟩
        · rw [e, State.setCapture_ctr]
          exact State.fetched_ctr d s
        · rintro j ⟨⟩
          refine ⟨congrArg Prod.fst (State.fetched_measBytes ..), congrArg Prod.snd (State.fetched_measBytes ..), ?_⟩
          rw [e, State.rd_setCapture_meas (set := c.sub.P0 0 8) hm, State.rd_wr_self]
    case waits =>
      rw [← State.fetched_obs d s] at hbusy ⊢
      exact exec_snapTake h (specSnapTake_act_waits hbusy)
  case written =>
    intro h hx
    refine ⟨s.setCapture set none, State.has_setCapture_none set s, State.setCapture_ctr .., State.setCapture_chans ..,
      exec_snapWriteDone_counters h hx, fun k hm => ⟨_, exec_snapWriteDone_meas h hx hm, ?_⟩, exec_snapWriteDone_fails h⟩
    refine (State.freeRecs_recs k cap.moved (s.snapWritten set cap)).trans ?_
    show ((s.setCapture set none).chans.getD k {}).recs.drop _ = _
    rw [State.setCapture_chans]
    rfl
  case freeze =>
    intro h
    obtain ⟨u, hexec, hsame, hbit⟩ := specFreeze_effect (op := 0x31) h (by decide) (by decide)
    exact ⟨u, congrArg Host.Outcome.next hexec, hsame, fun k hk => by rw [hbit k hk]; split <;> simp [*]⟩
  case thaw =>
    intro h
    obtain ⟨u, hexec, hsame, hbit⟩ := specFreeze_effect (op := 0x32) h (by decide) (by decide)
    exact ⟨u, congrArg Host.Outcome.next hexec, hsame, fun k hk => by rw [hbit k hk]; split <;> simp [*]⟩
  case noFate =>
    show execFateLedgerRecord s = _
    simp only [execFateLedgerRecord, h]
  case fate =>
    intro h
    have e : exec .fateLedgerRecord s = .next (({ s with fateQ := q } : State).count 0 p (3 + fateIndex code) 1) := by
      show execFateLedgerRecord s = _
      simp only [execFateLedgerRecord, h]
    have told := (State.count_told 0 p (3 + fateIndex code) 1 { s with fateQ := q }).2
    refine ⟨_, e, congrArg State.fateQ told, ?_, fun k hk => ?_⟩
    · rw [State.ctrOf, State.count_ctr]
      exact Tbl.getD_put_self 0 _ _ _
    · rw [State.count_ctr, Tbl.getD, Tbl.find_put_ne hk]
      rfl
  case notDue => exact if_neg (by simp [h])
  case due => exact if_pos h

end Sys2Proof.Machine
end

section
/-! Acceptance and boundary apart, and the commands about rings and attention (01 R20, R24; 04 R140 to R143, R155 to R159, R164, R165). -/

namespace Sys2Proof.Machine

open Sys2Proof

/-! ### What fetching leaves -/

@[simp] theorem State.fetched_attnNow (d : Submission) (s : State) : (s.fetched d).attnNow = s.attnNow := by rw [State.fetched_eq]

@[simp] theorem State.fetched_cls (d : Submission) (s : State) (r : Nat) : (s.fetched d).cls r = s.cls r := State.fetched_get d s _

@[simp] theorem State.fetched_enabledRings (d : Submission) (s : State) : (s.fetched d).enabledRings = s.enabledRings := by
  simp only [State.enabledRings, State.fetched_cls]

@[simp] theorem State.fetched_ringCfg (d : Submission) (s : State) : (s.fetched d).ringCfg = s.ringCfg := by
  funext r
  simp only [State.ringCfg, State.get2, State.fetched_rd]

theorem State.ring_modRing_self (r : Nat) (f : RingSt → RingSt) (s : State) : (s.modRing r f).ring r = f (s.ring r) :=
  Tbl.getD_put_self ({} : RingSt) r _ _

theorem State.ring_modRing_ne {q r : Nat} (h : q ≠ r) (f : RingSt → RingSt) (s : State) : (s.modRing r f).ring q = s.ring q :=
  congrArg (·.getD ({} : RingSt)) (Tbl.find_put_ne h ({} : RingSt) _ _)

/-- A ring after a submission is fetched: its submission head alone has moved. -/
theorem State.fetched_ring (d : Submission) (s : State) (r : Nat) :
    (s.fetched d).ring r = { s.ring r with sqHead := ((s.fetched d).ring r).sqHead } := by
  unfold State.fetched
  split
  · rfl
  · by_cases h : r = d.ring
    · subst h
      rw [State.ring_modRing_self]
    · rw [State.ring_modRing_ne h]

theorem State.fetched_lastOf (d : Submission) (s : State) (r : Nat) : (s.fetched d).lastOf r = s.lastOf r := by
  have stopping : ∀ q, ((s.fetched d).ring q).stopping = (s.ring q).stopping := fun q => by rw [State.fetched_ring]
  simp only [State.lastOf, State.fetched_cls, State.fetched_enabledRings, stopping]

/-! ### SUBMISSION_ACCEPT and EFFECTIVE_AT_BOUNDARY of a NOP -/

theorem opSpec_nop (d : Submission) : opSpec 0x63 d = some specNop := rfl

/-- The next entry of a MGMT ring, a NOP: it is taken, and nothing acts yet. -/
theorem State.acceptNext_nop {d : Submission} {s : State} (hc : s.cls d.ring = clsMgmt) : s.acceptNext 0x63 d = specNop.take 0x63 false d s := by
  unfold State.acceptNext
  simp only [hc, opSpec_nop]
  cases s.fetches clsMgmt d <;> rfl

theorem exec_submissionAccept_read {e : SqEntry} {x : Fetched} {l : List Byte} (h : x.desc = some l) (s : State) :
    exec (.submissionAccept e x) s = .next (s.acceptNext (byteAt l 0) (.ofDesc e.ring e.index l x.block x.at0)) := by
  show execSubmissionAccept e x s = _
  simp only [execSubmissionAccept, h]

theorem exec_submissionAccept_unread {e : SqEntry} {x : Fetched} {s : State} (h : x.desc = none)
    (hf : s.fetches (s.cls e.ring) { ring := e.ring, index := e.index } = true) :
    exec (.submissionAccept e x) s = .next (s.hifErr 2 e.ring (s.sqAddr e.ring e.index)) := by
  show execSubmissionAccept e x s = _
  simp only [execSubmissionAccept, h, hf, State.when_true]

/-- An accepted NOP waits for its boundary. -/
theorem specNop_take_accepted {d : Submission} {s : State} {b : Nat} {late : Bool} (hf : s.fetches clsMgmt d = true)
    (hr : specNop.refusal d (s.acceptAt false d) (s.fetched d) = rOk) (hb : boundaryOf ceilGrid (s.acceptAt false d) d = (b, late)) :
    specNop.take 0x63 false d s =
      { s.fetched d with accepted := (s.fetched d).accepted ++ [{ (s.fetched d).newCmd 0x63 d b with late := late }] } := by
  have hacc : specNop.acceptAt false d (s.fetched d) = s.acceptAt false d := State.fetched_acceptAt d s false d
  rw [CmdSpec.take_enter (k := specNop) (f := ceilGrid) (b := b) (late := late) hf (by rwa [hacc]) rfl (by rwa [hacc]),
    CmdSpec.enter_waits (.inl rfl) (show (0x63 : Nat) ≠ 0x11 by decide) (show (0x63 : Nat) ≠ 0x4A by decide)]

/-- A refused NOP is completed with the first check that fails. -/
theorem specNop_take_refused {d : Submission} {s : State} (hf : s.fetches clsMgmt d = true)
    (hr : specNop.refusal d (s.acceptAt false d) (s.fetched d) ≠ rOk) : specNop.take 0x63 false d s =
      ((s.fetched d).newCmd 0x63 d (s.acceptAt false d)).ended (specNop.refusal d (s.acceptAt false d) (s.fetched d)) 0 0
        ((s.fetched d).refusalErr (specNop.reservedSet d) (specNop.refusal d (s.acceptAt false d) (s.fetched d)) d) := by
  have hacc : specNop.acceptAt false d (s.fetched d) = s.acceptAt false d := State.fetched_acceptAt d s false d
  rw [CmdSpec.take_refused (k := specNop) 0x63 false hf (by rwa [hacc]), hacc]
  rfl

/-- A NOP that is due completes at its boundary. -/
theorem State.actDue_nop {c : Cmd} {s : State} (h : s.dueCmd = some c) (hop : c.op = 0x63) :
    s.actDue = c.ended rOk 0 0 { s with accepted := s.accepted.erase c } := by
  have h1 : c.op ≠ 0x11 := by simp [hop]
  have h2 : c.op ≠ 0x4A := by simp [hop]
  have acts : specNop.act c { s with accepted := s.accepted.erase c } = ({ s with accepted := s.accepted.erase c }, .done rOk 0 0) := rfl
  unfold State.actDue
  simp only [h, hop, opSpec_nop, CmdSpec.actNow_done acts, State.updPending_ne h1 h2]
  rfl

/-! ### ATTN_ACK (04 R143) -/

/-- The bits of a number outside a mask and those within it. -/
theorem ldiff_add_land (x m : Nat) : x.ldiff m + (x &&& m) = x := by
  induction x using Nat.binaryRec generalizing m with
  | zero => simp [Nat.ldiff]
  | bit a x ih =>
    obtain ⟨b, m, rfl⟩ : ∃ b n, m = Nat.bit b n := ⟨_, _, (Nat.bit_bodd_div2 m).symm⟩
    have := ih m
    rw [Nat.ldiff_bit, Nat.land_bit]
    cases a <;> cases b <;> simp [Nat.bit_val] <;> omega

/-- A number less some of its bits has the others. -/
theorem testBit_sub_land (x m k : Nat) : (x - (x &&& m)).testBit k = (x.testBit k && !m.testBit k) := by
  have e : x - (x &&& m) = x.ldiff m := by
    have := ldiff_add_land x m
    omega
  rw [e, Nat.testBit_ldiff]

/-- The bits that ATTN_ACK leaves, where none was set in this pick cycle. -/
theorem specAttnAck_effect {d : Submission} {s : State} (h : Ready specAttnAck d s) (hnow : s.attnNow = 0) :
    ∃ u, exec (.attnAck d) s = .next ((cmdOf 0x61 d s).ended rOk 0 0 u) ∧ SameBut [R.HIF_STATUS] (s.fetched d) u ∧
      ∀ k < 32, (u.rd R.HIF_STATUS).getLsbD k =
        ((s.rd R.HIF_STATUS).getLsbD k && !(decide (16 ≤ k ∧ k < 30) && (d.P0 0 14).testBit (k - 16))) := by
  refine ⟨_, congrArg Host.Outcome.next (CmdSpec.take_ends h (by decide) (by decide) rfl rfl),
    sameBut_set (f := ⟨R.HIF_STATUS, 16, 14⟩) (List.mem_singleton_self _) _ _, fun k hk => ?_⟩
  refine (State.rd_set_bit (f := ⟨R.HIF_STATUS, 16, 14⟩) hk _ _).trans ?_
  rw [State.fetched_attnNow, hnow, State.fetched_rd, State.fetched_get]
  by_cases hin : 16 ≤ k ∧ k < 30
  · have e : (s.get ⟨R.HIF_STATUS, 16, 14⟩).testBit (k - 16) = (s.rd R.HIF_STATUS).getLsbD k := by
      have hlt : k - 16 < 14 := by omega
      rw [State.get, bits_testBit, show 16 + (k - 16) = k by omega]
      simp [hlt, BitVec.getLsbD]
    have hall : (2 ^ 14 - 1).testBit (k - 16) = true := by
      rw [Nat.testBit_two_pow_sub_one]
      exact decide_eq_true (by omega)
    have hin' : 16 ≤ k ∧ k < 16 + 14 := hin
    rw [if_pos hin', Nat.and_assoc, testBit_sub_land, e, Nat.testBit_and, Nat.zero_mod, Nat.sub_zero, hall, decide_eq_true hin, Bool.and_true,
      Bool.true_and]
    rfl
  · rw [if_neg (by exact hin), decide_eq_false hin]
    simp

/-! ### CANCEL (04 R159) -/

/-- A CANCEL names a command of its own ring by index. -/
def Submission.cancels (d : Submission) (era : Nat) (y : Cmd) : Bool := y.sub.ring == d.ring && y.sub.index == d.P0 0 16 && y.era == era

theorem specCancel_act_unknown {c : Cmd} {s : State} (h : s.accepted.find? (c.sub.cancels c.era) = none) :
    specCancel.act c s = (s, .done rBadParam 0 0) := by
  have h' : s.accepted.find? (fun x => x.sub.ring == c.sub.ring && x.sub.index == c.sub.P0 0 16 && x.era == c.era) = none := h
  simp only [specCancel, h']

theorem specCancel_act_tooLate {c x : Cmd} {s : State} (h : s.accepted.find? (c.sub.cancels c.era) = some x)
    (hx : x.begun = true ∨ x.boundary ≤ s.nt) : specCancel.act c s = (s, .done rState 0 0) := by
  have h' : s.accepted.find? (fun x => x.sub.ring == c.sub.ring && x.sub.index == c.sub.P0 0 16 && x.era == c.era) = some x := h
  simp only [specCancel, h', hx, if_true]

theorem specCancel_act_cancels {c x : Cmd} {s : State} (h : s.accepted.find? (c.sub.cancels c.era) = some x) (hb : x.begun = false)
    (hn : s.nt < x.boundary) : specCancel.act c s = (s.cancelWaiting (c.sub.cancels c.era) c.boundary, .done rOk 0 0) := by
  have h' : s.accepted.find? (fun x => x.sub.ring == c.sub.ring && x.sub.index == c.sub.P0 0 16 && x.era == c.era) = some x := h
  have hx : ¬(x.begun = true ∨ x.boundary ≤ s.nt) := by
    rintro (g | g)
    · simp [hb] at g
    · omega
  simp only [specCancel, h', hx, if_false]
  rfl

/-- The one accepted command cancelled. -/
theorem State.cancelWaiting_single {x : Cmd} {p : Cmd → Bool} {s : State} (h : s.accepted = [x]) (hp : p x = true) (hb : x.begun = false)
    (h1 : x.op ≠ 0x11) (h2 : x.op ≠ 0x4A) (time : Nat) :
    s.cancelWaiting p time = State.completeCmd x rCancelled time 0 0 { s with accepted := [] } := by
  simp only [State.cancelWaiting, h, List.filter_cons, List.filter_nil, hb, hp, Bool.not_false, Bool.and_self, Bool.not_true, Bool.or_self,
    Bool.false_eq_true, if_true, if_false, State.forEach_cons, State.forEach_nil]
  exact State.updPending_ne h1 h2 _

theorem State.cancelWaiting_none {p : Cmd → Bool} {s : State} (h : ∀ y ∈ s.accepted, p y = false) (time : Nat) :
    s.cancelWaiting p time = s := by
  have keep : s.accepted.filter (fun c => c.begun || !p c) = s.accepted := List.filter_eq_self.2 (fun y hy => by simp [h y hy])
  have gone : s.accepted.filter (fun c => !c.begun && p c) = [] := List.filter_eq_nil_iff.2 (fun y hy => by simp [h y hy])
  simp only [State.cancelWaiting, keep, gone, State.forEach_nil]

/-- A CANCEL taken and ended in its step. -/
theorem exec_cancel {d : Submission} {s t : State} {code : Nat} (h : Ready specCancel d s)
    (ha : specCancel.act (cmdNow 0x62 d s) (s.fetched d) = (t, .done code 0 0)) :
    exec (.cancel d) s = .next ((cmdNow 0x62 d s).ended code 0 0 t) :=
  congrArg Host.Outcome.next (CmdSpec.take_ends_now h (by decide) (by decide) rfl ha)

/-! ### RING_SET (04 R164, R165) -/

/-- A RING_SET CONFIGURE taken and ended in its step. -/
theorem exec_ringSetConfigure {d : Submission} {s t : State} {code : Nat} (h : Ready specRingConfigure d s)
    (ha : specRingConfigure.act (cmdOf 0x60 d s) (s.fetched d) = (t, .done code 0 0)) :
    exec (.ringSetConfigure d) s = .next ((cmdOf 0x60 d s).ended code 0 0 t) :=
  congrArg Host.Outcome.next (CmdSpec.take_ends h (by decide) (by decide) rfl ha)

theorem specRingConfigure_act_enabled {c : Cmd} {s : State}
    (hv : (blockCfg c.sub).invalid ((s.enabledRings.filter (fun q => q != c.sub.P0 0 7)).map s.ringCfg) = false) (h : s.cls (c.sub.P0 0 7) ≠ 0) :
    specRingConfigure.act c s = (s, .done rState 0 0) := by
  simp only [specRingConfigure, hv, Bool.false_eq_true, if_false, ne_eq, h, not_false_eq_true, if_true]

theorem specRingConfigure_act_disabled {c : Cmd} {s : State}
    (hv : (blockCfg c.sub).invalid ((s.enabledRings.filter (fun q => q != c.sub.P0 0 7)).map s.ringCfg) = false) (h : s.cls (c.sub.P0 0 7) = 0) :
    specRingConfigure.act c s = ((s.putRegs c.sub 8 (ringRegs (c.sub.P0 0 7))).ringStart (c.sub.P0 0 7), .done rOk 0 0) := by
  simp only [specRingConfigure, hv, Bool.false_eq_true, if_false, ne_eq, h, not_true_eq_false]

/-! ### Rings that stop -/

/-- No ring is being disabled. -/
def NoneStopping (t : Tbl RingSt) : Prop := ∀ y ∈ t, y.2.stopping = false

theorem Tbl.mem_of_find {α : Type} {k : Nat} {v : α} {t : Tbl α} (h : Tbl.find k t = some v) : (k, v) ∈ t := by
  induction t with
  | nil => cases h
  | cons x t ih =>
    obtain ⟨j, w⟩ := x
    rw [Tbl.find] at h
    split at h
    · rename_i e
      cases h
      exact e ▸ List.mem_cons_self ..
    · exact List.mem_cons_of_mem _ (ih h)

theorem State.ring_not_stopping {s : State} (h : NoneStopping s.rings) (r : Nat) : (s.ring r).stopping = false := by
  unfold State.ring Tbl.getD
  cases hf : Tbl.find r s.rings with
  | none => rfl
  | some q => exact h _ (Tbl.mem_of_find hf)

theorem NoneStopping.put {t : Tbl RingSt} (h : NoneStopping t) {v : RingSt} (hv : v.stopping = false) (r : Nat) :
    NoneStopping (Tbl.put {} r v t) := by
  intro y hy
  unfold Tbl.put at hy
  split at hy
  · exact h y (Tbl.mem_del hy)
  · rcases Tbl.mem_ins hy with rfl | hy
    · exact hv
    · exact h y hy

theorem NoneStopping.modRing {s : State} (h : NoneStopping s.rings) {f : RingSt → RingSt} (hf : ∀ q, (f q).stopping = q.stopping) (r : Nat) :
    NoneStopping (s.modRing r f).rings := h.put ((hf _).trans (State.ring_not_stopping h r)) r

theorem NoneStopping.fetched {s : State} (h : NoneStopping s.rings) (d : Submission) : NoneStopping (s.fetched d).rings := by
  unfold State.fetched
  split
  · exact h
  · refine h.modRing ?_ d.ring
    exact fun _ => rfl

theorem State.sendMsix_rings (v : Nat) (s : State) : (s.sendMsix v).rings = s.rings := by
  unfold State.sendMsix
  split <;> rfl

/-- `t`'s rings are those of `s`, but for the completion tail, the PHASE and the armed index of ring `r`. -/
def TailMoved (r : Nat) (s t : State) : Prop :=
  t.rings = s.rings ∨ ∃ n p a, t.rings = Tbl.put {} r { s.ring r with cqTail := n, phase := p, armed := a } s.rings

theorem State.putCq_tailMoved (r : Nat) (c : Completion) (s : State) : TailMoved r s (s.putCq r c) := by
  unfold State.putCq
  dsimp only
  split
  · exact .inr ⟨_, _, _, State.sendMsix_rings _ _⟩
  · exact .inr ⟨_, _, _, rfl⟩

theorem State.count_rings (set r i n : Nat) (s : State) : (s.count set r i n).rings = s.rings := by
  unfold State.count
  dsimp only
  split <;> rfl

theorem State.complete_tailMoved (r : Nat) (c : Completion) (s : State) : TailMoved r s (s.complete r c) := by
  unfold State.complete
  split
  · exact .inl rfl
  · split
    · exact .inl (State.count_rings ..)
    · split
      · exact State.putCq_tailMoved r c s
      · exact .inl rfl

theorem State.completeCmd_tailMoved (c : Cmd) (code time q1 q2 : Nat) (s : State) :
    TailMoved c.sub.ring s (s.completeCmd c code time q1 q2) := by
  unfold State.completeCmd State.completeEra
  dsimp only
  split
  · exact .inl (State.count_rings ..)
  · exact State.complete_tailMoved ..

theorem TailMoved.noneStopping {r : Nat} {s t : State} (h : TailMoved r s t) (hs : NoneStopping s.rings) : NoneStopping t.rings := by
  rcases h with e | ⟨n, p, a, e⟩
  · exact e ▸ hs
  · exact e ▸ hs.put (v := { s.ring r with cqTail := n, phase := p, armed := a }) (State.ring_not_stopping hs r) r

/-- Every ring keeps its delivery queue, its buffers and its counts. -/
theorem TailMoved.ring {r : Nat} {s t : State} (h : TailMoved r s t) (q : Nat) :
    ∃ n p a, t.ring q = { s.ring q with cqTail := n, phase := p, armed := a } := by
  rcases h with e | ⟨n, p, a, e⟩
  · exact ⟨_, _, _, congrArg (fun t : Tbl RingSt => t.getD q {}) e⟩
  · have e' : t.ring q = Tbl.getD (Tbl.put {} r { s.ring r with cqTail := n, phase := p, armed := a } s.rings) q {} :=
      congrArg (fun t : Tbl RingSt => t.getD q {}) e
    by_cases h : q = r
    · subst h
      exact ⟨n, p, a, e'.trans (Tbl.getD_put_self ({} : RingSt) _ _ _)⟩
    · exact ⟨_, _, _, e'.trans (congrArg (·.getD ({} : RingSt)) (Tbl.find_put_ne h ({} : RingSt) _ _))⟩

theorem State.allRingStops_none {s : State} (h : NoneStopping s.rings) : s.allRingStops = s := by
  have e : s.rings.filter (fun x => x.2.stopping) = [] := List.filter_eq_nil_iff.2 (fun y hy => by simp [h y hy])
  simp only [State.allRingStops, e, List.map_nil, State.forEach_nil]

/-- The one ring that is being disabled. -/
theorem NoneStopping.filter_put {t : Tbl RingSt} (h : NoneStopping t) {v : RingSt} (hv : v.stopping = true) (r : Nat) :
    (Tbl.put {} r v t).filter (fun x => x.2.stopping) = [(r, v)] := by
  have quiet : ∀ t : Tbl RingSt, NoneStopping t → t.filter (fun x => x.2.stopping) = [] :=
    fun t ht => List.filter_eq_nil_iff.2 (fun y hy => by simp [ht y hy])
  have hne : v ≠ {} := fun e => by simp [e] at hv
  rw [Tbl.put, if_neg hne]
  induction t with
  | nil => simp [Tbl.ins, hv]
  | cons x t ih =>
    obtain ⟨j, w⟩ := x
    have hw : w.stopping = false := h (j, w) (List.mem_cons_self ..)
    have ht : NoneStopping t := fun y hy => h y (List.mem_cons_of_mem _ hy)
    rw [Tbl.ins]
    split
    · simp [hv, hw, quiet t ht]
    · split
      · simp [hv, quiet t ht]
      · simp [hw, ih ht]

theorem State.allRingStops_single {s : State} {r : Nat} {v : RingSt} {t : Tbl RingSt} (ht : NoneStopping t) (hv : v.stopping = true)
    (h : s.rings = Tbl.put {} r v t) : s.allRingStops = s.ringStops r := by
  simp only [State.allRingStops, h, ht.filter_put hv, List.map_cons, List.map_nil, State.forEach_cons, State.forEach_nil]

/-- A ring without posted buffers has none to cancel. -/
theorem State.cancelBufs_none {r : Nat} {s : State} (h : (s.ring r).posted = []) : s.cancelBufs r = s.modRing r id := by
  simp only [State.cancelBufs, h, List.take_nil, State.forEach_nil, List.length_nil, List.drop_zero]
  rfl

/-- Everything of ring `r` that is accepted is its own RING_SET DISABLE `c`, accepted last. -/
def OnlyDisable (r : Nat) (l : List Cmd) (c : Cmd) : Prop :=
  (∀ y ∈ l, y.sub.ring ≠ r ∧ isDisable r y = false) ∧ c.begun = true ∧ isDisable r c = true

/-- The DISABLE ends, and it alone. -/
theorem OnlyDisable.finish {r : Nat} {l : List Cmd} {c : Cmd} (h : OnlyDisable r l c) {s : State} (ha : s.accepted = l ++ [c])
    (code time q1 q2 : Nat) : s.finish (isDisable r) code time q1 q2 = State.completeCmd c code time q1 q2 { s with accepted := l } := by
  obtain ⟨hl, hb, hd⟩ := h
  have notIn : c ∉ l := fun hc => by simp [(hl c hc).2] at hd
  have find : s.accepted.find? (fun y => y.begun && isDisable r y) = some c := by
    rw [ha, List.find?_append, List.find?_eq_none.2 (fun y hy => by simp [(hl y hy).2])]
    simp [hb, hd]
  have erase : s.accepted.erase c = l := by
    rw [ha, List.erase_append_right _ notIn, List.erase_cons_head, List.append_nil]
  simp only [State.finish, find, erase]

/-- No command of the ring but its DISABLE holds its stop up. -/
theorem OnlyDisable.outstanding {r : Nat} {l : List Cmd} {c : Cmd} (h : OnlyDisable r l c) {s : State} (ha : s.accepted = l ++ [c]) :
    (s.outstanding r).any (fun y => !isDisable r y) = false := by
  obtain ⟨hl, -, hd⟩ := h
  rw [List.any_eq_false]
  intro y hy
  obtain ⟨hmem, hring⟩ := List.mem_filter.1 hy
  rw [ha] at hmem
  rcases List.mem_append.1 hmem with hmem | hmem
  · simp [(hl y hmem).1] at hring
  · rw [List.mem_singleton.1 hmem, hd]
    decide

/-- A ring stopped: its class is 0, and it starts from nothing but the frames of this pick cycle that it refused. -/
def State.ringStopped (r : Nat) (s : State) : State :=
  let was := s.ring r
  (((s.set (F.HIF_RING_CFG_CLASS r) 0).ringStart r).modRing r (fun q => { q with ended := was.ended, notRx := was.notRx })).stop (.rxWait r)

/-- A ring without buffers, frames and commands stops at once. -/
theorem State.ringStops_empty {r : Nat} {l : List Cmd} {c : Cmd} {s : State} (h : OnlyDisable r l c) (ha : s.accepted = l ++ [c])
    (hs : (s.ring r).stopping = true) (hp : (s.ring r).posted = []) (hx : (s.ring r).rxQueue = []) :
    s.ringStops r = (State.completeCmd c rOk s.nt 0 0 { s.modRing r id with accepted := l }).ringStopped r := by
  have ring : (s.modRing r id).ring r = s.ring r := State.ring_modRing_self r id s
  have go : ¬((!((s.modRing r id).ring r).stopping) = true ∨ ((s.modRing r id).ring r).posted ≠ [] ∨
      ((s.modRing r id).outstanding r).any (fun y => !isDisable r y) = true) := by
    rw [ring, hs, hp, h.outstanding (s := s.modRing r id) ha]
    simp
  unfold State.ringStops
  rw [hs, State.when_true, State.cancelBufs_none hp, if_neg go, h.finish (s := s.modRing r id) ha]
  generalize hu : State.completeCmd c rOk (s.modRing r id).nt 0 0 { s.modRing r id with accepted := l } = u
  have queue : ((u.set (F.HIF_RING_CFG_CLASS r) 0).ring r).rxQueue = [] := by
    obtain ⟨n, p, a, e⟩ := (State.completeCmd_tailMoved c rOk (s.modRing r id).nt 0 0 { s.modRing r id with accepted := l }).ring r
    rw [hu] at e
    show (u.ring r).rxQueue = []
    rw [e]
    exact (congrArg RingSt.rxQueue ring).trans hx
  simp only [queue, State.forEach_nil]
  rw [show s.nt = (s.modRing r id).nt from rfl, hu]
  rfl

@[simp] theorem State.ringStopped_accepted (r : Nat) (s : State) : (s.ringStopped r).accepted = s.accepted := rfl
@[simp] theorem State.ringStopped_frames (r : Nat) (s : State) : (s.ringStopped r).frames = s.frames := rfl

theorem State.ringStopped_cls_self (r : Nat) (s : State) : (s.ringStopped r).cls r = 0 :=
  State.get_set_self (f := F.HIF_RING_CFG_CLASS r) (show 0 + 4 ≤ 32 by decide) 0 s

theorem State.ringStopped_cls_ne {q r : Nat} (h : q ≠ r) (s : State) : (s.ringStopped r).cls q = s.cls q := by
  refine State.get_set_addr (f := F.HIF_RING_CFG_CLASS r) (g := F.HIF_RING_CFG_CLASS q) ?_ 0 s
  show R.HIF_RING_CFG q ≠ R.HIF_RING_CFG r
  unfold R.HIF_RING_CFG
  omega

theorem State.ringStopped_ring (r : Nat) (s : State) :
    (s.ringStopped r).ring r = { ended := (s.ring r).ended, notRx := (s.ring r).notRx } := by
  have fresh : ((s.set (F.HIF_RING_CFG_CLASS r) 0).ringStart r).ring r = {} :=
    congrArg (·.getD ({} : RingSt)) (Tbl.find_del_self r s.rings)
  refine (State.ring_modRing_self r (fun q => { q with ended := (s.ring r).ended, notRx := (s.ring r).notRx }) _).trans ?_
  rw [fresh]

/-- Telling the host leaves the class of every ring. -/
theorem Told.cls {s t : State} (h : Told s t) (q : Nat) : t.cls q = s.cls q := by
  refine State.get_addr (h.1 _ ?_)
  show ¬ToldAt (R.HIF_RING_CFG q)
  simp only [ToldAt, R.HIF_RING_CFG, R.HIF_STATUS, R.MSIX_PBA, R.OBS_WRAP, F.OBS_EVENT_WRAP_SEEN, R.OBS_EVENT]
  omega

/-- A fetched submission of a ring: the link holds, and a groom is in service (04 R130, R166). -/
theorem State.fetches_up {cls : Nat} {d : Submission} {s : State} (h : s.fetches cls d = true) (hd : d.ring < 128) :
    s.groomUp = true ∧ s.relink = false := by
  simp only [State.fetches, Nat.not_le.2 hd, if_false, Bool.and_eq_true, Bool.not_eq_true'] at h
  obtain ⟨hup, h⟩ := h
  exact ⟨hup, by tauto⟩

/-! ### RING_SET DISABLE (04 R164) -/

/-- A ring that is being disabled. -/
def RingSt.stop (q : RingSt) : RingSt := { q with stopping := true }

theorem specRingDisable_act_disabled {c : Cmd} {s : State} (h : s.cls (c.sub.P0 0 7) = 0) :
    specRingDisable.act c s = (s, .done rOk 0 0) := if_pos h

theorem specRingDisable_act_last {c : Cmd} {s : State} (h : s.lastOf (c.sub.P0 0 7) = true) :
    specRingDisable.act c s = (s, .done rState 0 0) := by
  have hc : s.cls (c.sub.P0 0 7) ≠ 0 := by
    intro e
    simp [State.lastOf, e, clsMgmt, clsEvent] at h
  exact (if_neg hc).trans (if_pos (.inl h))

theorem specRingDisable_act_begins {c : Cmd} {s : State} (hc : s.cls (c.sub.P0 0 7) ≠ 0) (hl : s.lastOf (c.sub.P0 0 7) = false)
    (hs : (s.ring (c.sub.P0 0 7)).stopping = false) (ha : ∀ y ∈ s.accepted, y.sub.ring ≠ c.sub.P0 0 7) :
    specRingDisable.act c s = (s.modRing (c.sub.P0 0 7) RingSt.stop, .wait) := by
  have go : ¬(s.lastOf (c.sub.P0 0 7) = true ∨ (s.ring (c.sub.P0 0 7)).stopping = true) := by simp [hl, hs]
  refine ((if_neg hc).trans (if_neg go)).trans ?_
  rw [State.cancelWaiting_none (fun y hy => by simp [ha y hy])]
  rfl

/-- After a RING_SET DISABLE the rings that are being disabled stop, as far as they can. -/
theorem exec_ringSetDisable {d : Submission} {s : State} (h : Ready specRingDisable d s) :
    exec (.ringSetDisable d) s = .next (specRingDisable.take 0x60 true d s).allRingStops := by
  show Host.Outcome.next (State.when (s.fetches specRingDisable.cls d) State.allRingStops (specRingDisable.take 0x60 true d s)) = _
  rw [h.1, State.when_true]

/-- A RING_SET DISABLE that completes at once stops no ring. -/
theorem exec_ringSetDisable_done {d : Submission} {s : State} {code : Nat} (h : Ready specRingDisable d s) (hs : NoneStopping s.rings)
    (ha : specRingDisable.act (cmdOf 0x60 d s) (s.fetched d) = (s.fetched d, .done code 0 0)) :
    exec (.ringSetDisable d) s = .next ((cmdOf 0x60 d s).ended code 0 0 (s.fetched d)) := by
  rw [exec_ringSetDisable h, CmdSpec.take_ends h (by decide) (by decide) rfl ha]
  exact congrArg Host.Outcome.next (State.allRingStops_none ((State.completeCmd_tailMoved ..).noneStopping (hs.fetched d)))

/-- The command of an accepted RING_SET DISABLE of ring `r`, begun, where no accepted command is of the ring or about it. -/
theorem onlyDisable_cmdOf {d : Submission} {s : State} (h : Ready specRingDisable d s)
    (hl : ∀ y ∈ s.accepted, y.sub.ring ≠ d.P0 0 7 ∧ isDisable (d.P0 0 7) y = false) :
    OnlyDisable (d.P0 0 7) s.accepted { cmdOf 0x60 d s with begun := true } := by
  have form : d.form 1 8 = true := by
    have hc : (if d.form 1 8 then rOk else rBadParam) = rOk := CmdSpec.check_of_ready (k := specRingDisable) h
    by_contra hf
    rw [if_neg hf] at hc
    exact absurd hc (by decide)
  have action : d.b 0 = 1 := by
    simp only [Submission.form, Bool.and_eq_true, beq_iff_eq] at form
    exact form.1.1
  refine ⟨hl, rfl, ?_⟩
  show ((0x60 : Nat) == 0x60 && d.b 0 == 1 && d.P0 0 7 == d.P0 0 7) = true
  simp [action]

/-- The state in which a RING_SET DISABLE has begun and has stopped nothing yet. -/
def State.disabling (d : Submission) (s : State) : State := (cmdOf 0x60 d s).goesOn ((s.fetched d).modRing (d.P0 0 7) RingSt.stop)

theorem exec_ringSetDisable_stops {d : Submission} {s : State} (h : Ready specRingDisable d s) (hs : NoneStopping s.rings)
    (hc : s.cls (d.P0 0 7) ≠ 0) (hl : s.lastOf (d.P0 0 7) = false)
    (ha : ∀ y ∈ s.accepted, y.sub.ring ≠ d.P0 0 7 ∧ isDisable (d.P0 0 7) y = false)
    (hp : (s.ring (d.P0 0 7)).posted = []) (hx : (s.ring (d.P0 0 7)).rxQueue = []) :
    exec (.ringSetDisable d) s = .next ((State.completeCmd { cmdOf 0x60 d s with begun := true } rOk s.nt 0 0
      { (s.disabling d).modRing (d.P0 0 7) id with accepted := s.accepted }).ringStopped (d.P0 0 7)) := by
  have begins : specRingDisable.act (cmdOf 0x60 d s) (s.fetched d) = ((s.fetched d).modRing (d.P0 0 7) RingSt.stop, .wait) :=
    specRingDisable_act_begins (by rw [State.fetched_cls]; exact hc) (by rw [State.fetched_lastOf]; exact hl)
      (State.ring_not_stopping (hs.fetched d) _) (by rw [State.fetched_accepted]; exact fun y hy => (ha y hy).1)
  have stop : (s.disabling d).allRingStops = (s.disabling d).ringStops (d.P0 0 7) :=
    State.allRingStops_single (hs.fetched d) (v := RingSt.stop _) rfl rfl
  have ring : (s.disabling d).ring (d.P0 0 7) = ((s.fetched d).ring (d.P0 0 7)).stop := State.ring_modRing_self (d.P0 0 7) RingSt.stop (s.fetched d)
  have posted : ((s.disabling d).ring (d.P0 0 7)).posted = [] := by rw [ring, State.fetched_ring]; exact hp
  have queue : ((s.disabling d).ring (d.P0 0 7)).rxQueue = [] := by rw [ring, State.fetched_ring]; exact hx
  have accepted : (s.disabling d).accepted = s.accepted ++ [{ cmdOf 0x60 d s with begun := true }] :=
    congrArg (· ++ [_]) (State.fetched_accepted d s)
  have now : (s.disabling d).nt = s.nt := State.fetched_nt d s
  rw [exec_ringSetDisable h, CmdSpec.take_begins h (by decide) (by decide) rfl begins]
  show Host.Outcome.next (s.disabling d).allRingStops = _
  rw [stop, State.ringStops_empty (onlyDisable_cmdOf h ha) accepted (by rw [ring]; rfl) posted queue, now]

/-- The state in which the DISABLE of an empty ring completes: nothing but rings differs from before. -/
def State.disabled (d : Submission) (s : State) : State := { (s.disabling d).modRing (d.P0 0 7) id with accepted := s.accepted }

theorem State.disabled_eq (d : Submission) (s : State) : ∃ rs, s.disabled d = { s with rings := rs } := by
  have e : s.disabled d = { s.fetched d with rings := (s.disabled d).rings, accepted := s.accepted } := by
    unfold State.disabled State.disabling Cmd.goesOn State.modRing
    rfl
  generalize (s.disabled d).rings = rs at e
  refine ⟨rs, e.trans ?_⟩
  rw [State.fetched_eq]

theorem State.disabled_ring (d : Submission) (s : State) (q : Nat) :
    ∃ n b, (s.disabled d).ring q = { s.ring q with sqHead := n, stopping := b } := by
  have idle : (s.disabled d).ring q = (s.disabling d).ring q := by
    by_cases h : q = d.P0 0 7
    · exact h ▸ State.ring_modRing_self (d.P0 0 7) id (s.disabling d)
    · exact State.ring_modRing_ne h id (s.disabling d)
  have stop : ∃ b, (s.disabling d).ring q = { (s.fetched d).ring q with stopping := b } := by
    by_cases h : q = d.P0 0 7
    · exact ⟨true, h ▸ State.ring_modRing_self (d.P0 0 7) RingSt.stop (s.fetched d)⟩
    · exact ⟨_, State.ring_modRing_ne h RingSt.stop (s.fetched d)⟩
  obtain ⟨b, hb⟩ := stop
  rw [idle, hb, State.fetched_ring]
  exact ⟨_, b, rfl⟩

theorem State.disabled_rd (d : Submission) (s : State) (a : Nat) : (s.disabled d).rd a = s.rd a := by
  obtain ⟨rs, h⟩ := State.disabled_eq d s
  rw [h]
  rfl

theorem State.disabled_groomUp (d : Submission) (s : State) : (s.disabled d).groomUp = s.groomUp := by
  simp only [State.groomUp, State.get, State.disabled_rd]

theorem State.disabled_cqAddr (d : Submission) (s : State) (r i : Nat) : (s.disabled d).cqAddr r i = s.cqAddr r i := by
  simp only [State.cqAddr, State.get2, State.disabled_rd]

/-- What the DISABLE of a ring without commands, buffers or frames leaves. -/
theorem specRingDisable_effect {d : Submission} {s : State} (h : Ready specRingDisable d s) (hs : NoneStopping s.rings) (hd : d.ring < 128)
    (hc : s.cls (d.P0 0 7) ≠ 0) (hl : s.lastOf (d.P0 0 7) = false)
    (ha : ∀ y ∈ s.accepted, y.sub.ring ≠ d.P0 0 7 ∧ isDisable (d.P0 0 7) y = false)
    (hp : (s.ring (d.P0 0 7)).posted = []) (hx : (s.ring (d.P0 0 7)).rxQueue = []) :
    ∃ (u : State) (z : Completion), exec (.ringSetDisable d) s = .next u ∧ u.cls (d.P0 0 7) = 0 ∧
      u.ring (d.P0 0 7) = { ended := (s.ring (d.P0 0 7)).ended, notRx := (s.ring (d.P0 0 7)).notRx } ∧
      (∀ q, q ≠ d.P0 0 7 → u.cls q = s.cls q) ∧ u.accepted = s.accepted ∧ u.frames = s.frames ∧
      u.cq = Tbl.ins (s.cqAddr d.ring (s.ring d.ring).cqTail) z.bytes s.cq ∧
      z.result = rOk ∧ z.sqIndex = d.index ∧ z.tag = d.tag ∧ z.time = BitVec.ofNat 64 s.nt := by
  let c : Cmd := { cmdOf 0x60 d s with begun := true }
  obtain ⟨rs, same⟩ := State.disabled_eq d s
  have told : Told (s.disabled d) (State.completeCmd c rOk s.nt 0 0 (s.disabled d)) := State.completeCmd_told ..
  obtain ⟨hup, hlink⟩ := State.fetches_up h.1 hd
  refine ⟨_, (s.disabled d).completionOf c rOk s.nt 0 0, exec_ringSetDisable_stops h hs hc hl ha hp hx, State.ringStopped_cls_self _ _, ?ring,
    fun q hq => ?cls, ?accepted, ?frames, ?cq, rfl, rfl, rfl, rfl⟩
  case ring =>
    obtain ⟨n, p, a, moved⟩ := (State.completeCmd_tailMoved c rOk s.nt 0 0 (s.disabled d)).ring (d.P0 0 7)
    obtain ⟨m, b, before⟩ := State.disabled_ring d s (d.P0 0 7)
    refine (State.ringStopped_ring _ (State.completeCmd c rOk s.nt 0 0 (s.disabled d))).trans ?_
    rw [moved, before]
  case cls =>
    refine (State.ringStopped_cls_ne hq (State.completeCmd c rOk s.nt 0 0 (s.disabled d))).trans ((told.cls q).trans ?_)
    exact State.get_addr (State.disabled_rd d s _)
  case accepted =>
    refine (State.ringStopped_accepted _ (State.completeCmd c rOk s.nt 0 0 (s.disabled d))).trans ((congrArg State.accepted told.2).trans ?_)
    rw [same]
  case frames =>
    refine (State.ringStopped_frames _ (State.completeCmd c rOk s.nt 0 0 (s.disabled d))).trans ((congrArg State.frames told.2).trans ?_)
    rw [same]
  case cq =>
    have link : (s.disabled d).relink = false := (State.on_addr (State.disabled_rd d s _)).trans hlink
    have up : (s.disabled d).groomUp = true := (State.disabled_groomUp d s).trans hup
    have era : c.era = (s.disabled d).era := by
      rw [same]
      exact State.fetched_era d s
    obtain ⟨m, b, before⟩ := State.disabled_ring d s d.ring
    refine (State.completeCmd_cq (c := c) (s := s.disabled d) hd link up era rOk s.nt 0 0).trans ?_
    show Tbl.ins ((s.disabled d).cqAddr d.ring ((s.disabled d).ring d.ring).cqTail) _ (s.disabled d).cq = _
    rw [State.disabled_cqAddr, before, congrArg State.cq same]

/-- Settles O25: acceptance and boundary of a NOP by `specNop_take_accepted` and `State.actDue_nop`; the other commands by the lemmas of what they
do in each case, RING_SET DISABLE of an empty ring by `specRingDisable_effect`. -/
theorem acceptanceAndTheRingsOwnCommands : Obligations.AcceptanceAndTheRingsOwnCommands := by
  intro s d l e f b late x c t acc
  refine ⟨?accept, fun hdesc hf => exec_submissionAccept_unread hdesc hf, ?due, ?idle, ?nop, fun h hnow => specAttnAck_effect h hnow, ?unknown,
    ?tooLate, ?cancelled, ?configure, ?disable⟩
  case accept =>
    rintro hdesc hd hop - hcls hf
    have taken : exec (.submissionAccept e f) s = .next (specNop.take 0x63 false d s) := by
      rw [exec_submissionAccept_read hdesc, ← hd, hop, State.acceptNext_nop hcls]
    exact ⟨fun hr hb => taken.trans (congrArg Host.Outcome.next (specNop_take_accepted hf hr hb)),
      fun hr => taken.trans (congrArg Host.Outcome.next (specNop_take_refused hf hr))⟩
  case due =>
    intro hup hdue hop
    show (if s.groomUp = true then .next s.actDue else .next s : Host.Outcome State Fault Refusal) = _
    rw [if_pos hup, State.actDue_nop hdue hop]
  case idle =>
    intro h
    show (if s.groomUp = true then .next s.actDue else .next s : Host.Outcome State Fault Refusal) = _
    rcases h with h | h
    · rw [if_neg (by simp [h])]
    · have idle : s.actDue = s := by simp only [State.actDue, h]
      rw [idle, ite_self]
  case nop => exact fun h => congrArg Host.Outcome.next (CmdSpec.take_ends h (by decide) (by decide) rfl rfl)
  case unknown =>
    intro h hfind
    rw [← State.fetched_accepted d s, ← State.fetched_era d s] at hfind
    exact exec_cancel h (specCancel_act_unknown (c := cmdNow 0x62 d s) hfind)
  case tooLate =>
    intro h hfind hx
    rw [← State.fetched_accepted d s, ← State.fetched_era d s] at hfind
    exact exec_cancel h (specCancel_act_tooLate (c := cmdNow 0x62 d s) hfind (by rwa [State.fetched_nt]))
  case cancelled =>
    intro h hone hring hindex hera hbegun hcome h1 h2
    have target : d.cancels (s.fetched d).era x = true := by simp [Submission.cancels, hring, hindex, hera]
    have one : t.accepted = [x] := (State.fetched_accepted d s).trans hone
    have found : t.accepted.find? (d.cancels (s.fetched d).era) = some x := by rw [one, List.find?_cons_of_pos target]
    have acts := specCancel_act_cancels (c := cmdNow 0x62 d s) (s := t) found hbegun (by rwa [State.fetched_nt])
    rw [exec_cancel h acts]
    exact congrArg (fun u => Host.Outcome.next ((cmdNow 0x62 d s).ended rOk 0 0 u)) (State.cancelWaiting_single one target hbegun h1 h2 _)
  case configure =>
    intro h hv
    rw [← State.fetched_enabledRings d s, ← State.fetched_ringCfg d s] at hv
    rw [← State.fetched_cls d s]
    exact ⟨fun hc => exec_ringSetConfigure h (specRingConfigure_act_disabled hv hc),
      fun hc => exec_ringSetConfigure h (specRingConfigure_act_enabled hv hc)⟩
  case disable =>
    intro h hs
    refine ⟨fun hc => exec_ringSetDisable_done h hs (specRingDisable_act_disabled ?_),
      fun hl => exec_ringSetDisable_done h hs (specRingDisable_act_last ?_), ?_⟩
    · exact (State.fetched_cls d s _).trans hc
    · exact (State.fetched_lastOf d s _).trans hl
    · rintro hd r rfl hc hl ha hp hx
      exact specRingDisable_effect h hs hd hc hl ha hp hx

end Sys2Proof.Machine
end

section
/-! The pick-cycle boundary: network time, the timers with it, and what only one cycle remembers (01 R13, R16, R18, R630; 04 R143; 16 R566;
17 R595, R602). -/

namespace Sys2Proof.Machine

open Sys2Proof

/-! ### The cycle that ends leaves the clock -/

/-- What the passage of pick cycles alone moves: network time, the cycle and batch counts, and the doorbells that wait for the boundary. -/
def State.clock (s : State) : Nat × Nat × Nat × List (Nat × Nat × Word) := (s.nt, s.cycles, s.batch, s.dbNow)

theorem Told.clock {s t : State} (h : Told s t) : t.clock = s.clock := by
  have e := congrArg State.clock h.2
  exact e

theorem State.clock_when {f : State → State} (h : ∀ s, (f s).clock = s.clock) (b : Bool) (s : State) : (s.when b f).clock = s.clock := by
  cases b
  · rfl
  · exact h s

theorem State.clock_forEach {α : Type} {f : α → State → State} (h : ∀ x s, (f x s).clock = s.clock) (l : List α) (s : State) :
    (s.forEach l f).clock = s.clock := by
  induction l generalizing s with
  | nil => rfl
  | cons x l ih => rw [State.forEach_cons, ih, h]

@[simp] theorem State.clock_wr (a : Nat) (v : Word) (s : State) : (s.wr a v).clock = s.clock := rfl
@[simp] theorem State.clock_set (f : Fld) (v : Nat) (s : State) : (s.set f v).clock = s.clock := rfl
@[simp] theorem State.clock_set2 (lo hi w v : Nat) (s : State) : (s.set2 lo hi w v).clock = s.clock := rfl
@[simp] theorem State.clock_count (set r i n : Nat) (s : State) : (s.count set r i n).clock = s.clock := (State.count_told ..).clock
@[simp] theorem State.clock_event (code src detail : Nat) (s : State) : (s.event code src detail).clock = s.clock := (State.event_told ..).clock

@[simp] theorem State.clock_raise (blk : Blk) (b src : Nat) (s : State) : (s.raise blk b src).clock = s.clock :=
  (State.raise_told blk b src s).clock

@[simp] theorem State.clock_raiseD (blk : Blk) (b src detail : Nat) (s : State) : (s.raiseD blk b src detail).clock = s.clock :=
  (State.raiseD_told blk b src detail s).clock

@[simp] theorem State.clock_sendMsix (v : Nat) (s : State) : (s.sendMsix v).clock = s.clock := by
  unfold State.sendMsix
  split <;> rfl

theorem State.clock_finish (p : Cmd → Bool) (code time q1 q2 : Nat) (s : State) : (s.finish p code time q1 q2).clock = s.clock := by
  unfold State.finish
  split
  · rfl
  · exact (State.completeCmd_told ..).clock

/-! The rule writer (07 R292) -/

theorem State.clock_updHeader (g : Nat) (s : State) : (s.updHeader g).clock = s.clock := by
  unfold State.updHeader
  dsimp only
  split <;> rfl

theorem State.clock_writeEntry (gen mem : Nat) (e : Nat × List Byte) (s : State) : (s.writeEntry gen mem e).clock = s.clock := by
  unfold State.writeEntry
  dsimp only
  split
  · exact State.clock_updHeader gen _
  · rfl

theorem State.clock_writeNext (n c : Nat) (j : RuleJob) (s : State) : (s.writeNext n c j).clock = s.clock := by
  unfold State.writeNext
  split
  · exact State.clock_updHeader j.gen _
  · exact State.clock_forEach (fun e s => State.clock_writeEntry j.gen j.mem e s) _ s

theorem State.clock_endWrites (s : State) : s.endWrites.clock = s.clock := by
  unfold State.endWrites
  split
  · rfl
  · rename_i j _
    exact State.clock_when (fun u => (State.clock_finish ..).trans (State.clock_writeNext ..)) _ s

/-! The doorbells (04 R134, R135) -/

theorem State.clock_dbSqTail (r v : Nat) (s : State) : (s.dbSqTail r v).clock = s.clock := by
  unfold State.dbSqTail State.hifErr
  split
  · rfl
  · split
    · exact State.clock_raiseD ..
    · rfl

theorem State.clock_undrain (r : Nat) (had : Bool) (s : State) : (s.undrain r had).clock = s.clock := by
  unfold State.undrain
  dsimp only
  split <;> rfl

theorem State.clock_dbCqHead (r v : Nat) (s : State) : (s.dbCqHead r v).clock = s.clock := by
  unfold State.dbCqHead State.hifErr
  dsimp only
  split
  · rfl
  · split
    · exact State.clock_raiseD ..
    · exact State.clock_when (State.clock_undrain r _) _ _

theorem State.clock_dbArm (r k : Nat) (s : State) : (s.dbArm r k).clock = s.clock := by
  unfold State.dbArm
  dsimp only
  split
  · rfl
  · split
    · exact State.clock_sendMsix ..
    · rfl

theorem State.clock_dbDisarm (r : Nat) (s : State) : (s.dbDisarm r).clock = s.clock := by
  unfold State.dbDisarm
  split <;> rfl

/-- The doorbells registered, none waits. -/
theorem State.clock_doorbells (s : State) : s.doorbells.clock = ({ s with dbNow := [] } : State).clock := by
  refine State.clock_forEach (fun x s => ?_) s.dbNow _
  split
  · exact State.clock_dbSqTail ..
  · exact State.clock_dbCqHead ..
  · split
    · exact State.clock_dbArm ..
    · exact State.clock_dbDisarm ..

/-! Bobbins and the ends of copies (06 R245 to R248; 08 R321) -/

theorem State.clock_bobbinShow (p : Nat) (s : State) : (s.bobbinShow p).clock = s.clock := by
  unfold State.bobbinShow
  dsimp only
  split <;> split <;> rfl

theorem State.clock_bobbinPut (p : Nat) (e : BobbinEntry) (s : State) : (s.bobbinPut p e).clock = s.clock := by
  unfold State.bobbinPut
  dsimp only
  split
  · exact State.clock_bobbinShow p _
  · split
    · rfl
    · exact State.clock_raise ..

theorem State.clock_bobbinFlush (s : State) : s.bobbinFlush.clock = s.clock := by
  refine (State.clock_forEach (fun x s => ?_) s.bobbinNow { s with bobbinNow := [] }).trans rfl
  exact State.clock_bobbinPut x.1 x.2 s

theorem State.clock_rxPop (r id : Nat) (s : State) : (s.rxPop r id).clock = s.clock := by
  unfold State.rxPop
  dsimp only
  split
  · split <;> rfl
  · rfl

theorem State.clock_modFrame (id : Nat) (f : Frame → Frame) (s : State) : (s.modFrame id f).clock = s.clock := by
  unfold State.modFrame
  split <;> rfl

theorem State.clock_updEgress (p : Nat) (s : State) : (s.updEgress p).clock = s.clock := by
  unfold State.updEgress
  split <;> rfl

theorem State.clock_bobbinUnsent (f : Frame) (code : Nat) (s : State) : (s.bobbinUnsent f code).clock = s.clock := by
  unfold State.bobbinUnsent
  split
  · rfl
  · refine State.clock_forEach (fun p s => ?_) _ s
    rfl

theorem State.clock_completeTx (cmd : Nat × Nat × Nat) (fate : Option Nat) (time : Nat) (s : State) :
    (s.completeTx cmd fate time).clock = s.clock := by
  unfold State.completeTx
  split
  · rfl
  · exact (State.completeEra_told ..).clock

theorem State.clock_endFrame (id code : Nat) (s : State) : (s.endFrame id code).clock = s.clock := by
  have popped : ∀ (f : Frame) (s : State), (match f.stage, f.dest with
      | .ring, .ring q => s.rxPop q id
      | _, _ => s).clock = s.clock := fun f s => by
    split
    · exact State.clock_rxPop ..
    · rfl
  have completed : ∀ (f : Frame) (s : State), (match f.cmd with
      | none => s
      | some c => s.completeTx c (some code) (if f.stage = Stage.unread then s.nt else f.readAt)).clock = s.clock := fun f s => by
    split
    · rfl
    · exact State.clock_completeTx ..
  have shown : ∀ (f : Frame) (s : State), (match f.dest.egressPort with
      | some p => s.updEgress p
      | none => s).clock = s.clock := fun f s => by
    split
    · exact State.clock_updEgress ..
    · rfl
  unfold State.endFrame
  split
  · rfl
  · rename_i f _
    refine (shown f _).trans ((completed f _).trans ((State.clock_bobbinUnsent f code _).trans ?_))
    refine (State.clock_forEach (fun _ s => ?_) _ _).trans (popped f (s.dropFrame id))
    rfl

theorem State.clock_poisonFrame (id : Nat) (s : State) : (s.poisonFrame id).clock = s.clock := by
  unfold State.poisonFrame
  split
  · rfl
  · split
    · exact State.clock_modFrame ..
    · exact State.clock_endFrame ..

theorem State.clock_loomEcc (e : EccFind) (s : State) : (s.loomEcc e).clock = s.clock := by
  unfold State.loomEcc
  split
  · exact State.clock_raiseD ..
  · exact (State.clock_poisonFrame _ _).trans (State.clock_raiseD ..)

/-! Events of the cycle, transmissions and measurements (17 R602, R608, R611; 09 R360; 05 R192; 02 R54; 16 R583) -/

theorem State.clock_flushRingFull (s : State) : s.flushRingFull.clock = s.clock := by
  refine State.clock_forEach (fun x s => ?_) _ s
  exact (State.clock_when (State.clock_event 0x0412 x.1 x.2.notRx) _ _).trans (State.clock_when (State.clock_event 0x0410 x.1 x.2.ended) _ s)

theorem State.clock_flushWraps (s : State) : s.flushWraps.clock = s.clock := by
  refine (State.clock_forEach (fun set s => ?_) s.wrapped s).trans rfl
  exact State.clock_event ..

theorem State.clock_sentUnits (p c bytes : Nat) (s : State) : (s.sentUnits p c bytes).clock = s.clock := by
  unfold State.sentUnits
  split <;> rfl

theorem State.clock_tickSending (d : Nat) (s : State) : (s.tickSending d).clock = s.clock := by
  refine State.clock_forEach (fun x s => ?_) _ s
  dsimp only
  split
  · rfl
  · exact (State.clock_sentUnits ..).trans (State.clock_modFrame ..)

theorem State.clock_eqAdapt (n eq : Nat) (s : State) : (s.eqAdapt n eq).clock = s.clock := by
  unfold State.eqAdapt State.eqShow
  dsimp only
  split
  · exact State.clock_when (State.clock_set _ _) _ _
  · exact State.clock_when (State.clock_wr _ _) _ s

theorem State.clock_laneCounts (m : CycleMeas) (s : State) : (s.laneCounts m).clock = s.clock := by
  unfold State.laneCounts
  refine (State.clock_forEach (fun x s => ?prbs) _ _).trans ((State.clock_forEach (fun x s => ?eqs) _ _).trans
    (State.clock_forEach (fun x s => ?lanes) _ s))
  case prbs =>
    split
    · rfl
    · exact State.clock_set ..
  case eqs => exact State.clock_eqAdapt ..
  case lanes =>
    refine State.clock_forEach (fun i s => ?_) _ s
    exact State.clock_count ..

theorem State.clock_dieRead (ts : List (Nat × Int)) (s : State) : (s.dieRead ts).clock = s.clock := State.clock_set ..

theorem State.clock_powerRead (m : CycleMeas) (s : State) : (s.powerRead m).clock = s.clock := by
  have supply : ∀ s : State, (match m.power with
      | some (v, p) => (s.set F.PWR_VIN_VIN_MV (satNat 17 v)).set F.PWR_PIN_PIN_DW (satNat 16 p)
      | none => s).clock = s.clock := fun s => by
    split
    · exact (State.clock_set ..).trans (State.clock_set ..)
    · rfl
  unfold State.powerRead
  dsimp only
  split
  · exact supply s
  · exact (State.clock_dieRead ..).trans (supply s)

theorem State.clock_perfAdd (lo hi w : Nat) (f : Fld) (n : Nat) (s : State) : (s.perfAdd lo hi w f n).clock = s.clock := by
  unfold State.perfAdd
  split
  · rfl
  · exact (State.clock_when (State.clock_set f 1) _ _).trans (State.clock_set2 lo hi w _ s)

theorem State.clock_corePerf (c cyc : Nat) (evs : List (Nat × Bool × Nat)) (s : State) : (s.corePerf c cyc evs).clock = s.clock := by
  unfold State.corePerf
  split
  · rfl
  · exact (State.clock_forEach (fun k s => State.clock_perfAdd ..) _ _).trans (State.clock_when (State.clock_perfAdd _ _ _ _ _) _ s)

theorem State.clock_logCount (c : Nat) (evs : List (Nat × Bool × Nat)) (s : State) : (s.logCount c evs).clock = s.clock := by
  unfold State.logCount
  dsimp only
  split <;> rfl

theorem State.clock_hedPerf (h : Nat) (evs : List (Nat × Nat)) (s : State) : (s.hedPerf h evs).clock = s.clock := by
  unfold State.hedPerf
  split
  · rfl
  · exact State.clock_forEach (fun k s => State.clock_perfAdd ..) _ s

theorem State.clock_perfCounts (steps : Nat) (m : CycleMeas) (s : State) : (s.perfCounts steps m).clock = s.clock := by
  unfold State.perfCounts
  refine (State.clock_forEach (fun h => State.clock_hedPerf h _) _ _).trans (State.clock_forEach (fun c s => ?_) _ s)
  dsimp only
  split
  · rfl
  · exact (State.clock_logCount ..).trans (State.clock_corePerf ..)

/-- The cycle that ends registers its doorbells and moves neither network time nor the counts of cycles. -/
theorem State.clock_endCycle (d steps : Nat) (m : CycleMeas) (s : State) :
    (s.endCycle d steps m).clock = ({ s with dbNow := [] } : State).clock := by
  have written : ({ s.endWrites with dbNow := [] } : State).clock = ({ s with dbNow := [] } : State).clock :=
    congrArg (fun c => (c.1, c.2.1, c.2.2.1, ([] : List (Nat × Nat × Word)))) (State.clock_endWrites s)
  unfold State.endCycle
  rw [State.clock_perfCounts, State.clock_powerRead, State.clock_laneCounts, State.clock_tickSending, State.clock_flushWraps,
    State.clock_flushRingFull, State.updHeld, State.setB, State.setB, State.clock_set, State.clock_set, State.clock_forEach State.clock_loomEcc,
    State.clock_bobbinFlush, State.clock_doorbells, written]

/-! ### Network time (01 R13, R16, R630) -/

theorem grid_pos : 0 < grid := by decide

theorem State.cycleLen_pos (s : State) : 0 < s.cycleLen := by
  unfold State.cycleLen
  split <;> decide

theorem State.lt_nextCycle (s : State) : s.nt < s.nextCycle := by
  unfold State.nextCycle nextGrid
  split
  · have := Nat.mod_lt (s.nt + s.cycleLen - s.safePhase % s.cycleLen) s.cycleLen_pos
    omega
  · rw [Nat.mul_comm]
    exact Nat.lt_mul_div_succ s.nt grid_pos

theorem State.span_held {s : State} (h : s.heldDomain 1 = true) (n : Nat) : s.span n = 0 := if_pos h

theorem State.span_succ {s : State} (h : s.heldDomain 1 = false) (n : Nat) : s.span (n + 1) = s.nextCycle - s.nt + n * s.cycleLen := by
  have := s.lt_nextCycle
  simp only [State.span, h, Bool.false_eq_true, if_false, Nat.add_sub_cancel]
  omega

/-- Where the next pick cycles begin. -/
theorem State.nt_add_span {s : State} (h : s.heldDomain 1 = false) (n : Nat) : s.nt + s.span (n + 1) = s.nextCycle + n * s.cycleLen := by
  have := s.lt_nextCycle
  rw [State.span_succ h]
  omega

theorem State.cycleLen_grid {s : State} (h : s.on F.SYN_STATUS_SAFE0 = false) : s.cycleLen = grid := if_neg (by simp [h])

theorem State.nextCycle_grid {s : State} (h : s.on F.SYN_STATUS_SAFE0 = false) : s.nextCycle = (s.nt / grid + 1) * grid := if_neg (by simp [h])

theorem State.cycleLen_safe {s : State} (h : s.on F.SYN_STATUS_SAFE0 = true) : s.cycleLen = 2 * grid := if_pos h

/-- On the safe clock the next cycle begins where the clock's phase has it. -/
theorem State.nextCycle_safe {s : State} (h : s.on F.SYN_STATUS_SAFE0 = true) :
    s.nextCycle % (2 * grid) = s.safePhase % (2 * grid) ∧ s.nextCycle ≤ s.nt + 2 * grid := by
  have e : s.nextCycle = s.nt + (2 * grid - (s.nt + 2 * grid - s.safePhase % (2 * grid)) % (2 * grid)) := by
    unfold State.nextCycle
    rw [if_pos h, State.cycleLen_safe h]
  have hp : s.safePhase % (2 * grid) < 2 * grid := Nat.mod_lt _ (by decide)
  have hr : (s.nt + 2 * grid - s.safePhase % (2 * grid)) % (2 * grid) < 2 * grid := Nat.mod_lt _ (by decide)
  have hq := Nat.div_add_mod (s.nt + 2 * grid - s.safePhase % (2 * grid)) (2 * grid)
  have next : s.nextCycle = s.safePhase % (2 * grid) + 2 * grid * ((s.nt + 2 * grid - s.safePhase % (2 * grid)) / (2 * grid)) := by omega
  refine ⟨?_, by omega⟩
  rw [next, Nat.add_mul_mod_self_left, Nat.mod_mod]

theorem grid_dvd_ntSpan : grid ∣ ntSpan := by decide

/-- On the grid, cycles begin at its instants. -/
theorem State.span_on_grid {s : State} (h : s.heldDomain 1 = false) (hs : s.on F.SYN_STATUS_SAFE0 = false) (n : Nat) :
    (s.nt + s.span (n + 1)) % ntSpan % grid = 0 := by
  rw [Nat.mod_mod_of_dvd _ grid_dvd_ntSpan, State.nt_add_span h, State.nextCycle_grid hs, State.cycleLen_grid hs, ← Nat.add_mul,
    Nat.mul_mod_left]

/-- A timer that runs advances with network time. -/
theorem State.timer_pass (dt : Nat) (s : State) (tm : Timer) : (s.pass dt).timer tm = (s.timer tm).map (fun e => e + dt) := by
  show (((s.timers.map (fun p => (p.1, p.2 + dt))).find? (fun p => decide (p.1 = tm))).map (·.2)) = _
  rw [List.find?_map, Option.map_map, State.timer, Option.map_map]
  rfl

/-- The state that the boundary's evaluations take. -/
def State.nextCycleOf (n : Nat) (m : CycleMeas) (s : State) : State :=
  ((s.endCycle (s.span n) (s.steps n) m).pass (s.span n)).beginCycle n

theorem exec_pickCycleBoundary_on {s : State} (h : s.supply = .on) (n : Nat) (m : CycleMeas) :
    exec (.pickCycleBoundary n m) s = .next ((s.nextCycleOf (max 1 n) m).evaluate (max 1 n)) := if_pos h

/-- Network time and the counts as a pick cycle begins. -/
theorem State.nextCycleOf_clock (n : Nat) (m : CycleMeas) (s : State) :
    (s.nextCycleOf n m).clock = ((s.nt + s.span n) % ntSpan, s.cycles + n, (s.batch + n) % 2 ^ 64, []) :=
  congrArg (fun c => ((c.1 + s.span n) % ntSpan, c.2.1 + n, (c.2.2.1 + n) % 2 ^ 64, c.2.2.2)) (State.clock_endCycle (s.span n) (s.steps n) m s)

/-- Settles O43: what the cycle's end leaves of the clock by `State.clock_endCycle`, and the next cycle's begin by `State.nt_add_span`. -/
theorem pickCyclesCarryTimeAndTimers : Obligations.PickCyclesCarryTimeAndTimers := by
  intro s n dt m tm
  refine ⟨fun hoff => if_neg hoff, fun hon => ?on, State.timer_pass dt s tm, fun hrun hgrid hat => ?oneCycle, fun hrun hsafe => ?safe, ?cycles⟩
  case on =>
    obtain ⟨k, hk⟩ : ∃ k, max 1 n = k + 1 := ⟨max 1 n - 1, by omega⟩
    have clock := State.nextCycleOf_clock (max 1 n) m s
    simp only [State.clock, Prod.mk.injEq] at clock
    obtain ⟨hnt, hcycles, hbatch, hdb⟩ := clock
    refine ⟨s.nextCycleOf (max 1 n) m, exec_pickCycleBoundary_on hon n m, hnt, hcycles, hbatch, rfl, rfl, rfl, rfl, hdb, rfl, rfl, rfl, rfl,
      fun hrun hgrid => ?_, fun hheld hlt => ?_⟩
    · rw [hnt, hk, State.span_on_grid hrun hgrid]
    · rw [hnt, State.span_held hheld, Nat.add_zero, Nat.mod_eq_of_lt hlt]
  case oneCycle =>
    have start : s.nt / grid * grid = s.nt := Nat.div_mul_cancel (Nat.dvd_of_mod_eq_zero hat)
    have next := State.nt_add_span hrun 0
    rw [State.nextCycle_grid hgrid, Nat.add_mul, start, Nat.one_mul, Nat.zero_mul, Nat.zero_add] at next
    omega
  case safe =>
    have next := State.nt_add_span hrun 0
    rw [Nat.zero_mul, Nat.zero_add, Nat.add_zero] at next
    obtain ⟨phase, near⟩ := State.nextCycle_safe hsafe
    have := s.lt_nextCycle
    rw [next]
    exact ⟨phase, by omega, by omega⟩
  case cycles =>
    cases h : s.heldDomain 1
    · have one : s.span 1 = s.nextCycle - s.nt := by simpa using State.span_succ h 0
      rw [if_neg (by decide), State.span_succ h, one]
    · rw [if_pos rfl, State.span_held h]

end Sys2Proof.Machine
end

section
/-! VIO and the test access port (02 R47, R48, R77). -/

namespace Sys2Proof.Machine

open Sys2Proof

/-! ### VIO -/

theorem exec_vioRise_absent {s : State} (h : s.vio = .absent) (mv : Nat) :
    exec (.vioRise mv) s = if 1710 ≤ mv ∧ mv ≤ 1890 then .next { s with vio := .v1p8 }
      else if 3135 ≤ mv ∧ mv ≤ 3465 then .next { s with vio := .v3p3 } else .next s :=
  if_neg (not_not_intro h)

/-! ### Shifting -/

/-- A register as long as what is shifted in leaves whole. -/
theorem shiftOut_full {cap tdi : List Bool} (h : cap.length = tdi.length) : shiftOut cap tdi = cap := by
  rw [shiftOut, ← h, List.take_left]

/-- A register as long as what is shifted in holds what was shifted in. -/
theorem shiftIn_full {cap tdi : List Bool} (h : cap.length = tdi.length) : shiftIn cap tdi = tdi := by
  rw [shiftIn, ← h, List.drop_left]

theorem length_cells (l : List Bool) : (cells l).length = 42 := by simp [cells, boundaryCells]

/-- Cells given in full are captured as given. -/
theorem cells_full {l : List Bool} (h : l.length = 42) : cells l = l := by
  refine List.ext_getElem ((length_cells l).trans h.symm) (fun i _ hi => ?_)
  simp [cells, List.getD_eq_getElem?_getD, hi]

theorem length_idcodeBits : idcodeBits.length = 32 := rfl

/-! ### The instructions of the port -/

theorem State.tapBypass_live {s : State} (h : s.tapLive = true) (i : TapInstr) (driven tdi : List Bool) :
    s.tapBypass i driven tdi = { s with tap := { s.tap with instr := i, driven := driven, tdo := (false :: tdi).take tdi.length } } := if_pos h

theorem State.tapBypass_dead {s : State} (h : s.tapLive = false) (i : TapInstr) (driven tdi : List Bool) : s.tapBypass i driven tdi = s :=
  if_neg (by simp [h])

theorem exec_jtagIdcode_live {s : State} (h : s.tapLive = true) {tdi : List Bool} (hl : tdi.length = 32) :
    exec (.jtagIdcode tdi) s = .next { s with tap := { s.tap with instr := .idcode, driven := [], tdo := idcodeBits } } := by
  rw [← shiftOut_full (length_idcodeBits.trans hl.symm)]
  exact if_pos h

theorem exec_jtagSamplePreload_live {s : State} (h : s.tapLive = true) {lands tdi : List Bool} (ht : tdi.length = 42) (hl : lands.length = 42) :
    exec (.jtagSamplePreload lands tdi) s =
      .next { s with tap := { instr := .samplePreload, boundary := tdi, driven := [], tdo := lands } } := by
  have full : (cells lands).length = tdi.length := (length_cells lands).trans ht.symm
  refine (if_pos h).trans ?_
  rw [shiftIn_full full, shiftOut_full full, cells_full hl]

theorem exec_jtagExtest_live {s : State} (h : s.tapLive = true) {lands tdi : List Bool} (ht : tdi.length = 42) (hl : lands.length = 42) :
    exec (.jtagExtest lands tdi) s = .next { s with tap := { instr := .extest, boundary := tdi, driven := tdi, tdo := lands } } := by
  have full : (cells lands).length = tdi.length := (length_cells lands).trans ht.symm
  refine (if_pos h).trans ?_
  rw [shiftIn_full full, shiftOut_full full, cells_full hl]

/-- Under EXTEST a land with a cell shows what its cell drives. -/
theorem State.land_extest {s : State} {l : Land} {i : Nat} (hc : l.cell = some i) (h : s.tapLive = true) (ht : s.tap.instr = .extest) :
    s.land l = .scan (s.tap.driven.getD i false) := by
  unfold State.land
  rw [hc, h, ht]

/-- With the port not live an instruction changes nothing. -/
theorem exec_jtag_dead {s : State} (h : s.tapLive = false) (lands tdi : List Bool) :
    ∀ c ∈ [Instr.jtagBypass tdi, .jtagIdcode tdi, .jtagSamplePreload lands tdi, .jtagExtest lands tdi, .jtagClamp tdi, .jtagHighz tdi],
      exec c s = .next s := by
  have dead : ¬s.tapLive = true := by simp [h]
  simp only [List.forall_mem_cons, List.not_mem_nil, false_implies, implies_true, and_true]
  exact ⟨congrArg _ (State.tapBypass_dead h ..), if_neg dead, if_neg dead, if_neg dead, congrArg _ (State.tapBypass_dead h ..),
    congrArg _ (State.tapBypass_dead h ..)⟩

/-- Settles O9: each row by the branch that its cause takes; a register shifted by its own length leaves whole. -/
theorem vioAndTestAccessPort : Obligations.VioAndTestAccessPort := by
  intro s mv lands tdi
  refine ⟨?low, ?high, fun present => if_pos present, rfl, fun live => ⟨?bypass, ?idcode, ?sample, ?extest, ?clamp, ?highz⟩,
    fun dead => exec_jtag_dead dead lands tdi, rfl⟩
  case low =>
    intro absent h1 h2
    rw [exec_vioRise_absent absent, if_pos ⟨h1, h2⟩]
  case high =>
    intro absent h1 h2
    rw [exec_vioRise_absent absent, if_neg (by omega), if_pos ⟨h1, h2⟩]
  case bypass => exact congrArg _ (State.tapBypass_live live ..)
  case idcode => exact fun hl => ⟨_, exec_jtagIdcode_live live hl, rfl, rfl, rfl, rfl⟩
  case sample => exact exec_jtagSamplePreload_live live
  case extest => exact fun ht hl => ⟨_, rfl, exec_jtagExtest_live live ht hl, fun _ _ => State.land_extest rfl live rfl⟩
  case clamp => exact congrArg _ (State.tapBypass_live live ..)
  case highz => exact congrArg _ (State.tapBypass_live live ..)

end Sys2Proof.Machine
end

section
/-! The warnings of the supply and of temperature (02 R41 to R43, R54). -/

namespace Sys2Proof.Machine

open Sys2Proof

theorem State.warnVin_shown {s : State} (h : s.on F.PWR_STATUS_PWR_WARN = true) : s.warnVin = s := if_pos h

theorem State.warnVin_new {s : State} (h : s.on F.PWR_STATUS_PWR_WARN = false) : s.warnVin = (s.set F.PWR_STATUS_PWR_WARN 1).raise .pwr 0 0 :=
  if_neg (by simp [h])

theorem State.dieAtLeast_iff {s : State} {c : Nat} : s.dieAtLeast c = true ↔ ∃ x ∈ s.dieTemp, 8 * (c : Int) ≤ x.2 := by
  simp [State.dieAtLeast]

theorem State.dieAtLeast_eq_false_iff {s : State} {c : Nat} : s.dieAtLeast c = false ↔ ∀ x ∈ s.dieTemp, x.2 < 8 * (c : Int) := by
  simp [State.dieAtLeast]

theorem State.oeHot_iff {s : State} : s.oeHot = true ↔ ∃ k < 32, 8 * (s.oeWarnC : Int) ≤ s.getI (F.OE_TEMP_OTS k) := by
  simp [State.oeHot]

theorem State.oeHot_eq_false_iff {s : State} : s.oeHot = false ↔ ∀ k < 32, s.getI (F.OE_TEMP_OTS k) < 8 * (s.oeWarnC : Int) := by
  simp [State.oeHot]

/-- Settles O7: PWR_WARN by `State.warnVin`, and the thermal warnings by whether a sensor is at or above its threshold. -/
theorem supplyAndThermalWarnings : Obligations.SupplyAndThermalWarnings := by
  intro s
  refine ⟨?assert, ?stands, rfl, fun on => if_pos on, ?dieRise, ?dieStays, ?dieFall, ?oeRise, ?oeStays, ?oeFall⟩
  case assert =>
    intro supplied clear
    show Host.Outcome.next (s.when s.supplied State.warnVin) = _
    rw [supplied, State.when_true, State.warnVin_new clear]
  case stands =>
    intro h
    show Host.Outcome.next (s.when s.supplied State.warnVin) = _
    cases hs : s.supplied
    · rfl
    · rw [State.when_true, State.warnVin_shown (h.resolve_left (by simp [hs]))]
  case dieRise => exact fun supplied hot clear => if_pos ⟨supplied, State.dieAtLeast_iff.2 hot, by simp [clear]⟩
  case dieStays => exact fun hot => if_pos (State.dieAtLeast_iff.2 hot)
  case dieFall => exact fun cool => if_neg (by simp [State.dieHot, State.dieAtLeast_eq_false_iff.2 cool])
  case oeRise => exact fun supplied hot clear => if_pos ⟨supplied, State.oeHot_iff.2 hot, by simp [clear]⟩
  case oeStays => exact fun hot => if_pos (State.oeHot_iff.2 hot)
  case oeFall => exact fun cool => if_neg (by simp [State.oeHot_eq_false_iff.2 cool])

end Sys2Proof.Machine
end

section
/-! Laws that several parts of the module share: fields of one register, timers, what telling the host leaves, and views of the state that a
series of updates leaves alone. -/

namespace Sys2Proof.Machine

open Sys2Proof

/-! ### Fields -/

theorem State.on_set_ne {f g : Fld} (ha : g.addr = f.addr) (h : g.lsb + g.w ≤ f.lsb ∨ f.lsb + f.w ≤ g.lsb) (hg : g.lsb + g.w ≤ 32)
    (v : Nat) (s : State) : (s.set f v).on g = s.on g := by
  rw [State.on_eq_get, State.get_set_ne ha h hg, State.on_eq_get]

theorem State.on_setB_self {f : Fld} (h : f.lsb + f.w ≤ 32) (hw : 0 < f.w) (b : Bool) (s : State) : (s.setB f b).on f = b := by
  rw [State.on_eq_get, State.get_setB_self h hw]
  cases b <;> rfl

/-! ### Timers (01 R18) -/

theorem State.timer_stop_self (tm : Timer) (s : State) : (s.stop tm).timer tm = none := by
  simp [State.timer, State.stop, List.find?_filter]

theorem State.timer_stop_ne {tm x : Timer} (h : x ≠ tm) (s : State) : (s.stop tm).timer x = s.timer x := by
  unfold State.timer State.stop
  rw [List.find?_filter]
  refine congrArg _ (congrArg (List.find? · s.timers) (funext fun p => ?_))
  by_cases hp : p.1 = x
  · simp [hp, h]
  · simp [hp]

theorem State.timer_start_self (tm : Timer) (s : State) : (s.start tm).timer tm = some 0 := by
  have stopped : (s.stop tm).timers.find? (fun p => p.1 = tm) = none := Option.map_eq_none_iff.1 (State.timer_stop_self tm s)
  show Option.map Prod.snd (((s.stop tm).timers ++ [(tm, 0)]).find? (fun p : Timer × Nat => p.1 = tm)) = some 0
  rw [List.find?_append, stopped]
  simp

theorem State.timer_start_ne {tm x : Timer} (h : x ≠ tm) (s : State) : (s.start tm).timer x = s.timer x := by
  rw [← State.timer_stop_ne h s]
  show Option.map Prod.snd (((s.stop tm).timers ++ [(tm, 0)]).find? (fun p : Timer × Nat => p.1 = x)) = _
  simp [State.timer, List.find?_append, Ne.symm h]

theorem State.timer_startOnce_ne {tm x : Timer} (h : x ≠ tm) (s : State) : (s.startOnce tm).timer x = s.timer x := by
  unfold State.startOnce
  split
  · rfl
  · exact State.timer_start_ne h s

@[simp] theorem State.rd_stop (tm : Timer) (s : State) (a : Nat) : (s.stop tm).rd a = s.rd a := rfl
@[simp] theorem State.rd_start (tm : Timer) (s : State) (a : Nat) : (s.start tm).rd a = s.rd a := rfl

@[simp] theorem State.rd_startOnce (tm : Timer) (s : State) (a : Nat) : (s.startOnce tm).rd a = s.rd a := by
  unfold State.startOnce
  split <;> rfl

/-! ### What telling the host leaves -/

/-- Where the registers lie that telling the host changes: in the HIF and OBS blocks. -/
theorem ToldAt.place {a : Nat} (h : ToldAt a) : 0x40000 ≤ a ∧ a < 0x49010 ∨ 0xB00000 ≤ a ∧ a < 0xB0000C := by
  rcases h with rfl | rfl | rfl | rfl | rfl | rfl | rfl <;> decide

theorem Told.supply {s t : State} (h : Told s t) : t.supply = s.supply := by
  have e := congrArg State.supply h.2
  exact e

theorem Told.timers {s t : State} (h : Told s t) : t.timers = s.timers := by
  have e := congrArg State.timers h.2
  exact e

theorem Told.accepted {s t : State} (h : Told s t) : t.accepted = s.accepted := by
  have e := congrArg State.accepted h.2
  exact e

theorem Told.timer {s t : State} (h : Told s t) (tm : Timer) : t.timer tm = s.timer tm := by
  unfold State.timer
  rw [h.timers]

theorem State.rd_event {a : Nat} (h : ¬ToldAt a) (code src detail : Nat) (s : State) : (s.event code src detail).rd a = s.rd a :=
  (State.event_told code src detail s).1 a h

/-! ### Views -/

/-- A view of the state that an operation leaves alone, where the operation is made. -/
theorem State.view_when {β : Type} {v : State → β} {f : State → State} {s : State} (h : v (f s) = v s) (b : Bool) : v (s.when b f) = v s := by
  cases b
  · rfl
  · exact h

/-- A view of the state that the operation of each element leaves alone. -/
theorem State.view_forEach {α β : Type} {v : State → β} {l : List α} {f : α → State → State} (h : ∀ x ∈ l, ∀ s, v (f x s) = v s) (s : State) :
    v (s.forEach l f) = v s := by
  induction l generalizing s with
  | nil => rfl
  | cons x l ih => rw [State.forEach_cons, ih (fun y hy => h y (List.mem_cons_of_mem _ hy)), h x (List.mem_cons_self ..)]

end Sys2Proof.Machine
end

section
/-! By-pass pairs (02 R55 to R60). -/

namespace Sys2Proof.Machine

open Sys2Proof

/-! ### The registers of the pairs -/

theorem not_toldAt_bpStatus : ¬ToldAt R.PWR_BP_STATUS := fun h => by
  have := h.place
  unfold R.PWR_BP_STATUS at this
  omega

theorem State.on_set_bpBit_ne {a i j m n : Nat} (h : i + m ≠ j + n) (hi : i + m < 32) (v : Nat) (s : State) :
    (s.set (bpBit a j n) v).on (bpBit a i m) = s.on (bpBit a i m) :=
  State.on_set_ne (f := bpBit a j n) (g := bpBit a i m) rfl (show i + m + 1 ≤ j + n ∨ j + n + 1 ≤ i + m by omega) hi v s

theorem State.on_setB_bpBit {a i n : Nat} (hi : i + n < 32) (b : Bool) (s : State) : (s.setB (bpBit a i n) b).on (bpBit a i n) = b :=
  State.on_setB_self (f := bpBit a i n) hi Nat.one_pos b s

/-! ### Whether a wave is driven (02 R57) -/

theorem State.leadOf_congr {s t : State} {n : Nat} (hn : n < 256) (h : t.rd (R.OE_CFG (n / 8)) = s.rd (R.OE_CFG (n / 8))) :
    t.leadOf n = s.leadOf n := by simp only [State.leadOf, hn, if_true, h]

/-- A map's validity rests on its word and on the engines' modes. -/
theorem State.bpMapOk_congr {s t : State} {n : Nat} (hmap : t.rd (R.PWR_BP_MAP0 + 4 * n) = s.rd (R.PWR_BP_MAP0 + 4 * n))
    (hmode : ∀ k < 32, t.rd (R.OE_CFG k) = s.rd (R.OE_CFG k)) : t.bpMapOk n = s.bpMapOk n := by
  have ports : t.bpPorts n = s.bpPorts n := by
    simp only [State.bpPorts]
    rw [State.get_addr (f := ⟨R.PWR_BP_MAP0 + 4 * n, 0, 9⟩) hmap, State.get_addr (f := ⟨R.PWR_BP_MAP0 + 4 * n, 16, 9⟩) hmap]
  have lead : ∀ p, decide (p < 256) = true → t.leadOf p = s.leadOf p := fun p hp =>
    State.leadOf_congr (of_decide_eq_true hp) (hmode _ (by have := of_decide_eq_true hp; omega))
  unfold State.bpMapOk
  rw [ports]
  obtain ⟨a, b⟩ := s.bpPorts n
  cases ha : decide (a < 256)
  · simp [ha]
  · cases hb : decide (b < 256)
    · simp [hb]
    · simp only [lead a ha, lead b hb]

/-- Where the supply, the registers outside the host's and DROPPED are as they were, so is whether the pair's wave is driven. -/
theorem State.bpDriven_congr {s t : State} {n : Nat} (hn : n < 4) (hs : t.supply = s.supply)
    (hr : ∀ a, a ≠ R.PWR_BP_STATUS → ¬ToldAt a → t.rd a = s.rd a)
    (hd : t.on (bpBit R.PWR_BP_STATUS 4 n) = s.on (bpBit R.PWR_BP_STATUS 4 n)) : t.bpDriven n = s.bpDriven n := by
  have away : ∀ a, a < 0x40000 ∨ 0x49010 ≤ a ∧ a < 0xB00000 ∨ 0xC00028 ≤ a ∨ a = R.PWR_BP_CTRL → t.rd a = s.rd a := fun a ha => by
    unfold R.PWR_BP_CTRL at ha
    refine hr a (by unfold R.PWR_BP_STATUS; omega) (fun h => ?_)
    have := h.place
    omega
  have run : t.run = s.run := State.on_addr (f := F.SYS_CTRL_RUN) (away _ (.inl (by decide)))
  have keep : t.on (bpBit R.PWR_BP_CTRL 0 n) = s.on (bpBit R.PWR_BP_CTRL 0 n) := State.on_addr (away _ (.inr (.inr (.inr rfl))))
  have map : t.bpMapOk n = s.bpMapOk n :=
    State.bpMapOk_congr (away _ (.inr (.inr (.inl (by unfold R.PWR_BP_MAP0; omega)))))
      (fun k hk => away _ (.inr (.inl (by unfold R.OE_CFG; omega))))
  simp only [State.bpDriven, hs, run, keep, map, hd]

theorem State.bpDriven_dropped {s : State} {n : Nat} (h : s.on (bpBit R.PWR_BP_STATUS 4 n) = true) : s.bpDriven n = false := by
  simp [State.bpDriven, h]

/-! ### One pair's wave follows (02 R57 to R59) -/

/-- MAP_ERROR of pair `n` shown, and reported where it is new. -/
def State.mapShown (n : Nat) (s : State) : State :=
  let bad := s.on (bpBit R.PWR_BP_CTRL 0 n) && !s.bpMapOk n
  (s.setB (bpBit R.PWR_BP_STATUS 8 n) bad).when (bad && !s.on (bpBit R.PWR_BP_STATUS 8 n))
    (fun s => s.event 0x0110 n (s.rd R.PWR_BP_STATUS).toNat)

/-- The hold timer of pair `n` runs while its wave is driven without link and AUTO_DROP is set. -/
def State.holdFollows (n : Nat) (drive : Bool) (s : State) : State :=
  if drive && s.on (bpBit R.PWR_BP_CTRL 4 n) && s.bpNoLink n then s.startOnce (.bpHold n) else s.stop (.bpHold n)

theorem State.updPair_eq (n : Nat) (s : State) :
    s.updPair n = ((s.mapShown n).setB (bpBit R.PWR_BP_STATUS 0 n) ((s.mapShown n).bpDriven n)).holdFollows n ((s.mapShown n).bpDriven n) := rfl

theorem State.mapShown_told (n : Nat) (s : State) :
    Told (s.setB (bpBit R.PWR_BP_STATUS 8 n) (s.on (bpBit R.PWR_BP_CTRL 0 n) && !s.bpMapOk n)) (s.mapShown n) := by
  unfold State.mapShown
  dsimp only
  cases (s.on (bpBit R.PWR_BP_CTRL 0 n) && !s.bpMapOk n) && !s.on (bpBit R.PWR_BP_STATUS 8 n)
  · exact told_refl _
  · exact State.event_told ..

theorem State.rd_mapShown_ne {a : Nat} (h : a ≠ R.PWR_BP_STATUS) (ht : ¬ToldAt a) (n : Nat) (s : State) : (s.mapShown n).rd a = s.rd a :=
  ((State.mapShown_told n s).1 a ht).trans (State.rd_set_ne (f := bpBit R.PWR_BP_STATUS 8 n) h _ s)

theorem State.on_mapShown {i m n : Nat} (h : i + m ≠ 8 + n) (hi : i + m < 32) (s : State) :
    (s.mapShown n).on (bpBit R.PWR_BP_STATUS i m) = s.on (bpBit R.PWR_BP_STATUS i m) :=
  (State.on_addr ((State.mapShown_told n s).1 _ not_toldAt_bpStatus)).trans (State.on_set_bpBit_ne h hi _ s)

theorem State.bpDriven_mapShown {m n : Nat} (hm : m < 4) (s : State) : (s.mapShown n).bpDriven m = s.bpDriven m :=
  State.bpDriven_congr hm (State.mapShown_told n s).supply (fun _ h ht => State.rd_mapShown_ne h ht n s)
    (State.on_mapShown (by omega) (by omega) s)

@[simp] theorem State.rd_holdFollows (n : Nat) (drive : Bool) (s : State) (a : Nat) : (s.holdFollows n drive).rd a = s.rd a := by
  unfold State.holdFollows
  split
  · exact State.rd_startOnce ..
  · rfl

theorem State.holdFollows_supply (n : Nat) (drive : Bool) (s : State) : (s.holdFollows n drive).supply = s.supply := by
  unfold State.holdFollows State.startOnce
  split
  · split <;> rfl
  · rfl

theorem State.rd_updPair_ne {a : Nat} (h : a ≠ R.PWR_BP_STATUS) (ht : ¬ToldAt a) (n : Nat) (s : State) : (s.updPair n).rd a = s.rd a := by
  rw [State.updPair_eq, State.rd_holdFollows]
  exact (State.rd_set_ne (f := bpBit R.PWR_BP_STATUS 0 n) h _ _).trans (State.rd_mapShown_ne h ht n s)

theorem State.updPair_supply (n : Nat) (s : State) : (s.updPair n).supply = s.supply :=
  (State.holdFollows_supply ..).trans (State.mapShown_told n s).supply

/-- A pair's wave is shown as it is driven. -/
theorem State.active_updPair_self {n : Nat} (h : n < 4) (s : State) : (s.updPair n).on (bpBit R.PWR_BP_STATUS 0 n) = s.bpDriven n := by
  rw [State.updPair_eq, State.on_addr (State.rd_holdFollows ..), State.on_setB_bpBit (by omega), State.bpDriven_mapShown h]

theorem State.active_updPair_ne {m n : Nat} (hn : n < 4) (hm : m < 4) (h : m ≠ n) (s : State) :
    (s.updPair n).on (bpBit R.PWR_BP_STATUS 0 m) = s.on (bpBit R.PWR_BP_STATUS 0 m) := by
  rw [State.updPair_eq, State.on_addr (State.rd_holdFollows ..)]
  exact (State.on_set_bpBit_ne (by omega) (by omega) _ _).trans (State.on_mapShown (by omega) (by omega) s)

theorem State.dropped_updPair {m n : Nat} (hn : n < 4) (hm : m < 4) (s : State) :
    (s.updPair n).on (bpBit R.PWR_BP_STATUS 4 m) = s.on (bpBit R.PWR_BP_STATUS 4 m) := by
  rw [State.updPair_eq, State.on_addr (State.rd_holdFollows ..)]
  exact (State.on_set_bpBit_ne (by omega) (by omega) _ _).trans (State.on_mapShown (by omega) (by omega) s)

theorem State.bpDriven_updPair {m n : Nat} (hn : n < 4) (hm : m < 4) (s : State) : (s.updPair n).bpDriven m = s.bpDriven m :=
  State.bpDriven_congr hm (State.updPair_supply n s) (fun _ h ht => State.rd_updPair_ne h ht n s) (State.dropped_updPair hn hm s)

/-! ### Every pair -/

theorem State.dropped_updKeep {n : Nat} (h : n < 4) (s : State) : s.updKeep.on (bpBit R.PWR_BP_STATUS 4 n) = s.on (bpBit R.PWR_BP_STATUS 4 n) :=
  State.view_forEach (v := fun s => s.on (bpBit R.PWR_BP_STATUS 4 n)) (fun _ hm => State.dropped_updPair (List.mem_range.1 hm) h) s

theorem State.active_forEach_updPair {l : List Nat} (hl : ∀ m ∈ l, m < 4) {n : Nat} (hn : n ∈ l) (s : State) :
    (s.forEach l State.updPair).on (bpBit R.PWR_BP_STATUS 0 n) = s.bpDriven n := by
  have h4 : n < 4 := hl n hn
  induction l generalizing s with
  | nil => cases hn
  | cons m l ih =>
    have hm : m < 4 := hl m (List.mem_cons_self ..)
    have hl' : ∀ x ∈ l, x < 4 := fun x hx => hl x (List.mem_cons_of_mem _ hx)
    rw [State.forEach_cons]
    by_cases h : n ∈ l
    · rw [ih hl' h, State.bpDriven_updPair hm h4]
    · obtain rfl : n = m := (List.mem_cons.1 hn).resolve_right h
      rw [State.view_forEach (v := fun s => s.on (bpBit R.PWR_BP_STATUS 0 n))
        (fun x hx => State.active_updPair_ne (hl' x hx) h4 (fun e => h (e ▸ hx))), State.active_updPair_self h4]

/-- Each pair's wave is shown as it is driven. -/
theorem State.active_updKeep {n : Nat} (h : n < 4) (s : State) : s.updKeep.on (bpBit R.PWR_BP_STATUS 0 n) = s.bpDriven n :=
  State.active_forEach_updPair (fun _ => List.mem_range.1) (List.mem_range.2 h) s

/-! ### BYPASS_SET (02 R55, R60) -/

/-- What BYPASS_SET PAIR writes to pair `n`: its map, KEEP_EN and AUTO_DROP, MAP_ERROR clear. -/
def State.pairSet (d : Submission) (n : Nat) (s : State) : State :=
  let s := (s.wr (R.PWR_BP_MAP0 + 4 * n) (BitVec.ofNat 32 (d.le 8 4))).setB (bpBit R.PWR_BP_CTRL 0 n) (bit (d.b 12) 0)
  (s.setB (bpBit R.PWR_BP_CTRL 4 n) (bit (d.b 12) 1)).set (bpBit R.PWR_BP_STATUS 8 n) 0

/-- A pair enabled begins afresh: not dropped, its hold timer stopped. -/
def State.pairFresh (n : Nat) (s : State) : State := (s.set (bpBit R.PWR_BP_STATUS 4 n) 0).stop (.bpHold n)

theorem exec_bypassSetPair {d : Submission} {s : State} (h : Ready specBypassPair d s) :
    exec (.bypassSetPair d) s = .next ((cmdOf 0x44 d s).ended rOk 0 0
      (((s.fetched d).pairSet d (d.P0 0 2)).when (bit (d.b 12) 0) (State.pairFresh (d.P0 0 2))).updKeep) :=
  congrArg Host.Outcome.next (CmdSpec.take_ends h (by decide) (by decide) rfl rfl)

theorem exec_bypassSetHold {d : Submission} {s : State} (h : Ready specBypassHold d s) :
    exec (.bypassSetHold d) s = .next ((cmdOf 0x44 d s).ended rOk 0 0 ((s.fetched d).wr R.PWR_BP_HOLD (BitVec.ofNat 32 (d.le 8 4)))) :=
  congrArg Host.Outcome.next (CmdSpec.take_ends h (by decide) (by decide) rfl rfl)

/-- The registers of pair `n`. -/
def pairRegs (n : Nat) : List Nat := [R.PWR_BP_MAP0 + 4 * n, R.PWR_BP_CTRL, R.PWR_BP_STATUS]

theorem sameBut_pairSet (d : Submission) (n : Nat) (s : State) : SameBut (pairRegs n) s (s.pairSet d n) :=
  sameBut_trans (sameBut_wr (a := R.PWR_BP_MAP0 + 4 * n) (by simp [pairRegs]) _ s)
    (sameBut_trans (sameBut_set (f := bpBit R.PWR_BP_CTRL 0 n) (by simp [pairRegs, bpBit]) _ _)
      (sameBut_trans (sameBut_set (f := bpBit R.PWR_BP_CTRL 4 n) (by simp [pairRegs, bpBit]) _ _)
        (sameBut_set (f := bpBit R.PWR_BP_STATUS 8 n) (by simp [pairRegs, bpBit]) _ _)))

theorem State.timers_pairSet (d : Submission) (n : Nat) (s : State) : (s.pairSet d n).timers = s.timers := by simp [State.pairSet]

/-- A pair that begins afresh differs in its registers and in the timers. -/
theorem sameBut_pairFresh {n : Nat} {s t : State} (h : SameBut (pairRegs n) s t) :
    SameBut (pairRegs n) { s with timers := (t.pairFresh n).timers } (t.pairFresh n) := by
  obtain ⟨h1, h2⟩ := h
  refine ⟨fun a ha => (State.rd_set_ne (f := bpBit R.PWR_BP_STATUS 4 n) ?_ 0 t).trans (h1 a ha), ?_⟩
  · rintro rfl
    exact ha (by simp [pairRegs, bpBit])
  · exact congrArg (fun u : State => { u with timers := (t.pairFresh n).timers }) h2

theorem rd_pairSet_map {n : Nat} (d : Submission) (s : State) :
    (s.pairSet d n).rd (R.PWR_BP_MAP0 + 4 * n) = BitVec.ofNat 32 (d.le 8 4) := by
  have hc : R.PWR_BP_MAP0 + 4 * n ≠ R.PWR_BP_CTRL := by unfold R.PWR_BP_MAP0 R.PWR_BP_CTRL; omega
  have hs : R.PWR_BP_MAP0 + 4 * n ≠ R.PWR_BP_STATUS := by unfold R.PWR_BP_MAP0 R.PWR_BP_STATUS; omega
  refine (State.rd_set_ne (f := bpBit R.PWR_BP_STATUS 8 n) hs _ _).trans ((State.rd_set_ne (f := bpBit R.PWR_BP_CTRL 4 n) hc _ _).trans ?_)
  exact (State.rd_set_ne (f := bpBit R.PWR_BP_CTRL 0 n) hc _ _).trans (State.rd_wr_self ..)

theorem State.on_pairSet_keep {n : Nat} (hn : n < 4) (d : Submission) (s : State) :
    (s.pairSet d n).on (bpBit R.PWR_BP_CTRL 0 n) = bit (d.b 12) 0 := by
  refine (State.on_set_addr (f := bpBit R.PWR_BP_STATUS 8 n) (by show R.PWR_BP_CTRL ≠ R.PWR_BP_STATUS; decide) _ _).trans ?_
  exact (State.on_set_bpBit_ne (by omega) (by omega) _ _).trans (State.on_setB_bpBit (by omega) _ _)

theorem State.on_pairSet_drop {n : Nat} (hn : n < 4) (d : Submission) (s : State) :
    (s.pairSet d n).on (bpBit R.PWR_BP_CTRL 4 n) = bit (d.b 12) 1 :=
  (State.on_set_addr (f := bpBit R.PWR_BP_STATUS 8 n) (by show R.PWR_BP_CTRL ≠ R.PWR_BP_STATUS; decide) _ _).trans
    (State.on_setB_bpBit (by omega) _ _)

theorem State.on_pairSet_mapError {n : Nat} (hn : n < 4) (d : Submission) (s : State) :
    (s.pairSet d n).on (bpBit R.PWR_BP_STATUS 8 n) = false := State.on_setB_bpBit (by omega) false _

/-- The other pairs' KEEP_EN and AUTO_DROP stay. -/
theorem State.on_pairSet_other {i m n : Nat} (hi : i = 0 ∨ i = 4) (hm : m < 4) (hn : n < 4) (h : m ≠ n) (d : Submission) (s : State) :
    (s.pairSet d n).on (bpBit R.PWR_BP_CTRL i m) = s.on (bpBit R.PWR_BP_CTRL i m) := by
  have hmap : (bpBit R.PWR_BP_CTRL i m).addr ≠ R.PWR_BP_MAP0 + 4 * n := by
    show R.PWR_BP_CTRL ≠ _
    unfold R.PWR_BP_MAP0 R.PWR_BP_CTRL
    omega
  refine (State.on_set_addr (f := bpBit R.PWR_BP_STATUS 8 n) (by show R.PWR_BP_CTRL ≠ R.PWR_BP_STATUS; decide) _ _).trans ?_
  refine (State.on_set_bpBit_ne (by omega) (by omega) _ _).trans ((State.on_set_bpBit_ne (by omega) (by omega) _ _).trans ?_)
  exact State.on_addr (State.rd_wr_ne hmap _ s)

/-- A pair that begins afresh keeps its map, its control bits and MAP_ERROR. -/
theorem State.rd_pairFresh_ne {a : Nat} (h : a ≠ R.PWR_BP_STATUS) (n : Nat) (s : State) : (s.pairFresh n).rd a = s.rd a :=
  State.rd_set_ne (f := bpBit R.PWR_BP_STATUS 4 n) h 0 s

theorem State.mapError_pairFresh {n : Nat} (hn : n < 4) (s : State) :
    (s.pairFresh n).on (bpBit R.PWR_BP_STATUS 8 n) = s.on (bpBit R.PWR_BP_STATUS 8 n) := State.on_set_bpBit_ne (by omega) (by omega) 0 s

theorem State.dropped_pairFresh {n : Nat} (hn : n < 4) (s : State) : (s.pairFresh n).on (bpBit R.PWR_BP_STATUS 4 n) = false :=
  State.on_setB_bpBit (by omega) false s

/-- Settles O46: the commands by the registers that they write, a drop by `State.active_updKeep`: a dropped pair's wave is not driven. -/
theorem bypassPairsHoldAndDrop : Obligations.BypassPairsHoldAndDrop := by
  intro s d n t
  refine ⟨?pair, ?hold, ?follows, ?expires, ?stays⟩
  case pair =>
    rintro h rfl
    have hn : d.P0 0 2 < 4 := Nat.mod_lt _ (by decide)
    have ctrl : ∀ i m v, ((v : State).pairFresh (d.P0 0 2)).on (bpBit R.PWR_BP_CTRL i m) = v.on (bpBit R.PWR_BP_CTRL i m) := fun i m v =>
      State.on_addr (State.rd_pairFresh_ne (by show R.PWR_BP_CTRL ≠ _; decide) _ v)
    have other : ∀ m < 4, m ≠ d.P0 0 2 →
        (t.pairSet d (d.P0 0 2)).on (bpBit R.PWR_BP_CTRL 0 m) = s.on (bpBit R.PWR_BP_CTRL 0 m) ∧
        (t.pairSet d (d.P0 0 2)).on (bpBit R.PWR_BP_CTRL 4 m) = s.on (bpBit R.PWR_BP_CTRL 4 m) := fun m hm hne =>
      ⟨(State.on_pairSet_other (.inl rfl) hm hn hne d t).trans (State.fetched_on ..),
        (State.on_pairSet_other (.inr rfl) hm hn hne d t).trans (State.fetched_on ..)⟩
    refine ⟨_, exec_bypassSetPair h, ?_⟩
    cases en : bit (d.b 12) 0
    · rw [State.when_false, State.timers_pairSet]
      exact ⟨sameBut_pairSet d _ t, rd_pairSet_map d t, (State.on_pairSet_keep hn d t).trans en, State.on_pairSet_drop hn d t,
        State.on_pairSet_mapError hn d t, other, fun h => by cases h⟩
    · rw [State.when_true]
      refine ⟨sameBut_pairFresh (sameBut_pairSet d _ t), (State.rd_pairFresh_ne ?_ _ _).trans (rd_pairSet_map d t),
        (ctrl 0 _ _).trans ((State.on_pairSet_keep hn d t).trans en), (ctrl 4 _ _).trans (State.on_pairSet_drop hn d t),
        (State.mapError_pairFresh hn _).trans (State.on_pairSet_mapError hn d t),
        fun m hm hne => ⟨(ctrl 0 m _).trans (other m hm hne).1, (ctrl 4 m _).trans (other m hm hne).2⟩,
        fun _ => ⟨State.dropped_pairFresh hn _, State.timer_stop_self _ _⟩⟩
      unfold R.PWR_BP_MAP0 R.PWR_BP_STATUS
      omega
  case hold => exact fun h => ⟨_, exec_bypassSetHold h, sameBut_wr (List.mem_singleton_self _) _ t, State.rd_wr_self ..⟩
  case follows =>
    intro hn m hm
    split
    · next e => rw [e, State.active_updPair_self hn]
    · next e => exact State.active_updPair_ne hn hm e s
  case expires =>
    intro hn noLink ran
    have dropped : (s.set (bpBit R.PWR_BP_STATUS 4 n) 1).on (bpBit R.PWR_BP_STATUS 4 n) = true := State.on_setB_bpBit (by omega) true s
    refine ⟨_, if_pos ⟨hn, noLink, ran⟩, (State.dropped_updKeep hn _).trans dropped, ?_⟩
    exact (State.active_updKeep hn _).trans (State.bpDriven_dropped dropped)
  case stays =>
    intro h
    refine if_neg ?_
    rintro ⟨hn, noLink, ran⟩
    rcases h with h | h | h
    · omega
    · simp [h] at noLink
    · simp [h] at ran

end Sys2Proof.Machine
end

section
/-! The supply: power-on, brown-out, ENABLE and the thermal shutdown (02 R42, R46, R49, R50, R74; 03 R83, R117). -/

namespace Sys2Proof.Machine

open Sys2Proof

/-! ### What a reset of system scope leaves (03 R83, R117) -/

/-- The supply and its pins, the tack room and the queue. -/
def State.lasting (s : State) : (Supply × Bool × Bool) × (Tbl SlotData × Tbl CommitRec × Tbl LedgerRec) × List Instr :=
  ((s.supply, s.vinOk, s.enable), (s.nor, s.commits, s.ledger), s.pending)

theorem Told.lasting {s t : State} (h : Told s t) : t.lasting = s.lasting := by
  have e := congrArg State.lasting h.2
  exact e

theorem State.lasting_iff {s t : State} : t.lasting = s.lasting ↔
    (t.supply = s.supply ∧ t.vinOk = s.vinOk ∧ t.enable = s.enable) ∧
      (t.nor = s.nor ∧ t.commits = s.commits ∧ t.ledger = s.ledger) ∧ t.pending = s.pending := by
  simp [State.lasting]

theorem State.systemReset_lasting (c : Nat) (s : State) : (s.systemReset c).lasting = s.lasting := by
  have restored : ∀ l : List Nat, (s.cleared.forEach l (fun a => State.wr a (s.rd a))).lasting = s.lasting := fun l =>
    State.view_forEach (v := State.lasting) (f := fun a => State.wr a (s.rd a)) (fun _ _ _ => rfl) s.cleared
  refine Eq.trans ?_ (restored (resetKeeps c))
  show State.lasting (if c = 0 then _ else _) = _
  split <;> rfl

theorem State.systemReset_held (c : Nat) (s : State) : (s.systemReset c).get F.RST_DOMAIN_HELD = 0x1FF :=
  (State.get_set_addr (f := F.RST_BOOT_STEP) (g := F.RST_DOMAIN_HELD) (by decide) 1 _).trans (State.get_set_self (by decide) 0x1FF _)

theorem State.systemReset_bootStep (c : Nat) (s : State) : (s.systemReset c).get F.RST_BOOT_STEP = 1 :=
  State.get_set_self (f := F.RST_BOOT_STEP) (by decide) 1 _

/-- RST_CAUSE is written before the last three fields. -/
theorem State.systemReset_cause (c : Nat) (s : State) : (s.systemReset c).rd R.RST_CAUSE =
    (if c = 0 then (s.cleared.forEach (resetKeeps c) (fun a => State.wr a (s.rd a))).wr R.RST_CAUSE 1
      else (s.cleared.forEach (resetKeeps c) (fun a => State.wr a (s.rd a))).stick R.RST_CAUSE c).rd R.RST_CAUSE :=
  (State.rd_set_ne (f := F.RST_BOOT_STEP) (by decide) _ _).trans
    ((State.rd_set_ne (f := F.RST_DOMAIN_HELD) (by decide) _ _).trans (State.rd_set_ne (f := F.PWR_BP_STATUS_KEEP_ACTIVE) (by decide) _ _))

/-- A power-on is the only cause then shown. -/
theorem State.systemReset_powerOn_cause (s : State) : (s.systemReset 0).rd R.RST_CAUSE = 1 :=
  (State.systemReset_cause 0 s).trans (State.rd_wr_self ..)

theorem State.systemReset_cause_bit {c : Nat} (h : c ≠ 0) (hc : c < 32) (s : State) : (s.systemReset c).get ⟨R.RST_CAUSE, c, 1⟩ = 1 := by
  have e := State.systemReset_cause c s
  rw [if_neg h] at e
  exact (State.get_addr (f := ⟨R.RST_CAUSE, c, 1⟩) e).trans (State.get_set_self (f := ⟨R.RST_CAUSE, c, 1⟩) hc 1 _)

/-- A register that no reset of system scope keeps or sets is then at its reset word. -/
theorem State.systemReset_rd_cleared {c a : Nat} (hc : c ≤ 1) (h : a ∉ R.RST_CAUSE :: R.PWR_BP_STATUS :: R.RST_DOMAIN :: R.RST_BOOT :: keptWords)
    (s : State) : (s.systemReset c).rd a = resetWord a := by
  simp only [List.mem_cons, not_or] at h
  obtain ⟨h1, h2, h3, h4, h5⟩ := h
  have h6 : a ∉ resetKeeps c := by
    rw [resetKeeps, if_pos hc]
    simpa only [List.mem_cons, not_or] using h5
  rw [State.systemReset_rd c s h1 h2, if_neg h3, if_neg h4, if_neg h6]

theorem State.run_of_reset {s : State} (h : s.rd R.SYS_CTRL = resetWord R.SYS_CTRL) : s.run = false := by
  have e : s.run = State.reset.run := State.on_addr (f := F.SYS_CTRL_RUN) h
  exact e

theorem State.ready_of_reset {s : State} (h : s.rd R.SYS_STATUS = resetWord R.SYS_STATUS) : s.on F.SYS_STATUS_READY = false := by
  have e : s.on F.SYS_STATUS_READY = State.reset.on F.SYS_STATUS_READY := State.on_addr (f := F.SYS_STATUS_READY) h
  exact e

/-! ### The converters start (02 R42, R49) -/

theorem State.rd_warnVin {a : Nat} (h : a ≠ R.PWR_STATUS) (h' : a ≠ R.PWR_EVENT) (ht : ¬ToldAt a) (s : State) : s.warnVin.rd a = s.rd a := by
  unfold State.warnVin
  split
  · rfl
  · exact (State.rd_raise (blk := .pwr) 0 0 _ ht h').trans (State.rd_set_ne (f := F.PWR_STATUS_PWR_WARN) h 1 s)

theorem State.warnVin_lasting (s : State) : s.warnVin.lasting = s.lasting := by
  unfold State.warnVin
  split
  · rfl
  · exact (State.raise_told .pwr 0 0 _).lasting

theorem State.on_warnVin (s : State) : s.warnVin.on F.PWR_STATUS_PWR_WARN = true := by
  cases h : s.on F.PWR_STATUS_PWR_WARN
  · rw [State.warnVin_new h]
    have told : ¬ToldAt R.PWR_STATUS := fun g => by have := g.place; unfold R.PWR_STATUS at this; omega
    exact (State.on_addr (State.rd_raise (blk := .pwr) 0 0 _ told (by decide))).trans (State.on_setB_self (by decide) (by decide) true s)
  · rw [State.warnVin_shown h, h]

/-- The state as the converters start, before PWR_WARN is looked at. -/
def State.poweredUp (s : State) : State := ((({ s with supply := .on } : State).systemReset 0).tapPowerUp).wr R.PWR_STATUS 0

theorem State.tapPowerUp_lasting (s : State) : s.tapPowerUp.lasting = s.lasting := rfl

theorem State.rd_tapPowerUp (s : State) (a : Nat) : s.tapPowerUp.rd a = s.rd a := rfl

theorem State.powerUp_eq (warn : Bool) (s : State) : s.powerUp warn = s.poweredUp.when warn State.warnVin := rfl

theorem State.rd_powerUp {a : Nat} (h : a ≠ R.PWR_STATUS) (h' : a ≠ R.PWR_EVENT) (ht : ¬ToldAt a) (warn : Bool) (s : State) :
    (s.powerUp warn).rd a = (({ s with supply := .on } : State).systemReset 0).rd a := by
  rw [State.powerUp_eq]
  exact (State.view_when (v := fun s => s.rd a) (State.rd_warnVin h h' ht _) warn).trans
    ((State.rd_wr_ne h 0 _).trans (State.rd_tapPowerUp _ a))

theorem State.powerUp_lasting (warn : Bool) (s : State) : (s.powerUp warn).lasting = ({ s with supply := .on } : State).lasting := by
  have powered : s.poweredUp.lasting = (({ s with supply := .on } : State).systemReset 0).lasting := State.tapPowerUp_lasting _
  rw [State.powerUp_eq, State.view_when (State.warnVin_lasting _), powered, State.systemReset_lasting]

/-- PWR_WARN stands where VIN has not risen through its clear threshold. -/
theorem State.on_powerUp (warn : Bool) (s : State) : (s.powerUp warn).on F.PWR_STATUS_PWR_WARN = warn := by
  rw [State.powerUp_eq]
  cases warn
  · have word : s.poweredUp.rd R.PWR_STATUS = 0 := State.rd_wr_self ..
    simp only [State.when_false, State.on, State.get, show F.PWR_STATUS_PWR_WARN.addr = R.PWR_STATUS from rfl, word]
    rfl
  · exact State.on_warnVin _

/-- The module is on, every domain held, at the boot's first step. -/
theorem State.powerUp_up (warn : Bool) (s : State) :
    (s.powerUp warn).supply = .on ∧ (s.powerUp warn).get F.RST_DOMAIN_HELD = 0x1FF ∧ (s.powerUp warn).get F.RST_BOOT_STEP = 1 ∧
      ((s.powerUp warn).rd R.RST_CAUSE).toNat = 1 ∧ (s.powerUp warn).run = false ∧ (s.powerUp warn).on F.SYS_STATUS_READY = false := by
  have same : ∀ a, a < 0x40000 → (s.powerUp warn).rd a = (({ s with supply := .on } : State).systemReset 0).rd a := fun a ha =>
    State.rd_powerUp (by unfold R.PWR_STATUS; omega) (by unfold R.PWR_EVENT; omega) (fun h => by have := h.place; omega) warn s
  obtain ⟨⟨on, -⟩, -⟩ := State.lasting_iff.1 (State.powerUp_lasting warn s)
  refine ⟨on, ?_, ?_, ?_, State.run_of_reset ?_, State.ready_of_reset ?_⟩
  · exact (State.get_addr (f := F.RST_DOMAIN_HELD) (same _ (by decide))).trans (State.systemReset_held ..)
  · exact (State.get_addr (f := F.RST_BOOT_STEP) (same _ (by decide))).trans (State.systemReset_bootStep ..)
  · rw [same R.RST_CAUSE (by decide), State.systemReset_powerOn_cause]
    rfl
  · exact (same _ (by decide)).trans (State.systemReset_rd_cleared (by decide) (by decide) _)
  · exact (same _ (by decide)).trans (State.systemReset_rd_cleared (by decide) (by decide) _)

/-! ### The shutdown sequence (02 R46, R50, R74; 03 R101) -/

/-- A record of the boot's ledger changes the ledger, the records that wait for it, and NVS_LEDGER_HEAD. -/
theorem State.ledgerAdd_eq (step outcome detail up : Nat) (s : State) :
    ∃ l e r, s.ledgerAdd step outcome detail up = { s with ledger := l, early := e, regs := r } := by
  unfold State.ledgerAdd
  dsimp only
  split
  · exact ⟨_, _, _, rfl⟩
  · split
    · exact ⟨_, _, _, rfl⟩
    · unfold State.ledgerPut
      exact ⟨_, _, _, rfl⟩

theorem State.closeLedger_eq (up : Nat) (s : State) : ∃ l e r, s.closeLedger up = { s with ledger := l, early := e, regs := r } :=
  State.ledgerAdd_eq ..

theorem State.powerDown_lasting (goal : Supply) (s : State) : (s.powerDown goal).lasting = ({ s with supply := goal } : State).lasting := by
  have restored : ∀ l : List Nat, (s.cleared.forEach l (fun a => State.wr a (s.rd a))).lasting = s.lasting := fun l =>
    State.view_forEach (v := State.lasting) (f := fun a => State.wr a (s.rd a)) (fun _ _ _ => rfl) s.cleared
  exact congrArg (fun x : (Supply × Bool × Bool) × (Tbl SlotData × Tbl CommitRec × Tbl LedgerRec) × List Instr => ((goal, x.1.2), x.2))
    (restored (if goal = .thermal then aonWords else [R.RST_CAUSE]))

theorem State.powerDown_held (goal : Supply) (s : State) : (s.powerDown goal).get F.RST_DOMAIN_HELD = 0x1FF :=
  State.get_set_self (f := F.RST_DOMAIN_HELD) (by decide) 0x1FF _

theorem State.powerDown_run (goal : Supply) (s : State) : (s.powerDown goal).run = false := by
  refine State.run_of_reset ((State.rd_set_ne (f := F.RST_DOMAIN_HELD) (by decide) _ _).trans ?_)
  refine (State.rd_set_ne (f := F.PWR_BP_STATUS_KEEP_ACTIVE) (by decide) _ _).trans ((State.rd_restore _ s s.cleared _).trans (if_neg ?_))
  split <;> decide

/-- What the shutdown sequence leaves: everything powered down and held, and the tack room but for the SHUTDOWN record. -/
theorem State.shutDown_leaves (up : Nat) (goal : Supply) (s : State) :
    ((s.closeLedger up).powerDown goal).supply = goal ∧ ((s.closeLedger up).powerDown goal).vinOk = s.vinOk ∧
      ((s.closeLedger up).powerDown goal).enable = s.enable ∧ ((s.closeLedger up).powerDown goal).nor = s.nor ∧
      ((s.closeLedger up).powerDown goal).commits = s.commits ∧ ((s.closeLedger up).powerDown goal).pending = s.pending := by
  obtain ⟨l, e, r, closed⟩ := State.closeLedger_eq up s
  rw [closed]
  obtain ⟨⟨supply, vin, enable⟩, ⟨nor, commits, -⟩, pending⟩ := State.lasting_iff.1 (State.powerDown_lasting goal { s with ledger := l, early := e, regs := r })
  exact ⟨supply, vin, enable, nor, commits, pending⟩

/-- What a brown-out leaves (02 R50; 03 R83). -/
theorem State.brownOut_leaves (up : Nat) (s : State) :
    ((s.closeLedger up).systemReset 1).vinOk = s.vinOk ∧ ((s.closeLedger up).systemReset 1).get F.RST_DOMAIN_HELD = 0x1FF ∧
      ((s.closeLedger up).systemReset 1).get ⟨R.RST_CAUSE, 1, 1⟩ = 1 ∧ ((s.closeLedger up).systemReset 1).run = false ∧
      ((s.closeLedger up).systemReset 1).nor = s.nor ∧ ((s.closeLedger up).systemReset 1).commits = s.commits ∧
      ((s.closeLedger up).systemReset 1).pending = s.pending := by
  obtain ⟨l, e, r, closed⟩ := State.closeLedger_eq up s
  rw [closed]
  obtain ⟨⟨-, vin, -⟩, ⟨nor, commits, -⟩, pending⟩ := State.lasting_iff.1 (State.systemReset_lasting 1 { s with ledger := l, early := e, regs := r })
  exact ⟨vin, State.systemReset_held 1 _, State.systemReset_cause_bit (by decide) (by decide) _,
    State.run_of_reset (State.systemReset_rd_cleared (by decide) (by decide) _), nor, commits, pending⟩

/-! ### The rows, by the supply that they find -/

theorem exec_powerOn_off {s : State} (h : s.supply = .off) (lost : Bool) (ts : List (Nat × Int)) : exec (.powerOn lost ts) s =
    .next (if s.enable then ({ s with vinOk := true } : State).powerUp true else { s with vinOk := true, supply := .standby }) := by
  show execPowerOn lost ts s = _
  simp only [execPowerOn, h]

theorem exec_powerOn_brownOut {s : State} (h : s.supply = .brownOut) (lost : Bool) (ts : List (Nat × Int)) : exec (.powerOn lost ts) s =
    .next (if !s.enable then { s with vinOk := true, supply := .standby } else if lost then ({ s with vinOk := true } : State).powerUp true
      else (({ s with supply := .on, vinOk := true } : State).set F.PWR_STATUS_PWR_WARN 1).raise .pwr 0 0) := by
  show execPowerOn lost ts s = _
  simp only [execPowerOn, h]

theorem exec_powerOn_thermal {s : State} (h : s.supply = .thermal) (hv : s.vinOk = false) (lost : Bool) (ts : List (Nat × Int)) :
    exec (.powerOn lost ts) s =
      .next (if (s.dieRead ts).dieAtLeast 95 then (({ s with vinOk := true } : State).dieRead ts).warnVin
        else if s.enable then (({ s with vinOk := true } : State).dieRead ts).powerUp true
        else { ({ s with vinOk := true } : State).dieRead ts with supply := .standby }) := by
  show execPowerOn lost ts s = _
  simp only [execPowerOn, h, hv, Bool.not_false, Bool.not_true, Bool.false_eq_true, if_false]
  rw [← h]
  rfl

theorem exec_powerOn_thermal_vin {s : State} (h : s.supply = .thermal) (hv : s.vinOk = true) (lost : Bool) (ts : List (Nat × Int)) :
    exec (.powerOn lost ts) s = .next s := by
  show execPowerOn lost ts s = _
  simp only [execPowerOn, h, hv, Bool.not_true, Bool.not_false, if_true]
  rw [← h, ← hv]

theorem exec_enableRise_standby {s : State} (h : s.supply = .standby) (long warn : Bool) (ts : List (Nat × Int)) :
    exec (.enableRise long warn ts) s = .next (({ s with enable := true } : State).powerUp warn) := by
  show execEnableRise long warn ts s = _
  simp only [execEnableRise, h]

theorem exec_enableRise_thermal {s : State} (h : s.supply = .thermal) (long warn : Bool) (ts : List (Nat × Int)) :
    exec (.enableRise long warn ts) s =
      if long = true ∧ s.vinOk = true ∧ (!(s.dieRead ts).dieAtLeast 95) = true then .next ({ s.dieRead ts with enable := true }.powerUp warn)
      else .next { s.dieRead ts with enable := true } := by
  show execEnableRise long warn ts s = _
  simp only [execEnableRise, h]
  rw [← h]
  rfl

theorem exec_brownOutAssert_on {s : State} (h : s.supply = .on) (up : Nat) : exec (.brownOutAssert up) s =
    .next { ((({ s with vinOk := false } : State).closeLedger up).systemReset 1) with supply := .brownOut } := by
  show execBrownOutAssert up s = _
  simp only [execBrownOutAssert, h]

theorem exec_brownOutAssert_standby {s : State} (h : s.supply = .standby) (up : Nat) :
    exec (.brownOutAssert up) s = .next { s with supply := .off, vinOk := false } := by
  show execBrownOutAssert up s = _
  simp only [execBrownOutAssert, h]

theorem exec_brownOutAssert_thermal {s : State} (h : s.supply = .thermal) (up : Nat) :
    exec (.brownOutAssert up) s = .next { s with vinOk := false } := by
  show execBrownOutAssert up s = _
  simp only [execBrownOutAssert, h]

theorem exec_enableFall_on {s : State} (h : s.supply = .on) (up : Nat) :
    exec (.enableFall up) s = .next ((({ s with enable := false } : State).closeLedger up).powerDown .standby) := by
  show execEnableFall up s = _
  simp only [execEnableFall, h]

/-- Settles O8: each row by the supply that it finds, and what it leaves by the lemmas of power-up, reset and shutdown. -/
theorem supplyStartsAndShutsDown : Obligations.SupplyStartsAndShutsDown := by
  unfold Obligations.SupplyStartsAndShutsDown
  intro Up Kept Cold Hot s up lost long warn ts
  have started : ∀ (w : Bool) (u : State), u.nor = s.nor ∧ u.commits = s.commits ∧ u.pending = s.pending → u.ledger = s.ledger →
      Up (u.powerUp w) ∧ (u.powerUp w).on F.PWR_STATUS_PWR_WARN = w ∧ (u.powerUp w).vinOk = u.vinOk ∧ (u.powerUp w).enable = u.enable ∧
        Kept s (u.powerUp w) ∧ (u.powerUp w).ledger = s.ledger := by
    rintro w u ⟨hn, hc, hp⟩ hl
    obtain ⟨⟨-, vin, enable⟩, ⟨nor, commits, ledger⟩, pending⟩ := State.lasting_iff.1 (State.powerUp_lasting w u)
    exact ⟨State.powerUp_up w u, State.on_powerUp w u, vin, enable, ⟨nor.trans hn, commits.trans hc, pending.trans hp⟩, ledger.trans hl⟩
  refine ⟨?powerOn, ?returns, ?hotReturn, fun h => (exec_powerOn_thermal_vin h · lost ts), ?toStandby, ?enableRise, ?staysDown, ?brownOut,
    fun h => exec_brownOutAssert_standby h up, fun h => exec_brownOutAssert_thermal h up, ?enableFall, ?trip, ?cool⟩
  case powerOn =>
    rintro en (h | ⟨h, hlost⟩ | ⟨h, hv, cold⟩)
    · obtain ⟨hup, hwarn, hvin, -, kept, hl⟩ := started true { s with vinOk := true } ⟨rfl, rfl, rfl⟩ rfl
      exact ⟨_, (exec_powerOn_off h lost ts).trans (by rw [if_pos en]), hup, hwarn, hvin, kept, hl⟩
    · obtain ⟨hup, hwarn, hvin, -, kept, hl⟩ := started true { s with vinOk := true } ⟨rfl, rfl, rfl⟩ rfl
      exact ⟨_, (exec_powerOn_brownOut h lost ts).trans (by rw [if_neg (by simp [en]), if_pos hlost]), hup, hwarn, hvin, kept, hl⟩
    · obtain ⟨hup, hwarn, hvin, -, kept, hl⟩ := started true (({ s with vinOk := true } : State).dieRead ts) ⟨rfl, rfl, rfl⟩ rfl
      refine ⟨_, (exec_powerOn_thermal h hv lost ts).trans ?_, hup, hwarn, hvin, kept, hl⟩
      rw [if_neg (by rw [cold]; decide), if_pos en]
  case returns =>
    intro en h hlost
    rw [exec_powerOn_brownOut h, if_neg (by simp [en]), if_neg (by simp [hlost])]
  case hotReturn =>
    intro h hv hot
    rw [exec_powerOn_thermal h hv, if_pos hot]
  case toStandby =>
    rintro en (h | ⟨h, hv, cold⟩)
    · refine ⟨{ s with vinOk := true, supply := .standby }, ?_, rfl, rfl, rfl, rfl, rfl⟩
      simp only [List.mem_cons, List.not_mem_nil, or_false] at h
      rcases h with h | h
      · rw [exec_powerOn_off h, if_neg (by simp [en])]
      · rw [exec_powerOn_brownOut h, if_pos (by simp [en])]
    · refine ⟨{ ({ s with vinOk := true } : State).dieRead ts with supply := .standby }, ?_, rfl, rfl, rfl, rfl, rfl⟩
      rw [exec_powerOn_thermal h hv, if_neg (by rw [cold]; decide), if_neg (by simp [en])]
  case enableRise =>
    rintro (h | ⟨h, hlong, hv, cold⟩)
    · obtain ⟨hup, hwarn, -, hen, kept, hl⟩ := started warn { s with enable := true } ⟨rfl, rfl, rfl⟩ rfl
      exact ⟨_, exec_enableRise_standby h long warn ts, hup, hen, hwarn, kept, hl⟩
    · obtain ⟨hup, hwarn, -, hen, kept, hl⟩ := started warn { s.dieRead ts with enable := true } ⟨rfl, rfl, rfl⟩ rfl
      exact ⟨_, (exec_enableRise_thermal h long warn ts).trans (if_pos ⟨hlong, hv, by rw [cold]; rfl⟩), hup, hen, hwarn, kept, hl⟩
  case staysDown =>
    intro h why
    refine (exec_enableRise_thermal h long warn ts).trans (if_neg ?_)
    rintro ⟨hlong, hv, cold⟩
    rcases why with e | e | e
    · simp [e] at hlong
    · simp [e] at hv
    · rw [e] at cold
      simp at cold
  case brownOut =>
    intro h
    rw [exec_brownOutAssert_on h]
    have left := State.brownOut_leaves up { s with vinOk := false }
    generalize (State.closeLedger up _).systemReset 1 = u at left ⊢
    obtain ⟨vin, held, cause, run, nor, commits, pending⟩ := left
    exact ⟨_, rfl, rfl, vin, held, cause, run, nor, commits, pending⟩
  case enableFall =>
    intro h
    obtain ⟨supply, -, enable, nor, commits, pending⟩ := State.shutDown_leaves up .standby { s with enable := false }
    exact ⟨_, exec_enableFall_on h up, supply, enable, State.powerDown_held .standby _, State.powerDown_run .standby _, nor, commits, pending⟩
  case trip =>
    intro h hot
    obtain ⟨supply, -, -, nor, commits, pending⟩ := State.shutDown_leaves up .thermal s
    refine ⟨_, if_pos ⟨h, State.dieAtLeast_iff.2 hot⟩, supply, State.powerDown_held .., ?_, State.powerDown_run .., nor, commits, pending⟩
    simp [State.thermLow, supply]
  case cool =>
    intro cold
    refine if_neg ?_
    rintro ⟨-, hot⟩
    simp [State.dieAtLeast_eq_false_iff.2 cold] at hot

end Sys2Proof.Machine
end

section
/-! What a change of the lanes of a group leaves alone: the frames, KPL states and keep waves that follow it touch neither the registers of the
lanes and engines nor the start timers of the engines (02 R57; 05 R208; 13 R495, R509). -/

namespace Sys2Proof.Machine

open Sys2Proof

/-! ### The optics: lanes and engines -/

/-- The registers of the LANE and OE blocks, and the start timers of the engines. -/
def State.optics (s : State) : (Nat → Word) × (Nat → Option Nat) :=
  (fun a => if 0x100000 ≤ a ∧ a < 0x200000 then s.rd a else 0, fun k => s.timer (.engineStart k))

theorem State.optics_of {s t : State} (hr : ∀ a, 0x100000 ≤ a → a < 0x200000 → t.rd a = s.rd a)
    (ht : ∀ k, t.timer (.engineStart k) = s.timer (.engineStart k)) : t.optics = s.optics := by
  refine Prod.ext (funext fun a => ?_) (funext ht)
  show (if _ then t.rd a else 0) = if _ then s.rd a else 0
  split
  · next h => exact hr a h.1 h.2
  · rfl

theorem State.rd_of_optics {s t : State} (h : t.optics = s.optics) {a : Nat} (h1 : 0x100000 ≤ a) (h2 : a < 0x200000) : t.rd a = s.rd a := by
  have e := congrFun (congrArg Prod.fst h) a
  simpa only [State.optics, h1, h2, and_self, if_true] using e

theorem State.engineStart_of_optics {s t : State} (h : t.optics = s.optics) (k : Nat) : t.timer (.engineStart k) = s.timer (.engineStart k) :=
  congrFun (congrArg Prod.snd h) k

theorem Told.optics {s t : State} (h : Told s t) : t.optics = s.optics :=
  State.optics_of (fun a h1 h2 => h.1 a (fun g => by have := g.place; omega)) (fun _ => h.timer _)

/-- A field of a register outside the two blocks. -/
theorem State.optics_set {f : Fld} (h : f.addr < 0x100000 ∨ 0x200000 ≤ f.addr) (v : Nat) (s : State) : (s.set f v).optics = s.optics :=
  State.optics_of (fun _ h1 h2 => State.rd_set_ne (fun e => by omega) v s) (fun _ => rfl)

theorem State.optics_stop {tm : Timer} (h : ∀ k, .engineStart k ≠ tm) (s : State) : (s.stop tm).optics = s.optics :=
  State.optics_of (fun _ _ _ => rfl) (fun k => State.timer_stop_ne (h k) s)

theorem State.optics_start {tm : Timer} (h : ∀ k, .engineStart k ≠ tm) (s : State) : (s.start tm).optics = s.optics :=
  State.optics_of (fun _ _ _ => rfl) (fun k => State.timer_start_ne (h k) s)

theorem State.optics_startOnce {tm : Timer} (h : ∀ k, .engineStart k ≠ tm) (s : State) : (s.startOnce tm).optics = s.optics :=
  State.optics_of (fun _ _ _ => State.rd_startOnce ..) (fun k => State.timer_startOnce_ne (h k) s)

/-! ### Frames of a port that goes down (05 R208) -/

theorem State.optics_updEgress (p : Nat) (s : State) : (s.updEgress p).optics = s.optics := by
  unfold State.updEgress
  split
  · rfl
  · refine (State.optics_set (f := F.EGR_QUEUED_UNITS p) (.inr ?_) _ _).trans (State.optics_set (f := F.EGR_PORT_STATUS_NONEMPTY p) (.inr ?_) _ s)
    · show 0x200000 ≤ R.EGR_QUEUED p
      unfold R.EGR_QUEUED
      omega
    · show 0x200000 ≤ R.EGR_PORT_STATUS p
      unfold R.EGR_PORT_STATUS
      omega

theorem State.optics_rxPop (r id : Nat) (s : State) : (s.rxPop r id).optics = s.optics := by
  unfold State.rxPop
  dsimp only
  split
  · split
    · exact State.optics_stop (fun _ => by simp) _
    · exact State.optics_start (fun _ => by simp) _
  · rfl

theorem State.optics_bobbinUnsent (f : Frame) (code : Nat) (s : State) : (s.bobbinUnsent f code).optics = s.optics := by
  unfold State.bobbinUnsent
  split
  · rfl
  · refine State.view_forEach (v := State.optics) (fun p _ s => ?_) s
    rfl

theorem State.optics_completeTx (cmd : Nat × Nat × Nat) (fate : Option Nat) (time : Nat) (s : State) :
    (s.completeTx cmd fate time).optics = s.optics := by
  unfold State.completeTx
  split
  · rfl
  · exact (State.completeEra_told ..).optics

theorem State.optics_endFrame (id code : Nat) (s : State) : (s.endFrame id code).optics = s.optics := by
  unfold State.endFrame
  split
  · rfl
  · next f _ =>
    have popped : ∀ s : State, (match f.stage, f.dest with
        | .ring, .ring q => s.rxPop q id
        | _, _ => s).optics = s.optics := fun s => by
      split
      · exact State.optics_rxPop ..
      · rfl
    have fated : ∀ s : State, (s.forEach (List.range f.copies) (fun _ => State.fate f.port code)).optics = s.optics :=
      State.view_forEach (fun _ _ _ => rfl)
    have completed : ∀ s : State, (match f.cmd with
        | none => s
        | some c => s.completeTx c (some code) (if f.stage = Stage.unread then s.nt else f.readAt)).optics = s.optics := fun s => by
      split
      · rfl
      · exact State.optics_completeTx ..
    have shown : ∀ s : State, (match f.dest.egressPort with
        | some p => s.updEgress p
        | none => s).optics = s.optics := fun s => by
      split
      · exact State.optics_updEgress ..
      · rfl
    exact (shown _).trans ((completed _).trans ((State.optics_bobbinUnsent f code _).trans ((fated _).trans (popped (s.dropFrame id)))))

theorem State.optics_endFrames (p : Frame → Bool) (code : Nat) (s : State) : (s.endFrames p code).optics = s.optics :=
  State.view_forEach (v := State.optics) (fun x _ => State.optics_endFrame x.1 code) s

theorem State.optics_portDownFrames (p : Nat) (s : State) : (s.portDownFrames p).optics = s.optics := by
  have ended : ∀ (x : Nat × Frame) (s : State), (State.endFrame x.1 0x13 (if x.2.inLedger then s else s.enter p)).optics = s.optics := fun x s => by
    rw [State.optics_endFrame]
    split
    · rfl
    · exact (State.count_told ..).optics
  refine (State.optics_updEgress p _).trans ((State.optics_endFrames ..).trans ((State.view_forEach (v := State.optics) ?_ _).trans rfl))
  exact fun x _ => ended x

/-! ### KPL states and keep waves (02 R57; 13 R495) -/

theorem State.optics_setKpl (p st : Nat) (s : State) : (s.setKpl p st).optics = s.optics := by
  have out : 0x200000 ≤ R.KPL_STATUS p := by
    unfold R.KPL_STATUS
    omega
  unfold State.setKpl
  dsimp only
  split
  · exact (State.optics_set (f := F.KPL_STATUS_MISSED p) (.inr out) 0 _).trans (State.optics_set (f := F.KPL_STATUS_STATE p) (.inr out) st s)
  · exact State.optics_set (f := F.KPL_STATUS_STATE p) (.inr out) st s

theorem State.optics_kplEval (p : Nat) (s : State) : (s.kplEval p).optics = s.optics := by
  have moved : ∀ (b : Bool) (st : Nat) (s : State), (s.when b (State.setKpl p st)).optics = s.optics := fun b st s =>
    State.view_when (State.optics_setKpl p st s) b
  unfold State.kplEval
  split
  · exact moved ..
  · simp only [moved]

theorem State.optics_updPair (n : Nat) (s : State) : (s.updPair n).optics = s.optics := by
  have bit : ∀ (i : Nat) (b : Bool) (s : State), (s.setB (bpBit R.PWR_BP_STATUS i n) b).optics = s.optics := fun i b s =>
    State.optics_set (f := bpBit R.PWR_BP_STATUS i n) (.inr (by show 0x200000 ≤ R.PWR_BP_STATUS; decide)) _ s
  have hold : ∀ (b : Bool) (s : State), (s.holdFollows n b).optics = s.optics := fun b s => by
    unfold State.holdFollows
    split
    · exact State.optics_startOnce (fun _ => by simp) s
    · exact State.optics_stop (fun _ => by simp) s
  rw [State.updPair_eq, hold, bit, (State.mapShown_told n s).optics, bit]

theorem State.optics_updKeep (s : State) : s.updKeep.optics = s.optics :=
  State.view_forEach (v := State.optics) (fun n _ => State.optics_updPair n) s

/-- A change of lanes: what follows it for the ports leaves the lanes and engines as the change has them. -/
theorem State.optics_linkChange (g : Nat) (f : State → State) (s : State) : (s.linkChange g f).optics = (f s).optics := by
  refine (State.optics_updKeep _).trans ((State.view_forEach (v := State.optics) (fun p _ => State.optics_kplEval p) _).trans ?_)
  exact State.view_forEach (v := State.optics) (fun p _ => State.optics_portDownFrames p) (f s)

end Sys2Proof.Machine
end

section
/-! The states of engines and of their lanes (05 R180, R209; 03 R100). -/

namespace Sys2Proof.Machine

open Sys2Proof

/-- What each element's operation establishes for one element and no other undoes holds in the end. -/
theorem State.forEach_establishes {α : Type} {P : State → Prop} {l : List α} {f : α → State → State} {x : α} (hx : x ∈ l)
    (he : ∀ s, P (f x s)) (hp : ∀ y ∈ l, ∀ s, P s → P (f y s)) (s : State) : P (s.forEach l f) := by
  have kept : ∀ m : List α, (∀ y ∈ m, y ∈ l) → ∀ s, P s → P (s.forEach m f) := fun m => by
    induction m with
    | nil => exact fun _ _ h => h
    | cons y m ih =>
      exact fun hm s h => ih (fun z hz => hm z (List.mem_cons_of_mem _ hz)) _ (hp y (hm y (List.mem_cons_self ..)) s h)
  obtain ⟨l₁, l₂, rfl⟩ := List.append_of_mem hx
  have cut : s.forEach (l₁ ++ x :: l₂) f = (f x (s.forEach l₁ f)).forEach l₂ f := by
    simp [State.forEach, List.foldl_append]
  rw [cut]
  exact kept l₂ (fun y hy => List.mem_append_right _ (List.mem_cons_of_mem _ hy)) _ (he _)

theorem mem_groupLanes {k n : Nat} (hk : k < 32) (h : n / 8 = k) : n ∈ groupLanes k := by
  simp only [groupLanes, groupPorts, List.mem_filter, List.mem_map, List.mem_range, decide_eq_true_eq]
  exact ⟨⟨n % 8, by omega, by omega⟩, by omega⟩

theorem lt_of_mem_groupLanes {k n : Nat} (h : n ∈ groupLanes k) : n < 272 := by
  simpa using (List.mem_filter.1 h).2

/-! ### A lane's state -/

/-- The state word of a lane put into a state without lock. -/
def State.unlocked (n st : Nat) (s : State) : State :=
  (((s.set (F.LANE_STATUS_STATE n) st).set (F.LANE_STATUS_BLOCK_LOCK n) 0).set (F.LANE_STATUS_AM_LOCK n) 0).set (F.LANE_STATUS_TAP_VALID n) 0

/-- A LINK_DOWN of lane `n` counted and reported. -/
def State.laneLinkDown (n : Nat) (s : State) : State := (s.count 2 n 7 1).raise .lane 1 n

/-- The parts of `State.laneTo`: the state word, a receiver that starts, a LINK_DOWN reported. -/
theorem State.laneTo_parts (n st : Nat) (s : State) : ∃ ds, s.laneTo n st =
    (({ State.unlocked n st ((s.stop (.laneHold n)).stop (.laneAcquire n)) with deskewed := ds }).when (st == lnAcquire)
      (fun s => (s.start (.laneAcquire n)).eqDefaults n)).when (s.lane n == lnUp) (State.laneLinkDown n) := ⟨_, rfl⟩

theorem State.rd_unlocked_ne {n a : Nat} (h : a ≠ R.LANE_STATUS n) (st : Nat) (s : State) : (s.unlocked n st).rd a = s.rd a :=
  (State.rd_set_ne (f := F.LANE_STATUS_TAP_VALID n) h 0 _).trans ((State.rd_set_ne (f := F.LANE_STATUS_AM_LOCK n) h 0 _).trans
    ((State.rd_set_ne (f := F.LANE_STATUS_BLOCK_LOCK n) h 0 _).trans (State.rd_set_ne (f := F.LANE_STATUS_STATE n) h st s)))

theorem State.lane_set_ne {n : Nat} {f : Fld} (ha : R.LANE_STATUS n = f.addr) (h : 3 ≤ f.lsb) (v : Nat) (s : State) :
    (s.set f v).lane n = s.lane n :=
  State.get_set_ne (f := f) (g := F.LANE_STATUS_STATE n) ha (.inl h) (show 0 + 3 ≤ 32 by decide) v s

theorem State.lane_set_self {n st : Nat} (h : st < 2 ^ 3) (s : State) : (s.set (F.LANE_STATUS_STATE n) st).lane n = st :=
  (State.get_set_self (f := F.LANE_STATUS_STATE n) (show 0 + 3 ≤ 32 by decide) st s).trans (Nat.mod_eq_of_lt h)

theorem State.lane_unlocked {n st : Nat} (h : st < 2 ^ 3) (s : State) : (s.unlocked n st).lane n = st := by
  have block : ∀ s : State, (s.set (F.LANE_STATUS_BLOCK_LOCK n) 0).lane n = s.lane n := State.lane_set_ne rfl (show 3 ≤ 3 by decide) 0
  have marker : ∀ s : State, (s.set (F.LANE_STATUS_AM_LOCK n) 0).lane n = s.lane n := State.lane_set_ne rfl (show 3 ≤ 4 by decide) 0
  have tap : ∀ s : State, (s.set (F.LANE_STATUS_TAP_VALID n) 0).lane n = s.lane n := State.lane_set_ne rfl (show 3 ≤ 8 by decide) 0
  rw [State.unlocked, tap, marker, block, State.lane_set_self h]

/-- A LINK_DOWN changes LANE_EVENT of its lane and what telling the host changes. -/
theorem State.rd_laneLinkDown {n a : Nat} (h : a ≠ R.LANE_EVENT n) (ht : ¬ToldAt a) (s : State) : (s.laneLinkDown n).rd a = s.rd a :=
  (State.rd_raise (blk := .lane) 1 n _ ht h).trans ((State.count_told 2 n 7 1 s).1 a ht)

theorem State.rd_deskewed (ds : List Nat) (s : State) (a : Nat) : ({ s with deskewed := ds } : State).rd a = s.rd a := rfl

theorem State.rd_laneTo_down {n a : Nat} (h : a ≠ R.LANE_EVENT n) (ht : ¬ToldAt a) (s : State) :
    (s.laneTo n lnDown).rd a = (State.unlocked n lnDown ((s.stop (.laneHold n)).stop (.laneAcquire n))).rd a := by
  obtain ⟨ds, parts⟩ := State.laneTo_parts n lnDown s
  rw [parts, show (lnDown == lnAcquire) = false from rfl, State.when_false, State.view_when (v := fun s => s.rd a) (State.rd_laneLinkDown h ht _),
    State.rd_deskewed]

theorem not_toldAt_optics {a : Nat} (h1 : 0x100000 ≤ a) (h2 : a < 0x200000) : ¬ToldAt a := fun h => by
  have := h.place
  omega

theorem State.lane_laneTo_down {n : Nat} (hn : n < 272) (s : State) : (s.laneTo n lnDown).lane n = lnDown := by
  have word := State.rd_laneTo_down (a := R.LANE_STATUS n) (n := n) (by unfold R.LANE_STATUS R.LANE_EVENT; omega)
      (not_toldAt_optics (by unfold R.LANE_STATUS; omega) (by unfold R.LANE_STATUS; omega)) s
  exact (State.get_addr (f := F.LANE_STATUS_STATE n) word).trans (State.lane_unlocked (by decide) _)

theorem State.lane_laneTo_down_ne {m n : Nat} (hm : m < 272) (h : m ≠ n) (s : State) : (s.laneTo n lnDown).lane m = s.lane m := by
  have word : (s.laneTo n lnDown).rd (R.LANE_STATUS m) = s.rd (R.LANE_STATUS m) :=
    (State.rd_laneTo_down (by unfold R.LANE_STATUS R.LANE_EVENT; omega)
      (not_toldAt_optics (by unfold R.LANE_STATUS; omega) (by unfold R.LANE_STATUS; omega)) s).trans
      (State.rd_unlocked_ne (by unfold R.LANE_STATUS; omega) lnDown _)
  exact State.get_addr (f := F.LANE_STATUS_STATE m) word

/-- A lane that neither acquires, nor holds, nor runs, nor has a fault. -/
def State.laneRests (s : State) (n : Nat) : Prop := s.lane n = lnDown ∨ s.lane n = lnRetired

/-- Every lane of the engine rests once its lanes are taken down. -/
theorem State.laneRests_oeLanesDown {k n : Nat} (hk : k < 32) (h : n / 8 = k) (s : State) : (s.oeLanesDown k).laneRests n := by
  refine State.forEach_establishes (P := fun s => s.laneRests n) (mem_groupLanes hk h) (fun s => ?_) (fun m hm s hs => ?_) s
  · show (s.when (s.lane n != lnDown && s.lane n != lnRetired) (State.laneTo n lnDown)).laneRests n
    cases hb : s.lane n != lnDown && s.lane n != lnRetired
    · rw [State.when_false, State.laneRests]
      by_contra hne
      simp [not_or.1 hne] at hb
    · exact .inl (State.lane_laneTo_down (by omega) s)
  · show (s.when (s.lane m != lnDown && s.lane m != lnRetired) (State.laneTo m lnDown)).laneRests n
    by_cases e : n = m
    · subst e
      have stays : (s.lane n != lnDown && s.lane n != lnRetired) = false := by
        rcases hs with hs | hs <;> simp [hs]
      rwa [stays]
    · have same := State.view_when (v := fun s => s.lane n) (State.lane_laneTo_down_ne (by omega) e s)
        (s.lane m != lnDown && s.lane m != lnRetired)
      unfold State.laneRests at hs ⊢
      rwa [same]

/-! ### What an engine's lanes leave of the engine -/

/-- An engine's state and its start timer. -/
def State.engineSide (k : Nat) (s : State) : Nat × Option Nat := (s.oe k, s.timer (.engineStart k))

theorem State.engineSide_of {k : Nat} {s t : State} (hr : t.rd (R.OE_STATUS k) = s.rd (R.OE_STATUS k))
    (ht : t.timer (.engineStart k) = s.timer (.engineStart k)) : t.engineSide k = s.engineSide k :=
  Prod.ext (State.get_addr (f := F.OE_STATUS_STATE k) hr) ht

theorem State.engineSide_of_optics {k : Nat} (hk : k < 32) {s t : State} (h : t.optics = s.optics) : t.engineSide k = s.engineSide k :=
  State.engineSide_of (State.rd_of_optics h (by unfold R.OE_STATUS; omega) (by unfold R.OE_STATUS; omega)) (State.engineStart_of_optics h k)

theorem State.engineSide_deskewed (k : Nat) (ds : List Nat) (s : State) : ({ s with deskewed := ds } : State).engineSide k = s.engineSide k := rfl

theorem State.engineSide_unlocked {k n : Nat} (st : Nat) (s : State) : (s.unlocked n st).engineSide k = s.engineSide k :=
  State.engineSide_of (State.rd_unlocked_ne (by unfold R.OE_STATUS R.LANE_STATUS; omega) st s) rfl

theorem State.engineSide_laneLinkDown {k n : Nat} (hk : k < 32) (s : State) : (s.laneLinkDown n).engineSide k = s.engineSide k := by
  refine State.engineSide_of (State.rd_laneLinkDown ?_ (not_toldAt_optics ?_ ?_) s) ?_
  · unfold R.OE_STATUS R.LANE_EVENT
    omega
  · unfold R.OE_STATUS
    omega
  · unfold R.OE_STATUS
    omega
  · exact ((State.raise_told .lane 1 n _).timer _).trans ((State.count_told 2 n 7 1 s).timer _)

/-- Registers written with the move of the peaking codes that follows. -/
theorem State.engineSide_eqChange {k n : Nat} {f : State → State} (h : ∀ s, (f s).engineSide k = s.engineSide k) (s : State) :
    (s.eqChange n f).engineSide k = s.engineSide k := by
  refine Eq.trans ?_ (h s)
  unfold State.eqChange
  dsimp only
  split <;> rfl

theorem State.engineSide_free (k u : Nat) (s : State) : (s.free u).2.engineSide k = s.engineSide k := rfl

section
variable {k n : Nat} (hn : n < 272)
include hn

/-- A field of a lane's register. -/
theorem State.engineSide_setLane {f : Fld} (h : 0x100000 + 0x400 * n ≤ f.addr ∧ f.addr < 0x100400 + 0x400 * n) (v : Nat) (s : State) :
    (s.set f v).engineSide k = s.engineSide k :=
  State.engineSide_of (State.rd_set_ne (by unfold R.OE_STATUS; omega) v s) rfl

theorem State.engineSide_eqShow (s : State) : (s.eqShow n).engineSide k = s.engineSide k := by
  refine State.view_when (v := State.engineSide k) (State.engineSide_setLane hn (f := F.LANE_EQ_STATUS_CTLE_CODE n) ?_ _ s) _
  show 0x100000 + 0x400 * n ≤ R.LANE_EQ_STATUS n ∧ R.LANE_EQ_STATUS n < 0x100400 + 0x400 * n
  unfold R.LANE_EQ_STATUS
  omega

theorem State.engineSide_eqDefaults (s : State) : (s.eqDefaults n).engineSide k = s.engineSide k := by
  have shown : ∀ (w : Word) (s : State), (s.wr (R.LANE_EQ_STATUS n) w).engineSide k = s.engineSide k := fun w s => by
    refine State.engineSide_of (State.rd_wr_ne ?_ w s) rfl
    unfold R.OE_STATUS R.LANE_EQ_STATUS
    omega
  unfold State.eqDefaults
  split
  · exact State.engineSide_eqShow hn s
  · exact (shown _ (s.free 18).2).trans (State.engineSide_free k 18 s)

theorem State.engineSide_laneTo (hk : k < 32) (st : Nat) (s : State) : (s.laneTo n st).engineSide k = s.engineSide k := by
  have stopped : ((s.stop (.laneHold n)).stop (.laneAcquire n)).engineSide k = s.engineSide k :=
    State.engineSide_of rfl ((State.timer_stop_ne (by simp) _).trans (State.timer_stop_ne (by simp) s))
  have starts : ∀ s : State, ((s.start (.laneAcquire n)).eqDefaults n).engineSide k = s.engineSide k := fun s =>
    (State.engineSide_eqDefaults hn _).trans (State.engineSide_of rfl (State.timer_start_ne (by simp) s))
  have acquires : ∀ (b : Bool) (s : State), (s.when b (fun s => (s.start (.laneAcquire n)).eqDefaults n)).engineSide k = s.engineSide k :=
    fun b s => State.view_when (starts s) b
  have down : ∀ (b : Bool) (s : State), (s.when b (State.laneLinkDown n)).engineSide k = s.engineSide k :=
    fun b s => State.view_when (State.engineSide_laneLinkDown hk s) b
  obtain ⟨ds, parts⟩ := State.laneTo_parts n st s
  rw [parts, down, acquires]
  exact (State.engineSide_deskewed k ds _).trans ((State.engineSide_unlocked st _).trans stopped)

theorem State.engineSide_laneCheck (hk : k < 32) (s : State) : (s.laneCheck n).engineSide k = s.engineSide k := by
  have moved : ∀ (b : Bool) (st : Nat) (s : State), (s.when b (State.laneTo n st)).engineSide k = s.engineSide k := fun b st s =>
    State.view_when (State.engineSide_laneTo hn hk st s) b
  have error : ∀ (v : Nat) (s : State), (s.set (F.LANE_STATUS_CFG_ERROR n) v).engineSide k = s.engineSide k :=
    State.engineSide_setLane hn (by show _ ≤ R.LANE_STATUS n ∧ R.LANE_STATUS n < _; unfold R.LANE_STATUS; omega)
  unfold State.laneCheck
  dsimp only
  split
  · rfl
  split
  · exact (error ..).trans (moved ..)
  split
  · rfl
  split
  · exact (error ..).trans (moved ..)
  split
  · exact (moved ..).trans (error ..)
  · exact (moved ..).trans (error ..)

/-- Peaking codes written to a lane's LANE_EQ, with the moves that follow. -/
theorem State.engineSide_trimLoad (s : State) : (s.trimLoad n).engineSide k = s.engineSide k := by
  have place : 0x100000 + 0x400 * n ≤ R.LANE_EQ n ∧ R.LANE_EQ n < 0x100400 + 0x400 * n := by
    unfold R.LANE_EQ
    omega
  have codes : ∀ (a b : Nat) (s : State), ((s.set (F.LANE_EQ_CTLE_RX n) a).set (F.LANE_EQ_CTLE_TX n) b).engineSide k = s.engineSide k := fun a b s =>
    (State.engineSide_setLane hn (f := F.LANE_EQ_CTLE_TX n) place b _).trans (State.engineSide_setLane hn (f := F.LANE_EQ_CTLE_RX n) place a s)
  unfold State.trimLoad
  split
  · rfl
  · dsimp only
    split
    · exact State.engineSide_eqChange (codes _ _) s
    · rfl

end

theorem State.engineSide_forEach {k : Nat} {f : Nat → State → State} (h : ∀ n < 272, ∀ s, (f n s).engineSide k = s.engineSide k) (s : State) :
    (s.forEach (groupLanes k) f).engineSide k = s.engineSide k :=
  State.view_forEach (fun n hn => h n (lt_of_mem_groupLanes hn)) s

/-! ### An engine put into a state (05 R209) -/

/-- The engine's own part of `State.oeTo`: its state, its trims where it starts, and its lanes. -/
def State.oeEnter (k st : Nat) (s : State) : State :=
  let s := (s.set (F.OE_STATUS_STATE k) st).stop (.engineStart k)
  let s := s.when (st == oeStarting) (fun s => (s.forEach (groupLanes k) State.trimLoad).start (.engineStart k))
  if st = oeReady then s.forEach (groupLanes k) State.laneCheck else s.oeLanesDown k

theorem State.oeTo_eq (k st : Nat) (s : State) : s.oeTo k st = s.linkChange k (State.oeEnter k st) := rfl

theorem State.engineSide_oeLanesDown {k : Nat} (hk : k < 32) (s : State) : (s.oeLanesDown k).engineSide k = s.engineSide k :=
  State.engineSide_forEach (fun _ hn s => State.view_when (State.engineSide_laneTo hn hk lnDown s) _) s

theorem State.engineSide_oeEnter {k st : Nat} (hk : k < 32) (h : st < 8) (s : State) :
    (s.oeEnter k st).engineSide k = (st, if st = oeStarting then some 0 else none) := by
  have entered : ((s.set (F.OE_STATUS_STATE k) st).stop (.engineStart k)).engineSide k = (st, none) :=
    Prod.ext ((State.get_set_self (f := F.OE_STATUS_STATE k) (show 0 + 3 ≤ 32 by decide) st s).trans (Nat.mod_eq_of_lt h)) (State.timer_stop_self _ _)
  have starting : ∀ s : State, s.oe k = st → ((s.forEach (groupLanes k) State.trimLoad).start (.engineStart k)).engineSide k = (st, some 0) :=
    fun s hs => by
      have loaded : (s.forEach (groupLanes k) State.trimLoad).engineSide k = s.engineSide k :=
        State.engineSide_forEach (fun _ hn => State.engineSide_trimLoad hn) s
      exact Prod.ext ((congrArg Prod.fst loaded).trans hs) (State.timer_start_self _ _)
  have lanes : ∀ s : State, (if st = oeReady then s.forEach (groupLanes k) State.laneCheck else s.oeLanesDown k).engineSide k = s.engineSide k :=
    fun s => by
      split
      · exact State.engineSide_forEach (fun _ hn => State.engineSide_laneCheck hn hk) s
      · exact State.engineSide_oeLanesDown hk s
  refine (lanes _).trans ?_
  by_cases hst : st = oeStarting
  · rw [if_pos hst, beq_iff_eq.2 hst]
    exact starting _ (congrArg Prod.fst entered)
  · rw [if_neg hst, beq_eq_false_iff_ne.2 hst]
    exact entered

/-- An engine put into a state is in it, and its start timer runs exactly in STARTING. -/
theorem State.engineSide_oeTo {k st : Nat} (hk : k < 32) (h : st < 8) (s : State) :
    (s.oeTo k st).engineSide k = (st, if st = oeStarting then some 0 else none) := by
  rw [State.oeTo_eq, State.engineSide_of_optics hk (State.optics_linkChange ..), State.engineSide_oeEnter hk h]

theorem State.oe_oeTo {k st : Nat} (hk : k < 32) (h : st < 8) (s : State) : (s.oeTo k st).oe k = st :=
  congrArg Prod.fst (State.engineSide_oeTo hk h s)

/-- In no state but READY does a lane of the engine acquire, hold or run. -/
theorem State.laneRests_oeTo {k st n : Nat} (hk : k < 32) (h : st ≠ oeReady) (hn : n / 8 = k) (s : State) : (s.oeTo k st).laneRests n := by
  have entered : (s.oeEnter k st).laneRests n := by
    unfold State.oeEnter
    dsimp only
    rw [if_neg h]
    exact State.laneRests_oeLanesDown hk hn _
  have word : (s.oeTo k st).rd (R.LANE_STATUS n) = (s.oeEnter k st).rd (R.LANE_STATUS n) :=
    State.rd_of_optics (State.optics_linkChange k (State.oeEnter k st) s) (by unfold R.LANE_STATUS; omega) (by unfold R.LANE_STATUS; omega)
  have same : (s.oeTo k st).lane n = (s.oeEnter k st).lane n := State.get_addr (f := F.LANE_STATUS_STATE n) word
  unfold State.laneRests at entered ⊢
  rwa [same]

end Sys2Proof.Machine
end

section
/-! Laser inputs, monitoring and ENGINE_SET (05 R199 to R209). -/

namespace Sys2Proof.Machine

open Sys2Proof

/-! ### The input bits of OE_STATUS (05 R199) -/

theorem laserPresent_eq (k : Nat) (b : Bool) : laserPresent k b = ⟨R.OE_STATUS k, 3 + b2n b, 1⟩ := by cases b <;> rfl

theorem laserDrained_eq (k : Nat) (b : Bool) : laserDrained k b = ⟨R.OE_STATUS k, 5 + b2n b, 1⟩ := by cases b <;> rfl

theorem b2n_le (b : Bool) : b2n b ≤ 1 := by cases b <;> decide

theorem State.drained_set_present (k : Nat) (b c : Bool) (v : Nat) (s : State) :
    (s.set (laserPresent k b) v).on (laserDrained k c) = s.on (laserDrained k c) := by
  have hb := b2n_le b
  have hc := b2n_le c
  rw [laserPresent_eq, laserDrained_eq]
  exact State.on_set_ne (f := ⟨R.OE_STATUS k, 3 + b2n b, 1⟩) (g := ⟨R.OE_STATUS k, 5 + b2n c, 1⟩) rfl
    (show 5 + b2n c + 1 ≤ 3 + b2n b ∨ 3 + b2n b + 1 ≤ 5 + b2n c by omega) (show 5 + b2n c + 1 ≤ 32 by omega) v s

/-! ### Ramps (05 R200, R201) -/

theorem State.ramp?_congr {s t : State} (h : t.accepted = s.accepted) (k : Nat) (b : Bool) : t.ramp? k b = s.ramp? k b := by
  unfold State.ramp?
  rw [h]

theorem State.rampStart_none {k : Nat} {b : Bool} {s : State} (h : s.ramp? k b = none) : s.rampStart k b = s := by
  simp only [State.rampStart, h]

theorem State.rampReverse_idle {k : Nat} {b : Bool} {s : State} (h : s.ramp? k b = none ∨ s.timer (.ramp k b) = none) : s.rampReverse k b = s := by
  refine if_neg ?_
  rcases h with h | h <;> simp [h]

theorem State.rampReverse_running {k : Nat} {b : Bool} {s : State} {x : Cmd} (h : s.ramp? k b = some x) (ht : s.timer (.ramp k b) ≠ none) :
    s.rampReverse k b = (s.set (laserDrained k b) 0).rampEnd k b rState :=
  if_pos (by simp [h, Option.isSome_iff_ne_none.2 ht])

/-! ### An input lost (05 R199, R201) -/

/-- The state with an input gone: not present, its ramp stopped. -/
def State.inputGone (k : Nat) (b : Bool) (s : State) : State := (s.set (laserPresent k b) 0).stop (.ramp k b)

theorem exec_laserInputLost_absent {k : Nat} {b : Bool} {s : State} (h : s.on (laserPresent k b) = false) :
    exec (.laserInputLost k b) s = .next s := if_neg (by simp [h])

theorem exec_laserInputLost_noRamp {k : Nat} {b : Bool} {s : State} (hk : k < 32) (h : s.on (laserPresent k b) = true) (hr : s.ramp? k b = none) :
    exec (.laserInputLost k b) s = if s.inUse k b then .next ((((s.inputGone k b).raise .oe (b2n b) k).rampReverse k (!b)).oeLight k)
      else .next (s.inputGone k b) := by
  have none' : (s.set (laserPresent k b) 0).ramp? k b = none := hr
  refine (if_pos ⟨hk, h⟩).trans ?_
  simp only [none']
  rfl

/-- The other input's ramp is as it was when the loss is reported. -/
theorem State.ramp?_inputGone (k : Nat) (b : Bool) (s : State) : ((s.inputGone k b).raise .oe (b2n b) k).ramp? k (!b) = s.ramp? k (!b) :=
  State.ramp?_congr (State.raise_told .oe (b2n b) k _).accepted k (!b)

theorem State.timer_inputGone (k : Nat) (b : Bool) (s : State) :
    ((s.inputGone k b).raise .oe (b2n b) k).timer (.ramp k (!b)) = s.timer (.ramp k (!b)) :=
  ((State.raise_told .oe (b2n b) k _).timer _).trans (State.timer_stop_ne (by cases b <;> simp) (s.set (laserPresent k b) 0))

/-! ### An input back (05 R200) -/

theorem exec_laserInputReturn_present {k : Nat} {b : Bool} {s : State} (h : s.on (laserPresent k b) = true) :
    exec (.laserInputReturn k b) s = .next s := if_neg (by simp [h])

theorem exec_laserInputReturn_noRamp {k : Nat} {b : Bool} {s : State} (hk : k < 32) (h : s.on (laserPresent k b) = false) (hr : s.ramp? k b = none) :
    exec (.laserInputReturn k b) s = if s.on (laserDrained k b) then .next (s.set (laserPresent k b) 1)
      else .next ((((s.set (laserPresent k b) 1).startOnce (.ramp k b)).raise .oe (2 + b2n b) k).oeLight k) := by
  have start : (s.set (laserPresent k b) 1).rampStart k b = s.set (laserPresent k b) 1 := State.rampStart_none hr
  refine (if_pos ⟨hk, by simp [h]⟩).trans ?_
  simp only [start, State.drained_set_present]

/-! ### The end of a ramp (05 R200, R201) -/

theorem exec_laserRampDone_early {k : Nat} {b : Bool} {s : State} (h : s.ran (.ramp k b) (10 * ms) = false) :
    exec (.laserRampDone k b) s = .next s := if_pos (by simp [h])

theorem exec_laserRampDone_automatic {k : Nat} {b : Bool} {s : State} (h : s.ran (.ramp k b) (10 * ms) = true) (hr : s.ramp? k b = none) :
    exec (.laserRampDone k b) s = .next (s.stop (.ramp k b)) := by
  refine (if_neg (by simp [h])).trans ?_
  simp only [hr]

theorem exec_laserRampDone_drain {k : Nat} {b : Bool} {s : State} {x : Cmd} (h : s.ran (.ramp k b) (10 * ms) = true) (hr : s.ramp? k b = some x)
    (hx : isDrain x = true) : exec (.laserRampDone k b) s = .next (((s.set (laserDrained k b) 1).oeLight k).rampEnd k b rOk) := by
  refine (if_neg (by simp [h])).trans ?_
  simp only [hr, hx, if_true]

theorem exec_laserRampDone_restore {k : Nat} {b : Bool} {s : State} {x : Cmd} (h : s.ran (.ramp k b) (10 * ms) = true) (hr : s.ramp? k b = some x)
    (hx : isDrain x = false) : exec (.laserRampDone k b) s =
      .next ((((s.set (laserDrained k b) 0).when (s.on (laserDrained k b)) (State.raise .oe (2 + b2n b) k)).oeLight k).rampEnd k b rOk) := by
  refine (if_neg (by simp [h])).trans ?_
  simp only [hr, hx, Bool.false_eq_true, if_false]

/-! ### Monitoring (05 R202) -/

theorem satInt_lt (w : Nat) (i : Int) : satInt w i < 2 ^ w := by
  have pos : (0 : Int) < ((2 ^ w : Nat) : Int) := by exact_mod_cast Nat.two_pow_pos w
  unfold satInt ofInt
  exact (Int.toNat_lt (Int.emod_nonneg _ (Int.ne_of_gt pos))).2 (Int.emod_lt_of_pos _ pos)

theorem State.get_setI_self {f : Fld} (h : f.lsb + f.w ≤ 32) (i : Int) (s : State) : (s.setI f i).get f = satInt f.w i :=
  (State.get_set_self h _ s).trans (Nat.mod_eq_of_lt (satInt_lt ..))

/-- What a lane's power does: it moves the alarms that stand, or one of them begins and shows in OE_STATUS and OE_EVENT. -/
theorem State.lanePower_cases (k l : Nat) (rx : Bool) (v : Int) (s : State) :
    (∃ o, s.lanePower k l rx v = { s with oeLow := o }) ∨ ∃ (o : List Nat) (f : Fld) (n : Nat), f.addr = R.OE_STATUS k ∧ 3 ≤ f.lsb ∧
      s.lanePower k l rx v = (({ s with oeLow := o } : State).set f 1).raise .oe n k := by
  unfold State.lanePower
  cases rx
  · simp only [Bool.false_eq_true, if_false]
    split
    · exact .inl ⟨_, rfl⟩
    · split
      · exact .inr ⟨_, F.OE_STATUS_TX_LOW k, 7, rfl, show 3 ≤ 8 by decide, rfl⟩
      · exact .inl ⟨s.oeLow, rfl⟩
  · simp only [if_true]
    split
    · exact .inl ⟨_, rfl⟩
    · split
      · exact .inr ⟨_, F.OE_STATUS_RX_LOW k, 6, rfl, show 3 ≤ 7 by decide, rfl⟩
      · exact .inl ⟨s.oeLow, rfl⟩

theorem State.rd_oeLow (o : List Nat) (s : State) (a : Nat) : ({ s with oeLow := o } : State).rd a = s.rd a := rfl

theorem State.rd_lanePower {k a : Nat} (h : a ≠ R.OE_STATUS k) (h' : a ≠ R.OE_EVENT k) (ht : ¬ToldAt a) (l : Nat) (rx : Bool) (v : Int) (s : State) :
    (s.lanePower k l rx v).rd a = s.rd a := by
  rcases State.lanePower_cases k l rx v s with ⟨o, e⟩ | ⟨o, f, n, hf, -, e⟩
  · rw [e, State.rd_oeLow]
  · rw [e, State.rd_raise (blk := .oe) n k _ ht h', State.rd_set_ne (by rwa [hf]), State.rd_oeLow]

/-- An alarm is not the engine's state. -/
theorem State.oe_set_ne {k : Nat} {f : Fld} (ha : R.OE_STATUS k = f.addr) (h : 3 ≤ f.lsb) (v : Nat) (s : State) : (s.set f v).oe k = s.oe k :=
  State.get_set_ne (f := f) (g := F.OE_STATUS_STATE k) ha (.inl h) (show 0 + 3 ≤ 32 by decide) v s

theorem State.oe_of_rd {k : Nat} {s t : State} (h : t.rd (R.OE_STATUS k) = s.rd (R.OE_STATUS k)) : t.oe k = s.oe k :=
  State.get_addr (f := F.OE_STATUS_STATE k) h

theorem State.oe_lanePower {k : Nat} (hk : k < 32) (l : Nat) (rx : Bool) (v : Int) (s : State) : (s.lanePower k l rx v).oe k = s.oe k := by
  have told : ¬ToldAt (R.OE_STATUS k) := not_toldAt_optics (by unfold R.OE_STATUS; omega) (by unfold R.OE_STATUS; omega)
  have event : R.OE_STATUS k ≠ R.OE_EVENT k := by
    unfold R.OE_STATUS R.OE_EVENT
    omega
  rcases State.lanePower_cases k l rx v s with ⟨o, e⟩ | ⟨o, f, n, hf, hl, e⟩
  · rw [e, State.oe_of_rd (State.rd_oeLow o s _)]
  · rw [e, State.oe_of_rd (State.rd_raise (blk := .oe) n k _ told event), State.oe_set_ne hf.symm hl, State.oe_of_rd (State.rd_oeLow o s _)]

/-- The powers of lane `l` shown, and held against their thresholds. -/
def State.laneMonitored (k : Nat) (pw : List (Int × Int)) (l : Nat) (s : State) : State :=
  let v := pw.getD l (0, 0)
  let s := (s.setI (F.OE_LANE_PWR_TX_CDBM k l) v.1).setI (F.OE_LANE_PWR_RX_CDBM k l) v.2
  (s.lanePower k l true v.2).lanePower k l false v.1

/-- The laser inputs and the temperature of an engine shown. -/
def State.inputsMonitored (k : Nat) (lsa lsb ots : Int) (s : State) : State :=
  ((s.setI (F.OE_LASER_LSA_CDBM k) lsa).setI (F.OE_LASER_LSB_CDBM k) lsb).setI (F.OE_TEMP_OTS k) ots

/-- The alarm bits of an engine as they stand, and the hottest engine. -/
def State.alarmsShown (k : Nat) (s : State) : State :=
  ((s.setB (F.OE_STATUS_RX_LOW k) (s.oeLow.any (fun x => x / 16 == k && x % 2 == b2n true))).setB (F.OE_STATUS_TX_LOW k)
    (s.oeLow.any (fun x => x / 16 == k && x % 2 == b2n false))).updOeMax

theorem exec_opticalMonitorUpdate {k : Nat} (hk : k < 32) (lsa lsb ots : Int) (pw : List (Int × Int)) (s : State) :
    exec (.opticalMonitorUpdate k lsa lsb ots pw) s =
      .next (((s.inputsMonitored k lsa lsb ots).forEach (List.range 8) (State.laneMonitored k pw)).alarmsShown k) := if_pos hk

/-- A register of engine `k` that only its readings change. -/
def IsReading (k a : Nat) : Prop := 0x18000C + 0x1000 * k ≤ a ∧ a < 0x181000 + 0x1000 * k

theorem State.rd_alarmsShown {k a : Nat} (hk : k < 32) (h : IsReading k a) (s : State) : (s.alarmsShown k).rd a = s.rd a := by
  obtain ⟨h1, h2⟩ := h
  have status : a ≠ R.OE_STATUS k := by
    unfold R.OE_STATUS
    omega
  refine (State.rd_set_ne (f := F.PWR_TEMP_OE_MAX) (by show a ≠ R.PWR_TEMP; unfold R.PWR_TEMP; omega) _ _).trans ?_
  exact (State.rd_set_ne (f := F.OE_STATUS_TX_LOW k) status _ _).trans (State.rd_set_ne (f := F.OE_STATUS_RX_LOW k) status _ s)

theorem State.oe_alarmsShown {k : Nat} (hk : k < 32) (s : State) : (s.alarmsShown k).oe k = s.oe k := by
  refine (State.oe_of_rd (State.rd_set_ne (f := F.PWR_TEMP_OE_MAX) ?_ _ _)).trans ?_
  · show R.OE_STATUS k ≠ R.PWR_TEMP
    unfold R.OE_STATUS R.PWR_TEMP
    omega
  · exact (State.oe_set_ne (f := F.OE_STATUS_TX_LOW k) rfl (show 3 ≤ 8 by decide) _ _).trans
      (State.oe_set_ne (f := F.OE_STATUS_RX_LOW k) rfl (show 3 ≤ 7 by decide) _ s)

theorem State.rd_lanePowers {k a : Nat} (hk : k < 32) (h : IsReading k a) (l : Nat) (v : Int × Int) (s : State) :
    ((s.lanePower k l true v.2).lanePower k l false v.1).rd a = s.rd a := by
  obtain ⟨h1, h2⟩ := h
  have status : a ≠ R.OE_STATUS k := by
    unfold R.OE_STATUS
    omega
  have event : a ≠ R.OE_EVENT k := by
    unfold R.OE_EVENT
    omega
  have told : ¬ToldAt a := not_toldAt_optics (by omega) (by omega)
  exact (State.rd_lanePower status event told ..).trans (State.rd_lanePower status event told ..)

theorem State.rd_laneMonitored_ne {k a l : Nat} (hk : k < 32) (h : IsReading k a) (hl : a ≠ R.OE_LANE_PWR k l) (pw : List (Int × Int)) (s : State) :
    (s.laneMonitored k pw l).rd a = s.rd a :=
  (State.rd_lanePowers hk h l (pw.getD l (0, 0)) _).trans
    ((State.rd_set_ne (f := F.OE_LANE_PWR_RX_CDBM k l) hl _ _).trans (State.rd_set_ne (f := F.OE_LANE_PWR_TX_CDBM k l) hl _ s))

theorem State.oe_laneMonitored {k : Nat} (hk : k < 32) (l : Nat) (pw : List (Int × Int)) (s : State) : (s.laneMonitored k pw l).oe k = s.oe k := by
  have reading : R.OE_STATUS k ≠ R.OE_LANE_PWR k l := by
    unfold R.OE_STATUS R.OE_LANE_PWR
    omega
  refine (State.oe_lanePower hk ..).trans ((State.oe_lanePower hk ..).trans (State.oe_of_rd ?_))
  exact (State.rd_set_ne (f := F.OE_LANE_PWR_RX_CDBM k l) reading _ _).trans (State.rd_set_ne (f := F.OE_LANE_PWR_TX_CDBM k l) reading _ s)

/-- The powers of a lane as measured. -/
def State.showsPower (k l : Nat) (v : Int × Int) (s : State) : Prop :=
  s.get (F.OE_LANE_PWR_TX_CDBM k l) = satInt 16 v.1 ∧ s.get (F.OE_LANE_PWR_RX_CDBM k l) = satInt 16 v.2

theorem State.showsPower_of_rd {k l : Nat} {v : Int × Int} {s t : State} (h : t.rd (R.OE_LANE_PWR k l) = s.rd (R.OE_LANE_PWR k l))
    (hs : s.showsPower k l v) : t.showsPower k l v :=
  ⟨(State.get_addr (f := F.OE_LANE_PWR_TX_CDBM k l) h).trans hs.1, (State.get_addr (f := F.OE_LANE_PWR_RX_CDBM k l) h).trans hs.2⟩

theorem isReading_lanePwr {k l : Nat} (hl : l < 8) : IsReading k (R.OE_LANE_PWR k l) := by
  unfold IsReading R.OE_LANE_PWR
  omega

theorem State.showsPower_laneMonitored {k l : Nat} (hk : k < 32) (hl : l < 8) (pw : List (Int × Int)) (s : State) :
    (s.laneMonitored k pw l).showsPower k l (pw.getD l (0, 0)) := by
  refine State.showsPower_of_rd (State.rd_lanePowers hk (isReading_lanePwr hl) l (pw.getD l (0, 0)) _) ⟨?_, ?_⟩
  · refine (State.get_set_ne (f := F.OE_LANE_PWR_RX_CDBM k l) (g := F.OE_LANE_PWR_TX_CDBM k l) rfl (.inl (show 0 + 16 ≤ 16 by decide))
      (show 0 + 16 ≤ 32 by decide) _ _).trans ?_
    exact State.get_setI_self (f := F.OE_LANE_PWR_TX_CDBM k l) (show 0 + 16 ≤ 32 by decide) _ s
  · exact State.get_setI_self (f := F.OE_LANE_PWR_RX_CDBM k l) (show 16 + 16 ≤ 32 by decide) _ _

/-- Each lane shows what was measured of it: no other lane's powers stand in its register. -/
theorem State.showsPower_monitored {k l : Nat} (hk : k < 32) (hl : l < 8) (pw : List (Int × Int)) (s : State) :
    (s.forEach (List.range 8) (State.laneMonitored k pw)).showsPower k l (pw.getD l (0, 0)) := by
  refine State.forEach_establishes (P := State.showsPower k l (pw.getD l (0, 0))) (List.mem_range.2 hl)
    (State.showsPower_laneMonitored hk hl pw) (fun m _ s hs => ?_) s
  by_cases e : l = m
  · exact e ▸ State.showsPower_laneMonitored hk hl pw s
  · refine State.showsPower_of_rd (State.rd_laneMonitored_ne hk (isReading_lanePwr hl) ?_ pw s) hs
    unfold R.OE_LANE_PWR
    omega

/-- A reading that is no lane's power stays while the lanes are monitored. -/
theorem State.rd_monitored {k a : Nat} (hk : k < 32) (h : IsReading k a) (hl : a < 0x180020 + 0x1000 * k) (pw : List (Int × Int)) (s : State) :
    ((s.forEach (List.range 8) (State.laneMonitored k pw)).alarmsShown k).rd a = s.rd a :=
  (State.rd_alarmsShown hk h _).trans
    (State.rd_forEach_ne (fun l _ => State.rd_laneMonitored_ne hk h (by unfold R.OE_LANE_PWR; omega) pw) s)

theorem State.get_inputsMonitored (k : Nat) (lsa lsb ots : Int) (s : State) :
    (s.inputsMonitored k lsa lsb ots).get (F.OE_LASER_LSA_CDBM k) = satInt 16 lsa ∧
      (s.inputsMonitored k lsa lsb ots).get (F.OE_LASER_LSB_CDBM k) = satInt 16 lsb ∧
      (s.inputsMonitored k lsa lsb ots).get (F.OE_TEMP_OTS k) = satInt 16 ots := by
  have apart : R.OE_LASER k ≠ R.OE_TEMP k := by
    unfold R.OE_LASER R.OE_TEMP
    omega
  have temp : ∀ (g : Fld) (s : State), g.addr = R.OE_LASER k → (s.setI (F.OE_TEMP_OTS k) ots).get g = s.get g := fun g s hg =>
    State.get_set_addr (f := F.OE_TEMP_OTS k) (by rw [hg]; exact apart) _ s
  refine ⟨(temp (F.OE_LASER_LSA_CDBM k) _ rfl).trans ?_, (temp (F.OE_LASER_LSB_CDBM k) _ rfl).trans ?_, ?_⟩
  · refine (State.get_set_ne (f := F.OE_LASER_LSB_CDBM k) (g := F.OE_LASER_LSA_CDBM k) rfl (.inl (show 0 + 16 ≤ 16 by decide))
      (show 0 + 16 ≤ 32 by decide) _ _).trans ?_
    exact State.get_setI_self (f := F.OE_LASER_LSA_CDBM k) (show 0 + 16 ≤ 32 by decide) lsa s
  · exact State.get_setI_self (f := F.OE_LASER_LSB_CDBM k) (show 16 + 16 ≤ 32 by decide) lsb _
  · exact State.get_setI_self (f := F.OE_TEMP_OTS k) (show 0 + 16 ≤ 32 by decide) ots _

theorem State.oe_inputsMonitored (k : Nat) (lsa lsb ots : Int) (s : State) : (s.inputsMonitored k lsa lsb ots).oe k = s.oe k := by
  have laser : R.OE_STATUS k ≠ R.OE_LASER k := by
    unfold R.OE_STATUS R.OE_LASER
    omega
  have temp : R.OE_STATUS k ≠ R.OE_TEMP k := by
    unfold R.OE_STATUS R.OE_TEMP
    omega
  exact State.oe_of_rd ((State.rd_set_ne (f := F.OE_TEMP_OTS k) temp _ _).trans
    ((State.rd_set_ne (f := F.OE_LASER_LSB_CDBM k) laser _ _).trans (State.rd_set_ne (f := F.OE_LASER_LSA_CDBM k) laser _ s)))

/-! ### ENGINE_SET (05 R201, R206, R209) -/

theorem State.fetched_oe (d : Submission) (s : State) (k : Nat) : (s.fetched d).oe k = s.oe k := State.fetched_get ..

theorem State.fetched_oeCool (d : Submission) (s : State) (k : Nat) : (s.fetched d).oeCool k = s.oeCool k :=
  congrArg (fun v => decide (toInt 16 v < 600)) (State.fetched_get d s (F.OE_TEMP_OTS k))

theorem State.fetched_ramp? (d : Submission) (s : State) (k : Nat) (b : Bool) : (s.fetched d).ramp? k b = s.ramp? k b :=
  State.ramp?_congr (State.fetched_accepted d s) k b

theorem State.fetched_drawn (d : Submission) (s : State) (k : Nat) (b : Bool) : (s.fetched d).drawn k b = s.drawn k b := by
  have timer : (s.fetched d).timer (.ramp k b) = s.timer (.ramp k b) := by
    rw [State.fetched_eq]
    rfl
  simp only [State.drawn, State.inUse, State.fetched_on, State.fetched_ramp?, timer]

/-- An ENGINE_SET that ends in its step. -/
theorem specEngine_ends {action code q1 q2 : Nat} {d : Submission} {s t : State} (h : Ready (specEngine action) d s)
    (ha : engineAct action (cmdOf 0x42 d s) (s.fetched d) = (t, .done code q1 q2)) :
    (.next ((specEngine action).take 0x42 true d s) : Host.Outcome State Fault Refusal) = .next ((cmdOf 0x42 d s).ended code q1 q2 t) :=
  congrArg Host.Outcome.next (CmdSpec.take_ends h (by decide) (by decide) rfl ha)

/-- An ENGINE_SET that begins in its step. -/
theorem specEngine_begins {action : Nat} {d : Submission} {s t : State} (h : Ready (specEngine action) d s)
    (ha : engineAct action (cmdOf 0x42 d s) (s.fetched d) = (t, .wait)) :
    (.next ((specEngine action).take 0x42 true d s) : Host.Outcome State Fault Refusal) = .next ((cmdOf 0x42 d s).goesOn t) :=
  congrArg Host.Outcome.next (CmdSpec.take_begins h (by decide) (by decide) rfl ha)

/-- An accepted ENGINE_SET has the ACTION of its row. -/
theorem specEngine_action {action : Nat} {d : Submission} {s : State} (h : Ready (specEngine action) d s) : d.b 0 = action := by
  have checked : engineCheck action d = rOk := CmdSpec.check_of_ready h
  unfold engineCheck at checked
  split at checked
  · next g =>
    simp only [Bool.and_eq_true, beq_iff_eq] at g
    exact g.1.1.1
  · exact absurd checked (by decide)

section
variable {c : Cmd} {s : State} {k : Nat} (hk : c.sub.P0 0 5 = k)
include hk

theorem engineAct_powerUp_hot (h : s.oeCool k = false) : engineAct 1 c s = (s, .done rState (s.oe k) 0) := by
  subst hk
  simp [engineAct, h]

theorem engineAct_powerUp_starts (hlt : k < 32) (h : s.oeCool k = true) (hs : s.oe k = oeOff ∨ s.oe k = oeFault ∨ s.oe k = oeShutdown) :
    engineAct 1 c s = (s.oeTo k oeStarting, .done rOk oeStarting 0) := by
  subst hk
  simp [engineAct, h, hs, State.oe_oeTo hlt (show oeStarting < 8 by decide)]

theorem engineAct_powerDown (hlt : k < 32) (h : s.oe k ≠ oeOff) : engineAct 2 c s = (s.oeTo k oeOff, .done rOk oeOff 0) := by
  have powered : (s.oe k != oeOff) = true := bne_iff_ne.2 h
  subst hk
  simp [engineAct, powered, State.oe_oeTo hlt (show oeOff < 8 by decide)]

theorem engineAct_reset_shutdown (h : s.oe k = oeShutdown) : engineAct 3 c s = (s, .done rState oeShutdown 0) := by
  subst hk
  simp [engineAct, h]

theorem engineAct_reset_starts (hlt : k < 32) (h : s.oe k = oeReady ∨ s.oe k = oeNoLight ∨ s.oe k = oeFault) :
    engineAct 3 c s = (s.oeTo k oeStarting, .done rOk oeStarting 0) := by
  have up : s.oe k ≠ oeShutdown := by rcases h with h | h | h <;> rw [h] <;> decide
  have runs : (s.oe k == oeReady || s.oe k == oeNoLight || s.oe k == oeFault) = true := by rcases h with h | h | h <;> simp [h]
  subst hk
  simp [engineAct, up, runs, State.oe_oeTo hlt (show oeStarting < 8 by decide)]

/-- A drain of input `b` while the other is not drawn from. -/
theorem engineAct_drain_refused {b : Bool} (h : s.drawn k (!b) = false) : engineAct (4 + b2n b) c s = (s, .done rState (s.oe k) 0) := by
  subst hk
  cases b <;> exact congrArg (fun x : Bool => if x then _ else _) h

/-- A drain of input `b` begins its ramp at once. -/
theorem engineAct_drain_begins {b : Bool} (h : s.drawn k (!b) = true) (hr : s.ramp? k b = none) (hd : isDrain c = true) :
    engineAct (4 + b2n b) c s = (s.start (.ramp k b), .wait) := by
  subst hk
  cases b
  · simp only [engineAct, b2n, Bool.not_false] at h ⊢
    simp [h, hr, hd]
  · simp only [engineAct, b2n, Bool.not_true] at h ⊢
    simp [h, hr, hd]

/-- A restore of input `b` begins its ramp where the input is present, and else waits for it. -/
theorem engineAct_restore {b : Bool} (hr : s.ramp? k b = none) (hd : isDrain c = false) :
    engineAct (6 + b2n b) c s = (if s.on (laserPresent k b) then s.start (.ramp k b) else s, .wait) := by
  subst hk
  cases b
  · simp [engineAct, b2n, hr, hd]
  · simp [engineAct, b2n, hr, hd]

end

end Sys2Proof.Machine
end

section
/-! What the engines' rows and commands do, put together (02 R75; 05 R199 to R209). -/

namespace Sys2Proof.Machine

open Sys2Proof

/-! ### Starting and tripping (02 R71, R75; 05 R209) -/

section
variable {k : Nat} {s : State}

/-- An engine that starts and is not held for its clock: its self-test and its time limit. -/
theorem exec_engineSelfTestDone_starting (hk : k < 32) (h : s.oe k = oeStarting) (held : s.elemHeld.contains (.engines, k) = false) (ok : Bool) :
    exec (.engineSelfTestDone k ok) s = if ok then .next (s.oeTo k (if s.inUse k false || s.inUse k true then oeReady else oeNoLight))
      else .next ((s.oeTo k oeFault).raise .oe 4 k) := if_pos ⟨hk, h, by rw [held]; rfl⟩

theorem exec_engineStartTimeout_starting (hk : k < 32) (h : s.oe k = oeStarting) (held : s.elemHeld.contains (.engines, k) = false) :
    exec (.engineStartTimeout k) s = if s.ran (.engineStart k) (500 * ms) then .next ((s.oeTo k oeFault).raise .oe 4 k) else .next s := by
  cases ran : s.ran (.engineStart k) (500 * ms)
  · exact if_neg (by simp [ran])
  · exact if_pos ⟨hk, h, by rw [held]; rfl, ran⟩

theorem exec_engine_notStarting (h : s.oe k ≠ oeStarting ∨ s.elemHeld.contains (.engines, k) = true) (b : Bool) :
    exec (.engineSelfTestDone k b) s = .next s ∧ exec (.engineStartTimeout k) s = .next s := by
  have no : ¬(s.oe k = oeStarting ∧ (!s.elemHeld.contains (.engines, k)) = true) := by
    rintro ⟨h1, h2⟩
    rcases h with h | h
    · exact h h1
    · rw [h] at h2
      cases h2
  exact ⟨if_neg (fun g => no g.2), if_neg (fun g => no ⟨g.2.1, g.2.2.1⟩)⟩

end

/-! ### Settled -/

/-- Settles O45: a state put by `State.engineSide_oeTo` and `State.laneRests_oeTo`, each row by the branch that its cause takes, and each
ENGINE_SET by what `engineAct` answers. -/
theorem enginesFollowTheirStates : Obligations.EnginesFollowTheirStates := by
  intro s d k st b lsa lsb ots pw x hk t c
  refine ⟨?put, ?starting, fun h => exec_engine_notStarting h b, ?cool, ?trip, ?absent, ?present, exec_laserRampDone_early,
    exec_laserRampDone_automatic, ?ramp, ?monitor, ?commands⟩
  case put =>
    intro hst
    have side := State.engineSide_oeTo hk (show st < 8 by omega) s
    refine ⟨congrArg Prod.fst side, congrArg Prod.snd side, fun hready n hn => ?_⟩
    rcases State.laneRests_oeTo hk hready hn s with h | h <;> rw [h] <;> decide
  case starting =>
    intro h held
    exact ⟨exec_engineSelfTestDone_starting hk h held true, exec_engineSelfTestDone_starting hk h held false,
      fun ran => (exec_engineStartTimeout_starting hk h held).trans (if_pos ran),
      fun ran => (exec_engineStartTimeout_starting hk h held).trans (if_neg (by simp [ran]))⟩
  case cool => exact fun h => if_neg (fun g => by omega)
  case trip =>
    intro h hs
    exact if_pos ⟨hk, h, by tauto⟩
  case absent =>
    intro h
    refine ⟨exec_laserInputLost_absent h, fun hr drained => ?_, fun hr used => ?_⟩
    · exact (exec_laserInputReturn_noRamp hk h hr).trans (if_pos drained)
    · exact (exec_laserInputReturn_noRamp hk h hr).trans (if_neg (by simp [used]))
  case present =>
    intro h
    refine ⟨exec_laserInputReturn_present h, fun hr => ⟨fun drained => ?_, fun used other => ?_, fun used other runs => ?_⟩⟩
    · exact (exec_laserInputLost_noRamp hk h hr).trans (if_neg (by simp [State.inUse, drained]))
    · rw [← State.ramp?_inputGone, ← State.timer_inputGone] at other
      rw [exec_laserInputLost_noRamp hk h hr, if_pos (by simp [State.inUse, h, used]), State.rampReverse_idle other]
      rfl
    · rw [← State.ramp?_inputGone] at other
      rw [← State.timer_inputGone] at runs
      rw [exec_laserInputLost_noRamp hk h hr, if_pos (by simp [State.inUse, h, used]), State.rampReverse_running other runs]
      rfl
  case ramp =>
    intro hr ran
    refine ⟨exec_laserRampDone_drain ran hr, fun restore drained => ?_⟩
    rw [exec_laserRampDone_restore ran hr restore, drained, State.when_true]
  case monitor =>
    obtain ⟨inA, inB, temp⟩ := State.get_inputsMonitored k lsa lsb ots s
    have laser := State.rd_monitored (a := R.OE_LASER k) hk (by unfold IsReading R.OE_LASER; omega) (by unfold R.OE_LASER; omega) pw
      (s.inputsMonitored k lsa lsb ots)
    have sensor := State.rd_monitored (a := R.OE_TEMP k) hk (by unfold IsReading R.OE_TEMP; omega) (by unfold R.OE_TEMP; omega) pw
      (s.inputsMonitored k lsa lsb ots)
    refine ⟨_, exec_opticalMonitorUpdate hk lsa lsb ots pw s, (State.get_addr (f := F.OE_LASER_LSA_CDBM k) laser).trans inA,
      (State.get_addr (f := F.OE_LASER_LSB_CDBM k) laser).trans inB, (State.get_addr (f := F.OE_TEMP_OTS k) sensor).trans temp, fun l hl => ?_, ?_⟩
    · exact State.showsPower_of_rd (State.rd_alarmsShown hk (isReading_lanePwr hl) _) (State.showsPower_monitored hk hl pw _)
    · exact (State.oe_alarmsShown hk _).trans ((State.view_forEach (v := fun s => s.oe k) (fun l _ => State.oe_laneMonitored hk l pw) _).trans
        (State.oe_inputsMonitored k lsa lsb ots s))
  case commands =>
    intro hd
    have hc : c.sub.P0 0 5 = k := hd
    have oe : t.oe k = s.oe k := State.fetched_oe d s k
    have noRamp : ∀ {b}, s.ramp? k b = none → t.ramp? k b = none := fun h => (State.fetched_ramp? d s k _).trans h
    have drawn : ∀ b, t.drawn k b = s.drawn k b := State.fetched_drawn d s k
    have present : ∀ b, t.on (laserPresent k b) = s.on (laserPresent k b) := fun b => State.fetched_on d s _
    have drains : ∀ {a}, Ready (specEngine a) d s → isDrain c = (a == 4 || a == 5) := fun {a} h => by
      show (d.b 0 == 4 || d.b 0 == 5) = _
      rw [specEngine_action h]
    refine ⟨?configure, ?powerUp, ?powerDown, ?reset, ?drainA, ?drainB, ?restoreA, ?restoreB⟩
    case configure =>
      subst hd
      exact fun h => ⟨_, specEngine_ends h rfl, rfl⟩
    case powerUp =>
      intro h
      rw [← State.fetched_oeCool d s k, ← oe]
      exact ⟨fun hot => specEngine_ends h (engineAct_powerUp_hot hc hot),
        fun cool from_ => specEngine_ends h (engineAct_powerUp_starts hc hk cool from_)⟩
    case powerDown =>
      intro h
      rw [← oe]
      exact fun on => specEngine_ends h (engineAct_powerDown hc hk on)
    case reset =>
      intro h
      rw [← oe]
      exact ⟨fun shut => specEngine_ends h (engineAct_reset_shutdown hc shut), fun runs => specEngine_ends h (engineAct_reset_starts hc hk runs)⟩
    case drainA =>
      intro h
      rw [← drawn, ← oe]
      exact ⟨fun no => specEngine_ends h (engineAct_drain_refused (b := false) hc no),
        fun yes hr => specEngine_begins h (engineAct_drain_begins (b := false) hc yes (noRamp hr) (drains h))⟩
    case drainB =>
      intro h
      rw [← drawn, ← oe]
      exact ⟨fun no => specEngine_ends h (engineAct_drain_refused (b := true) hc no),
        fun yes hr => specEngine_begins h (engineAct_drain_begins (b := true) hc yes (noRamp hr) (drains h))⟩
    case restoreA =>
      intro h hr
      rw [← present]
      have acts := engineAct_restore (b := false) hc (noRamp hr) (drains h)
      exact ⟨fun on => specEngine_begins h (acts.trans (by rw [if_pos on])), fun off => specEngine_begins h (acts.trans (by rw [off]; rfl))⟩
    case restoreB =>
      intro h hr
      rw [← present]
      have acts := engineAct_restore (b := true) hc (noRamp hr) (drains h)
      exact ⟨fun on => specEngine_begins h (acts.trans (by rw [if_pos on])), fun off => specEngine_begins h (acts.trans (by rw [off]; rfl))⟩

end Sys2Proof.Machine
end

section
/-! What a reset of system scope leaves, beside the lasting part of the state (03 R83, R117). -/

namespace Sys2Proof.Machine

open Sys2Proof

/-- What the module works on for its host and its ports, and what it has put into host memory. -/
def State.carried (s : State) :
    (Tbl RingSt × List Cmd × Tbl Frame) × (Tbl (List Byte) × Tbl FdbEntry × List Shuttle) × (List (Timer × Nat) × Nat) ×
      Tbl (List Byte) × Tbl (List Byte) :=
  ((s.rings, s.accepted, s.frames), (s.rules, s.fdb, s.shuttles), (s.timers, s.nt), s.cq, s.rxData)

/-- A reset of system scope drops all of that but what stands in host memory. -/
theorem State.systemReset_carried (c : Nat) (s : State) :
    (s.systemReset c).carried = (([], [], []), ([], [], []), ([], 0), s.cq, s.rxData) := by
  have restored : ∀ l : List Nat, (s.cleared.forEach l (fun a => State.wr a (s.rd a))).carried = s.cleared.carried := fun l =>
    State.view_forEach (v := State.carried) (f := fun a => State.wr a (s.rd a)) (fun _ _ _ => rfl) s.cleared
  refine Eq.trans ?_ (restored (resetKeeps c))
  show State.carried (if c = 0 then _ else _) = _
  split <;> rfl

/-- A word of the always-on domain stays (03 R83; log entry 69). -/
theorem State.systemReset_rd_aon {c a : Nat} (hc : 1 < c) (h : a ∈ aonWords) (h1 : a ≠ R.RST_CAUSE) (h2 : a ≠ R.PWR_BP_STATUS) (s : State) :
    (s.systemReset c).rd a = s.rd a := by
  have keeps : resetKeeps c = aonWords := if_neg (by omega)
  rw [State.systemReset_rd c s h1 h2, if_neg (fun e => absurd (e ▸ h) (by decide)), if_neg (fun e => absurd (e ▸ h) (by decide)), keeps, if_pos h]

/-- Any other word but those of the domains and the boot is at its reset value. -/
theorem State.systemReset_rd_other {c a : Nat} (hc : 1 < c) (h : a ∉ [R.RST_DOMAIN, R.RST_BOOT] ++ aonWords) (s : State) :
    (s.systemReset c).rd a = resetWord a := by
  have keeps : resetKeeps c = aonWords := if_neg (by omega)
  have ne : ∀ b ∈ [R.RST_DOMAIN, R.RST_BOOT] ++ aonWords, a ≠ b := fun b hb e => h (e ▸ hb)
  rw [State.systemReset_rd c s (ne _ (by decide)) (ne _ (by decide)), if_neg (ne _ (by decide)), if_neg (ne _ (by decide)), keeps,
    if_neg (fun g => h (List.mem_append_right _ g))]

/-- Every other cause stays beside the one that the reset sets. -/
theorem State.systemReset_cause_bits {c k : Nat} (hc : 1 < c) (hk : k < 32) (s : State) :
    ((s.systemReset c).rd R.RST_CAUSE).getLsbD k = ((s.rd R.RST_CAUSE).getLsbD k || k == c) := by
  have keeps : resetKeeps c = aonWords := if_neg (by omega)
  have restored : (s.cleared.forEach (resetKeeps c) (fun a => State.wr a (s.rd a))).rd R.RST_CAUSE = s.rd R.RST_CAUSE := by
    rw [State.rd_restore, keeps, if_pos (by decide)]
  rw [State.systemReset_cause, if_neg (by omega), State.rd_stick]
  refine (State.rd_setB_bit (a := R.RST_CAUSE) (b := c) hk true _).trans ?_
  rw [restored]
  by_cases e : k = c <;> simp [e]

theorem State.systemReset_keepActive (c : Nat) (s : State) : (s.systemReset c).get F.PWR_BP_STATUS_KEEP_ACTIVE = 0 :=
  (State.get_set_addr (f := F.RST_BOOT_STEP) (g := F.PWR_BP_STATUS_KEEP_ACTIVE) (by decide) 1 _).trans
    ((State.get_set_addr (f := F.RST_DOMAIN_HELD) (g := F.PWR_BP_STATUS_KEEP_ACTIVE) (by decide) 0x1FF _).trans
      (State.get_set_self (f := F.PWR_BP_STATUS_KEEP_ACTIVE) (by decide) 0 _))

theorem exec_resetNAssert_on {s : State} (h : s.supply = .on) :
    exec .resetNAssert s = .next (({ s with resetN := false } : State).systemReset 2) := by
  show execResetNAssert s = _
  rw [execResetNAssert, h]
  rfl

/-- Settles O13: the registers by `State.systemReset_rd_aon` and `State.systemReset_rd_other`, the rest by `State.systemReset_carried` and
`State.systemReset_lasting`. -/
theorem systemResetClearsEveryRegister : Obligations.SystemResetClearsEveryRegister := by
  unfold Obligations.SystemResetClearsEveryRegister
  intro s on
  have two : 1 < 2 := by decide
  refine ⟨_, exec_resetNAssert_on on, fun a h => State.systemReset_rd_other two h _, fun a h h1 h2 => State.systemReset_rd_aon two h h1 h2 _,
    State.systemReset_keepActive .., State.systemReset_held .., State.systemReset_bootStep ..,
    fun k hk => State.systemReset_cause_bits two hk _, ?_⟩
  have carried := State.systemReset_carried 2 { s with resetN := false }
  simp only [State.carried, Prod.mk.injEq] at carried
  obtain ⟨⟨rings, accepted, frames⟩, ⟨rules, fdb, shuttles⟩, ⟨timers, nt⟩, cq, rxData⟩ := carried
  obtain ⟨-, ⟨nor, commits, ledger⟩, pending⟩ := State.lasting_iff.1 (State.systemReset_lasting 2 { s with resetN := false })
  exact ⟨rings, accepted, frames, rules, fdb, shuttles, timers, nt, ledger, commits, nor, cq, rxData, pending⟩

end Sys2Proof.Machine
end

section
/-! Resets by software: RST_SWREQ before RUN, and RESET of the MGMT rings (03 R86, R115; 18 R620 to R622). -/

namespace Sys2Proof.Machine

open Sys2Proof

/-! ### RST_SWREQ (03 R86) -/

theorem State.swReq_system {v : Word} {s : State} (run : s.run = false) (key : bits v.toNat 16 16 = 0x5A3C) (scope : bits v.toNat 0 4 = 0) :
    s.swReq [0] v = s.systemReset 7 := by
  simp [State.swReq, run, key, scope, scopeOk]

/-- A request of another scope whose index names something. -/
theorem State.swReq_scope {v : Word} {s : State} {n : Nat} {scopes : List Nat} (run : s.run = false) (key : bits v.toNat 16 16 = 0x5A3C)
    (scope : bits v.toNat 0 4 = n) (hn : n ≠ 0) (named : n ∈ scopes) (ok : scopeOk n (bits v.toNat 4 9) = true)
    (port : n = 9 → s.portIndexOk (bits v.toNat 4 9) = true) : s.swReq scopes v = (s.noteCause 7).scopeReset n (bits v.toNat 4 9) := by
  have valid : ¬(n = 9 ∧ s.portIndexOk (bits v.toNat 4 9) = false) := fun ⟨e, h⟩ => by simp [port e] at h
  simp [State.swReq, run, key, scope, ok, named, hn, valid]

/-- A request while RUN is 1, without the key, or of an index that names nothing. -/
theorem State.swReq_ignored {v : Word} {s : State} (h : s.run = true ∨ bits v.toNat 16 16 ≠ 0x5A3C ∨
    scopeOk (bits v.toNat 0 4) (bits v.toNat 4 9) = false ∨ bits v.toNat 0 4 = 9 ∧ s.portIndexOk (bits v.toNat 4 9) = false) (scopes : List Nat) :
    s.swReq scopes v = s := by
  refine if_pos ?_
  rcases h with run | key | bad | ⟨nine, bad⟩
  · exact .inl run
  · exact .inr (.inl key)
  · exact .inr (.inr (.inr (.inl (by rw [bad]; rfl))))
  · exact .inr (.inr (.inr (.inr ⟨nine, by rw [bad]; rfl⟩)))

/-- The scopes and indices outside the encoding of RST_SWREQ (03 R115). -/
theorem scopeOk_outside {scope i : Nat}
    (h : 9 < scope ∨ scope = 3 ∧ 36 ≤ i ∨ scope ∈ [4, 5] ∧ 32 ≤ i ∨ scope = 6 ∧ 272 ≤ i ∨ scope = 8 ∧ 4 ≤ i) :
    scopeOk scope i = false := by
  simp only [List.mem_cons, List.not_mem_nil, or_false] at h
  rcases h with h | ⟨rfl, h⟩ | ⟨rfl | rfl, h⟩ | ⟨rfl, h⟩ | ⟨rfl, h⟩
  · obtain ⟨n, rfl⟩ := Nat.exists_eq_add_of_le' h
    exact decide_eq_false (show ¬n + (9 + 1) ≤ 9 by omega)
  all_goals exact decide_eq_false (by omega)

/-- Settles O10: a request that is taken by `State.swReq_system` and `State.swReq_scope`, any other by `State.swReq_ignored`. -/
theorem softwareRequestsResetWhatTheyName : Obligations.SoftwareRequestsResetWhatTheyName := by
  unfold Obligations.SoftwareRequestsResetWhatTheyName
  intro s v scope i caused
  refine ⟨fun run key => ?taken, fun h c hc => ?ignored⟩
  case taken =>
    have inScope : ∀ (n : Nat) (scopes : List Nat), scope = n → n ∈ [1, 2, 3, 4, 5, 6, 7, 8] → n ∈ scopes → scopeOk n i = true →
        (.next (s.swReq scopes v) : Host.Outcome State Fault Refusal) = .next (caused.scopeReset n i) := fun n scopes h hn named ok =>
      congrArg Host.Outcome.next (State.swReq_scope run key h (by rintro rfl; simp at hn) named ok (by rintro rfl; simp at hn))
    refine ⟨fun h => ?system, fun h => inScope 1 [1, 2] h (by decide) (by decide) rfl, fun h => inScope 2 [1, 2] h (by decide) (by decide) rfl,
      fun h hi => inScope 3 [3] h (by decide) (by decide) (decide_eq_true hi),
      fun h hi => inScope 4 [4] h (by decide) (by decide) (decide_eq_true hi),
      fun h hi => inScope 5 [5] h (by decide) (by decide) (decide_eq_true hi),
      fun h hi => inScope 6 [6] h (by decide) (by decide) (decide_eq_true hi),
      fun h => inScope 7 [7] h (by decide) (by decide) rfl, fun h hi => inScope 8 [8] h (by decide) (by decide) (decide_eq_true hi),
      fun h port => congrArg Host.Outcome.next (State.swReq_scope (n := 9) (scopes := [9]) run key h (by decide) (by decide) rfl (fun _ => port))⟩
    obtain ⟨⟨supply, -, -⟩, ⟨nor, commits, ledger⟩, -⟩ := State.lasting_iff.1 (State.systemReset_lasting 7 s)
    exact ⟨_, congrArg Host.Outcome.next (State.swReq_system run key h), State.systemReset_cause_bit (by decide) (by decide) s,
      State.systemReset_held .., State.systemReset_bootStep .., supply, ledger, commits, nor⟩
  case ignored =>
    have same : ∀ scopes, s.swReq scopes v = s := by
      refine State.swReq_ignored ?_
      rcases h with run | key | far | node | pair | lane | syn | port
      · exact .inl run
      · exact .inr (.inl key)
      · exact .inr (.inr (.inl (scopeOk_outside (.inl far))))
      · exact .inr (.inr (.inl (scopeOk_outside (.inr (.inl node)))))
      · exact .inr (.inr (.inl (scopeOk_outside (.inr (.inr (.inl pair))))))
      · exact .inr (.inr (.inl (scopeOk_outside (.inr (.inr (.inr (.inl lane)))))))
      · exact .inr (.inr (.inl (scopeOk_outside (.inr (.inr (.inr (.inr syn)))))))
      · exact .inr (.inr (.inr port))
    simp only [List.mem_cons, List.not_mem_nil, or_false] at hc
    rcases hc with rfl | rfl | rfl | rfl | rfl | rfl | rfl | rfl | rfl <;> exact congrArg Host.Outcome.next (same _)

/-! ### RESET (18 R620 to R622) -/

theorem State.takeReset_of_scope {scopes : List Nat} {d : Submission} (h : d.P0 0 4 ∈ scopes) (s : State) :
    s.takeReset scopes d = specReset.take 0x43 true d s :=
  if_pos (List.contains_iff_mem.2 h)

theorem State.fetched_complexResetRefused (d : Submission) (s : State) (b : Bool) :
    (s.fetched d).complexResetRefused b = s.complexResetRefused b := by
  simp [State.complexResetRefused, State.groom]

/-- 18 R621: a complex whose partner is IN_STEP, or that is RETIRED itself, may be reset while no handover runs. -/
theorem State.complexResetRefused_eq_false {s : State} {b : Bool} (handover : s.on F.GROOM_STATUS_HANDOVER = false)
    (h : s.groom (!b) = gsInStep ∨ s.groom b = gsRetired) : s.complexResetRefused b = false := by
  rcases h with h | h <;> simp [State.complexResetRefused, handover, h]

theorem State.complexResetRefused_eq_true {s : State} {b : Bool}
    (h : s.on F.GROOM_STATUS_HANDOVER = true ∨ s.groom (!b) ≠ gsInStep ∧ s.groom b ≠ gsRetired) : s.complexResetRefused b = true := by
  rcases h with h | ⟨h1, h2⟩
  · simp [State.complexResetRefused, h]
  · simp [State.complexResetRefused, h1, h2]

theorem specReset_act_system {c : Cmd} {s : State} (h : c.sub.P0 0 4 = 0) :
    specReset.act c s = ((c.ended rOk 0 0 s).systemReset 7, .gone) := if_pos h

theorem specReset_act_timing {c : Cmd} {s : State} (h : c.sub.P0 0 4 = 7) :
    specReset.act c s = (((c.ended rOk 0 0 s).noteCause 7).timingReset, .gone) := by
  simp [specReset, h, Cmd.ended]

theorem specReset_act_refused {c : Cmd} {s : State} (h : c.sub.P0 0 4 = 1 ∨ c.sub.P0 0 4 = 2)
    (refused : s.complexResetRefused (decide (c.sub.P0 0 4 = 2)) = true) : specReset.act c s = (s, .done rState 0 0) :=
  (if_neg (by omega)).trans (if_pos ⟨h, refused⟩)

/-- A RESET of a scope but system and TIMING that is not refused. -/
theorem specReset_act_scope {c : Cmd} {s : State} {n : Nat} (h : c.sub.P0 0 4 = n) (h0 : n ≠ 0) (h7 : n ≠ 7)
    (allowed : n = 1 ∨ n = 2 → s.complexResetRefused (decide (n = 2)) = false) :
    specReset.act c s = ((s.noteCause 7).scopeReset n (c.sub.P0 4 9), if n = 3 then .wait else .done rOk 0 0) := by
  subst h
  refine (if_neg h0).trans ((if_neg ?_).trans (if_neg h7))
  rintro ⟨complex, refused⟩
  rw [allowed complex] at refused
  cases refused

/-- A RESET taken, of a scope whose action has written the completion itself. -/
theorem specReset_gone {scopes : List Nat} {d : Submission} {s t : State} (h : Ready specReset d s) (named : d.P0 0 4 ∈ scopes)
    (act : specReset.act (cmdOf 0x43 d s) (s.fetched d) = (t, .gone)) :
    (.next (s.takeReset scopes d) : Host.Outcome State Fault Refusal) = .next t := by
  rw [State.takeReset_of_scope named, CmdSpec.take_pick h rfl, CmdSpec.actNow_gone act]

/-- A RESET taken and ended in its step. -/
theorem specReset_ends {scopes : List Nat} {d : Submission} {s t : State} {code : Nat} (h : Ready specReset d s) (named : d.P0 0 4 ∈ scopes)
    (act : specReset.act (cmdOf 0x43 d s) (s.fetched d) = (t, .done code 0 0)) :
    (.next (s.takeReset scopes d) : Host.Outcome State Fault Refusal) = .next ((cmdOf 0x43 d s).ended code 0 0 t) := by
  rw [State.takeReset_of_scope named, CmdSpec.take_ends h (by decide) (by decide) rfl act]

/-- A RESET taken and begun in its step. -/
theorem specReset_begins {scopes : List Nat} {d : Submission} {s t : State} (h : Ready specReset d s) (named : d.P0 0 4 ∈ scopes)
    (act : specReset.act (cmdOf 0x43 d s) (s.fetched d) = (t, .wait)) :
    (.next (s.takeReset scopes d) : Host.Outcome State Fault Refusal) = .next ((cmdOf 0x43 d s).goesOn t) := by
  rw [State.takeReset_of_scope named, CmdSpec.take_begins h (by decide) (by decide) rfl act]

/-- Settles O11: each scope by what the action of `specReset` does with it. -/
theorem resetCommandsResetWhatTheyName : Obligations.ResetCommandsResetWhatTheyName := by
  unfold Obligations.ResetCommandsResetWhatTheyName
  intro s d ready i c caused
  have named : ∀ {n : Nat} {scopes : List Nat}, d.P0 0 4 = n → n ∈ scopes → d.P0 0 4 ∈ scopes := fun h g => h ▸ g
  have refused : ∀ b, (s.fetched d).complexResetRefused b = s.complexResetRefused b := State.fetched_complexResetRefused d s
  have ends : ∀ (n : Nat) (scopes : List Nat), d.P0 0 4 = n → n ∈ scopes → n ≠ 0 → n ≠ 7 → n ≠ 3 →
      (n = 1 ∨ n = 2 → s.complexResetRefused (decide (n = 2)) = false) →
      (.next (s.takeReset scopes d) : Host.Outcome State Fault Refusal) = .next (c.ended rOk 0 0 (caused.scopeReset n i)) := by
    intro n scopes h mem h0 h7 h3 allowed
    have act := specReset_act_scope (c := c) (s := s.fetched d) h h0 h7 (fun g => (refused _).trans (allowed g))
    rw [if_neg h3] at act
    exact specReset_ends ready (named h mem) act
  refine ⟨fun h => specReset_gone ready (named h (by decide)) (specReset_act_system h), ?complexA, ?complexB, ?refused,
    fun h => specReset_begins ready (named h (by decide)) (specReset_act_scope (c := c) h (by decide) (by decide) (fun g => by omega)), ?_⟩
  case complexA =>
    intro h handover may
    exact ends 1 [1, 2] h (by decide) (by decide) (by decide) (by decide) (fun _ => State.complexResetRefused_eq_false (b := false) handover may)
  case complexB =>
    intro h handover may
    exact ends 2 [1, 2] h (by decide) (by decide) (by decide) (by decide) (fun _ => State.complexResetRefused_eq_false (b := true) handover may)
  case refused =>
    intro h why
    refine specReset_ends ready (named h (by decide)) (specReset_act_refused (.inl h) ((refused _).trans ?_))
    have complexA : decide (c.sub.P0 0 4 = 2) = false := decide_eq_false (fun e => absurd (h.symm.trans e) (by decide))
    rw [complexA]
    exact State.complexResetRefused_eq_true why
  have element : ∀ n ∈ [4, 5, 6, 8, 9], d.P0 0 4 = n →
      (.next (s.takeReset [n] d) : Host.Outcome State Fault Refusal) = .next (c.ended rOk 0 0 (caused.scopeReset n i)) := by
    intro n hn h
    simp only [List.mem_cons, List.not_mem_nil, or_false] at hn
    exact ends n [n] h (List.mem_singleton_self n) (by omega) (by omega) (by omega) (fun g => by omega)
  exact ⟨element 4 (by decide), element 5 (by decide), element 6 (by decide),
    fun h => specReset_gone ready (named h (by decide)) (specReset_act_timing h), element 8 (by decide), element 9 (by decide)⟩

end Sys2Proof.Machine
end

section
/-! Resets by pins, cores, the debugger and clocks (03 R83 to R85, R90, R116; 16 R575). -/

namespace Sys2Proof.Machine

open Sys2Proof

theorem exec_resetNAssert_unpowered {s : State} (h : s.supply ≠ .on) : exec .resetNAssert s = .next { s with resetN := false } := by
  show execResetNAssert s = _
  rw [execResetNAssert, show (s.supply == Supply.on) = false from beq_false_of_ne h]
  rfl

/-! ### Cores (03 R84; 16 R575) -/

/-- The cause of core 0 to 5: that of its complex. -/
theorem cause_add_div {core : Nat} (h : core < 6) (base : Nat) : base + core / 3 = if core < 3 then base else base + 1 := by
  split <;> omega

section
variable {s : State} {core : Nat} (named : core < 6) (on : s.groom (decide (3 ≤ core)) ≠ gsOff)
  (inService : s.groom (decide (3 ≤ core)) ≠ gsRetired)
include named on inService

theorem State.coreFault_ready (ready : s.on F.SYS_STATUS_READY = true) (kind cause : Nat) :
    s.coreFault kind cause core = (s.noteCause cause).groomFault kind (decide (3 ≤ core)) (core % 3) := by
  simp [State.coreFault, Nat.not_le.2 named, on, inService, ready]

theorem State.coreFault_booting (booting : s.on F.SYS_STATUS_READY = false) (kind cause : Nat) :
    s.coreFault kind cause core = s.systemReset cause := by
  simp [State.coreFault, Nat.not_le.2 named, on, inService, booting]

end

/-! ### The debugger (03 R90, R116) -/

theorem State.dbgReq_ignored {s : State} (h : s.debugBoot = false) (v : Word) : s.dbgReq v = s := by simp [State.dbgReq, h]

theorem exec_dbgReqSystem_hold {s : State} {v : Word} (h : s.debugBoot = true) (scope : bits v.toNat 0 4 = 0) :
    exec (.dbgReqSystem v) s = .next (s.systemReset 8) := by
  show execDbgReqSystem v s = _
  simp [execDbgReqSystem, State.dbgReq, h, scope]

theorem exec_dbgReqComplex_hold {s : State} {v : Word} {b : Bool} (h : s.debugBoot = true) (scope : bits v.toNat 0 4 = 1 + b2n b) :
    exec (.dbgReqComplex v) s = .next ((s.noteCause 8).groomReset b true) := by
  show execDbgReqComplex v s = _
  cases b <;> simp [execDbgReqComplex, State.dbgReq, h, scope, b2n]

theorem exec_dbgReq_ignored {s : State} (h : s.debugBoot = false) (v : Word) :
    exec (.dbgReqSystem v) s = .next s ∧ exec (.dbgReqComplex v) s = .next s ∧ exec (.rstForceWrite v) s = .next s := by
  refine ⟨?_, ?_, ?_⟩
  · show execDbgReqSystem v s = _
    simp [execDbgReqSystem, State.dbgReq_ignored h]
  · show execDbgReqComplex v s = _
    simp [execDbgReqComplex, State.dbgReq_ignored h]
  · show execRstForceWrite v s = _
    simp [execRstForceWrite, State.rstForce, h]

theorem State.get_lt (s : State) (f : Fld) : s.get f < 2 ^ f.w := Nat.mod_lt _ (Nat.two_pow_pos _)

/-- The domains that RST_FORCE names enter reset extension, as far as they are held. -/
theorem State.rstForce_effect {s : State} (h : s.debugBoot = true) (v : Word) :
    SameBut [R.RST_FORCE, R.RST_DOMAIN] s (s.rstForce v) ∧ (s.rstForce v).get F.RST_DOMAIN_HELD = s.get F.RST_DOMAIN_HELD ∧
      (s.rstForce v).get F.RST_DOMAIN_EXTENDED = s.get F.RST_DOMAIN_EXTENDED ||| (v.toNat % 512 &&& s.get F.RST_DOMAIN_HELD) := by
  have eq : s.rstForce v =
      (s.set F.RST_FORCE_RELEASE (s.get F.RST_FORCE_RELEASE ||| (v.toNat % 512 &&& s.get F.RST_DOMAIN_HELD))).set F.RST_DOMAIN_EXTENDED
        (s.get F.RST_DOMAIN_EXTENDED ||| (v.toNat % 512 &&& s.get F.RST_DOMAIN_HELD)) := by
    simp [State.rstForce, h]
  have fits : s.get F.RST_DOMAIN_EXTENDED ||| (v.toNat % 512 &&& s.get F.RST_DOMAIN_HELD) < 2 ^ 9 :=
    Nat.or_lt_two_pow (s.get_lt F.RST_DOMAIN_EXTENDED) (lt_of_le_of_lt Nat.and_le_left (Nat.mod_lt _ (by decide)))
  rw [eq]
  refine ⟨sameBut_trans (sameBut_set (f := F.RST_FORCE_RELEASE) (by decide) _ s)
    (sameBut_set (f := F.RST_DOMAIN_EXTENDED) (by decide) _ _), ?_, ?_⟩
  · exact (State.get_set_ne (f := F.RST_DOMAIN_EXTENDED) (g := F.RST_DOMAIN_HELD) rfl (.inl (by decide)) (by decide) _ _).trans
      (State.get_set_addr (f := F.RST_FORCE_RELEASE) (g := F.RST_DOMAIN_HELD) (by decide) _ s)
  · exact (State.get_set_self (f := F.RST_DOMAIN_EXTENDED) (by decide) _ _).trans (Nat.mod_eq_of_lt fits)

/-- Settles O12: each source by the branch that its cause takes; what RST_FORCE writes by `State.rstForce_effect`. -/
theorem pinsCoresDebuggerAndClocksReset : Obligations.PinsCoresDebuggerAndClocksReset := by
  unfold Obligations.PinsCoresDebuggerAndClocksReset
  intro s v core i
  refine ⟨exec_resetNAssert_on, exec_resetNAssert_unpowered, rfl, ?cores, fun hold => ?debugger, fun noHold c hc => ?noDebugger,
    fun on => ?clocks⟩
  case cores =>
    intro named on inService
    rw [← cause_add_div named 3, ← cause_add_div named 5]
    exact ⟨fun ready => ⟨congrArg Host.Outcome.next (State.coreFault_ready named on inService ready 2 _),
        congrArg Host.Outcome.next (State.coreFault_ready named on inService ready 3 _)⟩,
      fun booting => ⟨congrArg Host.Outcome.next (State.coreFault_booting named on inService booting 2 _),
        congrArg Host.Outcome.next (State.coreFault_booting named on inService booting 3 _)⟩⟩
  case debugger =>
    exact ⟨exec_dbgReqSystem_hold hold, exec_dbgReqComplex_hold (b := false) hold, exec_dbgReqComplex_hold (b := true) hold, _, rfl,
      State.rstForce_effect hold v⟩
  case noDebugger =>
    obtain ⟨system, complex, force⟩ := exec_dbgReq_ignored noHold v
    simp only [List.mem_cons, List.not_mem_nil, or_false] at hc
    rcases hc with rfl | rfl | rfl
    · exact system
    · exact complex
    · exact force
  case clocks =>
    refine ⟨fun d why => if_pos ?ignored, fun d noSafe released free => ?fails⟩
    case ignored =>
      rcases why with own | safe | held | elem
      · simp only [List.mem_cons, List.not_mem_nil, or_false] at own
        exact .inr (.inr (own.imp_right .inl))
      · exact .inr (.inl safe)
      · exact .inr (.inr (.inr (.inr (.inl held))))
      · exact .inr (.inr (.inr (.inr (.inr elem))))
    case fails =>
      have acts : d ≠ .aon → d ≠ .nvs → ¬(s.supply ≠ .on ∨ s.on F.SYN_STATUS_SAFE_GEN_OK = true ∨ d = .aon ∨ d = .nvs ∨
          s.heldDomain d.bit = true ∨ s.elemHeld.contains (d, i) = true) := fun h1 h2 => by
        simp only [on, noSafe, released, free, h1, h2, ne_eq, not_true_eq_false, Bool.false_eq_true, or_self, not_false_eq_true]
      dsimp only
      refine ⟨?timing, ?groomA, ?groomB, ?core, ?syn, ?lanes, ?engines, ?ports⟩
      case timing | groomA | groomB | core =>
        rintro rfl
        exact if_neg (acts (by decide) (by decide))
      case syn | lanes | engines | ports =>
        rintro rfl named
        exact (if_neg (acts (by decide) (by decide))).trans (if_pos named)

end Sys2Proof.Machine
end

section
/-! The boot: releases in order, the outcomes of a step, and BOOT_DONE (03 R89 to R105). -/

namespace Sys2Proof.Machine

open Sys2Proof

/-! ### Releases (03 R92 to R97) -/

/-- The gate of release `k` in order: its step is the current one of a running boot, the release before it is made, and every domain before it
is released. -/
theorem State.gate_iff {s : State} {k step : Nat} : s.gate k step = true ↔
    s.order + 1 = k ∧ s.get F.RST_BOOT_STEP = step ∧ s.get F.RST_BOOT_STATE = 0 ∧
      ∀ d ∈ [Domain.nvs, .timing, .syn, .groomA, .groomB, .core, .lanes, .engines], k ≤ d.order ∨ s.heldDomain d.bit = false := by
  simp only [State.gate, Bool.and_eq_true, beq_iff_eq, List.all_eq_true, Bool.or_eq_true, decide_eq_true_eq, Bool.not_eq_true', and_assoc]

/-- The gates of the releases before the first domain's ask of no domain to be released. -/
theorem State.gate_early {s : State} {k step : Nat} (h : s.order + 1 = k) (hk : k ≤ 3) (step_ : s.get F.RST_BOOT_STEP = step)
    (runs : s.get F.RST_BOOT_STATE = 0) : s.gate k step = true := by
  have first : ∀ d ∈ [Domain.nvs, .timing, .syn, .groomA, .groomB, .core, .lanes, .engines], 3 ≤ d.order := by decide
  exact State.gate_iff.2 ⟨h, step_, runs, fun d hd => .inl (hk.trans (first d hd))⟩

theorem State.gate_lanes {s : State} (order : s.order = 6) (step : s.get F.RST_BOOT_STEP = 11) (runs : s.get F.RST_BOOT_STATE = 0)
    (released : ∀ d ∈ [Domain.nvs, .timing, .syn, .groomA, .groomB, .core], s.heldDomain d.bit = false) : s.gate 7 11 = true := by
  refine State.gate_iff.2 ⟨by omega, step, runs, fun d hd => ?_⟩
  have before : d ∈ [Domain.nvs, .timing, .syn, .groomA, .groomB, .core] ∨ 7 ≤ d.order := by revert d; decide
  exact before.symm.imp_right (released d)

theorem State.gate_lanes_shut {s : State}
    (h : s.order ≠ 6 ∨ ∃ d ∈ [Domain.nvs, .timing, .syn, .groomA, .groomB, .core], s.heldDomain d.bit = true) : ¬s.gate 7 11 = true := by
  intro gate
  obtain ⟨order, -, -, released⟩ := State.gate_iff.1 gate
  rcases h with h | ⟨d, hd, held⟩
  · omega
  · have before : d ∈ [Domain.nvs, .timing, .syn, .groomA, .groomB, .core, .lanes, .engines] ∧ ¬7 ≤ d.order := by
      clear held; revert d; decide
    rcases released d before.1 with late | free
    · exact before.2 late
    · rw [held] at free
      cases free

/-- A release is looked at while the supply is on and RESET_N is high. -/
theorem not_unpowered {s : State} (on : s.supply = .on) (pin : s.resetN = true) : ¬(s.supply ≠ .on ∨ (!s.resetN) = true) := by
  simp [on, pin]

/-- The STRAP reading of band 0 (03 R94, R95): debug hold and safe boot. -/
theorem strapWord_band0 {ohms : Nat} (h : ohms ≤ 50) : strapWord (some ohms) = BitVec.ofNat 32 (16 * 3 + 128 + 4096 * (ohms / 10)) := by
  have band : strapBand ohms = some 0 := by simp only [strapBand, h, if_true]
  have reading : min (ohms / 10) 0xFFFFF = ohms / 10 := by omega
  have row : strapBands.getD 0 (0, 0, false, false, 0) = (0, 3, false, true, 0) := rfl
  unfold strapWord
  dsimp only
  rw [band, reading, Option.getD_some, row]
  exact congrArg (BitVec.ofNat 32) (by simp only [b2n, Option.isNone_some, Bool.false_eq_true, if_false, if_true])

theorem strapWord_band0_fields : ∀ q < 6, let w := (BitVec.ofNat 32 (16 * 3 + 128 + 4096 * q)).toNat
    bits w 4 2 = 3 ∧ bits w 7 1 = 1 ∧ bits w 10 1 = 0 ∧ bits w 12 20 = q := by decide

/-- What the first option load shows of a reading of band 0. -/
theorem State.firstLoad_band0 {ohms : Nat} (h : ohms ≤ 50) (s : State) :
    s.firstLoad (some ohms) true = s.wr R.RST_STRAP (strapWord (some ohms)) ∧
      (s.firstLoad (some ohms) true).get F.RST_STRAP_BOOT_SRC = 3 ∧ (s.firstLoad (some ohms) true).on F.RST_STRAP_SAFE = true ∧
      (s.firstLoad (some ohms) true).get F.RST_STRAP_OHMS10 = ohms / 10 := by
  obtain ⟨src, safe, invalid, reading⟩ := strapWord_band0_fields (ohms / 10) (by omega)
  have shown : ∀ f : Fld, f.addr = R.RST_STRAP → (s.wr R.RST_STRAP (strapWord (some ohms))).get f =
      bits (BitVec.ofNat 32 (16 * 3 + 128 + 4096 * (ohms / 10))).toNat f.lsb f.w := by
    intro f hf
    rw [State.get, hf, State.rd_wr_self, strapWord_band0 h]
  have loaded : s.firstLoad (some ohms) true = s.wr R.RST_STRAP (strapWord (some ohms)) := by
    have valid : (s.wr R.RST_STRAP (strapWord (some ohms))).on F.RST_STRAP_INVALID = false := by
      rw [State.on, (shown F.RST_STRAP_INVALID rfl).trans invalid]
      rfl
    simp only [State.firstLoad, Bool.not_true, State.when_false, valid]
  rw [loaded]
  refine ⟨rfl, (shown F.RST_STRAP_BOOT_SRC rfl).trans src, ?_, (shown F.RST_STRAP_OHMS10 rfl).trans reading⟩
  rw [State.on, (shown F.RST_STRAP_SAFE rfl).trans safe]
  rfl

/-! ### Steps (03 R101, R105) -/

theorem exec_bootStepComplete_runs {s : State} (on : s.supply = .on) (pin : s.resetN = true) (runs : s.get F.RST_BOOT_STATE = 0) (ok : Bool)
    (fs : List Nat) (up : Nat) : exec (.bootStepComplete ok fs up) s = .next (s.stepDone ok fs up) := if_pos ⟨on, pin, .inl runs⟩

/-- A boot that is done or stopped takes no step. -/
theorem exec_bootStepComplete_ended {s : State} (h : s.get F.RST_BOOT_STATE = 1 ∨ s.get F.RST_BOOT_STATE = 3) (ok : Bool) (fs : List Nat)
    (up : Nat) : exec (.bootStepComplete ok fs up) s = .next s := by
  refine if_neg ?_
  rintro ⟨-, -, runs | ⟨held, -⟩⟩ <;> omega

/-- A ledger record writes no register but NVS_LEDGER_HEAD. -/
theorem State.rd_ledgerAdd {a : Nat} (h : a ≠ R.NVS_LEDGER_HEAD) (step outcome detail up : Nat) (s : State) :
    (s.ledgerAdd step outcome detail up).rd a = s.rd a := by
  unfold State.ledgerAdd
  dsimp only
  split
  · rfl
  · split
    · rfl
    · exact State.rd_wr_ne h _ _

theorem State.ledgerAdd_bootFb (step outcome detail up : Nat) (s : State) : (s.ledgerAdd step outcome detail up).bootFb = s.bootFb := by
  obtain ⟨l, e, r, eq⟩ := State.ledgerAdd_eq step outcome detail up s
  rw [eq]

/-- A step without a treatment of its own begins: its BEGIN record, by its fallback where the interrupted boot asks for it. -/
theorem State.stepBegin_plain {x : Nat} (h : x ≠ 7 ∧ x ≠ 9 ∧ x ≠ 10) (up : Nat) (s : State) :
    s.stepBegin x up = State.ledgerAdd x 0 0 up { s.set F.RST_BOOT_STEP x with fell := s.bootFb.contains x } := by
  obtain ⟨h7, h9, h10⟩ := h
  simp only [State.stepBegin, beq_false_of_ne h7, beq_false_of_ne h9, beq_false_of_ne h10, Bool.false_and, Bool.or_false, h7, if_false]

/-- A step that ends OK: its record, and the next step begins. -/
theorem State.stepEnd_ok {x : Nat} (h : x ≠ 0x0D) (detail up : Nat) (s : State) :
    s.stepEnd x 1 detail up = (s.ledgerAdd x 1 detail up).stepBegin (x + 1) up := by
  simp [State.stepEnd, h]

/-- TIMING_UP that completes at its first attempt (03 R101). -/
theorem State.stepDone_timing_ok {s : State} (step : s.get F.RST_BOOT_STEP = 4) (first : s.fell = false) (released : 4 ≤ s.order)
    (fs : List Nat) (up : Nat) : s.stepDone true fs up =
      State.ledgerAdd 5 0 0 up { (s.ledgerAdd 4 1 0 up).set F.RST_BOOT_STEP 5 with fell := s.bootFb.contains 5 } := by
  have outcome : s.okOf = 1 := by rw [State.okOf, first]; rfl
  have passes : s.stepDone true fs up = s.stepEnd 4 s.okOf 0 up := by
    simp [State.stepDone, step, Nat.not_lt.2 released]
  rw [passes, outcome, State.stepEnd_ok (by decide), State.stepBegin_plain (by decide), State.ledgerAdd_bootFb]

/-- TIMING_UP that fails again by its fallback stops the boot (03 R101). -/
theorem State.stepDone_timing_fails {s : State} (step : s.get F.RST_BOOT_STEP = 4) (again : s.fell = true) (fs : List Nat) (up : Nat) :
    s.stepDone false fs up = s.stepEnd 4 3 (fs.headD 0) up := by
  simp [State.stepDone, step, again]

/-- BOOT_DONE without a fallback (03 R104): its record, READY, and the user tasks. -/
theorem State.bootDone_plain {s : State} (h : s.get F.RST_BOOT_FALLBACK = 0) (up : Nat) :
    s.bootDone up = (((s.ledgerAdd 14 1 0 up).set F.RST_BOOT_STATE 1).set F.SYS_STATUS_READY 1).startTasks := by
  have kept : (((s.ledgerAdd 14 1 0 up).set F.RST_BOOT_STATE 1).set F.SYS_STATUS_READY 1).get F.RST_BOOT_FALLBACK = 0 := by
    refine (State.get_set_addr (f := F.SYS_STATUS_READY) (g := F.RST_BOOT_FALLBACK) (by decide) 1 _).trans ?_
    refine (State.get_set_ne (f := F.RST_BOOT_STATE) (g := F.RST_BOOT_FALLBACK) rfl (.inr (by decide)) (by decide) 1 _).trans ?_
    exact (State.get_addr (f := F.RST_BOOT_FALLBACK) (State.rd_ledgerAdd (by decide) 14 1 0 up s)).trans h
  have configured : (((s.ledgerAdd 14 1 0 up).set F.RST_BOOT_STATE 1).set F.SYS_STATUS_READY 1).fb fbCfg = false := by
    rw [State.fb, kept]
    rfl
  have eq : s.bootDone up = State.when (!(((s.ledgerAdd 14 1 0 up).set F.RST_BOOT_STATE 1).set F.SYS_STATUS_READY 1).fb fbCfg) State.startTasks
      (((s.ledgerAdd 14 1 0 up).set F.RST_BOOT_STATE 1).set F.SYS_STATUS_READY 1) := by
    simp only [State.bootDone, h, if_true]
    rfl
  rw [eq, configured]
  rfl

/-- Settles O14: each release by its gate, each step by the lemma of its outcome. -/
theorem bootStepsAndReleasesInOrder : Obligations.BootStepsAndReleasesInOrder := by
  unfold Obligations.BootStepsAndReleasesInOrder
  intro s up ohms ok fs on pin
  have powered := not_unpowered on pin
  refine ⟨fun runs => ⟨?aon, ?options, ?lanes, ?ends, ?fails, ?done⟩, fun ended => exec_bootStepComplete_ended ended ok fs up,
    ?aonTwice, ?lanesEarly⟩
  case aon =>
    intro order step
    exact (if_neg powered).trans (if_pos (State.gate_early (by omega) (by decide) step runs))
  case options =>
    intro order step low
    obtain ⟨loaded, src, safe, reading⟩ := State.firstLoad_band0 low s
    exact ⟨{ s.firstLoad (some ohms) true with order := 2 },
      (if_neg powered).trans (if_pos (State.gate_early (by omega) (by decide) step runs)), rfl, src, safe, reading, fun a ha => by
        rw [loaded]; exact State.rd_wr_ne ha _ s⟩
  case lanes =>
    intro order step released
    exact (if_neg powered).trans (if_pos (State.gate_lanes order step runs released))
  case ends =>
    intro step first released
    rw [exec_bootStepComplete_runs on pin runs, State.stepDone_timing_ok step first released]
  case fails =>
    intro step again
    rw [exec_bootStepComplete_runs on pin runs, State.stepDone_timing_fails step again]
    rfl
  case done =>
    intro step noFallback
    have eq : s.stepDone ok fs up = s.bootDone up := by simp only [State.stepDone, step]
    rw [exec_bootStepComplete_runs on pin runs, eq, State.bootDone_plain noFallback]
  case aonTwice =>
    intro order
    refine (if_neg powered).trans (if_neg fun gate => ?_)
    obtain ⟨first, -⟩ := State.gate_iff.1 gate
    omega
  case lanesEarly =>
    intro h
    exact (if_neg powered).trans (if_neg (State.gate_lanes_shut h))

end Sys2Proof.Machine
end

section
/-! The commands that write the store, and the end of a store write (03 R110, R112; 04 R155; 17 R616, R617). -/

namespace Sys2Proof.Machine

open Sys2Proof

@[simp] theorem State.fetched_job (d : Submission) (s : State) : (s.fetched d).job = s.job := by rw [State.fetched_eq]

theorem State.fetched_storeRefuses (d : Submission) (s : State) : (s.fetched d).storeRefuses = s.job.isSome := by
  simp [State.storeRefuses, State.storeBusy]

/-! ### IMAGE_WRITE, IMAGE_CLEAR, CFG_WRITE -/

theorem specImageWrite_act_starts {c : Cmd} {s : State} (free : s.storeRefuses = false) (handover : s.on F.GROOM_STATUS_HANDOVER = false) :
    specImageWrite.act c s = (s.storeStart knImage c.sub.bytes false c, .wait) := by
  simp [specImageWrite, free, handover]

theorem specImageWrite_act_busy {c : Cmd} {s : State} (h : s.storeRefuses = true ∨ s.on F.GROOM_STATUS_HANDOVER = true) :
    specImageWrite.act c s = (s, .done rBusy 0 0) := if_pos (Bool.or_eq_true_iff.2 h)

theorem specCfgWrite_act_starts {c : Cmd} {s : State} (free : s.storeRefuses = false) :
    specCfgWrite.act c s = (s.storeStart knCfg c.sub.bytes (c.sub.P0 0 1 == 1) c, .wait) := by
  simp [specCfgWrite, free]

theorem specCfgWrite_act_busy {c : Cmd} {s : State} (h : s.storeRefuses = true) : specCfgWrite.act c s = (s, .done rBusy 0 0) := if_pos h

/-! ### STORE_WRITE_DONE (03 R110) -/

/-- Without a store write in progress there is nothing to end. -/
theorem exec_storeWriteDone_idle {s : State} {j : StoreJob} (h : s.job = none ∨ s.job = some j ∧ j.ledgerSeq = none) (ok : Bool) :
    exec (.storeWriteDone ok) s = .next s := by
  show execStoreWriteDone ok s = _
  rcases h with h | ⟨h, waits⟩
  · simp only [execStoreWriteDone, h]
  · simp only [execStoreWriteDone, h, waits]

/-- What a store write that passed leaves before its command completes. -/
def State.storeDone (j : StoreJob) (n : Nat) (s : State) : State :=
  ((s.storeCommit j n).when (j.kind == knImage) (State.setSuspect j.slot false)).storeEnd j true

section
variable {s : State} {j : StoreJob} {n : Nat} (job : s.job = some j) (taken : j.ledgerSeq = some n)
include job taken

theorem exec_storeWriteDone_failed : exec (.storeWriteDone false) s = .next ((s.storeEnd j false).storeComplete j rStoreFail s.nt 0) := by
  show execStoreWriteDone false s = _
  simp only [execStoreWriteDone, job, taken, Bool.not_false, if_true]

theorem exec_storeWriteDone_passed : exec (.storeWriteDone true) s =
    if j.apply then .next { s.storeDone j n with cfgApply := (s.storeDone j n).cfgApply ++ [j] }
    else .next ((s.storeDone j n).storeComplete j rOk (s.storeDone j n).nt 0) := by
  show execStoreWriteDone true s = _
  simp only [execStoreWriteDone, job, taken, Bool.not_true, Bool.false_eq_true, if_false]
  rfl

end

/-- The commit of a store write and its event take no time. -/
theorem State.storeDone_nt (j : StoreJob) (n : Nat) (s : State) : (s.storeDone j n).nt = s.nt := by
  have event : ∀ t : State, (t.storeEnd j true).nt = t.nt := fun t => congrArg Prod.fst (State.event_told ..).clock
  have suspect : ∀ t : State, (t.when (j.kind == knImage) (State.setSuspect j.slot false)).nt = t.nt := fun t =>
    State.view_when (v := State.nt) rfl _
  exact (event _).trans ((suspect _).trans rfl)

theorem State.storeDone_image {j : StoreJob} (h : j.kind = knImage) (n : Nat) (s : State) :
    s.storeDone j n = ((s.storeCommit j n).setSuspect j.slot false).storeEnd j true := by
  rw [State.storeDone, h]
  rfl

theorem State.storeDone_other {j : StoreJob} (h : j.kind ≠ knImage) (n : Nat) (s : State) :
    s.storeDone j n = (s.storeCommit j n).storeEnd j true := by
  rw [State.storeDone, beq_false_of_ne h]
  rfl

/-- Settles O15: the commands by whether a store write is in progress, its end by whether it passed and by its kind. -/
theorem storeWritesStartAndEnd : Obligations.StoreWritesStartAndEnd := by
  unfold Obligations.StoreWritesStartAndEnd
  intro s d j n ok
  have free : s.job = none → (s.fetched d).storeRefuses = false := fun h => by rw [State.fetched_storeRefuses, h]; rfl
  have busy : s.job ≠ none → (s.fetched d).storeRefuses = true := fun h => by
    rw [State.fetched_storeRefuses]; exact Option.isSome_iff_ne_none.2 h
  refine ⟨?write, ?writeBusy, ?clear, ?cfg, ?cfgBusy, fun h => exec_storeWriteDone_idle h ok, fun h g => exec_storeWriteDone_failed h g, ?image,
    ?other, ?applies⟩
  case write =>
    intro ready idle handover
    exact congrArg Host.Outcome.next (CmdSpec.take_begins_now ready (by decide) (by decide) rfl
      (specImageWrite_act_starts (free idle) ((State.fetched_on ..).trans handover)))
  case writeBusy =>
    intro ready why
    exact congrArg Host.Outcome.next (CmdSpec.take_ends_now ready (by decide) (by decide) rfl
      (specImageWrite_act_busy (why.imp busy (State.fetched_on ..).trans)))
  case clear =>
    intro ready
    exact congrArg Host.Outcome.next (CmdSpec.take_ends_now ready (by decide) (by decide) rfl rfl)
  case cfg =>
    intro ready idle
    exact congrArg Host.Outcome.next (CmdSpec.take_begins_now ready (by decide) (by decide) rfl (specCfgWrite_act_starts (free idle)))
  case cfgBusy =>
    intro ready h
    exact congrArg Host.Outcome.next (CmdSpec.take_ends_now ready (by decide) (by decide) rfl (specCfgWrite_act_busy (busy h)))
  case image =>
    intro h g kind apply
    rw [exec_storeWriteDone_passed h g, apply, if_neg Bool.false_ne_true, State.storeDone_nt, State.storeDone_image kind]
  case other =>
    intro h g kind apply
    rw [exec_storeWriteDone_passed h g, apply, if_neg Bool.false_ne_true, State.storeDone_nt, State.storeDone_other kind]
  case applies =>
    intro h g kind apply
    refine ⟨_, rfl, ?_⟩
    rw [exec_storeWriteDone_passed h g, if_pos apply, State.storeDone_other kind]

end Sys2Proof.Machine
end

section
/-! Two-slot storage: what a store write leaves in force, and what its commit makes newest (03 R109 to R112). -/

namespace Sys2Proof.Machine

open Sys2Proof

/-! ### Slots and commit records -/

theorem State.slotData_ins_self {s t : State} {kind x : Nat} {v : SlotData} (h : t.nor = Tbl.ins (kind * 2 + x) v s.nor) : t.slotData kind x = v := by
  simp [State.slotData, Tbl.getD, h]

theorem State.slotData_ins_ne {s t : State} {kind x y : Nat} {v : SlotData} (h : t.nor = Tbl.ins (kind * 2 + x) v s.nor) (hy : y ≠ x) :
    t.slotData kind y = s.slotData kind y := by
  have key : kind * 2 + y ≠ kind * 2 + x := by omega
  simp [State.slotData, Tbl.getD, h, Tbl.find_ins_ne key]

/-- A commit record is valid by its own bytes and the data of the slot that it names. -/
theorem State.commitAt_congr {s t : State} {kind c : Nat} (hc : Tbl.find (kind * 2 + c) t.commits = Tbl.find (kind * 2 + c) s.commits)
    (hd : ∀ r, Tbl.find (kind * 2 + c) s.commits = some r → t.slotData kind r.slot = s.slotData kind r.slot) :
    t.commitAt kind c = s.commitAt kind c := by
  unfold State.commitAt
  rw [hc]
  cases h : Tbl.find (kind * 2 + c) s.commits with
  | none => rfl
  | some r => simp only [hd r h]

/-- A commit record whose slot is not whole is not valid. -/
theorem State.commitAt_of_not_good {s : State} {kind c : Nat} {r : CommitRec} (hc : Tbl.find (kind * 2 + c) s.commits = some r)
    (hd : (s.slotData kind r.slot).good = false) : s.commitAt kind c = none := by
  simp [State.commitAt, hc, hd]

theorem State.find_of_commitAt {s : State} {kind c : Nat} {r : CommitRec} (h : s.commitAt kind c = some r) :
    Tbl.find (kind * 2 + c) s.commits = some r := by
  unfold State.commitAt at h
  split at h
  · next x found =>
    dsimp only at h
    split at h
    · exact found.trans h
    · cases h
  · cases h

/-- A sealed record checks with the data whose length and CRC it gives. -/
theorem State.commitAt_sealed {s : State} {kind c : Nat} {r : CommitRec} {l : List Byte}
    (hc : Tbl.find (kind * 2 + c) s.commits = some (r.sealed kind)) (hd : s.slotData kind r.slot = { data := l, good := true })
    (hl : r.length = l.length) (hcrc : r.crc = crc32 l) (ours : dataOurs kind l = true) : s.commitAt kind c = some (r.sealed kind) := by
  have named : (r.sealed kind).slot = r.slot := rfl
  have checks : crc32 ((r.sealed kind).body kind) = (r.sealed kind).check := rfl
  have length : (r.sealed kind).length = l.length := hl
  have crc : (r.sealed kind).crc = crc32 l := hcrc
  simp [State.commitAt, hc, named, hd, checks, length, crc, ours]

/-! ### The newest commit (03 R111) -/

/-- The sequence number after another is the newer of the two. -/
theorem seqNewer_succ (n : Nat) : seqNewer 32 ((n + 1) % 2 ^ 32) n = true ∧ seqNewer 32 n ((n + 1) % 2 ^ 32) = false := by
  unfold seqNewer
  simp only [decide_eq_true_eq, decide_eq_false_iff_not]
  omega

theorem State.newest_copy {s : State} {kind k : Nat} {r : CommitRec} (on : s.ledgerOff = false) (h : s.newest kind = some (k, r)) :
    (k = 0 ∨ k = 1) ∧ s.commitAt kind k = some r := by
  unfold State.newest at h
  rw [on, if_neg Bool.false_ne_true] at h
  cases h0 : s.commitAt kind 0 <;> cases h1 : s.commitAt kind 1 <;> simp only [h0, h1] at h
  case none.none => cases h
  case none.some => cases h; exact ⟨.inr rfl, h1⟩
  case some.none => cases h; exact ⟨.inl rfl, h0⟩
  case some.some =>
    split at h
    · cases h; exact ⟨.inr rfl, h1⟩
    · cases h; exact ⟨.inl rfl, h0⟩

/-- The newest commit stays newest where its own copy stays and the other stays or becomes invalid. -/
theorem State.newest_stays {s t : State} {kind k : Nat} {r : CommitRec} (on : s.ledgerOff = false) (on' : t.ledgerOff = false)
    (h : s.newest kind = some (k, r)) (own : t.commitAt kind k = some r)
    (other : t.commitAt kind (1 - k) = s.commitAt kind (1 - k) ∨ t.commitAt kind (1 - k) = none) : t.newest kind = some (k, r) := by
  obtain ⟨hk, was⟩ := State.newest_copy on h
  unfold State.newest at h ⊢
  rw [on, if_neg Bool.false_ne_true] at h
  rw [on', if_neg Bool.false_ne_true]
  rcases hk with rfl | rfl
  · rcases other with same | gone
    · rw [own, same, ← was]; exact h
    · rw [own, gone]
  · rcases other with same | gone
    · rw [own, same, ← was]; exact h
    · rw [own, gone]

/-- A valid commit whose SEQ follows that of the other copy is the newest. -/
theorem State.newest_of_next {s : State} {kind k : Nat} {r r' : CommitRec} (on : s.ledgerOff = false) (hk : k = 0 ∨ k = 1)
    (old : s.commitAt kind k = some r) (new : s.commitAt kind (1 - k) = some r') (next : r'.seq = (r.seq + 1) % 2 ^ 32) :
    s.newest kind = some (1 - k, r') := by
  obtain ⟨newer, older⟩ := seqNewer_succ r.seq
  unfold State.newest
  rw [on, if_neg Bool.false_ne_true]
  rcases hk with rfl | rfl
  · rw [old, new]
    simp only [next, newer, if_true]
  · rw [old, new]
    simp only [next, older, Bool.false_eq_true, if_false]

/-! ### The write and its commit (03 R110, R112) -/

theorem State.storeBegin_storeStart {s : State} {kind k : Nat} {r : CommitRec} (h : s.newest kind = some (k, r)) (l : List Byte) (apply : Bool)
    (c : Cmd) (n : Nat) : (s.storeStart kind l apply c).storeBegin n = { s.set F.NVS_STATUS_BUSY 1 with
      job := some { kind := kind, slot := 1 - r.slot, data := l, apply := apply, sub := some c, ledgerSeq := some n }
      nor := Tbl.ins (kind * 2 + (1 - r.slot)) { data := l, good := false } s.nor } := by
  simp only [State.storeBegin, State.storeStart, h]
  rfl

/-- A slot that the newest commit does not name is written: that commit stays the newest. -/
theorem State.newest_of_other_slot {s t : State} {kind k x : Nat} {r : CommitRec} {l : List Byte} (on : s.ledgerOff = false)
    (h : s.newest kind = some (k, r)) (hx : r.slot ≠ x) (on' : t.ledgerOff = false) (commits : t.commits = s.commits)
    (nor : t.nor = Tbl.ins (kind * 2 + x) { data := l, good := false } s.nor) : t.newest kind = some (k, r) := by
  obtain ⟨-, was⟩ := State.newest_copy on h
  have stays : ∀ c r', Tbl.find (kind * 2 + c) s.commits = some r' → r'.slot ≠ x → t.commitAt kind c = s.commitAt kind c := by
    intro c r' found hr'
    refine State.commitAt_congr (by rw [commits]) fun q hq => ?_
    rw [found] at hq
    cases hq
    exact State.slotData_ins_ne nor hr'
  refine State.newest_stays on on' h ((stays k r (State.find_of_commitAt was) hx).trans was) ?_
  cases found : Tbl.find (kind * 2 + (1 - k)) s.commits with
  | none => exact .inl (State.commitAt_congr (by rw [commits]) fun q hq => by rw [found] at hq; cases hq)
  | some r' =>
    by_cases hr' : r'.slot = x
    · exact .inr (State.commitAt_of_not_good (by rw [commits]; exact found) (by rw [hr', State.slotData_ins_self nor]))
    · exact .inl (stays (1 - k) r' found hr')

/-- The commit record that a write finished after the newest commit `r` puts in the store. -/
def nextCommit (r : CommitRec) (j : StoreJob) (n : Nat) : CommitRec :=
  { slot := j.slot, seq := (r.seq + 1) % 2 ^ 32, length := j.data.length, crc := crc32 j.data, ledgerSeq := n }

theorem State.storeCommit_parts {s : State} {j : StoreJob} {k : Nat} {r : CommitRec} (h : s.newest j.kind = some (k, r)) (n : Nat) :
    (s.storeCommit j n).ledgerOff = s.ledgerOff ∧
      (s.storeCommit j n).nor = Tbl.ins (j.kind * 2 + j.slot) { data := j.data, good := true } s.nor ∧
      (s.storeCommit j n).commits = Tbl.ins (j.kind * 2 + (1 - k)) ((nextCommit r j n).sealed j.kind) s.commits := by
  simp only [State.storeCommit, h]
  exact ⟨rfl, rfl, rfl⟩

/-- Settles O16: what a write into the other slot leaves newest by `State.newest_of_other_slot`, its commit by `State.newest_of_next`. -/
theorem twoSlotStoreKeepsTheSlotInForce : Obligations.TwoSlotStoreKeepsTheSlotInForce := by
  unfold Obligations.TwoSlotStoreKeepsTheSlotInForce
  intro s kind k n r l apply c on newest slot
  refine ⟨?write, ?commit⟩
  case write =>
    refine ⟨_, rfl, ?_⟩
    rw [State.storeBegin_storeStart newest]
    exact ⟨State.newest_of_other_slot on newest (x := 1 - r.slot) (by omega) on rfl rfl, State.slotData_ins_ne (s := s) rfl (by omega),
      _, rfl, rfl, rfl, rfl, rfl⟩
  case commit =>
    rintro j rfl hslot ours
    obtain ⟨hk, was⟩ := State.newest_copy on newest
    obtain ⟨off, nor, commits⟩ := State.storeCommit_parts newest n
    have written := State.slotData_ins_self nor
    have old : (s.storeCommit j n).commitAt j.kind k = some r := by
      refine (State.commitAt_congr ?_ fun q hq => ?_).trans was
      · rw [commits, Tbl.find_ins_ne (by omega)]
      · rw [State.find_of_commitAt was] at hq
        cases hq
        exact State.slotData_ins_ne nor (by omega)
    have new : (s.storeCommit j n).commitAt j.kind (1 - k) = some ((nextCommit r j n).sealed j.kind) :=
      State.commitAt_sealed (by rw [commits, Tbl.find_ins_self]) written rfl rfl ours
    exact ⟨_, State.newest_of_next (off.trans on) hk old new rfl, rfl, rfl, rfl, rfl, rfl, written⟩

end Sys2Proof.Machine
end

section
/-! The link to the host: training, loss, RUN, RELINK_DONE and the host download (03 R93; 04 R120, R125, R128, R130). -/

namespace Sys2Proof.Machine

open Sys2Proof

/-! ### Training and configuration requests (03 R93; 04 R120) -/

theorem exec_pcieLinkTrained_shown {s : State} {w sp : Nat} (perst : s.perstN = true) (on : s.supply = .on) (core : s.heldDomain 5 = false)
    (wide : s.on F.RST_STRAP_WIDTH4 = false) (hw : w ∈ [1, 2, 4, 8]) (hlo : 1 ≤ sp) (hhi : sp ≤ 5) :
    exec (.pcieLinkTrained w sp) s = .next ((s.set F.HIF_STATUS_WIDTH w).set F.HIF_STATUS_SPEED sp) := by
  simp only [List.mem_cons, List.not_mem_nil, or_false] at hw
  refine if_pos ⟨perst, on, by rw [core]; rfl, hw, ?_, hlo, hhi⟩
  rw [wide, if_neg Bool.false_ne_true]
  omega

theorem exec_pcieLinkTrained_narrow {s : State} (narrow : s.on F.RST_STRAP_WIDTH4 = true) (sp : Nat) :
    exec (.pcieLinkTrained 8 sp) s = .next s := by
  refine if_neg ?_
  rintro ⟨-, -, -, -, fits, -⟩
  rw [if_pos narrow] at fits
  omega

/-! ### Loss of the link (04 R130) -/

/-- HIF_STATUS shows no link. -/
def State.linkGone (s : State) : State := (s.set F.HIF_STATUS_WIDTH 0).set F.HIF_STATUS_SPEED 0

theorem State.rd_linkGone {a : Nat} (h : a ≠ R.HIF_STATUS) (s : State) : s.linkGone.rd a = s.rd a :=
  (State.rd_set_ne (f := F.HIF_STATUS_SPEED) h _ _).trans (State.rd_set_ne (f := F.HIF_STATUS_WIDTH) h _ _)

theorem State.run_linkGone (s : State) : s.linkGone.run = s.run := State.on_addr (f := F.SYS_CTRL_RUN) (State.rd_linkGone (by decide) s)

theorem State.relink_linkGone (s : State) : s.linkGone.relink = s.relink :=
  State.on_addr (f := F.SYS_STATUS_RELINK) (State.rd_linkGone (by decide) s)

theorem State.linkDown_idle {s : State} (h : s.run = false) : s.linkDown = s.linkGone := by
  refine if_neg ?_
  have run : s.linkGone.run = false := (State.run_linkGone s).trans h
  show ¬(s.linkGone.run && !s.linkGone.relink) = true
  rw [run]
  simp

/-- The link lost from RUN on, before the completions that were held are counted as lost: RELINK, and a new era. -/
def State.relinkBegun (s : State) : State := { s.linkGone.set F.SYS_STATUS_RELINK 1 with cqHeld := [], era := s.era + 1 }

theorem State.linkDown_running {s : State} (run : s.run = true) (link : s.relink = false) :
    s.linkDown = s.relinkBegun.forEach s.cqHeld (fun x => State.complete x.1 x.2) := by
  refine if_pos ?_
  have run' : s.linkGone.run = true := (State.run_linkGone s).trans run
  have link' : s.linkGone.relink = false := (State.relink_linkGone s).trans link
  show (s.linkGone.run && !s.linkGone.relink) = true
  rw [run', link']
  rfl

/-- What the loss of the link changes and a completion that is lost does not. -/
def State.linkSide (s : State) : (Bool × List (Nat × Completion) × Nat) × List Cmd × Word × Bool :=
  ((s.relink, s.cqHeld, s.era), s.accepted, s.rd R.HIF_STATUS, s.perstN)

/-- What a count leaves: whatever the counters, the sets that wrapped, and a bit of OBS_WRAP or OBS_EVENT say nothing of. -/
theorem State.view_count {β : Type} {v : State → β} (bit : ∀ a ∈ [R.OBS_WRAP, R.OBS_EVENT], ∀ (b : Nat) (s : State), v (s.stick a b) = v s)
    (ctr : ∀ (c : Tbl Nat) (s : State), v { s with ctr := c } = v s) (wrapped : ∀ (w : List Nat) (s : State), v { s with wrapped := w } = v s)
    (set r i n : Nat) (s : State) : v (s.count set r i n) = v s := by
  unfold State.count
  dsimp only
  split
  · exact ctr _ s
  · exact (wrapped _ _).trans ((bit R.OBS_EVENT (by decide) _ _).trans ((bit R.OBS_WRAP (by decide) _ _).trans (ctr _ s)))

theorem State.rd_stick_obs {a b c : Nat} (ha : a ∈ [R.OBS_WRAP, R.OBS_EVENT]) (hc : c ∉ [R.OBS_WRAP, R.OBS_EVENT]) (s : State) :
    (s.stick a b).rd c = s.rd c := State.rd_set_ne (f := ⟨a, b, 1⟩) (fun (e : c = a) => hc (e ▸ ha)) _ s

theorem State.relink_stick_obs {a b : Nat} (ha : a ∈ [R.OBS_WRAP, R.OBS_EVENT]) (s : State) : (s.stick a b).relink = s.relink :=
  State.on_addr (f := F.SYS_STATUS_RELINK) (State.rd_stick_obs ha (by decide) s)

theorem State.linkSide_count (set r i n : Nat) (s : State) : (s.count set r i n).linkSide = s.linkSide := by
  refine State.view_count (fun a ha b t => ?_) (fun _ _ => rfl) (fun _ _ => rfl) set r i n s
  rw [State.linkSide, State.relink_stick_obs ha, State.rd_stick_obs ha (by decide)]
  rfl

/-- While RELINK is set a completion is a user task's or is lost. -/
theorem State.linkSide_complete {s : State} (h : s.relink = true) (r : Nat) (c : Completion) : (s.complete r c).linkSide = s.linkSide := by
  unfold State.complete
  split
  · rfl
  · exact State.linkSide_count _ _ _ _ s

theorem State.linkSide_completions {s : State} (h : s.relink = true) (l : List (Nat × Completion)) :
    (s.forEach l (fun x => State.complete x.1 x.2)).linkSide = s.linkSide := by
  induction l generalizing s with
  | nil => rfl
  | cons x l ih =>
    have same := State.linkSide_complete h x.1 x.2
    exact (ih ((congrArg (fun v => v.1.1) same).trans h)).trans same

theorem State.relink_relinkBegun (s : State) : s.relinkBegun.relink = true := by
  have bit : s.relinkBegun.get F.SYS_STATUS_RELINK = 1 := State.get_set_self (f := F.SYS_STATUS_RELINK) (by decide) 1 s.linkGone
  rw [State.relink, State.on, bit]
  rfl

theorem State.linkSide_linkDown {s : State} (run : s.run = true) (link : s.relink = false) :
    s.linkDown.linkSide = ((true, [], s.era + 1), s.accepted, s.linkGone.rd R.HIF_STATUS, s.perstN) := by
  have word : s.relinkBegun.rd R.HIF_STATUS = s.linkGone.rd R.HIF_STATUS := State.rd_set_ne (f := F.SYS_STATUS_RELINK) (by decide) 1 _
  rw [State.linkDown_running run link, State.linkSide_completions (State.relink_relinkBegun s), State.linkSide, State.relink_relinkBegun, word]
  rfl

theorem State.width_linkGone (s : State) : s.linkGone.get F.HIF_STATUS_WIDTH = 0 :=
  (State.get_set_ne (f := F.HIF_STATUS_SPEED) (g := F.HIF_STATUS_WIDTH) rfl (.inl (by decide)) (by decide) 0 _).trans
    (State.get_set_self (f := F.HIF_STATUS_WIDTH) (by decide) 0 s)

/-- PERST_N as the loss of the link leaves it. -/
theorem exec_pcieLinkDown (perst : Bool) (s : State) :
    exec (.pcieLinkDown perst) s = .next (({ s with perstN := s.perstN && !perst } : State).linkDown) := by
  show execPcieLinkDown perst s = _
  cases perst
  · rw [execPcieLinkDown, Bool.not_false, Bool.and_true]
    rfl
  · rw [execPcieLinkDown, Bool.not_true, Bool.and_false]
    rfl

/-! ### RUN (04 R125) -/

theorem exec_run_refused {s : State} (h : s.run = false) (refused : s.runRefusal ≠ 0) :
    exec .run s = .next ((s.set F.SYS_STATUS_RUN_REFUSED 1).set F.SYS_STATUS_REFUSE_CAUSE s.runRefusal) := by
  refine congrArg Host.Outcome.next ((if_neg ?_).trans (if_pos refused))
  simp [h]

theorem State.any_enabledRings {s : State} {c : Nat} (hc : c ≠ 0) (h : ∃ q < 128, s.cls q = c) :
    s.enabledRings.any (fun r => s.cls r == c) = true := by
  obtain ⟨q, hq, hcls⟩ := h
  refine List.any_eq_true.2 ⟨q, List.mem_filter.2 ⟨List.mem_range.2 hq, ?_⟩, beq_iff_eq.2 hcls⟩
  simp [hcls, hc]

theorem State.runRefusal_none {s : State} (ready : s.on F.SYS_STATUS_READY = true) (mgmt : ∃ q < 128, s.cls q = clsMgmt)
    (event : ∃ q < 128, s.cls q = clsEvent) (valid : s.ringsInvalid = false) : s.runRefusal = 0 := by
  simp [State.runRefusal, ready, State.any_enabledRings (by decide) mgmt, State.any_enabledRings (by decide) event, valid]

theorem exec_run_runs {s : State} (h : s.run = false) (free : s.runRefusal = 0) :
    exec .run s = .next (((s.set F.SYS_CTRL_RUN 1).set F.SYS_STATUS_RUN 1).set F.SYS_STATUS_RUN_REFUSED 0).updKeep := by
  refine congrArg Host.Outcome.next ((if_neg ?_).trans (if_neg (not_not.2 free)))
  simp [h]

/-! ### RELINK_DONE (04 R130) -/

theorem exec_relinkDone_unlinked {s : State} (h : s.relink = false) : exec .relinkDone s = .next s :=
  congrArg Host.Outcome.next (if_pos (by rw [h]; rfl))

theorem exec_relinkDone_invalid {s : State} (h : s.relink = true) (bad : s.ringsInvalid = true) : exec .relinkDone s =
    .next ((({ s with relinkLog := s.relinkLog ++
      [{ code := 0x0413, src := 0xFFFF, detail := (s.rd R.SYS_STATUS).toNat, time := s.nt, count := 1 }] } : State).attn (2 ^ 13)).wakeTasks
        0x0413) :=
  congrArg Host.Outcome.next ((if_neg (by simp [h])).trans (if_pos bad))

theorem exec_relinkDone_valid {s : State} (h : s.relink = true) (good : s.ringsInvalid = false) : exec .relinkDone s = .next s.relinkEnd :=
  congrArg Host.Outcome.next ((if_neg (by simp [h])).trans (if_neg (by simp [good])))

/-- RELINK is over, and the completions of the buffers posted before are counted as lost. -/
def State.relinkCounted (s : State) : State :=
  (s.set F.SYS_STATUS_RELINK 0).forEach s.rings (fun x s => s.when (x.2.posted != []) (State.count 5 (16 + x.1) 0 x.2.posted.length))

/-- What the end of RELINK leaves and a lost completion does not change. -/
def State.relinkSide (s : State) : (Bool × List EventRec) × Tbl RingSt × Tbl (List Byte) × List Cmd × Tbl Frame :=
  ((s.relink, s.relinkLog), s.rings, s.cq, s.accepted, s.frames)

theorem State.relinkSide_count (set r i n : Nat) (s : State) : (s.count set r i n).relinkSide = s.relinkSide := by
  refine State.view_count (fun a ha b t => ?_) (fun _ _ => rfl) (fun _ _ => rfl) set r i n s
  rw [State.relinkSide, State.relink_stick_obs ha]
  rfl

theorem State.relinkSide_relinkCounted (s : State) : s.relinkCounted.relinkSide = ((false, s.relinkLog), s.rings, s.cq, s.accepted, s.frames) := by
  have counts : s.relinkCounted.relinkSide = (s.set F.SYS_STATUS_RELINK 0).relinkSide :=
    State.view_forEach (fun _ _ _ => State.view_when (State.relinkSide_count ..) _) _
  have resumed : (s.set F.SYS_STATUS_RELINK 0).relink = false := by
    rw [State.relink, State.on, State.get_set_self (f := F.SYS_STATUS_RELINK) (by decide) 0 s]
    rfl
  rw [counts, State.relinkSide, resumed]
  rfl

/-- Without a refusal that waits no completion is written as RELINK ends. -/
theorem State.relinkEnd_quiet {s : State} (h : s.relinkLog = []) :
    s.relinkEnd = { s.relinkCounted with rings := s.relinkCounted.rings.map (fun x => (x.1, x.2.resumed)), relinkLog := [] } := by
  have log : s.relinkCounted.relinkLog = [] := (congrArg (fun v => v.1.2) (State.relinkSide_relinkCounted s)).trans h
  show State.forEach s.relinkCounted.relinkLog State.eventAll _ = _
  rw [log]
  rfl

theorem Tbl.find_map {α β : Type} (f : α → β) (k : Nat) (t : Tbl α) : Tbl.find k (t.map (fun x => (x.1, f x.2))) = (Tbl.find k t).map f := by
  induction t with
  | nil => rfl
  | cons x t ih =>
    rw [List.map_cons, Tbl.find, Tbl.find]
    split
    · rfl
    · exact ih

/-- Every ring restarts; a ring with nothing to remember is a new one already. -/
theorem State.ring_resumed {s t : State} (h : t.rings = s.rings.map (fun x => (x.1, x.2.resumed))) (r : Nat) : t.ring r = (s.ring r).resumed := by
  rw [State.ring, State.ring, Tbl.getD, Tbl.getD, h, Tbl.find_map]
  cases Tbl.find r s.rings <;> rfl

theorem State.relinkEnd_effect {s : State} (h : s.relinkLog = []) :
    s.relinkEnd.relink = false ∧ s.relinkEnd.cq = s.cq ∧ s.relinkEnd.accepted = s.accepted ∧ s.relinkEnd.frames = s.frames ∧
      ∀ r, s.relinkEnd.ring r = (s.ring r).resumed := by
  have side := State.relinkSide_relinkCounted s
  simp only [State.relinkSide, Prod.mk.injEq] at side
  obtain ⟨⟨resumed, -⟩, rings, cq, accepted, frames⟩ := side
  rw [State.relinkEnd_quiet h]
  exact ⟨resumed, cq, accepted, frames, State.ring_resumed (by rw [← rings])⟩

/-! ### The host download (04 R128) -/

theorem State.dlGo_waiting {v : Word} {s : State} (go : v.getLsbD 0 = true) (held : s.get F.RST_BOOT_STATE = 2) (host : s.debugBoot = false)
    (idle : s.get F.HIF_DL_STATUS_STATE ≠ 1) : s.dlGo v = s.set F.HIF_DL_STATUS_STATE
      (if s.get F.HIF_DL_LEN_LENGTH % 4096 = 0 ∧ 4096 ≤ s.get F.HIF_DL_LEN_LENGTH ∧ s.get F.HIF_DL_LEN_LENGTH ≤ 48 * 2 ^ 20 then 1
        else 3) := by
  have asked : bit v.toNat 0 = true := go
  refine if_neg ?_
  simp [asked, held, host, idle]

theorem exec_dlFetchDone_idle {s : State} (h : s.get F.HIF_DL_STATUS_STATE ≠ 1) (ok : Bool) (up : Nat) : exec (.dlFetchDone ok up) s = .next s :=
  if_pos h

theorem exec_dlFetchDone_failed {s : State} (h : s.get F.HIF_DL_STATUS_STATE = 1) (up : Nat) :
    exec (.dlFetchDone false up) s = .next (s.set F.HIF_DL_STATUS_STATE 3) := (if_neg (not_not.2 h)).trans (if_pos rfl)

theorem exec_dlFetchDone_fetched {s t : State} (h : s.get F.HIF_DL_STATUS_STATE = 1)
    (ht : t = ((s.set F.HIF_DL_STATUS_STATE 2).set F.RST_BOOT_STATE 0).setIdents none) (up : Nat) :
    exec (.dlFetchDone true up) s = .next (t.stepEnd 7 (if t.fb fbHostDl then 2 else 1) 2 up) := by
  subst ht
  exact (if_neg (not_not.2 h)).trans (if_neg Bool.noConfusion)

/-- Settles O17: the loss of the link by `State.linkSide_linkDown`, its return by `State.relinkEnd_effect`, the other rows by the branch that their
cause takes. -/
theorem hostLinkAndRun : Obligations.HostLinkAndRun := by
  unfold Obligations.HostLinkAndRun
  intro s w sp r up perst v
  refine ⟨rfl, exec_pcieLinkTrained_shown, fun narrow => exec_pcieLinkTrained_narrow narrow sp, rfl,
    fun h => congrArg Host.Outcome.next (State.linkDown_idle h), ?lost, exec_run_refused,
    fun h ready mgmt event valid => exec_run_runs h (State.runRefusal_none ready mgmt event valid), fun h => congrArg Host.Outcome.next (if_pos h),
    exec_relinkDone_unlinked, fun h bad => ⟨_, rfl, rfl, rfl, rfl, exec_relinkDone_invalid h bad⟩, ?resumes, ?download,
    fun h => exec_dlFetchDone_failed h up, fun h => ⟨_, rfl, exec_dlFetchDone_fetched h rfl up⟩, fun h => exec_dlFetchDone_idle h true up⟩
  case lost =>
    intro run link
    have side := State.linkSide_linkDown (s := { s with perstN := s.perstN && !perst }) run link
    simp only [State.linkSide, Prod.mk.injEq] at side
    obtain ⟨⟨relink, held, era⟩, accepted, word, pin⟩ := side
    exact ⟨_, exec_pcieLinkDown perst s, relink, held, era, accepted,
      (State.get_addr (f := F.HIF_STATUS_WIDTH) word).trans (State.width_linkGone _), pin⟩
  case resumes =>
    intro h good quiet
    obtain ⟨resumed, cq, accepted, frames, rings⟩ := State.relinkEnd_effect quiet
    refine ⟨_, exec_relinkDone_valid h good, resumed, cq, accepted, frames, ?_⟩
    rw [rings r]
    exact ⟨rfl, rfl, rfl, rfl, rfl, rfl, rfl⟩
  case download =>
    intro go held host idle
    have answer := State.dlGo_waiting go held host idle
    refine ⟨fun len => ?_, fun len => ?_⟩
    · rw [len] at answer
      exact congrArg Host.Outcome.next answer
    · rw [if_neg (fun h => len h.1)] at answer
      exact congrArg Host.Outcome.next answer

end Sys2Proof.Machine
end

section
/-! Submissions that the module may not fetch (04 R130, R156, R157; 16 R571). -/

namespace Sys2Proof.Machine

open Sys2Proof

/-- The classes whose rings hold no submission: disabled, TS and EVENT (04 R137). -/
def silentClasses : List Nat := [0, clsTs, clsEvent]

/-- What keeps the module from fetching a ring's submission (04 R130, R156, R157; 16 R571). -/
def State.fetchBlocked (s : State) (d : Submission) : Prop :=
  s.relink = true ∨ s.groomUp = false ∨ (s.ring d.ring).stopping = true ∨ d.index ≠ (s.ring d.ring).sqHead ∨
    (s.ring d.ring).sqHead = (s.ring d.ring).sqTail ∨ s.cls d.ring ∈ silentClasses

/-- What a fetched submission of a host ring has met. -/
theorem State.fetches_ring {s : State} {cls : Nat} {d : Submission} (hd : d.ring < 128) (h : s.fetches cls d = true) :
    s.groomUp = true ∧ s.cls d.ring = cls ∧ s.relink = false ∧ (s.ring d.ring).stopping = false ∧ d.index = (s.ring d.ring).sqHead ∧
      (s.ring d.ring).sqHead ≠ (s.ring d.ring).sqTail := by
  simp only [State.fetches, if_neg (Nat.not_le.2 hd), Bool.and_eq_true, beq_iff_eq, bne_iff_ne, Bool.not_eq_true'] at h
  obtain ⟨up, ⟨⟨⟨⟨⟨⟨⟨⟨hcls, link⟩, stop⟩, -⟩, next⟩, more⟩, -⟩, -⟩, -⟩, -⟩ := h
  exact ⟨up, hcls, link, stop, next, more⟩

theorem State.fetches_of_blocked {s : State} {cls : Nat} {d : Submission} (hd : d.ring < 128) (hc : cls ∉ silentClasses)
    (h : s.fetchBlocked d) : s.fetches cls d = false := by
  refine Bool.eq_false_iff.2 (fun hf => ?_)
  obtain ⟨up, hcls, link, stop, next, more⟩ := State.fetches_ring hd hf
  rcases h with h | h | h | h | h | h
  · exact Bool.noConfusion (link.symm.trans h)
  · exact Bool.noConfusion (up.symm.trans h)
  · exact Bool.noConfusion (stop.symm.trans h)
  · exact h next
  · exact more h
  · exact hc (hcls ▸ h)

/-- The command `c` does nothing unless the submission `d` is fetched from a ring of the command's class. -/
def OnlyFetched (d : Submission) (s : State) (c : Instr) : Prop :=
  ∃ cls, cls ∉ silentClasses ∧ (s.fetches cls d = false → exec c s = .next s)

theorem OnlyFetched.take {d : Submission} {s : State} {c : Instr} {k : CmdSpec} {op : Nat} (h : exec c s = .next (k.take op true d s))
    (hk : k.cls ∉ silentClasses := by decide) : OnlyFetched d s c :=
  ⟨k.cls, hk, fun hf => h.trans (congrArg Host.Outcome.next (CmdSpec.take_idle op true hf))⟩

/-- What follows a command that was fetched does not follow one that was not. -/
theorem OnlyFetched.takeThen {d : Submission} {s : State} {c : Instr} {k : CmdSpec} {op : Nat} {f : State → State}
    (h : exec c s = .next ((k.take op true d s).when (s.fetches clsMgmt d) f)) (hk : k.cls = clsMgmt) : OnlyFetched d s c :=
  ⟨clsMgmt, by decide, fun hf => h.trans (by rw [hf, CmdSpec.take_idle op true (by rwa [hk])]; rfl)⟩

theorem OnlyFetched.reset {d : Submission} {s : State} {c : Instr} {scopes : List Nat} (h : exec c s = .next (s.takeReset scopes d)) :
    OnlyFetched d s c := by
  refine ⟨clsMgmt, by decide, fun hf => h.trans ?_⟩
  unfold State.takeReset
  split
  · rw [CmdSpec.take_idle (k := specReset) 0x43 true hf]
  · rfl

theorem State.takeBuf_idle {cls : Nat} {d : Submission} {s : State} (h : s.fetches cls d = false) (op code : Nat) :
    s.takeBuf cls op code d = s := by
  simp [State.takeBuf, h]

theorem onlyFetched_txFrame (d : Submission) (s : State) : OnlyFetched d s (.txFrame d) :=
  ⟨clsFrameTx, by decide, fun hf => congrArg Host.Outcome.next (if_neg (fun h => Bool.noConfusion (hf.symm.trans h.1)))⟩

theorem onlyFetched_rxBuffer (d : Submission) (s : State) : OnlyFetched d s (.rxBuffer d) := by
  refine ⟨clsFrameRx, by decide, fun hf => congrArg Host.Outcome.next ?_⟩
  have same : s.takeBuf clsFrameRx 2 (bufRefusal 256 16384 64 64 d) d = s := State.takeBuf_idle hf _ _
  simp only [State.takeRxBuffer, same, Nat.lt_irrefl, decide_false, State.when_false]

theorem onlyFetched_logBuffer (d : Submission) (s : State) : OnlyFetched d s (.logBuffer d) := by
  refine ⟨clsLog, by decide, fun hf => congrArg Host.Outcome.next ?_⟩
  unfold State.takeLogBuffer
  rw [State.takeBuf_idle hf, hf]
  rfl

/-- Settles O24: each command acts only where its class's submission is fetched, and `State.fetches_of_blocked`. -/
theorem unfetchedSubmissionsChangeNothing : Obligations.UnfetchedSubmissionsChangeNothing := by
  intro s d hd blocked c hc
  suffices acts : OnlyFetched d s c by
    obtain ⟨cls, hcls, idle⟩ := acts
    exact idle (State.fetches_of_blocked hd hcls blocked)
  revert c
  simp only [List.forall_mem_append, List.forall_mem_cons]
  refine ⟨⟨⟨?hosts, ?resets⟩, ?loom⟩, ?time⟩
  case hosts =>
    exact ⟨.take rfl, .take rfl, onlyFetched_txFrame d s, onlyFetched_rxBuffer d s, onlyFetched_logBuffer d s, .take rfl, .take rfl, .take rfl,
      .take rfl, .take rfl, .take rfl, .take rfl, .take rfl, .take rfl, .take rfl, .take rfl, .take rfl, .take rfl, .take rfl, .take rfl,
      .take rfl, .take rfl, .take rfl, List.forall_mem_nil _⟩
  case resets =>
    exact ⟨.take rfl, .take rfl, .take rfl, .take rfl, .take rfl, .take rfl, .reset rfl, .reset rfl, .reset rfl, .reset rfl, .reset rfl,
      .reset rfl, .reset rfl, .reset rfl, .reset rfl, .take rfl, .take rfl, .take rfl, .takeThen rfl rfl, .takeThen rfl rfl, .takeThen rfl rfl,
      .takeThen rfl rfl, .takeThen rfl rfl, .takeThen rfl rfl, List.forall_mem_nil _⟩
  case loom =>
    exact ⟨.takeThen rfl rfl, .take rfl, .take rfl, .take rfl, .take rfl, .take rfl, .take rfl, .take rfl, .take rfl, .take rfl, .take rfl,
      .take rfl, .take rfl, .take rfl, .take rfl, .take rfl, .take rfl, .take rfl, .take rfl, .take rfl, .take rfl, .take rfl,
      List.forall_mem_nil _⟩
  case time =>
    exact ⟨.take rfl, .take rfl, .take rfl, .take rfl, .take rfl, .take rfl, .take rfl, .take rfl, .take rfl, .take rfl, .take rfl,
      .take rfl, .take rfl, .take rfl, .take rfl, .take rfl, .take rfl, .take rfl, .takeThen rfl rfl, .take rfl, .take rfl, .take rfl,
      List.forall_mem_nil _⟩

end Sys2Proof.Machine
end

section
/-! The doorbells of BAR2 (04 R131 to R135, R161, R168). -/

namespace Sys2Proof.Machine

open Sys2Proof

/-! ### Writes to BAR2 (04 R133, R134) -/

theorem exec_registerWrite_doorbell {a r o : Nat} (h : doorbellOf a = some (r, o)) (w : RegWr) (s : State) :
    exec (.registerWrite true a w) s = .next (s.when (o < 0x10) (State.doorbell r o w.v)) := by
  show execRegisterWrite true a w s = _
  simp only [execRegisterWrite, if_true, h]

theorem State.doorbells_none {s : State} (h : s.dbNow = []) : s.doorbells = s := by
  unfold State.doorbells
  rw [h, State.forEach_nil, ← h]

/-- The registered doorbell writes act in the order of their arrival, each by its offset. -/
theorem State.doorbells_eq (s : State) : s.doorbells = ({ s with dbNow := [] } : State).forEach s.dbNow (fun y z =>
    if y.2.1 = 0 then z.dbSqTail y.1 y.2.2.toNat else if y.2.1 = 4 then z.dbCqHead y.1 y.2.2.toNat
    else if y.2.2.getLsbD 16 then z.dbArm y.1 y.2.2.toNat else z.dbDisarm y.1) := by
  unfold State.doorbells
  congr 1
  funext y z
  split
  · next h => rw [if_pos h]
  · next h => rw [h, if_neg (by decide), if_pos rfl]
  · next h0 h4 => rw [if_neg h0, if_neg h4]

/-! ### What each doorbell does -/

/-- A ring number that BAR2 does not have (04 R133). -/
theorem exec_doorbells_beyond {r : Nat} (h : 128 ≤ r) (v : Nat) (s : State) :
    ∀ c ∈ [Instr.dbSqTail r v, .dbCqHead r v, .dbArmEnable r v, .dbArmDisable r], exec c s = .next s := by
  simp only [List.forall_mem_cons]
  exact ⟨congrArg _ (if_pos h), congrArg _ (if_pos h), congrArg _ (if_pos h), congrArg _ (if_pos h), List.forall_mem_nil _⟩

/-- A ring that does not drain has no draining to end (04 R161). -/
theorem State.undrain_of_not_draining {r : Nat} {s : State} (h : (s.ring r).draining = false) (had : Bool) : s.undrain r had = s := by
  unfold State.undrain
  simp only [h, Bool.false_and, Bool.false_eq_true, if_false]

section
variable {r : Nat} (hr : r < 128) (v : Nat)
include hr

theorem State.dbSqTail_within {s : State} (h : v % 65536 < s.ringSize r) :
    s.dbSqTail r v = s.modRing r (fun q => { q with sqTail := v % 65536 }) := by
  rw [State.dbSqTail, if_neg (Nat.not_le.2 hr), if_neg (Nat.not_le.2 h)]

theorem State.dbSqTail_beyond {s : State} (h : s.ringSize r ≤ v % 65536) : s.dbSqTail r v = s.hifErr 1 r (v % 65536) := by
  rw [State.dbSqTail, if_neg (Nat.not_le.2 hr), if_pos h]

theorem State.dbCqHead_beyond {s : State} (h : s.ringSize r ≤ v % 65536) : s.dbCqHead r v = s.hifErr 1 r (v % 65536) :=
  (if_neg (Nat.not_le.2 hr)).trans (if_pos (.inl h))

theorem State.dbCqHead_consumes {s : State} (hv : v % 65536 < s.ringSize r)
    (hn : (v % 65536 + s.ringSize r - (s.ring r).cqHead) % s.ringSize r ≤ s.cqUsed r) (hd : (s.ring r).draining = false) :
    s.dbCqHead r v = s.modRing r (fun q => { q with cqHead := v % 65536 }) := by
  have still : ((s.modRing r (fun q => { q with cqHead := v % 65536 })).ring r).draining = false := by rw [State.ring_modRing_self, hd]
  have good : ¬(s.ringSize r ≤ v % 65536 ∨ s.cqUsed r < (v % 65536 + s.ringSize r - (s.ring r).cqHead) % s.ringSize r) := by omega
  refine ((if_neg (Nat.not_le.2 hr)).trans (if_neg good)).trans ?_
  unfold State.when
  rw [State.undrain_of_not_draining still, ite_self]

theorem State.dbArm_ahead {s : State} (h : (s.ring r).cqTail ≤ v % 65536) (hw : (r, v % 65536) ∉ s.wroteNow) :
    s.dbArm r v = s.modRing r (fun q => { q with armed := some (v % 65536) }) := by
  have unwritten : ¬(v % 65536 < (s.ring r).cqTail ∨ s.wroteNow.contains (r, v % 65536) = true) := by
    rw [List.contains_iff_mem]
    exact not_or.2 ⟨Nat.not_lt.2 h, hw⟩
  exact (if_neg (Nat.not_le.2 hr)).trans (if_neg unwritten)

theorem State.dbArm_written {s : State} (h : v % 65536 < (s.ring r).cqTail ∨ (r, v % 65536) ∈ s.wroteNow) :
    s.dbArm r v = (s.modRing r (fun q => { q with armed := none })).sendMsix (s.get (F.HIF_RING_CFG_MSIX_VEC r)) :=
  (if_neg (Nat.not_le.2 hr)).trans (if_pos (h.imp_right List.contains_iff_mem.2))

end

/-- Settles O20: a write waits in `dbNow`, and each doorbell acts by the branch that its value takes. -/
theorem doorbellsMoveTheRings : Obligations.DoorbellsMoveTheRings := by
  intro s r v a o w
  refine ⟨fun h ho => ?_, fun h ho => ?_, State.doorbells_none, fun x l h => h ▸ State.doorbells_eq s,
    fun h => exec_doorbells_beyond h v s, fun hr => ⟨?_, ?_, ?_, ?_, ?_, ?_⟩⟩
  · rw [exec_registerWrite_doorbell h, decide_eq_true ho]
    rfl
  · rw [exec_registerWrite_doorbell h, decide_eq_false (Nat.not_lt.2 ho)]
    rfl
  · exact fun h => congrArg Host.Outcome.next (State.dbSqTail_within hr v h)
  · exact fun h => ⟨congrArg Host.Outcome.next (State.dbSqTail_beyond hr v h), congrArg Host.Outcome.next (State.dbCqHead_beyond hr v h)⟩
  · exact fun hv hn hd => congrArg Host.Outcome.next (State.dbCqHead_consumes hr v hv hn hd)
  · exact fun h hw => congrArg Host.Outcome.next (State.dbArm_ahead hr v h hw)
  · exact fun h => congrArg Host.Outcome.next (State.dbArm_written hr v h)
  · exact congrArg Host.Outcome.next (if_neg (Nat.not_le.2 hr))

end Sys2Proof.Machine
end

section
/-! Where a completion goes, and events before and after RUN (04 R130, R138, R149, R158, R163, R166, R168; 17 R610). -/

namespace Sys2Proof.Machine

open Sys2Proof

/-! ### The way of a completion (04 R130, R166) -/

section
variable {r : Nat} (hr : r < 128) (c : Completion)
include hr

theorem State.complete_relink {s : State} (h : s.relink = true) : s.complete r c = s.count 5 (16 + r) 0 1 :=
  (if_neg (Nat.not_le.2 hr)).trans (if_pos h)

theorem State.complete_held {s : State} (h : s.relink = false) (g : s.groomUp = false) :
    s.complete r c = { s with cqHeld := s.cqHeld ++ [(r, c)] } := by
  simp only [State.complete, Nat.not_le.2 hr, h, g, Bool.false_eq_true, if_false]

theorem State.complete_written {s : State} (h : s.relink = false) (g : s.groomUp = true) : s.complete r c = s.putCq r c := by
  simp only [State.complete, Nat.not_le.2 hr, h, g, Bool.false_eq_true, if_false, if_true]

end

/-! ### A completion written (04 R131, R138, R139, R168) -/

/-- The completion as it is written: with the status word and the ring's PHASE. -/
def State.stamped (r : Nat) (c : Completion) (s : State) : Completion :=
  { c with status := BitVec.ofNat 16 s.statusWord, cflags := c.cflags ||| BitVec.ofNat 8 (b2n (s.ring r).phase) }

theorem State.ring_sendMsix (v : Nat) (s : State) (q : Nat) : (s.sendMsix v).ring q = s.ring q :=
  congrArg (fun t : Tbl RingSt => t.getD q {}) (State.sendMsix_rings v s)

/-- The ring after a completion is written: its tail has advanced, its PHASE flips on the wrap, and an arming at the place is spent. -/
theorem State.putCq_ring (r : Nat) (c : Completion) (s : State) : (s.putCq r c).ring r =
    { s.ring r with
      cqTail := ((s.ring r).cqTail + 1) % s.ringSize r,
      phase := if ((s.ring r).cqTail + 1) % s.ringSize r = 0 then !(s.ring r).phase else (s.ring r).phase,
      armed := if (s.ring r).armed == some (s.ring r).cqTail then none else (s.ring r).armed } := by
  unfold State.putCq
  dsimp only
  split
  · rw [State.ring_sendMsix, State.ring_modRing_self]
    rfl
  · rw [State.ring_modRing_self]
    rfl

theorem State.sendMsix_unmasked {v : Nat} {s : State} (h : (s.rd (R.MSIX_TABLE v 3)).getLsbD 0 = false) :
    s.sendMsix v = { s with msixSent := s.msixSent ++ [v] } := if_neg (Bool.eq_false_iff.1 h)

theorem State.putCq_msix {r : Nat} {s : State} (h : (s.ring r).armed = some (s.ring r).cqTail)
    (hm : (s.rd (R.MSIX_TABLE (s.get (F.HIF_RING_CFG_MSIX_VEC r)) 3)).getLsbD 0 = false) (c : Completion) :
    (s.putCq r c).msixSent = s.msixSent ++ [s.get (F.HIF_RING_CFG_MSIX_VEC r)] := by
  unfold State.putCq
  simp only [h, beq_self_eq_true, if_true]
  refine (congrArg State.msixSent (State.sendMsix_unmasked ?_)).trans ?_
  · exact hm
  · rfl

theorem Told.frames {s t : State} (h : Told s t) : t.frames = s.frames := by
  obtain ⟨-, same⟩ := h
  rw [← same]

theorem Told.rxData {s t : State} (h : Told s t) : t.rxData = s.rxData := by
  obtain ⟨-, same⟩ := h
  rw [← same]

theorem State.completeEra_lost {era r : Nat} (hr : r < 128) {s : State} (h : era ≠ s.era) (c : Completion) :
    s.completeEra era r c = s.count 5 (16 + r) 0 1 := if_pos ⟨hr, h⟩

/-! ### Events (04 R144, R149, R163; 17 R610) -/

theorem State.attn_zero (s : State) : s.attn 0 = s := rfl

/-- One occurrence on an EVENT ring with room and no older record waiting. -/
theorem State.eventOn_room {r : Nat} {s : State} (link : s.relink = false) (room : s.cqRoom r ≠ 0) (none : (s.ring r).pending = [])
    (rs : List Nat) (n : Nat) (e : EventRec) : State.eventOn rs n r e s = (s.attn 1).complete r (s.eventCompletion e) := by
  unfold State.eventOn
  simp only [link, room, none, ne_eq, not_true_eq_false, or_self, Bool.false_eq_true, if_false]

theorem State.event_on {r code : Nat} {s : State} (run : s.run = true) (rings : s.eventRings = [r]) (link : s.relink = false)
    (room : s.cqRoom r ≠ 0) (none : (s.ring r).pending = []) (quiet : attnOf code = 0) (src detail : Nat) :
    s.event code src detail = ((s.wakeTasks code).attn 1).complete r ((s.wakeTasks code).eventCompletion
      { code := code, src := src, detail := detail, time := s.nt, count := 1 }) := by
  unfold State.event
  rw [quiet, State.attn_zero]
  refine (if_pos (by exact run)).trans ?_
  unfold State.eventAll
  rw [show (s.wakeTasks code).eventRings = [r] from rings, State.forEach_cons, State.forEach_nil]
  exact State.eventOn_room (s := s.wakeTasks code) link room none [r] 1 { code := code, src := src, detail := detail, time := s.nt, count := 1 }

/-- Settles O26: the way of a completion by the link and the groom, what is written by `State.putCq_cq` and `State.putCq_ring`, events by
`State.event_off` and `State.event_on`. -/
theorem completionsAreWrittenHeldOrLost : Obligations.CompletionsAreWrittenHeldOrLost := by
  intro s r era code src detail c hr
  refine ⟨State.complete_relink hr c, State.complete_held hr c, fun link up => ?written, fun h => State.completeEra_lost hr h c,
    fun h => State.event_off h code src detail, fun run rings link room none quiet => State.event_on run rings link room none quiet src detail⟩
  have told := State.complete_told r c s
  refine ⟨s.stamped r c, ?_⟩
  rw [State.complete_written hr c link up] at told ⊢
  refine ⟨State.putCq_cq r c s, rfl, rfl, rfl, rfl, rfl, rfl, rfl, rfl, ?tail, ?phase, fun armed unmasked => State.putCq_msix armed unmasked c,
    told.frames, told.accepted, told.rxData⟩
  case tail => rw [State.putCq_ring]
  case phase =>
    rw [State.putCq_ring]
    split
    · next wraps => rw [decide_eq_true wraps, Bool.bne_true]
    · next stays => rw [decide_eq_false stays, Bool.bne_false]

end Sys2Proof.Machine
end

section
/-! What the host's rings carry: frames, records of the bobbins, samples and events (04 R145 to R150, R161 to R163; 06 R245; 16 R589). -/

namespace Sys2Proof.Machine

open Sys2Proof

/-! ### TX_FRAME (04 R145) -/

section
variable {d : Submission} {s : State} (hf : s.fetches clsFrameTx d = true) (hh : s.innerHold.contains 272 = false)
include hf hh

/-- TX_FRAME of a submission that is fetched, by the outcome of its checks. -/
theorem State.txFrame_fetched : s.txFrame d =
    if (s.fetched d).txRefusal d (s.acceptAt false d) ≠ rOk then
      (cmdNow 1 d s).ended ((s.fetched d).txRefusal d (s.acceptAt false d)) 0 0
        ((s.fetched d).refusalErr (specTxFrame.reservedSet d) ((s.fetched d).txRefusal d (s.acceptAt false d)) d)
    else ((s.fetched d).acceptTx d (s.acceptAt false d)).updHeld := by
  unfold State.txFrame
  rw [if_pos ⟨hf, by rw [hh, Bool.not_false]⟩]
  simp only [State.fetched_acceptAt]
  rfl

theorem exec_txFrame_accepted (h : (s.fetched d).txRefusal d (s.acceptAt false d) = rOk) :
    exec (.txFrame d) s = .next ((s.fetched d).acceptTx d (s.acceptAt false d)).updHeld :=
  congrArg Host.Outcome.next ((State.txFrame_fetched hf hh).trans (if_neg (not_not.2 h)))

theorem exec_txFrame_refused {code : Nat} (h : (s.fetched d).txRefusal d (s.acceptAt false d) = code) (hc : code ≠ rOk) :
    exec (.txFrame d) s = .next ((cmdNow 1 d s).ended code 0 0 ((s.fetched d).refusalErr (specTxFrame.reservedSet d) code d)) := by
  subst h
  exact congrArg Host.Outcome.next ((State.txFrame_fetched hf hh).trans (if_pos hc))

end

/-! ### Buffers posted (04 R146, R150) -/

/-- A buffer's submission without a fault (04 R146, R150). -/
theorem bufRefusal_ok {lo hi unit align : Nat} {d : Submission} (flags : d.badFlags clsFrameRx = false) (at? : d.at? = false) (p2 : d.p2 = 0)
    (p0 : d.p0.toNat = d.P0 0 16) (least : lo ≤ d.P0 0 16) (most : d.P0 0 16 ≤ hi) (whole : d.P0 0 16 % unit = 0)
    (aligned : d.p1.toNat % align = 0) : bufRefusal lo hi unit align d = rOk := by
  simp [bufRefusal, flags, at?, p2, p0, Nat.not_lt.2 least, Nat.not_lt.2 most, whole, aligned]

/-- The ring with the buffer of a submission posted last. -/
def RingSt.post (d : Submission) (q : RingSt) : RingSt :=
  { q with posted := q.posted ++ [{ index := d.index, tag := d.tag, len := d.P0 0 16, addr := d.p1.toNat }] }

theorem State.takeBuf_posts {cls : Nat} {d : Submission} {s : State} (hf : s.fetches cls d = true) (fence : d.fence = false) {code : Nat}
    (h : code = rOk) (op : Nat) : s.takeBuf cls op code d = (s.fetched d).modRing d.ring (RingSt.post d) := by
  subst h
  unfold State.takeBuf
  rw [if_neg (by simp [hf, fence])]
  exact if_neg (not_not.2 rfl)

theorem exec_rxBuffer_posts {d : Submission} {s : State} (hf : s.fetches clsFrameRx d = true) (fence : d.fence = false)
    (ok : bufRefusal 256 16384 64 64 d = rOk) (quiet : (s.ring d.ring).draining = false) :
    exec (.rxBuffer d) s = .next ((s.fetched d).modRing d.ring (RingSt.post d)) := by
  have posts := State.takeBuf_posts hf fence ok 2
  have still : (((s.fetched d).modRing d.ring (RingSt.post d)).ring d.ring).draining = false := by
    rw [State.ring_modRing_self, State.fetched_ring]
    exact quiet
  refine congrArg Host.Outcome.next ?_
  unfold State.takeRxBuffer State.when
  rw [posts]
  dsimp only
  rw [State.undrain_of_not_draining still, ite_self]

theorem exec_logBuffer_posts {d : Submission} {s : State} (hf : s.fetches clsLog d = true) (fence : d.fence = false)
    (ok : bufRefusal 4096 65024 32 1 d = rOk) : exec (.logBuffer d) s =
      .next (((s.fetched d).modRing d.ring (RingSt.post d)).logTick (s.get (F.HIF_RING_PARAM_CORE d.ring))) := by
  refine congrArg Host.Outcome.next ?_
  unfold State.takeLogBuffer
  rw [State.takeBuf_posts hf fence ok 3, hf]
  rfl

/-! ### Frames received (04 R161, R162) -/

theorem exec_frameRxDelivery_room {r id : Nat} {f : Frame} {bs : List (RxBuf × List Byte)} {s : State} (h : s.rxRoom r = some (id, f, bs))
    (quiet : (s.ring r).draining = false) (bad : Bool) : exec (.frameRxDelivery ⟨r, bad⟩) s = .next (s.rxDeliver r bad id f bs).updHeld := by
  show execFrameRxDelivery ⟨r, bad⟩ s = _
  simp only [execFrameRxDelivery, h, quiet, Bool.false_eq_true, if_false]

theorem exec_frameRxDelivery_idle {r : Nat} {s : State} (h : s.rxRoom r = none ∨ (s.ring r).draining = true) (bad : Bool) :
    exec (.frameRxDelivery ⟨r, bad⟩) s = .next s := by
  show execFrameRxDelivery ⟨r, bad⟩ s = _
  unfold execFrameRxDelivery
  dsimp only
  split
  · next room => exact if_pos (h.resolve_left (by simp [room]))
  · rfl

theorem exec_rxWaitExpiry_ends {r id : Nat} {s : State} (h : (s.ring r).rxQueue.head? = some id)
    (go : (s.ring r).draining = true ∨ (s.rxRoom r = none ∧ s.ran (.rxWait r) (s.get (F.HIF_RING_CFG_RX_WAIT_US r) * us) = true)) :
    exec (.rxWaitExpiry r) s =
      .next ((((s.modRing r (fun x => { x with draining := true })).ringFull r).endFrame id 0x50).updHeld) := by
  obtain ⟨rest, hq⟩ := List.head?_eq_some_iff.1 h
  show execRxWaitExpiry r s = _
  unfold execRxWaitExpiry
  rw [hq]
  exact if_pos (by simpa only [Option.isNone_iff_eq_none] using go)

/-! ### Bobbins drained (04 R147; 06 R245) -/

/-- The first Q word of a TS completion (04 R147). -/
def BobbinEntry.q1 (p : Nat) (e : BobbinEntry) : Nat :=
  p + e.tsId * 2 ^ 9 + b2n e.oneStep * 2 ^ 21 + b2n e.late * 2 ^ 22 + b2n e.notSent.isSome * 2 ^ 23 + e.notSent.getD 0 * 2 ^ 24

/-- The TS completion of an entry of port `p`'s bobbin. -/
def BobbinEntry.completion (p : Nat) (e : BobbinEntry) : Completion where
  status := 0
  sqIndex := 0xFFFF
  result := rOk
  cflags := cflagsOf false false false e.degraded
  tag := 0
  time := BitVec.ofNat 64 e.time
  q1 := BitVec.ofNat 64 (e.q1 p)
  q2 := 0

theorem exec_bobbinDrain_takes {r p : Nat} {e : BobbinEntry} {q : List BobbinEntry} {s : State} (h : s.bobbins.getD p [] = e :: q)
    (ts : s.cls r = clsTs) (first : s.get (F.HIF_RING_PARAM_FIRST_PORT r) ≤ p) (last : p ≤ s.get (F.HIF_RING_PARAM_LAST_PORT r))
    (run : s.run = true) (link : s.relink = false) (up : s.groomUp = true) (room : s.cqRoom r ≠ 0) :
    exec (.bobbinDrain r p) s =
      .next ((({ s with bobbins := Tbl.put [] p q s.bobbins } : State).bobbinShow p).complete r (e.completion p)) := by
  show execBobbinDrain r p s = _
  unfold execBobbinDrain
  rw [h]
  exact if_pos (by simp [ts, first, last, run, link, up, room])

theorem exec_bobbinDrain_idle {r p : Nat} {s : State} (h : s.bobbins.getD p [] = [] ∨ s.run = false ∨ s.relink = true ∨ s.groomUp = false) :
    exec (.bobbinDrain r p) s = .next s := by
  show execBobbinDrain r p s = _
  unfold execBobbinDrain
  dsimp only
  split
  · rfl
  · next e q he =>
    refine if_neg (fun go => ?_)
    simp only [Bool.and_eq_true, Bool.not_eq_true'] at go
    obtain ⟨⟨⟨⟨-, run⟩, link⟩, up⟩, -⟩ := go
    simp [he, run, link, up] at h

/-! ### LOG rings (04 R150; 16 R589) -/

theorem Told.logs {s t : State} (h : Told s t) : t.logs = s.logs := by
  obtain ⟨-, same⟩ := h
  rw [← same]

theorem State.logTick_logs (c : Nat) (s : State) : (s.logTick c).logs = s.logs := by
  unfold State.logTick State.startOnce
  split
  · split <;> rfl
  · rfl

theorem State.logTick_rxData (c : Nat) (s : State) : (s.logTick c).rxData = s.rxData := by
  unfold State.logTick State.startOnce
  split
  · split <;> rfl
  · rfl

/-- The entries of a LOG buffer written to the host, or lost where the write fails (04 R127; log entry 78). -/
def State.logWrite (r : Nat) (bad : Bool) (b : RxBuf) (l : List Byte) (s : State) : State :=
  if bad then s.hifErr 3 r b.addr else { s with rxData := Tbl.ins b.addr l s.rxData }

theorem State.hifErr_told (b src value : Nat) (s : State) : Told (s.stick R.HIF_ERR b) (s.hifErr b src value) := State.raiseD_told .hif b src value s

theorem State.log_logWrite (r : Nat) (bad : Bool) (b : RxBuf) (l : List Byte) (s : State) (c : Nat) :
    (s.logWrite r bad b l).log c = s.log c := by
  refine congrArg (fun t : Tbl GroomLog => t.getD c {}) ?_
  cases bad
  · rfl
  · exact (State.hifErr_told 3 r b.addr s).logs

theorem State.logWrite_rxData_bad (r : Nat) (b : RxBuf) (l : List Byte) (s : State) : (s.logWrite r true b l).rxData = s.rxData :=
  (State.hifErr_told 3 r b.addr s).rxData

theorem State.logWrite_rxData_good (r : Nat) (b : RxBuf) (l : List Byte) (s : State) :
    Tbl.find b.addr (s.logWrite r false b l).rxData = some l := Tbl.find_ins_self ..

/-- A LOG buffer taken from its ring with the oldest `n` entries of core `c`. -/
def State.logTaken (r c n : Nat) (rest : List RxBuf) (s : State) : State :=
  (((((s.modRing r (fun q => { q with posted := rest, logLost := 0 })).modLog c (fun g => { g with held := g.held.drop n })).set
    (F.GROOM_LOG_STATUS_LOST c) 0).stop (.logFirst c))).logTick c

theorem State.logTaken_rxData (r c n : Nat) (rest : List RxBuf) (s : State) : (s.logTaken r c n rest).rxData = s.rxData :=
  State.logTick_rxData c _

theorem State.log_logTaken (r c n : Nat) (rest : List RxBuf) (s : State) : ((s.logTaken r c n rest).log c).held = (s.log c).held.drop n := by
  have drop : (s.logTaken r c n rest).log c = { s.log c with held := (s.log c).held.drop n } :=
    (congrArg (fun t : Tbl GroomLog => t.getD c {}) (State.logTick_logs c _)).trans (Tbl.getD_put_self ({} : GroomLog) c _ _)
  rw [drop]

/-- The completion of a LOG buffer with `n` entries, after `lost` that were lost (04 R150). -/
def State.logCompletion (bad : Bool) (b : RxBuf) (n lost : Nat) (s : State) : Completion where
  status := 0
  sqIndex := b.index
  result := if bad then rDmaError else rOk
  cflags := s.cflags false false false
  tag := b.tag
  time := BitVec.ofNat 64 (ct s.nt)
  q1 := BitVec.ofNat 64 (n + lost * 2 ^ 32)
  q2 := 0

theorem exec_logCompletion_full {r c : Nat} {b : RxBuf} {rest : List RxBuf} {s : State} (log : s.cls r = clsLog)
    (core : s.get (F.HIF_RING_PARAM_CORE r) = c) (hc : c < 6) (run : s.run = true) (link : s.relink = false) (up : s.groomUp = true)
    (room : s.cqRoom r ≠ 0) (posted : (s.ring r).posted = b :: rest) (some : 0 < b.len / 32) (full : b.len / 32 ≤ (s.log c).held.length)
    (bad : Bool) : ∃ x : State, exec (.logCompletion ⟨r, bad⟩) s =
      .next (((s.logWrite r bad b ((s.log c).held.take (b.len / 32)).flatten).logTaken r c (b.len / 32) rest).complete r
        (x.logCompletion bad b (b.len / 32) (s.ring r).logLost)) := by
  have count : min (s.log c).held.length (b.len / 32) = b.len / 32 := Nat.min_eq_right full
  refine ⟨((((s.logWrite r bad b ((s.log c).held.take (b.len / 32)).flatten).modRing r (fun q => { q with posted := rest, logLost := 0 })).modLog c
    (fun g => { g with held := g.held.drop (b.len / 32) })).set (F.GROOM_LOG_STATUS_LOST c) 0).stop (.logFirst c), ?_⟩
  show execLogCompletion ⟨r, bad⟩ s = _
  unfold execLogCompletion
  simp only [posted, core, count]
  rw [if_pos ⟨log, hc, run, by rw [link, Bool.not_false], up, room, some, .inl trivial⟩]
  rfl

/-! ### EVENT rings that were full (04 R163) -/

theorem exec_eventPendingFlush_idle {r : Nat} {s : State} (h : s.relink = true ∨ s.groomUp = false ∨ s.cls r ≠ clsEvent) :
    exec (.eventPendingFlush r) s = .next s :=
  if_pos (by simpa only [Bool.not_eq_true'] using h)

theorem exec_eventPendingFlush_one {r : Nat} {s : State} {x : EventRec} {y : List EventRec} (link : s.relink = false) (up : s.groomUp = true)
    (event : s.cls r = clsEvent) (pending : (s.ring r).pending = x :: y) (room : s.cqRoom r = 1) :
    exec (.eventPendingFlush r) s = .next (((s.attn 1).complete r (s.eventCompletion x)).modRing r (fun z =>
      { z with pending := z.pending.drop 1, episode := z.episode && z.pending.drop 1 != [] })) := by
  have go : ¬(s.relink = true ∨ (!s.groomUp) = true ∨ s.cls r ≠ clsEvent) := by simp [link, up, event]
  have one : (s.ring r).pending.take (s.cqRoom r) = [x] := by rw [pending, room]; rfl
  show execEventPendingFlush r s = _
  unfold execEventPendingFlush
  rw [if_neg go, one]
  rfl

/-- Settles O27: each command and row by the branch that its ring's state takes. -/
theorem hostRingsCarryFramesAndRecords : Obligations.HostRingsCarryFramesAndRecords := by
  intro s d r p id k bad f bs e q b tl
  refine ⟨fun hf hh => ⟨exec_txFrame_accepted hf hh, fun _ => exec_txFrame_refused hf hh⟩, ?rx, ?log,
    fun h quiet => exec_frameRxDelivery_room h quiet bad, fun h => exec_frameRxDelivery_idle h bad, exec_rxWaitExpiry_ends,
    fun h ts first last run link up room =>
      ⟨_, e.completion p, rfl, exec_bobbinDrain_takes h ts first last run link up room, rfl, rfl, rfl⟩,
    exec_bobbinDrain_idle, ?logs, exec_eventPendingFlush_idle, ?events⟩
  case rx =>
    exact fun hf fence flags at? p2 p0 least most whole aligned quiet =>
      exec_rxBuffer_posts hf fence (bufRefusal_ok flags at? p2 p0 least most whole aligned) quiet
  case log =>
    exact fun hf fence flags at? p2 p0 least most whole =>
      exec_logBuffer_posts hf fence (bufRefusal_ok flags at? p2 p0 least most whole (Nat.mod_one _))
  case logs =>
    intro log core hc run link up room posted some full
    obtain ⟨x, act⟩ := exec_logCompletion_full log core hc run link up room posted some full bad
    refine ⟨_, _, act, rfl, rfl, rfl, rfl, fun good => ?_, fun failed => ?_, ?_⟩
    · subst good
      rw [State.logTaken_rxData, State.logWrite_rxData_good]
    · subst failed
      rw [State.logTaken_rxData, State.logWrite_rxData_bad]
    · rw [State.log_logTaken, State.log_logWrite]
  case events =>
    rintro link up event ⟨x, y, pending, room⟩
    exact ⟨x, y, _, pending, rfl, exec_eventPendingFlush_one link up event pending room⟩

end Sys2Proof.Machine
end

section
/-! The rule writer and the swaps of generations (04 R151; 07 R291 to R297). -/

namespace Sys2Proof.Machine

open Sys2Proof

/-! ### What fetching leaves of the rule memories -/

@[simp] theorem State.fetched_writer (d : Submission) (s : State) : (s.fetched d).writer = s.writer := by rw [State.fetched_eq]
@[simp] theorem State.fetched_cycles (d : Submission) (s : State) : (s.fetched d).cycles = s.cycles := by rw [State.fetched_eq]
@[simp] theorem State.fetched_frames (d : Submission) (s : State) : (s.fetched d).frames = s.frames := by rw [State.fetched_eq]

@[simp] theorem State.fetched_genHeld (d : Submission) (s : State) (g : Nat) : (s.fetched d).genHeld g = s.genHeld g := by
  simp only [State.genHeld, State.genBound, State.fetched_get, State.fetched_on, State.fetched_frames]

/-! ### The generations: what telling the host and the marks of HED_GEN_STATUS leave -/

/-- The swaps made and waiting, the rule memories and the generation in force. -/
def State.gens (s : State) : (List (Nat × Nat) × Nat × List Cmd) × Tbl (List Byte) × Nat :=
  ((s.swaps, s.swapSeq, s.swapWait), s.rules, s.get F.HED_GEN_STATUS_IN_FORCE)

theorem State.gens_iff {s t : State} : t.gens = s.gens ↔ (t.swaps = s.swaps ∧ t.swapSeq = s.swapSeq ∧ t.swapWait = s.swapWait) ∧
    t.rules = s.rules ∧ t.get F.HED_GEN_STATUS_IN_FORCE = s.get F.HED_GEN_STATUS_IN_FORCE := by
  simp [State.gens]

theorem Told.gens {s t : State} (h : Told s t) : t.gens = s.gens := by
  obtain ⟨regs, same⟩ := h
  have word : t.rd R.HED_GEN_STATUS = s.rd R.HED_GEN_STATUS := regs _ (fun g => by
    have := g.place
    simp only [R.HED_GEN_STATUS] at this
    omega)
  refine State.gens_iff.2 ⟨?_, ?_, State.get_addr (f := F.HED_GEN_STATUS_IN_FORCE) word⟩
  · rw [← same]
    exact ⟨rfl, rfl, rfl⟩
  · rw [← same]

/-- A field beside IN_FORCE. -/
theorem State.gens_set {f : Fld} (h : F.HED_GEN_STATUS_IN_FORCE.addr ≠ f.addr ∨ 1 ≤ f.lsb) (v : Nat) (s : State) : (s.set f v).gens = s.gens := by
  refine State.gens_iff.2 ⟨⟨rfl, rfl, rfl⟩, rfl, ?_⟩
  by_cases ha : F.HED_GEN_STATUS_IN_FORCE.addr = f.addr
  · exact State.get_set_ne ha (.inl (h.resolve_left (not_not.2 ha))) (by decide) v s
  · exact State.get_set_addr ha v s

theorem State.gens_updHeld (s : State) : s.updHeld.gens = s.gens :=
  (State.gens_set (f := F.HED_GEN_STATUS_HELD1) (.inr (by decide)) _ _).trans
    (State.gens_set (f := F.HED_GEN_STATUS_HELD0) (.inr (by decide)) _ _)

theorem State.gens_updPending (c : Cmd) (s : State) : (s.updPending c).gens = s.gens := by
  unfold State.updPending
  split
  · exact State.gens_set (f := F.HED_GEN_STATUS_PENDING) (.inr (by decide)) _ s
  · split
    · exact State.gens_set (.inr (show 1 ≤ 8 by decide)) _ s
    · rfl

theorem State.gens_finish (p : Cmd → Bool) (code time q1 q2 : Nat) (s : State) : (s.finish p code time q1 q2).gens = s.gens := by
  unfold State.finish
  split
  · rfl
  · exact (State.completeCmd_told ..).gens

/-! ### SWAP (07 R294, R295) -/

theorem State.swapTo_invalid {g : Nat} {s : State} (h : headerValid s.rules g = false) (b : Nat) :
    s.swapTo g b = (s, rState, s.swapSeq * 65536) := by
  simp only [State.swapTo, h, Bool.not_false, if_true]

/-- A swap to a generation with a valid header that is not in force. -/
theorem State.swapTo_gens {g : Nat} {s : State} (hg : g < 2) (valid : headerValid s.rules g = true) (other : g ≠ s.get F.HED_GEN_STATUS_IN_FORCE)
    (b : Nat) : (s.swapTo g b).1.gens = (((b, g) :: s.swaps, (s.swapSeq + 1) % 2 ^ 32, s.swapWait), s.rules, g) := by
  simp only [State.swapTo, valid, Bool.not_true, Bool.false_eq_true, if_false, other]
  rw [State.gens_updHeld, State.gens_set (f := F.HED_GEN_STATUS_SWAP_SEQ) (.inr (by decide))]
  exact congrArg (fun n => (((b, g) :: s.swaps, (s.swapSeq + 1) % 2 ^ 32, s.swapWait), s.rules, n))
    ((State.get_set_self (f := F.HED_GEN_STATUS_IN_FORCE) (by decide) g _).trans (Nat.mod_eq_of_lt hg))

theorem Submission.P0_lt (d : Submission) (lsb w : Nat) : d.P0 lsb w < 2 ^ w := Nat.mod_lt _ (Nat.two_pow_pos w)

@[simp] theorem State.gens_fetched (d : Submission) (s : State) : (s.fetched d).gens = s.gens := by
  rw [State.gens_iff]
  refine ⟨?_, ?_, State.fetched_get d s _⟩ <;> rw [State.fetched_eq]
  exact ⟨rfl, rfl, rfl⟩

theorem specRuleSwap_act_free {c : Cmd} {s : State} (h : s.swapBlocked c (c.sub.P0 0 1) = false) :
    specRuleSwap.act c s = ((s.swapTo (c.sub.P0 0 1) c.boundary).1,
      .done (s.swapTo (c.sub.P0 0 1) c.boundary).2.1 (s.swapTo (c.sub.P0 0 1) c.boundary).2.2 0) := if_neg (Bool.eq_false_iff.1 h)

theorem specRuleSwap_act_blocked {c : Cmd} {s : State} (h : s.swapBlocked c (c.sub.P0 0 1) = true) :
    specRuleSwap.act c s = ({ s with swapWait := s.swapWait ++ [c] }, .wait) := if_pos h

/-- A RULE_SWAP with no earlier write in its way: what its swap leaves of the generations. -/
theorem exec_ruleSwap_free {d : Submission} {s : State} (h : Ready specRuleSwap d s)
    (free : (s.fetched d).swapBlocked (cmdOf 0x11 d s) (d.P0 0 1) = false) :
    ∃ u : State, exec (.ruleSwap d) s = .next u ∧ u.gens = ((s.fetched d).swapTo (d.P0 0 1) (cmdOf 0x11 d s).boundary).1.gens := by
  have acts := specRuleSwap_act_free (c := cmdOf 0x11 d s) free
  refine ⟨_, congrArg Host.Outcome.next ((CmdSpec.take_pick h rfl).trans (CmdSpec.actNow_done acts)), ?_⟩
  exact (State.gens_updPending ..).trans (State.completeCmd_told ..).gens

theorem exec_ruleSwap_blocked {d : Submission} {s : State} (h : Ready specRuleSwap d s)
    (blocked : (s.fetched d).swapBlocked (cmdOf 0x11 d s) (d.P0 0 1) = true) : exec (.ruleSwap d) s = .next
      (((cmdOf 0x11 d s).goesOn { s.fetched d with swapWait := (s.fetched d).swapWait ++ [cmdOf 0x11 d s] }).updPending (cmdOf 0x11 d s)) :=
  congrArg Host.Outcome.next ((CmdSpec.take_pick h rfl).trans (CmdSpec.actNow_wait (specRuleSwap_act_blocked (c := cmdOf 0x11 d s) blocked)))

theorem exec_ruleSwapDeferred_none {s : State} (h : s.swapWait = []) : exec .ruleSwapDeferred s = .next s := by
  show execRuleSwapDeferred s = _
  simp only [execRuleSwapDeferred, h]

theorem exec_ruleSwapDeferred_blocked {c : Cmd} {rest : List Cmd} {s : State} (h : s.swapWait = c :: rest)
    (blocked : s.swapBlocked c (c.sub.P0 0 1) = true) : exec .ruleSwapDeferred s = .next s := by
  show execRuleSwapDeferred s = _
  simp only [execRuleSwapDeferred, h, blocked, if_true]

/-- The command of a swap that waited, among the accepted, marked late (07 R295). -/
def Cmd.lateMark (c x : Cmd) : Cmd := if x == { c with begun := true } then { x with late := true } else x

/-- A swap that waited takes effect: what it leaves of the generations. -/
theorem exec_ruleSwapDeferred_free {c : Cmd} {rest : List Cmd} {s : State} (h : s.swapWait = c :: rest)
    (free : s.swapBlocked c (c.sub.P0 0 1) = false) : ∃ u : State, exec .ruleSwapDeferred s = .next u ∧
      u.gens = (({ s with swapWait := rest } : State).swapTo (c.sub.P0 0 1) s.nt).1.gens := by
  generalize hw : ({ s with swapWait := rest } : State).swapTo (c.sub.P0 0 1) s.nt = w
  have acts : exec .ruleSwapDeferred s = .next ((State.finish (fun x => x == { c with begun := true, late := true }) w.2.1 w.1.nt w.2.2 0
      { w.1 with accepted := w.1.accepted.map c.lateMark }).updPending c) := by
    show execRuleSwapDeferred s = _
    simp only [execRuleSwapDeferred, h, free, Bool.false_eq_true, if_false, hw]
    rfl
  exact ⟨_, acts, (State.gens_updPending ..).trans (State.gens_finish ..)⟩

/-! ### The rule writer (07 R291, R292, R297) -/

section
variable {j : RuleJob} {s : State}

theorem State.startJob_queues (h : s.writer ≠ none) : s.startJob j = ({ s with writeQ := s.writeQ ++ [j] }, .wait) :=
  if_pos (Option.isSome_iff_ne_none.2 h)

theorem State.startJob_free (h : s.writer = none) : s.startJob j =
    if s.genHeld j.gen then (s, .done rBusy 0 0) else if 1 < j.left then (s.writeNext 1 s.cycles j, .wait) else ({ s with writer := some j }, .wait) :=
  if_neg (by simp [h])

theorem State.startJob_held (h : s.writer = none) (held : s.genHeld j.gen = true) : s.startJob j = (s, .done rBusy 0 0) :=
  (State.startJob_free h).trans (if_pos held)

theorem State.startJob_many (h : s.writer = none) (held : s.genHeld j.gen = false) (many : 1 < j.left) :
    s.startJob j = (s.writeNext 1 s.cycles j, .wait) :=
  ((State.startJob_free h).trans (if_neg (Bool.eq_false_iff.1 held))).trans (if_pos many)

theorem State.startJob_one (h : s.writer = none) (held : s.genHeld j.gen = false) (one : j.left = 1) :
    s.startJob j = ({ s with writer := some j }, .wait) :=
  ((State.startJob_free h).trans (if_neg (Bool.eq_false_iff.1 held))).trans (if_neg (by omega))

end

/-- The writer's command of a RULE_WRITE. -/
def writeJob (d : Submission) (c : Cmd) : RuleJob :=
  { cmd := c, gen := d.P0 0 1, mem := d.P0 1 3, entries := (ruleWriteEntries d).getD [] }

/-- The writer's command of a RULE_CLEAR. -/
def clearJob (d : Submission) (c : Cmd) : RuleJob := { cmd := c, gen := d.P0 0 1, mem := 0, entries := [], clear := true }

/-- A RULE command that completes at once, and one that goes on, taken at its boundary. -/
theorem exec_ruleWrite_done {d : Submission} {s t : State} {code : Nat} (h : Ready specRuleWrite d s)
    (ha : (s.fetched d).startJob (writeJob d (cmdOf 0x10 d s)) = (t, .done code 0 0)) :
    exec (.ruleWrite d) s = .next ((cmdOf 0x10 d s).ended code 0 0 t) :=
  congrArg Host.Outcome.next (CmdSpec.take_ends h (by decide) (by decide) rfl ha)

theorem exec_ruleWrite_begins {d : Submission} {s t : State} (h : Ready specRuleWrite d s)
    (ha : (s.fetched d).startJob (writeJob d (cmdOf 0x10 d s)) = (t, .wait)) : exec (.ruleWrite d) s = .next ((cmdOf 0x10 d s).goesOn t) :=
  congrArg Host.Outcome.next (CmdSpec.take_begins h (by decide) (by decide) rfl ha)

theorem exec_ruleClear_inForce {d : Submission} {s : State} (h : Ready specRuleClear d s) (inForce : d.P0 0 1 = s.get F.HED_GEN_STATUS_IN_FORCE) :
    exec (.ruleClear d) s = .next ((cmdOf 0x12 d s).ended rState 0 0 (s.fetched d)) :=
  congrArg Host.Outcome.next (CmdSpec.take_ends h (by decide) (by decide) rfl (if_pos (inForce.trans (State.fetched_get d s _).symm)))

theorem exec_ruleClear_begins {d : Submission} {s t : State} (h : Ready specRuleClear d s) (other : d.P0 0 1 ≠ s.get F.HED_GEN_STATUS_IN_FORCE)
    (ha : (s.fetched d).startJob (clearJob d (cmdOf 0x12 d s)) = (t, .wait)) : exec (.ruleClear d) s = .next ((cmdOf 0x12 d s).goesOn t) :=
  congrArg Host.Outcome.next (CmdSpec.take_begins h (by decide) (by decide) rfl
    ((if_neg (fun e => other (e.trans (State.fetched_get d s _)))).trans ha))

theorem exec_ruleWriteDone_idle {s : State} (h : s.writer = none) : exec .ruleWriteDone s = .next s := by
  show execRuleWriteDone s = _
  simp only [execRuleWriteDone, h]

theorem exec_ruleWriteDone_busy {j : RuleJob} {s : State} (h : s.writer = some j) :
    exec .ruleWriteDone s = .next (s.when (s.lastDue j) (State.writeLast s.cycles s.nt j)) := by
  show execRuleWriteDone s = _
  simp only [execRuleWriteDone, h]

theorem State.lastDue_iff {j : RuleJob} {s : State} : s.lastDue j = true ↔ j.left = 1 ∧ j.wrote ≠ some s.cycles := by
  simp [State.lastDue]

/-- The last entry of a RULE_WRITE written (07 R292). -/
theorem State.writeLast_one {j : RuleJob} {e : Nat × List Byte} (write : j.clear = false) (one : j.entries = [e]) (c t : Nat) (s : State) :
    s.writeLast c t j = State.finish (fun x => x == { j.cmd with begun := true }) rOk t 0 0
      { s.writeEntry j.gen j.mem e with writer := some { j with entries := [], wrote := some c } } := by
  have left : j.left = 1 := by rw [RuleJob.left, write, one]; rfl
  unfold State.writeLast State.writeNext
  simp only [left, write, one, Bool.false_eq_true, if_false]
  rfl

/-- Settles O28: the writer's commands by `State.startJob` and its cases, the swaps by what `State.swapTo_gens` leaves of the generations. -/
theorem ruleWriterAndSwaps : Obligations.RuleWriterAndSwaps := by
  intro s d j g c rest e t job clear
  have writer : t.writer = s.writer := State.fetched_writer d s
  have held : t.genHeld (d.P0 0 1) = s.genHeld (d.P0 0 1) := State.fetched_genHeld d s _
  have cycles : t.cycles = s.cycles := State.fetched_cycles d s
  refine ⟨fun h => ⟨fun free loose many => ?_, fun free loose one => ?_, fun free stuck => ?_, fun busy => ?_⟩,
    fun h => ⟨exec_ruleClear_inForce h, fun other busy => ?_, fun other free loose => ?_⟩, fun h hg free => ?swap, exec_ruleSwap_blocked,
    exec_ruleWriteDone_idle, fun h early => ?_, fun h write one due => ?_, exec_ruleSwapDeferred_none, exec_ruleSwapDeferred_blocked,
    fun h free hg valid other => ?deferred⟩
  · rw [← cycles]
    exact exec_ruleWrite_begins h (State.startJob_many (writer.trans free) (held.trans loose) many)
  · exact exec_ruleWrite_begins h (State.startJob_one (writer.trans free) (held.trans loose) one)
  · exact exec_ruleWrite_done h (State.startJob_held (writer.trans free) (held.trans stuck))
  · exact exec_ruleWrite_begins h (State.startJob_queues (writer ▸ busy))
  · exact exec_ruleClear_begins h other (State.startJob_queues (writer ▸ busy))
  · rw [← cycles]
    exact exec_ruleClear_begins h other (State.startJob_many (writer.trans free) (held.trans loose) (show 1 < clearLen - 0 by decide))
  case swap =>
    subst hg
    obtain ⟨u, acts, left⟩ := exec_ruleSwap_free h free
    have same := State.gens_iff.1 (State.gens_fetched d s)
    obtain ⟨⟨swaps, seq, wait⟩, rules, inForce⟩ := same
    refine ⟨u, acts, fun valid other => ?_, fun invalid => ?_⟩
    · rw [← rules] at valid
      rw [← inForce] at other
      rw [State.swapTo_gens (Submission.P0_lt d 0 1) valid other, swaps, seq, rules] at left
      simp only [State.gens, Prod.mk.injEq] at left
      obtain ⟨⟨hswaps, hseq, -⟩, hrules, hforce⟩ := left
      exact ⟨hswaps, hseq, hforce, hrules⟩
    · rw [← rules] at invalid
      rw [State.swapTo_invalid invalid, State.gens_fetched] at left
      obtain ⟨⟨hswaps, hseq, -⟩, hrules, hforce⟩ := State.gens_iff.1 left
      exact ⟨hswaps, hseq, hforce, hrules⟩
  · rw [exec_ruleWriteDone_busy h, Bool.eq_false_iff.2 (fun due => early.elim (· (State.lastDue_iff.1 due).1) (State.lastDue_iff.1 due).2)]
    rfl
  · have left : j.left = 1 := by rw [RuleJob.left, write, one]; rfl
    rw [exec_ruleWriteDone_busy h, State.lastDue_iff.2 ⟨left, due⟩, State.when_true, State.writeLast_one write one]
  case deferred =>
    subst hg
    obtain ⟨u, acts, left⟩ := exec_ruleSwapDeferred_free h free
    rw [State.swapTo_gens (s := { s with swapWait := rest }) (Submission.P0_lt c.sub 0 1) valid other] at left
    simp only [State.gens, Prod.mk.injEq] at left
    obtain ⟨⟨hswaps, -, hwait⟩, -, hforce⟩ := left
    exact ⟨u, acts, hwait, hswaps, hforce⟩

end Sys2Proof.Machine
end

section
/-! The forwarding database: what its commands and its ageing leave for every later lookup (04 R152; 07 R276 to R280). -/

namespace Sys2Proof.Machine

open Sys2Proof

/-! ### Lookups in a sound database -/

theorem Tbl.find_isSome_of_mem {α : Type} {k : Nat} {v : α} {t : Tbl α} (h : (k, v) ∈ t) : (Tbl.find k t).isSome = true := by
  induction t with
  | nil => cases h
  | cons y t ih =>
    obtain ⟨j, w⟩ := y
    rw [Tbl.find]
    split
    · rfl
    · next hj => exact ih ((List.mem_cons.1 h).resolve_left (fun e => hj (congrArg Prod.fst e).symm))

theorem Tbl.find_eq_some_iff {α : Type} {t : Tbl α} (h : t.rising = true) {k : Nat} {v : α} : Tbl.find k t = some v ↔ (k, v) ∈ t := by
  refine ⟨Tbl.mem_of_find, fun hm => ?_⟩
  obtain ⟨w, hw⟩ := Option.isSome_iff_exists.1 (Tbl.find_isSome_of_mem hm)
  exact hw.trans (congrArg (fun x => some x.2) (Tbl.rising_inj h (Tbl.mem_of_find hw) hm rfl))

/-- In a sound database the lookup finds the one entry of its pair. -/
theorem fdbFind_eq_some_iff {t : Tbl FdbEntry} (hs : fdbSound t) {vid mac i : Nat} {x : FdbEntry} :
    fdbFind t vid mac = some (i, x) ↔ Tbl.find i t = some x ∧ x.vid = vid ∧ x.mac = mac := by
  obtain ⟨rising, -, once⟩ := id hs
  rw [Tbl.find_eq_some_iff rising]
  refine ⟨fdbFind_some, fun ⟨hm, hv, ha⟩ => ?_⟩
  cases hf : fdbFind t vid mac with
  | none => exact absurd ⟨hv, ha⟩ (fdbFind_none hs hf _ hm)
  | some y =>
    obtain ⟨hy, hyv, hya⟩ := fdbFind_some (e := y.2) (i := y.1) hf
    exact congrArg some (Tbl.rising_inj rising hy hm (once y hy _ hm (hyv.trans hv.symm) (hya.trans ha.symm)))

/-- A pair whose entries two sound databases share is looked up alike in both. -/
theorem fdbFind_congr {t u : Tbl FdbEntry} (ht : fdbSound t) (hu : fdbSound u) {vid mac : Nat}
    (h : ∀ i (x : FdbEntry), x.vid = vid → x.mac = mac → (Tbl.find i u = some x ↔ Tbl.find i t = some x)) : fdbFind u vid mac = fdbFind t vid mac := by
  refine Option.ext (fun y => ?_)
  rw [fdbFind_eq_some_iff ht (i := y.1) (x := y.2), fdbFind_eq_some_iff hu (i := y.1) (x := y.2)]
  exact and_congr_left (fun hk => h y.1 y.2 hk.1 hk.2)

/-- Place `i` holds no entry of another pair than `e`'s. -/
def PlaceOf (t : Tbl FdbEntry) (i vid mac : Nat) : Prop := ∀ x, Tbl.find i t = some x → x.vid = vid ∧ x.mac = mac

theorem placeOf_found {t : Tbl FdbEntry} (hs : fdbSound t) {vid mac i : Nat} {y : FdbEntry} (h : fdbFind t vid mac = some (i, y)) :
    PlaceOf t i vid mac := by
  obtain ⟨hi, hv, hm⟩ := (fdbFind_eq_some_iff hs).1 h
  intro x hx
  cases hi.symm.trans hx
  exact ⟨hv, hm⟩

theorem placeOf_free {t : Tbl FdbEntry} {vid mac i : Nat} {keep : Nat → Bool} (h : fdbFree t vid mac keep = some i) : PlaceOf t i vid mac := by
  intro x hx
  have free := List.find?_some h
  simp [Tbl.has, hx] at free

/-- An entry put into a place of its pair: another pair is looked up as before. -/
theorem fdbFind_ins_ne {t : Tbl FdbEntry} (hs : fdbSound t) {i : Nat} {e : FdbEntry} (hu : fdbSound (Tbl.ins i e t))
    (place : PlaceOf t i e.vid e.mac) {vid mac : Nat} (h : (vid, mac) ≠ (e.vid, e.mac)) : fdbFind (Tbl.ins i e t) vid mac = fdbFind t vid mac := by
  refine fdbFind_congr hs hu (fun j x hv hm => ?_)
  by_cases hj : j = i
  · subst hj
    rw [Tbl.find_ins_self]
    refine iff_of_false (fun hx => h ?_) (fun hx => h ?_)
    · cases hx
      rw [hv, hm]
    · rw [← hv, ← hm, (place x hx).1, (place x hx).2]
  · rw [Tbl.find_ins_ne hj]

theorem fdbFind_ins_self {t : Tbl FdbEntry} {i : Nat} {e : FdbEntry} (hu : fdbSound (Tbl.ins i e t)) :
    fdbFind (Tbl.ins i e t) e.vid e.mac = some (i, e) := (fdbFind_eq_some_iff hu).2 ⟨Tbl.find_ins_self .., rfl, rfl⟩

/-- The entry of a pair removed: the pair is found no more, and another pair is looked up as before. -/
theorem fdbFind_del {t : Tbl FdbEntry} (hs : fdbSound t) {vid mac i : Nat} {y : FdbEntry} (h : fdbFind t vid mac = some (i, y)) :
    fdbFind (Tbl.del i t) vid mac = none ∧
      ∀ v m, (v, m) ≠ (vid, mac) → fdbFind (Tbl.del i t) v m = fdbFind t v m := by
  have hu := fdbSound_del i hs
  refine ⟨Option.eq_none_iff_forall_ne_some.2 (fun x hx => ?_), fun v m hne => fdbFind_congr hs hu (fun j x hv hm => ?_)⟩
  · obtain ⟨hj, hv, hm⟩ := (fdbFind_eq_some_iff hu (i := x.1) (x := x.2)).1 hx
    by_cases e : x.1 = i
    · rw [e, Tbl.find_del_self] at hj
      cases hj
    · rw [Tbl.find_del_ne e] at hj
      have same := ((fdbFind_eq_some_iff hs (i := x.1) (x := x.2)).2 ⟨hj, hv, hm⟩).symm.trans h
      exact e (congrArg Prod.fst (Option.some.inj same))
  · by_cases e : j = i
    · subst e
      rw [Tbl.find_del_self]
      refine iff_of_false (fun hx => by cases hx) (fun hx => hne ?_)
      rw [← hv, ← hm, (placeOf_found hs h x hx).1, (placeOf_found hs h x hx).2]
    · rw [Tbl.find_del_ne e]

/-! ### FDB_ADD, FDB_DEL, FDB_FLUSH (04 R152; 07 R277) -/

@[simp] theorem State.fetched_fdb (d : Submission) (s : State) : (s.fetched d).fdb = s.fdb := by rw [State.fetched_eq]

/-- The entry that an FDB_ADD puts. -/
def Submission.fdbEntry (d : Submission) : FdbEntry := { vid := d.P0 9 12, mac := d.P1 0 48, port := d.P0 0 9, static := d.P0 21 1 == 1 }

/-- Where an FDB_ADD puts its entry: over its pair's, or into a free way of its bucket. -/
theorem specFdbAdd_act_placed {c : Cmd} {s : State} (hs : fdbSound s.fdb)
    (h : fdbFind s.fdb (c.sub.P0 9 12) (c.sub.P1 0 48) ≠ none ∨ fdbFree s.fdb (c.sub.P0 9 12) (c.sub.P1 0 48) (fun _ => false) ≠ none) :
    ∃ i, specFdbAdd.act c s = ((s.touch (c.sub.P0 9 12) (c.sub.P1 0 48)).setFdb (Tbl.ins i c.sub.fdbEntry s.fdb), .done rOk i 0) ∧
      PlaceOf s.fdb i (c.sub.P0 9 12) (c.sub.P1 0 48) ∧ fdbSound (Tbl.ins i c.sub.fdbEntry s.fdb) := by
  cases hf : fdbFind s.fdb (c.sub.P0 9 12) (c.sub.P1 0 48) with
  | some y =>
    obtain ⟨i, y⟩ := y
    obtain ⟨-, hv, hm⟩ := fdbFind_some hf
    refine ⟨i, ?_, placeOf_found hs hf, fdbSound_found hs hf hv.symm hm.symm⟩
    simp only [specFdbAdd, hf]
    rfl
  | none =>
    obtain ⟨i, hi⟩ := Option.ne_none_iff_exists'.1 (h.resolve_left (not_not.2 hf))
    refine ⟨i, ?_, placeOf_free hi, fdbSound_new hs hf hi⟩
    simp only [specFdbAdd, hf, hi]
    rfl

theorem specFdbAdd_act_full {c : Cmd} {s : State} (h : fdbFind s.fdb (c.sub.P0 9 12) (c.sub.P1 0 48) = none)
    (full : fdbFree s.fdb (c.sub.P0 9 12) (c.sub.P1 0 48) (fun _ => false) = none) : specFdbAdd.act c s = (s, .done rTableFull 0 0) := by
  simp only [specFdbAdd, h, full]

theorem specFdbDel_act_found {c : Cmd} {s : State} {i : Nat} {x : FdbEntry} (h : fdbFind s.fdb (c.sub.P0 9 12) (c.sub.P1 0 48) = some (i, x)) :
    specFdbDel.act c s = (((s.touch (c.sub.P0 9 12) (c.sub.P1 0 48)).freed [i]).setFdb (Tbl.del i s.fdb), .done rOk i 0) := by
  simp only [specFdbDel, h]

theorem specFdbDel_act_unknown {c : Cmd} {s : State} (h : fdbFind s.fdb (c.sub.P0 9 12) (c.sub.P1 0 48) = none) :
    specFdbDel.act c s = (s.touch (c.sub.P0 9 12) (c.sub.P1 0 48), .done rBadParam 0 0) := by
  simp only [specFdbDel, h]

theorem State.forEach_touch_fdb (l : List (Nat × FdbEntry)) (s : State) :
    (s.forEach l (fun x => State.touch x.2.vid x.2.mac)).fdb = s.fdb := 
  State.view_forEach (v := State.fdb) (f := fun (x : Nat × FdbEntry) => State.touch x.2.vid x.2.mac) (fun _ _ _ => rfl) s

/-- What an FDB_FLUSH leaves of the database, and what it counts. -/
theorem specFdbFlush_act (c : Cmd) (s : State) : ∃ u, specFdbFlush.act c s = (u, .done rOk (s.fdb.filter (fun x => flushes c.sub x.2)).length 0) ∧
    u.fdb = s.fdb.filter (fun x => !flushes c.sub x.2) := by
  refine ⟨_, rfl, ?_⟩
  show List.filter _ (State.forEach _ _ _).fdb = _
  rw [State.forEach_touch_fdb]

/-! ### Ageing (07 R279) -/

/-- Every entry a second older. -/
def aged (t : Tbl FdbEntry) : Tbl FdbEntry := t.map (fun x => (x.1, { x.2 with idle := x.2.idle + 1 }))

theorem exec_fdbAgeing_early {s : State} (h : s.evalDue evFdb sec = false) : exec .fdbAgeing s = .next s :=
  if_pos (by rw [h]; rfl)

theorem exec_fdbAgeing_due {s : State} (h : s.evalDue evFdb sec = true) : exec .fdbAgeing s =
    if s.ageS = 0 then .next (s.evalMade evFdb)
    else .next ((s.evalMade evFdb).setFdb ((aged s.fdb).filter (fun x => x.2.static || decide (x.2.idle ≤ s.ageS)))) :=
  if_neg (by rw [h]; exact Bool.noConfusion)

/-- Settles O29: the commands by the place that they take or free in a sound database, ageing by the second that has run. -/
theorem forwardingDatabaseCommands : Obligations.ForwardingDatabaseCommands := by
  intro s d vid mac sound v m e entry
  refine ⟨fun h => ⟨?added, fun unknown full => ?full⟩, fun h => ⟨?deleted, fun unknown => ?unknown⟩, ?flushed, exec_fdbAgeing_early, fun due off => ?off,
    fun due on => ?ages⟩
  case added =>
    intro room
    obtain ⟨i, acts, place, kept⟩ := specFdbAdd_act_placed (c := cmdOf 0x20 d s) (s := s.fetched d) ((State.fetched_fdb d s).symm ▸ sound)
      (by rw [State.fetched_fdb]; exact room)
    rw [State.fetched_fdb] at acts place kept
    refine ⟨_, i, congrArg Host.Outcome.next (CmdSpec.take_ends h (by decide) (by decide) rfl acts), Tbl.find_ins_self i e s.fdb,
      congrArg (Option.map Prod.snd) (fdbFind_ins_self (e := e) kept),
      fun other => congrArg (Option.map Prod.snd) (fdbFind_ins_ne (e := e) sound kept place other)⟩
  case full =>
    rw [← State.fetched_fdb d s] at unknown full
    exact congrArg Host.Outcome.next (CmdSpec.take_ends h (by decide) (by decide) rfl (specFdbAdd_act_full (c := cmdOf 0x20 d s) unknown full))
  case deleted =>
    intro i x found
    obtain ⟨gone, others⟩ := fdbFind_del sound found
    have acts := specFdbDel_act_found (c := cmdOf 0x21 d s) (s := s.fetched d) (by rw [State.fetched_fdb]; exact found)
    rw [State.fetched_fdb] at acts
    exact ⟨_, congrArg Host.Outcome.next (CmdSpec.take_ends h (by decide) (by decide) rfl acts), congrArg (Option.map Prod.snd) gone,
      fun other => congrArg (Option.map Prod.snd) (others vid mac other)⟩
  case unknown =>
    rw [← State.fetched_fdb d s] at unknown
    exact congrArg Host.Outcome.next (CmdSpec.take_ends h (by decide) (by decide) rfl (specFdbDel_act_unknown (c := cmdOf 0x21 d s) unknown))
  case flushed =>
    intro h
    obtain ⟨u, acts, left⟩ := specFdbFlush_act (cmdOf 0x22 d s) (s.fetched d)
    rw [State.fetched_fdb] at acts left
    exact ⟨u, congrArg Host.Outcome.next (CmdSpec.take_ends h (by decide) (by decide) rfl acts), left⟩
  case off =>
    have age : s.ageS = 0 := if_pos off
    rw [exec_fdbAgeing_due due, if_pos age]
  case ages =>
    have age : s.ageS = max 10 (min (s.get F.HED_FDB_CFG_AGE_S) 1000000) := if_neg on
    have some : s.ageS ≠ 0 := by omega
    refine ⟨_, (exec_fdbAgeing_due due).trans (if_neg some), ?_, fun a ha => State.rd_set_ne (f := F.HED_FDB_STATUS_USED) ha _ _⟩
    rw [← age]
    rfl

end Sys2Proof.Machine
end

section
/-! Reservations of picks, mirror sessions and multicast groups (04 R154; 08 R333, R336, R342 to R348). -/

namespace Sys2Proof.Machine

open Sys2Proof

/-! ### Registers written from a block (04 R154) -/

/-- Writing a block's words to registers changes those registers alone. -/
theorem sameBut_putRegs (d : Submission) (i : Nat) (as : List Nat) (s : State) : SameBut as s (s.putRegs d i as) := by
  refine sameBut_forEach (fun x hx s => sameBut_wr ?_ _ s) s
  exact (List.of_mem_zip (a := x.1) (b := x.2) hx).1

/-- Each register written from a block reads as its word. -/
theorem State.rd_putRegs (d : Submission) (i : Nat) {as : List Nat} (once : as.Nodup) {j : Nat} (h : j < as.length) (s : State) :
    (s.putRegs d i as).rd as[j] = BitVec.ofNat 32 (d.le (i + 4 * j) 4) := by
  have mem : (as[j], j) ∈ as.zip (List.range as.length) :=
    List.mem_iff_getElem.2 ⟨j, by simpa using h, by simp⟩
  refine State.rd_forEach_of_mem (f := fun (x : Nat × Nat) => State.wr x.1 (BitVec.ofNat 32 (d.le (i + 4 * x.2) 4))) mem
    (fun s => State.rd_wr_self _ _ s) (fun y hy hne s => State.rd_wr_ne (fun e => hne ?_) _ s) s
  obtain ⟨k, hk, rfl⟩ := List.mem_iff_getElem.1 hy
  simp only [List.length_zip, List.length_range, Nat.min_self] at hk
  simp only [List.getElem_zip, List.getElem_range] at e ⊢
  obtain rfl := (List.Nodup.getElem_inj_iff once).1 e
  rfl

/-- A field of a register whose word is known. -/
theorem State.get_of_rd {s : State} {f : Fld} {v : Word} (h : s.rd f.addr = v) : s.get f = bits v.toNat f.lsb f.w := by rw [State.get, h]

/-! ### Reservations held (08 R342, R346) -/

@[simp] theorem State.fetched_wovenBytes (d : Submission) (s : State) (w : Nat) : (s.fetched d).wovenBytes w = s.wovenBytes w := by
  simp only [State.wovenBytes, State.fetched_rd]

@[simp] theorem State.fetched_wovenHandles (d : Submission) (s : State) : (s.fetched d).wovenHandles = s.wovenHandles := by
  simp only [State.wovenHandles, State.fetched_regs, State.fetched_get]

@[simp] theorem State.fetched_wovenWaiting (d : Submission) (s : State) (w : Nat) : (s.fetched d).wovenWaiting w = s.wovenWaiting w := by
  simp only [State.wovenWaiting, State.framesBy, State.fetched_frames]

/-- The picks that other handles than `w` hold. -/
def State.otherPicks (w : Nat) (s : State) : List (List (Nat × Nat) × List (Nat × Nat)) :=
  (s.wovenHandles.filter (fun v => v != w)).map (fun v => picksOf (s.wovenBytes v))

/-- The warp picks of node `n` that are reserved. -/
def State.nodePicks (n : Nat) (s : State) : List (Nat × Nat) :=
  (s.wovenHandles.flatMap (fun v => (picksOf (s.wovenBytes v)).1)).filter (fun p => p.1 == n)

/-- Whether a block names a pick that another handle holds (08 R346). -/
def State.picksClash (d : Submission) (s : State) : Bool :=
  (s.otherPicks (d.P0 0 12)).any (fun o => o.1.any (picksOf d.bytes).1.contains || o.2.any (picksOf d.bytes).2.contains)

theorem State.picksClash_iff {d : Submission} {s : State} : s.picksClash d = true ↔ ∃ o ∈ s.otherPicks (d.P0 0 12),
    (∃ p ∈ (picksOf d.bytes).1, p ∈ o.1) ∨ (∃ p ∈ (picksOf d.bytes).2, p ∈ o.2) := by
  simp only [State.picksClash, List.any_eq_true, Bool.or_eq_true, List.contains_iff_mem, and_comm]

@[simp] theorem State.fetched_picksClash (d e : Submission) (s : State) : (s.fetched e).picksClash d = s.picksClash d := by
  simp only [State.picksClash, State.otherPicks, State.fetched_wovenHandles, State.fetched_wovenBytes]

@[simp] theorem State.fetched_nodePicks (d : Submission) (n : Nat) (s : State) : (s.fetched d).nodePicks n = s.nodePicks n := by
  simp only [State.nodePicks, State.fetched_wovenHandles, State.fetched_wovenBytes]

/-! ### PICKS_RESERVE (08 R345, R346) -/

/-- The eight words of a handle written, with LOOM_STATUS after them. -/
def State.putWoven (w : Nat) (l : List Nat) (s : State) : State := (s.wrWords (R.LOOM_WOVEN w) l).updReserved

theorem sameBut_putWoven (w : Nat) {l : List Nat} (hl : l.length = 8) (s : State) :
    SameBut (R.LOOM_STATUS :: wordsAt (R.LOOM_WOVEN w) 8) s (s.putWoven w l) :=
  sameBut_trans (sameBut_mono (fun _ h => List.mem_cons_of_mem _ (hl ▸ h)) (sameBut_wrWords l _ s))
    (sameBut_set (f := F.LOOM_STATUS_MAX_RESERVED) (List.mem_cons_self ..) _ _)

theorem State.rd_putWoven (w : Nat) (l : List Nat) {i : Nat} (h : i < l.length) (s : State) :
    (s.putWoven w l).rd (R.LOOM_WOVEN w + 4 * i) = BitVec.ofNat 32 l[i] := by
  refine (State.rd_set_ne (f := F.LOOM_STATUS_MAX_RESERVED) ?_ _ _).trans (State.rd_wrWords l _ h s)
  simp only [F.LOOM_STATUS_MAX_RESERVED, R.LOOM_STATUS, R.LOOM_WOVEN]
  omega

/-- The words of a reservation: its block's six, STATE 1 and no phase. -/
def Submission.wovenWords (d : Submission) : List Nat := (List.range 6).map (fun i => d.le (4 * i) 4) ++ [1, 0]

theorem Submission.length_wovenWords (d : Submission) : d.wovenWords.length = 8 := rfl

theorem specPicks_act_reserve {c : Cmd} (h : c.sub.b 0 = 0) (s : State) : specPicks.act c s =
    if s.picksClash c.sub then (s, .done rBusy 0 0)
    else if 32 < (s.nodePicks (nodeOf (c.sub.le 2 2))).length + c.sub.b 1 then (s, .done rTableFull 0 0)
    else if s.get (F.LOOM_WOVEN_STATE (c.sub.P0 0 12)) ≠ 0 then (s, .done rState 0 0)
    else (s.putWoven (c.sub.P0 0 12) c.sub.wovenWords, .done rOk 0 0) := if_neg (by rw [h]; decide)

theorem specPicks_act_release {c : Cmd} (h : c.sub.b 0 = 1) (s : State) : specPicks.act c s =
    if s.get (F.LOOM_WOVEN_STATE (c.sub.P0 0 12)) = 0 then (s, .done rState 0 0)
    else ((s.unweave (c.sub.P0 0 12)).putWoven (c.sub.P0 0 12) (List.replicate 8 0), .done rOk 0 0) := if_pos h

/-- No frame waits in the stream's queue: none goes on as an ordinary one. -/
theorem State.unweave_none {w : Nat} {s : State} (h : s.wovenWaiting w = []) : s.unweave w = s := by
  unfold State.unweave
  rw [h, State.forEach_nil]

theorem take_picks {d : Submission} {s t : State} {code : Nat} (h : Ready specPicks d s)
    (acts : specPicks.act (cmdOf 0x4D d s) (s.fetched d) = (t, .done code 0 0)) :
    Host.Outcome.next (specPicks.take 0x4D true d s) = (.next ((cmdOf 0x4D d s).ended code 0 0 t) : Host.Outcome State Fault Refusal) :=
  congrArg Host.Outcome.next (CmdSpec.take_ends h (by decide) (by decide) rfl acts)

theorem exec_picksReserve_busy {d : Submission} {s : State} (h : Ready specPicks d s) (reserve : d.b 0 = 0) (clash : s.picksClash d = true) :
    exec (.picksReserve d) s = .next ((cmdOf 0x4D d s).ended rBusy 0 0 (s.fetched d)) :=
  take_picks h ((specPicks_act_reserve (c := cmdOf 0x4D d s) reserve _).trans (if_pos ((State.fetched_picksClash d d s).trans clash)))

/-- A reservation whose picks no other handle holds, by what is left of its node and the state of its handle. -/
theorem specPicks_act_clear {d : Submission} {s : State} (reserve : d.b 0 = 0) (clear : s.picksClash d = false) :
    specPicks.act (cmdOf 0x4D d s) (s.fetched d) = if 32 < (s.nodePicks (nodeOf (d.le 2 2))).length + d.b 1 then (s.fetched d, .done rTableFull 0 0)
    else if s.get (F.LOOM_WOVEN_STATE (d.P0 0 12)) ≠ 0 then (s.fetched d, .done rState 0 0)
    else ((s.fetched d).putWoven (d.P0 0 12) d.wovenWords, .done rOk 0 0) := by
  refine (specPicks_act_reserve (c := cmdOf 0x4D d s) reserve _).trans ((if_neg ?_).trans ?_)
  · exact Bool.eq_false_iff.1 ((State.fetched_picksClash d d s).trans clear)
  · rw [State.fetched_nodePicks, State.fetched_get]
    rfl

section
variable {d : Submission} {s : State} (h : Ready specPicks d s) (reserve : d.b 0 = 0) (clear : s.picksClash d = false)
include h reserve clear

theorem exec_picksReserve_full (full : 32 < (s.nodePicks (nodeOf (d.le 2 2))).length + d.b 1) :
    exec (.picksReserve d) s = .next ((cmdOf 0x4D d s).ended rTableFull 0 0 (s.fetched d)) :=
  take_picks h ((specPicks_act_clear reserve clear).trans (if_pos full))

variable (room : (s.nodePicks (nodeOf (d.le 2 2))).length + d.b 1 ≤ 32)
include room

theorem exec_picksReserve_held (held : s.get (F.LOOM_WOVEN_STATE (d.P0 0 12)) ≠ 0) :
    exec (.picksReserve d) s = .next ((cmdOf 0x4D d s).ended rState 0 0 (s.fetched d)) :=
  take_picks h ((specPicks_act_clear reserve clear).trans ((if_neg (Nat.not_lt.2 room)).trans (if_pos held)))

theorem exec_picksReserve_reserves (free : s.get (F.LOOM_WOVEN_STATE (d.P0 0 12)) = 0) :
    exec (.picksReserve d) s = .next ((cmdOf 0x4D d s).ended rOk 0 0 ((s.fetched d).putWoven (d.P0 0 12) d.wovenWords)) :=
  take_picks h ((specPicks_act_clear reserve clear).trans ((if_neg (Nat.not_lt.2 room)).trans (if_neg (not_not.2 free))))

end

theorem exec_picksRelease_free {d : Submission} {s : State} (h : Ready specPicks d s) (release : d.b 0 = 1)
    (free : s.get (F.LOOM_WOVEN_STATE (d.P0 0 12)) = 0) :
    exec (.picksRelease d) s = .next ((cmdOf 0x4D d s).ended rState 0 0 (s.fetched d)) :=
  take_picks h ((specPicks_act_release (c := cmdOf 0x4D d s) release _).trans (if_pos ((State.fetched_get d s _).trans free)))

theorem exec_picksRelease_releases {d : Submission} {s : State} (h : Ready specPicks d s) (release : d.b 0 = 1)
    (held : s.get (F.LOOM_WOVEN_STATE (d.P0 0 12)) ≠ 0) (waiting : s.wovenWaiting (d.P0 0 12) = []) :
    exec (.picksRelease d) s = .next ((cmdOf 0x4D d s).ended rOk 0 0 ((s.fetched d).putWoven (d.P0 0 12) (List.replicate 8 0))) := by
  refine take_picks h ((specPicks_act_release (c := cmdOf 0x4D d s) release _).trans ((if_neg ?_).trans ?_))
  · exact fun e => held ((State.fetched_get d s _).symm.trans e)
  · show (State.putWoven _ _ (State.unweave (d.P0 0 12) _), _) = _
    rw [State.unweave_none ((State.fetched_wovenWaiting d s _).trans waiting)]
    rfl

/-! ### MIRROR_SET (08 R336, R348) -/

/-- The registers of a mirror session. -/
def mirrorRegs (m : Nat) : List Nat := [R.LOOM_MIRROR m, R.LOOM_MIRROR m + 4]

theorem nodup_mirrorRegs (m : Nat) : (mirrorRegs m).Nodup := by simp [mirrorRegs]

/-- A session's two words written; a session thereby enabled counts from 0. -/
def State.setSession (d : Submission) (m : Nat) (s : State) : State :=
  let t := s.putRegs d 8 (mirrorRegs m)
  if t.on (F.LOOM_MIRROR_ENABLE m) && !s.on (F.LOOM_MIRROR_ENABLE m) then { t with mirrors := Tbl.ins m (0, (t.mirrors.getD m (0, 0)).2) t.mirrors }
  else t

theorem exec_mirrorSetSession {d : Submission} {s : State} (h : Ready specMirrorSession d s) :
    exec (.mirrorSetSession d) s = .next ((cmdOf 0x4E d s).ended rOk 0 0 ((s.fetched d).setSession d (d.P0 0 13))) :=
  congrArg Host.Outcome.next (CmdSpec.take_ends h (by decide) (by decide) rfl rfl)

theorem State.rd_setSession (d : Submission) (m : Nat) (s : State) (a : Nat) : (s.setSession d m).rd a = (s.putRegs d 8 (mirrorRegs m)).rd a := by
  unfold State.setSession
  dsimp only
  split <;> rfl

theorem State.on_setSession (d : Submission) (m : Nat) (s : State) (f : Fld) :
    (s.setSession d m).on f = (s.putRegs d 8 (mirrorRegs m)).on f := State.on_addr (State.rd_setSession d m s _)

theorem State.putRegs_mirrors (d : Submission) (i : Nat) (as : List Nat) (s : State) : (s.putRegs d i as).mirrors = s.mirrors := by
  have same := congrArg State.mirrors (sameBut_putRegs d i as s).2
  exact same

theorem sameBut_setSession (d : Submission) (m : Nat) (s : State) :
    SameBut (mirrorRegs m) { s with mirrors := (s.setSession d m).mirrors } (s.setSession d m) := by
  obtain ⟨words, same⟩ := sameBut_putRegs d 8 (mirrorRegs m) s
  refine ⟨fun a ha => (State.rd_setSession d m s a).trans (words a ha), ?_⟩
  unfold State.setSession
  dsimp only
  split
  · exact congrArg (fun t : State => { t with
      mirrors := Tbl.ins m (0, ((s.putRegs d 8 (mirrorRegs m)).mirrors.getD m (0, 0)).2) (s.putRegs d 8 (mirrorRegs m)).mirrors }) same
  · exact congrArg (fun t : State => { t with mirrors := (s.putRegs d 8 (mirrorRegs m)).mirrors }) same

theorem State.setSession_enabled {d : Submission} {m : Nat} {s : State} (was : s.on (F.LOOM_MIRROR_ENABLE m) = false)
    (now : (s.setSession d m).on (F.LOOM_MIRROR_ENABLE m) = true) : ((s.setSession d m).mirrors.getD m (0, 0)).1 = 0 := by
  rw [State.on_setSession] at now
  simp [State.setSession, was, now, Tbl.getD]

theorem State.setSession_mirrors {d : Submission} {m : Nat} {s : State}
    (h : s.on (F.LOOM_MIRROR_ENABLE m) = true ∨ (s.setSession d m).on (F.LOOM_MIRROR_ENABLE m) = false) :
    (s.setSession d m).mirrors = s.mirrors := by
  rw [State.on_setSession] at h
  unfold State.setSession
  dsimp only
  rw [if_neg (by rcases h with h | h <;> simp [h]), State.putRegs_mirrors]

/-- A group entry's sixteen words written, the old ones kept for frames decided before (08 R348). -/
def State.setGroup (d : Submission) (g : Nat) (s : State) : State :=
  ({ s with groupWas := Tbl.ins g ((List.range 16).map (s.groupWord g)) s.groupWas } : State).wrWords (R.LOOM_GROUP g)
    ((List.range 16).map (fun i => d.le (8 + 4 * i) 4))

theorem exec_mirrorSetGroup {d : Submission} {s : State} (h : Ready specMirrorGroup d s) :
    exec (.mirrorSetGroup d) s = .next ((cmdOf 0x4E d s).ended rOk 0 0 ((s.fetched d).setGroup d (d.P0 0 13))) :=
  congrArg Host.Outcome.next (CmdSpec.take_ends h (by decide) (by decide) rfl rfl)

theorem State.setGroup_groupWas (d : Submission) (g : Nat) (s : State) :
    (s.setGroup d g).groupWas = Tbl.ins g ((List.range 16).map (s.groupWord g)) s.groupWas := by
  have same := congrArg State.groupWas (State.wrWords_regs ((List.range 16).map (fun i => d.le (8 + 4 * i) 4)) (R.LOOM_GROUP g)
    ({ s with groupWas := Tbl.ins g ((List.range 16).map (s.groupWord g)) s.groupWas } : State))
  exact same

@[simp] theorem State.fetched_groupWord (d : Submission) (s : State) (g i : Nat) : (s.fetched d).groupWord g i = s.groupWord g i := by
  have was : (s.fetched d).groupWas = s.groupWas := by rw [State.fetched_eq]
  simp only [State.groupWord, was, State.fetched_rd]

/-- Settles O38: PICKS_RESERVE by what `specPicks` finds held, MIRROR_SET by the registers that it writes. -/
theorem picksMirrorsAndGroups : Obligations.PicksMirrorsAndGroups := by
  intro s d w m t c held mine here
  refine ⟨?reserve, ?release, ?session, ?group⟩
  case reserve =>
    rintro h rfl reserve
    refine ⟨fun clash => exec_picksReserve_busy h reserve (State.picksClash_iff.2 clash), fun apart => ?_⟩
    have clear : s.picksClash d = false := Bool.eq_false_iff.2 (fun clash => by
      obtain ⟨o, ho, ⟨p, hp, hpo⟩ | ⟨p, hp, hpo⟩⟩ := State.picksClash_iff.1 clash
      · exact (apart o ho).1 p hp hpo
      · exact (apart o ho).2 p hp hpo)
    refine ⟨exec_picksReserve_full h reserve clear, exec_picksReserve_held h reserve clear, fun room free =>
      ⟨_, exec_picksReserve_reserves h reserve clear room free, sameBut_putWoven _ rfl t, ?_, ?_, fun i hi => ?_⟩⟩
    · have word := State.rd_putWoven (d.P0 0 12) d.wovenWords (i := 6) (show 6 < 8 by decide) t
      exact (State.get_of_rd (f := F.LOOM_WOVEN_STATE _) (v := 1#32) word).trans (show bits 1 0 2 = 1 by decide)
    · have word := State.rd_putWoven (d.P0 0 12) d.wovenWords (i := 7) (show 7 < 8 by decide) t
      exact (State.get_of_rd (f := F.LOOM_WOVEN_PHI _) (v := 0#32) word).trans (show bits 0 0 32 = 0 by decide)
    · rw [State.rd_putWoven (d.P0 0 12) d.wovenWords (show i < 8 by omega) t]
      simp [Submission.wovenWords, hi]
  case release =>
    rintro h rfl release
    refine ⟨exec_picksRelease_free h release, fun held waiting =>
      ⟨_, exec_picksRelease_releases h release held waiting, sameBut_putWoven _ rfl t, fun i hi => ?_⟩⟩
    rw [State.rd_putWoven (d.P0 0 12) (List.replicate 8 0) hi t, List.getElem_replicate]
    rfl
  case session =>
    rintro h rfl
    have word : ∀ {j : Nat} (hj : j < 2), (t.setSession d (d.P0 0 13)).rd (mirrorRegs (d.P0 0 13))[j] = BitVec.ofNat 32 (d.le (8 + 4 * j) 4) :=
      fun hj => (State.rd_setSession ..).trans (State.rd_putRegs d 8 (nodup_mirrorRegs _) hj t)
    have was : t.on (F.LOOM_MIRROR_ENABLE (d.P0 0 13)) = s.on (F.LOOM_MIRROR_ENABLE (d.P0 0 13)) := State.fetched_on d s _
    rw [← was]
    refine ⟨_, exec_mirrorSetSession h, sameBut_setSession d _ t, word (j := 0) (by decide), word (j := 1) (by decide),
      State.setSession_enabled, fun same => (State.setSession_mirrors same).trans ?_⟩
    rw [show t = s.fetched d from rfl, State.fetched_eq]
  case group =>
    rintro h rfl
    refine ⟨_, exec_mirrorSetGroup h, ?_, ?_, fun i hi => ?_⟩
    · rw [State.setGroup_groupWas]
      exact sameBut_wrWords ((List.range 16).map (fun i => d.le (8 + 4 * i) 4)) (R.LOOM_GROUP (d.P0 0 13)) _
    · rw [State.setGroup_groupWas, Tbl.find_ins_self]
      exact congrArg some (List.map_congr_left (fun i _ => State.fetched_groupWord d s _ i))
    · refine (State.rd_wrWords ((List.range 16).map (fun i => d.le (8 + 4 * i) 4)) _ (by simpa using hi) _).trans ?_
      simp

end Sys2Proof.Machine
end

section
/-! Rations and stream handles (04 R154; 09 R357 to R362, R372, R374). -/

namespace Sys2Proof.Machine

open Sys2Proof

/-! ### Balances of an egress port -/

/-- Where an entry set does not pass a filter, the filter keeps what it kept. -/
theorem Tbl.filter_ins {α : Type} {p : Nat × α → Bool} {k : Nat} (h : ∀ v, p (k, v) = false) (v : α) (t : Tbl α) :
    (Tbl.ins k v t).filter p = t.filter p := by
  induction t with
  | nil => simp [Tbl.ins, h]
  | cons y t ih =>
    obtain ⟨j, w⟩ := y
    rw [Tbl.ins]
    split
    · simp [h]
    · split
      · next e => simp [← e, h]
      · simp only [List.filter_cons, ih]

/-- The balances held towards an egress port. -/
def State.balancesOf (e : Nat) (s : State) : Tbl Int := s.balance.filter (fun b => b.1 / 512 == e)

/-- `t` is `s` but for balances towards the egress port `e`. -/
def Paid (e : Nat) (s t : State) : Prop := { t with balance := s.balance } = s ∧ ∀ x, x ≠ e → t.balancesOf x = s.balancesOf x

theorem paid_refl (e : Nat) (s : State) : Paid e s s := ⟨rfl, fun _ _ => rfl⟩

theorem paid_trans {e : Nat} {s t u : State} (h : Paid e s t) (g : Paid e t u) : Paid e s u := by
  obtain ⟨h1, h2⟩ := h
  obtain ⟨g1, g2⟩ := g
  refine ⟨?_, fun x hx => (g2 x hx).trans (h2 x hx)⟩
  rw [← h1, ← g1]

theorem paid_ins {e k : Nat} (hk : k / 512 = e) (v : Int) (s : State) : Paid e s { s with balance := Tbl.ins k v s.balance } :=
  ⟨rfl, fun x hx => Tbl.filter_ins (p := fun b => b.1 / 512 == x) (fun _ => beq_false_of_ne (fun g => hx (g.symm.trans hk))) v s.balance⟩

theorem paid_forEach {α : Type} {e : Nat} {l : List α} {f : α → State → State} (h : ∀ x ∈ l, ∀ s, Paid e s (f x s)) (s : State) :
    Paid e s (s.forEach l f) := by
  induction l generalizing s with
  | nil => exact paid_refl e s
  | cons x l ih => exact paid_trans (h x (List.mem_cons_self ..) s) (ih (fun y hy => h y (List.mem_cons_of_mem _ hy)) (f x s))

theorem balKey_div {i : Nat} (h : i < 512) (e : Nat) : balKey i e / 512 = e := by
  unfold balKey
  omega

/-- The rounds of a deal move balances towards the port alone. -/
theorem State.dealPool_paid (e cap : Nat) (k pool : Nat) {l : List Nat} (hl : ∀ i ∈ l, i < 512) (s : State) :
    Paid e s (s.dealPool e cap k pool l).2 := by
  induction k generalizing pool l s with
  | zero => exact paid_refl e s
  | succ k ih =>
    rw [State.dealPool]
    dsimp only
    split
    · exact paid_refl e s
    · refine paid_trans (paid_forEach (fun g hg s => paid_ins (balKey_div ?_ e) _ s) s) (ih _ (fun i hi => hl i (List.mem_of_mem_filter hi)) _)
      obtain ⟨i, hi, rfl⟩ := List.mem_map.1 hg
      exact hl i hi

/-! ### One egress port (09 R357, R359, R360) -/

/-- `t` is `s` as far as other ports than `e` and frames go. -/
structure Dealt (e : Nat) (s t : State) : Prop where
  frames : t.frames = s.frames
  regs : ∀ a, a ≠ R.EGR_PORT_STATUS e → a ≠ R.EGR_EVENT → ¬ToldAt a → t.rd a = s.rd a
  balances : ∀ x, x ≠ e → t.balancesOf x = s.balancesOf x

theorem dealt_trans {e : Nat} {s t u : State} (h : Dealt e s t) (g : Dealt e t u) : Dealt e s u :=
  ⟨g.frames.trans h.frames, fun a h1 h2 h3 => (g.regs a h1 h2 h3).trans (h.regs a h1 h2 h3), fun x hx => (g.balances x hx).trans (h.balances x hx)⟩

theorem Paid.rd {e : Nat} {s t : State} (h : Paid e s t) (a : Nat) : t.rd a = s.rd a := by
  have same := congrArg (fun u : State => u.rd a) h.1
  exact same

theorem Paid.dealt {e : Nat} {s t : State} (h : Paid e s t) : Dealt e s t := by
  have frames := congrArg State.frames h.1
  exact ⟨frames, fun a _ _ _ => h.rd a, h.2⟩

theorem dealt_clear (e : Nat) (s : State) : Dealt e s (s.clearRations e) := by
  refine ⟨rfl, fun _ _ _ _ => rfl, fun x hx => ?_⟩
  refine (List.filter_filter ..).trans (List.filter_congr (fun b _ => ?_))
  by_cases hb : b.1 / 512 = x
  · simp [hb, hx]
  · simp [hb]

theorem dealt_set {e : Nat} {f : Fld} (h : f.addr = R.EGR_PORT_STATUS e) (v : Nat) (s : State) : Dealt e s (s.set f v) :=
  ⟨rfl, fun _ ha _ _ => State.rd_set_ne (h ▸ ha) v s, fun _ _ => rfl⟩

theorem dealt_raise (e b src : Nat) (s : State) : Dealt e s (s.raise .egr b src) := by
  have told := State.raise_told .egr b src s
  refine ⟨told.frames, fun a _ ha ht => State.rd_raise b src s ht ha, fun x _ => ?_⟩
  have same := congrArg (fun u : State => u.balancesOf x) told.2
  exact same

/-- What is left of a port's deal, its rounds made: its pool and DEMANDING. -/
def State.endDeal (e pool n : Nat) (s : State) : State := ({ s with pool := Tbl.ins e pool s.pool }).set (F.EGR_PORT_STATUS_DEMANDING e) n

theorem dealt_endDeal (e pool n : Nat) (s : State) : Dealt e s (s.endDeal e pool n) :=
  dealt_trans (t := { s with pool := Tbl.ins e pool s.pool }) ⟨rfl, fun _ _ _ _ => rfl, fun _ _ => rfl⟩ (dealt_set rfl n _)

section
variable {e : Nat} {s : State}

theorem State.dealPort_starts (was : s.on (F.EGR_PORT_STATUS_RATIONED e) = false) (bytes : s.rationOn e ≤ s.rationedBytes e) :
    s.dealPort e = ((s.clearRations e).set (F.EGR_PORT_STATUS_RATIONED e) 1).raise .egr 0 e :=
  (if_pos (by rw [was]; rfl)).trans (if_pos bytes)

theorem State.dealPort_idle (was : s.on (F.EGR_PORT_STATUS_RATIONED e) = false) (bytes : s.rationedBytes e < s.rationOn e) : s.dealPort e = s :=
  (if_pos (by rw [was]; rfl)).trans (if_neg (Nat.not_le.2 bytes))

theorem State.dealPort_ends (was : s.on (F.EGR_PORT_STATUS_RATIONED e) = true) (bytes : s.rationedBytes e ≤ s.rationOff e) :
    s.dealPort e = ((s.clearRations e).set (F.EGR_PORT_STATUS_RATIONED e) 0).set (F.EGR_PORT_STATUS_DEMANDING e) 0 :=
  (if_neg (by rw [was]; decide)).trans (if_pos bytes)

/-- A port that stays rationed: balances towards it move, its pool and DEMANDING are set. -/
theorem State.dealPort_deals (was : s.on (F.EGR_PORT_STATUS_RATIONED e) = true) (bytes : s.rationOff e < s.rationedBytes e) :
    ∃ t pool n, Paid e s t ∧ s.dealPort e = t.endDeal e pool n := by
  unfold State.dealPort
  dsimp only
  rw [if_neg (by rw [was]; decide), if_neg (Nat.not_le.2 bytes)]
  refine ⟨_, _, _, paid_trans (State.dealPool_paid e _ 300 _ (fun i hi => ?_) s) (paid_forEach (fun b hb s => paid_ins ?_ 0 s) _), rfl⟩
  · obtain ⟨b, -, rfl⟩ := List.mem_map.1 (List.mem_of_mem_filter hi)
    exact Nat.mod_lt _ (by decide)
  · have only := (List.mem_filter.1 hb).2
    simp only [Bool.and_eq_true, beq_iff_eq] at only
    exact only.1.1

end

theorem State.dealPort_dealt (e : Nat) (s : State) : Dealt e s (s.dealPort e) := by
  cases was : s.on (F.EGR_PORT_STATUS_RATIONED e) with
  | false =>
    rcases Nat.lt_or_ge (s.rationedBytes e) (s.rationOn e) with bytes | bytes
    · rw [State.dealPort_idle was bytes]
      exact (paid_refl e s).dealt
    · rw [State.dealPort_starts was bytes]
      exact dealt_trans (dealt_clear e s) (dealt_trans (dealt_set rfl 1 _) (dealt_raise e 0 e _))
  | true =>
    rcases Nat.lt_or_ge (s.rationOff e) (s.rationedBytes e) with bytes | bytes
    · obtain ⟨t, pool, n, paid, eq⟩ := State.dealPort_deals was bytes
      rw [eq]
      exact dealt_trans paid.dealt (dealt_endDeal e pool n t)
    · rw [State.dealPort_ends was bytes]
      exact dealt_trans (dealt_clear e s) (dealt_trans (dealt_set rfl 0 _) (dealt_set rfl 0 _))

/-! ### RATIONS_DEAL: each port as if alone -/

/-- What a port's deal reads and leaves of the rations: its state, its settings, the frames and the balances towards it. -/
def State.rations (e : Nat) (s : State) : (Word × Word) × Tbl Frame × Tbl Int :=
  ((s.rd (R.EGR_PORT_STATUS e), s.rd (R.EGR_RATION_CFG e)), s.frames, s.balancesOf e)

theorem not_toldAt_egr {a : Nat} (h : 0x700000 ≤ a) (g : a < 0x7D0000) : ¬ToldAt a := fun t => by
  have := t.place
  omega

theorem Dealt.rations_ne {x e : Nat} {s t : State} (h : Dealt x s t) (he : e < 272) (ne : e ≠ x) : t.rations e = s.rations e := by
  have word : ∀ a, (a = R.EGR_PORT_STATUS e ∨ a = R.EGR_RATION_CFG e) → t.rd a = s.rd a := fun a ha => by
    refine h.regs a ?_ ?_ (not_toldAt_egr ?_ ?_)
    all_goals simp only [R.EGR_PORT_STATUS, R.EGR_RATION_CFG, R.EGR_EVENT] at ha ⊢; omega
  simp only [State.rations, word _ (.inl rfl), word _ (.inr rfl), h.frames, h.balances e ne]

/-- Of what the elements do in turn, a view that the others leave alone shows the one that does not. -/
theorem State.view_forEach_of_mem {α β : Type} {v : State → β} {l : List α} {f : α → State → State} {x : α} (once : l.Nodup) (hx : x ∈ l)
    (others : ∀ y ∈ l, y ≠ x → ∀ s, v (f y s) = v s) (s : State) : ∃ r, v r = v s ∧ v (s.forEach l f) = v (f x r) := by
  induction l generalizing s with
  | nil => cases hx
  | cons y l ih =>
    obtain ⟨fresh, once⟩ := List.nodup_cons.1 once
    have rest : ∀ z ∈ l, z ≠ x → ∀ s, v (f z s) = v s := fun z hz => others z (List.mem_cons_of_mem _ hz)
    rw [State.forEach_cons]
    by_cases here : y = x
    · subst here
      exact ⟨s, rfl, State.view_forEach (fun z hz => rest z hz (fun e => fresh (e ▸ hz))) _⟩
    · obtain ⟨r, hr, hu⟩ := ih once ((List.mem_cons.1 hx).resolve_left (Ne.symm here)) rest (f y s)
      exact ⟨r, hr.trans (others y (List.mem_cons_self ..) here s), hu⟩

/-- What `dealPort` decides on is seen in the view. -/
theorem State.rations_decide {e : Nat} {s t : State} (h : t.rations e = s.rations e) :
    t.on (F.EGR_PORT_STATUS_RATIONED e) = s.on (F.EGR_PORT_STATUS_RATIONED e) ∧ t.rationOn e = s.rationOn e ∧
      t.rationOff e = s.rationOff e ∧ t.rationedBytes e = s.rationedBytes e := by
  simp only [State.rations, Prod.mk.injEq] at h
  obtain ⟨⟨status, cfg⟩, frames, -⟩ := h
  have field : ∀ f : Fld, f.addr = R.EGR_RATION_CFG e → t.get f = s.get f := fun f hf => State.get_addr (hf ▸ cfg)
  refine ⟨State.on_addr status, ?_, ?_, ?_⟩
  · simp only [State.rationOn, field (F.EGR_RATION_CFG_ON e) rfl]
  · simp only [State.rationOff, field (F.EGR_RATION_CFG_ON e) rfl, field (F.EGR_RATION_CFG_OFF e) rfl]
  · simp only [State.rationedBytes, field (F.EGR_RATION_CFG_RATIONED_TC e) rfl, frames]

/-- Every port's part of a deal shows as if it were dealt alone. -/
theorem exec_rationsDeal_due {s : State} (due : s.cycleDue evRations = true) : ∃ u, exec .rationsDeal s = .next u ∧ u.frames = s.frames ∧
    ∀ e < 272, ∃ r : State, r.rations e = s.rations e ∧ u.rations e = (r.dealPort e).rations e := by
  refine ⟨(s.cycleMade evRations).forEach (List.range 272) State.dealPort, ?_, ?_, fun e he => ?_⟩
  · show Host.Outcome.next (s.when (s.cycleDue evRations) _) = _
    rw [due, State.when_true]
  · exact State.view_forEach (v := State.frames) (fun x _ t => (State.dealPort_dealt x t).frames) _
  · exact State.view_forEach_of_mem (v := State.rations e) List.nodup_range (List.mem_range.2 he)
      (fun x _ ne t => (State.dealPort_dealt x t).rations_ne he (Ne.symm ne)) (s.cycleMade evRations)

theorem State.rations_get {e : Nat} {s t : State} (h : t.rations e = s.rations e) (f : Fld) (hf : f.addr = R.EGR_PORT_STATUS e) :
    t.get f = s.get f := State.get_addr (hf ▸ congrArg (fun v => v.1.1) h)

theorem State.balance_ne_of_balancesOf {e : Nat} {s : State} (h : s.balancesOf e = []) : ∀ b ∈ s.balance, b.1 / 512 ≠ e := fun b hb g => by
  have none := List.filter_eq_nil_iff.1 h b hb
  simp [g] at none

theorem State.rationed_set_demanding (e n : Nat) (s : State) :
    (s.set (F.EGR_PORT_STATUS_DEMANDING e) n).on (F.EGR_PORT_STATUS_RATIONED e) = s.on (F.EGR_PORT_STATUS_RATIONED e) := by
  apply State.on_set_ne
  · rfl
  · simp [F.EGR_PORT_STATUS_RATIONED, F.EGR_PORT_STATUS_DEMANDING]
  · simp [F.EGR_PORT_STATUS_RATIONED]

/-- The rationed state of a port after its deal. -/
theorem State.on_dealPort_starts {e : Nat} {s : State} (he : e < 272) (was : s.on (F.EGR_PORT_STATUS_RATIONED e) = false)
    (bytes : s.rationOn e ≤ s.rationedBytes e) : (s.dealPort e).on (F.EGR_PORT_STATUS_RATIONED e) = true := by
  rw [State.dealPort_starts was bytes]
  refine (State.on_addr (State.rd_raise 0 e _ (not_toldAt_egr ?_ ?_) ?_)).trans
    (State.on_setB_self (by simp [F.EGR_PORT_STATUS_RATIONED]) (by simp [F.EGR_PORT_STATUS_RATIONED]) true _)
  all_goals simp only [F.EGR_PORT_STATUS_RATIONED, R.EGR_PORT_STATUS, Blk.reg, R.EGR_EVENT]; omega

theorem State.on_dealPort_deals {e : Nat} {s : State} (was : s.on (F.EGR_PORT_STATUS_RATIONED e) = true)
    (bytes : s.rationOff e < s.rationedBytes e) : (s.dealPort e).on (F.EGR_PORT_STATUS_RATIONED e) = true := by
  obtain ⟨t, pool, n, paid, eq⟩ := State.dealPort_deals was bytes
  rw [eq]
  exact (State.rationed_set_demanding e n { t with pool := Tbl.ins e pool t.pool }).trans ((State.on_addr (paid.rd _)).trans was)

theorem State.dealPort_ended {e : Nat} {s : State} (was : s.on (F.EGR_PORT_STATUS_RATIONED e) = true) (bytes : s.rationedBytes e ≤ s.rationOff e) :
    (s.dealPort e).on (F.EGR_PORT_STATUS_RATIONED e) = false ∧ (s.dealPort e).get (F.EGR_PORT_STATUS_DEMANDING e) = 0 ∧
      (s.dealPort e).balancesOf e = [] := by
  rw [State.dealPort_ends was bytes]
  refine ⟨?_, State.get_set_self (f := F.EGR_PORT_STATUS_DEMANDING e) (by simp [F.EGR_PORT_STATUS_DEMANDING]) 0 _, ?_⟩
  · exact (State.rationed_set_demanding e 0 _).trans
      (State.on_setB_self (by simp [F.EGR_PORT_STATUS_RATIONED]) (by simp [F.EGR_PORT_STATUS_RATIONED]) false _)
  · show (s.balance.filter (fun b => b.1 / 512 != e)).filter (fun b => b.1 / 512 == e) = []
    simp [List.filter_filter]

/-! ### RATIONS_SET (09 R362) -/

theorem exec_rationsSetEgress {d : Submission} {s : State} (h : Ready specRationsEgress d s) :
    exec (.rationsSetEgress d) s = .next ((cmdOf 0x4F d s).ended rOk 0 0 ((s.fetched d).putRegs d 8 (egrRegs (d.P0 0 9)))) :=
  congrArg Host.Outcome.next (CmdSpec.take_ends h (by decide) (by decide) rfl rfl)

theorem exec_rationsSetWeight {d : Submission} {s : State} (h : Ready specRationsWeight d s) :
    exec (.rationsSetWeight d) s = .next ((cmdOf 0x4F d s).ended rOk 0 0 ((s.fetched d).putRegs d 8 [R.EGR_RATION_WEIGHT (d.P0 0 9)])) :=
  congrArg Host.Outcome.next (CmdSpec.take_ends h (by decide) (by decide) rfl rfl)

theorem nodup_egrRegs (p : Nat) : (egrRegs p).Nodup := by
  simp [egrRegs, R.EGR_CLASS_LEVEL, R.EGR_CLASS_WEIGHT0, R.EGR_CLASS_WEIGHT1, R.EGR_RATION_CFG]

/-! ### The state of a stream handle (09 R368) -/

theorem State.rd_set2_ne {a lo hi : Nat} (hlo : a ≠ lo) (hhi : a ≠ hi) (w v : Nat) (s : State) : (s.set2 lo hi w v).rd a = s.rd a :=
  (State.rd_wr_ne hhi _ _).trans (State.rd_wr_ne hlo _ _)

theorem State.get2_set2_zero {lo hi : Nat} (ne : lo ≠ hi) (w : Nat) (s : State) : (s.set2 lo hi w 0).get2 lo hi = 0 := by
  simp [State.get2, State.set2, State.rd_wr_ne ne]

theorem sameBut_set2 (lo hi w v : Nat) (s : State) : SameBut [lo, hi] s (s.set2 lo hi w v) :=
  sameBut_trans (sameBut_wr (by simp) _ s) (sameBut_wr (by simp) _ _)

/-- The registers of a handle's state. -/
def frerStateRegs (h : Nat) : List Nat := [R.FRER_STATE h, R.FRER_STATE h + 8, R.FRER_STATE h + 12]

section
variable (h recov hist : Nat) (any : Bool) (s : State)

theorem sameBut_setFrer : SameBut (frerStateRegs h) s (s.setFrer h recov hist any) := by
  refine sameBut_trans (sameBut_set (f := F.FRER_STATE_SEQ h) (List.mem_cons_self ..) recov s) ?_
  refine sameBut_trans (sameBut_set (f := F.FRER_STATE_TAKE_ANY h) (List.mem_cons_self ..) (b2n any) _) ?_
  exact sameBut_mono (fun _ ha => List.mem_cons_of_mem _ ha) (sameBut_set2 _ _ 64 hist _)

theorem State.rd_setFrer_state : (s.setFrer h recov hist any).rd (R.FRER_STATE h) =
    ((s.set (F.FRER_STATE_SEQ h) recov).setB (F.FRER_STATE_TAKE_ANY h) any).rd (R.FRER_STATE h) :=
  State.rd_set2_ne (by omega) (by omega) 64 hist _

theorem State.get_setFrer_takeAny : (s.setFrer h recov hist any).get (F.FRER_STATE_TAKE_ANY h) = b2n any :=
  (State.get_addr (State.rd_setFrer_state h recov hist any s)).trans
    (State.get_setB_self (by simp [F.FRER_STATE_TAKE_ANY]) (by simp [F.FRER_STATE_TAKE_ANY]) any _)

theorem State.get_setFrer_seq : (s.setFrer h recov hist any).get (F.FRER_STATE_SEQ h) = recov % 2 ^ 16 := by
  refine (State.get_addr (State.rd_setFrer_state h recov hist any s)).trans ?_
  refine (State.get_set_ne (f := F.FRER_STATE_TAKE_ANY h) (g := F.FRER_STATE_SEQ h) rfl (.inl (by simp [F.FRER_STATE_SEQ, F.FRER_STATE_TAKE_ANY]))
    (by simp [F.FRER_STATE_SEQ]) (b2n any) _).trans ?_
  exact State.get_set_self (f := F.FRER_STATE_SEQ h) (by simp [F.FRER_STATE_SEQ]) recov s

theorem State.frerHist_setFrer_zero : (s.setFrer h recov 0 any).frerHist h = 0 := State.get2_set2_zero (by omega) 64 _

end

/-! ### FRER_SET (09 R372, R374) -/

theorem sameBut_frerModes (old new : Nat) (s : State) : SameBut [R.FRER_STATUS] s (s.frerModes old new) :=
  sameBut_trans (sameBut_set (f := F.FRER_STATUS_GENERATORS) (List.mem_cons_self ..) _ s)
    (sameBut_set (f := F.FRER_STATUS_RECOVERERS) (List.mem_cons_self ..) _ _)

/-- The eight words of a handle's entry in its block. -/
def Submission.frerWords (d : Submission) : List Nat := (List.range 8).map (fun i => d.le (8 + 4 * i) 4)

/-- A handle's entry and state written, its reset timer still as it was. -/
def State.putFrer (d : Submission) (h : Nat) (s : State) : State :=
  ((s.frerModes (s.get (F.FRER_STREAM_MODE h)) (d.b 8 % 8)).wrWords (R.FRER_STREAM h) d.frerWords).setFrer h 0 0 true

theorem exec_frerSetWrite {d : Submission} {s : State} (h : Ready specFrerWrite d s) : exec (.frerSetWrite d) s =
    .next ((cmdOf 0x50 d s).ended rOk 0 0 (((s.fetched d).putFrer d (d.P0 0 12)).stop (.frerReset (d.P0 0 12)))) :=
  congrArg Host.Outcome.next (CmdSpec.take_ends h (by decide) (by decide) rfl rfl)

theorem sameBut_putFrer (d : Submission) (h : Nat) (s : State) :
    SameBut (R.FRER_STATUS :: R.FRER_STATE h :: (R.FRER_STATE h + 8) :: (R.FRER_STATE h + 12) :: wordsAt (R.FRER_STREAM h) 8) s (s.putFrer d h) := by
  refine sameBut_trans (sameBut_mono ?_ (sameBut_frerModes _ _ s)) (sameBut_trans (sameBut_mono ?_ (sameBut_wrWords d.frerWords _ _))
    (sameBut_mono ?_ (sameBut_setFrer h 0 0 true _)))
  · simp
  · exact fun a ha => by simp only [List.mem_cons]; exact .inr (.inr (.inr (.inr ha)))
  · intro a ha
    simp only [frerStateRegs, List.mem_cons, List.not_mem_nil, or_false] at ha ⊢
    tauto

theorem State.rd_putFrer (d : Submission) {h i : Nat} (hh : h < 4096) (hi : i < 8) (s : State) :
    (s.putFrer d h).rd (R.FRER_STREAM h + 4 * i) = BitVec.ofNat 32 (d.le (8 + 4 * i) 4) := by
  refine ((sameBut_setFrer h 0 0 true _).1 _ ?_).trans ((State.rd_wrWords d.frerWords (R.FRER_STREAM h) (by simpa [Submission.frerWords]) _).trans ?_)
  · simp only [frerStateRegs, List.mem_cons, List.not_mem_nil, or_false, R.FRER_STREAM, R.FRER_STATE]
    omega
  · simp [Submission.frerWords]

theorem State.putFrer_state (d : Submission) (h : Nat) (s : State) : (s.putFrer d h).get (F.FRER_STATE_SEQ h) = 0 ∧
    (s.putFrer d h).get (F.FRER_STATE_TAKE_ANY h) = 1 ∧ (s.putFrer d h).frerHist h = 0 := by
  unfold State.putFrer
  exact ⟨State.get_setFrer_seq .., State.get_setFrer_takeAny .., State.frerHist_setFrer_zero ..⟩

theorem State.get_stop (tm : Timer) (s : State) (f : Fld) : (s.stop tm).get f = s.get f := rfl

theorem State.frerHist_stop (tm : Timer) (s : State) (h : Nat) : (s.stop tm).frerHist h = s.frerHist h := rfl

/-- A timer stopped leaves what was written as it is. -/
theorem sameBut_stop {l : List Nat} {s t : State} (h : SameBut l s t) (tm : Timer) : SameBut l { s with timers := (t.stop tm).timers } (t.stop tm) :=
  ⟨h.1, congrArg (fun u : State => { u with timers := (t.stop tm).timers }) h.2⟩

section
variable {d : Submission} {s : State} (h : Ready specFrerReset d s)
include h

theorem exec_frerSetReset_resets (mode : s.get (F.FRER_STREAM_MODE (d.P0 0 12)) = 2 ∨ s.get (F.FRER_STREAM_MODE (d.P0 0 12)) = 3) :
    exec (.frerSetReset d) s = .next ((cmdOf 0x50 d s).ended rOk 0 0 ((s.fetched d).frerReset (d.P0 0 12))) := by
  refine congrArg Host.Outcome.next (CmdSpec.take_ends h (by decide) (by decide) rfl ((if_pos ?_).trans rfl))
  exact (State.fetched_get d s _).symm ▸ mode

theorem exec_frerSetReset_refuses (mode : ¬(s.get (F.FRER_STREAM_MODE (d.P0 0 12)) = 2 ∨ s.get (F.FRER_STREAM_MODE (d.P0 0 12)) = 3)) :
    exec (.frerSetReset d) s = .next ((cmdOf 0x50 d s).ended rState 0 0 (s.fetched d)) := by
  refine congrArg Host.Outcome.next (CmdSpec.take_ends h (by decide) (by decide) rfl ((if_neg ?_).trans rfl))
  exact (State.fetched_get d s _).symm ▸ mode

end

/-- A recovery reset: the handle's state written, then what counting it and its event change. -/
theorem State.frerReset_told (h : Nat) (s : State) : ∃ t, Told (s.setFrer h (s.get (F.FRER_STATE_SEQ h)) 0 true) t ∧
    Told ((t.stop (.frerReset h)).stick R.FRER_EVENT 3) (s.frerReset h) :=
  ⟨_, State.count_told 4 h 7 1 _, State.raise_told .frer 3 h _⟩

theorem State.rd_frerReset {h a : Nat} (lo : 0x780008 ≤ a) (hi : a < 0x7D0000) (s : State) :
    (s.frerReset h).rd a = (s.setFrer h (s.get (F.FRER_STATE_SEQ h)) 0 true).rd a := by
  have untold : ¬ToldAt a := not_toldAt_egr (by omega) hi
  obtain ⟨t, counted, raised⟩ := State.frerReset_told h s
  refine (raised.1 a untold).trans ((State.rd_set_ne (f := F.FRER_EVENT_RESET_SEEN) ?_ 1 _).trans (counted.1 a untold))
  simp only [F.FRER_EVENT_RESET_SEEN, R.FRER_EVENT]
  omega

theorem State.timer_frerReset (h : Nat) (s : State) : (s.frerReset h).timer (.frerReset h) = none := by
  obtain ⟨t, -, raised⟩ := State.frerReset_told h s
  exact (raised.timer _).trans (State.timer_stop_self _ t)

/-- What a recovery reset leaves of the handle's state. -/
theorem State.frerReset_leaves {h : Nat} (hh : h < 4096) (s : State) : (s.frerReset h).on (F.FRER_STATE_TAKE_ANY h) = true ∧
    (s.frerReset h).frerHist h = 0 ∧ (s.frerReset h).get (F.FRER_STATE_SEQ h) = s.get (F.FRER_STATE_SEQ h) := by
  have word : ∀ k < 16, (s.frerReset h).rd (R.FRER_STATE h + k) = (s.setFrer h (s.get (F.FRER_STATE_SEQ h)) 0 true).rd (R.FRER_STATE h + k) :=
    fun k hk => State.rd_frerReset (by simp only [R.FRER_STATE]; omega) (by simp only [R.FRER_STATE]; omega) s
  refine ⟨?any, ?hist, ?seq⟩
  case any =>
    rw [State.on_eq_get, State.get_addr (word 0 (by decide)), State.get_setFrer_takeAny]
    rfl
  case hist =>
    rw [State.frerHist, State.get2, word 8 (by decide), word 12 (by decide)]
    exact State.frerHist_setFrer_zero ..
  case seq =>
    exact (State.get_addr (word 0 (by decide))).trans ((State.get_setFrer_seq ..).trans (Nat.mod_mod _ _))

/-- Settles O40: a port's part of the deal as if it were dealt alone; the handles by the registers that FRER_SET and a recovery reset write. -/
theorem rationsAndStreamHandles : Obligations.RationsAndStreamHandles := by
  intro s d p h t
  refine ⟨?rests, ?deals, ?egress, ?weight, ?write, ?reset, ?timeout, fun hh => ?leaves⟩
  case rests =>
    intro off
    show Host.Outcome.next (s.when (s.cycleDue evRations) _) = _
    rw [off, State.when_false]
  case deals =>
    intro due
    obtain ⟨u, run, frames, alone⟩ := exec_rationsDeal_due due
    refine ⟨u, run, frames, fun e he => ?_⟩
    obtain ⟨r, seen, left⟩ := alone e he
    obtain ⟨on, start, stop, bytes⟩ := State.rations_decide seen
    rw [(State.rations_decide left).1, State.rations_get left _ rfl, ← on, ← start, ← stop, ← bytes]
    refine ⟨State.on_dealPort_starts he, fun was low => ?_, fun was low => ?_, State.on_dealPort_deals⟩
    · rw [State.dealPort_idle was low, was]
    · obtain ⟨rationed, demanding, none⟩ := State.dealPort_ended was low
      exact ⟨rationed, demanding, State.balance_ne_of_balancesOf ((congrArg (fun v => v.2.2) left).trans none)⟩
  case egress =>
    rintro ready rfl
    have word : ∀ j (hj : j < 4), (t.putRegs d 8 (egrRegs (d.P0 0 9))).rd (egrRegs (d.P0 0 9))[j] = BitVec.ofNat 32 (d.le (8 + 4 * j) 4) :=
      fun j hj => State.rd_putRegs d 8 (nodup_egrRegs _) hj t
    exact ⟨_, exec_rationsSetEgress ready, sameBut_putRegs d 8 _ t, word 0 (by decide), word 1 (by decide), word 2 (by decide), word 3 (by decide)⟩
  case weight =>
    rintro ready rfl
    exact ⟨_, exec_rationsSetWeight ready, sameBut_putRegs d 8 _ t,
      State.rd_putRegs d 8 (as := [R.EGR_RATION_WEIGHT (d.P0 0 9)]) (List.nodup_singleton _) (j := 0) (by simp) t⟩
  case write =>
    rintro ready rfl
    obtain ⟨seq, any, hist⟩ := State.putFrer_state d (d.P0 0 12) t
    refine ⟨_, exec_frerSetWrite ready, sameBut_stop (sameBut_putFrer d _ t) _, fun i hi => ?_, (State.get_stop ..).trans seq,
      (State.get_stop ..).trans any, (State.frerHist_stop ..).trans hist, State.timer_stop_self ..⟩
    rw [State.rd_stop, State.rd_putFrer d (Submission.P0_lt d 0 12) hi t]
  case reset =>
    rintro ready rfl
    exact ⟨exec_frerSetReset_resets ready, fun two three => exec_frerSetReset_refuses ready (not_or.2 ⟨two, three⟩)⟩
  case timeout =>
    exact fun mode => ⟨fun ran => if_pos ⟨mode, ran⟩, fun ran => if_neg (fun both => Bool.eq_false_iff.1 ran both.2)⟩
  case leaves =>
    obtain ⟨any, hist, seq⟩ := State.frerReset_leaves hh s
    exact ⟨any, hist, seq, State.timer_frerReset h s⟩

end Sys2Proof.Machine
end

section
/-! Phase taps and instrument inputs (05 R203; 10 R391, R395 to R409). -/

namespace Sys2Proof.Machine

open Sys2Proof

/-! ### A time from a TDC (10 R391) -/

/-- The state in which TDC `key` has delivered a calibration pair in range. -/
def State.tdcGoodPair (key : Nat) (d : TdcEdge) (s : State) : State := (s.place1 key d).2.2

theorem State.place1_good {d : TdcEdge} (h : tdcGood d.c1 d.c2 = true) (key : Nat) (s : State) :
    s.place1 key d = (((d.e : Int) - tdcUnits d.c d.c1 d.c2).toNat, false, s.tdcGoodPair key d) := by
  simp only [State.tdcGoodPair, State.place1, h, if_true]

theorem State.tdcGoodPair_chans {d : TdcEdge} (h : tdcGood d.c1 d.c2 = true) (key : Nat) (s : State) :
    (s.tdcGoodPair key d).chans = s.chans := by
  simp only [State.tdcGoodPair, State.place1, h, if_true, State.setB_chans]

/-! ### Phase taps (05 R203; 10 R395 to R397) -/

theorem exec_tapSample_rests {t : Nat} {s : State} (h : 286 ≤ t ∨ s.heldDomain 1 = true ∨ s.sampleDue t (s.nt / us * us) = false)
    (rx tx : Option TapHalf) : exec (.tapSample t rx tx) s = .next s :=
  if_pos (by simpa using h)

theorem State.tapHalf_none (key at0 : Nat) (ok : Bool) (s : State) : s.tapHalf key at0 ok none = (none, s) := rfl

theorem State.tapHalf_invalid (key at0 : Nat) (h : Option TapHalf) (s : State) : s.tapHalf key at0 false h = (none, s) := by
  cases h <;> rfl

theorem State.tapHalf_valid {h : TapHalf} {at0 p : Nat} (good : tdcGood h.edge.c1 h.edge.c2 = true)
    (at? : ((h.edge.e : Int) - tdcUnits h.edge.c h.edge.c1 h.edge.c2).toNat = at0 + p) (hp : p < us) (key : Nat) (s : State) :
    s.tapHalf key at0 true (some h) = (some (at0 + p, p, h.bitpos, min h.cycles 0xFFFF, false), s.tdcGoodPair key h.edge) := by
  simp [State.tapHalf, State.place1_good good, at?, hp]

/-- The sample of a lane's tap at `at0`: its receive half, then its transmit half, each where it is valid. -/
def State.laneSampled (t at0 : Nat) (rx tx : Option TapHalf) (s : State) : State :=
  let a := (s.sampleMade t at0).tapHalf t at0 ((s.sampleMade t at0).tapRx t) rx
  let b := a.2.tapHalf t at0 (a.2.tapTx t) tx
  b.2.tapWords t at0 a.1 b.1 false

theorem exec_tapSample_lane {t : Nat} {s : State} (ht : t < 272) (runs : s.heldDomain 1 = false) (due : s.sampleDue t (s.nt / us * us) = true)
    (rx tx : Option TapHalf) : exec (.tapSample t rx tx) s = .next (s.laneSampled t (s.nt / us * us) rx tx) := by
  have lane : ¬280 ≤ t := by omega
  have ref : ¬272 ≤ t := by omega
  have go : ¬(286 ≤ t ∨ s.heldDomain 1 = true ∨ (!s.sampleDue t (s.nt / us * us)) = true) := by
    simp only [runs, due, Bool.not_true, Bool.false_eq_true, or_false]
    omega
  show execTapSample t rx tx s = _
  unfold execTapSample
  simp only [if_neg go, if_neg lane, ht, ref, decide_true, decide_false, Bool.true_and, Bool.false_and]
  rfl

theorem State.tapRx_sampleMade (t at0 n : Nat) (s : State) : (s.sampleMade t at0).tapRx n = s.tapRx n := rfl
theorem State.tapTx_sampleMade (t at0 n : Nat) (s : State) : (s.sampleMade t at0).tapTx n = s.tapTx n := rfl

theorem State.laneSampled_invalid {t : Nat} {s : State} (rxOff : s.tapRx t = false) (txOff : s.tapTx t = false) (at0 : Nat)
    (rx tx : Option TapHalf) : s.laneSampled t at0 rx tx = (s.sampleMade t at0).tapWords t at0 none none false := by
  unfold State.laneSampled
  dsimp only
  rw [State.tapRx_sampleMade, rxOff, State.tapHalf_invalid, State.tapTx_sampleMade, txOff, State.tapHalf_invalid]

theorem State.laneSampled_rx {t at0 p : Nat} {s : State} {h : TapHalf} (rxOn : s.tapRx t = true) (good : tdcGood h.edge.c1 h.edge.c2 = true)
    (at? : ((h.edge.e : Int) - tdcUnits h.edge.c h.edge.c1 h.edge.c2).toNat = at0 + p) (hp : p < us) : s.laneSampled t at0 (some h) none =
      ((s.sampleMade t at0).tdcGoodPair t h.edge).tapWords t at0 (some (at0 + p, p, h.bitpos, min h.cycles 0xFFFF, false)) none false := by
  unfold State.laneSampled
  dsimp only
  rw [State.tapRx_sampleMade, rxOn, State.tapHalf_valid good at? hp, State.tapHalf_none]

/-- RX_VALID and TX_VALID of a sample of which the receive half alone is valid. -/
theorem rxValid_flags : ∀ x y z : Bool,
    (BitVec.ofNat 32 (b2n true + 2 * b2n false + 4 * b2n false + 8 * b2n x + 16 * b2n y + 32 * b2n z)).getLsbD 0 = true ∧
    (BitVec.ofNat 32 (b2n true + 2 * b2n false + 4 * b2n false + 8 * b2n x + 16 * b2n y + 32 * b2n z)).getLsbD 1 = false := by
  decide

/-- The words of a sample of which the receive half alone is valid: the boundary, its phase and position, no transmit phase (10 R396). -/
theorem State.rd_tapWords_rx (t at0 : Nat) (x : Nat × Nat × Nat × Nat × Bool) (s : State) :
    let u := s.tapWords t at0 (some x) none false
    u.rd (R.MEAS_TAP_LAST t) = BitVec.ofNat 32 (ct at0 % 2 ^ 32) ∧ u.rd (R.MEAS_TAP_LAST t + 4) = BitVec.ofNat 32 (ct at0 / 2 ^ 32) ∧
    u.rd (R.MEAS_TAP_LAST t + 8) = BitVec.ofNat 32 x.2.1 ∧ u.rd (R.MEAS_TAP_LAST t + 12) = 0 ∧
    u.rd (R.MEAS_TAP_LAST t + 16) = BitVec.ofNat 32 x.2.2.1 ∧ (u.rd (R.MEAS_TAP_LAST t + 28)).getLsbD 0 = true ∧
    (u.rd (R.MEAS_TAP_LAST t + 28)).getLsbD 1 = false := by
  have flags : ∃ a b c : Bool, (s.tapWords t at0 (some x) none false).rd (R.MEAS_TAP_LAST t + 28) = BitVec.ofNat 32
      (b2n true + 2 * b2n false + 4 * b2n false + 8 * b2n a + 16 * b2n b + 32 * b2n c) :=
    ⟨_, _, _, State.rd_wrWords (i := 7) _ _ (by simp) s⟩
  obtain ⟨a, b, c, flags⟩ := flags
  refine ⟨State.rd_wrWords (i := 0) _ _ (by simp) s, State.rd_wrWords (i := 1) _ _ (by simp) s, State.rd_wrWords (i := 2) _ _ (by simp) s,
    State.rd_wrWords (i := 3) _ _ (by simp) s, State.rd_wrWords (i := 4) _ _ (by simp) s, ?_, ?_⟩
  · exact flags ▸ (rxValid_flags a b c).1
  · exact flags ▸ (rxValid_flags a b c).2

/-! ### Channels and their records (10 R408, R409) -/

theorem State.mi_modMi_ne {j k : Nat} (h : j ≠ k) (f : MiChan → MiChan) (s : State) : (s.modMi k f).mi j = s.mi j :=
  congrArg (fun o : Option MiChan => o.getD {}) (Tbl.find_put_ne h _ _ s.chans)

theorem State.mi_of_chans {s t : State} (h : t.chans = s.chans) (k : Nat) : t.mi k = s.mi k := by
  unfold State.mi
  rw [h]

/-- A channel's record: the bytes of its time, its channel and its mode. -/
def IsRecord (k mode time : Nat) (b : List Byte) : Prop :=
  b.take 8 = leBytes 8 (ct time) ∧ (b.drop 20).take 2 = leBytes 1 k ++ leBytes 1 mode

theorem isRecord_bytes (k mode time v0 v1 v2 v3 v4 : Nat) : IsRecord k mode time
    (leBytes 8 (ct time) ++ leBytes 8 v0 ++ leBytes 4 v1 ++ leBytes 1 k ++ leBytes 1 mode ++ leBytes 2 v2 ++ leBytes 4 v3 ++ leBytes 4 v4) :=
  ⟨rfl, rfl⟩

/-- A record of a channel that holds fewer than 16,384: it is held, and its channel alone changes. -/
theorem State.miRecord_held {k : Nat} {s : State} (room : (s.mi k).recs.length < 16384) (mode time : Nat) (value : Int) (count flags : Nat) :
    ∃ b, IsRecord k mode time b ∧ let u := s.miRecord k mode time value count flags
      u.mi k = { s.mi k with seq := (s.mi k).seq + 1, lost := false, recs := (s.mi k).recs ++ [b] } ∧
      u.get (F.MEAS_CH_STATUS_HELD k) = (s.mi k).recs.length + 1 ∧ ∀ j, j ≠ k → u.mi j = s.mi j := by
  have full : ¬16384 ≤ (s.mi k).recs.length := by omega
  unfold State.miRecord
  simp only [full, if_false]
  have shown : ∀ (n : Nat) (u : State) (j : Nat), (u.set (F.MEAS_CH_STATUS_HELD k) n).mi j = u.mi j := fun n u =>
    State.mi_of_chans (State.set_chans u (F.MEAS_CH_STATUS_HELD k) n)
  refine ⟨_, isRecord_bytes .., (shown ..).trans (State.mi_modMi_self ..), ?_, fun j hj => (shown ..).trans (State.mi_modMi_ne hj ..)⟩
  refine (State.get_set_self (f := F.MEAS_CH_STATUS_HELD k) (show 0 + 15 ≤ 32 by decide) ..).trans (Nat.mod_eq_of_lt ?_)
  show (s.mi k).recs.length + 1 < 2 ^ 15
  omega

/-! ### Edges of an instrument input (10 R398 to R405) -/

section
variable {k : Nat} {s : State} {d : TdcEdge}

theorem exec_miEdge_none (h : 8 ≤ k ∨ s.heldDomain 1 = true) (rising : Bool) (d : TdcEdge) : exec (.miEdge k rising d) s = .next s := by
  show execMiEdge k rising d s = _
  unfold execMiEdge
  simp only [h, if_true]
  exact if_pos (or_assoc.1 (.inl h))

/-- An edge on a channel that calibration does not use. -/
theorem exec_miEdge_free (hk : k < 8) (runs : s.heldDomain 1 = false) (asym : s.asyms = []) (cal : s.calRuns = []) (rising : Bool) (d : TdcEdge) :
    exec (.miEdge k rising d) s =
      if (s.miMode k).1 = 0 ∨ (!(s.mi k).passes rising) = true then .next s
      else if (s.mi k).pre + 1 < (s.mi k).ratio then .next (s.modMi k (fun c => { c with pre := c.pre + 1 }))
      else .next ((s.modMi k (fun c => { c with pre := 0 })).miEdge k (s.miMode k).1 (s.miMode k).2 d) := by
  have used : ¬8 ≤ k := by omega
  have window : s.asymEdge k d = s := by simp [State.asymEdge, asym]
  have loop : s.miSuspended k = false := by simp [State.miSuspended, cal]
  show execMiEdge k rising d s = _
  unfold execMiEdge
  simp only [used, runs, window, loop, Bool.false_eq_true, false_or, if_false]

theorem State.preGate_timestamp (t : Nat) : s.preGate k 1 t = s := by
  unfold State.preGate
  split <;> rfl

/-- The channel that an edge is recorded on in TIMESTAMP mode. -/
def State.miCounted (k t : Nat) (d : TdcEdge) (s : State) : State :=
  ((s.tdcGoodPair (286 + k) d).modMi k (fun c => { c with idx := (s.mi k).idx + 1 })).modMi k (fun c => { c with conv := some t })

/-- An edge that leaves the prescaler of a TIMESTAMP channel, undivided, with no edge before it: one record with its time less the delay. -/
theorem State.miEdge_timestamp (div : (s.mi k).div = 1) (conv : (s.mi k).conv = none) (good : tdcGood d.c1 d.c2 = true) {x : Nat}
    (at? : ((d.e : Int) - tdcUnits d.c d.c1 d.c2).toNat = x) :
    let t := x - (s.rd (R.MEAS_CH_DELAY k)).toNat
    s.miEdge k 1 k d = (s.miCounted k t d).miRecord k 1 t 0 ((s.mi k).idx + 1) (fCalRange * b2n false) := by
  intro t
  have delay : x - (s.rd (R.MEAS_CH_DELAY k)).toNat = t := rfl
  unfold State.miEdge
  simp only [State.place1_good good, at?, delay]
  cases expires : (s.tdcGoodPair (286 + k) d).expiry k <;>
    simp [expires, State.preGate_timestamp, MiChan.before, conv, div, Nat.mod_one, State.miUse, State.miCounted]

/-- An edge recorded on a TIMESTAMP channel changes its own channel alone. -/
theorem State.mi_miCounted (good : tdcGood d.c1 d.c2 = true) (t : Nat) :
    (s.miCounted k t d).mi k = { s.mi k with idx := (s.mi k).idx + 1, conv := some t } ∧ ∀ j, j ≠ k → (s.miCounted k t d).mi j = s.mi j := by
  have chans : ∀ j, (s.tdcGoodPair (286 + k) d).mi j = s.mi j := State.mi_of_chans (State.tdcGoodPair_chans good ..)
  refine ⟨?_, fun j hj => ?_⟩
  · rw [State.miCounted, State.mi_modMi_self, State.mi_modMi_self, chans]
  · rw [State.miCounted, State.mi_modMi_ne hj, State.mi_modMi_ne hj, chans]

/-- An edge in TIMESTAMP mode that leaves the prescaler: one record with its interpolated time less the channel's delay, and nothing on any
other channel. -/
theorem State.miEdge_record (div : (s.mi k).div = 1) (conv : (s.mi k).conv = none) (room : (s.mi k).recs.length < 16384)
    (good : tdcGood d.c1 d.c2 = true) {x : Nat} (at? : ((d.e : Int) - tdcUnits d.c d.c1 d.c2).toNat = x) :
    ∃ b, IsRecord k 1 (x - (s.rd (R.MEAS_CH_DELAY k)).toNat) b ∧ let u := s.miEdge k 1 k d
      (u.mi k).recs = (s.mi k).recs ++ [b] ∧ (u.mi k).idx = (s.mi k).idx + 1 ∧ (u.mi k).seq = (s.mi k).seq + 1 ∧
      u.get (F.MEAS_CH_STATUS_HELD k) = (s.mi k).recs.length + 1 ∧ ∀ j, j ≠ k → u.mi j = s.mi j := by
  have run := State.miEdge_timestamp div conv good at?
  dsimp only at run
  rw [run]
  generalize x - (s.rd (R.MEAS_CH_DELAY k)).toNat = t
  obtain ⟨mine, others⟩ := State.mi_miCounted (k := k) (s := s) good t
  obtain ⟨b, record, recorded, held, kept⟩ := State.miRecord_held (s := s.miCounted k t d) (by rw [mine]; exact room) 1 t 0 ((s.mi k).idx + 1)
    (fCalRange * b2n false)
  rw [mine] at recorded held
  exact ⟨b, record, by rw [recorded], by rw [recorded], by rw [recorded], held, fun j hj => (kept j hj).trans (others j hj)⟩

end

/-! ### Expiries and gates (10 R403, R405) -/

section
variable {k : Nat} {s : State}

/-- An arming that can expire is of a start that was converted. -/
theorem State.armed_of_expiry {y : Int} (h : s.expiry k = some y) : ∃ i t a x, (s.mi k).armed = some ⟨i, some t, a, x⟩ := by
  unfold State.expiry at h
  dsimp only at h
  split at h
  · next i t a x armed => exact ⟨i, t, a, x, armed⟩
  · cases h

theorem exec_armedIntervalExpiry {y : Int} (hk : k < 8) (h : s.expiry k = some y) : exec (.armedIntervalExpiry k) s =
    if y ≤ ((s.nt + grid : Nat) : Int) then .next (s.disarm k) else .next s := by
  show execArmedIntervalExpiry k s = _
  simp only [execArmedIntervalExpiry, h, hk, true_and]

theorem State.disarm_record {i t : Nat} {a : Int} {x : Bool} (armed : (s.mi k).armed = some ⟨i, some t, a, x⟩)
    (room : (s.mi k).recs.length < 16384) :
    ∃ b, IsRecord k 3 t b ∧ ((s.disarm k).mi k).armed = none ∧ ((s.disarm k).mi k).recs = (s.mi k).recs ++ [b] := by
  obtain ⟨b, record, mine, -, -⟩ := State.miRecord_held room 3 t 0 0 (fTimeout + fCalRange * b2n x)
  have ended : s.disarm k = (s.miRecord k 3 t 0 0 (fTimeout + fCalRange * b2n x)).modMi k (fun c => { c with armed := none }) := by
    unfold State.disarm
    rw [armed]
  exact ⟨b, record, by rw [ended, State.mi_modMi_self], by rw [ended, State.mi_modMi_self, mine]⟩

theorem exec_gateEnd {n : Nat} (hk : k < 8) (h : (s.mi k).gate0 = some n) : exec (.gateEnd k) s =
    if n + (s.mi k).gateLen ≤ s.nt + grid then
      .next ((s.closeGate k (n + (s.mi k).gateLen) false).modMi k (fun c => { c with gate0 := some (n + (s.mi k).gateLen) }))
    else .next s := by
  show execGateEnd k s = _
  simp only [execGateEnd, h, hk, true_and]

/-- A gate that ends leaves one record of its end, whole or not. -/
theorem State.closeGate_record (room : (s.mi k).recs.length < 16384) (e : Nat) (short : Bool) :
    ∃ b mode, IsRecord k mode e b ∧ ((s.closeGate k e short).mi k).recs = (s.mi k).recs ++ [b] := by
  have recorded : ∀ (mode : Nat) (value : Int) (count flags : Nat) (f : MiChan → MiChan), (∀ c, (f c).recs = c.recs) →
      ∃ b mode', IsRecord k mode' e b ∧ (((s.miRecord k mode e value count flags).modMi k f).mi k).recs = (s.mi k).recs ++ [b] :=
    fun mode value count flags f hf => by
      obtain ⟨b, record, mine, -, -⟩ := State.miRecord_held room mode e value count flags
      exact ⟨b, mode, record, by rw [State.mi_modMi_self, hf, mine]⟩
  unfold State.closeGate
  dsimp only
  split
  · exact recorded 5 _ _ _ _ (fun _ => rfl)
  · split
    · exact recorded 4 _ _ _ _ (fun _ => rfl)
    · exact recorded 4 _ _ _ _ (fun _ => rfl)

end

/-- Settles O48: the rows by the state that they find, each record by `State.miRecord_held`. -/
theorem tapsAndInstrumentInputsRecord : Obligations.TapsAndInstrumentInputsRecord := by
  intro s t k p n x y rising rx tx h d e at0 c
  refine ⟨fun rests => exec_tapSample_rests rests rx tx, fun ht runs due rxOff txOff => ?invalid, fun ht runs due rxOn good at? hp => ?received,
    fun none => exec_miEdge_none none rising d, fun hk runs asym cal => ?edge, fun none => ?unarmed, fun expires hk => ?expiry,
    fun none => ?ungated, fun gate hk => ?gate⟩
  case invalid =>
    rw [exec_tapSample_lane ht runs due, State.laneSampled_invalid rxOff txOff]
  case received =>
    have run := (exec_tapSample_lane ht runs due (some h) none).trans (congrArg _ (State.laneSampled_rx rxOn good at? hp))
    exact ⟨_, run, State.rd_tapWords_rx ..⟩
  case edge =>
    have run := exec_miEdge_free hk runs asym cal rising d
    refine ⟨fun off => ?_, fun on passes below => ?_, fun mode passes counts div conv room good at? => ?_⟩
    · exact run.trans (if_pos (off.imp_right (fun e => by rw [e]; rfl)))
    · exact run.trans ((if_neg (not_or.2 ⟨on, by simp [show (s.mi k).passes rising = true from passes]⟩)).trans (if_pos below))
    · have unscaled : (s.modMi k (fun c => { c with pre := 0 })).mi k = { s.mi k with pre := 0 } := State.mi_modMi_self ..
      have through : exec (.miEdge k rising d) s = .next ((s.modMi k (fun c => { c with pre := 0 })).miEdge k 1 k d) := by
        rw [run, mode, if_neg (not_or.2 ⟨Nat.one_ne_zero, by simp [show (s.mi k).passes rising = true from passes]⟩)]
        exact if_neg (Nat.not_lt.2 counts)
      obtain ⟨b, ⟨time, made⟩, recs, idx, seq, held, others⟩ := State.miEdge_record (s := s.modMi k (fun c => { c with pre := 0 }))
        (by rw [unscaled]; exact div) (by rw [unscaled]; exact conv) (by rw [unscaled]; exact room) good at?
      rw [unscaled] at recs idx seq held
      exact ⟨_, b, through, recs, time, made, idx, seq, held, fun j hj => (others j hj).trans (State.mi_modMi_ne hj ..)⟩
  case unarmed =>
    show execArmedIntervalExpiry k s = _
    simp only [execArmedIntervalExpiry, none]
  case expiry =>
    rw [exec_armedIntervalExpiry hk expires]
    refine ⟨fun early => if_neg (Int.not_le.2 early), fun due armed room => ?_⟩
    obtain ⟨i, t, a, x, start⟩ := State.armed_of_expiry expires
    obtain ⟨b, ⟨-, made⟩, disarmed, recs⟩ := State.disarm_record start room
    exact ⟨_, b, if_pos due, disarmed, recs, made⟩
  case ungated =>
    show execGateEnd k s = _
    simp only [execGateEnd, show (s.mi k).gate0 = Option.none from none]
  case gate =>
    rw [exec_gateEnd hk gate]
    refine ⟨fun early => if_neg (Nat.not_le.2 early), fun due room => ?_⟩
    obtain ⟨b, mode, ⟨time, -⟩, recs⟩ := State.closeGate_record room (n + (s.mi k).gateLen) false
    exact ⟨_, b, if_pos due, by rw [State.mi_modMi_self], by rw [State.mi_modMi_self]; exact recs, time⟩

end Sys2Proof.Machine
end

section
/-! Egress: placing, choosing, launches and the end of a transmission (06 R223, R252, R254; 08 R335, R340; 09 R351 to R355). -/

namespace Sys2Proof.Machine

open Sys2Proof

/-! ### The frame table -/

theorem State.frame_modFrame_self {id : Nat} {x : Frame} {s : State} (h : s.frame id = some x) (f : Frame → Frame) :
    (s.modFrame id f).frame id = some (f x) := by
  unfold State.modFrame
  rw [h]
  exact Tbl.find_ins_self ..

theorem State.frame_place_self {id : Nat} {x : Frame} {s : State} (h : s.frame id = some x) (st : Stage) :
    (s.place id st).frame id = some { x with stage := st, order := s.nextId } :=
  State.frame_modFrame_self h _

/-- A choice from a list that no element enters. -/
theorem foldl_unchosen {α β : Type} {l : List α} {f : β → α → β} (h : ∀ x ∈ l, ∀ b, f b x = b) (b : β) : l.foldl f b = b := by
  induction l generalizing b with
  | nil => rfl
  | cons x l ih => rw [List.foldl_cons, h x (List.mem_cons_self ..), ih (fun y hy => h y (List.mem_cons_of_mem _ hy))]

theorem State.firstBy_none {p : Frame → Bool} {s : State} (h : ∀ y ∈ s.frames, p y.2 = false) : s.firstBy p = none :=
  foldl_unchosen (fun y hy _ => if_neg (by simp [h y hy])) none

theorem State.nextLaunch_none {p : Nat} {s : State} (h : ∀ y ∈ s.frames, y.2.stage ≠ .launch) : s.nextLaunch p = none :=
  foldl_unchosen (fun y hy _ => if_neg (by simp [h y hy])) none

/-! ### EGRESS_ENQUEUE (08 R320, R335; 09 R351) -/

theorem State.forEach_reedRelease {s : State} (h : s.shuttles = []) (d : Nat) (l : List Nat) :
    s.forEach l (fun n s => s.reedRelease n d s.shuttles.length) = s := by
  induction l with
  | nil => rfl
  | cons n l ih =>
    have rests : s.reedRelease n d s.shuttles.length = s := by rw [h]; rfl
    rw [State.forEach_cons, rests, ih]

section
variable {s : State} {d id p q : Nat} {f : Frame}

/-- Output node `d` where no shuttle and no admission waits: its next joined frame, where it has one. -/
theorem exec_egressEnqueue_joined (shuttles : s.shuttles = []) (waits : ∀ y ∈ s.frames, y.2.stage ≠ .admission) :
    (s.nextJoined d = none → exec (.egressEnqueue d) s = .next s) ∧
    (s.nextJoined d = some (id, f) → exec (.egressEnqueue d) s = .next (s.placeFrame id f).updHeld) := by
  have quiet : s.forEach (List.range 36) (fun n s => s.reedRelease n d s.shuttles.length) = s := State.forEach_reedRelease shuttles d _
  refine ⟨fun rests => ?_, fun joined => ?_⟩
  all_goals
    show execEgressEnqueue d s = _
    unfold execEgressEnqueue
    rw [quiet]
    dsimp only
    rw [State.firstBy_none (fun y hy => by simp [waits y hy])]
  · rw [rests]
  · rw [joined]

theorem exec_egressEnqueue_admits (shuttles : s.shuttles = []) (only : s.frames = [(id, f)]) (stage : f.stage = .admission)
    (dest : f.dest = .mask d [p]) (held : s.classHeld p f.tc = false) (room : s.poolRoom d = true) :
    exec (.egressEnqueue d) s = .next (((s.place id .egress).updEgress p).pruneShed p) := by
  show execEgressEnqueue d s = _
  unfold execEgressEnqueue
  rw [State.forEach_reedRelease shuttles]
  dsimp only
  simp [State.firstBy, only, stage, dest, Dest.node, Dest.egressPort, held, room]

theorem State.recover_of_no_stream (h : f.stream = none) (id p : Nat) (s : State) : s.recover id p f = (0, s) := by
  unfold State.recover
  rw [h]

theorem State.placeAt_down (h : s.portUp p = false) (id : Nat) (f : Frame) (copy : Bool) : s.placeAt id p f copy = s.endFrame id 0x31 := by
  simp [State.placeAt, h]

theorem State.placeAt_up (up : s.portUp p = true) (stream : f.stream = none) (id : Nat) : s.placeAt id p f false =
    if f.launch.isSome then s.place id .launch else ((s.place id .egress).updEgress p).pruneShed p := by
  simp [State.placeAt, up, State.recover_of_no_stream stream]

/-- A recirculated frame of no stream: its next pass begins at a heddle, what the last one decided forgotten. -/
theorem State.frame_nextPass (stream : f.stream = none) (found : s.frame id = some f) : ∃ g, (s.nextPass id f).frame id = some g ∧
    g.pass = f.pass + 1 ∧ g.stage = .head ∧ g.dest = .none ∧ g.data = f.data ∧ g.after = {} ∧ g.sent = 0 := by
  unfold State.nextPass
  rw [State.recover_of_no_stream stream]
  exact ⟨_, State.frame_place_self (State.frame_modFrame_self found _) .head, rfl, rfl, rfl, rfl, rfl, rfl⟩

theorem State.placeFrame_port (h : f.dest = .port p) (id : Nat) (s : State) : s.placeFrame id f = s.placeAt id p f false := by
  unfold State.placeFrame
  rw [h]

theorem State.placeFrame_recirc (h : f.dest = .recirc) (id : Nat) (s : State) : s.placeFrame id f = s.nextPass id f := by
  unfold State.placeFrame
  rw [h]

theorem State.placeFrame_ring (h : f.dest = .ring q) (id : Nat) (s : State) : s.placeFrame id f =
    if s.cls q ≠ clsFrameRx then (s.ringNotRx q).endFrame id 0x50
    else ((s.place id .ring).modRing q (fun r => { r with rxQueue := r.rxQueue ++ [id] })).startOnce (.rxWait q) := by
  unfold State.placeFrame
  rw [h]

end

/-! ### EGRESS_CHOOSE and LAUNCH_START (06 R252, R254; 09 R352) -/

section
variable {s : State} {p tm n id : Nat} {f : Frame}

theorem exec_macBusy (h : s.macFree p = false) : exec (.egressChoose p tm n) s = .next s ∧ exec (.launchStart p tm n) s = .next s := by
  constructor
  · show execEgressChoose p tm n s = _
    simp [execEgressChoose, h]
  · show execLaunchStart p tm n s = _
    simp [execLaunchStart, h]

theorem exec_egressChoose_ctl (free : s.macFree p = true) {x : Ctl} (h : s.nextCtl p (s.txTimeOf p tm n) = some x) :
    exec (.egressChoose p tm n) s =
      .next (({ s with ctlQ := s.ctlQ.erase x, ctlSent := s.ctlSent ++ [x], sent := Tbl.ins p (s.ctlBytes x) s.sent } : State).traffic p
        (if x.opcode = 1 then 6 else 7) 1) := by
  show execEgressChoose p tm n s = _
  simp [execEgressChoose, free, h]

theorem State.nextCtl_none (h : ∀ y ∈ s.ctlQ, y.port ≠ p) (t : Nat) : s.nextCtl p t = none := by
  unfold State.nextCtl
  split
  · exact List.find?_eq_none.2 (fun y hy => by simp [h y hy])
  · rfl

theorem State.launchNow_none (h : s.nextLaunch p = none) (t : Nat) : s.launchNow p t = none := by
  unfold State.launchNow
  rw [h]

/-- A free MAC without a control frame or a launch: what the class scheduler chooses. -/
theorem exec_egressChoose_class (free : s.macFree p = true) (ctl : ∀ y ∈ s.ctlQ, y.port ≠ p)
    (launch : ∀ y ∈ s.frames, y.2.stage ≠ .launch) :
    (s.schedule p (s.txTimeOf p tm n - s.byteTime p 8) = none → exec (.egressChoose p tm n) s = .next s) ∧
    ∀ c dr, s.schedule p (s.txTimeOf p tm n - s.byteTime p 8) = some (c, dr) → s.classHead p c = some (id, f) →
      exec (.egressChoose p tm n) s = .next ((State.startTx id p (s.txTimeOf p tm n) { s with drr := Tbl.ins p dr s.drr }).pruneShed p) := by
  have quiet := State.launchNow_none (State.nextLaunch_none (p := p) launch) (s.txTimeOf p tm n)
  have unpaused := State.nextCtl_none ctl (s.txTimeOf p tm n)
  refine ⟨fun rests => ?_, fun c dr chosen head => ?_⟩
  · show execEgressChoose p tm n s = _
    simp [execEgressChoose, free, unpaused, quiet, rests]
  · show execEgressChoose p tm n s = _
    simp [execEgressChoose, free, unpaused, quiet, chosen, head]

theorem exec_launchStart_of_launchNow (free : s.macFree p = true) :
    exec (.launchStart p tm n) s = .next ((s.launchNow p (s.txTimeOf p tm n)).getD s) := by
  show execLaunchStart p tm n s = _
  unfold execLaunchStart
  cases s.launchNow p (s.txTimeOf p tm n) <;> simp [free]

/-- The next launch frame waits: before its time, while its class is held, or at a word that is not its own. -/
theorem State.launchNow_waits {t : Nat} (h : s.nextLaunch p = some (id, f))
    (waits : (t : Int) < f.launch.getD 0 ∨ s.classHeld p f.tc = true ∨
      (s.wordPast p t (f.launch.getD 0) = true ∧ (s.nt : Int) ≤ f.launch.getD 0)) : s.launchNow p t = none := by
  unfold State.launchNow
  rw [h]
  exact if_pos waits

/-- The next launch frame goes: on time, discarded as late, or late and marked so. -/
theorem State.launchNow_goes {t : Nat} (h : s.nextLaunch p = some (id, f)) (come : f.launch.getD 0 ≤ (t : Int))
    (held : s.classHeld p f.tc = false) (word : s.wordPast p t (f.launch.getD 0) = false ∨ f.launch.getD 0 < (s.nt : Int)) :
    s.launchNow p t = some (
      if f.late || s.wordPast p t (f.launch.getD 0 + ((s.get (F.MAC_LAUNCH_LATE_NS p) * ns : Nat) : Int)) then
        if s.on (F.MAC_CFG_LATE_DISCARD p) then s.shedMissed id p
        else (((s.raise .mac 1 p).traffic p 15 1).modFrame id (fun f => { f with late := true })).startTx id p t
      else s.startTx id p t) := by
  have go : ¬((t : Int) < f.launch.getD 0 ∨ s.classHeld p f.tc = true ∨
      (s.wordPast p t (f.launch.getD 0) = true ∧ (s.nt : Int) ≤ f.launch.getD 0)) := by
    rintro (early | paused | ⟨later, due⟩)
    · omega
    · simp [held] at paused
    · rcases word with word | word
      · simp [word] at later
      · omega
  unfold State.launchNow
  rw [h]
  dsimp only
  rw [if_neg go]
  split
  · split <;> rfl
  · rfl

end

/-! ### The scheduler's choice (09 R354, R355) -/

theorem drrTurn_hit {d : Drr} {c quantum : Nat} {empty eligible last : Bool} {cost : Nat}
    (h : (drrTurn d c quantum empty eligible last cost).2 = true) : eligible = true := by
  unfold drrTurn at h
  cases eligible
  · cases empty <;> simp at h
  · rfl

section
variable {s : State} {p t : Nat}

/-- The turns choose a member of their level that is eligible. -/
theorem State.drrLoop_some {ms : List Nat} (members : ms ≠ []) {k i : Nat} {d e : Drr} {c : Nat} (h : s.drrLoop p t ms k i d = some (c, e)) :
    c ∈ ms ∧ s.eligible p t c = true := by
  induction k generalizing i d with
  | zero => cases h
  | succ k ih =>
    have turn : i % ms.length < ms.length := Nat.mod_lt _ (List.length_pos_iff.2 members)
    unfold State.drrLoop at h
    dsimp only at h
    rcases ite_eq_iff.1 h with ⟨hit, chosen⟩ | ⟨-, later⟩
    · have member : ms.getD (i % ms.length) 0 = c := congrArg Prod.fst (Option.some.inj chosen)
      rw [← member]
      exact ⟨by rw [List.getD_eq_getElem _ _ turn]; exact List.getElem_mem turn, drrTurn_hit hit⟩
    · exact ih later

/-- The greatest of some values, found in one pass. -/
theorem foldl_max {g : Nat → Nat} (l : List Nat) (m : Nat) : let v := l.foldl (fun m c => max m (g c)) m
    m ≤ v ∧ (∀ c ∈ l, g c ≤ v) ∧ (v = m ∨ ∃ c ∈ l, g c = v) := by
  induction l generalizing m with
  | nil => simp
  | cons c l ih =>
    obtain ⟨start, all, found⟩ := ih (max m (g c))
    simp only [List.foldl_cons, List.mem_cons, forall_eq_or_imp, exists_eq_or_imp]
    refine ⟨by omega, ⟨by omega, all⟩, ?_⟩
    rcases found with found | found
    · rcases max_choice m (g c) with e | e
      · exact .inl (found.trans e)
      · exact .inr (.inl (e.symm.trans found.symm))
    · exact .inr (.inr found)

/-- The choice is of an eligible class, of a level that no other eligible class exceeds. -/
theorem State.schedule_some {c : Nat} {dr : Drr} (h : s.schedule p t = some (c, dr)) :
    c < 8 ∧ s.eligible p t c = true ∧ ∀ k < 8, s.eligible p t k = true → s.level p k ≤ s.level p c := by
  unfold State.schedule at h
  dsimp only at h
  split at h
  · cases h
  next c0 cs eligible =>
  obtain ⟨-, top, reached⟩ := foldl_max (g := s.level p) ((List.range 8).filter (s.eligible p t)) (s.level p c0)
  generalize ((List.range 8).filter (s.eligible p t)).foldl (fun m c => max m (s.level p c)) (s.level p c0) = v at h top reached
  have first : c0 ∈ (List.range 8).filter (s.eligible p t) := by rw [eligible]; exact List.mem_cons_self ..
  obtain ⟨b, best, level⟩ : ∃ b ∈ (List.range 8).filter (s.eligible p t), s.level p b = v :=
    reached.elim (fun e => ⟨c0, first, e.symm⟩) id
  obtain ⟨b8, beligible⟩ := List.mem_filter.1 best
  have member : b ∈ (List.range 8).filter (fun c => s.level p c == v) := List.mem_filter.2 ⟨b8, beq_iff_eq.2 level⟩
  have chosen : c ∈ (List.range 8).filter (fun c => s.level p c == v) ∧ s.eligible p t c = true := by
    split at h
    · next one =>
      rw [one, List.mem_singleton] at member
      obtain ⟨rfl, -⟩ := Prod.mk.inj (Option.some.inj h)
      exact ⟨by rw [one]; exact List.mem_cons_self .., member ▸ beligible⟩
    · split at h
      · next turned =>
        obtain ⟨rfl, -⟩ := Prod.mk.inj (Option.some.inj h)
        exact State.drrLoop_some (List.ne_nil_of_mem member) turned
      · cases h
  obtain ⟨inLevel, celigible⟩ := chosen
  obtain ⟨c8, clevel⟩ := List.mem_filter.1 inLevel
  refine ⟨List.mem_range.1 c8, celigible, fun k hk keligible => ?_⟩
  rw [beq_iff_eq.1 clevel]
  exact top k (List.mem_filter.2 ⟨List.mem_range.2 hk, keligible⟩)

end

/-! ### The end of a transmission (06 R223; 08 R340; 17 R595) -/

/-- The frames, their fates and what the ports have sent. -/
def State.txSide (s : State) : Tbl Frame × List (Nat × Nat) × Tbl (List Byte) := (s.frames, s.fateQ, s.sent)

theorem Told.txSide {s t : State} (h : Told s t) : t.txSide = s.txSide := by
  have e := congrArg State.txSide h.2
  exact e

theorem State.txSide_updEgress (p : Nat) (s : State) : (s.updEgress p).txSide = s.txSide := by
  unfold State.updEgress
  split <;> rfl

theorem State.txSide_completeTx (cmd : Nat × Nat × Nat) (fate : Option Nat) (time : Nat) (s : State) :
    (s.completeTx cmd fate time).txSide = s.txSide := by
  unfold State.completeTx
  split
  · rfl
  · exact (State.completeEra_told ..).txSide

theorem State.txSide_sentUnits (p c bytes : Nat) (s : State) : (s.sentUnits p c bytes).txSide = s.txSide := by
  unfold State.sentUnits
  split <;> rfl

theorem State.txSide_traffic (p i n : Nat) (s : State) : (s.traffic p i n).txSide = s.txSide := (State.count_told ..).txSide

theorem State.txSide_raise (blk : Blk) (b src : Nat) (s : State) : (s.raise blk b src).txSide = s.txSide := (State.raise_told ..).txSide

theorem State.txSide_tcStep (p : Nat) (f : Frame) (l : List Byte) (one : Bool) (s : State) : (s.tcStep p f l one).2.txSide = s.txSide := by
  unfold State.tcStep
  split
  · rfl
  · split
    · rfl
    · dsimp only
      split
      · rfl
      · split
        · split <;> rfl
        · rfl

/-- A copy bound for one port that asks for no timestamp ends: it is gone, with one fate. -/
theorem State.txSide_endFrame {id p : Nat} {f : Frame} {s : State} (found : s.frame id = some f) (dest : f.dest = .port p) (ts : f.tsId = none)
    (code : Nat) : (s.endFrame id code).txSide = (Tbl.del id s.frames, s.fateQ ++ [(f.port, code)], s.sent) := by
  have popped : ∀ s : State, (match f.stage, f.dest with
      | .ring, .ring q => s.rxPop q id
      | _, _ => s).txSide = s.txSide := fun s => by
    rw [dest]
    split
    · next away => cases away
    · rfl
  have fated : ∀ s : State, (s.forEach (List.range f.copies) (fun _ => State.fate f.port code)).txSide =
      (s.txSide.1, s.txSide.2.1 ++ [(f.port, code)], s.txSide.2.2) := fun s => by
    unfold Frame.copies
    rw [dest]
    rfl
  have unsent : ∀ s : State, s.bobbinUnsent f code = s := fun s => by
    unfold State.bobbinUnsent
    rw [ts]
  have completed : ∀ s : State, (match f.cmd with
      | none => s
      | some c => s.completeTx c (some code) (if f.stage = Stage.unread then s.nt else f.readAt)).txSide = s.txSide := fun s => by
    split
    · rfl
    · exact State.txSide_completeTx ..
  have shown : ∀ s : State, (match f.dest.egressPort with
      | some p => s.updEgress p
      | none => s).txSide = s.txSide := fun s => by
    split
    · exact State.txSide_updEgress ..
    · rfl
  unfold State.endFrame
  rw [found]
  refine (shown _).trans ((completed _).trans ?_)
  rw [unsent]
  exact (fated _).trans (congrArg (fun v => (v.1, v.2.1 ++ [(f.port, code)], v.2.2)) (popped (s.dropFrame id)))

/-- The bytes of a copy of the host's as its port sends them without one-step rewriting (06 R244; 13 R513). -/
theorem oneStep_off (sTpid p0 inPort tin t : Nat) (l : List Byte) : oneStep sTpid 0 p0 inPort tin t l = (l, false) := by
  unfold oneStep
  split
  · rfl
  · exact if_pos (.inl rfl)

/-- What `State.endTx` sends: the edited bytes, as one-step rewriting and a transparent clock leave them, with their FCS. -/
def State.endTxBytes (p : Nat) (f : Frame) (cause : Option Nat) (s : State) : List Byte :=
  let l := oneStep (s.sTpid p) (s.get (F.MAC_CFG_ONE_STEP p)) p f.port f.tin f.txAt (s.txEdit p f)
  let m := (s.tcStep p f l.1 l.2).1
  m ++ leBytes 4 (if cause.isSome then 2 ^ 32 - 1 - crc32 m else crc32 m)

theorem State.endTxBytes_host {p : Nat} {f : Frame} {s : State} (host : f.port = 272) (twoStep : s.get (F.MAC_CFG_ONE_STEP p) = 0)
    (cause : Option Nat) : s.endTxBytes p f cause =
      s.txEdit p f ++ leBytes 4 (if cause.isSome then 2 ^ 32 - 1 - crc32 (s.txEdit p f) else crc32 (s.txEdit p f)) := by
  have plain : ∀ l one, s.tcStep p f l one = (l, s) := fun l one => if_pos (.inl host)
  unfold State.endTxBytes
  dsimp only
  rw [twoStep, oneStep_off, plain]

/-- The last step of a transmission: the copy, its timestamp request met, ends. -/
theorem State.txSide_endSent {id p : Nat} {f : Frame} {s : State} (found : s.frame id = some f) (dest : f.dest = .port p) (code : Nat) :
    ∃ t, ((s.modFrame id (fun f => { f with tsId := none })).endFrame id code).txSide =
      (Tbl.del id t, s.fateQ ++ [(f.port, code)], s.sent) := by
  have ended := State.txSide_endFrame (State.frame_modFrame_self found (fun f => { f with tsId := none })) dest rfl code
  have rest : (s.modFrame id (fun f => { f with tsId := none })).txSide.2 = s.txSide.2 := by
    unfold State.modFrame
    split <;> rfl
  obtain ⟨fates, sent⟩ := Prod.mk.inj rest
  exact ⟨_, ended.trans (by rw [fates, sent])⟩

theorem State.txSide_stomped (p : Nat) (cause : Option Nat) (s : State) : (match cause with
    | some c => (s.traffic p (stompCtr c) 1).raise .mac 2 p
    | none => s).txSide = s.txSide := by
  split
  · exact (State.txSide_raise ..).trans (State.txSide_traffic ..)
  · rfl

theorem State.txSide_stamped (p : Nat) (f : Frame) (one : Bool) (s : State) : (match f.tsId with
    | some t => s.bobbinAdd (if f.port = 274 then 274 else p)
        { tsId := t, time := ct f.txAt, oneStep := one, late := f.late, degraded := f.txDeg }
    | none => s).txSide = s.txSide := by
  split <;> rfl

/-- A copy bound for one port ends its transmission there: it is gone, with one fate, and the port has sent its bytes. -/
theorem State.txSide_endTx {id p : Nat} {f : Frame} {s : State} (found : s.frame id = some f) (dest : f.dest = .port p) (cause : Option Nat) :
    ∃ t, (s.endTx id p f cause).txSide =
      (Tbl.del id t, s.fateQ ++ [(f.port, if cause.isSome then 0x01 else 0x00)], Tbl.ins p (s.endTxBytes p f cause) s.sent) := by
  have ended : ∀ u : State, u.txSide = (s.frames, s.fateQ, Tbl.ins p (s.endTxBytes p f cause) s.sent) →
      ∃ t, ((u.modFrame id (fun f => { f with tsId := none })).endFrame id (if cause.isSome then 0x01 else 0x00)).txSide =
        (Tbl.del id t, s.fateQ ++ [(f.port, if cause.isSome then 0x01 else 0x00)], Tbl.ins p (s.endTxBytes p f cause) s.sent) := by
    intro u side
    obtain ⟨frames, rest⟩ := Prod.mk.inj side
    obtain ⟨fates, sent⟩ := Prod.mk.inj rest
    rw [← fates, ← sent]
    exact State.txSide_endSent ((congrArg (Tbl.find id) frames).trans found) dest _
  refine ended _ ((State.txSide_stamped ..).trans ((State.txSide_stomped ..).trans ((State.txSide_sentUnits ..).trans
    ((State.txSide_traffic ..).trans ((State.txSide_traffic ..).trans ?_)))))
  exact congrArg (fun v => (v.1, v.2.1, Tbl.ins p (s.endTxBytes p f cause) v.2.2)) (State.txSide_tcStep ..)

section
variable {s : State} {p id : Nat} {f : Frame}

theorem exec_txIdle (h : s.sending p = none) : exec (.frameTxEnd p) s = .next s ∧ exec (.cutUnderrun p) s = .next s := by
  constructor
  · show execFrameTxEnd p s = _
    simp [execFrameTxEnd, h]
  · show execCutUnderrun p s = _
    simp [execCutUnderrun, h]

theorem exec_frameTxEnd_ready (h : s.sending p = some (id, f)) (whole : f.whole = true) (ready : f.len ≤ f.got ∨ f.bad ≠ none) :
    exec (.frameTxEnd p) s = .next (s.endTx id p f f.bad) := by
  show execFrameTxEnd p s = _
  simp [execFrameTxEnd, h, whole, Option.isSome_iff_ne_none, ready]

theorem exec_cutUnderrun_cut (h : s.sending p = some (id, f)) (cut : f.cut = true) (lacks : f.whole = false ∨ f.got < f.len) :
    exec (.cutUnderrun p) s =
      .next ((s.loomEvent 10 (nodeOf p) 0).endTx id p { f with data := f.data.take f.got, rtagIns := false } (some 4)) := by
  have starved : ¬(f.whole = true ∧ f.len ≤ f.got) := by
    rintro ⟨whole, arrived⟩
    rcases lacks with part | short
    · exact Bool.noConfusion (whole.symm.trans part)
    · omega
  show execCutUnderrun p s = _
  simp [execCutUnderrun, h, cut, starved]

theorem exec_cutUnderrun_stored (h : s.sending p = some (id, f)) (stored : f.cut = false) : exec (.cutUnderrun p) s = .next s := by
  show execCutUnderrun p s = _
  simp [execCutUnderrun, h, stored]

/-- The frame that a port has sent: its fate, and the bytes of one of the host's without one-step rewriting. -/
theorem exec_frameTxEnd_sent (h : s.sending p = some (id, f)) (found : s.frame id = some f) (dest : f.dest = .port p)
    (whole : f.whole = true) (ready : f.len ≤ f.got ∨ f.bad ≠ none) :
    ∃ u, exec (.frameTxEnd p) s = .next u ∧ u.frame id = none ∧ u.fateQ = s.fateQ ++ [(f.port, if f.bad = none then 0x00 else 0x01)] ∧
      (f.port = 272 → s.get (F.MAC_CFG_ONE_STEP p) = 0 → Tbl.find p u.sent = some (s.txEdit p f ++
        leBytes 4 (if f.bad = none then crc32 (s.txEdit p f) else 2 ^ 32 - 1 - crc32 (s.txEdit p f)))) := by
  have turn : ∀ {α : Type} (a b : α), (if f.bad.isSome then a else b) = if f.bad = none then b else a := fun a b => by
    cases f.bad <;> rfl
  obtain ⟨t, side⟩ := State.txSide_endTx found dest f.bad
  obtain ⟨frames, rest⟩ := Prod.mk.inj side
  obtain ⟨fates, sent⟩ := Prod.mk.inj rest
  refine ⟨_, exec_frameTxEnd_ready h whole ready, ?_, fates.trans (by rw [turn]), fun host twoStep => ?_⟩
  · exact (congrArg (Tbl.find id) frames).trans (Tbl.find_del_self ..)
  · rw [sent, Tbl.find_ins_self, State.endTxBytes_host host twoStep, turn]

end

/-- Settles O39: each clause by what its operation does; the choice by the passes over the eligible classes and their levels, the
end of a transmission by what it keeps of frames, fates and sent bytes. -/
theorem egressPlacesChoosesAndSends : Obligations.EgressPlacesChoosesAndSends := by
  unfold Obligations.EgressPlacesChoosesAndSends
  intro s d p tm n id q c f x dr
  refine ⟨fun shuttles waits => ⟨(exec_egressEnqueue_joined (id := id) (f := f) shuttles waits).1, fun joined dest => ?_, fun joined dest => ?_,
    fun joined dest stream found => ?_⟩, exec_egressEnqueue_admits, exec_macBusy, fun free ctl => exec_egressChoose_ctl free ctl,
    fun free ctl launch => ?_,
    State.schedule_some, fun free rests => ?_, fun free head => ?_, exec_txIdle, exec_frameTxEnd_sent, exec_cutUnderrun_cut,
    exec_cutUnderrun_stored⟩
  · have run := (exec_egressEnqueue_joined (id := id) shuttles waits).2 joined
    rw [State.placeFrame_port dest] at run
    refine ⟨fun down => ?_, fun up stream launch => ?_, fun up stream launch => ?_⟩
    · rw [run, State.placeAt_down down]
    · rw [run, State.placeAt_up up stream, launch]
      rfl
    · rw [run, State.placeAt_up up stream, if_pos (Option.isSome_iff_ne_none.2 launch)]
  · have run := (exec_egressEnqueue_joined (id := id) shuttles waits).2 joined
    rw [State.placeFrame_ring dest] at run
    exact ⟨fun other => by rw [run, if_pos other], fun rx => by rw [run, if_neg (not_not_intro rx)]⟩
  · have run := (exec_egressEnqueue_joined (id := id) shuttles waits).2 joined
    rw [State.placeFrame_recirc dest] at run
    exact ⟨_, run, State.frame_nextPass stream found⟩
  · obtain ⟨rests, goes⟩ := exec_egressChoose_class (id := id) (f := f) (tm := tm) (n := n) free ctl launch
    exact ⟨rests, goes c dr⟩
  · rw [exec_launchStart_of_launchNow free, State.launchNow_none rests]
    rfl
  · rw [exec_launchStart_of_launchNow free]
    refine ⟨fun waits => ?_, fun come held word => ?_⟩
    · rw [State.launchNow_waits head waits]
      rfl
    · rw [State.launchNow_goes head come held word, Option.getD_some]
      refine ⟨fun onTime => ?_, fun late discard => ?_, fun late keep => ?_⟩
      · rw [if_neg (ne_true_of_eq_false onTime)]
      · rw [if_pos late, if_pos discard]
      · rw [if_pos late, if_neg (ne_true_of_eq_false keep)]

end Sys2Proof.Machine
end

section
/-! Lanes: their state word, their timers and their link counter through a change of state (05 R175 to R194, R204 to R207). -/

namespace Sys2Proof.Machine

open Sys2Proof

/-! ### A lane's count of link downs (05 R180; 17 R600) -/

theorem State.ctrOf_count_self (set r i n : Nat) (s : State) : (s.count set r i n).ctrOf set r i = (s.ctrOf set r i + n) % 2 ^ 64 := by
  rw [State.ctrOf, State.count_ctr]
  exact Tbl.getD_put_self ..

theorem State.ctrOf_count_ne {set r i a b c : Nat} (h : ctrKey a b c ≠ ctrKey set r i) (n : Nat) (s : State) :
    (s.count set r i n).ctrOf a b c = s.ctrOf a b c := by
  rw [State.ctrOf, State.count_ctr, Tbl.getD, Tbl.find_put_ne h]
  rfl

theorem State.ctrOf_attn (set r i m : Nat) (s : State) : (s.attn m).ctrOf set r i = s.ctrOf set r i := by
  unfold State.attn
  split <;> rfl

theorem State.ctrOf_sendMsix (set r i v : Nat) (s : State) : (s.sendMsix v).ctrOf set r i = s.ctrOf set r i := by
  unfold State.sendMsix
  split <;> rfl

theorem State.ctrOf_putCq (set r i q : Nat) (c : Completion) (s : State) : (s.putCq q c).ctrOf set r i = s.ctrOf set r i := by
  unfold State.putCq
  dsimp only
  split
  · exact State.ctrOf_sendMsix ..
  · rfl

section
variable {n : Nat} (hn : n < 272)
include hn

/-- A host ring's counters are not a lane's. -/
theorem State.linkDowns_countRing (r : Nat) {i : Nat} (hi : i < 256) (m : Nat) (s : State) :
    (s.count 5 (16 + r) i m).ctrOf 2 n 7 = s.ctrOf 2 n 7 :=
  State.ctrOf_count_ne (by unfold ctrKey; omega) m s

theorem State.linkDowns_complete (r : Nat) (c : Completion) (s : State) : (s.complete r c).ctrOf 2 n 7 = s.ctrOf 2 n 7 := by
  unfold State.complete
  split
  · rfl
  split
  · exact State.linkDowns_countRing hn r (by decide) 1 s
  split
  · exact State.ctrOf_putCq ..
  · rfl

theorem State.linkDowns_merge (r : Nat) (e : EventRec) (s : State) : (s.merge r e).ctrOf 2 n 7 = s.ctrOf 2 n 7 := by
  have merged := State.linkDowns_countRing hn r (i := 1) (by decide) 1 s
  unfold State.merge
  dsimp only
  split
  · exact merged
  split
  · exact merged
  · exact (State.linkDowns_countRing hn r (by decide) 1 _).trans merged

theorem State.linkDowns_eventOn (rs : List Nat) (k r : Nat) (e : EventRec) (s : State) :
    (State.eventOn rs k r e s).ctrOf 2 n 7 = s.ctrOf 2 n 7 := by
  have first : ∀ (r : Nat) (e : EventRec) (s : State),
      (((s.merge r e).modRing r (fun q => { q with episode := true })).attn (2 ^ 1)).ctrOf 2 n 7 = s.ctrOf 2 n 7 := fun r e s =>
    (State.ctrOf_attn ..).trans (State.linkDowns_merge hn r e s)
  have put : ∀ (r : Nat) (e : EventRec) (s : State), ((s.attn 1).complete r (s.eventCompletion e)).ctrOf 2 n 7 = s.ctrOf 2 n 7 := fun r e s =>
    (State.linkDowns_complete hn ..).trans (State.ctrOf_attn ..)
  induction k generalizing r e s with
  | zero =>
    unfold State.eventOn
    dsimp only
    split
    · exact State.linkDowns_countRing hn r (by decide) 1 s
    split
    · split
      · exact first ..
      · exact State.linkDowns_merge hn r e s
    · exact put ..
  | succ k ih =>
    unfold State.eventOn
    dsimp only
    split
    · exact State.linkDowns_countRing hn r (by decide) 1 s
    split
    · split
      · exact (State.view_forEach (v := fun s => s.ctrOf 2 n 7) (fun r' _ s => ih r' _ s) _).trans (first ..)
      · exact State.linkDowns_merge hn r e s
    · exact put ..

theorem State.linkDowns_event (code src detail : Nat) (s : State) : (s.event code src detail).ctrOf 2 n 7 = s.ctrOf 2 n 7 := by
  have told : ((s.attn (attnOf code)).wakeTasks code).ctrOf 2 n 7 = s.ctrOf 2 n 7 := State.ctrOf_attn ..
  unfold State.event
  dsimp only
  split
  · exact (State.view_forEach (v := fun s => s.ctrOf 2 n 7) (fun r _ => State.linkDowns_eventOn hn _ _ r _) _).trans told
  · exact told

/-- A LINK_DOWN counts one. -/
theorem State.linkDowns_laneLinkDown (s : State) : (s.laneLinkDown n).ctrOf 2 n 7 = (s.ctrOf 2 n 7 + 1) % 2 ^ 64 :=
  (State.linkDowns_event hn _ _ _ _).trans (State.ctrOf_count_self 2 n 7 1 s)

end

/-! ### A lane's state word, timers and link downs -/

/-- The state word of a lane, its timers, and its count of link downs. -/
def State.laneSide (n : Nat) (s : State) : Word × (Option Nat × Option Nat) × Nat :=
  (s.rd (R.LANE_STATUS n), (s.timer (.laneHold n), s.timer (.laneAcquire n)), s.ctrOf 2 n 7)

theorem State.laneSide_of {n : Nat} {s t : State} (word : t.rd (R.LANE_STATUS n) = s.rd (R.LANE_STATUS n)) (timers : t.timers = s.timers)
    (ctr : t.ctr = s.ctr) : t.laneSide n = s.laneSide n := by
  unfold State.laneSide State.timer State.ctrOf
  rw [word, timers, ctr]

theorem sameBut_setLocks (n : Nat) (block marker : Bool) (s : State) : SameBut [R.LANE_STATUS n] s (s.setLocks n block marker) :=
  sameBut_trans (sameBut_trans (sameBut_set (f := F.LANE_STATUS_BLOCK_LOCK n) (List.mem_singleton_self _) _ _)
    (sameBut_set (f := F.LANE_STATUS_AM_LOCK n) (List.mem_singleton_self _) _ _))
    (sameBut_set (f := F.LANE_STATUS_TAP_VALID n) (List.mem_singleton_self _) _ _)

theorem sameBut_eqShow (n : Nat) (s : State) : SameBut [R.LANE_EQ_STATUS n] s (s.eqShow n) := by
  unfold State.eqShow State.when
  split
  · exact sameBut_set (f := F.LANE_EQ_STATUS_CTLE_CODE n) (List.mem_singleton_self _) _ _
  · exact sameBut_refl _ _

theorem sameBut_eqAdapt (n eq : Nat) (s : State) : SameBut [R.LANE_EQ_STATUS n] s (s.eqAdapt n eq) := by
  unfold State.eqAdapt State.when
  dsimp only
  split
  · exact sameBut_trans (sameBut_wr (List.mem_singleton_self _) _ _) (sameBut_eqShow n _)
  split
  · exact sameBut_wr (List.mem_singleton_self _) _ _
  · exact sameBut_refl _ _

theorem SameBut.timers {l : List Nat} {s t : State} (h : SameBut l s t) : t.timers = s.timers := by
  have e := congrArg State.timers h.2
  exact e

theorem SameBut.ctr {l : List Nat} {s t : State} (h : SameBut l s t) : t.ctr = s.ctr := by
  have e := congrArg State.ctr h.2
  exact e

theorem SameBut.laneSide {n : Nat} {l : List Nat} {s t : State} (h : SameBut l s t) (away : R.LANE_STATUS n ∉ l) :
    t.laneSide n = s.laneSide n :=
  State.laneSide_of (h.1 _ away) h.timers h.ctr

theorem laneStatus_ne_eqStatus (m n : Nat) : R.LANE_STATUS m ∉ [R.LANE_EQ_STATUS n] := by
  rw [List.mem_singleton]
  unfold R.LANE_STATUS R.LANE_EQ_STATUS
  omega

theorem State.laneSide_eqDefaults (n : Nat) (s : State) : (s.eqDefaults n).laneSide n = s.laneSide n := by
  unfold State.eqDefaults
  split
  · exact (sameBut_eqShow n s).laneSide (laneStatus_ne_eqStatus n n)
  · exact (sameBut_wr (List.mem_singleton_self _) _ (s.free 18).2).laneSide (laneStatus_ne_eqStatus n n)

theorem laneStatus_ne_event (m n : Nat) : R.LANE_STATUS m ≠ R.LANE_EVENT n := by
  unfold R.LANE_STATUS R.LANE_EVENT
  omega

theorem not_toldAt_laneStatus {n : Nat} (hn : n < 272) : ¬ToldAt (R.LANE_STATUS n) :=
  not_toldAt_optics (by unfold R.LANE_STATUS; omega) (by unfold R.LANE_STATUS; omega)

theorem State.rd_raise_laneStatus {n : Nat} (hn : n < 272) (b m : Nat) (s : State) :
    (s.raise .lane b m).rd (R.LANE_STATUS n) = s.rd (R.LANE_STATUS n) :=
  State.rd_raise (blk := .lane) b m s (not_toldAt_laneStatus hn) (laneStatus_ne_event n m)

theorem State.lane_raise {n : Nat} (hn : n < 272) (b : Nat) (s : State) : (s.raise .lane b n).lane n = s.lane n :=
  State.get_addr (f := F.LANE_STATUS_STATE n) (State.rd_raise_laneStatus hn b n s)

theorem State.timer_raise (blk : Blk) (b src : Nat) (s : State) (tm : Timer) : (s.raise blk b src).timer tm = s.timer tm :=
  (State.raise_told blk b src s).timer tm

theorem State.laneSide_laneLinkDown {n : Nat} (hn : n < 272) (s : State) : (s.laneLinkDown n).laneSide n =
    ((s.laneSide n).1, (s.laneSide n).2.1, (s.ctrOf 2 n 7 + 1) % 2 ^ 64) := by
  have timer : ∀ tm, (s.laneLinkDown n).timer tm = s.timer tm := fun tm =>
    (State.timer_raise ..).trans ((State.count_told 2 n 7 1 s).timer tm)
  exact Prod.ext (State.rd_laneLinkDown (laneStatus_ne_event n n) (not_toldAt_laneStatus hn) s)
    (Prod.ext (Prod.ext (timer _) (timer _)) (State.linkDowns_laneLinkDown hn s))

/-- A receiver that begins to acquire. -/
theorem State.laneSide_acquires (n : Nat) (s : State) : ((s.start (.laneAcquire n)).eqDefaults n).laneSide n =
    ((s.laneSide n).1, ((s.laneSide n).2.1.1, some 0), (s.laneSide n).2.2) := by
  refine (State.laneSide_eqDefaults n _).trans ?_
  exact Prod.ext rfl (Prod.ext (Prod.ext (State.timer_start_ne (by simp) s) (State.timer_start_self _ s)) rfl)

theorem State.laneSide_deskewed (n : Nat) (ds : List Nat) (s : State) : ({ s with deskewed := ds } : State).laneSide n = s.laneSide n := rfl

theorem State.timers_unlocked (n st : Nat) (s : State) : (s.unlocked n st).timers = s.timers := rfl

theorem State.ctr_unlocked (n st : Nat) (s : State) : (s.unlocked n st).ctr = s.ctr := rfl

theorem State.laneSide_unlocked (n st : Nat) (s : State) :
    (s.unlocked n st).laneSide n = ((s.unlocked n st).rd (R.LANE_STATUS n), (s.laneSide n).2) := by
  unfold State.laneSide State.timer State.ctrOf
  rw [State.timers_unlocked, State.ctr_unlocked]

theorem State.laneSide_stopped (n st : Nat) (ds : List Nat) (s : State) :
    ({ State.unlocked n st ((s.stop (.laneHold n)).stop (.laneAcquire n)) with deskewed := ds } : State).laneSide n =
      ((State.unlocked n st ((s.stop (.laneHold n)).stop (.laneAcquire n))).rd (R.LANE_STATUS n), (none, none), s.ctrOf 2 n 7) := by
  have held : ((s.stop (.laneHold n)).stop (.laneAcquire n)).timer (.laneHold n) = none :=
    (State.timer_stop_ne (by simp) _).trans (State.timer_stop_self _ s)
  have stopped : (((s.stop (.laneHold n)).stop (.laneAcquire n)).laneSide n).2 = ((none, none), s.ctrOf 2 n 7) :=
    Prod.ext (Prod.ext held (State.timer_stop_self _ _)) rfl
  rw [State.laneSide_deskewed, State.laneSide_unlocked, stopped]

/-- A lane put into a state without lock: unlocked, without its hold timer, its acquisition timed, and a LINK_DOWN counted out of UP. -/
theorem State.laneSide_laneTo {n : Nat} (hn : n < 272) (st : Nat) (s : State) : (s.laneTo n st).laneSide n =
    ((State.unlocked n st ((s.stop (.laneHold n)).stop (.laneAcquire n))).rd (R.LANE_STATUS n), (none, if st = lnAcquire then some 0 else none),
      if s.lane n = lnUp then (s.ctrOf 2 n 7 + 1) % 2 ^ 64 else s.ctrOf 2 n 7) := by
  obtain ⟨ds, parts⟩ := State.laneTo_parts n st s
  have stopped := State.laneSide_stopped n st ds s
  rw [parts]
  generalize ({ State.unlocked n st ((s.stop (.laneHold n)).stop (.laneAcquire n)) with deskewed := ds } : State) = x at stopped ⊢
  have begun : (x.when (st == lnAcquire) (fun s => (s.start (.laneAcquire n)).eqDefaults n)).laneSide n =
      ((State.unlocked n st ((s.stop (.laneHold n)).stop (.laneAcquire n))).rd (R.LANE_STATUS n),
        (none, if st = lnAcquire then some 0 else none), s.ctrOf 2 n 7) := by
    by_cases acquires : st = lnAcquire
    · rw [beq_iff_eq.2 acquires, if_pos acquires]
      exact (State.laneSide_acquires n x).trans (by rw [stopped])
    · rw [beq_eq_false_iff_ne.2 acquires, if_neg acquires]
      exact stopped
  generalize x.when (st == lnAcquire) (fun s => (s.start (.laneAcquire n)).eqDefaults n) = y at begun ⊢
  by_cases up : s.lane n = lnUp
  · rw [beq_iff_eq.2 up, if_pos up]
    have downs : y.ctrOf 2 n 7 = s.ctrOf 2 n 7 := congrArg (fun v => v.2.2) begun
    exact (State.laneSide_laneLinkDown hn y).trans (by rw [begun, downs])
  · rw [beq_eq_false_iff_ne.2 up, if_neg up]
    exact begun

theorem State.lane_laneTo {n st : Nat} (hn : n < 272) (h : st < 2 ^ 3) (s : State) : (s.laneTo n st).lane n = st :=
  (State.get_addr (f := F.LANE_STATUS_STATE n) (congrArg Prod.fst (State.laneSide_laneTo hn st s))).trans (State.lane_unlocked h _)

/-! ### Locks (05 R175, R177) -/

theorem State.grouped_of {s t : State} (h : ∀ m, t.rd (R.LANE_CFG m) = s.rd (R.LANE_CFG m)) (g : Nat) : t.grouped g = s.grouped g := by
  unfold State.grouped
  rw [h]

/-- Whether a rate has markers: a matter of the lanes' configuration. -/
theorem State.hasMarkers_of {s t : State} (h : ∀ m, t.rd (R.LANE_CFG m) = s.rd (R.LANE_CFG m)) (n : Nat) : t.hasMarkers n = s.hasMarkers n := by
  unfold State.hasMarkers
  by_cases optical : n < 256
  · simp [optical]
  · have lead : t.lineLane n = s.lineLane n := by
      unfold State.lineLane State.leadOf
      rw [if_neg optical, if_neg optical, if_neg optical, if_neg optical, State.grouped_of h]
    have rate : ∀ m, t.get (F.LANE_CFG_RATE m) = s.get (F.LANE_CFG_RATE m) := fun m => State.get_addr (f := F.LANE_CFG_RATE m) (h m)
    have fec : ∀ m, t.on (F.LANE_CFG_FEC_25 m) = s.on (F.LANE_CFG_FEC_25 m) := fun m => State.on_addr (f := F.LANE_CFG_FEC_25 m) (h m)
    rw [lead, rate, fec]

section
variable (n : Nat) (block marker : Bool) (s : State)

theorem State.lane_setLocks : (s.setLocks n block marker).lane n = s.lane n :=
  (State.lane_set_ne (f := F.LANE_STATUS_TAP_VALID n) rfl (show 3 ≤ 8 by decide) _ _).trans
    ((State.lane_set_ne (f := F.LANE_STATUS_AM_LOCK n) rfl (show 3 ≤ 4 by decide) _ _).trans
      (State.lane_set_ne (f := F.LANE_STATUS_BLOCK_LOCK n) rfl (show 3 ≤ 3 by decide) _ s))

theorem State.block_setLocks : (s.setLocks n block marker).on (F.LANE_STATUS_BLOCK_LOCK n) = block :=
  (State.on_set_ne (f := F.LANE_STATUS_TAP_VALID n) (g := F.LANE_STATUS_BLOCK_LOCK n) rfl (.inl (show 3 + 1 ≤ 8 by decide))
    (show 3 + 1 ≤ 32 by decide) _ _).trans
    ((State.on_set_ne (f := F.LANE_STATUS_AM_LOCK n) (g := F.LANE_STATUS_BLOCK_LOCK n) rfl (.inl (show 3 + 1 ≤ 4 by decide))
      (show 3 + 1 ≤ 32 by decide) _ _).trans
      (State.on_setB_self (f := F.LANE_STATUS_BLOCK_LOCK n) (show 3 + 1 ≤ 32 by decide) (show 0 < 1 by decide) block s))

theorem State.marker_setLocks : (s.setLocks n block marker).on (F.LANE_STATUS_AM_LOCK n) = (block && marker && s.hasMarkers n) :=
  (State.on_set_ne (f := F.LANE_STATUS_TAP_VALID n) (g := F.LANE_STATUS_AM_LOCK n) rfl (.inl (show 4 + 1 ≤ 8 by decide))
    (show 4 + 1 ≤ 32 by decide) _ _).trans
    (State.on_setB_self (f := F.LANE_STATUS_AM_LOCK n) (show 4 + 1 ≤ 32 by decide) (show 0 < 1 by decide) _ _)

end

/-! ### LANE_LOCK_GAINED, LINK_UP_HOLD_EXPIRY and LANE_LOCK_LOST (05 R175 to R181) -/

theorem State.locked_of {n : Nat} {s t : State} (block : t.on (F.LANE_STATUS_BLOCK_LOCK n) = s.on (F.LANE_STATUS_BLOCK_LOCK n))
    (marker : t.on (F.LANE_STATUS_AM_LOCK n) = s.on (F.LANE_STATUS_AM_LOCK n)) (rate : t.hasMarkers n = s.hasMarkers n) :
    t.locked n = s.locked n := by
  unfold State.locked
  rw [block, marker, rate]

/-- The locks that a lane gains, its port deskewed where the PCS says so, and what its receiver has adapted to. -/
def State.locksGained (n : Nat) (l : LockGain) (s : State) : State :=
  let s := s.setLocks n (l.block || s.on (F.LANE_STATUS_BLOCK_LOCK n)) (l.marker || s.on (F.LANE_STATUS_AM_LOCK n))
  let p := s.leadOf n
  let s : State := if l.deskew && s.locked n then { s with deskewed := s.deskewed.filter (fun x => x != p) ++ [p] } else s
  s.eqAdapt n l.eq

/-- A lane in HOLD, its hold timer fresh. -/
def State.laneHolds (n : Nat) (s : State) : State := ((s.stop (.laneAcquire n)).start (.laneHold n)).set (F.LANE_STATUS_STATE n) lnHold

/-- What LANE_LOCK_GAINED does to its lane. -/
def State.laneGains (n : Nat) (l : LockGain) (s : State) : State :=
  if (s.locksGained n l).lane n = lnAcquire ∧ (s.locksGained n l).locked n then (s.locksGained n l).laneHolds n else s.locksGained n l

section
variable {n : Nat} {l : LockGain} {s : State}

theorem exec_laneLockGained (hn : n < 272) (runs : s.laneRuns n = true) :
    exec (.laneLockGained n l) s = .next (s.linkChange (n / 8) (State.laneGains n l)) :=
  if_pos ⟨hn, runs⟩

theorem exec_laneLockGained_rests (rests : s.laneRuns n = false) : exec (.laneLockGained n l) s = .next s :=
  if_neg (fun h => ne_true_of_eq_false rests h.2)

theorem State.locksGained_rests (n : Nat) (l : LockGain) (s : State) :
    (∀ a, a ∉ [R.LANE_EQ_STATUS n] → (s.locksGained n l).rd a =
      (s.setLocks n (l.block || s.on (F.LANE_STATUS_BLOCK_LOCK n)) (l.marker || s.on (F.LANE_STATUS_AM_LOCK n))).rd a) ∧
    (s.locksGained n l).timers = s.timers := by
  have locks := sameBut_setLocks n (l.block || s.on (F.LANE_STATUS_BLOCK_LOCK n)) (l.marker || s.on (F.LANE_STATUS_AM_LOCK n)) s
  unfold State.locksGained
  generalize s.setLocks n _ _ = t at locks ⊢
  dsimp only
  split
  · generalize t.deskewed.filter (fun x => x != t.leadOf n) ++ [t.leadOf n] = ds
    have adapts := sameBut_eqAdapt n l.eq { t with deskewed := ds }
    exact ⟨fun a away => (adapts.1 a away).trans (State.rd_deskewed ds t a), adapts.timers.trans locks.timers⟩
  · have adapts := sameBut_eqAdapt n l.eq t
    exact ⟨adapts.1, adapts.timers.trans locks.timers⟩

theorem State.lane_locksGained (n : Nat) (l : LockGain) (s : State) : (s.locksGained n l).lane n = s.lane n :=
  (State.get_addr (f := F.LANE_STATUS_STATE n) ((State.locksGained_rests n l s).1 _ (laneStatus_ne_eqStatus n n))).trans (State.lane_setLocks ..)

theorem State.block_locksGained (n : Nat) (l : LockGain) (s : State) :
    (s.locksGained n l).on (F.LANE_STATUS_BLOCK_LOCK n) = (l.block || s.on (F.LANE_STATUS_BLOCK_LOCK n)) :=
  (State.on_addr (f := F.LANE_STATUS_BLOCK_LOCK n) ((State.locksGained_rests n l s).1 _ (laneStatus_ne_eqStatus n n))).trans (State.block_setLocks ..)

theorem State.marker_locksGained (n : Nat) (l : LockGain) (s : State) : (s.locksGained n l).on (F.LANE_STATUS_AM_LOCK n) =
    ((l.block || s.on (F.LANE_STATUS_BLOCK_LOCK n)) && (l.marker || s.on (F.LANE_STATUS_AM_LOCK n)) && s.hasMarkers n) :=
  (State.on_addr (f := F.LANE_STATUS_AM_LOCK n) ((State.locksGained_rests n l s).1 _ (laneStatus_ne_eqStatus n n))).trans (State.marker_setLocks ..)

/-! HOLD: the locks stay, the hold timer starts, acquisition is timed no longer. -/

theorem State.rd_heldTimers (n a : Nat) (s : State) : ((s.stop (.laneAcquire n)).start (.laneHold n)).rd a = s.rd a := rfl

theorem State.block_laneHolds (n : Nat) (s : State) :
    (s.laneHolds n).on (F.LANE_STATUS_BLOCK_LOCK n) = s.on (F.LANE_STATUS_BLOCK_LOCK n) :=
  (State.on_set_ne (f := F.LANE_STATUS_STATE n) (g := F.LANE_STATUS_BLOCK_LOCK n) rfl (.inr (show 0 + 3 ≤ 3 by decide))
    (show 3 + 1 ≤ 32 by decide) _ _).trans (State.on_addr (State.rd_heldTimers n _ s))

theorem State.marker_laneHolds (n : Nat) (s : State) : (s.laneHolds n).on (F.LANE_STATUS_AM_LOCK n) = s.on (F.LANE_STATUS_AM_LOCK n) :=
  (State.on_set_ne (f := F.LANE_STATUS_STATE n) (g := F.LANE_STATUS_AM_LOCK n) rfl (.inr (show 0 + 3 ≤ 4 by decide))
    (show 4 + 1 ≤ 32 by decide) _ _).trans (State.on_addr (State.rd_heldTimers n _ s))

theorem laneCfg_ne_status (m n : Nat) : R.LANE_CFG m ≠ R.LANE_STATUS n := by
  unfold R.LANE_CFG R.LANE_STATUS
  omega

theorem State.locked_laneHolds (n : Nat) (s : State) : (s.laneHolds n).locked n = s.locked n :=
  State.locked_of (State.block_laneHolds n s) (State.marker_laneHolds n s)
    (State.hasMarkers_of (fun m => State.rd_set_ne (f := F.LANE_STATUS_STATE n) (laneCfg_ne_status m n) _ _) n)

theorem State.laneHolds_holds (n : Nat) (s : State) : (s.laneHolds n).lane n = lnHold ∧ (s.laneHolds n).timer (.laneHold n) = some 0 ∧
    (s.laneHolds n).timer (.laneAcquire n) = none :=
  ⟨State.lane_set_self (by decide) _, State.timer_start_self _ _, (State.timer_start_ne (by simp) _).trans (State.timer_stop_self _ s)⟩

/-- What LANE_LOCK_GAINED leaves of its lane. -/
theorem State.laneGains_effect (n : Nat) (l : LockGain) (s : State) :
    (s.laneGains n l).on (F.LANE_STATUS_BLOCK_LOCK n) = (l.block || s.on (F.LANE_STATUS_BLOCK_LOCK n)) ∧
    (s.laneGains n l).on (F.LANE_STATUS_AM_LOCK n) =
      ((l.block || s.on (F.LANE_STATUS_BLOCK_LOCK n)) && (l.marker || s.on (F.LANE_STATUS_AM_LOCK n)) && s.hasMarkers n) ∧
    (s.lane n = lnAcquire → (s.laneGains n l).locked n = true → (s.laneGains n l).lane n = lnHold ∧
      (s.laneGains n l).timer (.laneHold n) = some 0 ∧ (s.laneGains n l).timer (.laneAcquire n) = none) ∧
    (s.lane n ≠ lnAcquire ∨ (s.laneGains n l).locked n = false → (s.laneGains n l).lane n = s.lane n ∧
      (s.laneGains n l).timers = s.timers) := by
  have lane := State.lane_locksGained n l s
  have block := State.block_locksGained n l s
  have marker := State.marker_locksGained n l s
  obtain ⟨-, timers⟩ := State.locksGained_rests n l s
  unfold State.laneGains
  split
  · next goes =>
    obtain ⟨acquires, locked⟩ := goes
    refine ⟨(State.block_laneHolds ..).trans block, (State.marker_laneHolds ..).trans marker, fun _ _ => State.laneHolds_holds n _, ?_⟩
    rintro (away | unlocked)
    · exact absurd (lane.symm.trans acquires) away
    · exact absurd ((State.locked_laneHolds ..).trans locked) (ne_true_of_eq_false unlocked)
  · next stays =>
    exact ⟨block, marker, fun acquires locked => absurd ⟨lane.trans acquires, locked⟩ stays, fun _ => ⟨lane, timers⟩⟩

end

/-- What LINK_UP_HOLD_EXPIRY does to its lane. -/
def State.laneComesUp (n : Nat) (s : State) : State := ((s.stop (.laneHold n)).set (F.LANE_STATUS_STATE n) lnUp).raise .lane 0 n

section
variable {n : Nat} {s : State} (hn : n < 272)
include hn

theorem State.laneComesUp_up (s : State) : (s.laneComesUp n).lane n = lnUp ∧ (s.laneComesUp n).timer (.laneHold n) = none :=
  ⟨(State.lane_raise hn 0 _).trans (State.lane_set_self (by decide) _), (State.timer_raise ..).trans (State.timer_stop_self _ s)⟩

theorem exec_linkUpHoldExpiry (holds : s.lane n = lnHold)
    (due : s.ran (.laneHold n) (max 1 (s.get (F.LANE_CFG_LINK_UP_HOLD_MS n)) * ms) = true) :
    exec (.linkUpHoldExpiry n) s = .next (s.linkChange (n / 8) (State.laneComesUp n)) := if_pos ⟨hn, holds, due⟩

end

theorem exec_linkUpHoldExpiry_rests {n : Nat} {s : State}
    (rests : s.lane n ≠ lnHold ∨ s.ran (.laneHold n) (max 1 (s.get (F.LANE_CFG_LINK_UP_HOLD_MS n)) * ms) = false) :
    exec (.linkUpHoldExpiry n) s = .next s := by
  refine if_neg ?_
  rintro ⟨-, holds, due⟩
  rcases rests with away | early
  · exact away holds
  · exact ne_true_of_eq_false early due

/-- What LANE_LOCK_LOST does to its lane, which keeps block lock where `keep`. -/
def State.laneLoses (n : Nat) (keep : Bool) (s : State) : State :=
  (s.when (s.lane n != lnAcquire) (State.laneTo n lnAcquire)).setLocks n keep false

section
variable {n : Nat} (hn : n < 272)
include hn

theorem State.laneLoses_effect (keep : Bool) (s : State) : (s.laneLoses n keep).lane n = lnAcquire ∧
    (s.laneLoses n keep).on (F.LANE_STATUS_BLOCK_LOCK n) = keep ∧ (s.laneLoses n keep).on (F.LANE_STATUS_AM_LOCK n) = false ∧
    (s.laneLoses n keep).timer (.laneAcquire n) = (if s.lane n = lnAcquire then s.timer (.laneAcquire n) else some 0) ∧
    (s.lane n = lnUp → (s.laneLoses n keep).ctrOf 2 n 7 = (s.ctrOf 2 n 7 + 1) % 2 ^ 64) ∧
    (s.lane n ≠ lnUp → (s.laneLoses n keep).ctrOf 2 n 7 = s.ctrOf 2 n 7) := by
  have timer : ∀ t : State, (t.setLocks n keep false).timer (.laneAcquire n) = t.timer (.laneAcquire n) := fun _ => rfl
  have downs : ∀ t : State, (t.setLocks n keep false).ctrOf 2 n 7 = t.ctrOf 2 n 7 := fun _ => rfl
  unfold State.laneLoses
  rw [State.lane_setLocks, State.block_setLocks, State.marker_setLocks, timer, downs, Bool.and_false, Bool.false_and]
  by_cases acquires : s.lane n = lnAcquire
  · rw [acquires, bne_self_eq_false, State.when_false, if_pos rfl]
    exact ⟨acquires, rfl, rfl, rfl, fun up => absurd up (by decide), fun _ => rfl⟩
  · have side := State.laneSide_laneTo hn lnAcquire s
    rw [bne_iff_ne.2 acquires, State.when_true, if_neg acquires]
    refine ⟨State.lane_laneTo hn (by decide) s, rfl, rfl, congrArg (fun v => v.2.1.2) side, fun up => ?_, fun away => ?_⟩
    · exact (congrArg (fun v => v.2.2) side).trans (if_pos up)
    · exact (congrArg (fun v => v.2.2) side).trans (if_neg away)

end

section
variable {n : Nat} {w : LockLoss} {s : State}

theorem exec_laneLockLost (hn : n < 272) (lane : w.lane = n) (runs : s.laneRuns n = true) (lost : w.block = true ∨ s.hasMarkers n = true) :
    exec (.laneLockLost w) s = .next ((s.cutShort (s.leadOf n) w.rx).linkChange (n / 8)
      (State.laneLoses n (s.on (F.LANE_STATUS_BLOCK_LOCK n) && !w.block))) := by
  subst lane
  exact if_pos ⟨hn, runs, lost⟩

theorem exec_laneLockLost_rests (lane : w.lane = n) (rests : s.laneRuns n = false ∨ (w.block = false ∧ s.hasMarkers n = false)) :
    exec (.laneLockLost w) s = .next s := by
  subst lane
  refine if_neg ?_
  rintro ⟨-, runs, lost⟩
  rcases rests with rests | ⟨block, marker⟩
  · exact ne_true_of_eq_false rests runs
  · exact lost.elim (ne_true_of_eq_false block) (ne_true_of_eq_false marker)

/-! ### Acquisition timeouts, faults, LPI, FEC and slips (05 R179, R180, R189, R190, R194) -/

theorem exec_laneAcquireTimeout (hn : n < 272) (acquires : s.lane n = lnAcquire) (due : s.ran (.laneAcquire n) (500 * ms) = true) :
    exec (.laneAcquireTimeout n) s = .next ((s.start (.laneAcquire n)).count 2 n 6 1) := if_pos ⟨hn, acquires, due⟩

theorem exec_laneAcquireTimeout_rests (away : s.lane n ≠ lnAcquire) : exec (.laneAcquireTimeout n) s = .next s :=
  if_neg (fun h => away h.2.1)

/-- What SERDES_FAULT does to its lane. -/
def State.laneFails (n : Nat) (s : State) : State := (s.laneTo n lnFault).raise .lane 2 n

theorem State.lane_laneFails (hn : n < 272) (s : State) : (s.laneFails n).lane n = lnFault :=
  (State.lane_raise hn 2 _).trans (State.lane_laneTo hn (by decide) s)

theorem exec_serdesFault (hn : n < 272) (kept : s.lane n ≠ lnRetired) (works : s.lane n ≠ lnFault) :
    exec (.serdesFault n) s = .next (s.linkChange (n / 8) (State.laneFails n)) := if_pos ⟨hn, kept, works⟩

theorem exec_serdesFault_rests (h : s.lane n = lnRetired ∨ s.lane n = lnFault) : exec (.serdesFault n) s = .next s := by
  refine if_neg ?_
  rintro ⟨-, kept, works⟩
  exact h.elim kept works

theorem exec_lpiReceived (hn : n < 272) (lock : s.on (F.LANE_STATUS_BLOCK_LOCK n) = true) :
    exec (.lpiReceived n) s = .next (s.raise .lane 6 n) := if_pos ⟨hn, lock⟩

theorem exec_fecDegradedSet (hn : n < 272) (lock : s.on (F.LANE_STATUS_BLOCK_LOCK n) = true) (fec : s.rsFec n = true)
    (good : s.on (F.LANE_STATUS_FEC_DEGRADED n) = false) :
    exec (.fecDegradedSet n) s = .next ((s.set (F.LANE_STATUS_FEC_DEGRADED n) 1).raise .lane 3 n) :=
  if_pos ⟨hn, fec, lock, by rw [good]; rfl⟩

theorem exec_unlocked (h : s.on (F.LANE_STATUS_BLOCK_LOCK n) = false) :
    exec (.lpiReceived n) s = .next s ∧ exec (.fecDegradedSet n) s = .next s :=
  ⟨if_neg (fun g => ne_true_of_eq_false h g.2), if_neg (fun g => ne_true_of_eq_false h g.2.2.1)⟩

theorem exec_fecDegradedClear (hn : n < 272) : ∃ u, exec (.fecDegradedClear n) s = .next u ∧ SameBut [R.LANE_STATUS n] s u ∧
    u.get (F.LANE_STATUS_FEC_DEGRADED n) = 0 ∧ u.lane n = s.lane n :=
  ⟨_, if_pos hn, sameBut_set (f := F.LANE_STATUS_FEC_DEGRADED n) (List.mem_singleton_self _) 0 s,
    State.get_set_self (f := F.LANE_STATUS_FEC_DEGRADED n) (show 7 + 1 ≤ 32 by decide) 0 s,
    State.lane_set_ne (f := F.LANE_STATUS_FEC_DEGRADED n) rfl (show 3 ≤ 7 by decide) 0 s⟩

theorem State.lineLane_le (s : State) (n : Nat) : s.lineLane n ≤ n := by
  unfold State.lineLane State.leadOf
  split
  · exact Nat.le_refl n
  split
  · omega
  · exact Nat.le_refl n

theorem Told.kpl {s t : State} (h : Told s t) : t.kpl = s.kpl := by
  have e := congrArg State.kpl h.2
  exact e

/-- Whether both ends of a lane are synchronous: telling the host does not matter. -/
theorem Told.bothSync {s t : State} (h : Told s t) (hn : n < 272) : t.bothSync n = s.bothSync n := by
  have rd : ∀ a, 0x100000 ≤ a → a < 0x200000 → t.rd a = s.rd a := fun a h1 h2 => h.1 a (not_toldAt_optics h1 h2)
  have cfg : ∀ m < 272, t.rd (R.LANE_CFG m) = s.rd (R.LANE_CFG m) := fun m hm =>
    rd _ (by unfold R.LANE_CFG; omega) (by unfold R.LANE_CFG; omega)
  have engine : n < 256 → t.rd (R.OE_CFG (n / 8)) = s.rd (R.OE_CFG (n / 8)) := fun _ =>
    rd _ (by unfold R.OE_CFG; omega) (by unfold R.OE_CFG; omega)
  have lead : t.leadOf n = s.leadOf n := by
    unfold State.leadOf State.grouped
    split
    · next optical => rw [engine optical]
    · rw [cfg _ (by omega)]
  have line : t.lineLane n = s.lineLane n := by
    unfold State.lineLane
    rw [lead]
  have sync : t.on (F.LANE_CFG_CLK_SYNC (s.lineLane n)) = s.on (F.LANE_CFG_CLK_SYNC (s.lineLane n)) :=
    State.on_addr (f := F.LANE_CFG_CLK_SYNC (s.lineLane n)) (cfg _ (Nat.lt_of_le_of_lt (s.lineLane_le n) hn))
  have fallback : t.on (F.LANE_STATUS_CLK_FALLBACK n) = s.on (F.LANE_STATUS_CLK_FALLBACK n) :=
    State.on_addr (f := F.LANE_STATUS_CLK_FALLBACK n)
      (rd (R.LANE_STATUS n) (by unfold R.LANE_STATUS; omega) (by unfold R.LANE_STATUS; omega))
  unfold State.bothSync State.onSyn1 State.syncMode State.kplPort
  rw [line, sync, fallback, lead, h.kpl]

theorem exec_elasticSlip (hn : n < 272) (ins : Bool) : exec (.elasticSlip n ins) s = .next
    ((s.count 2 n (if ins then 4 else 5) 1).when (s.bothSync n) (State.raise .lane 4 n)) := by
  rw [← (State.count_told 2 n (if ins then 4 else 5) 1 s).bothSync hn]
  exact if_pos hn

end

/-! ### LANE_SET and READAPT_DONE (05 R186, R204 to R207) -/

/-- A LANE_SET that ends in its step. -/
theorem specLane_ends {action code q1 q2 : Nat} {d : Submission} {s t : State} (h : Ready (specLane action) d s)
    (ha : laneAct action (cmdOf 0x41 d s) (s.fetched d) = (t, .done code q1 q2)) :
    (.next ((specLane action).take 0x41 true d s) : Host.Outcome State Fault Refusal) = .next ((cmdOf 0x41 d s).ended code q1 q2 t) :=
  congrArg Host.Outcome.next (CmdSpec.take_ends h (by decide) (by decide) rfl ha)

/-- A LANE_SET that begins in its step. -/
theorem specLane_begins {action : Nat} {d : Submission} {s t : State} (h : Ready (specLane action) d s)
    (ha : laneAct action (cmdOf 0x41 d s) (s.fetched d) = (t, .wait)) :
    (.next ((specLane action).take 0x41 true d s) : Host.Outcome State Fault Refusal) = .next ((cmdOf 0x41 d s).goesOn t) :=
  congrArg Host.Outcome.next (CmdSpec.take_begins h (by decide) (by decide) rfl ha)

theorem State.fetched_lane (d : Submission) (s : State) (n : Nat) : (s.fetched d).lane n = s.lane n := State.fetched_get ..

theorem State.fetched_leadOf (d : Submission) (s : State) (n : Nat) : (s.fetched d).leadOf n = s.leadOf n := by
  unfold State.leadOf
  rw [State.fetched_rd, State.grouped_of (fun m => State.fetched_rd d s (R.LANE_CFG m))]

theorem State.fetched_lineLane (d : Submission) (s : State) (n : Nat) : (s.fetched d).lineLane n = s.lineLane n := by
  unfold State.lineLane
  rw [State.fetched_leadOf]

theorem State.fetched_laneTimed (d : Submission) (s : State) (n : Nat) : (s.fetched d).laneTimed n = s.laneTimed n := by
  simp only [State.laneTimed, State.lanesOf, State.fetched_leadOf, State.fetched_lineLane, State.fetched_on, State.fetched_get]

section
variable {c : Cmd} {s : State} {n : Nat} (hn : c.sub.P0 0 9 = n)
include hn

theorem laneAct_configure_refused (h : (s.on (F.LANE_CFG_CLK_SYNC n) && !bit (c.sub.le 4 4) 5 && s.laneTimed n) = true) :
    laneAct 0 c s = (s, .done rState (s.lane n) 0) := by
  subst hn
  exact if_pos h

theorem laneAct_configure (h : (s.on (F.LANE_CFG_CLK_SYNC n) && !bit (c.sub.le 4 4) 5 && s.laneTimed n) = false) :
    laneAct 0 c s = (s.laneConfigure n (c.sub.le 4 4) (c.sub.le 8 4) (c.sub.le 12 4),
      .done rOk ((s.laneConfigure n (c.sub.le 4 4) (c.sub.le 8 4) (c.sub.le 12 4)).lane n) 0) := by
  subst hn
  exact if_neg (ne_true_of_eq_false h)

theorem laneAct_retired {action : Nat} (ha : action ∈ [1, 2, 3]) (h : s.lane n = lnRetired) :
    laneAct action c s = (s, .done rState lnRetired 0) := by
  subst hn
  have refused : (s, Answer.done rState (s.lane (c.sub.P0 0 9)) 0) = (s, Answer.done rState lnRetired 0) := by rw [h]
  simp only [List.mem_cons, List.not_mem_nil, or_false] at ha
  rcases ha with rfl | rfl | rfl <;> exact (if_pos h).trans refused

theorem laneAct_reset (h : s.lane n ≠ lnRetired) : laneAct 1 c s = (s.resetLane n, .done rOk ((s.resetLane n).lane n) 0) := by
  subst hn
  exact if_neg h

theorem laneAct_readapt (h : s.lane n ≠ lnRetired) :
    laneAct 2 c s = (s.linkChange (n / 8) (fun x => x.when (s.laneRuns n) (State.laneTo n lnAcquire)), .wait) := by
  subst hn
  exact if_neg h

theorem laneAct_return (h : s.lane n = lnRetired) :
    laneAct 4 c s = (s.linkChange (n / 8) (fun x => (x.laneTo n lnDown).laneCheck n),
      .done rOk ((s.linkChange (n / 8) (fun x => (x.laneTo n lnDown).laneCheck n)).lane n) 0) := by
  subst hn
  exact if_neg (not_not_intro h)

theorem laneAct_return_refused (h : s.lane n ≠ lnRetired) : laneAct 4 c s = (s, .done rState (s.lane n) 0) := by
  subst hn
  exact if_pos h

end

/-- A lane retired: its ports follow, and the host is told. -/
def State.laneRetires (n : Nat) (s : State) : State :=
  let v := s.linkChange (n / 8) (State.laneTo n lnRetired)
  (v.attn (2 ^ 10)).event 0x0502 n (v.rd (R.LANE_STATUS n)).toNat

theorem State.lane_laneRetires {n : Nat} (hn : n < 272) (s : State) : (s.laneRetires n).lane n = lnRetired := by
  have told : (s.laneRetires n).rd (R.LANE_STATUS n) = (s.linkChange (n / 8) (State.laneTo n lnRetired)).rd (R.LANE_STATUS n) :=
    (told_trans (State.attn_told (2 ^ 10) _) (State.event_told ..)).1 _ (not_toldAt_laneStatus hn)
  have followed : (s.linkChange (n / 8) (State.laneTo n lnRetired)).rd (R.LANE_STATUS n) = (s.laneTo n lnRetired).rd (R.LANE_STATUS n) :=
    State.rd_of_optics (State.optics_linkChange ..) (by unfold R.LANE_STATUS; omega) (by unfold R.LANE_STATUS; omega)
  exact (State.get_addr (f := F.LANE_STATUS_STATE n) (told.trans followed)).trans (State.lane_laneTo hn (by decide) s)

theorem laneAct_retire {c : Cmd} {s : State} {n : Nat} (hn : c.sub.P0 0 9 = n) (h : s.lane n ≠ lnRetired) :
    laneAct 3 c s = (s.laneRetires n, .done rOk ((s.laneRetires n).lane n) 0) := by
  subst hn
  exact if_neg h

section
variable {d : Submission} {s : State} {n : Nat} (hn : d.P0 0 9 = n)
include hn

/-- LANE_SET CONFIGURE: refused where it turns CLK_SYNC off under a lane in timing use. -/
theorem exec_laneSetConfigure (ready : Ready (specLane 0) d s) :
    ((s.on (F.LANE_CFG_CLK_SYNC n) && !bit (d.le 4 4) 5 && s.laneTimed n) = true →
      exec (.laneSetConfigure d) s = .next ((cmdOf 0x41 d s).ended rState (s.lane n) 0 (s.fetched d))) ∧
    ((s.on (F.LANE_CFG_CLK_SYNC n) && !bit (d.le 4 4) 5 && s.laneTimed n) = false → ∃ u,
      exec (.laneSetConfigure d) s = .next ((cmdOf 0x41 d s).ended rOk (u.lane n) 0 u) ∧
      u = (s.fetched d).laneConfigure n (d.le 4 4) (d.le 8 4) (d.le 12 4)) := by
  rw [← State.fetched_on d s, ← State.fetched_laneTimed d s, ← State.fetched_lane d s]
  exact ⟨fun timed => specLane_ends ready (laneAct_configure_refused (c := cmdOf 0x41 d s) hn timed),
    fun free => ⟨_, specLane_ends ready (laneAct_configure (c := cmdOf 0x41 d s) hn free), rfl⟩⟩

/-- LANE_SET of a retired lane. -/
theorem exec_laneSet_retired (retired : s.lane n = lnRetired) :
    (Ready (specLane 1) d s → exec (.laneSetReset d) s = .next ((cmdOf 0x41 d s).ended rState lnRetired 0 (s.fetched d))) ∧
    (Ready (specLane 2) d s → exec (.laneSetReadapt d) s = .next ((cmdOf 0x41 d s).ended rState lnRetired 0 (s.fetched d))) ∧
    (Ready (specLane 3) d s → exec (.laneSetRetire d) s = .next ((cmdOf 0x41 d s).ended rState lnRetired 0 (s.fetched d))) ∧
    (Ready (specLane 4) d s → ∃ u, exec (.laneSetReturn d) s = .next ((cmdOf 0x41 d s).ended rOk (u.lane n) 0 u) ∧
      u = (s.fetched d).linkChange (n / 8) (fun x => (x.laneTo n lnDown).laneCheck n)) := by
  rw [← State.fetched_lane d s] at retired
  have refused : ∀ action ∈ [1, 2, 3], laneAct action (cmdOf 0x41 d s) (s.fetched d) = (s.fetched d, .done rState lnRetired 0) :=
    fun action ha => laneAct_retired (c := cmdOf 0x41 d s) hn ha retired
  exact ⟨fun ready => specLane_ends ready (refused 1 (by decide)), fun ready => specLane_ends ready (refused 2 (by decide)),
    fun ready => specLane_ends ready (refused 3 (by decide)),
    fun ready => ⟨_, specLane_ends ready (laneAct_return (c := cmdOf 0x41 d s) hn retired), rfl⟩⟩

/-- LANE_SET of any other lane. -/
theorem exec_laneSet_inService (lt : n < 272) (kept : s.lane n ≠ lnRetired) :
    (Ready (specLane 1) d s → ∃ u, exec (.laneSetReset d) s = .next ((cmdOf 0x41 d s).ended rOk (u.lane n) 0 u) ∧
      u = (s.fetched d).resetLane n) ∧
    (Ready (specLane 2) d s → ∃ f, exec (.laneSetReadapt d) s = .next ((cmdOf 0x41 d s).goesOn ((s.fetched d).linkChange (n / 8) f)) ∧
      (s.lane n = lnHold ∨ s.lane n = lnUp ∨ s.lane n = lnAcquire → (f (s.fetched d)).lane n = lnAcquire)) ∧
    (Ready (specLane 3) d s → ∃ u v, exec (.laneSetRetire d) s = .next ((cmdOf 0x41 d s).ended rOk (u.lane n) 0 u) ∧
      v = (s.fetched d).linkChange (n / 8) (State.laneTo n lnRetired) ∧
      u = (v.attn (2 ^ 10)).event 0x0502 n (v.rd (R.LANE_STATUS n)).toNat ∧ u.lane n = lnRetired) ∧
    (Ready (specLane 4) d s → exec (.laneSetReturn d) s = .next ((cmdOf 0x41 d s).ended rState (s.lane n) 0 (s.fetched d))) := by
  rw [← State.fetched_lane d s] at kept ⊢
  refine ⟨fun ready => ⟨_, specLane_ends ready (laneAct_reset (c := cmdOf 0x41 d s) hn kept), rfl⟩,
    fun ready => ⟨_, specLane_begins ready (laneAct_readapt (c := cmdOf 0x41 d s) hn kept), fun runs => ?_⟩,
    fun ready => ⟨(s.fetched d).laneRetires n, _, specLane_ends ready (laneAct_retire (c := cmdOf 0x41 d s) hn kept), rfl, rfl,
      State.lane_laneRetires lt _⟩,
    fun ready => specLane_ends ready (laneAct_return_refused (c := cmdOf 0x41 d s) hn kept)⟩
  have running : (s.fetched d).laneRuns n = true := by
    unfold State.laneRuns
    rcases runs with h | h | h <;> rw [h] <;> decide
  rw [running]
  exact State.lane_laneTo lt (by decide) _

end

theorem State.rd_eqChange (n : Nat) (f : State → State) (s : State) (a : Nat) : (s.eqChange n f).rd a = (f s).rd a := by
  unfold State.eqChange
  dsimp only
  split <;> rfl

/-- Registers written with the move of the peaking codes that follows: those registers, and the move. -/
theorem sameBut_eqChange {l : List Nat} {f : State → State} {s : State} (h : SameBut l s (f s)) (n : Nat) :
    SameBut l { s with eqMoves := (s.eqChange n f).eqMoves } (s.eqChange n f) := by
  refine ⟨fun a away => (State.rd_eqChange n f s a).trans (h.1 a away), ?_⟩
  have moved : ∀ m, ({ f s with eqMoves := m, regs := s.regs } : State) = { s with eqMoves := m } := fun m =>
    congrArg (fun t : State => { t with eqMoves := m }) h.2
  unfold State.eqChange
  dsimp only
  split <;> exact moved _

/-- The codes that a READAPT has found, in LANE_EQ of an optical lane. -/
def State.laneAdapted (n rx tx : Nat) (s : State) : State :=
  s.when (decide (n < 256)) (fun s =>
    s.eqChange n (fun s => (s.set (F.LANE_EQ_CTLE_RX n) (min rx 24)).set (F.LANE_EQ_CTLE_TX n) (min tx 24)))

section
variable (n rx tx : Nat) (s : State)

theorem sameBut_laneAdapted : SameBut [R.LANE_EQ n] { s with eqMoves := (s.laneAdapted n rx tx).eqMoves } (s.laneAdapted n rx tx) := by
  unfold State.laneAdapted
  by_cases optical : n < 256
  · rw [decide_eq_true optical, State.when_true]
    have codes : SameBut [R.LANE_EQ n] s ((s.set (F.LANE_EQ_CTLE_RX n) (min rx 24)).set (F.LANE_EQ_CTLE_TX n) (min tx 24)) :=
      sameBut_trans (sameBut_set (f := F.LANE_EQ_CTLE_RX n) (List.mem_singleton_self _) _ _)
        (sameBut_set (f := F.LANE_EQ_CTLE_TX n) (List.mem_singleton_self _) _ _)
    exact sameBut_eqChange codes n
  · rw [decide_eq_false optical, State.when_false]
    exact sameBut_refl _ s

theorem State.lane_laneAdapted : (s.laneAdapted n rx tx).lane n = s.lane n :=
  State.get_addr (f := F.LANE_STATUS_STATE n) ((sameBut_laneAdapted n rx tx s).1 (R.LANE_STATUS n)
    (by rw [List.mem_singleton]; unfold R.LANE_STATUS R.LANE_EQ; omega))

theorem State.nt_laneAdapted : (s.laneAdapted n rx tx).nt = s.nt := by
  have e := congrArg State.nt (sameBut_laneAdapted n rx tx s).2
  exact e

theorem State.codes_laneAdapted (optical : n < 256) : (s.laneAdapted n rx tx).get (F.LANE_EQ_CTLE_RX n) = min rx 24 ∧
    (s.laneAdapted n rx tx).get (F.LANE_EQ_CTLE_TX n) = min tx 24 := by
  have fits : ∀ v, min v 24 % 2 ^ 5 = min v 24 := fun v => Nat.mod_eq_of_lt (by omega)
  unfold State.laneAdapted
  rw [decide_eq_true optical, State.when_true]
  refine ⟨(State.get_addr (State.rd_eqChange ..)).trans ?_, (State.get_addr (State.rd_eqChange ..)).trans ?_⟩
  · refine (State.get_set_ne (f := F.LANE_EQ_CTLE_TX n) (g := F.LANE_EQ_CTLE_RX n) rfl (.inl (show 0 + 5 ≤ 8 by decide))
      (show 0 + 5 ≤ 32 by decide) _ _).trans ?_
    exact (State.get_set_self (f := F.LANE_EQ_CTLE_RX n) (show 0 + 5 ≤ 32 by decide) _ s).trans (fits rx)
  · exact (State.get_set_self (f := F.LANE_EQ_CTLE_TX n) (show 8 + 5 ≤ 32 by decide) _ _).trans (fits tx)

end

theorem exec_readaptDone_none {n rx tx : Nat} {s : State} (h : ∀ x ∈ s.accepted, ¬(x.begun = true ∧ isReadapt n x = true)) :
    exec (.readaptDone n rx tx) s = .next s := by
  refine if_neg (fun g => ?_)
  obtain ⟨x, hx, found⟩ := List.any_eq_true.1 g
  exact h x hx (Bool.and_eq_true_iff.1 found)

theorem exec_readaptDone_begun {n rx tx : Nat} {s : State} (h : ∃ x ∈ s.accepted, x.begun = true ∧ isReadapt n x = true) :
    exec (.readaptDone n rx tx) s = .next ((s.laneAdapted n rx tx).finish (isReadapt n) rOk s.nt (s.lane n) 0) := by
  obtain ⟨x, hx, found⟩ := h
  have begun : s.accepted.any (fun c => c.begun && isReadapt n c) = true := List.any_eq_true.2 ⟨x, hx, Bool.and_eq_true_iff.2 found⟩
  rw [← State.nt_laneAdapted n rx tx s, ← State.lane_laneAdapted n rx tx s]
  exact if_pos begun

/-- Settles O44: the changes of state by what they leave of the lane's word, timers and count of link downs, LANE_SET by its actions. -/
theorem lanesFollowTheirStates : Obligations.LanesFollowTheirStates := by
  unfold Obligations.LanesFollowTheirStates
  intro s d n rx tx ins g w hn
  refine ⟨fun runs => ⟨_, exec_laneLockGained hn runs, State.laneGains_effect n g s⟩, exec_laneLockGained_rests, exec_laneAcquireTimeout_rests,
    fun holds due => ⟨_, exec_linkUpHoldExpiry hn holds due, State.laneComesUp_up hn s⟩, exec_linkUpHoldExpiry_rests,
    fun lane runs lost => ⟨_, exec_laneLockLost hn lane runs lost, ?_⟩, exec_laneLockLost_rests, exec_laneAcquireTimeout hn,
    fun kept works => ⟨_, exec_serdesFault hn kept works, State.lane_laneFails hn s⟩, exec_serdesFault_rests,
    fun lock => ⟨exec_lpiReceived hn lock, exec_fecDegradedSet hn lock⟩, exec_unlocked, exec_fecDegradedClear hn,
    fun alone => ?_, fun both => ?_,
    fun lane => ⟨fun ready => (exec_laneSetConfigure lane ready).1, fun ready => (exec_laneSetConfigure lane ready).2,
      exec_laneSet_retired lane, exec_laneSet_inService lane hn⟩,
    exec_readaptDone_none, fun begun => ⟨_, sameBut_laneAdapted n rx tx s, exec_readaptDone_begun begun, State.codes_laneAdapted n rx tx s⟩⟩
  · exact State.laneLoses_effect hn _ (s.cutShort (s.leadOf n) w.rx)
  · rw [exec_elasticSlip hn ins, alone, State.when_false]
  · rw [exec_elasticSlip hn ins, both, State.when_true]

end Sys2Proof.Machine
end


section
/-! Heads at the heddles: dispatch by the node's pointer, the decision, and errors of the heddles' memories (06 R221; 07 R261 to R289, R304). -/

namespace Sys2Proof.Machine

open Sys2Proof

/-! ### HEAD_DISPATCH (07 R261) -/

theorem State.modFrame_of_found {s : State} {id : Nat} {x : Frame} (found : s.frame id = some x) (g : Frame → Frame) :
    s.modFrame id g = { s with frames := Tbl.ins id (g x) s.frames } := by
  unfold State.modFrame
  rw [found]

/-- The heddle picked is in service, has room, and is one of its node's bank. -/
theorem State.pickHeddle_some {s : State} {n noRoom h : Nat} (pick : s.pickHeddle n noRoom = some h) :
    s.on ⟨R.HED_STATUS, h, 1⟩ = true ∧ bit noRoom h = false ∧ h / 8 = bankOf n := by
  have fit := List.find?_some pick
  have listed := List.mem_of_find?_eq_some pick
  obtain ⟨serves, room⟩ := Bool.and_eq_true_iff.1 fit
  obtain ⟨i, _, rfl⟩ := List.mem_map.1 listed
  exact ⟨serves, by simpa using room, by omega⟩

section
variable {s : State} {n id noRoom h : Nat} {l : List Byte} {f : Frame}

/-- A head without a sequence number takes its port's next one, and goes to the heddle. -/
theorem State.dispatch_unnumbered (found : s.frame id = some f) (fresh : f.hseq = none) (h : Nat) : s.dispatch id f h =
    { s with
      hedPtr := Tbl.ins f.inNode ((h + 1) % 8) s.hedPtr
      headSeq := Tbl.ins f.qport ((s.headSeq.getD f.qport 0 + 1) % 65536) s.headSeq
      frames := Tbl.ins id { f with stage := .heddle h, hseq := some (s.headSeq.getD f.qport 0) } s.frames } := by
  unfold State.dispatch
  rw [fresh]
  dsimp only
  exact State.modFrame_of_found (by exact found) _

theorem exec_headDispatch_head (found : s.frame id = some f) (node : f.inNode = n) (waits : f.stage = .head)
    (first : s.headBefore f = false) (pick : s.pickHeddle n noRoom = some h) :
    exec (.headDispatch n id l noRoom) s = .next (s.dispatch id f h) := by
  show execHeadDispatch n id l noRoom s = _
  simp [execHeadDispatch, found, pick, node, first, waits]

theorem exec_headDispatch_full (full : s.pickHeddle n noRoom = none) : exec (.headDispatch n id l noRoom) s = .next s := by
  show execHeadDispatch n id l noRoom s = _
  unfold execHeadDispatch
  rw [full]
  cases s.frame id <;> rfl

theorem exec_headDispatch_gone (gone : s.frame id = none) : exec (.headDispatch n id l noRoom) s = .next s := by
  show execHeadDispatch n id l noRoom s = _
  unfold execHeadDispatch
  rw [gone]

theorem exec_headDispatch_notNext (found : s.frame id = some f) (later : s.headBefore f = true ∨ f.inNode ≠ n) :
    exec (.headDispatch n id l noRoom) s = .next s := by
  cases pick : s.pickHeddle n noRoom with
  | none => exact exec_headDispatch_full pick
  | some h =>
    show execHeadDispatch n id l noRoom s = _
    unfold execHeadDispatch
    rw [found, pick]
    exact if_pos later.symm

/-! ### HEAD_DECISION (07 R264, R268 to R290) -/

theorem exec_headDecision_elsewhere (found : s.frame id = some f) (elsewhere : ∀ k, f.stage ≠ .heddle k) :
    exec (.headDecision id) s = .next s := by
  show execHeadDecision id s = _
  unfold execHeadDecision
  rw [found]
  dsimp only
  split
  next k there => exact absurd there (elsewhere k)
  next => rfl

theorem exec_headDecision_at (found : s.frame id = some f) (stage : f.stage = .heddle h) : exec (.headDecision id) s =
    if s.beamFull f then .next s else .next (((s.decideHead id h f).afterDecision id).updHeld) := by
  show execHeadDecision id s = _
  unfold execHeadDecision
  rw [found]
  dsimp only
  rw [stage]

theorem State.decideHead_direct (direct : f.direct = true) (id h : Nat) (s : State) :
    s.decideHead id h f = s.modFrame id (fun f => { f with stage := .beam }) := if_pos direct

/-- What the last byte's checks settle waits for the last byte. -/
theorem State.afterDecision_arriving (found : s.frame id = some f) (arriving : f.whole = false) : s.afterDecision id = s := by
  unfold State.afterDecision
  rw [found]
  exact if_pos (by rw [arriving]; rfl)

/-- A direct frame that still arrives is only passed to the beam. -/
theorem State.afterDecision_direct (found : s.frame id = some f) (direct : f.direct = true) (arriving : f.whole = false) (h : Nat) :
    (s.decideHead id h f).afterDecision id = s.modFrame id (fun f => { f with stage := .beam }) := by
  rw [State.decideHead_direct direct]
  exact State.afterDecision_arriving (State.frame_modFrame_self found _) arriving

end

/-! ### HED_ECC_REPAIR (07 R304) -/

/-- An uncorrectable error shown: which memory's word, of which generation and unit. -/
def State.eccShown (mem gen unit src : Nat) (s : State) : State :=
  (((s.set F.HED_ECC_ADDR_MEMORY mem).set F.HED_ECC_ADDR_GEN (if mem ≤ 2 then gen else 0)).set F.HED_ECC_ADDR_UNIT unit).hedEvent 2 src

section
variable {s : State} {mem gen unit src id : Nat} {f : Frame}

theorem exec_hedEccRepair_noFrame (gone : (s.eccShown mem gen unit src).frame id = none) :
    exec (.hedEccRepair false mem gen unit src id) s = .next (s.eccShown mem gen unit src) := by
  unfold State.eccShown at gone ⊢
  show execHedEccRepair false mem gen unit src id s = _
  simp [execHedEccRepair, gone]

theorem exec_hedEccRepair_whole (found : (s.eccShown mem gen unit src).frame id = some f) (stage : f.stage = .heddle src)
    (whole : f.whole = true) :
    exec (.hedEccRepair false mem gen unit src id) s = .next ((s.eccShown mem gen unit src).endFrame id 0x60) := by
  unfold State.eccShown at found ⊢
  show execHedEccRepair false mem gen unit src id s = _
  simp [execHedEccRepair, found, stage, whole]

end

/-- Settles O31: each row by what it finds: the frame, where it stands, and the heddle that the pointer gives. -/
theorem headsAreDispatchedAndDecided : Obligations.HeadsAreDispatchedAndDecided := by
  unfold Obligations.HeadsAreDispatchedAndDecided
  intro s n id noRoom h mem gen unit src l f
  refine ⟨?dispatch, ?rests, ?full, ?decides, exec_headDecision_elsewhere, rfl, ⟨s.eccShown mem gen unit src, rfl, ?_, ?_⟩⟩
  case dispatch =>
    rintro found rfl waits first pick fresh
    obtain ⟨serves, room, bank⟩ := State.pickHeddle_some pick
    refine ⟨_, (exec_headDispatch_head found rfl waits first pick).trans (congrArg _ (State.dispatch_unnumbered found fresh h)),
      serves, room, bank, rfl, rfl, Tbl.find_ins_self .., rfl⟩
  case rests =>
    rintro (full | ⟨found, later⟩ | gone)
    · exact exec_headDispatch_full full
    · exact exec_headDispatch_notNext found later
    · exact exec_headDispatch_gone gone
  case full => exact fun found stage full => (exec_headDecision_at found stage).trans (if_pos full)
  case decides =>
    intro found stage room
    have decided := (exec_headDecision_at found stage).trans (if_neg (ne_true_of_eq_false room))
    exact ⟨fun _ => decided, fun direct arriving => by rw [decided, State.afterDecision_direct found direct arriving]⟩
  · exact exec_hedEccRepair_noFrame
  · exact exec_hedEccRepair_whole

end Sys2Proof.Machine
end


section
/-! Reception and flow control: first and last bytes, receive fates, PAUSE and PFC, and the buffers of launch frames (06 R215 to R235, R251;
08 R330; 17 R597). -/

namespace Sys2Proof.Machine

open Sys2Proof

/-! ### FRAME_FIRST_BYTE (06 R232, R243, R255; 08 R330) -/

/-- A frame of port `p` as its first byte finds the port: received at `t`, with filters `fs` and MAX_FRAME `m`. -/
def State.arrival (s : State) (p t : Nat) (ctl : Bool) (fs : List (Nat × Nat × Nat)) (m : Nat) : Frame :=
  { port := p, tin := t, tinDeg := s.degraded, stage := .receiving, inLedger := !ctl, stored := s.admits p, flushed := false,
    reserve := s.held p && s.fcMode p != 0, filters := fs, maxFrame := m, gen := s.genAt t, root := s.nextId }

/-- The filters and MAX_FRAME that a frame received at `t` meets on port `p`. -/
def State.limitsAt (s : State) (p t : Nat) : List (Nat × Nat × Nat) × Nat :=
  match Tbl.find p s.macWas with
  | some w => if t < w.till then (w.filters, w.maxFrame) else (s.filtersOf p, s.maxFrame p)
  | none => (s.filtersOf p, s.maxFrame p)

section
variable {s : State} {p tm n : Nat} {ctl : Bool}

theorem exec_frameFirstByte_receives (front : p < 272) (up : s.portUp p = true) (ports : s.heldDomain 8 = false)
    (node : nodeOf p ∉ s.nodeRst) (port : p ∉ s.portRst) (free : ∀ y ∈ s.frames, y.2.underway p = false) :
    exec (.frameFirstByte p tm n ctl) s = .next ((s.when (!ctl) (State.enter p)).addFrame
      (s.arrival p (s.rxTime p tm n) ctl (s.limitsAt p (s.rxTime p tm n)).1 (s.limitsAt p (s.rxTime p tm n)).2)) := by
  have receives : ¬(272 ≤ p ∨ (!s.portUp p) = true ∨ s.heldDomain 8 = true ∨ s.nodeRst.contains (nodeOf p) = true ∨
      s.frames.any (fun x => x.2.underway p) = true) := by
    simp [up, ports, node, Nat.not_le.2 front, List.any_eq_false.2 (fun y hy => ne_true_of_eq_false (free y hy))]
  have unreset : s.portRst.contains p = false := by simp [port]
  show execFrameFirstByte p tm n ctl s = _
  unfold execFrameFirstByte
  rw [if_neg receives]
  dsimp only
  rw [unreset, Bool.or_false]
  rfl

theorem exec_frameFirstByte_idle (idle : 272 ≤ p ∨ s.portUp p = false ∨ ∃ y ∈ s.frames, y.2.underway p = true) :
    exec (.frameFirstByte p tm n ctl) s = .next s := by
  refine if_pos ?_
  rcases idle with above | down | busy
  · exact .inl above
  · exact .inr (.inl (by rw [down]; rfl))
  · exact .inr (.inr (.inr (.inr (List.any_eq_true.2 busy))))

end

/-! ### Receive fates (06 R215, R224) -/

section
variable {m : Nat} {l : List Byte}

theorem rxFate_pcs (m : Nat) (l : List Byte) : rxFate m l true = 0x13 := rfl

theorem rxFate_short (short : l.length < 64) : rxFate m l false = 0x11 := by
  simp [rxFate, short]

theorem rxFate_long (enough : 64 ≤ l.length) (long : m < l.length) : rxFate m l false = 0x12 := by
  simp [rxFate, Nat.not_lt.2 enough, long]

theorem rxFate_fcs (enough : 64 ≤ l.length) (fits : l.length ≤ m) :
    rxFate m l false = if leAt l (l.length - 4) 4 ≠ crc32 (l.take (l.length - 4)) then 0x10 else 0 := by
  simp [rxFate, Nat.not_lt.2 enough, Nat.not_lt.2 fits]

end

/-- A frame that no heddle has seen ends with its receive fate. -/
theorem State.rxBad_ends {f : Frame} (stage : f.stage = .receiving) (stored : f.cut = false) (entered : f.inLedger = true) {l : List Byte}
    {fate : Nat} (plain : fate = 0x10 → stomped l = false) (id : Nat) (s : State) : s.rxBad id f l fate = s.endFrame id fate := by
  have unstomped : ¬(fate = 0x10 ∧ stomped l = true) := fun ⟨bad, inverse⟩ => Bool.noConfusion ((plain bad).symm.trans inverse)
  have known : s.enterLate f = s := if_pos entered
  unfold State.rxBad
  simp [known, unstomped, stage, stored]

/-- A frame of a VID that its port is no member of, where the port filters (06 R227). -/
theorem State.verdict_notMember {s : State} {p : Nat} {l : List Byte} (ingress : s.on (F.MAC_CFG_INGRESS_FILTER p) = true)
    (outside : s.member p (s.vidPrio p l).1 = false) (filters : List (Nat × Nat × Nat)) : (s.verdict p filters l).fate = some 0x23 := by
  unfold State.verdict
  dsimp only
  rw [if_pos ⟨ingress, by rw [outside]; rfl⟩]

/-! ### FRAME_LAST_BYTE and CONTROL_FRAME_RECEIVE (05 R211; 06 R216, R233; 17 R597) -/

section
variable {s : State} {p id : Nat} {l : List Byte} {pcs : Bool} {f : Frame}

/-- In near-end loopback the bytes that arrive are those that the port sent, whatever the line brings. -/
theorem State.lastByte_nearEnd (near : s.get (F.LANE_CFG_LOOPBACK p) = 1) (l : List Byte) (pcs : Bool) :
    s.lastByte p l pcs = s.lastByte p (s.sent.getD p l) pcs := by
  have again : s.sent.getD p (s.sent.getD p l) = s.sent.getD p l := by
    unfold Tbl.getD
    cases Tbl.find p s.sent <;> rfl
  unfold State.lastByte
  simp only [near, if_true, again]

theorem State.lastByte_none (quiet : s.firstBy (fun f => f.underway p) = none) (line : s.get (F.LANE_CFG_LOOPBACK p) ≠ 2) :
    s.lastByte p l pcs = s := by
  simp [State.lastByte, line, quiet]

/-- In far-end loopback the port sends again what arrives. -/
theorem State.lastByte_none_farEnd (quiet : s.firstBy (fun f => f.underway p) = none) (far : s.get (F.LANE_CFG_LOOPBACK p) = 2) :
    s.lastByte p l pcs = { s with sent := Tbl.ins p l s.sent } := by
  have still : ({ s with sent := Tbl.ins p l s.sent } : State).firstBy (fun f => f.underway p) = none := quiet
  simp [State.lastByte, far, still]

theorem exec_frameLastByte {t : State} (ends : s.lastByte p l pcs = t) : exec (.frameLastByte p l pcs) s = .next t.updHeld :=
  congrArg (fun u : State => Host.Outcome.next u.updHeld) ends

theorem exec_controlFrameReceive {t : State} (ends : s.lastByte p l false = t) : exec (.controlFrameReceive p l) s = .next t.updHeld :=
  congrArg (fun u : State => Host.Outcome.next u.updHeld) ends

section
variable (line : s.get (F.LANE_CFG_LOOPBACK p) = 0) (first : s.firstBy (fun f => f.underway p) = some (id, f)) (unreset : f.flushed = false)
include line first unreset

theorem State.lastByte_bad (bad : rxFate f.maxFrame l pcs ≠ 0) : s.lastByte p l pcs = s.rxBad id f l (rxFate f.maxFrame l pcs) := by
  simp [State.lastByte, line, first, unreset, bad]

theorem State.lastByte_control (good : rxFate f.maxFrame l pcs = 0) (kind : s.consumed p l = 1) :
    s.lastByte p l pcs = (s.control p (etherAt (s.sTpid p) l) l).dropFrame id := by
  simp [State.lastByte, line, first, unreset, good, kind]

/-- A frame of no consumed kind that passed its receive checks is counted, and judged by membership, the filters and the halter. -/
theorem State.lastByte_judged (entered : f.inLedger = true) (good : rxFate f.maxFrame l pcs = 0) (kind : s.consumed p l = 0) :
    (∀ code, (s.verdict p f.filters l).fate = some code → s.lastByte p l pcs = ((s.traffic p 0 1).traffic p 1 l.length).endFrame id code) ∧
    ((s.verdict p f.filters l).fate = none → s.lastByte p l pcs =
      if f.stored then ((s.traffic p 0 1).traffic p 1 l.length).rxGood id f l (s.verdict p f.filters l)
      else ((s.traffic p 0 1).traffic p 1 l.length).endFrame id 0x30) := by
  have known : s.enterLate f = s := if_pos entered
  constructor
  · intro code fate
    simp [State.lastByte, line, first, unreset, good, kind, known, fate]
  · intro fate
    simp [State.lastByte, line, first, unreset, good, kind, known, fate]

end

end

/-! ### PAUSE and PFC (06 R233 to R235) -/

section
variable {s : State} {p e : Nat} {l : List Byte}

theorem State.control_pause (mode : s.fcMode p = 1) (op : beAt l (e + 2) 2 = 1) :
    s.control p e l = ((s.traffic p 4 1).holdClass p 8 (beAt l (e + 4) 2)).raise .mac 4 p := by
  simp [State.control, mode, op]

/-- A control frame that is not of the port's mode is only counted. -/
theorem State.control_other (other : s.fcMode p = 0 ∨ (s.fcMode p = 1 ∧ beAt l (e + 2) 2 ≠ 1) ∨ (s.fcMode p = 2 ∧ beAt l (e + 2) 2 ≠ 0x0101)) :
    s.control p e l = s.traffic p 8 1 := by
  unfold State.control
  dsimp only
  split
  next mode op => omega
  next mode op => omega
  next => rfl

end

theorem State.get_holdClass_paused (p q : Nat) (s : State) : (s.holdClass p 8 q).get (F.MAC_STATUS_RX_PAUSED p) = if q = 0 then 0 else 1 := by
  unfold State.holdClass
  dsimp only
  split
  · exact State.get_set_self (f := F.MAC_STATUS_RX_PAUSED p) (show 0 + 1 ≤ 32 by decide) 0 s
  · exact State.get_set_self (f := F.MAC_STATUS_RX_PAUSED p) (show 0 + 1 ≤ 32 by decide) 1 _

theorem State.timer_holdClass (p c q : Nat) (s : State) : (s.holdClass p c q).timer (.pauseHold p c) = if q = 0 then none else some 0 := by
  unfold State.holdClass
  dsimp only
  split
  · exact State.timer_stop_self ..
  · exact State.timer_start_self ..

/-- A hold sent in PFC mode: its frame queued, every class shown held, and its repeat timed. -/
theorem State.sendHold_pfc {s : State} {p : Nat} (mode : s.fcMode p = 2) (port : p ∉ s.portRst) : s.sendHold p =
    (({ s with ctlQ := s.ctlQ ++ [{ port := p, opcode := 0x0101, vec := 0xFF, time := s.quanta p }] } : State).set
      (F.MAC_STATUS_XOFF_SENT p) 0xFF).start (.pauseRepeat p) := by
  simp [State.sendHold, State.sendCtl, mode, port]

theorem exec_pauseRepeat_none {s : State} {p : Nat} (released : s.get (F.MAC_STATUS_XOFF_SENT p) = 0) :
    exec (.pauseRepeat p) s = .next s := if_neg (fun due => due.1 released)

/-! ### LAUNCH_FETCH (06 R251) -/

section
variable {s : State} {id p t : Nat} {f : Frame} {key : Nat × Nat × Nat} {x : Cmd}

theorem exec_launchFetch_unread (found : s.frame id = some f) (stage : f.stage = .unread) (launch : f.launch = some (t : Int))
    (cmd : f.cmd = some key) (dest : f.dest = .port p) (taken : s.accepted.find? (fun c => c.begun && c.key == key) = some x) :
    exec (.launchFetch id) s = if s.nt + s.fetchUs p * us < t then .next s
      else .next (if x.sub.block = none then s.launchUnread id x else s.hostRead id x.sub) := by
  show execLaunchFetch id s = _
  simp only [execLaunchFetch, found, stage, launch, cmd, dest, taken, Nat.cast_lt, Option.isNone_iff_eq_none]

theorem exec_launchFetch_gone (gone : s.frame id = none) : exec (.launchFetch id) s = .next s := by
  show execLaunchFetch id s = _
  unfold execLaunchFetch
  rw [gone]

end

/-- Settles O33: the first byte by what the port meets, the last byte by the first receive fate that applies, holds by the bit and the timer of
their class, and a launch frame by its time and its buffer. -/
theorem framesAreReceivedAndJudged : Obligations.FramesAreReceivedAndJudged := by
  unfold Obligations.FramesAreReceivedAndJudged
  intro s p tm n id c q t e ctl pcs l f key x w passed first
  refine ⟨?firstByte, exec_frameFirstByte_idle, ?nearEnd, ?noFrame, ?farEnd, ?lastByte, fun on out => State.verdict_notMember on out f.filters,
    State.control_pause, State.control_other, ?hold, ?expires, fun early => if_neg (ne_true_of_eq_false early), ?repeats, exec_pauseRepeat_none,
    ?launch, exec_launchFetch_gone⟩
  case firstByte =>
    intro front up ports node port free
    have receives := exec_frameFirstByte_receives (tm := tm) (n := n) (ctl := ctl) front up ports node port free
    refine ⟨fun set => ?_, fun was => ?_⟩
    · rw [receives, State.limitsAt, set]
      rfl
    · rw [receives, State.limitsAt, was]
      dsimp only
      split <;> rfl
  case nearEnd => exact fun near => exec_frameLastByte (State.lastByte_nearEnd near l pcs)
  case noFrame =>
    intro quiet line
    exact ⟨exec_frameLastByte (State.lastByte_none quiet line), exec_controlFrameReceive (State.lastByte_none quiet line)⟩
  case farEnd => exact fun quiet far => exec_frameLastByte (State.lastByte_none_farEnd quiet far)
  case lastByte =>
    intro first line unreset stage stored entered
    have ended : ∀ {bad : Bool} {fate : Nat}, rxFate f.maxFrame l bad = fate → fate ≠ 0 → (fate = 0x10 → stomped l = false) →
        exec (.frameLastByte p l bad) s = .next (s.endFrame id fate).updHeld := by
      rintro bad _ rfl fails plain
      refine exec_frameLastByte ?_
      rw [State.lastByte_bad line first unreset fails, State.rxBad_ends stage stored entered plain]
    refine ⟨ended (rxFate_pcs ..) (by decide) nofun, fun short => ended (rxFate_short short) (by decide) nofun,
      fun enough long => ended (rxFate_long enough long) (by decide) nofun,
      fun enough fits wrong plain => ended ((rxFate_fcs enough fits).trans (if_pos wrong)) (by decide) (fun _ => plain),
      fun enough fits right => ?_⟩
    have good : rxFate f.maxFrame l false = 0 := (rxFate_fcs enough fits).trans (if_neg (not_not_intro right))
    refine ⟨fun kind => ?_, fun kind => exec_controlFrameReceive (State.lastByte_control line first unreset good kind)⟩
    obtain ⟨discarded, passes⟩ := State.lastByte_judged line first unreset entered good kind
    exact ⟨fun code fate => exec_frameLastByte (discarded code fate), fun fate =>
      ⟨fun refused => exec_frameLastByte ((passes fate).trans (if_neg (ne_true_of_eq_false refused))),
        fun admitted => exec_frameLastByte ((passes fate).trans (if_pos admitted))⟩⟩
  case hold =>
    intro lasting
    exact ⟨(State.get_holdClass_paused p q s).trans (if_neg lasting), (State.timer_holdClass p 8 q s).trans (if_neg lasting)⟩
  case expires => exact fun due => ⟨if_pos due, State.get_holdClass_paused p 0 s, State.timer_holdClass p c 0 s⟩
  case repeats =>
    intro held due mode port
    refine ⟨_, (if_pos ⟨held, due⟩).trans (congrArg _ (State.sendHold_pfc mode port)), rfl, ?_, State.timer_start_self .., rfl⟩
    exact State.get_set_self (f := F.MAC_STATUS_XOFF_SENT p) (show 16 + 8 ≤ 32 by decide) 0xFF _
  case launch =>
    intro found stage launch cmd dest taken
    have fetch := exec_launchFetch_unread found stage launch cmd dest taken
    exact ⟨fun come readable => fetch.trans ((if_neg (Nat.not_lt.2 come)).trans (congrArg _ (if_neg readable))),
      fun come unreadable => fetch.trans ((if_neg (Nat.not_lt.2 come)).trans (congrArg _ (if_pos unreadable))),
      fun early => fetch.trans (if_pos early)⟩

end Sys2Proof.Machine
end


section
/-! Parse graphs in service: HEDDLE_LOAD, heddles drained and read back, and graph errors (07 R298 to R304). -/

namespace Sys2Proof.Machine

open Sys2Proof

/-! ### What fetching leaves of the heddles -/

@[simp] theorem State.fetched_hedJobs (d : Submission) (s : State) : (s.fetched d).hedJobs = s.hedJobs := by rw [State.fetched_eq]

@[simp] theorem State.fetched_hed (d : Submission) (s : State) (h : Nat) : (s.fetched d).hed h = s.hed h := State.fetched_get d s _

@[simp] theorem State.fetched_bankBusy (d : Submission) (s : State) (h : Nat) : (s.fetched d).bankBusy h = s.bankBusy h := by
  simp only [State.bankBusy, State.fetched_hed]

@[simp] theorem State.fetched_hedQ1 (d : Submission) (s : State) (h : Nat) : (s.fetched d).hedQ1 h = s.hedQ1 h := by
  simp only [State.hedQ1, State.fetched_hed, State.fetched_get]

/-! ### HEDDLE_LOAD (07 R300, R301) -/

/-- A command put on heddle `h`, under way until the event that ends it. -/
def State.putHedJob (h kind : Nat) (c : Cmd) (s : State) : State :=
  { s with hedJobs := Tbl.ins h { kind := kind, image := c.sub.bytes.drop 8, cmd := c } s.hedJobs }

section
variable {s : State} {c : Cmd} {h k : Nat}

/-- A command that its bank allows, on a heddle with none under way: what it does by the heddle's state. -/
theorem heddleAct_allowed (heddle : c.sub.P0 0 5 = h) (idle : s.hedJobs.has h = false) (bank : k < 2 → s.bankBusy h = false) :
    heddleAct k c s =
      if k < 2 ∧ s.hed h = hdIn then ((s.putHedJob h k c).setHed h hdDraining, .wait)
      else if k = 0 ∧ (s.hed h == hdOut || s.hed h == hdFault) = true then
        (((s.putHedJob h k c).writeGraph h (c.sub.bytes.drop 8)).setHed h hdLoading, .wait)
      else if k = 2 ∧ (s.hed h == hdOut || s.hed h == hdFault) = true then (s.putHedJob h k c, .wait)
      else (s, .done rState (s.hedQ1 h) 0) := by
  subst heddle
  have free : ¬(k < 2 ∧ s.bankBusy (c.sub.P0 0 5) = true) := fun ⟨away, busy⟩ => Bool.noConfusion ((bank away).symm.trans busy)
  exact (if_neg free).trans (if_neg (ne_true_of_eq_false idle))

theorem heddleAct_busy (heddle : c.sub.P0 0 5 = h) (away : k < 2) (busy : s.bankBusy h = true) :
    heddleAct k c s = (s, .done rBusy (s.hedQ1 h) 0) := by
  subst heddle
  exact if_pos ⟨away, busy⟩

section
variable (heddle : c.sub.P0 0 5 = h) (idle : s.hedJobs.has h = false)
include heddle idle

theorem heddleAct_drains (bank : s.bankBusy h = false) (away : k < 2) (serves : s.hed h = hdIn) :
    heddleAct k c s = ((s.putHedJob h k c).setHed h hdDraining, .wait) :=
  (heddleAct_allowed heddle idle (fun _ => bank)).trans (if_pos ⟨away, serves⟩)

/-- LOAD of a heddle that is OUT or in FAULT has nothing to drain: its graph is written at once. -/
theorem heddleAct_load_writes (bank : s.bankBusy h = false) (out : s.hed h = hdOut ∨ s.hed h = hdFault) :
    heddleAct 0 c s = (((s.putHedJob h 0 c).writeGraph h (c.sub.bytes.drop 8)).setHed h hdLoading, .wait) := by
  rw [heddleAct_allowed heddle idle (fun _ => bank)]
  rcases out with out | out <;> rw [out] <;> rfl

/-- ENABLE asks nothing of the bank's other heddles. -/
theorem heddleAct_enable_begins (out : s.hed h = hdOut ∨ s.hed h = hdFault) : heddleAct 2 c s = (s.putHedJob h 2 c, .wait) := by
  rw [heddleAct_allowed heddle idle (fun away => absurd away (by decide))]
  rcases out with out | out <;> rw [out] <;> rfl

theorem heddleAct_enable_serving (serves : s.hed h = hdIn) : heddleAct 2 c s = (s, .done rState (s.hedQ1 h) 0) := by
  rw [heddleAct_allowed heddle idle (fun away => absurd away (by decide)), serves]
  rfl

end

end

section
variable {s t : State} {d : Submission} {h k code : Nat}

theorem take_heddle_begins (ready : Ready (specHeddle k) d s) (acts : heddleAct k (cmdOf 0x4C d s) (s.fetched d) = (t, .wait)) :
    Host.Outcome.next ((specHeddle k).take 0x4C true d s) = (.next ((cmdOf 0x4C d s).goesOn t) : Host.Outcome State Fault Refusal) :=
  congrArg Host.Outcome.next (CmdSpec.take_begins ready (by decide) (by decide) rfl acts)

/-- A command refused at its boundary, with the heddle's state and GRAPH_ID in Q1. -/
theorem take_heddle_refused (ready : Ready (specHeddle k) d s)
    (acts : heddleAct k (cmdOf 0x4C d s) (s.fetched d) = (s.fetched d, .done code ((s.fetched d).hedQ1 h) 0)) :
    Host.Outcome.next ((specHeddle k).take 0x4C true d s) =
      (.next ((cmdOf 0x4C d s).ended code (s.hedQ1 h) 0 (s.fetched d)) : Host.Outcome State Fault Refusal) := by
  rw [State.fetched_hedQ1] at acts
  exact congrArg Host.Outcome.next (CmdSpec.take_ends ready (by decide) (by decide) rfl acts)

end

/-! ### HEDDLE_DRAINED and HEDDLE_READBACK_DONE (07 R301) -/

section
variable {s : State} {h : Nat} {j : HedJob}

theorem exec_heddleDrained_rests (rests : (∃ x ∈ s.frames, x.2.stage = .heddle h) ∨ s.hed h ≠ hdDraining) :
    exec (.heddleDrained h) s = .next s :=
  if_pos (rests.symm.imp_right (fun ⟨x, hx, there⟩ => List.any_eq_true.2 ⟨x, hx, beq_iff_eq.2 there⟩))

/-- A draining heddle with no head left: a LOAD writes its graph, a DISABLE takes the heddle out. -/
theorem exec_heddleDrained_empty (draining : s.hed h = hdDraining) (empty : ∀ x ∈ s.frames, x.2.stage ≠ .heddle h)
    (job : Tbl.find h s.hedJobs = some j) : exec (.heddleDrained h) s =
      if j.kind = 0 then .next ((s.writeGraph h j.image).setHed h hdLoading) else .next ((s.hedService h false).endHedJob h rOk) := by
  have drained : ¬(s.hed h ≠ hdDraining ∨ s.frames.any (fun x => x.2.stage == .heddle h) = true) := by
    simpa [draining] using fun id f hx => empty (id, f) hx
  show execHeddleDrained h s = _
  unfold execHeddleDrained
  rw [if_neg drained, job]

/-- A LOAD in LOADING or an ENABLE whose graph has been read back: a LOAD that fails is a fault of the heddle's, with its event. -/
theorem exec_heddleReadbackDone_awaited (job : Tbl.find h s.hedJobs = some j) (kind : j.kind ≠ 1)
    (loads : j.kind = 0 → s.hed h = hdLoading) : exec (.heddleReadbackDone h true) s = .next ((s.hedService h true).endHedJob h rOk) ∧
      exec (.heddleReadbackDone h false) s =
        if j.kind = 0 then .next ((s.hedFault h).endHedJob h rState) else .next ((s.setHed h hdFault).endHedJob h rState) := by
  have awaited : ¬(j.kind = 1 ∨ (j.kind = 0 ∧ s.hed h ≠ hdLoading)) := fun early => early.elim kind (fun ⟨load, other⟩ => other (loads load))
  constructor
  · show execHeddleReadbackDone h true s = _
    unfold execHeddleReadbackDone
    rw [job]
    exact if_neg awaited
  · show execHeddleReadbackDone h false s = _
    unfold execHeddleReadbackDone
    rw [job]
    exact if_neg awaited

theorem exec_heddleReadbackDone_none (idle : Tbl.find h s.hedJobs = none) (ok : Bool) : exec (.heddleReadbackDone h ok) s = .next s := by
  show execHeddleReadbackDone h ok s = _
  unfold execHeddleReadbackDone
  rw [idle]

end

/-! ### HEDDLE_GRAPH_ERROR (07 R301, R304) -/

theorem Told.hedJobs {s t : State} (h : Told s t) : t.hedJobs = s.hedJobs := by
  obtain ⟨-, same⟩ := h
  rw [← same]

theorem State.hedEvent_hedJobs (b src : Nat) (s : State) : (s.hedEvent b src).hedJobs = s.hedJobs := (State.raise_told .hed b src s).hedJobs

theorem State.hedFault_hedJobs (h : Nat) (s : State) : (s.hedFault h).hedJobs = s.hedJobs := (State.event_told _ _ _ _).hedJobs

theorem State.endHedJob_none {s : State} {h : Nat} (idle : Tbl.find h s.hedJobs = none) (code : Nat) : s.endHedJob h code = s := by
  unfold State.endHedJob
  rw [idle]

/-- A graph error of a heddle without a command: the word's place shown, and the heddle in FAULT. -/
theorem exec_heddleGraphError_none {s : State} {h : Nat} (idle : Tbl.find h s.hedJobs = none) : exec (.heddleGraphError h) s =
    .next (((((s.set F.HED_ECC_ADDR_MEMORY 4).set F.HED_ECC_ADDR_GEN 0).set F.HED_ECC_ADDR_UNIT h).hedEvent 2 h).hedFault h) := by
  refine congrArg Host.Outcome.next (State.endHedJob_none ?_ rState)
  rw [State.hedFault_hedJobs, State.hedEvent_hedJobs]
  exact idle

/-- Settles O30: each command by the state of its heddle and of its bank, the rows by the command that they find on the heddle. -/
theorem heddleGraphsInService : Obligations.HeddleGraphsInService := by
  unfold Obligations.HeddleGraphsInService
  intro s d h j t c job put
  refine ⟨fun heddle idle => ?commands, fun draining empty job => ?_, exec_heddleDrained_rests, fun job kind loading => ?_, fun job kind => ?_,
    fun idle => ⟨exec_heddleReadbackDone_none idle true, exec_heddleGraphError_none idle⟩⟩
  case commands =>
    have fetchedHed : t.hed h = s.hed h := State.fetched_hed d s h
    have fetchedBank : t.bankBusy h = s.bankBusy h := State.fetched_bankBusy d s h
    have fetchedIdle : t.hedJobs.has h = false := (congrArg (Tbl.has · h) (State.fetched_hedJobs d s)).trans idle
    rw [← fetchedHed, ← fetchedBank]
    exact ⟨fun ready bank serves => take_heddle_begins ready (heddleAct_drains heddle fetchedIdle bank (by decide) serves),
      fun ready bank out => take_heddle_begins ready (heddleAct_load_writes heddle fetchedIdle bank out),
      fun ready bank serves => take_heddle_begins ready (heddleAct_drains heddle fetchedIdle bank (by decide) serves),
      fun ready out => take_heddle_begins ready (heddleAct_enable_begins heddle fetchedIdle out),
      fun ready serves => take_heddle_refused ready (heddleAct_enable_serving heddle fetchedIdle serves),
      fun ready busy => take_heddle_refused ready (heddleAct_busy heddle (by decide) busy),
      fun ready busy => take_heddle_refused ready (heddleAct_busy heddle (by decide) busy)⟩
  · have drained := exec_heddleDrained_empty draining empty job
    exact ⟨fun load => drained.trans (if_pos load), fun disable => drained.trans (if_neg (by rw [disable]; decide))⟩
  · obtain ⟨good, bad⟩ := exec_heddleReadbackDone_awaited job (by rw [kind]; decide) (fun _ => loading)
    exact ⟨good, bad.trans (if_pos kind)⟩
  · obtain ⟨good, bad⟩ := exec_heddleReadbackDone_awaited job (by rw [kind]; decide) (fun load => absurd (kind.symm.trans load) (by decide))
    exact ⟨good, bad.trans (if_neg (by rw [kind]; decide))⟩

end Sys2Proof.Machine
end


section
/-! What an action does with the frame that it decides: its fate marked, its class and its destination (07 R278, R289, R290; 09 R358). -/

namespace Sys2Proof.Machine

open Sys2Proof

/-! ### What a decision reads and marks -/

/-- The frames and their fates, and what a lookup of a destination reads. -/
def State.deciding (s : State) : (Tbl Frame × List (Nat × Nat)) × Tbl FdbEntry × Nat × Tbl (List Byte) :=
  ((s.frames, s.fateQ), s.fdb, s.cycles, s.rules)

theorem Told.deciding {s t : State} (h : Told s t) : t.deciding = s.deciding := by
  obtain ⟨-, same⟩ := h
  rw [← same]
  rfl

theorem State.deciding_hedEvent (b src : Nat) (s : State) : (s.hedEvent b src).deciding = s.deciding := (State.raise_told .hed b src s).deciding

theorem State.deciding_iff {s t : State} : t.deciding = s.deciding ↔
    (t.frames = s.frames ∧ t.fateQ = s.fateQ) ∧ t.fdb = s.fdb ∧ t.cycles = s.cycles ∧ t.rules = s.rules := by
  simp [State.deciding]

theorem State.frame_of_deciding {s t : State} (h : t.deciding = s.deciding) (id : Nat) : t.frame id = s.frame id := by
  obtain ⟨⟨frames, -⟩, -⟩ := State.deciding_iff.1 h
  unfold State.frame
  rw [frames]

theorem State.fateQ_of_deciding {s t : State} (h : t.deciding = s.deciding) : t.fateQ = s.fateQ := by
  obtain ⟨⟨-, fates⟩, -⟩ := State.deciding_iff.1 h
  exact fates

@[simp] theorem State.modFrame_fateQ (id : Nat) (g : Frame → Frame) (s : State) : (s.modFrame id g).fateQ = s.fateQ := by
  unfold State.modFrame
  split <;> rfl

/-! ### The destination (07 R278, R289 step 6) -/

/-- The destination is looked up in the forwarding database and the rule memories alone. -/
theorem State.resolve_of_deciding {s t : State} (h : t.deciding = s.deciding) (f : Frame) (a : Action) : t.resolve f a = s.resolve f a := by
  obtain ⟨-, fdb, cycles, rules⟩ := State.deciding_iff.1 h
  have looked : t.fdbLookup f.vid (beAt f.data 0 6) = s.fdbLookup f.vid (beAt f.data 0 6) := by
    unfold State.fdbLookup State.fdbPort
    rw [fdb, cycles]
  have missed : t.missDest f.gen = s.missDest f.gen := by
    unfold State.missDest
    rw [rules]
  unfold State.resolve
  rw [looked, missed]

theorem State.resolve_own {a : Action} (own : a.dest ≠ 0) (f : Frame) (s : State) : s.resolve f a = some (destOf a.dest a.destId) :=
  if_neg own

/-- Neither a database entry nor a valid generation: no destination. -/
theorem State.resolve_lost {s : State} {f : Frame} {a : Action} (looks : a.dest = 0) (unknown : fdbFind s.fdb f.vid (beAt f.data 0 6) = none)
    (invalid : headerValid s.rules f.gen = false) : s.resolve f a = none := by
  have unlisted : s.fdbLookup f.vid (beAt f.data 0 6) = none := by
    unfold State.fdbLookup
    rw [unknown]
    exact ite_self _
  have unruled : s.missDest f.gen = none := by
    unfold State.missDest
    exact if_neg (by simp [invalid])
  unfold State.resolve
  rw [if_pos looks, unlisted, unruled]
  rfl

/-- The destination that a valid action gives a frame; none where it ends the frame RULE_DROP. -/
def State.actionDest (s : State) (f : Frame) (a : Action) : Option Dest :=
  if a.drop ∨ (a.recirc && !a.drop && decide (4 ≤ f.pass)) then none else if a.recirc then some .recirc else s.resolve f a

theorem State.actionDest_of_deciding {s t : State} (h : t.deciding = s.deciding) (f : Frame) (a : Action) :
    t.actionDest f a = s.actionDest f a := by
  unfold State.actionDest
  rw [State.resolve_of_deciding h]

section
variable {s : State} {f : Frame} {a : Action}

theorem State.actionDest_drop (drop : a.drop = true) : s.actionDest f a = none := if_pos (.inl drop)

/-- The fourth pass is the last (07 R290). -/
theorem State.actionDest_limit (keep : a.drop = false) (again : a.recirc = true) (last : 4 ≤ f.pass) : s.actionDest f a = none := by
  simp [State.actionDest, keep, again, last]

theorem State.actionDest_recirc (keep : a.drop = false) (again : a.recirc = true) (early : f.pass < 4) :
    s.actionDest f a = some .recirc := by
  simp [State.actionDest, keep, again, Nat.not_le.2 early]

theorem State.actionDest_once (keep : a.drop = false) (once : a.recirc = false) : s.actionDest f a = s.resolve f a := by
  simp [State.actionDest, keep, once]

theorem State.actionDest_own (keep : a.drop = false) (once : a.recirc = false) {k : Nat} (own : a.dest = k) (named : k ≠ 0) :
    s.actionDest f a = some (destOf k a.destId) := by
  subst own
  exact (State.actionDest_once keep once).trans (State.resolve_own named f s)

end

/-! ### The frame decided (07 R289, R290) -/

/-- What a valid action notes beside the frame: its counter, and the recirculation limit. -/
def State.noteAction (h : Nat) (f : Frame) (a : Action) (s : State) : State :=
  (match a.counter with
    | some i => s.count 3 i 0 1
    | none => s).when (a.recirc && !a.drop && decide (4 ≤ f.pass)) (State.hedEvent 3 h)

/-- The frame `g` as a valid action for `f` marks it, with the destination `dest`. -/
def Action.mark (a : Action) (f : Frame) (dest : Option Dest) (g : Frame) : Frame :=
  let tc := a.tc.getD (f.prio % 8)
  { g with
    after :=
      { fate := if dest.isNone then some 0x21 else none
        mirror := if a.mirror then
          some (a.session, mirrorMeta a tc f.pass (a.drop || (a.recirc && !a.drop && decide (4 ≤ f.pass))) dest) else none
        malf := f.after.malf, learn := f.after.learn && !a.noLearn }
    dest := dest.getD .none, tc := tc
    setPcp := if a.pcp.isSome then a.pcp else g.setPcp
    setDei := if a.dei.isSome then a.dei else g.setDei
    setVid := if a.vid.isSome then a.vid else g.setVid
    stream := a.stream, wovenTo := a.woven, meta4 := if a.recirc then a.meta4 else g.meta4
    matchId := if a.matchId ≠ 0 then a.matchId else g.filterId }

/-- A valid action: what it notes, the frame marked, and whether the frame may leave by cut-through. -/
theorem State.applyAction_eq {a : Action} (valid : a.valid = true) (id h : Nat) (f : Frame) (s : State) : ∃ cut, s.applyAction id h f a =
    ((s.noteAction h f a).modFrame id (a.mark f ((s.noteAction h f a).actionDest f a))).modFrame id (fun g => { g with cut := cut }) :=
  ⟨_, if_neg (by rw [valid]; decide)⟩

theorem State.deciding_noteAction (h : Nat) (f : Frame) (a : Action) (s : State) : (s.noteAction h f a).deciding = s.deciding := by
  refine (State.view_when (v := State.deciding) (State.deciding_hedEvent ..) _).trans ?_
  split
  · exact (State.count_told ..).deciding
  · rfl

section
variable {s : State} {id : Nat} {f : Frame} {a : Action} (found : s.frame id = some f)
include found

/-- An invalid action marks the frame RULE_DROP, and ends nothing. -/
theorem State.applyAction_invalid (invalid : a.valid = false) (h : Nat) : (s.applyAction id h f a).fateQ = s.fateQ ∧
    (s.applyAction id h f a).frame id = some { f with after := { f.after with fate := some 0x21 } } := by
  have acts : s.applyAction id h f a = (s.hedEvent 7 h).modFrame id (fun f => { f with after := { f.after with fate := some 0x21 } }) :=
    if_pos (by rw [invalid]; rfl)
  have same := State.deciding_hedEvent 7 h s
  rw [acts]
  exact ⟨(State.modFrame_fateQ ..).trans (State.fateQ_of_deciding same),
    State.frame_modFrame_self ((State.frame_of_deciding same id).trans found) _⟩

/-- A valid action marks the frame with its class, its destination, and RULE_DROP where it has none; it ends nothing. -/
theorem State.applyAction_valid (valid : a.valid = true) (h : Nat) : (s.applyAction id h f a).fateQ = s.fateQ ∧
    ∃ g, (s.applyAction id h f a).frame id = some g ∧ g.tc = a.tc.getD (f.prio % 8) ∧ g.dest = (s.actionDest f a).getD .none ∧
      g.after.fate = (if (s.actionDest f a).isNone then some 0x21 else none) ∧ (a.recirc = true → g.meta4 = a.meta4) := by
  obtain ⟨cut, acts⟩ := State.applyAction_eq valid id h f s
  have same := State.deciding_noteAction h f a s
  rw [acts, State.actionDest_of_deciding same]
  exact ⟨(State.modFrame_fateQ ..).trans ((State.modFrame_fateQ ..).trans (State.fateQ_of_deciding same)), _,
    State.frame_modFrame_self (State.frame_modFrame_self ((State.frame_of_deciding same id).trans found) _) _, rfl, rfl, rfl, fun again => if_pos again⟩

end

/-- Settles O32: an invalid action by `State.applyAction_invalid`, a valid one by the destination that it gives. -/
theorem actionsMarkTheFrameTheyDecide : Obligations.ActionsMarkTheFrameTheyDecide := by
  unfold Obligations.ActionsMarkTheFrameTheyDecide
  intro s id h f a found
  cases valid : a.valid with
  | false =>
    obtain ⟨fates, marked⟩ := State.applyAction_invalid found valid h
    exact ⟨_, marked, fun _ => rfl, nofun, fates⟩
  | true =>
    obtain ⟨fates, g, marked, tc, dest, fate, again⟩ := State.applyAction_valid found valid h
    have goes : ∀ {d : Option Dest}, s.actionDest f a = d → g.after.fate = (if d.isNone then some 0x21 else none) ∧ g.dest = d.getD .none :=
      fun e => e ▸ ⟨fate, dest⟩
    refine ⟨g, marked, nofun, fun _ => ⟨tc, fun drop => goes (State.actionDest_drop drop),
      fun keep recirc last => goes (State.actionDest_limit keep recirc last), fun keep recirc early => ?_, fun keep once own => ?_,
      fun keep once own => ?_, fun keep once own => ?_, fun keep once looks unknown invalid => ?_⟩, fates⟩
    · obtain ⟨unmarked, bound⟩ := goes (State.actionDest_recirc keep recirc early)
      exact ⟨unmarked, bound, again recirc⟩
    · exact goes (State.actionDest_own keep once own (by decide))
    · exact goes (State.actionDest_own keep once own (by decide))
    · exact goes (State.actionDest_own keep once own (by decide))
    · exact (goes ((State.actionDest_once keep once).trans (State.resolve_lost looks unknown invalid))).1

end Sys2Proof.Machine
end


section
/-! Shuttles across the loom: release from the beam, warp and weft picks, the reed, and release reports (07 R264; 08 R309 to R319). -/

namespace Sys2Proof.Machine

open Sys2Proof

/-! ### BEAM_RELEASE (07 R264; 08 R324, R344) -/

@[simp] theorem State.updHayloft_frames (p : Nat) (s : State) : (s.updHayloft p).frames = s.frames := by
  unfold State.updHayloft
  dsimp only
  split <;> rfl

/-- A frame that enters its ingress queue is its last, and spilled with it. -/
theorem State.frame_enqueue {s : State} {id : Nat} {f : Frame} (found : s.frame id = some f) : (s.enqueue id).frame id =
    some { f with stage := .ingress, order := s.nextId, spilled := s.queueSpilled f.qport f.dest.node f.tc } := by
  unfold State.enqueue
  rw [found]
  refine (congrArg (Tbl.find id) (State.updHayloft_frames ..)).trans ?_
  exact State.frame_modFrame_self (State.frame_place_self found .ingress) _

theorem exec_beamRelease_none {s : State} {q : Nat} (unready : s.firstBy (s.beamReady q) = none) : exec (.beamRelease q) s = .next s := by
  show execBeamRelease q s = _
  unfold execBeamRelease
  rw [unready]

section
variable {s : State} {q id w : Nat} {f : Frame} (first : s.firstBy (s.beamReady q) = some (id, f)) (plain : f.stream = none)
include first plain

/-- A head of no stream goes as it is. -/
theorem exec_beamRelease_plain :
    exec (.beamRelease q) s = .next (f.wovenTo.elim (s.enqueue id) (fun w => s.releaseWoven id w f)) := by
  have unnumbered : s.frerGenerate id f = s := by
    unfold State.frerGenerate
    rw [plain]
  show execBeamRelease q s = _
  unfold execBeamRelease
  rw [first]
  dsimp only
  rw [unnumbered]
  cases f.wovenTo <;> rfl

theorem exec_beamRelease_ordinary (ordinary : f.wovenTo = none) : exec (.beamRelease q) s = .next (s.enqueue id) := by
  rw [exec_beamRelease_plain first plain, ordinary]
  rfl

/-- A woven frame goes on as an ordinary one where its handle has no reservation, or under the safe clock. -/
theorem exec_beamRelease_unreserved (woven : f.wovenTo = some w)
    (unreserved : s.get (F.LOOM_WOVEN_STATE w) = 0 ∨ s.on F.LOOM_STATUS_SAFE_CLOCK = true) :
    exec (.beamRelease q) s = .next (s.enqueue id) := by
  rw [exec_beamRelease_plain first plain, woven]
  exact congrArg Host.Outcome.next (if_pos unreserved)

end

/-! ### Frames chosen by a predicate -/

theorem State.firstBy_only {s : State} {id : Nat} {f : Frame} (only : s.frames = [(id, f)]) {p : Frame → Bool} (named : p f = true) :
    s.firstBy p = some (id, f) := by
  unfold State.firstBy
  rw [only]
  exact if_pos named

theorem State.framesBy_none {s : State} {p : Frame → Bool} (unnamed : ∀ y ∈ s.frames, p y.2 = false) : s.framesBy p = [] := by
  unfold State.framesBy
  rw [List.filter_eq_nil_iff.2 (fun y hy => ne_true_of_eq_false (unnamed y hy))]
  rfl

/-! ### WARP_SEND (08 R309, R313, R317, R318) -/

/-- A woven frame's turn in warp pick `p` of node `n`, towards intermediate `j`. -/
def State.wovenDue (s : State) (n j p : Nat) (f : Frame) : Bool :=
  f.inNode == n && f.wovenTo.isSome && decide (f.cycle ≤ s.nt) &&
    (f.stage == .woven || (f.stage == .loom && decide (f.sent < f.len) && f.launch.isSome)) &&
    (wovenPicks (s.wovenBytes (f.wovenTo.getD 0))).contains p && s.interCredit n j f.dest.node && s.rowFree n f

/-- A part-sent frame that node `n` may continue towards intermediate `j`. -/
def State.partSent (s : State) (n j arrived : Nat) (f : Frame) : Bool :=
  f.inNode == n && f.stage == .loom && decide (0 < f.ready arrived) && (f.whole || f.cut) && f.launch.all (fun _ => f.isLaunch) &&
    s.interCredit n j f.dest.node && !s.nodeRst.contains f.dest.node

section
variable {s : State} (empty : ∀ y ∈ s.frames, y.2.stage ≠ .ingress)
include empty

/-- No frame at the ingress queues: no node copy to make. -/
theorem State.expandGroups_none (n : Nat) : s.expandGroups n = s := by
  unfold State.expandGroups
  rw [State.framesBy_none (fun y hy => by simp [empty y hy])]
  rfl

/-- No frame at the ingress queues: none to start. -/
theorem State.nextStart_none (n j choice : Nat) (d : Option Nat) : s.nextStart n j choice d = none := by
  have idle : ∀ q, s.starters n j q d = [] := fun q => by
    unfold State.starters
    rw [State.framesBy_none (fun y hy => by simp [empty y hy])]
    rfl
  refine foldl_unchosen (fun q _ chosen => ?_) none
  cases chosen with
  | some x => rfl
  | none =>
    dsimp only
    rw [idle]
    rfl

end

theorem State.wovenDue_ordinary {f : Frame} (ordinary : f.wovenTo = none) (s : State) (n j p : Nat) : s.wovenDue n j p f = false := by
  simp [State.wovenDue, ordinary]

theorem State.partSent_elsewhere {f : Frame} (elsewhere : f.stage ≠ .loom) (s : State) (n j arrived : Nat) :
    s.partSent n j arrived f = false := by
  simp [State.partSent, elsewhere]

/-- Warp pick `p` of node `n` where no woven frame is due: a part-sent frame goes on, else the next queue's first frame starts. -/
def State.ordinaryPick (s : State) (n p choice arrived : Nat) : Host.Outcome State Fault Refusal :=
  match s.firstBy (s.partSent n ((n + p) % 36) arrived) with
  | some (id, f) =>
    if f.cut then .next (s.sendAlone n ((n + p) % 36) p id arrived f)
    else .next (s.sendShuttle n ((n + p) % 36) f.dest.node p choice (some (id, f)))
  | none =>
    match s.nextStart n ((n + p) % 36) choice none with
    | some (id, f) =>
      if f.cut then .next (s.sendAlone n ((n + p) % 36) p id arrived f)
      else .next (s.sendShuttle n ((n + p) % 36) f.dest.node p choice none)
    | none => .next s

section
variable {s : State} {n p choice arrived id : Nat} {f : Frame}

theorem State.ordinaryPick_continues (part : s.firstBy (s.partSent n ((n + p) % 36) arrived) = some (id, f)) (stored : f.cut = false) :
    s.ordinaryPick n p choice arrived = .next (s.sendShuttle n ((n + p) % 36) f.dest.node p choice (some (id, f))) := by
  unfold State.ordinaryPick
  rw [part]
  exact if_neg (ne_true_of_eq_false stored)

theorem State.ordinaryPick_starts (sent : s.firstBy (s.partSent n ((n + p) % 36) arrived) = none)
    (next : s.nextStart n ((n + p) % 36) choice none = some (id, f)) (stored : f.cut = false) :
    s.ordinaryPick n p choice arrived = .next (s.sendShuttle n ((n + p) % 36) f.dest.node p choice none) := by
  unfold State.ordinaryPick
  rw [sent, next]
  exact if_neg (ne_true_of_eq_false stored)

theorem State.ordinaryPick_none (sent : s.firstBy (s.partSent n ((n + p) % 36) arrived) = none)
    (next : s.nextStart n ((n + p) % 36) choice none = none) : s.ordinaryPick n p choice arrived = .next s := by
  unfold State.ordinaryPick
  rw [sent, next]

end

theorem exec_warpSend_idle {s : State} {n p choice arrived : Nat}
    (idle : 36 ≤ n ∨ 36 ≤ p ∨ n ∈ s.nodeRst ∨ (n + p) % 36 ∈ s.nodeRst ∨ s.pickOpen true n p = false) :
    exec (.warpSend n p choice arrived) s = .next s :=
  if_pos (by simpa using idle)

section
variable {s t : State} {n p choice arrived id : Nat} {f : Frame}
variable (node : n < 36) (pick : p < 36) (runs : n ∉ s.nodeRst) (via : (n + p) % 36 ∉ s.nodeRst) (free : s.pickOpen true n p = true)
include node pick runs via free

/-- In an open pick the node's groups become node copies first; then, with no woven frame due, the pick is an ordinary one. -/
theorem exec_warpSend_open (opened : t = (s.expandGroups n).usePick true n p) (unwoven : t.firstBy (t.wovenDue n ((n + p) % 36) p) = none) :
    exec (.warpSend n p choice arrived) s = t.ordinaryPick n p choice arrived := by
  have goes : ¬(36 ≤ n ∨ 36 ≤ p ∨ s.nodeRst.contains n = true ∨ s.nodeRst.contains ((n + p) % 36) = true ∨ (!s.pickOpen true n p) = true) := by
    simp [node, pick, runs, via, free]
  subst opened
  show execWarpSend n p choice arrived s = _
  unfold execWarpSend
  refine (if_neg goes).trans ?_
  generalize (s.expandGroups n).usePick true n p = t at unwoven ⊢
  unfold State.wovenDue at unwoven
  dsimp only
  rw [unwoven]
  rfl

/-- With no woven frame and none part-sent, the next queue's first frame starts in the pick. -/
theorem exec_warpSend_starts (opened : t = (s.expandGroups n).usePick true n p)
    (ordinary : ∀ y ∈ t.frames, y.2.wovenTo = none ∧ y.2.stage ≠ .loom) (next : t.nextStart n ((n + p) % 36) choice none = some (id, f))
    (stored : f.cut = false) :
    exec (.warpSend n p choice arrived) s = .next (t.sendShuttle n ((n + p) % 36) f.dest.node p choice none) := by
  have unwoven := State.firstBy_none (fun y hy => State.wovenDue_ordinary (ordinary y hy).1 t n ((n + p) % 36) p)
  have sent := State.firstBy_none (fun y hy => State.partSent_elsewhere (ordinary y hy).2 t n ((n + p) % 36) arrived)
  rw [exec_warpSend_open node pick runs via free opened unwoven, State.ordinaryPick_starts sent next stored]

/-- A node without a frame uses the pick and sends nothing. -/
theorem exec_warpSend_empty (empty : s.frames = []) : exec (.warpSend n p choice arrived) s = .next (s.usePick true n p) := by
  have before : ∀ y, y ∉ s.frames := by simp [empty]
  have after : ∀ y, y ∉ (s.usePick true n p).frames := before
  rw [exec_warpSend_open node pick runs via free (t := s.usePick true n p)
      (by rw [State.expandGroups_none (fun y hy => absurd hy (before y))])
      (State.firstBy_none (fun y hy => absurd hy (after y))),
    State.ordinaryPick_none (State.firstBy_none (fun y hy => absurd hy (after y)))
      (State.nextStart_none (fun y hy => absurd hy (after y)) ..)]

/-- A part-sent frame alone goes on with intermediate credit. -/
theorem exec_warpSend_continues (only : s.frames = [(id, f)]) (here : f.inNode = n) (stage : f.stage = .loom) (whole : f.whole = true)
    (stored : f.cut = false) (ordinary : f.wovenTo = none) (launch : f.launch = none) (part : f.sent < f.len)
    (credit : s.interCredit n ((n + p) % 36) f.dest.node = true) (output : f.dest.node ∉ s.nodeRst) :
    exec (.warpSend n p choice arrived) s =
      .next ((s.usePick true n p).sendShuttle n ((n + p) % 36) f.dest.node p choice (some (id, f))) := by
  have sole : ∀ y ∈ s.frames, y = (id, f) := by simp [only]
  have goesOn : (s.usePick true n p).partSent n ((n + p) % 36) arrived f = true := by
    have credited : (s.usePick true n p).interCredit n ((n + p) % 36) f.dest.node = true := credit
    have reached : f.dest.node ∉ (s.usePick true n p).nodeRst := output
    simp [State.partSent, here, stage, whole, launch, Frame.ready, part, credited, reached]
  rw [exec_warpSend_open node pick runs via free (t := s.usePick true n p)
      (by rw [State.expandGroups_none (fun y hy => by simp [sole y hy, stage])])
      (State.firstBy_none (fun y hy => State.wovenDue_ordinary (by rw [sole y hy]; exact ordinary) ..)),
    State.ordinaryPick_continues (s := s.usePick true n p) (State.firstBy_only only goesOn) stored]

end

/-! ### WEFT_SEND (08 R309, R310, R317) -/

section
variable {s : State} {j p : Nat} {x : Shuttle}

theorem exec_weftSend_idle (idle : 36 ≤ j ∨ 36 ≤ p ∨ s.pickOpen false j p = false ∨ s.egressCredit j ((j + p) % 36) = false) :
    exec (.weftSend j p) s = .next s :=
  if_pos (by simpa using idle)

/-- The shuttle that waits at an intermediate, in an open pick for its output: it goes where it is due. -/
theorem exec_weftSend_only (node : j < 36) (pick : p < 36) (free : s.pickOpen false j p = true)
    (credit : s.egressCredit j ((j + p) % 36) = true) (only : s.shuttles = [x]) (place : x.place = .inter) (via : x.via = j)
    (dst : x.dst = (j + p) % 36) : exec (.weftSend j p) s =
      if x.cycle < s.cycles ∨ x.pick + 2 ≤ p then .next { s.usePick false j p with shuttles := [{ x with place := .weft }] } else .next s := by
  have goes : ¬(36 ≤ j ∨ 36 ≤ p ∨ (!s.pickOpen false j p) = true ∨ (!s.egressCredit j ((j + p) % 36)) = true) := by
    simp [node, pick, free, credit]
  show execWeftSend j p s = _
  unfold execWeftSend
  refine (if_neg goes).trans ?_
  rw [only]
  by_cases due : x.cycle < s.cycles ∨ x.pick + 2 ≤ p
  · simp [place, via, dst, due]
  · simp [place, via, dst, due]

end

/-! ### REED_ARRIVAL (08 R319) -/

section
variable {s : State} {n d seq id b : Nat} {x : Shuttle}

/-- The state whose one shuttle, `x`, has reached the reed clean. -/
def State.reedHolds (x : Shuttle) (s : State) : State := { s with shuttles := [{ x with place := .reed, poison := false }] }

/-- The one shuttle of a pair at the reed is released next where it has the number that the reed awaits. -/
theorem State.reedNext_only (only : s.shuttles = [x]) (place : x.place = .reed) (src : x.src = n) (dst : x.dst = d) :
    s.reedNext n d = if x.seq = (s.pair n d).next then some x else none := by
  unfold State.reedNext
  rw [only]
  by_cases awaited : x.seq = (s.pair n d).next <;> simp [place, src, dst, awaited]

theorem State.reedRelease_waits (waits : s.reedNext n d = none) (k : Nat) : s.reedRelease n d k = s := by
  cases k with
  | zero => rfl
  | succ k =>
    unfold State.reedRelease
    rw [waits]

/-- The awaited shuttle, alone at the reed and clean, is released into its frame. -/
theorem State.reedRelease_only (only : s.shuttles = [x]) (next : s.reedNext n d = some x) (segs : x.segs = [(id, b)]) (clean : x.poison = false)
    (room : s.egressUsed d + b ≤ (s.stalls d).2.2 * unit64) : s.reedRelease n d 1 = State.joinSeg id b
      { s with shuttles := [], pairs := Tbl.ins (pairKey n d) { s.pair n d with next := ((s.pair n d).next + 1) % 2 ^ 24 } s.pairs } := by
  have fits : ¬(s.egressUsed d + (x.segs.foldl (fun a g => a + g.2) 0) > (s.stalls d).2.2 * unit64) := by
    rw [segs]
    simpa using room
  unfold State.reedRelease
  rw [next]
  dsimp only
  rw [if_neg fits, segs, clean, only, List.erase_cons_head]
  rfl

theorem exec_reedArrival_none (quiet : s.shuttles = []) (ecc word : Nat) : exec (.reedArrival n d seq ecc word) s = .next s := by
  show execReedArrival n d seq ecc word s = _
  unfold execReedArrival
  rw [quiet]
  rfl

/-- The one shuttle on its way arrives clean: outside the window its frame ends, inside it the reed holds it. -/
theorem exec_reedArrival_only (only : s.shuttles = [x]) (place : x.place = .weft) (src : x.src = n) (dst : x.dst = d) (number : x.seq = seq)
    (segs : x.segs = [(id, b)]) : exec (.reedArrival n d seq 0 0) s =
      if 256 ≤ (seq + 2 ^ 24 - (s.pair n d).next) % 2 ^ 24 then .next ((State.loomEvent 4 d 0 { s with shuttles := [] }).poisonFrame id)
      else .next ((s.reedHolds x).reedRelease n d 1) := by
  have found : s.shuttles.find? (fun x => x.place == .weft && x.src == n && x.dst == d && x.seq == seq) = some x := by
    rw [only]
    simp [place, src, dst, number]
  show execReedArrival n d seq 0 0 s = _
  unfold execReedArrival
  rw [found]
  dsimp only
  rw [if_pos rfl, only]
  refine if_congr Iff.rfl ?_ ?_
  · rw [List.erase_cons_head, segs]
    rfl
  · rw [List.map_singleton, if_pos (beq_self_eq_true x)]
    rfl

end

/-! ### RELEASE_REPORT (08 R315, R316) -/

section
variable {s : State} {n d root : Nat}

/-- The state with what the reed of `d` has released told to node `n`, and the record rows `rows` left. -/
def State.reported (n d : Nat) (rows : List Row) (s : State) : State :=
  { s with pairs := Tbl.ins (pairKey n d) { s.pair n d with told := (s.pair n d).next } s.pairs, rows := rows }

/-- A frame of the root still on its way to output `d`. -/
def State.rowOpen (s : State) (root d : Nat) : Bool :=
  s.frames.any (fun x => x.2.root == root && x.2.stage == .loom && x.2.dest.node == d)

/-- A frame of the root that its node has yet to send. -/
def State.rowUnsent (s : State) (root n : Nat) : Bool :=
  s.frames.any (fun x => x.2.root == root && x.2.stage == .ingress && x.2.inNode == n)

theorem State.rowOpen_iff : s.rowOpen root d = true ↔ ∃ y ∈ s.frames, y.2.root = root ∧ y.2.stage = .loom ∧ y.2.dest.node = d := by
  simp [State.rowOpen, and_assoc]

theorem State.rowUnsent_iff :
    s.rowUnsent root n = true ↔ ∃ y ∈ s.frames, y.2.root = root ∧ y.2.stage = .ingress ∧ y.2.inNode = n := by
  simp [State.rowUnsent, and_assoc]

/-- A row that waits for `d` alone: kept while a frame of it is on its way there, freed once none is and none is left to send. -/
theorem exec_releaseReport_row (only : s.rows = [{ node := n, root := root, wait := [d] }]) (news : (s.pair n d).next ≠ (s.pair n d).told) :
    exec (.releaseReport n d) s = .next (s.reported n d (
      if s.rowOpen root d then s.rows else if s.rowUnsent root n then [{ node := n, root := root, wait := [] }] else [])) := by
  show execReleaseReport n d s = _
  unfold execReleaseReport
  dsimp only
  rw [if_neg news]
  dsimp only
  rw [only, List.map_singleton]
  show Host.Outcome.next (s.reported n d (List.filter (fun r => !r.wait.isEmpty || s.rowUnsent r.root r.node)
    [if (n == n && !s.rowOpen root d) = true then { node := n, root := root, wait := [d].filter (fun e => e != d) }
      else { node := n, root := root, wait := [d] }])) = _
  refine congrArg (fun rows => Host.Outcome.next (s.reported n d rows)) ?_
  cases s.rowOpen root d with
  | true => simp
  | false => cases unsent : s.rowUnsent root n <;> simp [unsent]

end

/-- Settles O35: the release by the head that is ready, each pick by what waits for it, the reed by the number it awaits, and the report by
the frames of its row. -/
theorem shuttlesCrossTheLoom : Obligations.ShuttlesCrossTheLoom := by
  unfold Obligations.ShuttlesCrossTheLoom
  intro s q n p j d choice arrived seq id b w root f x t pr
  refine ⟨exec_beamRelease_none, fun first plain ordinary found => ⟨exec_beamRelease_ordinary first plain ordinary, fun queue => ?_⟩,
    fun first plain => exec_beamRelease_unreserved first plain, exec_warpSend_idle, fun node pick runs via free => ⟨?_, ?_, ?_⟩,
    exec_weftSend_idle, fun node pick free credit only place via dst => ?_, fun quiet => exec_reedArrival_none quiet 0 0,
    ?arrives, ?reports⟩
  · rw [State.frame_enqueue found, queue]
  · exact exec_warpSend_empty node pick runs via free
  · exact exec_warpSend_starts node pick runs via free rfl
  · exact exec_warpSend_continues node pick runs via free
  · have sent := exec_weftSend_only node pick free credit only place via dst
    exact ⟨fun due => sent.trans (if_pos due), fun early late => sent.trans (if_neg (by omega))⟩
  case arrives =>
    intro only place src dst number segs
    have arrives := exec_reedArrival_only only place src dst number segs
    refine ⟨fun awaited small room => ?_, fun outside => arrives.trans (if_pos outside), fun inside early => ?_⟩
    · have inside : ¬256 ≤ (seq + 2 ^ 24 - pr.next) % 2 ^ 24 := by omega
      have next := (State.reedNext_only (s := s.reedHolds x) rfl rfl src dst).trans (if_pos (number.trans awaited))
      rw [arrives, if_neg inside, State.reedRelease_only (s := s.reedHolds x) rfl next segs rfl room, awaited]
      rfl
    · have waits := (State.reedNext_only (s := s.reedHolds x) rfl rfl src dst).trans (if_neg (fun next => early (number.symm.trans next)))
      rw [arrives, if_neg (Nat.not_le.2 inside), State.reedRelease_waits waits]
      rfl
  case reports =>
    intro only news
    have reports := exec_releaseReport_row only news
    refine ⟨fun passed => ?_, fun open_ => ?_⟩
    · have closed : ¬s.rowOpen root d = true := fun open_ => by
        obtain ⟨y, hy, there⟩ := State.rowOpen_iff.1 open_
        exact passed y hy there
      rw [if_neg closed] at reports
      refine ⟨fun sent => reports.trans ?_, fun unsent => reports.trans ?_⟩
      · have complete : ¬s.rowUnsent root n = true := fun unsent => by
          obtain ⟨y, hy, here⟩ := State.rowUnsent_iff.1 unsent
          exact sent y hy here
        rw [if_neg complete]
        rfl
      · rw [if_pos (State.rowUnsent_iff.2 unsent)]
        rfl
    · rw [reports, if_pos (State.rowOpen_iff.2 open_)]
      rfl

end Sys2Proof.Machine
end


section
/-! What the ends of frames and of commands leave of the loom: the shuttles on their way, their pairs' numbers, the record rows and the nodes
in reset (08 R312 to R317). -/

namespace Sys2Proof.Machine

open Sys2Proof

/-- The shuttles on their way and their pairs' numbers, the record rows and the nodes in reset. -/
def State.loom (s : State) : (List Shuttle × Tbl Pair) × List Row × List Nat := ((s.shuttles, s.pairs), s.rows, s.nodeRst)

theorem State.loom_iff {s t : State} :
    t.loom = s.loom ↔ (t.shuttles = s.shuttles ∧ t.pairs = s.pairs) ∧ t.rows = s.rows ∧ t.nodeRst = s.nodeRst := by
  simp [State.loom]

theorem Told.loom {s t : State} (h : Told s t) : t.loom = s.loom := by
  obtain ⟨-, same⟩ := h
  rw [← same]
  rfl

@[simp] theorem State.loom_modFrame (id : Nat) (g : Frame → Frame) (s : State) : (s.modFrame id g).loom = s.loom := by
  unfold State.modFrame
  split <;> rfl

@[simp] theorem State.loom_completeTx (cmd : Nat × Nat × Nat) (fate : Option Nat) (time : Nat) (s : State) :
    (s.completeTx cmd fate time).loom = s.loom := by
  unfold State.completeTx
  split
  · rfl
  · exact (State.completeEra_told ..).loom

@[simp] theorem State.loom_finish (p : Cmd → Bool) (code time q1 q2 : Nat) (s : State) : (s.finish p code time q1 q2).loom = s.loom := by
  unfold State.finish
  split
  · rfl
  · exact (State.completeCmd_told ..).loom

@[simp] theorem State.loom_rxPop (r id : Nat) (s : State) : (s.rxPop r id).loom = s.loom := by
  unfold State.rxPop
  dsimp only
  split
  · split <;> rfl
  · rfl

@[simp] theorem State.loom_bobbinUnsent (f : Frame) (code : Nat) (s : State) : (s.bobbinUnsent f code).loom = s.loom := by
  unfold State.bobbinUnsent
  split
  · rfl
  · refine State.view_forEach (v := State.loom) (fun _ _ _ => ?_) s
    rfl

@[simp] theorem State.loom_updEgress (p : Nat) (s : State) : (s.updEgress p).loom = s.loom := by
  unfold State.updEgress
  split <;> rfl

@[simp] theorem State.loom_endFrame (id code : Nat) (s : State) : (s.endFrame id code).loom = s.loom := by
  unfold State.endFrame
  split
  · rfl
  · next f _ =>
    extract_lets gone popped fated unsent completed
    have pops : popped.loom = gone.loom := by
      unfold popped
      split
      · exact State.loom_rxPop ..
      · rfl
    have fates : fated.loom = popped.loom := by
      refine State.view_forEach (v := State.loom) (fun _ _ _ => ?_) popped
      rfl
    have completes : completed.loom = unsent.loom := by
      unfold completed
      split
      · rfl
      · exact State.loom_completeTx ..
    have ended : completed.loom = s.loom := by rw [completes, State.loom_bobbinUnsent, fates, pops]; rfl
    split
    · exact (State.loom_updEgress ..).trans ended
    · exact ended

@[simp] theorem State.loom_endFrames (p : Frame → Bool) (code : Nat) (s : State) : (s.endFrames p code).loom = s.loom :=
  State.view_forEach (v := State.loom) (fun x _ => State.loom_endFrame x.1 code) s

/-- A multicast frame that becomes node copies sends nothing yet. -/
theorem State.loom_expandGroup (id : Nat) (f : Frame) (g : Nat) (s : State) : (s.expandGroup id f g).loom = s.loom := by
  have copied : ∀ (l : List Nat) (s : State), (s.forEach l (fun _ => State.madeCopy f.port)).loom = s.loom := fun l =>
    State.view_forEach (fun _ _ s => (State.count_told 0 f.port 1 1 s).loom)
  unfold State.expandGroup
  extract_lets all ports
  split
  · exact State.loom_endFrame ..
  · split
    · exact State.loom_endFrame ..
    · refine (State.view_forEach (v := State.loom) (fun _ _ _ => ?_) _).trans ?_
      · rfl
      · rw [State.loom_modFrame, copied]

@[simp] theorem State.loom_expandGroups (n : Nat) (s : State) : (s.expandGroups n).loom = s.loom := by
  refine State.view_forEach (v := State.loom) (fun x _ s => ?_) s
  split
  · exact State.loom_expandGroup ..
  · rfl

end Sys2Proof.Machine
end


section
/-! The credits of the loom: no shuttle is sent into the warp or into the weft without the space that waits for it (08 R309 to R318). -/

namespace Sys2Proof.Machine

open Sys2Proof

/-! ### What sending goes by: the shuttles on their way and each pair's next SEQ -/

/-- The shuttles on their way and the next SEQ of each (source, output) pair. -/
def State.sequence (s : State) : List Shuttle × (Nat → Nat → Nat) := (s.shuttles, fun n d => (s.pair n d).seq)

theorem State.sequence_iff {s t : State} :
    t.sequence = s.sequence ↔ t.shuttles = s.shuttles ∧ ∀ n d, (t.pair n d).seq = (s.pair n d).seq := by
  simp [State.sequence, funext_iff]

theorem State.sequence_of_loom {s t : State} (h : t.loom = s.loom) : t.sequence = s.sequence := by
  obtain ⟨⟨shuttles, pairs⟩, -⟩ := State.loom_iff.1 h
  refine State.sequence_iff.2 ⟨shuttles, fun n d => ?_⟩
  unfold State.pair
  rw [pairs]

theorem State.interCredit_of_sequence {s t : State} (h : t.sequence = s.sequence) (n j d : Nat) : t.interCredit n j d = s.interCredit n j d := by
  unfold State.interCredit
  rw [(State.sequence_iff.1 h).1]

/-- An entry inserted is read back, and every other stays. -/
theorem Tbl.getD_ins {α : Type} (k j : Nat) (v d : α) (t : Tbl α) : (Tbl.ins k v t).getD j d = if j = k then v else t.getD j d := by
  unfold Tbl.getD
  split
  · next same => rw [same, Tbl.find_ins_self]; rfl
  · next other => rw [Tbl.find_ins_ne other]

/-- A pair written with the SEQ that it has. -/
theorem State.sequence_insPair {n d : Nat} {p : Pair} {s : State} (same : p.seq = (s.pair n d).seq) :
    State.sequence { s with pairs := Tbl.ins (pairKey n d) p s.pairs } = s.sequence := by
  refine State.sequence_iff.2 ⟨rfl, fun m e => ?_⟩
  refine (congrArg Pair.seq (Tbl.getD_ins (pairKey n d) (pairKey m e) p {} s.pairs)).trans ?_
  split
  · next key =>
    unfold State.pair at same ⊢
    rw [same, key]
  · rfl

theorem State.sequence_takeRow (n : Nat) (f : Frame) (s : State) : (s.takeRow n f).sequence = s.sequence := by
  unfold State.takeRow
  dsimp only
  split <;> rfl

theorem State.sequence_chargeRation (f : Frame) (s : State) : (s.chargeRation f).sequence = s.sequence := by
  unfold State.chargeRation
  split <;> rfl

/-- A frame that starts takes a serial, and no SEQ. -/
theorem State.sequence_startFrame (n : Nat) (f : Frame) (s : State) : (s.startFrame n f).sequence = s.sequence := by
  have serial : ∀ (k : Nat) (u : State), State.sequence
      { u with pairs := Tbl.ins (pairKey n f.dest.node) { u.pair n f.dest.node with serial := k } u.pairs } = u.sequence :=
    fun _ _ => State.sequence_insPair rfl
  exact (serial _ _).trans ((State.sequence_chargeRation ..).trans (State.sequence_takeRow ..))

theorem State.sequence_sendSeg (id b : Nat) (s : State) : (s.sendSeg id b).sequence = s.sequence := by
  have moved : ∀ g : Frame → Frame, (s.modFrame id g).sequence = s.sequence := fun g => State.sequence_of_loom (State.loom_modFrame ..)
  unfold State.sendSeg
  dsimp only
  split
  · split
    · split
      · exact (State.sequence_of_loom ((State.loom_completeTx ..).trans (State.loom_modFrame ..))).trans (moved _)
      · exact moved _
    · exact moved _
  · exact moved _

theorem State.sequence_fillShuttle (n j d choice k room : Nat) (segs : List (Nat × Nat)) (s : State) :
    (s.fillShuttle n j d choice k room segs).2.sequence = s.sequence := by
  have filled : ∀ (f : Frame) (id b : Nat) (s : State), ((s.startFrame n f).sendSeg id b).sequence = s.sequence := fun f id b s =>
    (State.sequence_sendSeg ..).trans (State.sequence_startFrame ..)
  induction k generalizing room segs s with
  | zero => rfl
  | succ k ih =>
    unfold State.fillShuttle
    split
    · rfl
    · split
      · rfl
      · dsimp only
        split
        · rfl
        · split
          · exact filled ..
          · exact (ih ..).trans (filled ..)

/-! ### What a warp pick sends (08 R312, R317) -/

/-- `t` is `s` with one more shuttle on its way: last, from `n` to intermediate `j`, with credit for its output there, and with the pair's
next SEQ, which advances. -/
def Sends (n j : Nat) (s t : State) : Prop :=
  ∃ x : Shuttle, t.shuttles = s.shuttles ++ [x] ∧ x.place = .inter ∧ x.src = n ∧ x.via = j ∧ s.interCredit n j x.dst = true ∧
    x.seq = (s.pair n x.dst).seq ∧ (t.pair n x.dst).seq = (x.seq + 1) % 2 ^ 24

theorem Sends.of_sequence {n j : Nat} {s t u : State} (same : u.sequence = s.sequence) (sent : Sends n j u t) : Sends n j s t := by
  obtain ⟨x, shuttles, place, src, via, credit, number, next⟩ := sent
  obtain ⟨before, numbers⟩ := State.sequence_iff.1 same
  exact ⟨x, by rw [shuttles, before], place, src, via, (State.interCredit_of_sequence same ..).symm.trans credit, number.trans (numbers ..), next⟩

/-- A shuttle launched where its source had credit for it. -/
theorem launchShuttle_sends {n j : Nat} {s u : State} {x : Shuttle} (same : u.sequence = s.sequence) (place : x.place = .inter) (src : x.src = n)
    (via : x.via = j) (credit : s.interCredit n j x.dst = true) : Sends n j s (u.launchShuttle x) := by
  refine Sends.of_sequence same ⟨{ x with seq := (u.pair x.src x.dst).seq }, rfl, place, src, via,
    (State.interCredit_of_sequence same ..).trans credit, by rw [← src], ?_⟩
  subst src
  refine (congrArg Pair.seq (Tbl.getD_ins ..)).trans ?_
  rw [if_pos rfl]

section
variable {s : State} {n j d pick choice arrived id : Nat} {f : Frame}

theorem sendAlone_sends (credit : s.interCredit n j f.dest.node = true) : Sends n j s (s.sendAlone n j pick id arrived f) := by
  refine launchShuttle_sends ?_ rfl rfl rfl credit
  refine (State.sequence_sendSeg ..).trans ((State.sequence_of_loom (State.loom_modFrame ..)).trans ?_)
  split
  · exact State.sequence_startFrame ..
  · rfl

theorem sendShuttle_sends (credit : s.interCredit n j d = true) (cont : Option (Nat × Frame)) :
    Sends n j s (s.sendShuttle n j d pick choice cont) := by
  have fills : ∀ (k room : Nat) (segs : List (Nat × Nat)) (u : State), u.sequence = s.sequence →
      (u.fillShuttle n j d choice k room segs).2.sequence = s.sequence := fun _ _ _ _ same => (State.sequence_fillShuttle ..).trans same
  unfold State.sendShuttle
  cases cont with
  | none => exact launchShuttle_sends (fills 4 304 [] s rfl) rfl rfl rfl credit
  | some x =>
    have first := State.sequence_sendSeg x.1 (min 304 (x.2.len - x.2.sent)) s
    exact launchShuttle_sends (fills 4 _ _ _ first) rfl rfl rfl credit

end

/-- What a choice from a list comes to was chosen at one of its elements. -/
theorem foldl_chosen {α β : Type} {P : β → Prop} {l : List α} {f : Option β → α → Option β} {x : β}
    (step : ∀ r a, (∀ y, r = some y → P y) → ∀ y, f r a = some y → P y) (chosen : l.foldl f none = some x) : P x :=
  List.foldlRecOn (motive := fun r => ∀ y, r = some y → P y) l f (b := none) nofun (fun r named a _ => step r a named) x chosen

/-- A frame chosen is one that `p` names. -/
theorem State.firstBy_named {s : State} {p : Frame → Bool} {x : Nat × Frame} (chosen : s.firstBy p = some x) : p x.2 = true := by
  refine foldl_chosen (P := fun x => p x.2 = true) (fun best y named x => ?_) chosen
  split
  · next fits =>
    split
    · rintro ⟨⟩
      exact fits
    · next b =>
      split
      · rintro ⟨⟩
        exact fits
      · exact named x
  · exact named x

/-- The frame chosen to start next has credit at the intermediate. -/
theorem State.nextStart_credit {s : State} {n j choice : Nat} {d : Option Nat} {x : Nat × Frame} (chosen : s.nextStart n j choice d = some x) :
    s.interCredit n j x.2.dest.node = true := by
  have starts : ∀ q, ∀ y ∈ s.starters n j q d, s.interCredit n j y.2.dest.node = true := fun q y listed => by
    have may := (List.mem_filter.1 listed).2
    simp only [State.mayStart, Bool.and_eq_true] at may
    tauto
  unfold State.nextStart at chosen
  dsimp only at chosen
  refine foldl_chosen (P := fun x => s.interCredit n j x.2.dest.node = true) (fun best q credited x => ?_) chosen
  split
  · exact credited x
  · split
    · nofun
    · exact fun taken => starts q x (List.mem_of_getElem? taken)

section
variable {s t : State} {n p choice arrived : Nat}

theorem State.ordinaryPick_sends (ends : s.ordinaryPick n p choice arrived = .next t) : t = s ∨ Sends n ((n + p) % 36) s t := by
  have goes : ∀ {id pick b : Nat} {f : Frame} {cont : Option (Nat × Frame)}, s.interCredit n ((n + p) % 36) f.dest.node = true →
      (if f.cut = true then Host.Outcome.next (s.sendAlone n ((n + p) % 36) pick id b f)
        else .next (s.sendShuttle n ((n + p) % 36) f.dest.node pick choice cont) : Host.Outcome State Fault Refusal) = .next t →
      Sends n ((n + p) % 36) s t := by
    intro id pick b f cont credit sent
    split at sent
    · cases sent
      exact sendAlone_sends credit
    · cases sent
      exact sendShuttle_sends credit cont
  unfold State.ordinaryPick at ends
  split at ends
  · next id f part =>
    have named := State.firstBy_named part
    simp only [State.partSent, Bool.and_eq_true] at named
    obtain ⟨⟨-, credit⟩, -⟩ := named
    exact .inr (goes credit ends)
  · split at ends
    · next id f next => exact .inr (goes (State.nextStart_credit next) ends)
    · cases ends
      exact .inl rfl

/-- In an open pick a woven frame that is due goes first, alone. -/
theorem exec_warpSend_woven {u : State} {id : Nat} {f : Frame} (node : n < 36) (pick : p < 36) (runs : n ∉ s.nodeRst)
    (via : (n + p) % 36 ∉ s.nodeRst) (free : s.pickOpen true n p = true) (opened : u = (s.expandGroups n).usePick true n p)
    (woven : u.firstBy (u.wovenDue n ((n + p) % 36) p) = some (id, f)) :
    exec (.warpSend n p choice arrived) s = .next (u.sendAlone n ((n + p) % 36) p id 0 f) := by
  have goes : ¬(36 ≤ n ∨ 36 ≤ p ∨ s.nodeRst.contains n = true ∨ s.nodeRst.contains ((n + p) % 36) = true ∨ (!s.pickOpen true n p) = true) := by
    simp [node, pick, runs, via, free]
  subst opened
  show execWarpSend n p choice arrived s = _
  unfold execWarpSend
  refine (if_neg goes).trans ?_
  generalize (s.expandGroups n).usePick true n p = u at woven ⊢
  unfold State.wovenDue at woven
  dsimp only
  rw [woven]

/-- A warp pick sends nothing or one shuttle, and that with credit. -/
theorem exec_warpSend_sends (ends : exec (.warpSend n p choice arrived) s = .next t) :
    t.sequence = s.sequence ∨ Sends n ((n + p) % 36) s t := by
  by_cases idle : 36 ≤ n ∨ 36 ≤ p ∨ n ∈ s.nodeRst ∨ (n + p) % 36 ∈ s.nodeRst ∨ s.pickOpen true n p = false
  · cases (exec_warpSend_idle idle).symm.trans ends
    exact .inl rfl
  · simp only [not_or, Nat.not_le, Bool.not_eq_false] at idle
    obtain ⟨node, pick, runs, via, free⟩ := idle
    obtain ⟨u, opened⟩ : ∃ u, u = (s.expandGroups n).usePick true n p := ⟨_, rfl⟩
    have same : u.sequence = s.sequence := by
      rw [opened]
      exact State.sequence_of_loom (State.loom_expandGroups n s)
    cases woven : u.firstBy (u.wovenDue n ((n + p) % 36) p) with
    | some x =>
      have named := State.firstBy_named woven
      simp only [State.wovenDue, Bool.and_eq_true] at named
      obtain ⟨⟨-, credit⟩, -⟩ := named
      cases (exec_warpSend_woven node pick runs via free opened woven).symm.trans ends
      exact .inr (Sends.of_sequence same (sendAlone_sends credit))
    | none =>
      have ordinary := (exec_warpSend_open node pick runs via free opened woven).symm.trans ends
      rcases State.ordinaryPick_sends ordinary with rfl | sent
      · exact .inl same
      · exact .inr (Sends.of_sequence same sent)

end

/-! ### What a weft pick moves (08 R309, R317) -/

/-- The shuttle `y` where the weft has taken `x`. -/
def Shuttle.afterWeft (x y : Shuttle) : Shuttle := if y == x then { y with place := .weft } else y

/-- `t` is `s` with one shuttle moved from intermediate `j` into the weft, towards output `d`, which had egress credit. -/
def Moves (j d : Nat) (s t : State) : Prop :=
  ∃ x : Shuttle, x.via = j ∧ x.dst = d ∧ s.egressCredit j d = true ∧ t.shuttles = s.shuttles.map x.afterWeft

/-- A weft pick moves nothing or one shuttle, and that with credit. -/
theorem exec_weftSend_moves {s t : State} {j p : Nat} (ends : exec (.weftSend j p) s = .next t) :
    t = s ∨ Moves j ((j + p) % 36) s t := by
  change execWeftSend j p s = _ at ends
  unfold execWeftSend at ends
  dsimp only at ends
  split at ends
  · cases ends
    exact .inl rfl
  · next goes =>
    split at ends
    · cases ends
      exact .inl rfl
    · next x found =>
      have due := List.find?_some found
      simp only [Bool.and_eq_true, beq_iff_eq] at due
      obtain ⟨⟨⟨-, via⟩, dst⟩, -⟩ := due
      simp only [not_or, Bool.not_eq_true, Bool.not_eq_false'] at goes
      obtain ⟨-, -, -, credit⟩ := goes
      cases ends
      exact .inr ⟨x, via, dst, credit, rfl⟩

/-! ### The space in use (08 R317) -/

/-- The shuttles of (`n`, `j`, `d`) that wait at the intermediate. -/
def State.waiting (s : State) (n j d : Nat) : Nat :=
  (s.shuttles.filter (fun x => x.place == .inter && x.src == n && x.via == j && x.dst == d)).length

/-- The shuttles of (`j`, `d`) past the intermediate. -/
def State.past (s : State) (j d : Nat) : Nat :=
  (s.shuttles.filter (fun x => x.place != .inter && x.via == j && x.dst == d)).length

theorem State.interCredit_iff {s : State} {n j d : Nat} : s.interCredit n j d = true ↔ s.waiting n j d < 2 := decide_eq_true_iff

theorem State.egressCredit_iff {s : State} {j d : Nat} : s.egressCredit j d = true ↔ s.past j d < 2 := decide_eq_true_iff

section
variable {s t : State} {n j d : Nat}

theorem Sends.waiting (sent : Sends n j s t) (bound : ∀ n j d, s.waiting n j d ≤ 2) (m k e : Nat) : t.waiting m k e ≤ 2 := by
  obtain ⟨x, shuttles, -, src, via, credit, -⟩ := sent
  have before := bound m k e
  have room := State.interCredit_iff.1 credit
  unfold State.waiting at before room ⊢
  rw [shuttles, List.filter_append, List.length_append, List.filter_cons]
  split
  · next counted =>
    simp only [Bool.and_eq_true, beq_iff_eq] at counted
    obtain ⟨⟨⟨-, rfl⟩, rfl⟩, rfl⟩ := counted
    rw [src, via]
    exact room
  · exact before

theorem Sends.past (sent : Sends n j s t) (k e : Nat) : t.past k e = s.past k e := by
  obtain ⟨x, shuttles, place, -⟩ := sent
  simp [State.past, shuttles, place]

theorem Moves.length (moved : Moves j d s t) : t.shuttles.length = s.shuttles.length := by
  obtain ⟨x, -, -, -, shuttles⟩ := moved
  rw [shuttles, List.length_map]

/-- No shuttle begins to wait as one moves on. -/
theorem Moves.waiting (moved : Moves j d s t) (m k e : Nat) : t.waiting m k e ≤ s.waiting m k e := by
  obtain ⟨x, -, -, -, shuttles⟩ := moved
  unfold State.waiting
  rw [shuttles, ← List.countP_eq_length_filter, ← List.countP_eq_length_filter, List.countP_map]
  refine List.countP_mono_left (fun y _ counted => ?_)
  simp only [Function.comp_apply, Shuttle.afterWeft] at counted
  split at counted
  · simp at counted
  · exact counted

/-- Of shuttles that are all different, at most the one that moves comes to be past its intermediate. -/
theorem countP_afterWeft_le {l : List Shuttle} (once : l.Nodup) (x : Shuttle) (k e : Nat) :
    (l.map x.afterWeft).countP (fun y => y.place != .inter && y.via == k && y.dst == e) ≤
      l.countP (fun y => y.place != .inter && y.via == k && y.dst == e) + if x.via = k ∧ x.dst = e then 1 else 0 := by
  induction l with
  | nil => simp
  | cons y l ih =>
    obtain ⟨fresh, once⟩ := List.nodup_cons.1 once
    rw [List.map_cons, List.countP_cons, List.countP_cons]
    by_cases here : y = x
    · subst here
      have stays : ∀ z ∈ l, y.afterWeft z = z := fun z hz => if_neg (by simpa using fun g : z = y => fresh (g ▸ hz))
      have rest : l.map y.afterWeft = l := (List.map_congr_left stays).trans l.map_id
      have moves : y.afterWeft y = { y with place := .weft } := if_pos (by simp)
      rw [rest, moves]
      by_cases there : y.via = k ∧ y.dst = e
      · simp [there]
      · simp [there]
    · have kept : x.afterWeft y = y := if_neg (by simpa using here)
      have := ih once
      rw [kept]
      omega

theorem Moves.past (moved : Moves j d s t) (once : s.shuttles.Nodup) (bound : ∀ j d, s.past j d ≤ 2) (k e : Nat) : t.past k e ≤ 2 := by
  obtain ⟨x, via, dst, credit, shuttles⟩ := moved
  have before := bound k e
  have room := State.egressCredit_iff.1 credit
  have after := countP_afterWeft_le once x k e
  rw [List.countP_eq_length_filter, List.countP_eq_length_filter, ← shuttles, via, dst] at after
  change t.past k e ≤ s.past k e + _ at after
  split at after
  · next there =>
    obtain ⟨rfl, rfl⟩ := there
    omega
  · omega

end

/-- Settles O36: a warp pick sends nothing or what `Sends` says, a weft pick moves nothing or what `Moves` says, and both keep to the space. -/
theorem noShuttleIsSentWithoutSpace : Obligations.NoShuttleIsSentWithoutSpace := by
  unfold Obligations.NoShuttleIsSentWithoutSpace
  intro s t waits past
  refine ⟨fun n p choice arrived ends => ?warp, fun j p ends => ?weft⟩
  case warp =>
    rcases exec_warpSend_sends ends with same | sent
    · have shuttles := (State.sequence_iff.1 same).1
      have waitsSame : ∀ n j d, waits t n j d = waits s n j d := fun n j d => by simp only [waits, shuttles]
      exact ⟨.inl shuttles, fun bound n j d => (waitsSame n j d).le.trans (bound n j d), fun j d => by simp only [past, shuttles]⟩
    · refine ⟨.inr ?_, sent.waiting, sent.past⟩
      obtain ⟨x, shuttles, place, src, via, credit, number, next⟩ := sent
      exact ⟨x, shuttles, place, src, via, via ▸ credit, number, next⟩
  case weft =>
    rcases exec_weftSend_moves ends with rfl | moved
    · exact ⟨rfl, fun _ _ _ => Nat.le_refl _, fun _ bound => bound⟩
    · exact ⟨moved.length, moved.waiting, moved.past⟩

end Sys2Proof.Machine
end


section
/-! Stalls, hayloft, halter and the reset of a node (08 R322 to R335; 18 R622). -/

namespace Sys2Proof.Machine

open Sys2Proof

/-! ### The hayloft (08 R325, R326) -/

section
variable {s : State} {id stack word : Nat} {f : Frame}

theorem exec_hayloft_none (gone : s.frame id = none) :
    exec (.hayloftSpill id) s = .next s ∧ exec (.hayloftFetch id false stack word) s = .next s := by
  constructor
  · show execHayloftSpill id s = _
    unfold execHayloftSpill
    rw [gone]
  · show execHayloftFetch id false stack word s = _
    unfold execHayloftFetch
    rw [gone]

section
variable (found : s.frame id = some f)
include found

/-- Without room in the hayloft, or below SPILL_PCT, nothing spills. -/
theorem exec_hayloftSpill_rests
    (rests : s.hayloftSize < s.spilledBytes + f.len ∨ 100 * s.workingUsed f.inNode < s.spillPct * s.workingSize f.inNode) :
    exec (.hayloftSpill id) s = .next s := by
  show execHayloftSpill id s = _
  unfold execHayloftSpill
  rw [found]
  refine if_neg ?_
  rintro ⟨-, -, -, -, room, above⟩
  have := of_decide_eq_true room
  omega

/-- A whole frame that is its queue's last in the stalls spills, with room, at or above SPILL_PCT. -/
theorem exec_hayloftSpill_spills (stage : f.stage = .ingress) (whole : f.whole = true) (here : f.spilled = false)
    (room : s.spilledBytes + f.len ≤ s.hayloftSize)
    (last : ∀ y ∈ s.ingressQ f.qport f.dest.node f.tc, f.order < y.2.order → y.2.spilled = true)
    (above : s.spillPct * s.workingSize f.inNode ≤ 100 * s.workingUsed f.inNode) : exec (.hayloftSpill id) s =
      .next ((s.modFrame id (fun f => { f with spilled := true, cut := false })).updHayloft f.qport) := by
  show execHayloftSpill id s = _
  unfold execHayloftSpill
  rw [found]
  refine if_pos ⟨stage, whole, by rw [here]; rfl, ?_, decide_eq_true room, above⟩
  simpa using last

/-- The first frame of its queue comes back at or below FETCH_PCT; one with a byte in a lost stack ends as it does. -/
theorem exec_hayloftFetch_fetches (stage : f.stage = .ingress) (away : f.spilled = true)
    (first : ∀ y ∈ s.ingressQ f.qport f.dest.node f.tc, f.order ≤ y.2.order)
    (below : 100 * s.workingUsed f.inNode ≤ s.fetchPct * s.workingSize f.inNode) {t : State}
    (back : t = (s.modFrame id (fun f => { f with spilled := false })).updHayloft f.qport) :
    exec (.hayloftFetch id false stack word) s = if f.bad.isSome then .next (t.endFrame id 0x60) else .next t := by
  subst back
  show execHayloftFetch id false stack word s = _
  unfold execHayloftFetch
  rw [found]
  refine (if_pos ⟨stage, away, ?_, below⟩).trans rfl
  simpa using first

end

end

/-- The state that shows stack `k` failed, and the hayloft DEGRADED. -/
def State.stackShown (k : Nat) (s : State) : State :=
  (s.set (if k % 2 = 0 then F.LOOM_HAYLOFT_STACK0_OK else F.LOOM_HAYLOFT_STACK1_OK) 0).set F.LOOM_STATUS_HAYLOFT_DEGRADED 1

/-- The state with every frame in the hayloft marked as having lost bytes. -/
def State.spilledMarked (s : State) : State :=
  { s with frames := s.frames.map (fun (x : Nat × Frame) => if x.2.spilled then (x.1, { x.2 with bad := some 3 }) else x) }

theorem exec_hayloftStackFail (k : Nat) (s : State) :
    exec (.hayloftStackFail k) s = .next ((s.stackShown k).spilledMarked.loomEvent 3 0xFFFF 0) := rfl

theorem State.sameBut_stackShown (k : Nat) (s : State) : SameBut [R.LOOM_HAYLOFT, R.LOOM_STATUS] s (s.stackShown k) := by
  have stack : (if k % 2 = 0 then F.LOOM_HAYLOFT_STACK0_OK else F.LOOM_HAYLOFT_STACK1_OK).addr ∈ [R.LOOM_HAYLOFT, R.LOOM_STATUS] := by
    split <;> decide
  exact sameBut_trans (sameBut_set stack 0 s) (sameBut_set (f := F.LOOM_STATUS_HAYLOFT_DEGRADED) (by decide) 1 _)

/-- Beside the marks nothing but two registers changes. -/
theorem State.sameBut_stackFailed (k : Nat) (s : State) : SameBut [R.LOOM_HAYLOFT, R.LOOM_STATUS]
    { s with frames := (s.stackShown k).spilledMarked.frames } (s.stackShown k).spilledMarked := by
  obtain ⟨words, rest⟩ := State.sameBut_stackShown k s
  exact ⟨words, congrArg (fun u : State => { u with frames := (s.stackShown k).spilledMarked.frames }) rest⟩

/-- What the failure of a stack shows. -/
theorem State.get_stackShown {k : Nat} (named : k < 2) (s : State) :
    (s.stackShown k).get F.LOOM_HAYLOFT_STACK0_OK = (if k = 0 then 0 else s.get F.LOOM_HAYLOFT_STACK0_OK) ∧
      (s.stackShown k).get F.LOOM_HAYLOFT_STACK1_OK = (if k = 1 then 0 else s.get F.LOOM_HAYLOFT_STACK1_OK) ∧
      (s.stackShown k).get F.LOOM_STATUS_HAYLOFT_DEGRADED = 1 := by
  unfold State.stackShown
  rw [State.get_set_addr (f := F.LOOM_STATUS_HAYLOFT_DEGRADED) (g := F.LOOM_HAYLOFT_STACK0_OK) (by decide),
    State.get_set_addr (f := F.LOOM_STATUS_HAYLOFT_DEGRADED) (g := F.LOOM_HAYLOFT_STACK1_OK) (by decide),
    State.get_set_self (f := F.LOOM_STATUS_HAYLOFT_DEGRADED) (by decide)]
  obtain rfl | rfl : k = 0 ∨ k = 1 := by omega
  · exact ⟨State.get_set_self (f := F.LOOM_HAYLOFT_STACK0_OK) (by decide) 0 s,
      State.get_set_ne (f := F.LOOM_HAYLOFT_STACK0_OK) (g := F.LOOM_HAYLOFT_STACK1_OK) rfl (.inr (by decide)) (by decide) 0 s, rfl⟩
  · exact ⟨State.get_set_ne (f := F.LOOM_HAYLOFT_STACK1_OK) (g := F.LOOM_HAYLOFT_STACK0_OK) rfl (.inl (by decide)) (by decide) 0 s,
      State.get_set_self (f := F.LOOM_HAYLOFT_STACK1_OK) (by decide) 0 s, rfl⟩

/-! ### The age limit and the copies' wait (08 R327, R335) -/

section
variable {s : State} {id : Nat} {f : Frame}

theorem exec_ageLimitExpiry_none (gone : s.frame id = none) : exec (.ageLimitExpiry id) s = .next s := by
  show execAgeLimitExpiry id s = _
  unfold execAgeLimitExpiry
  rw [gone]

theorem exec_ageLimitExpiry_found (found : s.frame id = some f) : exec (.ageLimitExpiry id) s =
    if s.ageLimit ≠ 0 ∧ s.atFront f = true ∧ s.ageLimit * us ≤ f.age then .next (s.endFrame id 0x34) else .next s := by
  show execAgeLimitExpiry id s = _
  unfold execAgeLimitExpiry
  rw [found]

theorem exec_mcastCopyTimeout_none (gone : s.frame id = none) : exec (.mcastCopyTimeout id) s = .next s := by
  show execMcastCopyTimeout id s = _
  unfold execMcastCopyTimeout
  rw [gone]

theorem exec_mcastCopyTimeout_found (found : s.frame id = some f) : exec (.mcastCopyTimeout id) s =
    if f.stage = .admission ∧ s.get F.LOOM_MCAST_WAIT_WAIT_US ≠ 0 ∧ s.get F.LOOM_MCAST_WAIT_WAIT_US * us ≤ f.waited
    then .next (s.endFrame id 0x32) else .next s := by
  show execMcastCopyTimeout id s = _
  unfold execMcastCopyTimeout
  rw [found]

end

/-! ### The ports of a node (00 R10) -/

theorem nodeOf_lt {p : Nat} (front : p < 272) : nodeOf p < 34 := by
  unfold nodeOf
  split_ifs <;> omega

theorem mem_nodePorts_nodeOf {p : Nat} (front : p < 272) : p ∈ nodePorts (nodeOf p) := by
  unfold nodeOf
  split_ifs with low second
  · have lane : p / 8 < 32 := by omega
    simp only [nodePorts, lane, if_true, List.mem_map, List.mem_range]
    exact ⟨p % 8, by omega, by omega⟩
  · show p ∈ (List.range 8).map (fun i => 256 + i)
    exact List.mem_map.2 ⟨p - 256, List.mem_range.2 (by omega), by omega⟩
  · show p ∈ (List.range 8).map (fun i => 264 + i)
    exact List.mem_map.2 ⟨p - 264, List.mem_range.2 (by omega), by omega⟩

/-- A front port is listed at its own node alone. -/
theorem nodeOf_of_mem_nodePorts {n q : Nat} (listed : q ∈ nodePorts n) (front : q < 272) : nodeOf q = n := by
  unfold nodePorts at listed
  unfold nodeOf
  split_ifs at listed
  all_goals simp at listed
  all_goals split_ifs <;> omega

/-- The nodes of front ports list front ports alone. -/
theorem lt_of_mem_nodePorts {n q : Nat} (listed : q ∈ nodePorts n) (node : n < 34) : q < 272 := by
  unfold nodePorts at listed
  split_ifs at listed
  all_goals simp at listed
  all_goals omega

theorem nodup_nodePorts (n : Nat) : (nodePorts n).Nodup := by
  have spaced : ∀ b : Nat, ((List.range 8).map (fun i => b + i)).Nodup := fun b =>
    List.nodup_range.map (fun _ _ same => Nat.add_left_cancel same)
  unfold nodePorts
  split_ifs
  · exact spaced (8 * n)
  · exact spaced 256
  · exact spaced 264
  · decide
  · decide

/-! ### What the halter reads of a port (08 R328, R329) -/

/-- The occupancy from which a port is held. -/
def State.haltOn (s : State) (p : Nat) : Nat := (s.haltLimit p - s.get (F.LOOM_HALT_HEADROOM p)) * unit64

/-- The occupancy down to which a port is released. -/
def State.haltOff (s : State) (p : Nat) : Nat := (s.haltLimit p - s.get (F.LOOM_HALT_HEADROOM p) - s.xonGap p) * unit64

/-- The working part of a node is full. -/
def State.nodeFull (s : State) (n : Nat) : Bool := decide (s.workingSize n ≤ s.workingUsed n)

/-- The working part of a node is at most 90 % full. -/
def State.nodeCalm (s : State) (n : Nat) : Bool := decide (100 * s.workingUsed n ≤ 90 * s.workingSize n)

/-- What the halter reads for port `p`: the frames, the port's word and levels, and the size of its node's working part. -/
def State.halting (p : Nat) (s : State) : Tbl Frame × Word × (Nat × Nat) × Nat :=
  (s.frames, s.rd (R.LOOM_HALT_STATUS p), (s.haltOn p, s.haltOff p), s.workingSize (nodeOf p))

theorem State.halting_iff {p : Nat} {s t : State} : t.halting p = s.halting p ↔ t.frames = s.frames ∧
    t.rd (R.LOOM_HALT_STATUS p) = s.rd (R.LOOM_HALT_STATUS p) ∧ (t.haltOn p = s.haltOn p ∧ t.haltOff p = s.haltOff p) ∧
      t.workingSize (nodeOf p) = s.workingSize (nodeOf p) := by
  simp [State.halting]

/-- The registers with settings of the halter. -/
def HaltSetting (a : Nat) : Prop := ∃ q < 272, a = R.LOOM_STALL_CFG (nodeOf q) ∨ a = R.MAC_CFG q ∨ a = R.LOOM_HALT q

/-- The halter reads of a port no registers but its own word and the settings. -/
theorem State.halting_of_regs {p : Nat} {s t : State} (front : p < 272) (frames : t.frames = s.frames)
    (own : t.rd (R.LOOM_HALT_STATUS p) = s.rd (R.LOOM_HALT_STATUS p)) (settings : ∀ a, HaltSetting a → t.rd a = s.rd a) :
    t.halting p = s.halting p := by
  have halt : ∀ (f : Nat → Fld) (q : Nat), (f q).addr = R.LOOM_HALT q → q < 272 → t.get (f q) = s.get (f q) := fun f q hf hq =>
    State.get_addr (settings _ ⟨q, hq, .inr (.inr hf)⟩)
  have stall : ∀ f : Nat → Fld, (f (nodeOf p)).addr = R.LOOM_STALL_CFG (nodeOf p) → t.get (f (nodeOf p)) = s.get (f (nodeOf p)) := fun f hf =>
    State.get_addr (settings _ ⟨p, front, .inl hf⟩)
  have stalls : t.stalls (nodeOf p) = s.stalls (nodeOf p) := by
    unfold State.stalls
    rw [stall F.LOOM_STALL_CFG_INGRESS rfl, stall F.LOOM_STALL_CFG_INTER rfl, stall F.LOOM_STALL_CFG_EGRESS rfl]
  have reserves : t.reserves (nodeOf p) = s.reserves (nodeOf p) := by
    refine List.foldl_ext _ _ _ (fun _ q listed => ?_)
    have port := lt_of_mem_nodePorts listed (nodeOf_lt front)
    have mode : t.fcMode q = s.fcMode q := by
      unfold State.fcMode
      rw [State.get_addr (f := F.MAC_CFG_FC_MODE q) (settings _ ⟨q, port, .inr (.inl rfl)⟩)]
    rw [mode, halt F.LOOM_HALT_HEADROOM q rfl port]
  have gap : t.xonGap p = s.xonGap p := congrArg (max 1) (halt F.LOOM_HALT_XON_GAP p rfl front)
  have headroom := halt F.LOOM_HALT_HEADROOM p rfl front
  have limit : t.haltLimit p = s.haltLimit p := by
    unfold State.haltLimit
    rw [halt F.LOOM_HALT_LIMIT p rfl front, headroom, gap]
  refine State.halting_iff.2 ⟨frames, own, ⟨?_, ?_⟩, ?_⟩
  · unfold State.haltOn
    rw [limit, headroom]
  · unfold State.haltOff
    rw [limit, headroom, gap]
  · unfold State.workingSize
    rw [stalls, reserves]

section
variable {p : Nat} {s t : State} (same : t.halting p = s.halting p)
include same

theorem State.occupancy_of_halting (q : Nat) : t.occupancy q = s.occupancy q := by
  unfold State.occupancy
  rw [(State.halting_iff.1 same).1]

/-- The node of the port is as full. -/
theorem State.node_of_halting : t.nodeFull (nodeOf p) = s.nodeFull (nodeOf p) ∧ t.nodeCalm (nodeOf p) = s.nodeCalm (nodeOf p) := by
  obtain ⟨frames, -, -, size⟩ := State.halting_iff.1 same
  have used : t.workingUsed (nodeOf p) = s.workingUsed (nodeOf p) := by
    unfold State.workingUsed
    rw [frames]
  constructor
  · unfold State.nodeFull
    rw [size, used]
  · unfold State.nodeCalm
    rw [size, used]

end

/-! ### One port evaluated (08 R329) -/

/-- A port evaluated is held at or above its ON level, and else keeps its hold until it is released. -/
def State.portHold (s : State) (p : Nat) (calm : Bool) : Bool :=
  decide (s.haltOn p ≤ s.occupancy p) || (s.on (F.LOOM_HALT_STATUS_PORT_HOLD p) && !(decide (s.occupancy p ≤ s.haltOff p) && calm))

/-- A port evaluated is held with its full node, and else keeps that hold until it is released. -/
def State.nodeHold (s : State) (p : Nat) (full calm : Bool) : Bool :=
  full || (s.on (F.LOOM_HALT_STATUS_NODE_HOLD p) && !(decide (s.occupancy p ≤ s.haltOff p) && calm))

section
variable {s : State} {p : Nat}

theorem State.portHold_above (above : s.haltOn p ≤ s.occupancy p) (calm : Bool) : s.portHold p calm = true := by
  simp [State.portHold, above]

theorem State.portHold_released (below : s.occupancy p < s.haltOn p) (released : s.occupancy p ≤ s.haltOff p) : s.portHold p true = false := by
  simp [State.portHold, Nat.not_le.2 below, released]

theorem State.portHold_between (above : s.haltOff p < s.occupancy p) (below : s.occupancy p < s.haltOn p) (calm : Bool) :
    s.portHold p calm = s.on (F.LOOM_HALT_STATUS_PORT_HOLD p) := by
  simp [State.portHold, Nat.not_le.2 above, Nat.not_le.2 below]

end

theorem State.holds_of_halting {p : Nat} {s t : State} (same : t.halting p = s.halting p) (full calm : Bool) :
    t.portHold p calm = s.portHold p calm ∧ t.nodeHold p full calm = s.nodeHold p full calm := by
  obtain ⟨-, word, ⟨on, off⟩, -⟩ := State.halting_iff.1 same
  have occupancy := State.occupancy_of_halting same p
  constructor
  · unfold State.portHold
    rw [on, off, occupancy, State.on_addr (f := F.LOOM_HALT_STATUS_PORT_HOLD p) word]
  · unfold State.nodeHold
    rw [off, occupancy, State.on_addr (f := F.LOOM_HALT_STATUS_NODE_HOLD p) word]

/-- The state with a port's word as its evaluation leaves it. -/
def State.haltShown (p : Nat) (full calm : Bool) (s : State) : State :=
  ((s.set (F.LOOM_HALT_STATUS_OCCUPANCY p) (satNat 16 ((s.occupancy p + unit64 - 1) / unit64))).setB (F.LOOM_HALT_STATUS_PORT_HOLD p)
    (s.portHold p calm)).setB (F.LOOM_HALT_STATUS_NODE_HOLD p) (s.nodeHold p full calm)

theorem State.haltPort_cases (p : Nat) (full calm : Bool) (s : State) : s.haltPort p full calm = (s.haltShown p full calm).sendHold p ∨
    s.haltPort p full calm = (s.haltShown p full calm).sendRelease p ∨ s.haltPort p full calm = s.haltShown p full calm := by
  unfold State.haltPort
  dsimp only
  split
  · exact .inl rfl
  · split
    · exact .inr (.inl rfl)
    · exact .inr (.inr rfl)

theorem State.rd_sendHold {p a : Nat} (h : a ≠ R.MAC_STATUS p) (s : State) : (s.sendHold p).rd a = s.rd a := by
  unfold State.sendHold
  split
  · rfl
  · exact (State.rd_set_ne (f := F.MAC_STATUS_XOFF_SENT p) h _ _).trans (State.rd_of_regs (State.sendCtl_regs p _ s) a)

theorem State.frames_sendCtl (p k : Nat) (s : State) : (s.sendCtl p k).frames = s.frames := by
  unfold State.sendCtl
  split <;> rfl

theorem State.frames_sendHold (p : Nat) (s : State) : (s.sendHold p).frames = s.frames := by
  unfold State.sendHold
  split
  · rfl
  · exact State.frames_sendCtl ..

theorem State.frames_sendRelease (p : Nat) (s : State) : (s.sendRelease p).frames = s.frames := by
  unfold State.sendRelease
  split
  · rfl
  · exact State.frames_sendCtl ..

/-- What an evaluation sends shows in MAC_STATUS alone. -/
theorem State.haltPort_sends (p : Nat) (full calm : Bool) (s : State) : (s.haltPort p full calm).frames = s.frames ∧
    ∀ a, a ≠ R.MAC_STATUS p → (s.haltPort p full calm).rd a = (s.haltShown p full calm).rd a := by
  rcases State.haltPort_cases p full calm s with sent | sent | sent
  · exact ⟨by rw [sent, State.frames_sendHold]; rfl, fun a ha => by rw [sent, State.rd_sendHold ha]⟩
  · exact ⟨by rw [sent, State.frames_sendRelease]; rfl, fun a ha => by rw [sent, State.rd_sendRelease ha]⟩
  · exact ⟨by rw [sent]; rfl, fun a _ => by rw [sent]⟩

theorem State.rd_haltPort {p a : Nat} (status : a ≠ R.LOOM_HALT_STATUS p) (mac : a ≠ R.MAC_STATUS p) (full calm : Bool) (s : State) :
    (s.haltPort p full calm).rd a = s.rd a :=
  ((State.haltPort_sends p full calm s).2 a mac).trans ((State.rd_set_ne (f := F.LOOM_HALT_STATUS_NODE_HOLD p) status _ _).trans
    ((State.rd_set_ne (f := F.LOOM_HALT_STATUS_PORT_HOLD p) status _ _).trans (State.rd_set_ne (f := F.LOOM_HALT_STATUS_OCCUPANCY p) status _ _)))

theorem State.on_haltPort {p : Nat} (front : p < 272) (full calm : Bool) (s : State) :
    (s.haltPort p full calm).on (F.LOOM_HALT_STATUS_PORT_HOLD p) = s.portHold p calm ∧
      (s.haltPort p full calm).on (F.LOOM_HALT_STATUS_NODE_HOLD p) = s.nodeHold p full calm := by
  have own := (State.haltPort_sends p full calm s).2 (R.LOOM_HALT_STATUS p) (by simp only [R.LOOM_HALT_STATUS, R.MAC_STATUS]; omega)
  constructor
  · refine (State.on_addr (f := F.LOOM_HALT_STATUS_PORT_HOLD p) own).trans ((State.on_set_ne
      (f := F.LOOM_HALT_STATUS_NODE_HOLD p) (g := F.LOOM_HALT_STATUS_PORT_HOLD p) rfl
      (.inl (show 16 + 1 ≤ 17 by decide)) (show 16 + 1 ≤ 32 by decide) _ _).trans ?_)
    exact State.on_setB_self (f := F.LOOM_HALT_STATUS_PORT_HOLD p) (show 16 + 1 ≤ 32 by decide) Nat.one_pos ..
  · refine (State.on_addr (f := F.LOOM_HALT_STATUS_NODE_HOLD p) own).trans ?_
    exact State.on_setB_self (f := F.LOOM_HALT_STATUS_NODE_HOLD p) (show 17 + 1 ≤ 32 by decide) Nat.one_pos ..

/-! ### HALTER_EVALUATE (08 R329 to R332) -/

/-- A source evaluated, a front port or an internal one, in a node whose working part is full, or calm. -/
def State.haltSource (full calm : Bool) (p : Nat) : State → State := if p < 272 then State.haltPort p full calm else State.haltInner p full calm

/-- One node's part of an evaluation. -/
def State.haltNode (n : Nat) (s : State) : State :=
  (s.checkHeadroom n).forEach (nodePorts n) (State.haltSource (s.nodeFull n) (s.nodeCalm n))

theorem exec_halterEvaluate_idle {s : State} (idle : s.cycleDue evHalter = false) : exec .halterEvaluate s = .next s := by
  show Host.Outcome.next (s.when (s.cycleDue evHalter) _) = _
  rw [idle, State.when_false]

theorem exec_halterEvaluate_due {s : State} (due : s.cycleDue evHalter = true) :
    exec .halterEvaluate s = .next ((s.cycleMade evHalter).forEach (List.range 36) State.haltNode) := by
  show Host.Outcome.next (s.when (s.cycleDue evHalter) _) = _
  rw [due, State.when_true]
  rfl

theorem State.checkHeadroom_frames (n : Nat) (s : State) : (s.checkHeadroom n).frames = s.frames := by
  unfold State.checkHeadroom
  dsimp only
  split
  · exact (State.raiseD_told .loom 2 n 0 _).frames
  · split <;> rfl

theorem State.rd_checkHeadroom {a : Nat} (told : ¬ToldAt a) (event : a ≠ R.LOOM_EVENT) (n : Nat) (s : State) :
    (s.checkHeadroom n).rd a = s.rd a := by
  unfold State.checkHeadroom
  dsimp only
  split
  · exact State.rd_raiseD 2 n 0 _ told event
  · split <;> rfl

theorem State.haltInner_frames (p : Nat) (full calm : Bool) (s : State) : (s.haltInner p full calm).frames = s.frames := by
  unfold State.haltInner
  split
  · rfl
  · split <;> rfl

theorem State.rd_haltInner (p : Nat) (full calm : Bool) (s : State) (a : Nat) : (s.haltInner p full calm).rd a = s.rd a := by
  unfold State.haltInner
  split
  · rfl
  · split <;> rfl

/-- No setting of the halter lies where it writes. -/
theorem HaltSetting.unwritten {a : Nat} (setting : HaltSetting a) :
    ¬ToldAt a ∧ a ≠ R.LOOM_EVENT ∧ ∀ q < 272, a ≠ R.LOOM_HALT_STATUS q ∧ a ≠ R.MAC_STATUS q := by
  obtain ⟨p, front, place⟩ := setting
  have node := nodeOf_lt front
  simp only [R.LOOM_STALL_CFG, R.MAC_CFG, R.LOOM_HALT] at place
  refine ⟨fun told => ?_, ?_, fun q hq => ⟨?_, ?_⟩⟩
  · have := told.place
    omega
  all_goals
    simp only [R.LOOM_EVENT, R.LOOM_HALT_STATUS, R.MAC_STATUS]
    omega

section
variable {p : Nat} (front : p < 272)
include front

theorem State.halting_checkHeadroom (n : Nat) (s : State) : (s.checkHeadroom n).halting p = s.halting p := by
  refine State.halting_of_regs front (State.checkHeadroom_frames n s) (State.rd_checkHeadroom (fun told => ?_) ?_ n s)
    (fun a setting => State.rd_checkHeadroom setting.unwritten.1 setting.unwritten.2.1 n s)
  · have := told.place
    simp only [R.LOOM_HALT_STATUS] at this
    omega
  · simp only [R.LOOM_HALT_STATUS, R.LOOM_EVENT]
    omega

/-- The evaluation of another port leaves what the halter reads of this one. -/
theorem State.halting_haltPort {q : Nat} (port : q < 272) (other : q ≠ p) (full calm : Bool) (s : State) :
    (s.haltPort q full calm).halting p = s.halting p := by
  refine State.halting_of_regs front (State.haltPort_sends q full calm s).1 (State.rd_haltPort ?_ ?_ full calm s) (fun a setting => ?_)
  · simp only [R.LOOM_HALT_STATUS]
    omega
  · simp only [R.LOOM_HALT_STATUS, R.MAC_STATUS]
    omega
  · obtain ⟨-, -, unwritten⟩ := setting.unwritten
    obtain ⟨status, mac⟩ := unwritten q port
    exact State.rd_haltPort status mac full calm s

theorem State.halting_haltSource {q : Nat} (other : q ≠ p) (full calm : Bool) (s : State) :
    (s.haltSource full calm q).halting p = s.halting p := by
  unfold State.haltSource
  split
  · next port => exact State.halting_haltPort front port other full calm s
  · exact State.halting_of_regs front (State.haltInner_frames ..) (State.rd_haltInner ..) (fun a _ => State.rd_haltInner ..)

/-- Another node's part leaves what the halter reads of the port. -/
theorem State.halting_haltNode {n : Nat} (other : n ≠ nodeOf p) (s : State) : (s.haltNode n).halting p = s.halting p := by
  refine (State.view_forEach (v := State.halting p) (fun q listed s => ?_) _).trans (State.halting_checkHeadroom front n s)
  have away : q ≠ p := fun same => other ((nodeOf_of_mem_nodePorts listed (same ▸ front)).symm.trans (congrArg nodeOf same))
  exact State.halting_haltSource front away _ _ s

/-- In its own node's part a port is evaluated as if alone. -/
theorem State.on_haltNode (s : State) :
    (s.haltNode (nodeOf p)).on (F.LOOM_HALT_STATUS_PORT_HOLD p) = s.portHold p (s.nodeCalm (nodeOf p)) ∧
      (s.haltNode (nodeOf p)).on (F.LOOM_HALT_STATUS_NODE_HOLD p) = s.nodeHold p (s.nodeFull (nodeOf p)) (s.nodeCalm (nodeOf p)) := by
  obtain ⟨r, before, after⟩ := State.view_forEach_of_mem (v := State.halting p) (nodup_nodePorts (nodeOf p)) (mem_nodePorts_nodeOf front)
    (fun q _ other u => State.halting_haltSource front other (s.nodeFull (nodeOf p)) (s.nodeCalm (nodeOf p)) u) (s.checkHeadroom (nodeOf p))
  rw [State.haltSource, if_pos front] at after
  obtain ⟨-, word, -⟩ := State.halting_iff.1 after
  obtain ⟨port, node⟩ := State.on_haltPort front (s.nodeFull (nodeOf p)) (s.nodeCalm (nodeOf p)) r
  obtain ⟨portSame, nodeSame⟩ := State.holds_of_halting (before.trans (State.halting_checkHeadroom front (nodeOf p) s))
    (s.nodeFull (nodeOf p)) (s.nodeCalm (nodeOf p))
  exact ⟨(State.on_addr (f := F.LOOM_HALT_STATUS_PORT_HOLD p) word).trans (port.trans portSame),
    (State.on_addr (f := F.LOOM_HALT_STATUS_NODE_HOLD p) word).trans (node.trans nodeSame)⟩

/-- After an evaluation of all nodes every front port is held as its own levels and its node's working part say. -/
theorem State.on_haltNodes {s t : State} (same : t.halting p = s.halting p) :
    (t.forEach (List.range 36) State.haltNode).on (F.LOOM_HALT_STATUS_PORT_HOLD p) = s.portHold p (s.nodeCalm (nodeOf p)) ∧
      (t.forEach (List.range 36) State.haltNode).on (F.LOOM_HALT_STATUS_NODE_HOLD p) =
        s.nodeHold p (s.nodeFull (nodeOf p)) (s.nodeCalm (nodeOf p)) := by
  have listed : nodeOf p ∈ List.range 36 := List.mem_range.2 (Nat.lt_trans (nodeOf_lt front) (by decide))
  obtain ⟨r, before, after⟩ := State.view_forEach_of_mem (v := State.halting p) (f := State.haltNode) List.nodup_range listed
    (fun n _ other s => State.halting_haltNode front other s) t
  obtain ⟨-, word, -⟩ := State.halting_iff.1 after
  obtain ⟨full, calm⟩ := State.node_of_halting (before.trans same)
  obtain ⟨portSame, nodeSame⟩ := State.holds_of_halting (before.trans same) (s.nodeFull (nodeOf p)) (s.nodeCalm (nodeOf p))
  obtain ⟨port, node⟩ := State.on_haltNode front r
  rw [full, calm] at node
  rw [calm] at port
  exact ⟨(State.on_addr (f := F.LOOM_HALT_STATUS_PORT_HOLD p) word).trans (port.trans portSame),
    (State.on_addr (f := F.LOOM_HALT_STATUS_NODE_HOLD p) word).trans (node.trans nodeSame)⟩

end

theorem State.haltNode_frames (n : Nat) (s : State) : (s.haltNode n).frames = s.frames := by
  refine (State.view_forEach (v := State.frames) (fun q _ s => ?_) _).trans (State.checkHeadroom_frames n s)
  unfold State.haltSource
  split
  · exact (State.haltPort_sends ..).1
  · exact State.haltInner_frames ..

/-- A field of one bit shows whether it is set. -/
theorem State.get_eq_b2n_on {f : Fld} (bit : f.w = 1) (s : State) : s.get f = b2n (s.on f) := by
  have small := s.get_lt f
  rw [bit] at small
  rw [State.on_eq_get]
  obtain zero | one : s.get f = 0 ∨ s.get f = 1 := by omega
  · rw [zero]; rfl
  · rw [one]; rfl

/-! ### NODE_DRAIN_DONE (08 R322; 18 R622) -/

theorem State.loom_updHeld (s : State) : s.updHeld.loom = s.loom := rfl

/-- The loom without node `n`: out of reset, with none of its shuttles, rows and pairs. -/
def State.withoutNode (n : Nat) (s : State) : State :=
  { s with
    nodeRst := s.nodeRst.filter (fun m => m != n)
    shuttles := s.shuttles.filter (fun x => x.src != n && x.dst != n)
    rows := (((s.rows.filter (fun (r : Row) => r.node != n)).map
      (fun (r : Row) => { r with wait := r.wait.filter (fun d => d != n) })).filter (fun r => !r.wait.isEmpty))
    pairs := s.pairs.filter (fun p => p.1 / 36 != n && p.1 % 36 != n) }

theorem exec_nodeDrainDone_rests {s : State} {n : Nat} (rests : n ∉ s.nodeRst ∨ ∃ x ∈ s.shuttles, x.place = .inter ∧ x.via = n) :
    exec (.nodeDrainDone n) s = .next s :=
  if_pos (by simpa using rests)

/-- A node in reset with no shuttle at it: the loom goes on without it. -/
theorem exec_nodeDrainDone_drained {s : State} {n : Nat} (held : n ∈ s.nodeRst)
    (drained : ∀ x ∈ s.shuttles, ¬(x.place = .inter ∧ x.via = n)) :
    ∃ u, exec (.nodeDrainDone n) s = .next u ∧ u.loom = (s.withoutNode n).loom := by
  have goes : ¬((!s.nodeRst.contains n) = true ∨ s.shuttles.any (fun x => x.place == .inter && x.via == n) = true) := by
    simpa [held] using drained
  have fated : ∀ l : List (Nat × Frame), (s.forEach l (fun x s => (s.enterLate x.2).endFrame x.1 0x35)).loom = s.loom := fun l => by
    refine State.view_forEach (v := State.loom) (fun x _ s => (State.loom_endFrame ..).trans ?_) s
    unfold State.enterLate
    split
    · rfl
    · exact (State.count_told ..).loom
  have without : ∀ u : State, u.loom = s.loom → (u.withoutNode n).loom = (s.withoutNode n).loom := fun u same => by
    obtain ⟨⟨shuttles, pairs⟩, rows, nodes⟩ := State.loom_iff.1 same
    simp only [State.loom, State.withoutNode, shuttles, pairs, rows, nodes]
  show ∃ u, execNodeDrainDone n s = .next u ∧ _
  unfold execNodeDrainDone
  rw [if_neg goes]
  extract_lets fates ended cleared drained
  have same : ended.loom = s.loom := (State.loom_endFrames ..).trans (fated _)
  have left : drained.loom = (ended.withoutNode n).loom := rfl
  exact ⟨_, rfl, (State.loom_updHeld _).trans ((State.loom_finish ..).trans (left.trans (without ended same)))⟩

section
variable {s : State} {n : Nat}

theorem State.pair_none {d : Nat} (gone : ∀ p ∈ s.pairs, p.1 ≠ pairKey n d) : s.pair n d = {} := by
  unfold State.pair Tbl.getD
  cases found : Tbl.find (pairKey n d) s.pairs with
  | none => rfl
  | some p => exact absurd rfl (gone _ (Tbl.mem_of_find found))

/-- Every pair with the node as source or output starts anew. -/
theorem State.pair_withoutNode (node : n < 36) {d : Nat} (output : d < 36) :
    (s.withoutNode n).pair n d = {} ∧ (s.withoutNode n).pair d n = {} := by
  have kept : ∀ p ∈ (s.withoutNode n).pairs, p.1 / 36 ≠ n ∧ p.1 % 36 ≠ n := fun p hp => by
    simpa using (List.mem_filter.1 hp).2
  constructor
  · refine State.pair_none (fun p hp key => (kept p hp).1 ?_)
    rw [key, pairKey]
    omega
  · refine State.pair_none (fun p hp key => (kept p hp).2 ?_)
    rw [key, pairKey]
    omega

/-- No row is left of the node or waits for it. -/
theorem State.rows_withoutNode : ∀ r ∈ (s.withoutNode n).rows, r.node ≠ n ∧ n ∉ r.wait := by
  intro r listed
  obtain ⟨row, kept, rfl⟩ := List.mem_map.1 (List.mem_of_mem_filter listed)
  exact ⟨by simpa using (List.mem_filter.1 kept).2, by simp⟩

end

/-- Settles O37: the hayloft and the timers by the frame that they find, the halter port by port by `State.on_haltNodes`, and a node's reset by
what `State.withoutNode` leaves of the loom. -/
theorem stallsSpillHoldAndAge : Obligations.StallsSpillHoldAndAge := by
  unfold Obligations.StallsSpillHoldAndAge
  intro s id n k word stack f
  refine ⟨fun found _ _ _ full => exec_hayloftSpill_rests found (.inl full),
    fun found stage whole here room last => ⟨exec_hayloftSpill_spills found stage whole here room last,
      fun below => exec_hayloftSpill_rests found (.inr below)⟩,
    fun found stage away first below => ?fetch,
    fun gone => ⟨(exec_hayloft_none (stack := stack) (word := word) gone).1, (exec_hayloft_none gone).2, exec_ageLimitExpiry_none gone,
      exec_mcastCopyTimeout_none gone⟩,
    fun named => ⟨(s.stackShown k).spilledMarked, exec_hayloftStackFail k s, State.sameBut_stackFailed k s, rfl, State.get_stackShown named s⟩,
    fun found front old limited => (exec_ageLimitExpiry_found found).trans (if_pos ⟨limited, front, old⟩),
    fun found young => (exec_ageLimitExpiry_found found).trans (if_neg ?young),
    fun found stage limited waited => (exec_mcastCopyTimeout_found found).trans (if_pos ⟨stage, limited, waited⟩),
    fun found idle => (exec_mcastCopyTimeout_found found).trans (if_neg ?idle),
    exec_halterEvaluate_idle, fun due => ?halter, exec_nodeDrainDone_rests, fun held drained => ?drains⟩
  case fetch =>
    have fetched := exec_hayloftFetch_fetches found stage away first below (stack := stack) (word := word) rfl
    exact ⟨_, rfl, fun whole => fetched.trans (if_neg (by simp [whole])), fun lost => fetched.trans (if_pos (Option.isSome_iff_ne_none.2 lost))⟩
  case young =>
    rintro ⟨limited, front, old⟩
    rcases young with unlimited | behind | early
    · exact limited unlimited
    · rw [behind] at front
      cases front
    · omega
  case idle =>
    rintro ⟨stage, limited, -⟩
    exact idle.elim limited (fun elsewhere => elsewhere stage)
  case halter =>
    refine ⟨_, exec_halterEvaluate_due due, State.view_forEach (v := State.frames) (fun n _ s => State.haltNode_frames n s) _, fun p front => ?_⟩
    intro on off
    obtain ⟨port, node⟩ := State.on_haltNodes front (s := s) (t := s.cycleMade evHalter) rfl
    have bit := fun u : State => u.get_eq_b2n_on (f := F.LOOM_HALT_STATUS_PORT_HOLD p) rfl
    rw [bit, port, bit s, State.get_eq_b2n_on (f := F.LOOM_HALT_STATUS_NODE_HOLD p) rfl, node]
    refine ⟨fun above => ?_, fun below released calm => ?_, fun above below => ?_, fun full => ?_⟩
    · rw [State.portHold_above above]
      rfl
    · rw [show s.nodeCalm (nodeOf p) = true from decide_eq_true calm, State.portHold_released below released]
      rfl
    · rw [State.portHold_between above below]
    · rw [show s.nodeFull (nodeOf p) = true from decide_eq_true full]
      rfl
  case drains =>
    obtain ⟨u, drains, same⟩ := exec_nodeDrainDone_drained held drained
    obtain ⟨⟨shuttles, pairs⟩, rows, nodes⟩ := State.loom_iff.1 same
    have pair : ∀ m d, u.pair m d = (s.withoutNode n).pair m d := fun m d => by
      unfold State.pair
      rw [pairs]
    refine ⟨u, drains, ?_, shuttles, fun d output node => ?_, ?_⟩
    · rw [nodes]
      simp [State.withoutNode]
    · rw [pair, pair]
      exact State.pair_withoutNode node output
    · rw [rows]
      exact State.rows_withoutNode

end Sys2Proof.Machine
end

section
/-! Stream recovery and the numbering of a generation handle (09 R365 to R370): what the vector and the match algorithm answer, case by case,
and what an accepted copy leaves of its handle. -/

namespace Sys2Proof.Machine

open Sys2Proof

/-! ### The registers of the handles -/

/-- `t` has the entries and the states of all handles as `s` has them. -/
def SameStreams (s t : State) : Prop := ∀ a, 0x790000 ≤ a → a < 0x7D0000 → t.rd a = s.rd a

namespace SameStreams
variable {s t u : State}

theorem refl (s : State) : SameStreams s s := fun _ _ _ => rfl

theorem trans (h : SameStreams s t) (g : SameStreams t u) : SameStreams s u := fun a lo hi => (g a lo hi).trans (h a lo hi)

theorem of_regs (h : t.regs = s.regs) : SameStreams s t := fun a _ _ => State.rd_of_regs h a

theorem of_told (h : Told s t) : SameStreams s t := fun a lo hi => h.1 a (not_toldAt_egr (by omega) hi)

theorem frerCount (h i n : Nat) (s : State) : SameStreams s (s.frerCount h i n) := of_told (State.count_told 4 h i n s)

/-- A count made under a condition leaves them too. -/
theorem frerCount_if (c : Prop) [Decidable c] (h i n : Nat) (s : State) : SameStreams s (if c then s.frerCount h i n else s) := by
  split
  · exact frerCount h i n s
  · exact refl s

theorem frerAccept (h : Nat) (s : State) : SameStreams s (s.frerAccept h) := frerCount h 1 1 s

theorem raise (b h : Nat) (s : State) : SameStreams s (s.raise .frer b h) := fun a lo hi =>
  State.rd_raise b h s (not_toldAt_egr (by omega) hi) (by simp only [Blk.reg, R.FRER_EVENT]; omega)

theorem modFrame (id : Nat) (g : Frame → Frame) (s : State) : SameStreams s (s.modFrame id g) := by
  unfold State.modFrame
  split
  · exact refl s
  · exact of_regs rfl

section
variable {h : Nat} (same : SameStreams s t) (hh : h < 4096)
include same hh

theorem seq : t.get (F.FRER_STATE_SEQ h) = s.get (F.FRER_STATE_SEQ h) :=
  State.get_addr (same _ (by simp only [F.FRER_STATE_SEQ, R.FRER_STATE]; omega) (by simp only [F.FRER_STATE_SEQ, R.FRER_STATE]; omega))

theorem takeAny : t.on (F.FRER_STATE_TAKE_ANY h) = s.on (F.FRER_STATE_TAKE_ANY h) :=
  State.on_addr (same _ (by simp only [F.FRER_STATE_TAKE_ANY, R.FRER_STATE]; omega) (by simp only [F.FRER_STATE_TAKE_ANY, R.FRER_STATE]; omega))

theorem hist : t.frerHist h = s.frerHist h := by
  unfold State.frerHist State.get2
  rw [same (R.FRER_STATE h + 8) (by simp only [R.FRER_STATE]; omega) (by simp only [R.FRER_STATE]; omega),
    same (R.FRER_STATE h + 12) (by simp only [R.FRER_STATE]; omega) (by simp only [R.FRER_STATE]; omega)]

theorem length : t.get (F.FRER_STREAM_HISTORY h) = s.get (F.FRER_STREAM_HISTORY h) :=
  State.get_addr (same _ (by simp only [F.FRER_STREAM_HISTORY, R.FRER_STREAM]; omega)
    (by simp only [F.FRER_STREAM_HISTORY, R.FRER_STREAM]; omega))

end

end SameStreams

theorem State.get2_set2 {lo hi : Nat} (ne : lo ≠ hi) (v : Nat) (s : State) : (s.set2 lo hi 64 v).get2 lo hi = v % 2 ^ 64 := by
  simp only [State.get2, State.set2, State.rd_wr_ne ne, State.rd_wr_self, BitVec.toNat_ofNat]
  omega

theorem State.frerHist_setFrer (h recov hist : Nat) (any : Bool) (s : State) : (s.setFrer h recov hist any).frerHist h = hist % 2 ^ 64 :=
  State.get2_set2 (by omega) hist _

theorem State.get_setFrer_length {h : Nat} (hh : h < 4096) (recov hist : Nat) (any : Bool) (s : State) :
    (s.setFrer h recov hist any).get (F.FRER_STREAM_HISTORY h) = s.get (F.FRER_STREAM_HISTORY h) := by
  refine State.get_addr ((sameBut_setFrer h recov hist any s).1 _ ?_)
  simp only [frerStateRegs, List.mem_cons, List.not_mem_nil, or_false, F.FRER_STREAM_HISTORY, R.FRER_STREAM, R.FRER_STATE]
  omega

/-! ### An accepted copy -/

/-- A copy accepted by handle `h` of `s` has left `t`, with the last number and the history given. -/
structure FrerAccepted (h recov hist : Nat) (s t : State) : Prop where
  seq : t.get (F.FRER_STATE_SEQ h) = recov % 2 ^ 16
  takeAny : t.on (F.FRER_STATE_TAKE_ANY h) = false
  hist : t.frerHist h = hist % 2 ^ 64
  length : t.get (F.FRER_STREAM_HISTORY h) = s.get (F.FRER_STREAM_HISTORY h)
  timer : t.timer (.frerReset h) = some 0

/-- An accepted copy writes its handle's state between its counts, and restarts the reset timer. -/
theorem frerAccepted_of_setFrer {h recov hist : Nat} {s u v : State} (hh : h < 4096) (before : SameStreams s u)
    (after : SameStreams (u.setFrer h recov hist false) v) : FrerAccepted h recov hist s (v.frerAccept h) := by
  have left : SameStreams (u.setFrer h recov hist false) (v.frerAccept h) := after.trans (.frerAccept h v)
  refine ⟨(left.seq hh).trans (State.get_setFrer_seq ..), ?_, (left.hist hh).trans (State.frerHist_setFrer ..),
    (left.length hh).trans ((State.get_setFrer_length hh ..).trans (before.length hh)), State.timer_start_self ..⟩
  rw [left.takeAny hh, State.on_eq_get, State.get_setFrer_takeAny]
  rfl

/-! ### The distance from the last number -/

/-- How far a number lies ahead of the last one of a handle, modulo 2^16 (09 R369). -/
def State.frerDelta (s : State) (h n : Nat) : Int := toInt 16 (n + 65536 - s.get (F.FRER_STATE_SEQ h))

theorem toInt16_sub_eq_zero {n r : Nat} (hn : n < 65536) (hr : r < 65536) : toInt 16 (n + 65536 - r) = 0 ↔ n = r := by
  unfold toInt
  dsimp only
  split <;> omega

theorem State.frerDelta_eq_zero {n : Nat} (hn : n < 65536) (s : State) (h : Nat) : s.frerDelta h n = 0 ↔ n = s.get (F.FRER_STATE_SEQ h) :=
  toInt16_sub_eq_zero hn (s.get_lt (F.FRER_STATE_SEQ h))

theorem FrerAccepted.delta_self {h n hist : Nat} {s t : State} (accepted : FrerAccepted h n hist s t) (hn : n < 65536) : t.frerDelta h n = 0 :=
  (State.frerDelta_eq_zero hn t h).2 (accepted.seq.trans (Nat.mod_eq_of_lt hn)).symm

/-! ### The vector algorithm (09 R369) -/

/-- The history's length in force. -/
def State.frerLen (s : State) (h : Nat) : Nat := max 1 (min 64 (s.get (F.FRER_STREAM_HISTORY h)))

theorem State.frerLen_of_range {s : State} {h : Nat} (low : 1 ≤ s.get (F.FRER_STREAM_HISTORY h)) (high : s.get (F.FRER_STREAM_HISTORY h) ≤ 64) :
    s.frerLen h = s.get (F.FRER_STREAM_HISTORY h) := by
  unfold State.frerLen
  omega

theorem State.frerLen_pos (s : State) (h : Nat) : 0 < s.frerLen h := by
  unfold State.frerLen
  omega

theorem State.frerLen_le (s : State) (h : Nat) : s.frerLen h ≤ 64 := by
  unfold State.frerLen
  omega

theorem FrerAccepted.frerLen {h recov hist : Nat} {s t : State} (accepted : FrerAccepted h recov hist s t) : t.frerLen h = s.frerLen h := by
  unfold State.frerLen
  rw [accepted.length]

/-- The history of a handle shows that the number has come. -/
def State.FrerSeen (s : State) (h n : Nat) : Prop :=
  (s.frerDelta h n).natAbs < s.frerLen h ∧ s.frerDelta h n ≤ 0 ∧ bit (s.frerHist h) (-s.frerDelta h n).toNat = true

section
variable {s : State} {h n : Nat}

theorem State.frerVector_rogue (far : s.frerLen h ≤ (s.frerDelta h n).natAbs) : s.frerVector h n = (0x41, s.frerCount h 3 1) := by
  refine if_pos (?_ : s.frerDelta h n ≥ s.frerLen h ∨ s.frerDelta h n ≤ -(s.frerLen h : Int))
  omega

theorem State.frerVector_seen (seen : s.FrerSeen h n) : s.frerVector h n = (0x40, s.frerCount h 2 1) := by
  obtain ⟨near, behind, shown⟩ := seen
  refine (if_neg (?_ : ¬(s.frerDelta h n ≥ s.frerLen h ∨ s.frerDelta h n ≤ -(s.frerLen h : Int)))).trans ((if_pos behind).trans (if_pos shown))
  omega

section
variable {t : State}

/-- The bit of a late number is set where it was clear. -/
theorem FrerAccepted.seen_of_late (near : (s.frerDelta h n).natAbs < s.frerLen h) (behind : s.frerDelta h n ≤ 0)
    (unseen : bit (s.frerHist h) (-s.frerDelta h n).toNat = false)
    (accepted : FrerAccepted h (s.get (F.FRER_STATE_SEQ h)) (s.frerHist h + 2 ^ (-s.frerDelta h n).toNat) s t) : t.FrerSeen h n := by
  have delta : t.frerDelta h n = s.frerDelta h n := by
    unfold State.frerDelta
    rw [accepted.seq, show s.get (F.FRER_STATE_SEQ h) % 2 ^ 16 = _ from Nat.mod_eq_of_lt (s.get_lt (F.FRER_STATE_SEQ h))]
  have short := s.frerLen_le h
  have inside : (-s.frerDelta h n).toNat < 64 := by omega
  unfold State.FrerSeen
  rw [delta, accepted.frerLen, accepted.hist]
  refine ⟨near, behind, ?_⟩
  unfold bit at unseen ⊢
  rw [Nat.testBit_mod_two_pow, Nat.add_comm, Nat.testBit_two_pow_add_eq, unseen]
  simpa using inside

/-- The shifted history's first bit stands for the new last number. -/
theorem FrerAccepted.seen_of_ahead (hn : n < 65536) {k : Nat} (ahead : 0 < k)
    (accepted : FrerAccepted h n ((s.frerHist h * 2 ^ k + 1) % 2 ^ s.frerLen h) s t) : t.FrerSeen h n := by
  have odd : (s.frerHist h * 2 ^ k + 1) % 2 = 1 := Nat.odd_iff.1 (((even_two.pow_of_ne_zero ahead.ne').mul_left _).add_one)
  have shown : ((s.frerHist h * 2 ^ k + 1) % 2 ^ s.frerLen h % 2 ^ 64).testBit 0 = true := by
    rw [Nat.testBit_mod_two_pow, Nat.testBit_mod_two_pow, Nat.testBit_zero, odd]
    simp [s.frerLen_pos h]
  unfold State.FrerSeen
  rw [accepted.delta_self hn, accepted.frerLen, accepted.hist]
  exact ⟨s.frerLen_pos h, Int.le_refl 0, shown⟩

end

section
variable (hh : h < 4096)
include hh

theorem State.frerVector_late (near : (s.frerDelta h n).natAbs < s.frerLen h) (behind : s.frerDelta h n ≤ 0)
    (unseen : bit (s.frerHist h) (-s.frerDelta h n).toNat = false) : ∃ t, s.frerVector h n = (0, t) ∧
      FrerAccepted h (s.get (F.FRER_STATE_SEQ h)) (s.frerHist h + 2 ^ (-s.frerDelta h n).toNat) s t := by
  have inside : ¬(s.frerDelta h n ≥ s.frerLen h ∨ s.frerDelta h n ≤ -(s.frerLen h : Int)) := by omega
  exact ⟨_, (if_neg inside).trans ((if_pos behind).trans (if_neg (Bool.eq_false_iff.1 unseen))),
    frerAccepted_of_setFrer hh (.refl s) (.frerCount h 4 1 _)⟩

theorem State.frerVector_ahead (near : (s.frerDelta h n).natAbs < s.frerLen h) (ahead : 0 < s.frerDelta h n) :
    ∃ t, s.frerVector h n = (0, t) ∧ FrerAccepted h n ((s.frerHist h * 2 ^ (s.frerDelta h n).toNat + 1) % 2 ^ s.frerLen h) s t := by
  have inside : ¬(s.frerDelta h n ≥ s.frerLen h ∨ s.frerDelta h n ≤ -(s.frerLen h : Int)) := by omega
  exact ⟨_, (if_neg inside).trans (if_neg (Int.not_le.2 ahead)),
    frerAccepted_of_setFrer hh (.frerCount h 5 _ s) (.frerCount_if _ h 4 1 _)⟩

/-- What the vector algorithm answers: a rogue number, a number seen, or one accepted and seen from now on. -/
theorem State.frerVector_cases (hn : n < 65536) : s.frerVector h n = (0x41, s.frerCount h 3 1) ∨
    (s.frerDelta h n).natAbs < s.frerLen h ∧ (s.frerVector h n = (0x40, s.frerCount h 2 1) ∨
      ∃ t recov hist, s.frerVector h n = (0, t) ∧ FrerAccepted h recov hist s t ∧ t.FrerSeen h n) := by
  rcases Nat.lt_or_ge (s.frerDelta h n).natAbs (s.frerLen h) with near | far
  case inr => exact .inl (State.frerVector_rogue far)
  refine .inr ⟨near, ?_⟩
  rcases lt_or_ge 0 (s.frerDelta h n) with ahead | behind
  · obtain ⟨t, answer, accepted⟩ := State.frerVector_ahead hh near ahead
    exact .inr ⟨t, _, _, answer, accepted, accepted.seen_of_ahead hn (by omega)⟩
  · cases shown : bit (s.frerHist h) (-s.frerDelta h n).toNat with
    | true => exact .inl (State.frerVector_seen ⟨near, behind, shown⟩)
    | false =>
      obtain ⟨t, answer, accepted⟩ := State.frerVector_late hh near behind shown
      exact .inr ⟨t, _, _, answer, accepted, accepted.seen_of_late near behind shown⟩

end

/-! ### The match algorithm (09 R370) -/

theorem State.frerMatch_repeat (same : s.frerDelta h n = 0) (takes : s.on (F.FRER_STATE_TAKE_ANY h) = false) :
    s.frerMatch h n = (0x40, s.frerCount h 2 1) :=
  if_pos (⟨same, by simp [takes]⟩ : s.frerDelta h n = 0 ∧ (!s.on (F.FRER_STATE_TAKE_ANY h)) = true)

theorem State.frerMatch_accepts (hh : h < 4096) (other : ¬(s.frerDelta h n = 0 ∧ s.on (F.FRER_STATE_TAKE_ANY h) = false)) :
    ∃ t, s.frerMatch h n = (0, t) ∧ FrerAccepted h n (s.frerHist h) s t := by
  have passes : ¬(s.frerDelta h n = 0 ∧ (!s.on (F.FRER_STATE_TAKE_ANY h)) = true) := by simpa using other
  exact ⟨_, if_neg passes, frerAccepted_of_setFrer hh (.refl s) (.frerCount_if _ h 4 1 _)⟩

theorem FrerAccepted.frerMatch_repeat {hist : Nat} {t : State} (hn : n < 65536) (accepted : FrerAccepted h n hist s t) :
    t.frerMatch h n = (0x40, t.frerCount h 2 1) :=
  State.frerMatch_repeat (accepted.delta_self hn) accepted.takeAny

end

/-! ### Recovery in take-any (09 R368) -/

section
variable {s : State} {h n id p : Nat} {f : Frame} (stream : f.stream = some h)
  (mode : s.get (F.FRER_STREAM_MODE h) = 2 ∨ s.get (F.FRER_STREAM_MODE h) = 3) (port : s.get (F.FRER_STREAM_PORT h) = p)
  (number : s.seqOf f = some n) (takes : s.on (F.FRER_STATE_TAKE_ANY h) = true)
include stream mode port number takes

/-- In take-any a copy is accepted by either algorithm; it may then be marked to go without its tag. -/
theorem State.recover_takesAny (hh : h < 4096) :
    ∃ t hist, FrerAccepted h n hist s t ∧ (s.recover id p f).1 = 0 ∧ SameStreams t (s.recover id p f).2 := by
  have marked : ∀ t : State, SameStreams t (if 0 = 0 ∧ t.on (F.FRER_STREAM_RTAG_REMOVE h) then
      t.modFrame id (fun f => { f with rtagRem := true }) else t) := fun t => by
    split
    · exact .modFrame id _ t
    · exact .refl t
  unfold State.recover
  simp only [stream, port, number, ne_eq, not_true_eq_false, if_false, takes, if_true]
  rcases mode with two | three
  · have accepted := frerAccepted_of_setFrer (s := s) (recov := n) (hist := 1) hh (.refl s) (.refl _)
    simp only [two]
    exact ⟨_, _, accepted, rfl, marked _⟩
  · obtain ⟨t, answer, accepted⟩ := State.frerMatch_accepts (s := s) (n := n) hh (by simp [takes])
    simp only [three, answer]
    exact ⟨_, _, accepted, rfl, marked _⟩

end

/-! ### A generation handle (09 R365 to R367) -/

section
variable {s : State} {h id : Nat} {f : Frame} (stream : f.stream = some h) (mode : s.get (F.FRER_STREAM_MODE h) = 1)
include stream mode

theorem State.frerGenerate_home (home : s.get (F.FRER_STREAM_HOME_NODE h) = f.inNode) :
    s.frerGenerate id f = ((s.set (F.FRER_STATE_SEQ h) (s.get (F.FRER_STATE_SEQ h) + 1)).frerCount h 0 1).modFrame id (fun f =>
      { f with rtag := some (s.get (F.FRER_STATE_SEQ h)), made := true, rtagIns := s.on (F.FRER_STREAM_RTAG_INSERT h) }) := by
  unfold State.frerGenerate
  simp only [stream, mode, home, ne_eq, not_true_eq_false, if_false]
  rfl

theorem State.frerGenerate_foreign (foreign : s.get (F.FRER_STREAM_HOME_NODE h) ≠ f.inNode) :
    s.frerGenerate id f = (s.raise .frer 0 h).modFrame id (fun f => { f with rtag := none, made := true }) := by
  unfold State.frerGenerate
  simp only [stream, mode, foreign, ne_eq, not_true_eq_false, not_false_eq_true, if_false, if_true]

end

theorem Told.frame {s t : State} (h : Told s t) (id : Nat) : t.frame id = s.frame id := congrArg (Tbl.find id) h.frames

/-- Settles O41: the vector algorithm by its cases, where an accepted number is seen; the match algorithm by the last number alone. -/
theorem streamRecoveryTakesEachNumberOnce : Obligations.StreamRecoveryTakesEachNumberOnce := by
  unfold Obligations.StreamRecoveryTakesEachNumberOnce
  intro s t h n code id p f hh hn
  refine ⟨fun low high answer => ?vector, fun answer => ?matching, fun stream mode port number takes => ?any,
    fun stream mode found => ⟨fun home => ?home, fun foreign => ?foreign⟩⟩
  case vector =>
    have length := State.frerLen_of_range low high
    rw [← length]
    rcases State.frerVector_cases (s := s) hh hn with rogue | ⟨near, seen | ⟨u, recov, hist, taken, accepted, shown⟩⟩
    · obtain ⟨rfl, rfl⟩ := Prod.mk.inj (answer.symm.trans rogue)
      exact ⟨fun e => absurd e (by decide), fun _ => ⟨.inr rfl, (SameStreams.frerCount h 3 1 s).hist hh, (SameStreams.frerCount h 3 1 s).seq hh⟩,
        fun _ => rfl⟩
    · obtain ⟨rfl, rfl⟩ := Prod.mk.inj (answer.symm.trans seen)
      exact ⟨fun e => absurd e (by decide), fun _ => ⟨.inl rfl, (SameStreams.frerCount h 2 1 s).hist hh, (SameStreams.frerCount h 2 1 s).seq hh⟩,
        fun far => absurd far (Nat.not_le.2 near)⟩
    · obtain ⟨rfl, rfl⟩ := Prod.mk.inj (answer.symm.trans taken)
      exact ⟨fun _ => ⟨congrArg Prod.fst (State.frerVector_seen shown), accepted.takeAny, accepted.timer⟩, fun e => absurd rfl e,
        fun far => absurd far (Nat.not_le.2 near)⟩
  case matching =>
    rw [← State.frerDelta_eq_zero hn s h]
    by_cases repeated : s.frerDelta h n = 0 ∧ s.on (F.FRER_STATE_TAKE_ANY h) = false
    · obtain ⟨rfl, -⟩ := Prod.mk.inj (answer.symm.trans (State.frerMatch_repeat repeated.1 repeated.2))
      exact ⟨iff_of_true repeated rfl, fun e => absurd rfl e⟩
    · obtain ⟨u, taken, accepted⟩ := State.frerMatch_accepts hh repeated
      obtain ⟨rfl, rfl⟩ := Prod.mk.inj (answer.symm.trans taken)
      exact ⟨iff_of_false repeated (by decide), fun _ => ⟨rfl, accepted.seq.trans (Nat.mod_eq_of_lt hn),
        congrArg Prod.fst (accepted.frerMatch_repeat hn)⟩⟩
  case any =>
    obtain ⟨u, hist, accepted, goes, same⟩ := State.recover_takesAny (id := id) stream mode port number takes hh
    exact ⟨goes, (same.seq hh).trans (accepted.seq.trans (Nat.mod_eq_of_lt hn)), (same.takeAny hh).trans accepted.takeAny⟩
  case home =>
    have counted := State.count_told 4 h 0 1 (s.set (F.FRER_STATE_SEQ h) (s.get (F.FRER_STATE_SEQ h) + 1))
    have kept : State.frame _ id = some f := (counted.frame id).trans found
    have advanced := ((SameStreams.of_told counted).seq hh).trans (State.get_set_self (by simp [F.FRER_STATE_SEQ]) _ s)
    rw [State.frerGenerate_home stream mode home]
    exact ⟨((SameStreams.modFrame id _ _).seq hh).trans advanced, _, State.frame_modFrame_self kept _, rfl, rfl⟩
  case foreign =>
    rw [State.frerGenerate_foreign stream mode foreign]
    exact ⟨((SameStreams.modFrame id _ _).seq hh).trans ((SameStreams.raise 0 h s).seq hh), _,
      State.frame_modFrame_self (((State.raise_told .frer 0 h s).frame id).trans found) _, rfl⟩

end Sys2Proof.Machine
end

section
/-! The crystals: loss and return, the oven, the comparison and the correction of ageing (10 R383 to R389; 11 R435, R436). -/

namespace Sys2Proof.Machine

open Sys2Proof

/-! ### Fields apart -/

/-- A field that shares no bit with the field set stays. -/
theorem State.get_set_apart {f g : Fld} (h : g.lsb + g.w ≤ 32 ∧ (g.addr ≠ f.addr ∨ g.lsb + g.w ≤ f.lsb ∨ f.lsb + f.w ≤ g.lsb)) (v : Nat)
    (s : State) : (s.set f v).get g = s.get g := by
  obtain ⟨fits, apart⟩ := h
  by_cases same : g.addr = f.addr
  · exact State.get_set_ne same (apart.resolve_left (not_not_intro same)) fits v s
  · exact State.get_set_addr same v s

theorem State.on_set_apart {f g : Fld} (h : g.lsb + g.w ≤ 32 ∧ (g.addr ≠ f.addr ∨ g.lsb + g.w ≤ f.lsb ∨ f.lsb + f.w ≤ g.lsb)) (v : Nat)
    (s : State) : (s.set f v).on g = s.on g := congrArg (· != 0) (State.get_set_apart h v s)

/-! ### XO_MAIN lost and back (10 R386, R387) -/

/-- XO_MAIN lost, but for its registers: learning starts anew, and the wait of R387 begins at once where the oven is stable. -/
def State.mainUnlearnt (s : State) : State :=
  { s with
    dpll := { s.dpll with learnMs := 0, lockedMs := 0 }
    spareBad := 0
    timers := (s.when (s.on F.MEAS_STATUS_OVEN_STABLE) (State.start .xoBack)).timers }

/-- XO_MAIN lost, but for the event: XO_SPARE is the master where it is present, and what was learnt is forgotten. -/
def State.mainOut (s : State) : State :=
  (((s.mainUnlearnt.set F.MEAS_STATUS_XO_MAIN_OK 0).setB F.MEAS_STATUS_MASTER_SPARE (s.on F.MEAS_STATUS_XO_SPARE_OK)).set
    F.DPLL_LEARN_HOURS 0).set F.DPLL_STATUS_HISTORY_VALID 0

theorem State.xoMainLost_absent {s : State} (absent : s.on F.MEAS_STATUS_XO_MAIN_OK = false) : s.xoMainLost = s := if_pos (by simp [absent])

theorem State.xoMainLost_present {s : State} (present : s.on F.MEAS_STATUS_XO_MAIN_OK = true) :
    s.xoMainLost = s.mainOut.raise .meas 0 0xFFFF := by
  refine (if_neg (by simp [present])).trans ?_
  have oven : ((s.set F.MEAS_STATUS_XO_MAIN_OK 0).setB F.MEAS_STATUS_MASTER_SPARE (s.on F.MEAS_STATUS_XO_SPARE_OK)).on
      F.MEAS_STATUS_OVEN_STABLE = s.on F.MEAS_STATUS_OVEN_STABLE :=
    (State.on_set_apart (by decide) _ _).trans (State.on_set_apart (by decide) _ _)
  dsimp only
  rw [oven]
  refine congrArg (State.raise .meas 0 0xFFFF) ?_
  unfold State.mainOut State.mainUnlearnt
  cases s.on F.MEAS_STATUS_OVEN_STABLE <;> rfl

theorem State.sameBut_mainOut (s : State) : SameBut [R.MEAS_STATUS, R.DPLL_LEARN, R.DPLL_STATUS] s.mainUnlearnt s.mainOut := by
  refine sameBut_trans (sameBut_set (f := F.MEAS_STATUS_XO_MAIN_OK) (by decide) 0 _) ?_
  refine sameBut_trans (sameBut_set (f := F.MEAS_STATUS_MASTER_SPARE) (by decide) (b2n (s.on F.MEAS_STATUS_XO_SPARE_OK)) _) ?_
  exact sameBut_trans (sameBut_set (f := F.DPLL_LEARN_HOURS) (by decide) 0 _) (sameBut_set (f := F.DPLL_STATUS_HISTORY_VALID) (by decide) 0 _)

theorem State.get_mainOut_main (s : State) : s.mainOut.get F.MEAS_STATUS_XO_MAIN_OK = 0 := by
  unfold State.mainOut State.setB
  rw [State.get_set_apart (by decide), State.get_set_apart (by decide), State.get_set_apart (by decide), State.get_set_self (by decide), Nat.zero_mod]

theorem State.get_mainOut_master (s : State) : s.mainOut.get F.MEAS_STATUS_MASTER_SPARE = s.get F.MEAS_STATUS_XO_SPARE_OK := by
  unfold State.mainOut
  rw [State.get_set_apart (by decide), State.get_set_apart (by decide), State.get_setB_self (by decide) (by decide), State.get_eq_b2n_on rfl]

theorem State.get_mainOut_history (s : State) : s.mainOut.get F.DPLL_STATUS_HISTORY_VALID = 0 := State.get_set_self (by decide) _ _

theorem State.get_mainOut_hours (s : State) : s.mainOut.get F.DPLL_LEARN_HOURS = 0 := by
  unfold State.mainOut
  rw [State.get_set_apart (by decide), State.get_set_self (by decide), Nat.zero_mod]

theorem State.timer_mainOut {s : State} (stable : s.on F.MEAS_STATUS_OVEN_STABLE = true) : s.mainOut.timer .xoBack = some 0 := by
  show (s.when (s.on F.MEAS_STATUS_OVEN_STABLE) (State.start .xoBack)).timer .xoBack = some 0
  rw [stable]
  exact State.timer_start_self .xoBack s

/-- XO_MAIN back in service, but for the event. -/
def State.mainBack (s : State) : State :=
  (State.set F.MEAS_STATUS_XO_MAIN_OK 1 { s.stop .xoBack with spareWin := [], spareBad := 0 }).set F.MEAS_STATUS_MASTER_SPARE 0

theorem exec_xoMainReturn_returns {s : State} (absent : s.on F.MEAS_STATUS_XO_MAIN_OK = false)
    (stable : s.on F.MEAS_STATUS_OVEN_STABLE = true) (ran : s.ran .xoBack (1800 * sec) = true) :
    exec .xoMainReturn s = .next (s.mainBack.raise .meas 1 0xFFFF) := if_pos ⟨by simp [absent], stable, ran⟩

theorem exec_xoMainReturn_waits {s : State} (h : s.on F.MEAS_STATUS_XO_MAIN_OK = true ∨ s.on F.MEAS_STATUS_OVEN_STABLE = false ∨
    s.ran .xoBack (1800 * sec) = false) : exec .xoMainReturn s = .next s := by
  refine if_neg fun ⟨absent, stable, ran⟩ => ?_
  rcases h with e | e | e
  · simp [e] at absent
  · simp [e] at stable
  · simp [e] at ran

theorem State.sameBut_mainBack (s : State) :
    SameBut [R.MEAS_STATUS] { s.stop .xoBack with spareWin := [], spareBad := 0 } s.mainBack :=
  sameBut_trans (sameBut_set (f := F.MEAS_STATUS_XO_MAIN_OK) (by decide) 1 _) (sameBut_set (f := F.MEAS_STATUS_MASTER_SPARE) (by decide) 0 _)

theorem State.get_mainBack_main (s : State) : s.mainBack.get F.MEAS_STATUS_XO_MAIN_OK = 1 := by
  unfold State.mainBack
  rw [State.get_set_apart (by decide), State.get_set_self (by decide)]
  rfl

theorem State.get_mainBack_master (s : State) : s.mainBack.get F.MEAS_STATUS_MASTER_SPARE = 0 := State.get_set_self (by decide) _ _

/-! ### XO_SPARE and the safe clock (10 R389) -/

/-- XO_SPARE's presence and the safe clock's, which go together. -/
def State.spareTo (v : Nat) (s : State) : State := (s.set F.MEAS_STATUS_XO_SPARE_OK v).set F.SYN_STATUS_SAFE_GEN_OK v

theorem State.sameBut_spareTo (v : Nat) (s : State) : SameBut [R.MEAS_STATUS, R.SYN_STATUS] s (s.spareTo v) :=
  sameBut_trans (sameBut_set (f := F.MEAS_STATUS_XO_SPARE_OK) (by decide) v s) (sameBut_set (f := F.SYN_STATUS_SAFE_GEN_OK) (by decide) v _)

theorem State.get_spareTo_spare (v : Nat) (s : State) : (s.spareTo v).get F.MEAS_STATUS_XO_SPARE_OK = v % 2 :=
  (State.get_set_apart (f := F.SYN_STATUS_SAFE_GEN_OK) (by decide) v _).trans (State.get_set_self (by decide) _ _)

theorem State.get_spareTo_safe (v : Nat) (s : State) : (s.spareTo v).get F.SYN_STATUS_SAFE_GEN_OK = v % 2 := State.get_set_self (by decide) _ _

theorem exec_xoSpareLost_present {s : State} (present : s.on F.MEAS_STATUS_XO_SPARE_OK = true) :
    exec .xoSpareLost s = .next ((State.spareTo 0 { s with spareWin := [], spareBad := 0 }).raise .meas 2 0xFFFF) := if_pos present

theorem exec_xoSpareLost_absent {s : State} (absent : s.on F.MEAS_STATUS_XO_SPARE_OK = false) : exec .xoSpareLost s = .next s :=
  if_neg (by simp [absent])

/-! ### The oven (10 R388; 11 R435) -/

/-- The oven's state in OVEN_STABLE and, inverted, in WARMING. -/
def State.ovenTo (v : Nat) (s : State) : State := (s.set F.MEAS_STATUS_OVEN_STABLE v).set F.DPLL_STATUS_WARMING (1 - v)

theorem State.sameBut_ovenTo (v : Nat) (s : State) : SameBut [R.MEAS_STATUS, R.DPLL_STATUS] s (s.ovenTo v) :=
  sameBut_trans (sameBut_set (f := F.MEAS_STATUS_OVEN_STABLE) (by decide) v s) (sameBut_set (f := F.DPLL_STATUS_WARMING) (by decide) (1 - v) _)

theorem State.get_ovenTo_stable (v : Nat) (s : State) : (s.ovenTo v).get F.MEAS_STATUS_OVEN_STABLE = v % 2 :=
  (State.get_set_apart (f := F.DPLL_STATUS_WARMING) (by decide) (1 - v) _).trans (State.get_set_self (by decide) _ _)

theorem State.get_ovenTo_warming (v : Nat) (s : State) : (s.ovenTo v).get F.DPLL_STATUS_WARMING = (1 - v) % 2 :=
  State.get_set_self (by decide) _ _

theorem State.on_ovenTo_main (v : Nat) (s : State) : (s.ovenTo v).on F.MEAS_STATUS_XO_MAIN_OK = s.on F.MEAS_STATUS_XO_MAIN_OK :=
  (State.on_set_apart (f := F.DPLL_STATUS_WARMING) (by decide) (1 - v) _).trans
    (State.on_set_apart (f := F.MEAS_STATUS_OVEN_STABLE) (by decide) v s)

/-- The oven stable, but for the event: an XO_MAIN that is lost waits from now. -/
def State.ovenUp (s : State) : State :=
  State.ovenTo 1 { s with ovenSeen := true, timers := (s.when (!s.on F.MEAS_STATUS_XO_MAIN_OK) (State.start .xoBack)).timers }

theorem exec_ovenStableRise_again {s : State} (stable : s.on F.MEAS_STATUS_OVEN_STABLE = true) : exec .ovenStableRise s = .next s :=
  if_pos stable

theorem exec_ovenStableRise_rises {s : State} (warming : s.on F.MEAS_STATUS_OVEN_STABLE = false) :
    exec .ovenStableRise s = .next (s.ovenUp.when (!s.ovenSeen) (State.raise .meas 3 0xFFFF)) := by
  have main : ((s.set F.MEAS_STATUS_OVEN_STABLE 1).set F.DPLL_STATUS_WARMING 0).on F.MEAS_STATUS_XO_MAIN_OK = s.on F.MEAS_STATUS_XO_MAIN_OK :=
    State.on_ovenTo_main 1 s
  refine (if_neg (by simp [warming])).trans ?_
  rw [main]
  unfold State.ovenUp
  cases s.on F.MEAS_STATUS_XO_MAIN_OK <;> rfl

theorem State.sameBut_ovenUp (s : State) : SameBut [R.MEAS_STATUS, R.DPLL_STATUS] { s with ovenSeen := true, timers := s.ovenUp.timers } s.ovenUp :=
  State.sameBut_ovenTo 1 _

/-! ### The comparison of the crystals (10 R385, R386) -/

/-- The running average of a window as SPARE_OFFSET shows it, with no window out of place. -/
def State.averaged (w : List Int) (s : State) : State :=
  State.setI F.MEAS_SPARE_OFFSET_OFFSET (w.foldl (fun a b => a + b) 0 / (w.length : Int)) { s with spareWin := w, spareBad := 0 }

theorem exec_xoCompareWindow_early {s : State} (early : s.evalDue evCompare ms = false) (ratio : Int) :
    exec (.xoCompareWindow ratio) s = .next s := by
  show execXoCompareWindow ratio s = _
  simp [execXoCompareWindow, early]

section
variable {s : State} (due : s.evalDue evCompare ms = true) (ratio : Int)
include due

theorem exec_xoCompareWindow_due : exec (.xoCompareWindow ratio) s =
    (if s.on F.MEAS_STATUS_XO_SPARE_OK = false ∨ s.on F.MEAS_STATUS_XO_MAIN_OK = false then .next (s.evalMade evCompare)
      else if s.spareWin ≠ [] ∧ 2000000 < (ratio - s.getI F.MEAS_SPARE_OFFSET_OFFSET).natAbs then
        if 2 ≤ s.spareBad then .next (s.evalMade evCompare).xoMainLost
        else .next { s.evalMade evCompare with spareBad := s.spareBad + 1 }
      else .next ((s.evalMade evCompare).averaged ((ratio :: s.spareWin).take 1000))) := by
  show execXoCompareWindow ratio s = _
  simp only [execXoCompareWindow, due, State.when_true, Bool.not_true, Bool.false_eq_true, false_or, Bool.not_eq_true']
  rfl

theorem exec_xoCompareWindow_alone (alone : s.on F.MEAS_STATUS_XO_SPARE_OK = false ∨ s.on F.MEAS_STATUS_XO_MAIN_OK = false) :
    exec (.xoCompareWindow ratio) s = .next (s.evalMade evCompare) := (exec_xoCompareWindow_due due ratio).trans (if_pos alone)

section
variable (both : ¬(s.on F.MEAS_STATUS_XO_SPARE_OK = false ∨ s.on F.MEAS_STATUS_XO_MAIN_OK = false))
include both

theorem exec_xoCompareWindow_first (first : s.spareWin = []) :
    exec (.xoCompareWindow ratio) s = .next ((s.evalMade evCompare).averaged [ratio]) := by
  rw [exec_xoCompareWindow_due due, if_neg both, if_neg (fun far => far.1 first), first]
  rfl

theorem exec_xoCompareWindow_far (begun : s.spareWin ≠ []) (far : 2000000 < (ratio - s.getI F.MEAS_SPARE_OFFSET_OFFSET).natAbs) :
    exec (.xoCompareWindow ratio) s = (if 2 ≤ s.spareBad then .next (s.evalMade evCompare).xoMainLost
      else .next { s.evalMade evCompare with spareBad := s.spareBad + 1 }) := by
  rw [exec_xoCompareWindow_due due, if_neg both, if_pos ⟨begun, far⟩]

end

end

theorem State.sameBut_averaged (w : List Int) (s : State) :
    SameBut [R.MEAS_SPARE_OFFSET] { s with spareWin := w, spareBad := 0 } (s.averaged w) :=
  sameBut_set (f := F.MEAS_SPARE_OFFSET_OFFSET) (List.mem_singleton_self _) _ _

theorem State.get_averaged (w : List Int) (s : State) :
    (s.averaged w).get F.MEAS_SPARE_OFFSET_OFFSET = satInt 32 (w.foldl (fun a b => a + b) 0 / (w.length : Int)) :=
  State.get_setI_self (by decide) _ _

/-! ### The correction of ageing (10 R384; 11 R436) -/

theorem corrMax_pos : 0 < corrMax := by decide

theorem clampI_of_mem {lo hi v : Int} (low : lo ≤ v) (high : v ≤ hi) : clampI lo hi v = v := by
  unfold clampI
  rw [if_neg (Int.not_lt.2 low), if_neg (Int.not_lt.2 high)]

theorem clampI_of_le {lo hi v : Int} (h : lo ≤ hi) (high : hi ≤ v) : clampI lo hi v = hi := by
  unfold clampI
  rw [if_neg (by omega)]
  split <;> omega

theorem exec_ageingTick_early {s : State} (early : s.evalDue evAgeing ms = false) : exec .ageingTick s = .next s := if_pos (by simp [early])

section
variable {s : State} (due : s.evalDue evAgeing ms = true)
include due

theorem exec_ageingTick_spare (spare : s.on F.MEAS_STATUS_MASTER_SPARE = true) : exec .ageingTick s = .next (s.evalMade evAgeing) :=
  (if_neg (by simp [due])).trans (if_pos spare)

/-- The accumulator advances to `v`, MEAS_XO_CORR follows, and reaching a clamp is an event. -/
theorem exec_ageingTick_main (main : s.on F.MEAS_STATUS_MASTER_SPARE = false) {v : Int}
    (clamped : clampI (-corrMax) corrMax (s.corrAcc + s.getI F.MEAS_XO_AGEING_RATE) = v) :
    exec .ageingTick s = .next (State.when (v.natAbs == corrMax.natAbs && s.corrAcc != v) (State.raise .meas 6 0xFFFF)
      (State.set48 R.MEAS_XO_CORR_LO R.MEAS_XO_CORR_HI (roundDiv v corrUnit) { s.evalMade evAgeing with corrAcc := v })) := by
  subst clamped
  exact (if_neg (by simp [due])).trans (if_neg (by simp [main]))

end

theorem exec_ageingLearn_learns {s : State} (enabled : s.on F.DPLL_CTRL_AGE_LEARN = true) (history : s.on F.DPLL_STATUS_HISTORY_VALID = true)
    (groom : s.groomUp = true) (day : 86400000 ≤ s.dpll.lockedMs) (slope : Int) :
    exec (.ageingLearn slope) s = .next (State.setI F.MEAS_XO_AGEING_RATE (s.getI F.MEAS_XO_AGEING_RATE + slope)
      { s with dpll := { s.dpll with lockedMs := s.dpll.lockedMs % 86400000 } }) := if_pos ⟨enabled, history, groom, day⟩

theorem exec_ageingLearn_waits {s : State} (h : s.on F.DPLL_CTRL_AGE_LEARN = false ∨ s.on F.DPLL_STATUS_HISTORY_VALID = false ∨
    s.groomUp = false ∨ s.dpll.lockedMs < 86400000) (slope : Int) : exec (.ageingLearn slope) s = .next s := by
  refine if_neg fun ⟨enabled, history, groom, day⟩ => ?_
  rcases h with e | e | e | e
  · simp [e] at enabled
  · simp [e] at history
  · simp [e] at groom
  · omega

/-! ### Settled -/

/-- Settles O47: each row by the crystal, the oven or the evaluation that it finds, and what it leaves by the registers that its change writes. -/
theorem crystalsAreWatchedAndCorrected : Obligations.CrystalsAreWatchedAndCorrected := by
  unfold Obligations.CrystalsAreWatchedAndCorrected
  intro s ratio slope
  refine ⟨fun present => ?mainLost, fun absent => ⟨?mainAbsent, fun h => exec_xoMainReturn_waits (.inr h), fun stable ran => ?mainReturn⟩,
    fun present => ?spareLost, exec_xoSpareLost_absent, ?spareReturn, exec_ovenStableRise_again, fun warming => ?rise, ?fall,
    fun early => exec_xoCompareWindow_early early ratio, fun due => ⟨exec_xoCompareWindow_alone due ratio, fun main spare => ?compare⟩,
    exec_ageingTick_early, fun due => ⟨exec_ageingTick_spare due, fun main within => ?ages, fun main above below => ?clamps⟩,
    fun enabled history groom day => ?learns, fun h => exec_ageingLearn_waits h slope⟩
  case mainLost =>
    exact ⟨s.mainOut, congrArg Host.Outcome.next (State.xoMainLost_present present), s.sameBut_mainOut, s.get_mainOut_main, s.get_mainOut_master,
      s.get_mainOut_history, s.get_mainOut_hours, rfl, State.timer_mainOut, exec_xoMainReturn_waits (.inl present)⟩
  case mainAbsent => exact congrArg Host.Outcome.next (State.xoMainLost_absent absent)
  case mainReturn =>
    exact ⟨s.mainBack, exec_xoMainReturn_returns absent stable ran, s.sameBut_mainBack, s.get_mainBack_main, s.get_mainBack_master,
      State.timer_stop_self .xoBack s⟩
  case spareLost =>
    exact ⟨_, exec_xoSpareLost_present present, State.sameBut_spareTo 0 _, State.get_spareTo_spare 0 _, State.get_spareTo_safe 0 _⟩
  case spareReturn => exact ⟨s.spareTo 1, rfl, s.sameBut_spareTo 1, s.get_spareTo_spare 1, s.get_spareTo_safe 1⟩
  case rise =>
    refine ⟨s.ovenUp, s.sameBut_ovenUp, State.get_ovenTo_stable 1 _, State.get_ovenTo_warming 1 _, fun present => ?_, fun absent => ?_,
      fun seen => ?_, fun new => ?_⟩
    · show (s.when (!s.on F.MEAS_STATUS_XO_MAIN_OK) (State.start .xoBack)).timers = s.timers
      rw [present, Bool.not_true, State.when_false]
    · show (s.when (!s.on F.MEAS_STATUS_XO_MAIN_OK) (State.start .xoBack)).timer .xoBack = some 0
      rw [absent, Bool.not_false, State.when_true, State.timer_start_self]
    · rw [exec_ovenStableRise_rises warming, seen, Bool.not_true, State.when_false]
    · rw [exec_ovenStableRise_rises warming, new, Bool.not_false, State.when_true]
  case fall =>
    exact ⟨(s.ovenTo 0).stop .xoBack, rfl, sameBut_stop (s.sameBut_ovenTo 0) .xoBack, s.get_ovenTo_stable 0, s.get_ovenTo_warming 0,
      State.timer_stop_self .xoBack _⟩
  case compare =>
    have both : ¬(s.on F.MEAS_STATUS_XO_SPARE_OK = false ∨ s.on F.MEAS_STATUS_XO_MAIN_OK = false) := by simp [main, spare]
    refine ⟨fun first => ?_, fun begun far => ⟨fun few => ?_, fun third => ?_⟩⟩
    · have shown := State.get_averaged [ratio] (s.evalMade evCompare)
      rw [List.foldl_cons, List.foldl_nil, List.length_singleton, Int.zero_add, Nat.cast_one, Int.ediv_one] at shown
      exact ⟨_, exec_xoCompareWindow_first due ratio both first, State.sameBut_averaged _ _, shown⟩
    · exact (exec_xoCompareWindow_far due ratio both begun far).trans (if_neg (Nat.not_le.2 few))
    · exact (exec_xoCompareWindow_far due ratio both begun far).trans (if_pos third)
  case ages =>
    have pos := corrMax_pos
    rw [exec_ageingTick_main due main (clampI_of_mem (by omega) (by omega)), beq_eq_false_iff_ne.2 (Nat.ne_of_lt within), Bool.false_and,
      State.when_false]
  case clamps =>
    have pos := corrMax_pos
    have moved : (s.corrAcc != corrMax) = true := bne_iff_ne.2 (Int.ne_of_lt below)
    rw [exec_ageingTick_main due main (clampI_of_le (by omega) above), beq_self_eq_true, moved, Bool.true_and, State.when_true]
  case learns =>
    exact ⟨_, exec_ageingLearn_learns enabled history groom day slope, State.get_setI_self (by decide) _ _,
      sameBut_set (f := F.MEAS_XO_AGEING_RATE) (List.mem_singleton_self _) _ _⟩

end Sys2Proof.Machine
end
